-- ==== Sys2Proof/Word.lean ====
section
/-! DEFINITION. The plainest data types of the model: bytes, flits, tick numbers and the sparse map type
in which every sparsely filled structure of the device is held (registers, memories, tables). -/

namespace Sys2Proof

/-- One byte. -/
abbrev Byte := BitVec 8

/-- One 64-bit register or host-memory word (R416). -/
abbrev Word := BitVec 64

/-- One 256-bit flit as it crosses a lane (R65, R72). -/
abbrev Flit := BitVec 256

/-- A tick number, kept below 2^48 by the operations that make one (R6). -/
abbrev Tick := Nat

/-- A sparse map: (key, value) pairs, keys strictly rising. -/
abbrev FMap (α : Type) := List (Nat × α)

/-! ## What the commands carry -/

/-- A Svetre-coded link that trains through the states of Table 3-1: a port (R68), the seam (R308), the cascade
ports up and down (R337). -/
inductive Link where
  | port (p : Fin 16)
  | seam
  | up
  | down
  deriving DecidableEq, Repr

/-- Lanes of a link: two on a port, four on the seam and on a cascade port (R64, R308, R337). -/
def Link.lanes : Link → Nat
  | .port _ => 2
  | .seam | .up | .down => 4

/-- The watched supply rails (Table 13-1, Table 17-2). -/
inductive Rail where
  | core | sds | io | aon
  deriving DecidableEq, Repr

/-- What the device's DMA finds in host memory for one command (R427): the bytes it reads at P0, none where the
read ends in Unsupported Request, Completer Abort or a poisoned completion, and whether its result write succeeds. -/
structure Dma where
  rd : Option (List Byte) := some []
  wrOk : Bool := true
  deriving DecidableEq, Repr

/-- A command slot as fetched from a ring (Table 16-4). `rsvd` says that a reserved bit of it is not 0. -/
structure CmdSlot where
  opcode : BitVec 8
  cid : BitVec 16
  p0 : BitVec 64
  p1 : BitVec 64
  rsvd : Bool := false
  deriving DecidableEq, Repr

/-- The registers of configuration space that the model holds, by name: identity, Command, Device and Link Capabilities, Link Status,
PMCSR, MSI-X Message Control, AER status and masks, SR-IOV (R409, R410; layout: notes/assumptions/114.md). -/
inductive CfgReg where
  | vendorId | deviceId | command | maxPayload | linkCap | linkStatus | powerState | msixControl
  | aerUncStatus | aerUncMask | aerCorStatus | aerCorMask
  | sriovControl | numVfs | totalVfs | firstVfOffset | vfStride
  deriving DecidableEq, Repr

/-- What a host write names: an offset in the function's BAR0, or a register of its configuration space. -/
inductive BusAddr where
  | bar (off : BitVec 26)
  | config (r : CfgReg)
  deriving DecidableEq, Repr

/-- What the world shows the device at a tick boundary: estimated power in 0.1 W and Tj in °C (R386), the
functions for which a completion write fails at this boundary (R427), and the codewords that each port's decoders have corrected since the
boundary before (Table 3-6). -/
structure Boundary where
  power : Nat := 0
  tj : Nat := 25
  cplFail : List (Fin 16) := []
  fecCorr : List (Fin 16 × Nat) := []
  deriving DecidableEq, Repr

/-- The windows a calibration round measures in one cabinet n = 32g + c (R221): lowest and highest code at which
every reference reads right, for MREF and RREF; none where no window is found (R225). -/
structure CabCal where
  cab : Nat
  mref : Option (Nat × Nat)
  rref : Option (Nat × Nat)
  deriving DecidableEq, Repr

namespace Machine

/-- The 496 cells of a row of the medium (R131), 1 for the low-resistance state: cells A and B of the 160 pairs, and the digital word in
three parts: bits [139:0], the check field BCH and ROW_TAG (Table 5-3). -/
structure RowCells where
  a : BitVec 160 := 0
  b : BitVec 160 := 0
  dig : BitVec 140 := 0
  check : BitVec 19 := 0
  tag : BitVec 17 := 0
  deriving DecidableEq, Repr

end Machine

/-- What the verify reads of a write find (R211): for each row written, and for each of its verify reads, how far the cells closest to
the read reference lie from it, in codes. A cell nearer than the verify margin fails. Reads not given find every cell far from it. -/
structure WriteRes where
  rows : List (List (List Nat)) := []
  deriving DecidableEq, Repr

/-- What a scrub read of one row finds (R227, R229): cells near the read reference or beyond it with their distance in codes, negative
where the cell reads wrong at RREF, and the contents that a misdirected write has left in the row (R133). A cell of an SRAM row is a bit of
its eight 72-bit words (R136). -/
structure ScrubRead where
  cells : List (Nat × Int) := []
  held : Option Machine.RowCells := none
  deriving DecidableEq, Repr

/-- What the scrub finds of one store line (R248): cells wrong at nominal, weak cells, whether the nominal decode fails, and the errors and
erasures of the decode that reads at five offsets. -/
structure LineRead where
  errors : Nat := 0
  weak : Nat := 0
  uncorr : Bool := false
  errors5 : Nat := 0
  erasures : Nat := 0
  deriving DecidableEq, Repr

/-- A change of one of the fields whose write re-times the device (R45). -/
inductive TickSetting where
  | src (v : BitVec 2)
  | period (v : BitVec 21)
  | guard (v : BitVec 7)
  | latency (v : BitVec 5)
  deriving DecidableEq, Repr

/-- Why a port leaves UP (R70). -/
inductive DownCause where
  | clockLost | codewordLost | uncorrectable
  deriving DecidableEq, Repr

/-- One record of a DIGEST message (R318). -/
structure GroupRec where
  hash : BitVec 32
  count : Nat
  anom : BitVec 4
  deriving DecidableEq, Repr

/-- One record of a CHDIGEST message (R321). -/
structure ChanRec where
  hash : BitVec 32
  count : Nat
  slot : Nat
  deriving DecidableEq, Repr

/-- The content of PAIR_HELLO (Table 11-1). -/
structure PairHello where
  imageId : BitVec 32
  role : BitVec 2
  admitOpen : Bool
  tick : Tick
  dly : Nat
  deriving DecidableEq, Repr

/-- A mirrored operation (Table 11-4). `handle`: the channel handle the leader chose for a CHN_CREATE, else 0 (R105). -/
inductive MirrorOp where
  | command (f : Fin 16) (c : CmdSlot) (d : Dma) (handle : BitVec 16)
  | quota (slot : BitVec 8) (hi : Bool) (v : BitVec 64)
  | site (n : BitVec 12) (v : BitVec 64)
  | release (rel : Bool) (s : BitVec 5)
  deriving DecidableEq, Repr

/-- The parts of bulk synchronisation data (R329). `holds`: what the target holds: its tables with their descriptors and digests, and the
CRC-64 of each store block. -/
inductive SyncItem where
  | table (t : Fin 64) (words : List (BitVec 64)) (mask : BitVec 640)
  | dropTable (t : Fin 64)
  | clearTable (t : Fin 64)
  | entry (t : Fin 64) (id rank dref : Nat) (value care : BitVec 640)
  | clearBlock (b : Fin 256)
  | line (l : BitVec 20) (v : BitVec 512)
  | clearChannels
  | channel (slot : BitVec 8) (gen owner : Nat) (bytes : List Byte)
  | site (n : BitVec 12) (v : BitVec 64)
  | holds (tables : List (Fin 64 × List (BitVec 64) × BitVec 640 × BitVec 64)) (blocks : List (BitVec 64))
  deriving DecidableEq, Repr

/-- A LOOKUP token (Table 12-1). -/
structure Token where
  origin : Nat
  tok : Nat
  tbl : Nat
  width : Nat
  ptick : Nat
  unc : Bool := false
  deg : Bool := false
  found : Bool := false
  seen : Nat := 0
  wraps : Nat := 0
  entry : Nat := 0
  rank : Nat := 0
  member : Nat := 0
  dref : Nat := 0
  count : Nat := 0
  visited : Nat := 0
  key : BitVec 640
  deriving DecidableEq, Repr

/-- What a JOIN_REQ tells the coordinator (R352), and what requester 2 reads for its checks: the cascaded tables of the device that joins
with their descriptors, and CSC_SLICE, INJECT and CSC_TOKSLOT of every member but the coordinator, the one that joins included. -/
structure JoinInfo where
  member : Nat
  ring : BitVec 16
  req2Fenced : Bool
  tables : List (Fin 64 × List (BitVec 64) × BitVec 640) := []
  slices : List (Nat × Fin 64 × BitVec 24 × BitVec 24) := []
  inject : List (Nat × BitVec 16) := []
  tokslot : List (Nat × Fin 8 × BitVec 20) := []
  deriving DecidableEq, Repr

/-- What the notice names (R349): a link lost between members, ticks missed, a member's BYE, a member's wish to join. -/
inductive Notice where
  | lost (m : Fin 16)
  | bye (m : Fin 16)
  | join (j : JoinInfo)
  deriving DecidableEq, Repr

/-- The wake events the always-on detectors may see in one cycle (Table 14-2). -/
structure WakeSeen where
  act : BitVec 16 := 0
  pat : BitVec 16 := 0
  seam : Bool := false
  pcie : Bool := false
  deriving DecidableEq, Repr

end Sys2Proof
end

