-- ==== Sys2Proof/Syntax.lean ====
section
/-! DEFINITION. The commands of the block: one constructor of `Instr` for each of the 206 rows of
spec/opcode_table.json, with what the outside world delivers in it (operand types: Sys2Proof/Word.lean) (a flit, a register value, host memory
read by DMA, a measured quantity). -/

namespace Sys2Proof

/-- The commands of the block, in the order of spec/opcode_table.json. -/
inductive Instr where
  -- reset and boot (13_reset_boot.md, 17_electrical.md)
  | resetLAssert (lowNs : Nat)
  | resetLRelease (cal : List CabCal)
  | powerDetectorTrip (r : Rail) (lowNs : Nat)
  | railsInRange (cal : List CabCal)
  | startLimitExpiry
  | bootEnd
  | bootWrite (cal : List CabCal)
  | bootWait
  | bootWaitExpiry
  | bootApply
  | bootSeal
  | bootLedgerClear (v : BitVec 64)
  -- the tick (02_tick_schedule.md)
  | tickBoundary (b : Boundary)
  | admissionClose
  | tickReferenceEdge
  | missedEdge
  | tickSourceMissing
  | tickMarker (l : Link) (f : Flit) (p : Nat)
  | tickSettingWrite (t : TickSetting)
  | retimingApply
  -- Svetre links, records and queues (03_record_links.md)
  | dataFlit (p : Fin 16) (f : Flit)
  | recordCommit (p : Fin 16)
  | hello (l : Link) (f : Flit)
  | credit (l : Link) (f : Flit)
  | sync (l : Link) (f : Flit)
  | align (l : Link) (lane : Nat) (f : Flit)
  | reservedLinkFlit (l : Link) (f : Flit)
  | uncorrectableCodeword (l : Link) (lane ordinal : Nat)
  | linkSignalDetect (l : Link)
  | codewordLock (l : Link)
  | laneAlignment (l : Link) (skewNs : Nat)
  | helloTimeout (l : Link)
  | linkDown (l : Link) (why : DownCause)
  | prtRetrain (p : Fin 16)
  | prtFlush (p : Fin 16)
  | prtEnWrite (p : Fin 16) (en : Bool)
  | prtSelftestStart (p : Fin 16)
  | prtSelftestDone (p : Fin 16) (corrected doubles : Nat)
  | prtSelftestEnd (p : Fin 16)
  -- search, verdicts, captures, control messages
  | searchSlot
  | verdictRelease (p : Fin 16)
  | captureTransmit (p : Fin 16)
  | controlCopySend (p : Fin 16)
  -- channels (04_channels_keys.md)
  | chnCreate (d : Dma)
  | chnDestroy
  | channelSlotFree (slot : BitVec 8)
  | chnQuotaWrite (f : Fin 16) (slot : BitVec 8) (hi : Bool) (v : BitVec 64)
  | channelStall (slot : BitVec 8)
  -- tables and edits (06_table_edits.md)
  | tblCreate (d : Dma)
  | tblDestroy
  | tableDestroyComplete (t : Fin 64)
  | editBegin
  | editCommit
  | groupCommit (t : Fin 64)
  | commitRelease (t : Fin 64)
  | editAbort
  | editLeaseExpiry (t : Fin 64)
  | tblInsert (d : Dma)
  | tblDelete
  | tblModify (d : Dma)
  | vestWaitExpiry
  | tblRead (d : Dma)
  | tblFind (d : Dma)
  | tblNext (d : Dma)
  | rowStateAdvance
  | migration (t : Fin 64) (id : BitVec 24) (w : WriteRes)
  | relocation (t : Fin 64) (id : BitVec 24) (w : WriteRes)
  | rowFlip
  | rowClear (w : WriteRes)
  | baySplit (g : Fin 8) (bay : Nat)
  | bayMerge (g : Fin 8) (bay sibling : Nat)
  | learnPersist (t : Fin 64) (id : BitVec 24)
  | tallyWindowWrite (counter : BitVec 20) (v : BitVec 32)
  | tallyRead
  | tallyWrite
  | tblgLossNext
  -- care of the medium (07_medium_care.md)
  | wearBalanceSave
  | calibrationRound (cal : List CabCal)
  | curCalGo (cal : List CabCal)
  | histClear
  | curCabFence (cab : BitVec 8)
  | curCabUnfence (cab : BitVec 8)
  | cabinetCheckDone (cal : CabCal)
  | scrubPass (reads : List (Nat × ScrubRead)) (store : List (BitVec 20 × LineRead))
  | scrubQueueRead (r : ScrubRead)
  | refresh (w : WriteRes)
  | selfSearch (t : Fin 64) (id : BitVec 24) (falseMiss : Bool)
  | sweepPeriodEnd
  | digestSave (g : Fin 8) (x : Nat)
  | curSelftestGo
  | selftestRotation (g : Fin 8)
  | drawerSelftest (g : Fin 8) (bad : List (BitVec 11)) (searchesOk : Bool)
  | curRetireGo
  | drawerRetirementDone (g : Fin 8)
  | curFulltestGo
  | fulltestComplete (found : List (Nat × List (BitVec 11) × Bool)) (missed : List (Fin 64 × BitVec 24)) (cal : List CabCal)
  | restoreReq (t : Fin 64) (id : BitVec 24) (sameDesc : Bool)
  | restoreAns (t : Fin 64) (id : BitVec 24) (rec : Option (List Byte))
  -- associated data (08_wardrobe.md)
  | adataWrite (d : Dma)
  | adataRead (d : Dma)
  | wrdOpInval
  | wrdOpClean
  | wrdOpFlush
  | wrdPinEn (i : Fin 16) (en : Bool)
  | pinLoadDone (i : Fin 16)
  | wrdLockWrite (v : BitVec 16)
  | stagingWriteback (w : WriteRes)
  -- sites and return path (09_site_return_path.md)
  | siteWrite (n : BitVec 12) (v : BitVec 64) (size : Nat) (upper : Bool)
  | rptAgeing
  | rptStaticWrite (tag : BitVec 24) (port : BitVec 4)
  | rptStaticRemove (tag : BitVec 24)
  | rptStaticInvalid (op : BitVec 2)
  | rptShadowWrite (w : BitVec 12) (v : BitVec 64)
  | rptShadowSet (bucket : BitVec 14) (digest : BitVec 16)
  | shadowPass
  | rptSearch (d : Dma)
  | rptNext (d : Dma)
  | rptFlushByPort (d : Dma)
  | ctlSend (d : Dma)
  -- the maintenance port (10_maintenance_fencing.md)
  | maintenanceRequest (r : Fin 16)
  | breakPoint (drop : Bool)
  | mntPrioWrite (r : Fin 16) (v : BitVec 3)
  | starvation (r : Fin 16)
  | watchdogExpiry
  | mntFence (r : Fin 16)
  | mntUnfence (r : Fin 16)
  -- the seam (11_seam_pairing.md)
  | pairHello (h : PairHello)
  | bye
  | digest (f : Flit)
  | chdigest (f : Flit)
  | lockReq (t : Fin 64) (group : BitVec 16) (f : Fin 16)
  | lockAns (t : Fin 64) (grant : Bool)
  | mirror (id : Nat) (op : MirrorOp) (commitTick : Option Tick)
  | staged (id : Nat) (handle : BitVec 16)
  | ready (id : Nat)
  | refuse (id : Nat) (status : BitVec 8)
  | propose (id : Nat) (k : BitVec 48)
  | agree (id : Nat) (k : BitVec 48)
  | defer (id : Nat)
  | abort (id : Nat)
  | syncBegin
  | syncData (i : SyncItem)
  | syncEnd
  | join (j : BitVec 48)
  | seamJoin
  | seamTicksMissed
  | seamDetachWrite
  | seamReleaseWrite (rel : Bool) (s : BitVec 5)
  -- the cascade (12_cascade.md)
  | lookupToken (down : Bool) (flits : List Flit)
  | learnToken (flits : List Flit)
  | tallyToken (flits : List Flit)
  | cascadeMerge (tok : BitVec 12)
  | notice (n : Notice)
  | cscPropose (live : BitVec 16) (k : BitVec 48)
  | ack (m : Fin 16)
  | commit
  | joinReq (j : JoinInfo)
  | cscBye (m : Fin 16)
  | cscLeave
  | cscJoin
  | cscTicksMissed (l : Link)
  | membershipApply
  | cscSliceWrite (t : Fin 64) (lo hi : BitVec 24)
  -- dormancy (14_dormancy.md)
  | idleTimerExpiry
  | dormancyGating (cal : List CabCal)
  | wakeDetect (w : WakeSeen) (dormantS : Nat) (cal : List CabCal)
  -- the attached configuration memory (15_config_memory.md)
  | ptRead
  | ptWrite
  | ptStatus
  | ptInvalid
  | carePass (marginDiff : List Nat)
  | logWrite
  | spiWriteTimeout
  -- host interface (16_host_events.md)
  | flr (f : Fin 16)
  | perstL (low : Bool)
  | pcieLinkChange (l : Option (BitVec 3 × BitVec 3))
  | aerError (f : Fin 16) (unc : Bool) (bit : BitVec 5)
  | cmdTailWrite (f : Fin 16) (v : BitVec 64) (slots : List (List Byte))
  | queEnWrite (f : Fin 16) (cpl : Bool) (en : Bool)
  | commandDispatch
  | nop
  | capPop (f : Fin 16) (q : Fin 8) (size : Nat)
  | evqPop (f : Fin 16) (size : Nat)
  | capqIdleExpiry (q : Fin 8)
  | evqIdleExpiry
  | idleUsWrite (q : Option (Fin 8)) (v : BitVec 16)
  | holdoffExpiry (v : Fin 64)
  | evtPendClear (n : BitVec 10)
  | registerWrite (f : Fin 16) (a : BusAddr) (size : Nat) (v : BitVec 64)
  -- the TAP (17_electrical.md)
  | extest
  | idcode
  | samplePreload
  | highz
  | clamp
  | extestPulse
  | extestTrain
  | fuseRead
  | fuseProg (v : BitVec 64)
  | bypass (code : BitVec 8)
  -- rows the table adds at its end
  | linkTrainingTimeout
  | unwatchedRailInRange (cal : List CabCal)
  | pageProgramDone
  | alignTransmit (l : Link) (lane : Nat)
  | wearBalanceEarn
  | reservedSeamMessage (f : Flit)
  | tapReset
  deriving DecidableEq, Repr

end Sys2Proof
end

