-- ==== Sys2Proof/Config.lean ====
section
/-! DEFINITION. What the manual leaves open, as constants without a body: nothing in Lean can find a value of them. -/

namespace Sys2Proof

/-- The n-th free value of a run: every choice and every value the manual leaves open is drawn from here
(which free group number is taken, which free drawer, in which slot of its window a lookup is searched, the
byte that a power loss caught half clocked). Nothing constrains it (notes/assumptions/3.md). -/
opaque Config.free : Nat → Nat

/-- The check byte of the (72,64) Hamming SECDED code over a 64-bit word. R85 names the code and gives no
matrix, so the matrix is open (notes/assumptions/4.md). -/
opaque Config.secded : BitVec 64 → BitVec 8

/-- The JEP106 code assigned to Umazen Semiconductor, bits [11:1] of IDCODE (R452 writes it as x). -/
opaque Config.jep106 : BitVec 11

/-- The vendor ID that the PCI-SIG assigned to Umazen Semiconductor (R409 gives no number). -/
opaque Config.vendorId : BitVec 16

/-- The preset of CRC-64. R233, R316 and R329 name the ECMA-182 polynomial and give neither the preset, the order of the bits nor what
is added at the end (notes/assumptions/7.md). -/
opaque Config.crcInit : BitVec 64

/-- What CRC-64 adds at its end (notes/assumptions/7.md). -/
opaque Config.crcLast : BitVec 64

/-- Whether the bits of each byte enter CRC-64 with the lowest first (notes/assumptions/7.md). -/
opaque Config.crcLow : Bool

/-- The 19 check bits of the shortened BCH code over the 477 information bits of a row. R133 names the code and gives no generator
polynomial (notes/assumptions/4.md). -/
opaque Config.bch : BitVec 477 → BitVec 19

/-- How many descriptor rows, beside the drift history's, a cabinet has. R128, R212, R215, R224 and R233 say what they hold and no rule
says how many there are (notes/assumptions/117.md). -/
opaque Config.descRows : Nat

/-- How many check cells of a store line differ between two contents. R248 says what its check code corrects and names no code
(notes/assumptions/8.md). -/
opaque Config.lineCells : BitVec 512 → BitVec 512 → Nat

/-- What a read of store line l other than a lookup's fetch gives while the line is uncorrectable. R248 fixes the fetch's value
alone (notes/assumptions/8.md). -/
opaque Config.badLine : Nat → BitVec 512

end Sys2Proof
end

