-- ==== Sys2Proof/Machine/FMap.lean ====
section
/-! DEFINITION. Operations on the sparse maps of the model. Unlisted keys read as a default that the caller names;
writing that default removes the key, so that equal contents are equal lists. -/

namespace Sys2Proof

/-- The value listed at `k`. -/
def fget {α : Type} : FMap α → Nat → Option α
  | [], _ => none
  | (k', v) :: t, k => if k' = k then some v else fget t k

/-- Put `v` at `k`, keys staying in rising order. -/
def fput {α : Type} : FMap α → Nat → α → FMap α
  | [], k, v => [(k, v)]
  | (k', v') :: t, k, v =>
    if k < k' then (k, v) :: (k', v') :: t
    else if k' = k then (k, v) :: t
    else (k', v') :: fput t k v

/-- Remove `k`. -/
def fdel {α : Type} : FMap α → Nat → FMap α
  | [], _ => []
  | (k', v) :: t, k => if k' = k then fdel t k else (k', v) :: fdel t k

/-- The value at `k`, `d` where none is listed. -/
def fgetD {α : Type} (m : FMap α) (k : Nat) (d : α) : α := (fget m k).getD d

/-- Write `v` at `k` in a map whose unlisted entry at `k` reads `d`. -/
def fset {α : Type} [DecidableEq α] (m : FMap α) (k : Nat) (d v : α) : FMap α :=
  if v = d then fdel m k else fput m k v

/-- The keys rise strictly: the canonical form. -/
def fsorted {α : Type} : FMap α → Bool
  | [] => true
  | [_] => true
  | (a, _) :: (b, w) :: t => decide (a < b) && fsorted ((b, w) :: t)

end Sys2Proof
end

