-- ==== Sys2Proof/Machine/Regs.lean ====
section
/-! DEFINITION. The register fields of the device, one constant for each field of the register tables of spec/
(Tables 2-1, 3-6, 4-6, 5-9, 6-7, 7-3, 8-1, 9-3, 10-5, 11-5, 12-2, 13-6, 14-3, 15-4, 16-3, 16-11, 16-12): its place,
its access code (Table 0-2) and its reset value. Where a table gives no reset value ("medium", "directory", "aon",
"fused", "image"), the constant holds 0 and the field is computed from the state that holds it. -/

namespace Sys2Proof.Machine

/-- The access codes of Table 0-2 (R7). -/
inductive Access where
  | ro | rw | w1c | w1s | wo | sl
  deriving DecidableEq, Repr

/-- A register field: BAR0 byte offset of its register, lowest bit, width, access code, reset value; up to two
indices with their strides in BITS and their counts; `own`: a write to it has a row of its own in the opcode table;
`view`: it is computed from other state when read, and nothing is stored for it; `rsts`: reset values by index. -/
structure Field where
  base : Nat
  lo : Nat
  width : Nat
  acc : Access
  rst : Nat := 0
  st1 : Nat := 0
  n1 : Nat := 1
  st2 : Nat := 0
  n2 : Nat := 1
  own : Bool := false
  view : Bool := false
  rsts : List Nat := []
  deriving DecidableEq, Repr

namespace Reg

/-- TCK_CTRL.SRC (R62). -/
def TCK_CTRL_SRC : Field := { base := 0x10000, lo := 0, width := 2, acc := .rw, own := true }
/-- TCK_CTRL.ADMIT_EN (R62). -/
def TCK_CTRL_ADMIT_EN : Field := { base := 0x10000, lo := 2, width := 1, acc := .rw, rst := 1 }
/-- TCK_CTRL.LOSS_ACTION (R62). -/
def TCK_CTRL_LOSS_ACTION : Field := { base := 0x10000, lo := 3, width := 1, acc := .rw }
/-- TCK_CTRL.LOSS_LIMIT (R62). -/
def TCK_CTRL_LOSS_LIMIT : Field := { base := 0x10000, lo := 4, width := 4, acc := .rw, rst := 4 }
/-- TCK_CTRL.TICK_OUT_EN (R62). -/
def TCK_CTRL_TICK_OUT_EN : Field := { base := 0x10000, lo := 8, width := 1, acc := .rw }
/-- TCK_PERIOD.PERIOD (R62). -/
def TCK_PERIOD_PERIOD : Field := { base := 0x10008, lo := 0, width := 21, acc := .rw, rst := 128, own := true }
/-- TCK_GUARD.GUARD (R62). -/
def TCK_GUARD_GUARD : Field := { base := 0x10010, lo := 0, width := 7, acc := .rw, rst := 16, own := true }
/-- TCK_LATENCY.L (R62). -/
def TCK_LATENCY_L : Field := { base := 0x10018, lo := 0, width := 5, acc := .rw, rst := 16, own := true }
/-- TCK_LATENCY.LMIN (R62). -/
def TCK_LATENCY_LMIN : Field := { base := 0x10018, lo := 8, width := 5, acc := .ro }
/-- TCK_LATENCY.SPAN (R62). -/
def TCK_LATENCY_SPAN : Field := { base := 0x10018, lo := 16, width := 5, acc := .ro, rst := 1 }
/-- TCK_MEAS.PMEAS (R62). -/
def TCK_MEAS_PMEAS : Field := { base := 0x10020, lo := 0, width := 21, acc := .ro }
/-- TCK_MEAS.OFFSET (R62). -/
def TCK_MEAS_OFFSET : Field := { base := 0x10020, lo := 24, width := 8, acc := .ro }
/-- TCK_MEAS.STRETCH (R62). -/
def TCK_MEAS_STRETCH : Field := { base := 0x10020, lo := 32, width := 16, acc := .ro }
/-- TCK_STATUS.LOCKED (R62). -/
def TCK_STATUS_LOCKED : Field := { base := 0x10028, lo := 0, width := 1, acc := .ro }
/-- TCK_STATUS.LOST (R62). -/
def TCK_STATUS_LOST : Field := { base := 0x10028, lo := 1, width := 1, acc := .ro }
/-- TCK_STATUS.ADMIT_OPEN (R62). -/
def TCK_STATUS_ADMIT_OPEN : Field := { base := 0x10028, lo := 2, width := 1, acc := .ro }
/-- TCK_STATUS.BLOCK (R62). -/
def TCK_STATUS_BLOCK : Field := { base := 0x10028, lo := 3, width := 4, acc := .ro, rst := 1 }
/-- TCK_STATUS.CFG_ERR (R62). -/
def TCK_STATUS_CFG_ERR : Field := { base := 0x10028, lo := 7, width := 1, acc := .w1c }
/-- TCK_PRESET.VALUE (R62). -/
def TCK_PRESET_VALUE : Field := { base := 0x10030, lo := 0, width := 48, acc := .rw }
/-- TCK_PRESET.ARM (R62). -/
def TCK_PRESET_ARM : Field := { base := 0x10030, lo := 63, width := 1, acc := .rw }
/-- TCK_ACT.ACT_FACTOR (R62). -/
def TCK_ACT_ACT_FACTOR : Field := { base := 0x10038, lo := 0, width := 4, acc := .rw, rst := 2 }
/-- TCK_ACT.CAP (R62). -/
def TCK_ACT_CAP : Field := { base := 0x10038, lo := 8, width := 24, acc := .ro }
/-- TCK_AHEAD.AHEAD_MAX (R62). -/
def TCK_AHEAD_AHEAD_MAX : Field := { base := 0x10040, lo := 0, width := 16, acc := .rw, rst := 64 }
/-- TCK_CNT_LATE.COUNT (R62). -/
def TCK_CNT_LATE_COUNT : Field := { base := 0x10080, lo := 0, width := 48, acc := .w1c }
/-- TCK_CNT_EARLY.COUNT (R62). -/
def TCK_CNT_EARLY_COUNT : Field := { base := 0x10088, lo := 0, width := 32, acc := .w1c }
/-- TCK_CNT_MISSED.COUNT (R62). -/
def TCK_CNT_MISSED_COUNT : Field := { base := 0x10090, lo := 0, width := 32, acc := .w1c }
/-- TCK_CNT_AHEAD.COUNT (R62). -/
def TCK_CNT_AHEAD_COUNT : Field := { base := 0x10098, lo := 0, width := 32, acc := .w1c }
/-- TCK_GAL_USE.SLOTS (R62). -/
def TCK_GAL_USE_SLOTS : Field := { base := 0x10100, lo := 0, width := 20, acc := .ro, st1 := 64, n1 := 8 }
/-- TCK_GAL_USE.ACTS (R62). -/
def TCK_GAL_USE_ACTS : Field := { base := 0x10100, lo := 20, width := 24, acc := .ro, st1 := 64, n1 := 8 }
/-- TCK_GAL_USE.FETCH (R62). -/
def TCK_GAL_USE_FETCH : Field := { base := 0x10100, lo := 44, width := 20, acc := .ro, st1 := 64, n1 := 8 }
/-- TCK_GAL_SHORT.RECORDS (R62). -/
def TCK_GAL_SHORT_RECORDS : Field := { base := 0x10140, lo := 0, width := 32, acc := .w1c, st1 := 64, n1 := 8 }
/-- TCK_GAL_SHORT.CAUSE (R62). -/
def TCK_GAL_SHORT_CAUSE : Field := { base := 0x10140, lo := 32, width := 2, acc := .ro, st1 := 64, n1 := 8 }
/-- PRT_CTRL.EN (R95). -/
def PRT_CTRL_EN : Field := { base := 0x20000, lo := 0, width := 1, acc := .rw, st1 := 32768, n1 := 16, own := true }
/-- PRT_CTRL.CAPTURE_EN (R95). -/
def PRT_CTRL_CAPTURE_EN : Field := { base := 0x20000, lo := 1, width := 1, acc := .rw, st1 := 32768, n1 := 16 }
/-- PRT_CTRL.FLUSH (R95). -/
def PRT_CTRL_FLUSH : Field := { base := 0x20000, lo := 2, width := 1, acc := .wo, st1 := 32768, n1 := 16, own := true }
/-- PRT_CTRL.SELFTEST (R95). -/
def PRT_CTRL_SELFTEST : Field := { base := 0x20000, lo := 3, width := 1, acc := .rw, st1 := 32768, n1 := 16, own := true }
/-- PRT_CTRL.RETRAIN (R95). -/
def PRT_CTRL_RETRAIN : Field := { base := 0x20000, lo := 4, width := 1, acc := .wo, st1 := 32768, n1 := 16, own := true }
/-- PRT_STATUS.LSTATE (R95). -/
def PRT_STATUS_LSTATE : Field := { base := 0x20008, lo := 0, width := 3, acc := .ro, st1 := 32768, n1 := 16, view := true }
/-- PRT_STATUS.RESYNC (R95). -/
def PRT_STATUS_RESYNC : Field := { base := 0x20008, lo := 3, width := 1, acc := .ro, st1 := 32768, n1 := 16 }
/-- PRT_STATUS.SELFTEST_DONE (R95). -/
def PRT_STATUS_SELFTEST_DONE : Field := { base := 0x20008, lo := 4, width := 1, acc := .ro, st1 := 32768, n1 := 16 }
/-- PRT_STATUS.SELFTEST_PASS (R95). -/
def PRT_STATUS_SELFTEST_PASS : Field := { base := 0x20008, lo := 5, width := 1, acc := .ro, st1 := 32768, n1 := 16 }
/-- PRT_STATUS.QMODE (R95). -/
def PRT_STATUS_QMODE : Field := { base := 0x20008, lo := 6, width := 1, acc := .ro, rst := 1, st1 := 32768, n1 := 16, view := true }
/-- PRT_CREDIT.IN_HELD (R95). -/
def PRT_CREDIT_IN_HELD : Field := { base := 0x20010, lo := 0, width := 13, acc := .ro, st1 := 32768, n1 := 16 }
/-- PRT_CREDIT.OUT_HELD (R95). -/
def PRT_CREDIT_OUT_HELD : Field := { base := 0x20010, lo := 16, width := 16, acc := .ro, st1 := 32768, n1 := 16 }
/-- PRT_CREDIT.OUT_GRANT (R95). -/
def PRT_CREDIT_OUT_GRANT : Field := { base := 0x20010, lo := 32, width := 16, acc := .ro, st1 := 32768, n1 := 16 }
/-- PRT_QUEUE.FILL (R95). -/
def PRT_QUEUE_FILL : Field := { base := 0x20018, lo := 0, width := 13, acc := .ro, st1 := 32768, n1 := 16, view := true }
/-- PRT_QUEUE.WAITING (R95). -/
def PRT_QUEUE_WAITING : Field := { base := 0x20018, lo := 16, width := 13, acc := .ro, st1 := 32768, n1 := 16, view := true }
/-- PRT_TXEQ.PRE (R95). -/
def PRT_TXEQ_PRE : Field := { base := 0x20020, lo := 0, width := 6, acc := .rw, rst := 4, st1 := 32768, n1 := 16 }
/-- PRT_TXEQ.MAIN (R95). -/
def PRT_TXEQ_MAIN : Field := { base := 0x20020, lo := 6, width := 6, acc := .rw, rst := 48, st1 := 32768, n1 := 16 }
/-- PRT_TXEQ.POST (R95). -/
def PRT_TXEQ_POST : Field := { base := 0x20020, lo := 12, width := 6, acc := .rw, rst := 8, st1 := 32768, n1 := 16 }
/-- PRT_EGRESS.VERDICTS (R95). -/
def PRT_EGRESS_VERDICTS : Field := { base := 0x20028, lo := 0, width := 16, acc := .ro, st1 := 32768, n1 := 16 }
/-- PRT_CNT_RECORDS.COUNT (R95). -/
def PRT_CNT_RECORDS_COUNT : Field := { base := 0x20100, lo := 0, width := 48, acc := .w1c, st1 := 32768, n1 := 16 }
/-- PRT_CNT_VERDICTS.COUNT (R95). -/
def PRT_CNT_VERDICTS_COUNT : Field := { base := 0x20108, lo := 0, width := 48, acc := .w1c, st1 := 32768, n1 := 16 }
/-- PRT_CNT_FEC_CORR.COUNT (R95). -/
def PRT_CNT_FEC_CORR_COUNT : Field := { base := 0x20110, lo := 0, width := 48, acc := .w1c, st1 := 32768, n1 := 16 }
/-- PRT_CNT_FEC_UNCORR.COUNT (R95). -/
def PRT_CNT_FEC_UNCORR_COUNT : Field := { base := 0x20118, lo := 0, width := 32, acc := .w1c, st1 := 32768, n1 := 16 }
/-- PRT_CNT_REWIND.COUNT (R95). -/
def PRT_CNT_REWIND_COUNT : Field := { base := 0x20120, lo := 0, width := 32, acc := .w1c, st1 := 32768, n1 := 16 }
/-- PRT_CNT_CREDIT_VIOL.COUNT (R95). -/
def PRT_CNT_CREDIT_VIOL_COUNT : Field := { base := 0x20128, lo := 0, width := 32, acc := .w1c, st1 := 32768, n1 := 16 }
/-- PRT_CNT_POISON.COUNT (R95). -/
def PRT_CNT_POISON_COUNT : Field := { base := 0x20130, lo := 0, width := 32, acc := .w1c, st1 := 32768, n1 := 16 }
/-- PRT_CNT_CORR.COUNT (R95). -/
def PRT_CNT_CORR_COUNT : Field := { base := 0x20138, lo := 0, width := 32, acc := .w1c, st1 := 32768, n1 := 16 }
/-- PRT_CNT_UNCORR.COUNT (R95). -/
def PRT_CNT_UNCORR_COUNT : Field := { base := 0x20140, lo := 0, width := 32, acc := .w1c, st1 := 32768, n1 := 16 }
/-- PRT_CNT_FLUSHED.COUNT (R95). -/
def PRT_CNT_FLUSHED_COUNT : Field := { base := 0x20148, lo := 0, width := 32, acc := .w1c, st1 := 32768, n1 := 16 }
/-- PRT_CNT_SEQGAP.COUNT (R95). -/
def PRT_CNT_SEQGAP_COUNT : Field := { base := 0x20150, lo := 0, width := 32, acc := .w1c, st1 := 32768, n1 := 16 }
/-- PRT_CNT_EGRESS_WAIT.COUNT (R95). -/
def PRT_CNT_EGRESS_WAIT_COUNT : Field := { base := 0x20158, lo := 0, width := 32, acc := .w1c, st1 := 32768, n1 := 16 }
/-- PRT_CNT_VERDICT_DROP.COUNT (R95). -/
def PRT_CNT_VERDICT_DROP_COUNT : Field := { base := 0x20160, lo := 0, width := 32, acc := .w1c, st1 := 32768, n1 := 16 }
/-- PRT_CNT_CAPDROP.COUNT (R95). -/
def PRT_CNT_CAPDROP_COUNT : Field := { base := 0x20168, lo := 0, width := 32, acc := .w1c, st1 := 32768, n1 := 16 }
/-- PRT_CNT_BADLINK.COUNT (R95). -/
def PRT_CNT_BADLINK_COUNT : Field := { base := 0x20170, lo := 0, width := 32, acc := .w1c, st1 := 32768, n1 := 16 }
/-- PRT_CNT_LINKDOWN.COUNT (R95). -/
def PRT_CNT_LINKDOWN_COUNT : Field := { base := 0x20178, lo := 0, width := 16, acc := .w1c, st1 := 32768, n1 := 16 }
/-- CHN_LIVE.COUNT (R124). -/
def CHN_LIVE_COUNT : Field := { base := 0x40000, lo := 0, width := 8, acc := .ro, view := true }
/-- CHN_QSUM_LO.SUM (R124). -/
def CHN_QSUM_LO_SUM : Field := { base := 0x40008, lo := 0, width := 11, acc := .ro, st1 := 16, n1 := 4, view := true }
/-- CHN_QSUM_HI.SUM (R124). -/
def CHN_QSUM_HI_SUM : Field := { base := 0x40010, lo := 0, width := 11, acc := .ro, st1 := 16, n1 := 4, view := true }
/-- CHN_CNT_ORPHAN.COUNT (R124). -/
def CHN_CNT_ORPHAN_COUNT : Field := { base := 0x40018, lo := 0, width := 32, acc := .w1c }
/-- CHN_HANDLE.HANDLE (R124). -/
def CHN_HANDLE_HANDLE : Field := { base := 0x40000, lo := 0, width := 16, acc := .ro, st1 := 2048, n1 := 256, view := true }
/-- CHN_HANDLE.STATE (R124). -/
def CHN_HANDLE_STATE : Field := { base := 0x40000, lo := 16, width := 2, acc := .ro, st1 := 2048, n1 := 256, view := true }
/-- CHN_HANDLE.OWNER (R124). -/
def CHN_HANDLE_OWNER : Field := { base := 0x40000, lo := 24, width := 4, acc := .ro, st1 := 2048, n1 := 256, view := true }
/-- CHN_HANDLE.STANDING (R124). -/
def CHN_HANDLE_STANDING : Field := { base := 0x40000, lo := 28, width := 1, acc := .ro, st1 := 2048, n1 := 256, view := true }
/-- CHN_STATUS.STALL (R124). -/
def CHN_STATUS_STALL : Field := { base := 0x40008, lo := 0, width := 1, acc := .w1c, st1 := 2048, n1 := 256 }
/-- CHN_STATUS.SHORT (R124). -/
def CHN_STATUS_SHORT : Field := { base := 0x40008, lo := 1, width := 1, acc := .w1c, st1 := 2048, n1 := 256 }
/-- CHN_STATUS.ORPHAN (R124). -/
def CHN_STATUS_ORPHAN : Field := { base := 0x40008, lo := 2, width := 1, acc := .w1c, st1 := 2048, n1 := 256 }
/-- CHN_STATUS.POISON_REFUSED (R124). -/
def CHN_STATUS_POISON_REFUSED : Field := { base := 0x40008, lo := 3, width := 1, acc := .w1c, st1 := 2048, n1 := 256 }
/-- CHN_STATUS.QUOTA_ERR (R124). -/
def CHN_STATUS_QUOTA_ERR : Field := { base := 0x40008, lo := 4, width := 1, acc := .w1c, st1 := 2048, n1 := 256 }
/-- CHN_STATUS.CREATE_FAIL (R124). -/
def CHN_STATUS_CREATE_FAIL : Field := { base := 0x40008, lo := 5, width := 1, acc := .w1c, st1 := 2048, n1 := 256 }
/-- CHN_STATUS.CLOSED (R124). -/
def CHN_STATUS_CLOSED : Field := { base := 0x40008, lo := 6, width := 1, acc := .w1c, st1 := 2048, n1 := 256 }
/-- CHN_STATUS.WAIT_AGE (R124). -/
def CHN_STATUS_WAIT_AGE : Field := { base := 0x40008, lo := 32, width := 32, acc := .ro, st1 := 2048, n1 := 256, view := true }
/-- CHN_LOOKUP.DESC (R124). -/
def CHN_LOOKUP_DESC : Field := { base := 0x40010, lo := 0, width := 64, acc := .ro, st1 := 2048, n1 := 256, st2 := 64, n2 := 4, view := true }
/-- CHN_EGRESS.EGRESS (R124). -/
def CHN_EGRESS_EGRESS : Field := { base := 0x40030, lo := 0, width := 64, acc := .ro, st1 := 2048, n1 := 256, view := true }
/-- CHN_QUOTA_LO.QF (R124). -/
def CHN_QUOTA_LO_QF : Field := { base := 0x40038, lo := 0, width := 11, acc := .rw, st1 := 16, n1 := 4, st2 := 2048, n2 := 256, own := true, view := true }
/-- CHN_QUOTA_HI.QF (R124). -/
def CHN_QUOTA_HI_QF : Field := { base := 0x40040, lo := 0, width := 11, acc := .rw, st1 := 16, n1 := 4, st2 := 2048, n2 := 256, own := true, view := true }
/-- CHN_CTRL.NSEG (R124). -/
def CHN_CTRL_NSEG : Field := { base := 0x40048, lo := 0, width := 6, acc := .ro, st1 := 2048, n1 := 256, view := true }
/-- CHN_CTRL.STALL_LIMIT (R124). -/
def CHN_CTRL_STALL_LIMIT : Field := { base := 0x40048, lo := 8, width := 22, acc := .rw, rst := 65536, st1 := 2048, n1 := 256, view := true }
/-- CHN_CNT_RECORDS.COUNT (R124). -/
def CHN_CNT_RECORDS_COUNT : Field := { base := 0x40080, lo := 0, width := 48, acc := .w1c, st1 := 2048, n1 := 256 }
/-- CHN_CNT_LATE.COUNT (R124). -/
def CHN_CNT_LATE_COUNT : Field := { base := 0x40088, lo := 0, width := 48, acc := .w1c, st1 := 2048, n1 := 256 }
/-- CHN_CNT_CLOSED.COUNT (R124). -/
def CHN_CNT_CLOSED_COUNT : Field := { base := 0x40090, lo := 0, width := 48, acc := .w1c, st1 := 2048, n1 := 256 }
/-- CHN_CNT_POISON.COUNT (R124). -/
def CHN_CNT_POISON_COUNT : Field := { base := 0x40098, lo := 0, width := 32, acc := .w1c, st1 := 2048, n1 := 256 }
/-- CHN_CNT_SHORT.COUNT (R124). -/
def CHN_CNT_SHORT_COUNT : Field := { base := 0x400a0, lo := 0, width := 32, acc := .w1c, st1 := 2048, n1 := 256 }
/-- CHN_CNT_HIT.COUNT (R124). -/
def CHN_CNT_HIT_COUNT : Field := { base := 0x400c0, lo := 0, width := 48, acc := .w1c, st1 := 2048, n1 := 256, st2 := 64, n2 := 4 }
/-- CHN_CNT_MISS.COUNT (R124). -/
def CHN_CNT_MISS_COUNT : Field := { base := 0x400e0, lo := 0, width := 48, acc := .w1c, st1 := 2048, n1 := 256, st2 := 64, n2 := 4 }
/-- CHN_SEG.SEGMENT (R124). -/
def CHN_SEG_SEGMENT : Field := { base := 0x50000, lo := 0, width := 64, acc := .ro, st1 := 2048, n1 := 256, st2 := 64, n2 := 32, view := true }
/-- GAL_CTRL.BROAD_LIMIT (R164). -/
def GAL_CTRL_BROAD_LIMIT : Field := { base := 0x80000, lo := 0, width := 7, acc := .rw, rst := 32, st1 := 65536, n1 := 8 }
/-- GAL_CTRL.SKEW_BROAD (R164). -/
def GAL_CTRL_SKEW_BROAD : Field := { base := 0x80000, lo := 8, width := 7, acc := .rw, rst := 8, st1 := 65536, n1 := 8 }
/-- GAL_CTRL.SKEW_ACT (R164). -/
def GAL_CTRL_SKEW_ACT : Field := { base := 0x80000, lo := 16, width := 6, acc := .rw, rst := 12, st1 := 65536, n1 := 8 }
/-- GAL_STATUS.SKEW (R164). -/
def GAL_STATUS_SKEW : Field := { base := 0x80008, lo := 0, width := 1, acc := .w1c, st1 := 65536, n1 := 8 }
/-- GAL_STATUS.REJECT (R164). -/
def GAL_STATUS_REJECT : Field := { base := 0x80008, lo := 1, width := 1, acc := .w1c, st1 := 65536, n1 := 8 }
/-- GAL_STATUS.UNCERTAIN (R164). -/
def GAL_STATUS_UNCERTAIN : Field := { base := 0x80008, lo := 2, width := 1, acc := .w1c, st1 := 65536, n1 := 8 }
/-- GAL_STATUS.SPARE_EXHAUSTED (R164). -/
def GAL_STATUS_SPARE_EXHAUSTED : Field := { base := 0x80008, lo := 3, width := 1, acc := .ro, st1 := 65536, n1 := 8, view := true }
/-- GAL_DRAWERS.FREE (R164). -/
def GAL_DRAWERS_FREE : Field := { base := 0x80010, lo := 0, width := 10, acc := .ro, st1 := 65536, n1 := 8, view := true }
/-- GAL_DRAWERS.BROAD (R164). -/
def GAL_DRAWERS_BROAD : Field := { base := 0x80010, lo := 10, width := 10, acc := .ro, st1 := 65536, n1 := 8, view := true }
/-- GAL_DRAWERS.RETIRED (R164). -/
def GAL_DRAWERS_RETIRED : Field := { base := 0x80010, lo := 20, width := 10, acc := .ro, st1 := 65536, n1 := 8, view := true }
/-- GAL_DRAWERS.SPARES (R164). -/
def GAL_DRAWERS_SPARES : Field := { base := 0x80010, lo := 30, width := 6, acc := .ro, rst := 32, st1 := 65536, n1 := 8, view := true }
/-- GAL_CATALOGUE.CODES_USED (R164). -/
def GAL_CATALOGUE_CODES_USED : Field := { base := 0x80018, lo := 0, width := 15, acc := .ro, st1 := 65536, n1 := 8, view := true }
/-- GAL_CATALOGUE.BAYS (R164). -/
def GAL_CATALOGUE_BAYS : Field := { base := 0x80018, lo := 16, width := 10, acc := .ro, st1 := 65536, n1 := 8, view := true }
/-- GAL_ACT_MEAN.MEAN (R164). -/
def GAL_ACT_MEAN_MEAN : Field := { base := 0x80020, lo := 0, width := 16, acc := .ro, st1 := 65536, n1 := 8 }
/-- GAL_CNT_SEARCH.COUNT (R164). -/
def GAL_CNT_SEARCH_COUNT : Field := { base := 0x80100, lo := 0, width := 48, acc := .w1c, st1 := 65536, n1 := 8 }
/-- GAL_CNT_ACT.COUNT (R164). -/
def GAL_CNT_ACT_COUNT : Field := { base := 0x80108, lo := 0, width := 48, acc := .w1c, st1 := 65536, n1 := 8 }
/-- GAL_CNT_CONFIRM.COUNT (R164). -/
def GAL_CNT_CONFIRM_COUNT : Field := { base := 0x80110, lo := 0, width := 48, acc := .w1c, st1 := 65536, n1 := 8 }
/-- GAL_CNT_REJECT.COUNT (R164). -/
def GAL_CNT_REJECT_COUNT : Field := { base := 0x80118, lo := 0, width := 32, acc := .w1c, st1 := 65536, n1 := 8 }
/-- GAL_CNT_UNCORR.COUNT (R164). -/
def GAL_CNT_UNCORR_COUNT : Field := { base := 0x80120, lo := 0, width := 32, acc := .w1c, st1 := 65536, n1 := 8 }
/-- GAL_CNT_CORR.COUNT (R164). -/
def GAL_CNT_CORR_COUNT : Field := { base := 0x80128, lo := 0, width := 32, acc := .w1c, st1 := 65536, n1 := 8 }
/-- GAL_CNT_UNCERTAIN.COUNT (R164). -/
def GAL_CNT_UNCERTAIN_COUNT : Field := { base := 0x80130, lo := 0, width := 32, acc := .w1c, st1 := 65536, n1 := 8 }
/-- GAL_CNT_SPILL_LOST.COUNT (R164). -/
def GAL_CNT_SPILL_LOST_COUNT : Field := { base := 0x80138, lo := 0, width := 32, acc := .w1c, st1 := 65536, n1 := 8 }
/-- GAL_CNT_BROAD_PLACED.COUNT (R164). -/
def GAL_CNT_BROAD_PLACED_COUNT : Field := { base := 0x80140, lo := 0, width := 32, acc := .w1c, st1 := 65536, n1 := 8 }
/-- GAL_CNT_SPLIT.COUNT (R164). -/
def GAL_CNT_SPLIT_COUNT : Field := { base := 0x80148, lo := 0, width := 16, acc := .w1c, st1 := 65536, n1 := 8 }
/-- GAL_DRAWER.TABLE (R164). -/
def GAL_DRAWER_TABLE : Field := { base := 0x80800, lo := 0, width := 6, acc := .ro, st1 := 64, n1 := 544, st2 := 65536, n2 := 8, view := true }
/-- GAL_DRAWER.BROAD (R164). -/
def GAL_DRAWER_BROAD : Field := { base := 0x80800, lo := 7, width := 1, acc := .ro, st1 := 64, n1 := 544, st2 := 65536, n2 := 8, view := true }
/-- GAL_DRAWER.BAY (R164). -/
def GAL_DRAWER_BAY : Field := { base := 0x80800, lo := 8, width := 9, acc := .ro, st1 := 64, n1 := 544, st2 := 65536, n2 := 8, view := true }
/-- GAL_DRAWER.STATE (R164). -/
def GAL_DRAWER_STATE : Field := { base := 0x80800, lo := 17, width := 3, acc := .ro, st1 := 64, n1 := 544, st2 := 65536, n2 := 8, view := true }
/-- GAL_DRAWER.USED (R164). -/
def GAL_DRAWER_USED : Field := { base := 0x80800, lo := 21, width := 13, acc := .ro, st1 := 64, n1 := 544, st2 := 65536, n2 := 8, view := true }
/-- GAL_DRAWER.REJECTS (R164). -/
def GAL_DRAWER_REJECTS : Field := { base := 0x80800, lo := 48, width := 16, acc := .ro, st1 := 64, n1 := 544, st2 := 65536, n2 := 8, view := true }
/-- GAL_CAB.VEST_USED (R164). -/
def GAL_CAB_VEST_USED : Field := { base := 0x81a00, lo := 0, width := 8, acc := .ro, st1 := 64, n1 := 32, st2 := 65536, n2 := 8, view := true }
/-- GAL_CAB.TRANS_USED (R164). -/
def GAL_CAB_TRANS_USED : Field := { base := 0x81a00, lo := 8, width := 10, acc := .ro, st1 := 64, n1 := 32, st2 := 65536, n2 := 8, view := true }
/-- GAL_CAB.SPARE_POS (R164). -/
def GAL_CAB_SPARE_POS : Field := { base := 0x81a00, lo := 18, width := 5, acc := .ro, rst := 16, st1 := 64, n1 := 32, st2 := 65536, n2 := 8, view := true }
/-- GAL_CAB.FENCED (R164). -/
def GAL_CAB_FENCED : Field := { base := 0x81a00, lo := 23, width := 1, acc := .ro, st1 := 64, n1 := 32, st2 := 65536, n2 := 8, view := true }
/-- TBL_ATTR.ATTR (R207). -/
def TBL_ATTR_ATTR : Field := { base := 0x60000, lo := 0, width := 64, acc := .ro, st1 := 8192, n1 := 64, view := true }
/-- TBL_STATE.STATE (R207). -/
def TBL_STATE_STATE : Field := { base := 0x60008, lo := 0, width := 2, acc := .ro, st1 := 8192, n1 := 64, view := true }
/-- TBL_STATE.LOCKED (R207). -/
def TBL_STATE_LOCKED : Field := { base := 0x60008, lo := 2, width := 1, acc := .ro, st1 := 8192, n1 := 64, view := true }
/-- TBL_STATE.WRITE_LOCK (R207). -/
def TBL_STATE_WRITE_LOCK : Field := { base := 0x60008, lo := 3, width := 1, acc := .ro, st1 := 8192, n1 := 64, view := true }
/-- TBL_STATE.IMAGE_DIFF (R207). -/
def TBL_STATE_IMAGE_DIFF : Field := { base := 0x60008, lo := 4, width := 1, acc := .ro, st1 := 8192, n1 := 64, view := true }
/-- TBL_STATE.FENCED_UNIT (R207). -/
def TBL_STATE_FENCED_UNIT : Field := { base := 0x60008, lo := 5, width := 1, acc := .ro, st1 := 8192, n1 := 64, view := true }
/-- TBL_STATE.OUT_OF_SERVICE (R207). -/
def TBL_STATE_OUT_OF_SERVICE : Field := { base := 0x60008, lo := 6, width := 1, acc := .ro, st1 := 8192, n1 := 64, view := true }
/-- TBL_STATE.GROUP (R207). -/
def TBL_STATE_GROUP : Field := { base := 0x60008, lo := 16, width := 16, acc := .ro, st1 := 8192, n1 := 64, view := true }
/-- TBL_STATE.OWNER (R207). -/
def TBL_STATE_OWNER : Field := { base := 0x60008, lo := 32, width := 4, acc := .ro, st1 := 8192, n1 := 64, view := true }
/-- TBL_ENTRIES.COUNT (R207). -/
def TBL_ENTRIES_COUNT : Field := { base := 0x60010, lo := 0, width := 24, acc := .ro, st1 := 8192, n1 := 64, view := true }
/-- TBL_ENTRIES.LEARNED (R207). -/
def TBL_ENTRIES_LEARNED : Field := { base := 0x60010, lo := 24, width := 24, acc := .ro, st1 := 8192, n1 := 64, view := true }
/-- TBL_STAGED.VEST (R207). -/
def TBL_STAGED_VEST : Field := { base := 0x60018, lo := 0, width := 16, acc := .ro, st1 := 8192, n1 := 64, view := true }
/-- TBL_STAGED.UNPERSISTED (R207). -/
def TBL_STAGED_UNPERSISTED : Field := { base := 0x60018, lo := 16, width := 16, acc := .ro, st1 := 8192, n1 := 64, view := true }
/-- TBL_LEARN.LAST (R207). -/
def TBL_LEARN_LAST : Field := { base := 0x60020, lo := 0, width := 24, acc := .ro, st1 := 8192, n1 := 64, view := true }
/-- TBL_LEARN.FREE (R207). -/
def TBL_LEARN_FREE : Field := { base := 0x60020, lo := 24, width := 24, acc := .ro, st1 := 8192, n1 := 64, view := true }
/-- TBL_TALLY.NBLK (R207). -/
def TBL_TALLY_NBLK : Field := { base := 0x60028, lo := 0, width := 9, acc := .ro, st1 := 8192, n1 := 64, view := true }
/-- TBL_TALLY.FIRST_BLK (R207). -/
def TBL_TALLY_FIRST_BLK : Field := { base := 0x60028, lo := 9, width := 8, acc := .ro, st1 := 8192, n1 := 64, view := true }
/-- TBL_TALLY.USED (R207). -/
def TBL_TALLY_USED : Field := { base := 0x60028, lo := 17, width := 21, acc := .ro, st1 := 8192, n1 := 64, view := true }
/-- TBL_COMMIT_SEQ.SEQ (R207). -/
def TBL_COMMIT_SEQ_SEQ : Field := { base := 0x60030, lo := 0, width := 32, acc := .ro, st1 := 8192, n1 := 64, view := true }
/-- TBL_LEASE.LEFT (R207). -/
def TBL_LEASE_LEFT : Field := { base := 0x60038, lo := 0, width := 16, acc := .ro, st1 := 8192, n1 := 64, view := true }
/-- TBL_STATUS.LEARN_FULL (R207). -/
def TBL_STATUS_LEARN_FULL : Field := { base := 0x60040, lo := 0, width := 1, acc := .w1c, st1 := 8192, n1 := 64 }
/-- TBL_STATUS.VESTIBULE_FULL (R207). -/
def TBL_STATUS_VESTIBULE_FULL : Field := { base := 0x60040, lo := 1, width := 1, acc := .w1c, st1 := 8192, n1 := 64 }
/-- TBL_STATUS.DEGRADED (R207). -/
def TBL_STATUS_DEGRADED : Field := { base := 0x60040, lo := 2, width := 1, acc := .w1c, st1 := 8192, n1 := 64 }
/-- TBL_STATUS.ABORT_LEASE (R207). -/
def TBL_STATUS_ABORT_LEASE : Field := { base := 0x60040, lo := 3, width := 1, acc := .w1c, st1 := 8192, n1 := 64 }
/-- TBL_STATUS.ABORT_FLR (R207). -/
def TBL_STATUS_ABORT_FLR : Field := { base := 0x60040, lo := 4, width := 1, acc := .w1c, st1 := 8192, n1 := 64 }
/-- TBL_STATUS.ABORT_SEAM (R207). -/
def TBL_STATUS_ABORT_SEAM : Field := { base := 0x60040, lo := 5, width := 1, acc := .w1c, st1 := 8192, n1 := 64 }
/-- TBL_STATUS.NO_TALLY (R207). -/
def TBL_STATUS_NO_TALLY : Field := { base := 0x60040, lo := 6, width := 1, acc := .w1c, st1 := 8192, n1 := 64 }
/-- TBL_DESC.WORD (R207). -/
def TBL_DESC_WORD : Field := { base := 0x60048, lo := 0, width := 64, acc := .ro, st1 := 8192, n1 := 64, st2 := 64, n2 := 5, view := true }
/-- TBL_MASK.MASK (R207). -/
def TBL_MASK_MASK : Field := { base := 0x60080, lo := 0, width := 64, acc := .ro, st1 := 8192, n1 := 64, st2 := 64, n2 := 10, view := true }
/-- TBL_CNT_INSERT.COUNT (R207). -/
def TBL_CNT_INSERT_COUNT : Field := { base := 0x60100, lo := 0, width := 48, acc := .w1c, st1 := 8192, n1 := 64 }
/-- TBL_CNT_DELETE.COUNT (R207). -/
def TBL_CNT_DELETE_COUNT : Field := { base := 0x60108, lo := 0, width := 48, acc := .w1c, st1 := 8192, n1 := 64 }
/-- TBL_CNT_MODIFY.COUNT (R207). -/
def TBL_CNT_MODIFY_COUNT : Field := { base := 0x60110, lo := 0, width := 48, acc := .w1c, st1 := 8192, n1 := 64 }
/-- TBL_CNT_ACCESSION.COUNT (R207). -/
def TBL_CNT_ACCESSION_COUNT : Field := { base := 0x60118, lo := 0, width := 48, acc := .w1c, st1 := 8192, n1 := 64 }
/-- TBL_CNT_LEARN_FULL.COUNT (R207). -/
def TBL_CNT_LEARN_FULL_COUNT : Field := { base := 0x60120, lo := 0, width := 32, acc := .w1c, st1 := 8192, n1 := 64 }
/-- TBL_CNT_COMMIT.COUNT (R207). -/
def TBL_CNT_COMMIT_COUNT : Field := { base := 0x60128, lo := 0, width := 32, acc := .w1c, st1 := 8192, n1 := 64 }
/-- TBL_CNT_ABORT.COUNT (R207). -/
def TBL_CNT_ABORT_COUNT : Field := { base := 0x60130, lo := 0, width := 32, acc := .w1c, st1 := 8192, n1 := 64 }
/-- TBL_CNT_MIGRATE.COUNT (R207). -/
def TBL_CNT_MIGRATE_COUNT : Field := { base := 0x60138, lo := 0, width := 48, acc := .w1c, st1 := 8192, n1 := 64 }
/-- TBL_CNT_RELOCATE.COUNT (R207). -/
def TBL_CNT_RELOCATE_COUNT : Field := { base := 0x60140, lo := 0, width := 48, acc := .w1c, st1 := 8192, n1 := 64 }
/-- TBL_CNT_NO_TALLY.COUNT (R207). -/
def TBL_CNT_NO_TALLY_COUNT : Field := { base := 0x60148, lo := 0, width := 32, acc := .w1c, st1 := 8192, n1 := 64 }
/-- TBL_CNT_LOST.COUNT (R207). -/
def TBL_CNT_LOST_COUNT : Field := { base := 0x60150, lo := 0, width := 32, acc := .w1c, st1 := 8192, n1 := 64 }
/-- TBLG_CTRL.LEASE_DEF (R207). -/
def TBLG_CTRL_LEASE_DEF : Field := { base := 0x70000, lo := 0, width := 16, acc := .rw, rst := 1000 }
/-- TBLG_CTRL.VEST_WAIT (R207). -/
def TBLG_CTRL_VEST_WAIT : Field := { base := 0x70000, lo := 16, width := 8, acc := .rw, rst := 10 }
/-- TBLG_LOSS.COUNT (R207). -/
def TBLG_LOSS_COUNT : Field := { base := 0x70008, lo := 0, width := 15, acc := .ro, view := true }
/-- TBLG_LOSS.OVERFLOW (R207). -/
def TBLG_LOSS_OVERFLOW : Field := { base := 0x70008, lo := 15, width := 1, acc := .w1c }
/-- TBLG_LOSS_HEAD.ID (R207). -/
def TBLG_LOSS_HEAD_ID : Field := { base := 0x70010, lo := 0, width := 24, acc := .ro, view := true }
/-- TBLG_LOSS_HEAD.TABLE (R207). -/
def TBLG_LOSS_HEAD_TABLE : Field := { base := 0x70010, lo := 24, width := 6, acc := .ro, view := true }
/-- TBLG_LOSS_HEAD.CAUSE (R207). -/
def TBLG_LOSS_HEAD_CAUSE : Field := { base := 0x70010, lo := 30, width := 2, acc := .ro, view := true }
/-- TBLG_LOSS_HEAD.VALID (R207). -/
def TBLG_LOSS_HEAD_VALID : Field := { base := 0x70010, lo := 63, width := 1, acc := .ro, view := true }
/-- TBLG_LOSS_NEXT.NEXT (R207). -/
def TBLG_LOSS_NEXT_NEXT : Field := { base := 0x70018, lo := 0, width := 1, acc := .wo, own := true }
/-- TBLG_JOURNAL.USED (R207). -/
def TBLG_JOURNAL_USED : Field := { base := 0x70020, lo := 0, width := 17, acc := .ro, view := true }
/-- TBLG_DLEARN.DL (R207). -/
def TBLG_DLEARN_DL : Field := { base := 0x70028, lo := 0, width := 4, acc := .ro, view := true }
/-- CUR_CTRL.TWIN_RESTORE (R245). -/
def CUR_CTRL_TWIN_RESTORE : Field := { base := 0xc0000, lo := 0, width := 1, acc := .rw, rst := 1 }
/-- CUR_CTRL.SELFTEST_AUTO (R245). -/
def CUR_CTRL_SELFTEST_AUTO : Field := { base := 0xc0000, lo := 1, width := 1, acc := .rw, rst := 1 }
/-- CUR_CTRL.RETIRE_AUTO (R245). -/
def CUR_CTRL_RETIRE_AUTO : Field := { base := 0xc0000, lo := 2, width := 1, acc := .rw }
/-- CUR_CTRL.HIST_CLEAR (R245). -/
def CUR_CTRL_HIST_CLEAR : Field := { base := 0xc0000, lo := 3, width := 1, acc := .wo, own := true }
/-- CUR_CTRL.ROTATE_H (R245). -/
def CUR_CTRL_ROTATE_H : Field := { base := 0xc0000, lo := 8, width := 8, acc := .rw }
/-- CUR_STATUS.CONSERV (R245). -/
def CUR_STATUS_CONSERV : Field := { base := 0xc0008, lo := 0, width := 1, acc := .ro, view := true }
/-- CUR_STATUS.CONSERV_LEFT (R245). -/
def CUR_STATUS_CONSERV_LEFT : Field := { base := 0xc0008, lo := 1, width := 2, acc := .ro, view := true }
/-- CUR_STATUS.WEAR_STAGE (R245). -/
def CUR_STATUS_WEAR_STAGE : Field := { base := 0xc0008, lo := 3, width := 2, acc := .ro, view := true }
/-- CUR_STATUS.SWEEP_LATE (R245). -/
def CUR_STATUS_SWEEP_LATE : Field := { base := 0xc0008, lo := 5, width := 1, acc := .w1c }
/-- CUR_STATUS.DIGEST_MISMATCH (R245). -/
def CUR_STATUS_DIGEST_MISMATCH : Field := { base := 0xc0008, lo := 6, width := 1, acc := .w1c }
/-- CUR_STATUS.RESTORE_FAIL (R245). -/
def CUR_STATUS_RESTORE_FAIL : Field := { base := 0xc0008, lo := 7, width := 1, acc := .w1c }
/-- CUR_STATUS.FULLTEST_REFUSED (R245). -/
def CUR_STATUS_FULLTEST_REFUSED : Field := { base := 0xc0008, lo := 8, width := 1, acc := .w1c }
/-- CUR_STATUS.SUSPECT (R245). -/
def CUR_STATUS_SUSPECT : Field := { base := 0xc0008, lo := 9, width := 1, acc := .w1c }
/-- CUR_SWEEP.PERIOD_MS (R245). -/
def CUR_SWEEP_PERIOD_MS : Field := { base := 0xc0010, lo := 0, width := 11, acc := .rw, rst := 1000 }
/-- CUR_SWEEP.LAST_MS (R245). -/
def CUR_SWEEP_LAST_MS : Field := { base := 0xc0010, lo := 16, width := 16, acc := .ro }
/-- CUR_SWEEP.COUNT (R245). -/
def CUR_SWEEP_COUNT : Field := { base := 0xc0010, lo := 32, width := 32, acc := .ro }
/-- CUR_SCRUB.PERIOD_H (R245). -/
def CUR_SCRUB_PERIOD_H : Field := { base := 0xc0018, lo := 0, width := 8, acc := .rw, rst := 24 }
/-- CUR_SCRUB.MARGIN (R245). -/
def CUR_SCRUB_MARGIN : Field := { base := 0xc0018, lo := 8, width := 6, acc := .rw, rst := 6 }
/-- CUR_SCRUB.REFRESH_THRESH (R245). -/
def CUR_SCRUB_REFRESH_THRESH : Field := { base := 0xc0018, lo := 14, width := 2, acc := .rw, rst := 2 }
/-- CUR_SCRUB.QUEUED (R245). -/
def CUR_SCRUB_QUEUED : Field := { base := 0xc0018, lo := 32, width := 32, acc := .ro, view := true }
/-- CUR_CAL.PERIOD_MS (R245). -/
def CUR_CAL_PERIOD_MS : Field := { base := 0xc0020, lo := 0, width := 16, acc := .rw, rst := 100 }
/-- CUR_CAL.DRIFT_LIMIT (R245). -/
def CUR_CAL_DRIFT_LIMIT : Field := { base := 0xc0020, lo := 16, width := 8, acc := .rw, rst := 12 }
/-- CUR_CAL.WINDOW_MIN (R245). -/
def CUR_CAL_WINDOW_MIN : Field := { base := 0xc0020, lo := 24, width := 8, acc := .rw, rst := 8 }
/-- CUR_CAL.TEMP_STEP (R245). -/
def CUR_CAL_TEMP_STEP : Field := { base := 0xc0020, lo := 32, width := 4, acc := .rw, rst := 5 }
/-- CUR_CAL.GO (R245). -/
def CUR_CAL_GO : Field := { base := 0xc0020, lo := 36, width := 1, acc := .wo, own := true }
/-- CUR_WEAR_BAL.BALANCE (R245). -/
def CUR_WEAR_BAL_BALANCE : Field := { base := 0xc0028, lo := 0, width := 48, acc := .ro, view := true }
/-- CUR_WEAR_CTRL.RES_MIN_MS (R245). -/
def CUR_WEAR_CTRL_RES_MIN_MS : Field := { base := 0xc0030, lo := 0, width := 16, acc := .rw, rst := 10 }
/-- CUR_WEAR_CTRL.RES_MAX_S (R245). -/
def CUR_WEAR_CTRL_RES_MAX_S : Field := { base := 0xc0030, lo := 16, width := 16, acc := .rw, rst := 60 }
/-- CUR_WEAR_CTRL.LEVEL_SPREAD (R245). -/
def CUR_WEAR_CTRL_LEVEL_SPREAD : Field := { base := 0xc0030, lo := 32, width := 16, acc := .rw, rst := 4096 }
/-- CUR_WEAR_RATE.RATE (R245). -/
def CUR_WEAR_RATE_RATE : Field := { base := 0xc0038, lo := 0, width := 32, acc := .ro }
/-- CUR_SELFTEST.GAL (R245). -/
def CUR_SELFTEST_GAL : Field := { base := 0xc0040, lo := 0, width := 3, acc := .rw }
/-- CUR_SELFTEST.CAB (R245). -/
def CUR_SELFTEST_CAB : Field := { base := 0xc0040, lo := 3, width := 5, acc := .rw }
/-- CUR_SELFTEST.POS (R245). -/
def CUR_SELFTEST_POS : Field := { base := 0xc0040, lo := 8, width := 5, acc := .rw }
/-- CUR_SELFTEST.GO (R245). -/
def CUR_SELFTEST_GO : Field := { base := 0xc0040, lo := 13, width := 1, acc := .wo, own := true }
/-- CUR_SELFTEST.RESULT (R245). -/
def CUR_SELFTEST_RESULT : Field := { base := 0xc0040, lo := 16, width := 2, acc := .ro }
/-- CUR_SELFTEST.REFUSED (R245). -/
def CUR_SELFTEST_REFUSED : Field := { base := 0xc0040, lo := 18, width := 1, acc := .ro }
/-- CUR_RETIRE.GAL (R245). -/
def CUR_RETIRE_GAL : Field := { base := 0xc0048, lo := 0, width := 3, acc := .rw }
/-- CUR_RETIRE.CAB (R245). -/
def CUR_RETIRE_CAB : Field := { base := 0xc0048, lo := 3, width := 5, acc := .rw }
/-- CUR_RETIRE.POS (R245). -/
def CUR_RETIRE_POS : Field := { base := 0xc0048, lo := 8, width := 5, acc := .rw }
/-- CUR_RETIRE.GO (R245). -/
def CUR_RETIRE_GO : Field := { base := 0xc0048, lo := 13, width := 1, acc := .wo, own := true }
/-- CUR_RETIRE.RESULT (R245). -/
def CUR_RETIRE_RESULT : Field := { base := 0xc0048, lo := 16, width := 2, acc := .ro }
/-- CUR_RETIRE.REFUSED (R245). -/
def CUR_RETIRE_REFUSED : Field := { base := 0xc0048, lo := 18, width := 1, acc := .ro }
/-- CUR_FULLTEST.GO (R245). -/
def CUR_FULLTEST_GO : Field := { base := 0xc0050, lo := 0, width := 1, acc := .wo, own := true }
/-- CUR_FULLTEST.ERASE (R245). -/
def CUR_FULLTEST_ERASE : Field := { base := 0xc0050, lo := 1, width := 1, acc := .rw }
/-- CUR_FULLTEST.DONE (R245). -/
def CUR_FULLTEST_DONE : Field := { base := 0xc0050, lo := 2, width := 1, acc := .ro }
/-- CUR_FULLTEST.PASS (R245). -/
def CUR_FULLTEST_PASS : Field := { base := 0xc0050, lo := 3, width := 1, acc := .ro }
/-- CUR_FULLTEST.PROGRESS (R245). -/
def CUR_FULLTEST_PROGRESS : Field := { base := 0xc0050, lo := 8, width := 7, acc := .ro }
/-- CUR_RESTORE.PENDING (R245). -/
def CUR_RESTORE_PENDING : Field := { base := 0xc0058, lo := 0, width := 16, acc := .ro, view := true }
/-- CUR_RESTORE.RESTORED (R245). -/
def CUR_RESTORE_RESTORED : Field := { base := 0xc0058, lo := 16, width := 16, acc := .ro }
/-- CUR_RESTORE.REFUSED (R245). -/
def CUR_RESTORE_REFUSED : Field := { base := 0xc0058, lo := 32, width := 16, acc := .ro }
/-- CUR_CAB.MREF (R245). -/
def CUR_CAB_MREF : Field := { base := 0xc0100, lo := 0, width := 8, acc := .ro, st1 := 64, n1 := 256, view := true }
/-- CUR_CAB.RREF (R245). -/
def CUR_CAB_RREF : Field := { base := 0xc0100, lo := 8, width := 8, acc := .ro, st1 := 64, n1 := 256, view := true }
/-- CUR_CAB.WIDTH (R245). -/
def CUR_CAB_WIDTH : Field := { base := 0xc0100, lo := 16, width := 8, acc := .ro, st1 := 64, n1 := 256, view := true }
/-- CUR_CAB.DRIFT (R245). -/
def CUR_CAB_DRIFT : Field := { base := 0xc0100, lo := 24, width := 8, acc := .ro, st1 := 64, n1 := 256, view := true }
/-- CUR_CAB.CAL_FAIL (R245). -/
def CUR_CAB_CAL_FAIL : Field := { base := 0xc0100, lo := 32, width := 1, acc := .ro, st1 := 64, n1 := 256, view := true }
/-- CUR_CAB.FENCE (R245). -/
def CUR_CAB_FENCE : Field := { base := 0xc0100, lo := 33, width := 1, acc := .wo, st1 := 64, n1 := 256, own := true }
/-- CUR_CAB.UNFENCE (R245). -/
def CUR_CAB_UNFENCE : Field := { base := 0xc0100, lo := 34, width := 1, acc := .wo, st1 := 64, n1 := 256, own := true }
/-- CUR_CAB.JOURNAL_FREE (R245). -/
def CUR_CAB_JOURNAL_FREE : Field := { base := 0xc0100, lo := 48, width := 9, acc := .ro, st1 := 64, n1 := 256, view := true }
/-- CUR_CNT_WRITES.COUNT (R245). -/
def CUR_CNT_WRITES_COUNT : Field := { base := 0xc0a00, lo := 0, width := 48, acc := .w1c }
/-- CUR_CNT_RETRY.COUNT (R245). -/
def CUR_CNT_RETRY_COUNT : Field := { base := 0xc0a08, lo := 0, width := 48, acc := .w1c }
/-- CUR_CNT_DEFECT.COUNT (R245). -/
def CUR_CNT_DEFECT_COUNT : Field := { base := 0xc0a10, lo := 0, width := 32, acc := .w1c }
/-- CUR_CNT_SCRUBBED.COUNT (R245). -/
def CUR_CNT_SCRUBBED_COUNT : Field := { base := 0xc0a18, lo := 0, width := 48, acc := .w1c }
/-- CUR_CNT_REFRESH.COUNT (R245). -/
def CUR_CNT_REFRESH_COUNT : Field := { base := 0xc0a20, lo := 0, width := 32, acc := .w1c }
/-- CUR_CNT_RECOVERED.COUNT (R245). -/
def CUR_CNT_RECOVERED_COUNT : Field := { base := 0xc0a28, lo := 0, width := 32, acc := .w1c }
/-- CUR_CNT_FALSE_MISS.COUNT (R245). -/
def CUR_CNT_FALSE_MISS_COUNT : Field := { base := 0xc0a30, lo := 0, width := 32, acc := .w1c }
/-- CUR_CNT_LOST.COUNT (R245). -/
def CUR_CNT_LOST_COUNT : Field := { base := 0xc0a38, lo := 0, width := 32, acc := .w1c }
/-- CUR_CNT_SWAP.COUNT (R245). -/
def CUR_CNT_SWAP_COUNT : Field := { base := 0xc0a40, lo := 0, width := 16, acc := .w1c }
/-- CUR_CNT_DEFER.COUNT (R245). -/
def CUR_CNT_DEFER_COUNT : Field := { base := 0xc0a48, lo := 0, width := 32, acc := .w1c }
/-- CUR_DRAWER.WEAR (R245). -/
def CUR_DRAWER_WEAR : Field := { base := 0xc2000, lo := 0, width := 32, acc := .ro, st1 := 34816, n1 := 8, st2 := 64, n2 := 544, view := true }
/-- CUR_DRAWER.DEFECTS (R245). -/
def CUR_DRAWER_DEFECTS : Field := { base := 0xc2000, lo := 32, width := 12, acc := .ro, st1 := 34816, n1 := 8, st2 := 64, n2 := 544, view := true }
/-- CUR_DRAWER.SUSPECT (R245). -/
def CUR_DRAWER_SUSPECT : Field := { base := 0xc2000, lo := 44, width := 1, acc := .ro, st1 := 34816, n1 := 8, st2 := 64, n2 := 544, view := true }
/-- CUR_DRAWER.DIRTY (R245). -/
def CUR_DRAWER_DIRTY : Field := { base := 0xc2000, lo := 45, width := 1, acc := .ro, st1 := 34816, n1 := 8, st2 := 64, n2 := 544, view := true }
/-- WRD_CTRL.LOCK (R267). -/
def WRD_CTRL_LOCK : Field := { base := 0xd0000, lo := 0, width := 16, acc := .rw, own := true }
/-- WRD_CTRL.HIT_MIN (R267). -/
def WRD_CTRL_HIT_MIN : Field := { base := 0xd0000, lo := 16, width := 10, acc := .rw, rst := 500 }
/-- WRD_STATUS.HIT_LOW (R267). -/
def WRD_STATUS_HIT_LOW : Field := { base := 0xd0008, lo := 0, width := 1, acc := .w1c }
/-- WRD_STATUS.STAGING_FULL (R267). -/
def WRD_STATUS_STAGING_FULL : Field := { base := 0xd0008, lo := 1, width := 1, acc := .w1c }
/-- WRD_STATUS.STORE_UNCORR (R267). -/
def WRD_STATUS_STORE_UNCORR : Field := { base := 0xd0008, lo := 2, width := 1, acc := .w1c }
/-- WRD_STATUS.PIN_CONFLICT (R267). -/
def WRD_STATUS_PIN_CONFLICT : Field := { base := 0xd0008, lo := 3, width := 1, acc := .w1c }
/-- WRD_HIT.RATE (R267). -/
def WRD_HIT_RATE : Field := { base := 0xd0010, lo := 0, width := 10, acc := .ro }
/-- WRD_HIT.WORST_SET (R267). -/
def WRD_HIT_WORST_SET : Field := { base := 0xd0010, lo := 16, width := 12, acc := .ro }
/-- WRD_HIT.WORST_EVICT (R267). -/
def WRD_HIT_WORST_EVICT : Field := { base := 0xd0010, lo := 32, width := 16, acc := .ro }
/-- WRD_FILL.STAGED (R267). -/
def WRD_FILL_STAGED : Field := { base := 0xd0018, lo := 0, width := 15, acc := .ro, view := true }
/-- WRD_FILL.DIRTY (R267). -/
def WRD_FILL_DIRTY : Field := { base := 0xd0018, lo := 16, width := 17, acc := .ro, view := true }
/-- WRD_PIN.BASE (R267). -/
def WRD_PIN_BASE : Field := { base := 0xd0100, lo := 0, width := 20, acc := .rw, st1 := 128, n1 := 16 }
/-- WRD_PIN.COUNT (R267). -/
def WRD_PIN_COUNT : Field := { base := 0xd0100, lo := 20, width := 21, acc := .rw, st1 := 128, n1 := 16 }
/-- WRD_PIN.TABLE (R267). -/
def WRD_PIN_TABLE : Field := { base := 0xd0100, lo := 41, width := 6, acc := .rw, st1 := 128, n1 := 16 }
/-- WRD_PIN.EN (R267). -/
def WRD_PIN_EN : Field := { base := 0xd0100, lo := 47, width := 1, acc := .rw, st1 := 128, n1 := 16, own := true }
/-- WRD_PIN.STATE (R267). -/
def WRD_PIN_STATE : Field := { base := 0xd0100, lo := 48, width := 3, acc := .ro, st1 := 128, n1 := 16, view := true }
/-- WRD_PINC.CONF_SET (R267). -/
def WRD_PINC_CONF_SET : Field := { base := 0xd0108, lo := 0, width := 12, acc := .ro, st1 := 128, n1 := 16 }
/-- WRD_PINC.CONF_SETS (R267). -/
def WRD_PINC_CONF_SETS : Field := { base := 0xd0108, lo := 16, width := 13, acc := .ro, st1 := 128, n1 := 16 }
/-- WRD_CNT_FETCH.COUNT (R267). -/
def WRD_CNT_FETCH_COUNT : Field := { base := 0xd0200, lo := 0, width := 48, acc := .w1c }
/-- WRD_CNT_HIT.COUNT (R267). -/
def WRD_CNT_HIT_COUNT : Field := { base := 0xd0208, lo := 0, width := 48, acc := .w1c }
/-- WRD_CNT_STAGED_HIT.COUNT (R267). -/
def WRD_CNT_STAGED_HIT_COUNT : Field := { base := 0xd0210, lo := 0, width := 48, acc := .w1c }
/-- WRD_CNT_BYPASS.COUNT (R267). -/
def WRD_CNT_BYPASS_COUNT : Field := { base := 0xd0218, lo := 0, width := 32, acc := .w1c }
/-- WRD_CNT_EVICT_DIRTY.COUNT (R267). -/
def WRD_CNT_EVICT_DIRTY_COUNT : Field := { base := 0xd0220, lo := 0, width := 48, acc := .w1c }
/-- WRD_CNT_FILL_DISCARD.COUNT (R267). -/
def WRD_CNT_FILL_DISCARD_COUNT : Field := { base := 0xd0228, lo := 0, width := 32, acc := .w1c }
/-- WRD_CNT_DIRTY_LOST.COUNT (R267). -/
def WRD_CNT_DIRTY_LOST_COUNT : Field := { base := 0xd0230, lo := 0, width := 32, acc := .w1c }
/-- WRD_CNT_STORE_CORR.COUNT (R267). -/
def WRD_CNT_STORE_CORR_COUNT : Field := { base := 0xd0238, lo := 0, width := 32, acc := .w1c }
/-- WRD_CNT_STORE_UNCORR.COUNT (R267). -/
def WRD_CNT_STORE_UNCORR_COUNT : Field := { base := 0xd0240, lo := 0, width := 32, acc := .w1c }
/-- WRD_WAYS.MASK (R267). -/
def WRD_WAYS_MASK : Field := { base := 0xd0400, lo := 0, width := 16, acc := .rw, rst := 65535, st1 := 64, n1 := 256 }
/-- WRD_TBL.OUTSIDE (R267). -/
def WRD_TBL_OUTSIDE : Field := { base := 0xd0c00, lo := 0, width := 24, acc := .ro, st1 := 64, n1 := 64, view := true }
/-- WRD_TBL.HELD (R267). -/
def WRD_TBL_HELD : Field := { base := 0xd0c00, lo := 24, width := 1, acc := .ro, st1 := 64, n1 := 64, view := true }
/-- RPT_CTRL.AGE_S (R287). -/
def RPT_CTRL_AGE_S : Field := { base := 0xe0000, lo := 0, width := 16, acc := .rw }
/-- RPT_CTRL.SHADOW_EN (R287). -/
def RPT_CTRL_SHADOW_EN : Field := { base := 0xe0000, lo := 16, width := 1, acc := .rw }
/-- RPT_CTRL.SHADOW_MS (R287). -/
def RPT_CTRL_SHADOW_MS : Field := { base := 0xe0000, lo := 32, width := 16, acc := .rw, rst := 1000 }
/-- RPT_STATUS.SHADOW_MISMATCH (R287). -/
def RPT_STATUS_SHADOW_MISMATCH : Field := { base := 0xe0008, lo := 0, width := 1, acc := .w1c }
/-- RPT_STATUS.INS_FAIL (R287). -/
def RPT_STATUS_INS_FAIL : Field := { base := 0xe0008, lo := 1, width := 1, acc := .w1c }
/-- RPT_STATUS.STATIC_FAIL (R287). -/
def RPT_STATUS_STATIC_FAIL : Field := { base := 0xe0008, lo := 2, width := 1, acc := .w1c }
/-- RPT_FILL.VALID (R287). -/
def RPT_FILL_VALID : Field := { base := 0xe0010, lo := 0, width := 17, acc := .ro, view := true }
/-- RPT_FILL.STATIC (R287). -/
def RPT_FILL_STATIC : Field := { base := 0xe0010, lo := 32, width := 17, acc := .ro, view := true }
/-- RPT_STATIC.TAG (R287). -/
def RPT_STATIC_TAG : Field := { base := 0xe0018, lo := 0, width := 24, acc := .rw }
/-- RPT_STATIC.PORT (R287). -/
def RPT_STATIC_PORT : Field := { base := 0xe0018, lo := 24, width := 4, acc := .rw }
/-- RPT_STATIC.OP (R287). -/
def RPT_STATIC_OP : Field := { base := 0xe0018, lo := 28, width := 2, acc := .rw }
/-- RPT_STATIC.GO (R287). -/
def RPT_STATIC_GO : Field := { base := 0xe0018, lo := 30, width := 1, acc := .wo, own := true }
/-- RPT_STATIC.BUSY (R287). -/
def RPT_STATIC_BUSY : Field := { base := 0xe0018, lo := 31, width := 1, acc := .ro }
/-- RPT_STATIC.RESULT (R287). -/
def RPT_STATIC_RESULT : Field := { base := 0xe0018, lo := 32, width := 2, acc := .ro }
/-- RPT_MISMATCH.BUCKET (R287). -/
def RPT_MISMATCH_BUCKET : Field := { base := 0xe0020, lo := 0, width := 14, acc := .ro }
/-- RPT_SHADOW_SET.BUCKET (R287). -/
def RPT_SHADOW_SET_BUCKET : Field := { base := 0xe0028, lo := 0, width := 14, acc := .wo, own := true }
/-- RPT_SHADOW_SET.DIGEST (R287). -/
def RPT_SHADOW_SET_DIGEST : Field := { base := 0xe0028, lo := 16, width := 16, acc := .wo, own := true }
/-- RPT_CNT_LEARN.COUNT (R287). -/
def RPT_CNT_LEARN_COUNT : Field := { base := 0xe0100, lo := 0, width := 48, acc := .w1c }
/-- RPT_CNT_MOVE.COUNT (R287). -/
def RPT_CNT_MOVE_COUNT : Field := { base := 0xe0108, lo := 0, width := 48, acc := .w1c }
/-- RPT_CNT_TAG_SPLIT.COUNT (R287). -/
def RPT_CNT_TAG_SPLIT_COUNT : Field := { base := 0xe0110, lo := 0, width := 32, acc := .w1c }
/-- RPT_CNT_STATIC_HOLD.COUNT (R287). -/
def RPT_CNT_STATIC_HOLD_COUNT : Field := { base := 0xe0118, lo := 0, width := 32, acc := .w1c }
/-- RPT_CNT_INS_FAIL.COUNT (R287). -/
def RPT_CNT_INS_FAIL_COUNT : Field := { base := 0xe0120, lo := 0, width := 32, acc := .w1c }
/-- RPT_CNT_FLOOD.COUNT (R287). -/
def RPT_CNT_FLOOD_COUNT : Field := { base := 0xe0128, lo := 0, width := 32, acc := .w1c }
/-- RPT_CNT_UNROUTED.COUNT (R287). -/
def RPT_CNT_UNROUTED_COUNT : Field := { base := 0xe0130, lo := 0, width := 32, acc := .w1c }
/-- RPT_CNT_VERDICT_DEFAULT.COUNT (R287). -/
def RPT_CNT_VERDICT_DEFAULT_COUNT : Field := { base := 0xe0138, lo := 0, width := 48, acc := .w1c }
/-- RPT_CNT_AGED.COUNT (R287). -/
def RPT_CNT_AGED_COUNT : Field := { base := 0xe0140, lo := 0, width := 32, acc := .w1c }
/-- RPT_CNT_EVICT.COUNT (R287). -/
def RPT_CNT_EVICT_COUNT : Field := { base := 0xe0148, lo := 0, width := 32, acc := .w1c }
/-- RPT_CNT_SHADOW_MISMATCH.COUNT (R287). -/
def RPT_CNT_SHADOW_MISMATCH_COUNT : Field := { base := 0xe0150, lo := 0, width := 32, acc := .w1c }
/-- RPT_CNT_UNCORR.COUNT (R287). -/
def RPT_CNT_UNCORR_COUNT : Field := { base := 0xe0158, lo := 0, width := 32, acc := .w1c }
/-- RPT_CNT_SITE_OFF.COUNT (R287). -/
def RPT_CNT_SITE_OFF_COUNT : Field := { base := 0xe0160, lo := 0, width := 48, acc := .w1c }
/-- RPT_CNT_SITE_CORR.COUNT (R287). -/
def RPT_CNT_SITE_CORR_COUNT : Field := { base := 0xe0168, lo := 0, width := 32, acc := .w1c }
/-- RPT_CNT_SITE_UNCORR.COUNT (R287). -/
def RPT_CNT_SITE_UNCORR_COUNT : Field := { base := 0xe0170, lo := 0, width := 32, acc := .w1c }
/-- RPT_SHADOW.DIGEST4 (R287). -/
def RPT_SHADOW_DIGEST4 : Field := { base := 0xe8000, lo := 0, width := 64, acc := .rw, st1 := 64, n1 := 4096, own := true, view := true }
/-- MNT_CTRL.WD_TIMEOUT (R306). -/
def MNT_CTRL_WD_TIMEOUT : Field := { base := 0xf0000, lo := 0, width := 16, acc := .rw, rst := 2000 }
/-- MNT_STATUS.OWNER (R306). -/
def MNT_STATUS_OWNER : Field := { base := 0xf0008, lo := 0, width := 4, acc := .ro, view := true }
/-- MNT_STATUS.BUSY (R306). -/
def MNT_STATUS_BUSY : Field := { base := 0xf0008, lo := 4, width := 1, acc := .ro, view := true }
/-- MNT_STATUS.CFG_ERR (R306). -/
def MNT_STATUS_CFG_ERR : Field := { base := 0xf0008, lo := 5, width := 1, acc := .w1c }
/-- MNT_STATUS.STARVE (R306). -/
def MNT_STATUS_STARVE : Field := { base := 0xf0008, lo := 16, width := 16, acc := .ro, view := true }
/-- MNT_STATUS.FENCED (R306). -/
def MNT_STATUS_FENCED : Field := { base := 0xf0008, lo := 32, width := 16, acc := .ro, view := true }
/-- MNT_CNT_WD.COUNT (R306). -/
def MNT_CNT_WD_COUNT : Field := { base := 0xf0010, lo := 0, width := 32, acc := .w1c }
/-- MNT_REQ.PRIO (R306). -/
def MNT_REQ_PRIO : Field := { base := 0xf0100, lo := 0, width := 3, acc := .rw, st1 := 256, n1 := 14, own := true, rsts := [4, 6, 6, 2, 5, 3, 3, 5, 4, 7, 1, 7, 3, 0] }
/-- MNT_REQ.STARVE_US (R306). -/
def MNT_REQ_STARVE_US : Field := { base := 0xf0100, lo := 8, width := 16, acc := .rw, rst := 1000, st1 := 256, n1 := 14 }
/-- MNT_REQ.STATE (R306). -/
def MNT_REQ_STATE : Field := { base := 0xf0100, lo := 24, width := 2, acc := .ro, st1 := 256, n1 := 14, view := true }
/-- MNT_REQ.STARVED (R306). -/
def MNT_REQ_STARVED : Field := { base := 0xf0100, lo := 26, width := 1, acc := .w1c, st1 := 256, n1 := 14 }
/-- MNT_REQ.FENCE (R306). -/
def MNT_REQ_FENCE : Field := { base := 0xf0100, lo := 27, width := 1, acc := .wo, st1 := 256, n1 := 14, own := true }
/-- MNT_REQ.UNFENCE (R306). -/
def MNT_REQ_UNFENCE : Field := { base := 0xf0100, lo := 28, width := 1, acc := .wo, st1 := 256, n1 := 14, own := true }
/-- MNT_CNT_GRANT.COUNT (R306). -/
def MNT_CNT_GRANT_COUNT : Field := { base := 0xf0108, lo := 0, width := 48, acc := .w1c, st1 := 256, n1 := 16 }
/-- MNT_CNT_WAIT.COUNT (R306). -/
def MNT_CNT_WAIT_COUNT : Field := { base := 0xf0110, lo := 0, width := 48, acc := .w1c, st1 := 256, n1 := 16 }
/-- MNT_MAX_WAIT.CYCLES (R306). -/
def MNT_MAX_WAIT_CYCLES : Field := { base := 0xf0118, lo := 0, width := 32, acc := .w1c, st1 := 256, n1 := 16 }
/-- SEAM_CTRL.EN (R334). -/
def SEAM_CTRL_EN : Field := { base := 0x100000, lo := 0, width := 1, acc := .rw }
/-- SEAM_CTRL.ROLE (R334). -/
def SEAM_CTRL_ROLE : Field := { base := 0x100000, lo := 1, width := 2, acc := .rw }
/-- SEAM_CTRL.RELEASE (R334). -/
def SEAM_CTRL_RELEASE : Field := { base := 0x100000, lo := 3, width := 1, acc := .rw, own := true }
/-- SEAM_CTRL.S (R334). -/
def SEAM_CTRL_S : Field := { base := 0x100000, lo := 4, width := 5, acc := .rw, rst := 4, own := true }
/-- SEAM_CTRL.MISMATCH_ACT (R334). -/
def SEAM_CTRL_MISMATCH_ACT : Field := { base := 0x100000, lo := 9, width := 1, acc := .rw, rst := 1 }
/-- SEAM_CTRL.SOLO_SRC (R334). -/
def SEAM_CTRL_SOLO_SRC : Field := { base := 0x100000, lo := 10, width := 1, acc := .rw }
/-- SEAM_CTRL.DETACH (R334). -/
def SEAM_CTRL_DETACH : Field := { base := 0x100000, lo := 11, width := 1, acc := .wo, own := true }
/-- SEAM_CTRL.LOSS_TICKS (R334). -/
def SEAM_CTRL_LOSS_TICKS : Field := { base := 0x100000, lo := 16, width := 8, acc := .rw, rst := 16 }
/-- SEAM_STATUS.LSTATE (R334). -/
def SEAM_STATUS_LSTATE : Field := { base := 0x100008, lo := 0, width := 3, acc := .ro, view := true }
/-- SEAM_STATUS.ROLE (R334). -/
def SEAM_STATUS_ROLE : Field := { base := 0x100008, lo := 3, width := 2, acc := .ro, view := true }
/-- SEAM_STATUS.PAIR (R334). -/
def SEAM_STATUS_PAIR : Field := { base := 0x100008, lo := 5, width := 3, acc := .ro, view := true }
/-- SEAM_STATUS.S_SHORT (R334). -/
def SEAM_STATUS_S_SHORT : Field := { base := 0x100008, lo := 8, width := 1, acc := .w1c }
/-- SEAM_STATUS.REFUSED (R334). -/
def SEAM_STATUS_REFUSED : Field := { base := 0x100008, lo := 9, width := 1, acc := .w1c }
/-- SEAM_STATUS.SMIN (R334). -/
def SEAM_STATUS_SMIN : Field := { base := 0x100008, lo := 16, width := 5, acc := .ro }
/-- SEAM_STATUS.DETACH_CAUSE (R334). -/
def SEAM_STATUS_DETACH_CAUSE : Field := { base := 0x100008, lo := 24, width := 3, acc := .ro }
/-- SEAM_DELAY.DLY (R334). -/
def SEAM_DELAY_DLY : Field := { base := 0x100010, lo := 0, width := 16, acc := .ro }
/-- SEAM_SYNC.PROGRESS (R334). -/
def SEAM_SYNC_PROGRESS : Field := { base := 0x100018, lo := 0, width := 7, acc := .ro }
/-- SEAM_SYNC.JOIN (R334). -/
def SEAM_SYNC_JOIN : Field := { base := 0x100018, lo := 16, width := 48, acc := .ro }
/-- SEAM_MISMATCH.STAMP (R334). -/
def SEAM_MISMATCH_STAMP : Field := { base := 0x100020, lo := 0, width := 48, acc := .ro }
/-- SEAM_MISMATCH.GROUP (R334). -/
def SEAM_MISMATCH_GROUP : Field := { base := 0x100020, lo := 48, width := 4, acc := .ro }
/-- SEAM_MISMATCH.SLOT (R334). -/
def SEAM_MISMATCH_SLOT : Field := { base := 0x100020, lo := 52, width := 8, acc := .ro }
/-- SEAM_MISMATCH.ATTRIB (R334). -/
def SEAM_MISMATCH_ATTRIB : Field := { base := 0x100020, lo := 60, width := 2, acc := .ro }
/-- SEAM_MISMATCH.VALID (R334). -/
def SEAM_MISMATCH_VALID : Field := { base := 0x100020, lo := 63, width := 1, acc := .w1c }
/-- SEAM_CNT_DIGEST.COUNT (R334). -/
def SEAM_CNT_DIGEST_COUNT : Field := { base := 0x100100, lo := 0, width := 48, acc := .w1c }
/-- SEAM_CNT_MISMATCH.COUNT (R334). -/
def SEAM_CNT_MISMATCH_COUNT : Field := { base := 0x100108, lo := 0, width := 32, acc := .w1c }
/-- SEAM_CNT_MARKED.COUNT (R334). -/
def SEAM_CNT_MARKED_COUNT : Field := { base := 0x100110, lo := 0, width := 48, acc := .w1c }
/-- SEAM_CNT_UNCHECKED.COUNT (R334). -/
def SEAM_CNT_UNCHECKED_COUNT : Field := { base := 0x100118, lo := 0, width := 48, acc := .w1c }
/-- SEAM_CNT_UNDIGESTED.COUNT (R334). -/
def SEAM_CNT_UNDIGESTED_COUNT : Field := { base := 0x100120, lo := 0, width := 48, acc := .w1c }
/-- SEAM_CNT_MIRROR.COUNT (R334). -/
def SEAM_CNT_MIRROR_COUNT : Field := { base := 0x100128, lo := 0, width := 48, acc := .w1c }
/-- SEAM_CNT_SYNC_DROP.COUNT (R334). -/
def SEAM_CNT_SYNC_DROP_COUNT : Field := { base := 0x100130, lo := 0, width := 48, acc := .w1c }
/-- SEAM_CNT_DETACH.COUNT (R334). -/
def SEAM_CNT_DETACH_COUNT : Field := { base := 0x100138, lo := 0, width := 16, acc := .w1c }
/-- SEAM_CNT_BADMSG.COUNT (R334). -/
def SEAM_CNT_BADMSG_COUNT : Field := { base := 0x100140, lo := 0, width := 32, acc := .w1c }
/-- CSC_CTRL.MEMBER (R354). -/
def CSC_CTRL_MEMBER : Field := { base := 0x110000, lo := 0, width := 4, acc := .rw }
/-- CSC_CTRL.EN (R354). -/
def CSC_CTRL_EN : Field := { base := 0x110000, lo := 4, width := 1, acc := .rw }
/-- CSC_CTRL.GAP_ACT (R354). -/
def CSC_CTRL_GAP_ACT : Field := { base := 0x110000, lo := 5, width := 1, acc := .rw, rst := 1 }
/-- CSC_CTRL.HEAD_SRC (R354). -/
def CSC_CTRL_HEAD_SRC : Field := { base := 0x110000, lo := 6, width := 1, acc := .rw }
/-- CSC_CTRL.LEAVE (R354). -/
def CSC_CTRL_LEAVE : Field := { base := 0x110000, lo := 7, width := 1, acc := .wo, own := true }
/-- CSC_CTRL.JOIN (R354). -/
def CSC_CTRL_JOIN : Field := { base := 0x110000, lo := 8, width := 1, acc := .wo, own := true }
/-- CSC_CTRL.LOSS_TICKS (R354). -/
def CSC_CTRL_LOSS_TICKS : Field := { base := 0x110000, lo := 16, width := 8, acc := .rw, rst := 16 }
/-- CSC_CTRL.RING (R354). -/
def CSC_CTRL_RING : Field := { base := 0x110000, lo := 24, width := 16, acc := .rw }
/-- CSC_STATUS.LSTATE_UP (R354). -/
def CSC_STATUS_LSTATE_UP : Field := { base := 0x110008, lo := 0, width := 3, acc := .ro, view := true }
/-- CSC_STATUS.LSTATE_DOWN (R354). -/
def CSC_STATUS_LSTATE_DOWN : Field := { base := 0x110008, lo := 3, width := 3, acc := .ro, view := true }
/-- CSC_STATUS.STATE (R354). -/
def CSC_STATUS_STATE : Field := { base := 0x110008, lo := 6, width := 2, acc := .ro }
/-- CSC_STATUS.WRAP_UP (R354). -/
def CSC_STATUS_WRAP_UP : Field := { base := 0x110008, lo := 8, width := 1, acc := .ro }
/-- CSC_STATUS.WRAP_DOWN (R354). -/
def CSC_STATUS_WRAP_DOWN : Field := { base := 0x110008, lo := 9, width := 1, acc := .ro }
/-- CSC_STATUS.SLICE_MISSING (R354). -/
def CSC_STATUS_SLICE_MISSING : Field := { base := 0x110008, lo := 10, width := 1, acc := .ro }
/-- CSC_STATUS.CFG_ERR (R354). -/
def CSC_STATUS_CFG_ERR : Field := { base := 0x110008, lo := 11, width := 1, acc := .w1c }
/-- CSC_STATUS.COORD (R354). -/
def CSC_STATUS_COORD : Field := { base := 0x110008, lo := 12, width := 4, acc := .ro }
/-- CSC_STATUS.POSITIONS (R354). -/
def CSC_STATUS_POSITIONS : Field := { base := 0x110008, lo := 16, width := 5, acc := .ro }
/-- CSC_STATUS.REFUSE_CAUSE (R354). -/
def CSC_STATUS_REFUSE_CAUSE : Field := { base := 0x110008, lo := 21, width := 3, acc := .ro }
/-- CSC_LIVE.LIVE (R354). -/
def CSC_LIVE_LIVE : Field := { base := 0x110010, lo := 0, width := 16, acc := .ro }
/-- CSC_LIVE.AGREED (R354). -/
def CSC_LIVE_AGREED : Field := { base := 0x110010, lo := 16, width := 48, acc := .ro }
/-- CSC_TOKEN.INJECT (R354). -/
def CSC_TOKEN_INJECT : Field := { base := 0x110018, lo := 0, width := 16, acc := .rw }
/-- CSC_TOKSLOT.SLOTS (R354). -/
def CSC_TOKSLOT_SLOTS : Field := { base := 0x110020, lo := 0, width := 20, acc := .rw, st1 := 64, n1 := 8 }
/-- CSC_CNT_INJECT.COUNT (R354). -/
def CSC_CNT_INJECT_COUNT : Field := { base := 0x110100, lo := 0, width := 48, acc := .w1c }
/-- CSC_CNT_SEARCHED.COUNT (R354). -/
def CSC_CNT_SEARCHED_COUNT : Field := { base := 0x110108, lo := 0, width := 48, acc := .w1c }
/-- CSC_CNT_INJECT_WAIT.COUNT (R354). -/
def CSC_CNT_INJECT_WAIT_COUNT : Field := { base := 0x110110, lo := 0, width := 32, acc := .w1c }
/-- CSC_CNT_GAP.COUNT (R354). -/
def CSC_CNT_GAP_COUNT : Field := { base := 0x110118, lo := 0, width := 48, acc := .w1c }
/-- CSC_CNT_LATE.COUNT (R354). -/
def CSC_CNT_LATE_COUNT : Field := { base := 0x110120, lo := 0, width := 32, acc := .w1c }
/-- CSC_CNT_DISCARD.COUNT (R354). -/
def CSC_CNT_DISCARD_COUNT : Field := { base := 0x110128, lo := 0, width := 32, acc := .w1c }
/-- CSC_CNT_LEARN_DUP.COUNT (R354). -/
def CSC_CNT_LEARN_DUP_COUNT : Field := { base := 0x110130, lo := 0, width := 32, acc := .w1c }
/-- CSC_CNT_TALLY.COUNT (R354). -/
def CSC_CNT_TALLY_COUNT : Field := { base := 0x110138, lo := 0, width := 48, acc := .w1c }
/-- CSC_CNT_CHANGE.COUNT (R354). -/
def CSC_CNT_CHANGE_COUNT : Field := { base := 0x110140, lo := 0, width := 16, acc := .w1c }
/-- CSC_SLICE.LO (R354). -/
def CSC_SLICE_LO : Field := { base := 0x110400, lo := 0, width := 24, acc := .rw, st1 := 64, n1 := 64, own := true }
/-- CSC_SLICE.HI (R354). -/
def CSC_SLICE_HI : Field := { base := 0x110400, lo := 24, width := 24, acc := .rw, st1 := 64, n1 := 64, own := true }
/-- BOOT_STATUS.STEP (R375). -/
def BOOT_STATUS_STEP : Field := { base := 0x120000, lo := 0, width := 4, acc := .ro, rst := 1 }
/-- BOOT_STATUS.HALTED (R375). -/
def BOOT_STATUS_HALTED : Field := { base := 0x120000, lo := 4, width := 1, acc := .ro }
/-- BOOT_STATUS.HALT_CAUSE (R375). -/
def BOOT_STATUS_HALT_CAUSE : Field := { base := 0x120000, lo := 5, width := 4, acc := .ro }
/-- BOOT_STATUS.RECOV (R375). -/
def BOOT_STATUS_RECOV : Field := { base := 0x120000, lo := 9, width := 2, acc := .ro }
/-- BOOT_STATUS.SEALED (R375). -/
def BOOT_STATUS_SEALED : Field := { base := 0x120000, lo := 11, width := 1, acc := .ro }
/-- BOOT_STATUS.LEDGER_LOST (R375). -/
def BOOT_STATUS_LEDGER_LOST : Field := { base := 0x120000, lo := 12, width := 1, acc := .w1c }
/-- BOOT_STATUS.WAKE (R375). -/
def BOOT_STATUS_WAKE : Field := { base := 0x120000, lo := 13, width := 1, acc := .ro }
/-- BOOT_LEDGER.COUNT (R375). -/
def BOOT_LEDGER_COUNT : Field := { base := 0x120008, lo := 0, width := 3, acc := .ro, view := true }
/-- BOOT_LEDGER.PEND (R375). -/
def BOOT_LEDGER_PEND : Field := { base := 0x120008, lo := 3, width := 1, acc := .ro, view := true }
/-- BOOT_LEDGER.CLR (R375). -/
def BOOT_LEDGER_CLR : Field := { base := 0x120008, lo := 4, width := 1, acc := .ro, view := true }
/-- BOOT_LEDGER.CAUSE (R375). -/
def BOOT_LEDGER_CAUSE : Field := { base := 0x120008, lo := 8, width := 4, acc := .ro, view := true }
/-- BOOT_LEDGER.STEP (R375). -/
def BOOT_LEDGER_STEP : Field := { base := 0x120008, lo := 12, width := 4, acc := .ro, view := true }
/-- BOOT_LEDGER.SEQ (R375). -/
def BOOT_LEDGER_SEQ : Field := { base := 0x120008, lo := 16, width := 32, acc := .ro, view := true }
/-- BOOT_LEDGER_CLR.CLEAR (R375). -/
def BOOT_LEDGER_CLR_CLEAR : Field := { base := 0x120010, lo := 0, width := 1, acc := .wo, own := true }
/-- BOOT_LIMIT.START_LIMIT (R375). -/
def BOOT_LIMIT_START_LIMIT : Field := { base := 0x120018, lo := 0, width := 16, acc := .sl, rst := 2000 }
/-- BOOT_TIME.START_US (R375). -/
def BOOT_TIME_START_US : Field := { base := 0x120020, lo := 0, width := 32, acc := .ro }
/-- BOOT_PROG.PC (R375). -/
def BOOT_PROG_PC : Field := { base := 0x120028, lo := 0, width := 12, acc := .ro }
/-- BOOT_PROG.PROG_ERR (R375). -/
def BOOT_PROG_PROG_ERR : Field := { base := 0x120028, lo := 12, width := 1, acc := .w1c }
/-- BOOT_GPIO.DIR (R375). -/
def BOOT_GPIO_DIR : Field := { base := 0x120030, lo := 0, width := 8, acc := .rw }
/-- BOOT_GPIO.OUT (R375). -/
def BOOT_GPIO_OUT : Field := { base := 0x120030, lo := 8, width := 8, acc := .rw }
/-- BOOT_GPIO.IN (R375). -/
def BOOT_GPIO_IN : Field := { base := 0x120030, lo := 16, width := 8, acc := .ro, view := true }
/-- BOOT_WLOCK.LOCK (R375). -/
def BOOT_WLOCK_LOCK : Field := { base := 0x120038, lo := 0, width := 64, acc := .sl }
/-- BOOT_PMAP.CHN_LO (R375). -/
def BOOT_PMAP_CHN_LO : Field := { base := 0x120100, lo := 0, width := 8, acc := .sl, st1 := 256, n1 := 16 }
/-- BOOT_PMAP.CHN_HI (R375). -/
def BOOT_PMAP_CHN_HI : Field := { base := 0x120100, lo := 8, width := 8, acc := .sl, st1 := 256, n1 := 16 }
/-- BOOT_PMAP.TBL_READ (R375). -/
def BOOT_PMAP_TBL_READ : Field := { base := 0x120100, lo := 16, width := 1, acc := .sl, st1 := 256, n1 := 16 }
/-- BOOT_PMAP.TALLY_READ (R375). -/
def BOOT_PMAP_TALLY_READ : Field := { base := 0x120100, lo := 17, width := 1, acc := .sl, st1 := 256, n1 := 16 }
/-- BOOT_PMAP.TALLY_WRITE (R375). -/
def BOOT_PMAP_TALLY_WRITE : Field := { base := 0x120100, lo := 18, width := 1, acc := .sl, st1 := 256, n1 := 16 }
/-- BOOT_SEARCH.SEARCH (R375). -/
def BOOT_SEARCH_SEARCH : Field := { base := 0x120108, lo := 0, width := 64, acc := .sl, st1 := 256, n1 := 16 }
/-- BOOT_EDIT.EDIT (R375). -/
def BOOT_EDIT_EDIT : Field := { base := 0x120110, lo := 0, width := 64, acc := .sl, st1 := 256, n1 := 16 }
/-- PWR_IDLE.IDLE_MS (R387). -/
def PWR_IDLE_IDLE_MS : Field := { base := 0x130000, lo := 0, width := 22, acc := .rw }
/-- PWR_WAKE_EN.PORT_EN (R387). -/
def PWR_WAKE_EN_PORT_EN : Field := { base := 0x130008, lo := 0, width := 16, acc := .rw }
/-- PWR_WAKE_EN.PAT_ONLY (R387). -/
def PWR_WAKE_EN_PAT_ONLY : Field := { base := 0x130008, lo := 16, width := 16, acc := .rw }
/-- PWR_WAKE_EN.SEAM (R387). -/
def PWR_WAKE_EN_SEAM : Field := { base := 0x130008, lo := 32, width := 1, acc := .rw }
/-- PWR_WAKE_EN.PCIE (R387). -/
def PWR_WAKE_EN_PCIE : Field := { base := 0x130008, lo := 33, width := 1, acc := .rw, rst := 1 }
/-- PWR_IDLE_LEFT.LEFT (R387). -/
def PWR_IDLE_LEFT_LEFT : Field := { base := 0x130010, lo := 0, width := 22, acc := .ro, view := true }
/-- PWR_IDLE_LEFT.RUNNING (R387). -/
def PWR_IDLE_LEFT_RUNNING : Field := { base := 0x130010, lo := 22, width := 1, acc := .ro, view := true }
/-- PWR_LAST_WAKE.VALID (R387). -/
def PWR_LAST_WAKE_VALID : Field := { base := 0x130018, lo := 0, width := 1, acc := .ro, view := true }
/-- PWR_LAST_WAKE.PORT_ACT (R387). -/
def PWR_LAST_WAKE_PORT_ACT : Field := { base := 0x130018, lo := 1, width := 1, acc := .ro, view := true }
/-- PWR_LAST_WAKE.PORT_PAT (R387). -/
def PWR_LAST_WAKE_PORT_PAT : Field := { base := 0x130018, lo := 2, width := 1, acc := .ro, view := true }
/-- PWR_LAST_WAKE.SEAM (R387). -/
def PWR_LAST_WAKE_SEAM : Field := { base := 0x130018, lo := 3, width := 1, acc := .ro, view := true }
/-- PWR_LAST_WAKE.PCIE (R387). -/
def PWR_LAST_WAKE_PCIE : Field := { base := 0x130018, lo := 4, width := 1, acc := .ro, view := true }
/-- PWR_LAST_WAKE.ENTRY_RACE (R387). -/
def PWR_LAST_WAKE_ENTRY_RACE : Field := { base := 0x130018, lo := 5, width := 1, acc := .ro, view := true }
/-- PWR_LAST_WAKE.PORT (R387). -/
def PWR_LAST_WAKE_PORT : Field := { base := 0x130018, lo := 8, width := 4, acc := .ro, view := true }
/-- PWR_LAST_WAKE.COUNT (R387). -/
def PWR_LAST_WAKE_COUNT : Field := { base := 0x130018, lo := 16, width := 16, acc := .ro, view := true }
/-- PWR_LAST_WAKE.DORMANT_S (R387). -/
def PWR_LAST_WAKE_DORMANT_S : Field := { base := 0x130018, lo := 32, width := 32, acc := .ro, view := true }
/-- PWR_GOV.LIMIT (R387). -/
def PWR_GOV_LIMIT : Field := { base := 0x130020, lo := 0, width := 9, acc := .rw, rst := 300 }
/-- PWR_GOV.TJ_LIMIT (R387). -/
def PWR_GOV_TJ_LIMIT : Field := { base := 0x130020, lo := 16, width := 7, acc := .rw, rst := 105 }
/-- PWR_STATUS.POWER (R387). -/
def PWR_STATUS_POWER : Field := { base := 0x130028, lo := 0, width := 9, acc := .ro }
/-- PWR_STATUS.TJ (R387). -/
def PWR_STATUS_TJ : Field := { base := 0x130028, lo := 16, width := 8, acc := .ro }
/-- PWR_STATUS.CAPPING (R387). -/
def PWR_STATUS_CAPPING : Field := { base := 0x130028, lo := 24, width := 1, acc := .ro }
/-- PWR_STATUS.THERMAL (R387). -/
def PWR_STATUS_THERMAL : Field := { base := 0x130028, lo := 25, width := 1, acc := .w1c }
/-- CFG_STATUS.COPY (R407). -/
def CFG_STATUS_COPY : Field := { base := 0x140000, lo := 0, width := 1, acc := .ro }
/-- CFG_STATUS.A_VALID (R407). -/
def CFG_STATUS_A_VALID : Field := { base := 0x140000, lo := 1, width := 1, acc := .ro }
/-- CFG_STATUS.B_VALID (R407). -/
def CFG_STATUS_B_VALID : Field := { base := 0x140000, lo := 2, width := 1, acc := .ro }
/-- CFG_STATUS.SEQ_TIE (R407). -/
def CFG_STATUS_SEQ_TIE : Field := { base := 0x140000, lo := 3, width := 1, acc := .w1c }
/-- CFG_STATUS.MODE_FALLBACK (R407). -/
def CFG_STATUS_MODE_FALLBACK : Field := { base := 0x140000, lo := 4, width := 1, acc := .w1c }
/-- CFG_STATUS.WRITE_TO (R407). -/
def CFG_STATUS_WRITE_TO : Field := { base := 0x140000, lo := 5, width := 1, acc := .w1c }
/-- CFG_STATUS.DAMAGED_A (R407). -/
def CFG_STATUS_DAMAGED_A : Field := { base := 0x140000, lo := 6, width := 1, acc := .w1c }
/-- CFG_STATUS.DAMAGED_B (R407). -/
def CFG_STATUS_DAMAGED_B : Field := { base := 0x140000, lo := 7, width := 1, acc := .w1c }
/-- CFG_STATUS.BP (R407). -/
def CFG_STATUS_BP : Field := { base := 0x140000, lo := 8, width := 2, acc := .ro }
/-- CFG_STATUS.REFRESH (R407). -/
def CFG_STATUS_REFRESH : Field := { base := 0x140000, lo := 10, width := 1, acc := .ro }
/-- CFG_MEM.SIZE (R407). -/
def CFG_MEM_SIZE : Field := { base := 0x140008, lo := 0, width := 5, acc := .ro }
/-- CFG_MEM.ADDR4 (R407). -/
def CFG_MEM_ADDR4 : Field := { base := 0x140008, lo := 5, width := 1, acc := .ro }
/-- CFG_MEM.MODE (R407). -/
def CFG_MEM_MODE : Field := { base := 0x140008, lo := 6, width := 2, acc := .ro }
/-- CFG_MEM.N (R407). -/
def CFG_MEM_N : Field := { base := 0x140008, lo := 8, width := 8, acc := .ro, rst := 32 }
/-- CFG_MEM.PAGE (R407). -/
def CFG_MEM_PAGE : Field := { base := 0x140008, lo := 16, width := 4, acc := .ro }
/-- CFG_IMAGE.SEQ (R407). -/
def CFG_IMAGE_SEQ : Field := { base := 0x140010, lo := 0, width := 32, acc := .ro }
/-- CFG_IMAGE.IMAGE_ID (R407). -/
def CFG_IMAGE_IMAGE_ID : Field := { base := 0x140010, lo := 32, width := 32, acc := .ro }
/-- CFG_CARE.PERIOD_H (R407). -/
def CFG_CARE_PERIOD_H : Field := { base := 0x140018, lo := 0, width := 8, acc := .rw, rst := 24 }
/-- CFG_PT_CMD.OP (R407). -/
def CFG_PT_CMD_OP : Field := { base := 0x140020, lo := 0, width := 2, acc := .rw }
/-- CFG_PT_CMD.GO (R407). -/
def CFG_PT_CMD_GO : Field := { base := 0x140020, lo := 2, width := 1, acc := .wo, own := true }
/-- CFG_PT_CMD.BUSY (R407). -/
def CFG_PT_CMD_BUSY : Field := { base := 0x140020, lo := 3, width := 1, acc := .ro }
/-- CFG_PT_CMD.RESULT (R407). -/
def CFG_PT_CMD_RESULT : Field := { base := 0x140020, lo := 4, width := 3, acc := .ro }
/-- CFG_PT_CMD.LEN (R407). -/
def CFG_PT_CMD_LEN : Field := { base := 0x140020, lo := 8, width := 8, acc := .rw }
/-- CFG_PT_CMD.ADDR (R407). -/
def CFG_PT_CMD_ADDR : Field := { base := 0x140020, lo := 16, width := 23, acc := .rw }
/-- CFG_LOG.COUNT (R407). -/
def CFG_LOG_COUNT : Field := { base := 0x140028, lo := 0, width := 32, acc := .ro }
/-- CFG_LOG.NEXT (R407). -/
def CFG_LOG_NEXT : Field := { base := 0x140028, lo := 32, width := 32, acc := .ro }
/-- CFG_CNT_CORR.COUNT (R407). -/
def CFG_CNT_CORR_COUNT : Field := { base := 0x140100, lo := 0, width := 32, acc := .w1c }
/-- CFG_CNT_UNCORR.COUNT (R407). -/
def CFG_CNT_UNCORR_COUNT : Field := { base := 0x140108, lo := 0, width := 32, acc := .w1c }
/-- CFG_CNT_REFRESH.COUNT (R407). -/
def CFG_CNT_REFRESH_COUNT : Field := { base := 0x140110, lo := 0, width := 32, acc := .w1c }
/-- CFG_CNT_PROTECTED.COUNT (R407). -/
def CFG_CNT_PROTECTED_COUNT : Field := { base := 0x140118, lo := 0, width := 32, acc := .w1c }
/-- CFG_PT_BUF.DATA (R407). -/
def CFG_PT_BUF_DATA : Field := { base := 0x141000, lo := 0, width := 64, acc := .rw, st1 := 64, n1 := 32 }
/-- GLB_ID.PART (R418). -/
def GLB_ID_PART : Field := { base := 0x0, lo := 0, width := 16, acc := .ro, rst := 34368 }
/-- GLB_ID.STEPPING (R418). -/
def GLB_ID_STEPPING : Field := { base := 0x0, lo := 16, width := 8, acc := .ro, view := true }
/-- GLB_CAPS.GALLERIES (R418). -/
def GLB_CAPS_GALLERIES : Field := { base := 0x8, lo := 0, width := 8, acc := .ro, rst := 8 }
/-- GLB_CAPS.PORTS (R418). -/
def GLB_CAPS_PORTS : Field := { base := 0x8, lo := 8, width := 8, acc := .ro, rst := 16 }
/-- GLB_CAPS.TABLES (R418). -/
def GLB_CAPS_TABLES : Field := { base := 0x8, lo := 16, width := 8, acc := .ro, rst := 64 }
/-- GLB_CAPS.CHANNELS (R418). -/
def GLB_CAPS_CHANNELS : Field := { base := 0x8, lo := 24, width := 8, acc := .ro, rst := 255 }
/-- GLB_CAPS.MAXVF (R418). -/
def GLB_CAPS_MAXVF : Field := { base := 0x8, lo := 32, width := 4, acc := .ro, rst := 15 }
/-- GLB_STATE.STATE (R418). -/
def GLB_STATE_STATE : Field := { base := 0x10, lo := 0, width := 2, acc := .ro, view := true }
/-- GLB_STATE.WAKE (R418). -/
def GLB_STATE_WAKE : Field := { base := 0x10, lo := 2, width := 1, acc := .ro, view := true }
/-- GLB_STATE.EPOCH (R418). -/
def GLB_STATE_EPOCH : Field := { base := 0x10, lo := 32, width := 32, acc := .ro }
/-- GLB_TICK.TICK (R418). -/
def GLB_TICK_TICK : Field := { base := 0x18, lo := 0, width := 48, acc := .ro, view := true }
/-- GLB_UPTIME.US (R418). -/
def GLB_UPTIME_US : Field := { base := 0x20, lo := 0, width := 48, acc := .ro, view := true }
/-- GLB_SCRATCH.VALUE (R418). -/
def GLB_SCRATCH_VALUE : Field := { base := 0x28, lo := 0, width := 64, acc := .rw }
/-- GLB_FUNC.NUMVF (R418). -/
def GLB_FUNC_NUMVF : Field := { base := 0x30, lo := 0, width := 4, acc := .ro, view := true }
/-- QUE_CMD_BASE.ADDR (R439). -/
def QUE_CMD_BASE_ADDR : Field := { base := 0x160000, lo := 6, width := 58, acc := .rw, st1 := 32768, n1 := 16 }
/-- QUE_CMD_CTRL.LOG2SIZE (R439). -/
def QUE_CMD_CTRL_LOG2SIZE : Field := { base := 0x160008, lo := 0, width := 4, acc := .rw, rst := 6, st1 := 32768, n1 := 16 }
/-- QUE_CMD_CTRL.EN (R439). -/
def QUE_CMD_CTRL_EN : Field := { base := 0x160008, lo := 4, width := 1, acc := .rw, st1 := 32768, n1 := 16, own := true }
/-- QUE_CMD_TAIL.TAIL (R439). -/
def QUE_CMD_TAIL_TAIL : Field := { base := 0x160010, lo := 0, width := 12, acc := .rw, st1 := 32768, n1 := 16, own := true }
/-- QUE_CMD_HEAD.HEAD (R439). -/
def QUE_CMD_HEAD_HEAD : Field := { base := 0x160018, lo := 0, width := 12, acc := .ro, st1 := 32768, n1 := 16 }
/-- QUE_CPL_BASE.ADDR (R439). -/
def QUE_CPL_BASE_ADDR : Field := { base := 0x160020, lo := 4, width := 60, acc := .rw, st1 := 32768, n1 := 16 }
/-- QUE_CPL_CTRL.LOG2SIZE (R439). -/
def QUE_CPL_CTRL_LOG2SIZE : Field := { base := 0x160028, lo := 0, width := 4, acc := .rw, rst := 6, st1 := 32768, n1 := 16 }
/-- QUE_CPL_CTRL.EN (R439). -/
def QUE_CPL_CTRL_EN : Field := { base := 0x160028, lo := 4, width := 1, acc := .rw, st1 := 32768, n1 := 16, own := true }
/-- QUE_CPL_CTRL.VECTOR (R439). -/
def QUE_CPL_CTRL_VECTOR : Field := { base := 0x160028, lo := 5, width := 6, acc := .rw, st1 := 32768, n1 := 16 }
/-- QUE_CPL_HEAD.HEAD (R439). -/
def QUE_CPL_HEAD_HEAD : Field := { base := 0x160030, lo := 0, width := 12, acc := .rw, st1 := 32768, n1 := 16 }
/-- QUE_CPL_TAIL.TAIL (R439). -/
def QUE_CPL_TAIL_TAIL : Field := { base := 0x160038, lo := 0, width := 12, acc := .ro, st1 := 32768, n1 := 16 }
/-- QUE_STATUS.TAIL_ERR (R439). -/
def QUE_STATUS_TAIL_ERR : Field := { base := 0x160040, lo := 0, width := 1, acc := .w1c, st1 := 32768, n1 := 16 }
/-- QUE_STATUS.SIZE_ERR (R439). -/
def QUE_STATUS_SIZE_ERR : Field := { base := 0x160040, lo := 1, width := 1, acc := .w1c, st1 := 32768, n1 := 16 }
/-- QUE_STATUS.CPL_FULL (R439). -/
def QUE_STATUS_CPL_FULL : Field := { base := 0x160040, lo := 2, width := 1, acc := .ro, st1 := 32768, n1 := 16 }
/-- QUE_STATUS.DMA_ERR (R439). -/
def QUE_STATUS_DMA_ERR : Field := { base := 0x160040, lo := 3, width := 1, acc := .w1c, st1 := 32768, n1 := 16 }
/-- QUE_STATUS.CFG_ERR (R439). -/
def QUE_STATUS_CFG_ERR : Field := { base := 0x160040, lo := 4, width := 1, acc := .w1c, st1 := 32768, n1 := 16 }
/-- QUE_STATUS.OWED (R439). -/
def QUE_STATUS_OWED : Field := { base := 0x160040, lo := 8, width := 13, acc := .ro, st1 := 32768, n1 := 16, view := true }
/-- QUE_EVPEND.PEND (R439). -/
def QUE_EVPEND_PEND : Field := { base := 0x160080, lo := 0, width := 64, acc := .w1c, st1 := 64, n1 := 16, st2 := 32768, n2 := 16, own := true, view := true }
/-- QUE_EVQ_POP.RECORD (R439). -/
def QUE_EVQ_POP_RECORD : Field := { base := 0x160100, lo := 0, width := 64, acc := .ro, view := true }
/-- QUE_EVQ_STATUS.FILL (R439). -/
def QUE_EVQ_STATUS_FILL : Field := { base := 0x160108, lo := 0, width := 13, acc := .ro, view := true }
/-- QUE_EVQ_CTRL.IDLE_US (R439). -/
def QUE_EVQ_CTRL_IDLE_US : Field := { base := 0x160110, lo := 0, width := 16, acc := .rw, own := true }
/-- QUE_CAP_CTRL.PORT (R439). -/
def QUE_CAP_CTRL_PORT : Field := { base := 0x160800, lo := 0, width := 4, acc := .rw, st1 := 512, n1 := 8 }
/-- QUE_CAP_CTRL.MODE (R439). -/
def QUE_CAP_CTRL_MODE : Field := { base := 0x160800, lo := 4, width := 2, acc := .rw, st1 := 512, n1 := 8 }
/-- QUE_CAP_CTRL.FUNC (R439). -/
def QUE_CAP_CTRL_FUNC : Field := { base := 0x160800, lo := 6, width := 4, acc := .rw, st1 := 512, n1 := 8 }
/-- QUE_CAP_CTRL.IDLE_US (R439). -/
def QUE_CAP_CTRL_IDLE_US : Field := { base := 0x160800, lo := 16, width := 16, acc := .rw, st1 := 512, n1 := 8, own := true }
/-- QUE_CAP_POP.WORD (R439). -/
def QUE_CAP_POP_WORD : Field := { base := 0x160808, lo := 0, width := 64, acc := .ro, st1 := 512, n1 := 8, view := true }
/-- QUE_CAP_STATUS.FILL (R439). -/
def QUE_CAP_STATUS_FILL : Field := { base := 0x160810, lo := 0, width := 15, acc := .ro, st1 := 512, n1 := 8, view := true }
/-- QUE_CAP_CNT_DROP.COUNT (R439). -/
def QUE_CAP_CNT_DROP_COUNT : Field := { base := 0x160818, lo := 0, width := 32, acc := .w1c, st1 := 512, n1 := 8 }
/-- EVT_SRC.EN (R440). -/
def EVT_SRC_EN : Field := { base := 0x150000, lo := 0, width := 1, acc := .rw, st1 := 64, n1 := 1024 }
/-- EVT_SRC.QUEUE (R440). -/
def EVT_SRC_QUEUE : Field := { base := 0x150000, lo := 1, width := 1, acc := .rw, rst := 1, st1 := 64, n1 := 1024 }
/-- EVT_SRC.VECTOR (R440). -/
def EVT_SRC_VECTOR : Field := { base := 0x150000, lo := 2, width := 6, acc := .rw, st1 := 64, n1 := 1024 }
/-- EVT_SRC.PINS (R440). -/
def EVT_SRC_PINS : Field := { base := 0x150000, lo := 8, width := 4, acc := .rw, st1 := 64, n1 := 1024 }
/-- EVT_SRC.FUNC (R440). -/
def EVT_SRC_FUNC : Field := { base := 0x150000, lo := 12, width := 4, acc := .rw, st1 := 64, n1 := 1024 }
/-- EVT_SRC.VFVEC (R440). -/
def EVT_SRC_VFVEC : Field := { base := 0x150000, lo := 16, width := 2, acc := .rw, st1 := 64, n1 := 1024 }
/-- EVT_SRC.PEND (R440). -/
def EVT_SRC_PEND : Field := { base := 0x150000, lo := 24, width := 1, acc := .w1c, st1 := 64, n1 := 1024, own := true }
/-- EVT_SRC.COUNT (R440). -/
def EVT_SRC_COUNT : Field := { base := 0x150000, lo := 32, width := 8, acc := .ro, st1 := 64, n1 := 1024 }
/-- EVT_VEC.HOLDOFF_US (R440). -/
def EVT_VEC_HOLDOFF_US : Field := { base := 0x152000, lo := 0, width := 16, acc := .rw, st1 := 64, n1 := 64 }
/-- EVT_STATUS.PINS (R440). -/
def EVT_STATUS_PINS : Field := { base := 0x152200, lo := 0, width := 4, acc := .ro, view := true }
/-- EVT_STATUS.EVQ_OVERFLOW (R440). -/
def EVT_STATUS_EVQ_OVERFLOW : Field := { base := 0x152200, lo := 4, width := 1, acc := .w1c }
/-- EVT_CNT_LOST.COUNT (R440). -/
def EVT_CNT_LOST_COUNT : Field := { base := 0x152208, lo := 0, width := 32, acc := .w1c }
/-- EVT_CNT_RAISED.COUNT (R440). -/
def EVT_CNT_RAISED_COUNT : Field := { base := 0x152210, lo := 0, width := 48, acc := .w1c }

/-- The fields of the TCK region. -/
def allTCK : List Field :=
  [TCK_CTRL_SRC, TCK_CTRL_ADMIT_EN, TCK_CTRL_LOSS_ACTION, TCK_CTRL_LOSS_LIMIT, TCK_CTRL_TICK_OUT_EN, TCK_PERIOD_PERIOD, TCK_GUARD_GUARD, TCK_LATENCY_L, TCK_LATENCY_LMIN, TCK_LATENCY_SPAN, TCK_MEAS_PMEAS, TCK_MEAS_OFFSET, TCK_MEAS_STRETCH, TCK_STATUS_LOCKED, TCK_STATUS_LOST, TCK_STATUS_ADMIT_OPEN, TCK_STATUS_BLOCK, TCK_STATUS_CFG_ERR, TCK_PRESET_VALUE, TCK_PRESET_ARM, TCK_ACT_ACT_FACTOR, TCK_ACT_CAP, TCK_AHEAD_AHEAD_MAX, TCK_CNT_LATE_COUNT, TCK_CNT_EARLY_COUNT, TCK_CNT_MISSED_COUNT, TCK_CNT_AHEAD_COUNT, TCK_GAL_USE_SLOTS, TCK_GAL_USE_ACTS, TCK_GAL_USE_FETCH, TCK_GAL_SHORT_RECORDS, TCK_GAL_SHORT_CAUSE]
/-- The fields of the PRT region. -/
def allPRT : List Field :=
  [PRT_CTRL_EN, PRT_CTRL_CAPTURE_EN, PRT_CTRL_FLUSH, PRT_CTRL_SELFTEST, PRT_CTRL_RETRAIN, PRT_STATUS_LSTATE, PRT_STATUS_RESYNC, PRT_STATUS_SELFTEST_DONE, PRT_STATUS_SELFTEST_PASS, PRT_STATUS_QMODE, PRT_CREDIT_IN_HELD, PRT_CREDIT_OUT_HELD, PRT_CREDIT_OUT_GRANT, PRT_QUEUE_FILL, PRT_QUEUE_WAITING, PRT_TXEQ_PRE, PRT_TXEQ_MAIN, PRT_TXEQ_POST, PRT_EGRESS_VERDICTS, PRT_CNT_RECORDS_COUNT, PRT_CNT_VERDICTS_COUNT, PRT_CNT_FEC_CORR_COUNT, PRT_CNT_FEC_UNCORR_COUNT, PRT_CNT_REWIND_COUNT, PRT_CNT_CREDIT_VIOL_COUNT, PRT_CNT_POISON_COUNT, PRT_CNT_CORR_COUNT, PRT_CNT_UNCORR_COUNT, PRT_CNT_FLUSHED_COUNT, PRT_CNT_SEQGAP_COUNT, PRT_CNT_EGRESS_WAIT_COUNT, PRT_CNT_VERDICT_DROP_COUNT, PRT_CNT_CAPDROP_COUNT, PRT_CNT_BADLINK_COUNT, PRT_CNT_LINKDOWN_COUNT]
/-- The fields of the CHN region. -/
def allCHN : List Field :=
  [CHN_LIVE_COUNT, CHN_QSUM_LO_SUM, CHN_QSUM_HI_SUM, CHN_CNT_ORPHAN_COUNT, CHN_HANDLE_HANDLE, CHN_HANDLE_STATE, CHN_HANDLE_OWNER, CHN_HANDLE_STANDING, CHN_STATUS_STALL, CHN_STATUS_SHORT, CHN_STATUS_ORPHAN, CHN_STATUS_POISON_REFUSED, CHN_STATUS_QUOTA_ERR, CHN_STATUS_CREATE_FAIL, CHN_STATUS_CLOSED, CHN_STATUS_WAIT_AGE, CHN_LOOKUP_DESC, CHN_EGRESS_EGRESS, CHN_QUOTA_LO_QF, CHN_QUOTA_HI_QF, CHN_CTRL_NSEG, CHN_CTRL_STALL_LIMIT, CHN_CNT_RECORDS_COUNT, CHN_CNT_LATE_COUNT, CHN_CNT_CLOSED_COUNT, CHN_CNT_POISON_COUNT, CHN_CNT_SHORT_COUNT, CHN_CNT_HIT_COUNT, CHN_CNT_MISS_COUNT, CHN_SEG_SEGMENT]
/-- The fields of the GAL region. -/
def allGAL : List Field :=
  [GAL_CTRL_BROAD_LIMIT, GAL_CTRL_SKEW_BROAD, GAL_CTRL_SKEW_ACT, GAL_STATUS_SKEW, GAL_STATUS_REJECT, GAL_STATUS_UNCERTAIN, GAL_STATUS_SPARE_EXHAUSTED, GAL_DRAWERS_FREE, GAL_DRAWERS_BROAD, GAL_DRAWERS_RETIRED, GAL_DRAWERS_SPARES, GAL_CATALOGUE_CODES_USED, GAL_CATALOGUE_BAYS, GAL_ACT_MEAN_MEAN, GAL_CNT_SEARCH_COUNT, GAL_CNT_ACT_COUNT, GAL_CNT_CONFIRM_COUNT, GAL_CNT_REJECT_COUNT, GAL_CNT_UNCORR_COUNT, GAL_CNT_CORR_COUNT, GAL_CNT_UNCERTAIN_COUNT, GAL_CNT_SPILL_LOST_COUNT, GAL_CNT_BROAD_PLACED_COUNT, GAL_CNT_SPLIT_COUNT, GAL_DRAWER_TABLE, GAL_DRAWER_BROAD, GAL_DRAWER_BAY, GAL_DRAWER_STATE, GAL_DRAWER_USED, GAL_DRAWER_REJECTS, GAL_CAB_VEST_USED, GAL_CAB_TRANS_USED, GAL_CAB_SPARE_POS, GAL_CAB_FENCED]
/-- The fields of the TBL region. -/
def allTBL : List Field :=
  [TBL_ATTR_ATTR, TBL_STATE_STATE, TBL_STATE_LOCKED, TBL_STATE_WRITE_LOCK, TBL_STATE_IMAGE_DIFF, TBL_STATE_FENCED_UNIT, TBL_STATE_OUT_OF_SERVICE, TBL_STATE_GROUP, TBL_STATE_OWNER, TBL_ENTRIES_COUNT, TBL_ENTRIES_LEARNED, TBL_STAGED_VEST, TBL_STAGED_UNPERSISTED, TBL_LEARN_LAST, TBL_LEARN_FREE, TBL_TALLY_NBLK, TBL_TALLY_FIRST_BLK, TBL_TALLY_USED, TBL_COMMIT_SEQ_SEQ, TBL_LEASE_LEFT, TBL_STATUS_LEARN_FULL, TBL_STATUS_VESTIBULE_FULL, TBL_STATUS_DEGRADED, TBL_STATUS_ABORT_LEASE, TBL_STATUS_ABORT_FLR, TBL_STATUS_ABORT_SEAM, TBL_STATUS_NO_TALLY, TBL_DESC_WORD, TBL_MASK_MASK, TBL_CNT_INSERT_COUNT, TBL_CNT_DELETE_COUNT, TBL_CNT_MODIFY_COUNT, TBL_CNT_ACCESSION_COUNT, TBL_CNT_LEARN_FULL_COUNT, TBL_CNT_COMMIT_COUNT, TBL_CNT_ABORT_COUNT, TBL_CNT_MIGRATE_COUNT, TBL_CNT_RELOCATE_COUNT, TBL_CNT_NO_TALLY_COUNT, TBL_CNT_LOST_COUNT]
/-- The fields of the TBLG region. -/
def allTBLG : List Field :=
  [TBLG_CTRL_LEASE_DEF, TBLG_CTRL_VEST_WAIT, TBLG_LOSS_COUNT, TBLG_LOSS_OVERFLOW, TBLG_LOSS_HEAD_ID, TBLG_LOSS_HEAD_TABLE, TBLG_LOSS_HEAD_CAUSE, TBLG_LOSS_HEAD_VALID, TBLG_LOSS_NEXT_NEXT, TBLG_JOURNAL_USED, TBLG_DLEARN_DL]
/-- The fields of the CUR region. -/
def allCUR : List Field :=
  [CUR_CTRL_TWIN_RESTORE, CUR_CTRL_SELFTEST_AUTO, CUR_CTRL_RETIRE_AUTO, CUR_CTRL_HIST_CLEAR, CUR_CTRL_ROTATE_H, CUR_STATUS_CONSERV, CUR_STATUS_CONSERV_LEFT, CUR_STATUS_WEAR_STAGE, CUR_STATUS_SWEEP_LATE, CUR_STATUS_DIGEST_MISMATCH, CUR_STATUS_RESTORE_FAIL, CUR_STATUS_FULLTEST_REFUSED, CUR_STATUS_SUSPECT, CUR_SWEEP_PERIOD_MS, CUR_SWEEP_LAST_MS, CUR_SWEEP_COUNT, CUR_SCRUB_PERIOD_H, CUR_SCRUB_MARGIN, CUR_SCRUB_REFRESH_THRESH, CUR_SCRUB_QUEUED, CUR_CAL_PERIOD_MS, CUR_CAL_DRIFT_LIMIT, CUR_CAL_WINDOW_MIN, CUR_CAL_TEMP_STEP, CUR_CAL_GO, CUR_WEAR_BAL_BALANCE, CUR_WEAR_CTRL_RES_MIN_MS, CUR_WEAR_CTRL_RES_MAX_S, CUR_WEAR_CTRL_LEVEL_SPREAD, CUR_WEAR_RATE_RATE, CUR_SELFTEST_GAL, CUR_SELFTEST_CAB, CUR_SELFTEST_POS, CUR_SELFTEST_GO, CUR_SELFTEST_RESULT, CUR_SELFTEST_REFUSED, CUR_RETIRE_GAL, CUR_RETIRE_CAB, CUR_RETIRE_POS, CUR_RETIRE_GO] ++
  [CUR_RETIRE_RESULT, CUR_RETIRE_REFUSED, CUR_FULLTEST_GO, CUR_FULLTEST_ERASE, CUR_FULLTEST_DONE, CUR_FULLTEST_PASS, CUR_FULLTEST_PROGRESS, CUR_RESTORE_PENDING, CUR_RESTORE_RESTORED, CUR_RESTORE_REFUSED, CUR_CAB_MREF, CUR_CAB_RREF, CUR_CAB_WIDTH, CUR_CAB_DRIFT, CUR_CAB_CAL_FAIL, CUR_CAB_FENCE, CUR_CAB_UNFENCE, CUR_CAB_JOURNAL_FREE, CUR_CNT_WRITES_COUNT, CUR_CNT_RETRY_COUNT, CUR_CNT_DEFECT_COUNT, CUR_CNT_SCRUBBED_COUNT, CUR_CNT_REFRESH_COUNT, CUR_CNT_RECOVERED_COUNT, CUR_CNT_FALSE_MISS_COUNT, CUR_CNT_LOST_COUNT, CUR_CNT_SWAP_COUNT, CUR_CNT_DEFER_COUNT, CUR_DRAWER_WEAR, CUR_DRAWER_DEFECTS, CUR_DRAWER_SUSPECT, CUR_DRAWER_DIRTY]
/-- The fields of the WRD region. -/
def allWRD : List Field :=
  [WRD_CTRL_LOCK, WRD_CTRL_HIT_MIN, WRD_STATUS_HIT_LOW, WRD_STATUS_STAGING_FULL, WRD_STATUS_STORE_UNCORR, WRD_STATUS_PIN_CONFLICT, WRD_HIT_RATE, WRD_HIT_WORST_SET, WRD_HIT_WORST_EVICT, WRD_FILL_STAGED, WRD_FILL_DIRTY, WRD_PIN_BASE, WRD_PIN_COUNT, WRD_PIN_TABLE, WRD_PIN_EN, WRD_PIN_STATE, WRD_PINC_CONF_SET, WRD_PINC_CONF_SETS, WRD_CNT_FETCH_COUNT, WRD_CNT_HIT_COUNT, WRD_CNT_STAGED_HIT_COUNT, WRD_CNT_BYPASS_COUNT, WRD_CNT_EVICT_DIRTY_COUNT, WRD_CNT_FILL_DISCARD_COUNT, WRD_CNT_DIRTY_LOST_COUNT, WRD_CNT_STORE_CORR_COUNT, WRD_CNT_STORE_UNCORR_COUNT, WRD_WAYS_MASK, WRD_TBL_OUTSIDE, WRD_TBL_HELD]
/-- The fields of the RPT region. -/
def allRPT : List Field :=
  [RPT_CTRL_AGE_S, RPT_CTRL_SHADOW_EN, RPT_CTRL_SHADOW_MS, RPT_STATUS_SHADOW_MISMATCH, RPT_STATUS_INS_FAIL, RPT_STATUS_STATIC_FAIL, RPT_FILL_VALID, RPT_FILL_STATIC, RPT_STATIC_TAG, RPT_STATIC_PORT, RPT_STATIC_OP, RPT_STATIC_GO, RPT_STATIC_BUSY, RPT_STATIC_RESULT, RPT_MISMATCH_BUCKET, RPT_SHADOW_SET_BUCKET, RPT_SHADOW_SET_DIGEST, RPT_CNT_LEARN_COUNT, RPT_CNT_MOVE_COUNT, RPT_CNT_TAG_SPLIT_COUNT, RPT_CNT_STATIC_HOLD_COUNT, RPT_CNT_INS_FAIL_COUNT, RPT_CNT_FLOOD_COUNT, RPT_CNT_UNROUTED_COUNT, RPT_CNT_VERDICT_DEFAULT_COUNT, RPT_CNT_AGED_COUNT, RPT_CNT_EVICT_COUNT, RPT_CNT_SHADOW_MISMATCH_COUNT, RPT_CNT_UNCORR_COUNT, RPT_CNT_SITE_OFF_COUNT, RPT_CNT_SITE_CORR_COUNT, RPT_CNT_SITE_UNCORR_COUNT, RPT_SHADOW_DIGEST4]
/-- The fields of the MNT region. -/
def allMNT : List Field :=
  [MNT_CTRL_WD_TIMEOUT, MNT_STATUS_OWNER, MNT_STATUS_BUSY, MNT_STATUS_CFG_ERR, MNT_STATUS_STARVE, MNT_STATUS_FENCED, MNT_CNT_WD_COUNT, MNT_REQ_PRIO, MNT_REQ_STARVE_US, MNT_REQ_STATE, MNT_REQ_STARVED, MNT_REQ_FENCE, MNT_REQ_UNFENCE, MNT_CNT_GRANT_COUNT, MNT_CNT_WAIT_COUNT, MNT_MAX_WAIT_CYCLES]
/-- The fields of the SEAM region. -/
def allSEAM : List Field :=
  [SEAM_CTRL_EN, SEAM_CTRL_ROLE, SEAM_CTRL_RELEASE, SEAM_CTRL_S, SEAM_CTRL_MISMATCH_ACT, SEAM_CTRL_SOLO_SRC, SEAM_CTRL_DETACH, SEAM_CTRL_LOSS_TICKS, SEAM_STATUS_LSTATE, SEAM_STATUS_ROLE, SEAM_STATUS_PAIR, SEAM_STATUS_S_SHORT, SEAM_STATUS_REFUSED, SEAM_STATUS_SMIN, SEAM_STATUS_DETACH_CAUSE, SEAM_DELAY_DLY, SEAM_SYNC_PROGRESS, SEAM_SYNC_JOIN, SEAM_MISMATCH_STAMP, SEAM_MISMATCH_GROUP, SEAM_MISMATCH_SLOT, SEAM_MISMATCH_ATTRIB, SEAM_MISMATCH_VALID, SEAM_CNT_DIGEST_COUNT, SEAM_CNT_MISMATCH_COUNT, SEAM_CNT_MARKED_COUNT, SEAM_CNT_UNCHECKED_COUNT, SEAM_CNT_UNDIGESTED_COUNT, SEAM_CNT_MIRROR_COUNT, SEAM_CNT_SYNC_DROP_COUNT, SEAM_CNT_DETACH_COUNT, SEAM_CNT_BADMSG_COUNT]
/-- The fields of the CSC region. -/
def allCSC : List Field :=
  [CSC_CTRL_MEMBER, CSC_CTRL_EN, CSC_CTRL_GAP_ACT, CSC_CTRL_HEAD_SRC, CSC_CTRL_LEAVE, CSC_CTRL_JOIN, CSC_CTRL_LOSS_TICKS, CSC_CTRL_RING, CSC_STATUS_LSTATE_UP, CSC_STATUS_LSTATE_DOWN, CSC_STATUS_STATE, CSC_STATUS_WRAP_UP, CSC_STATUS_WRAP_DOWN, CSC_STATUS_SLICE_MISSING, CSC_STATUS_CFG_ERR, CSC_STATUS_COORD, CSC_STATUS_POSITIONS, CSC_STATUS_REFUSE_CAUSE, CSC_LIVE_LIVE, CSC_LIVE_AGREED, CSC_TOKEN_INJECT, CSC_TOKSLOT_SLOTS, CSC_CNT_INJECT_COUNT, CSC_CNT_SEARCHED_COUNT, CSC_CNT_INJECT_WAIT_COUNT, CSC_CNT_GAP_COUNT, CSC_CNT_LATE_COUNT, CSC_CNT_DISCARD_COUNT, CSC_CNT_LEARN_DUP_COUNT, CSC_CNT_TALLY_COUNT, CSC_CNT_CHANGE_COUNT, CSC_SLICE_LO, CSC_SLICE_HI]
/-- The fields of the BOOT region. -/
def allBOOT : List Field :=
  [BOOT_STATUS_STEP, BOOT_STATUS_HALTED, BOOT_STATUS_HALT_CAUSE, BOOT_STATUS_RECOV, BOOT_STATUS_SEALED, BOOT_STATUS_LEDGER_LOST, BOOT_STATUS_WAKE, BOOT_LEDGER_COUNT, BOOT_LEDGER_PEND, BOOT_LEDGER_CLR, BOOT_LEDGER_CAUSE, BOOT_LEDGER_STEP, BOOT_LEDGER_SEQ, BOOT_LEDGER_CLR_CLEAR, BOOT_LIMIT_START_LIMIT, BOOT_TIME_START_US, BOOT_PROG_PC, BOOT_PROG_PROG_ERR, BOOT_GPIO_DIR, BOOT_GPIO_OUT, BOOT_GPIO_IN, BOOT_WLOCK_LOCK, BOOT_PMAP_CHN_LO, BOOT_PMAP_CHN_HI, BOOT_PMAP_TBL_READ, BOOT_PMAP_TALLY_READ, BOOT_PMAP_TALLY_WRITE, BOOT_SEARCH_SEARCH, BOOT_EDIT_EDIT]
/-- The fields of the PWR region. -/
def allPWR : List Field :=
  [PWR_IDLE_IDLE_MS, PWR_WAKE_EN_PORT_EN, PWR_WAKE_EN_PAT_ONLY, PWR_WAKE_EN_SEAM, PWR_WAKE_EN_PCIE, PWR_IDLE_LEFT_LEFT, PWR_IDLE_LEFT_RUNNING, PWR_LAST_WAKE_VALID, PWR_LAST_WAKE_PORT_ACT, PWR_LAST_WAKE_PORT_PAT, PWR_LAST_WAKE_SEAM, PWR_LAST_WAKE_PCIE, PWR_LAST_WAKE_ENTRY_RACE, PWR_LAST_WAKE_PORT, PWR_LAST_WAKE_COUNT, PWR_LAST_WAKE_DORMANT_S, PWR_GOV_LIMIT, PWR_GOV_TJ_LIMIT, PWR_STATUS_POWER, PWR_STATUS_TJ, PWR_STATUS_CAPPING, PWR_STATUS_THERMAL]
/-- The fields of the CFG region. -/
def allCFG : List Field :=
  [CFG_STATUS_COPY, CFG_STATUS_A_VALID, CFG_STATUS_B_VALID, CFG_STATUS_SEQ_TIE, CFG_STATUS_MODE_FALLBACK, CFG_STATUS_WRITE_TO, CFG_STATUS_DAMAGED_A, CFG_STATUS_DAMAGED_B, CFG_STATUS_BP, CFG_STATUS_REFRESH, CFG_MEM_SIZE, CFG_MEM_ADDR4, CFG_MEM_MODE, CFG_MEM_N, CFG_MEM_PAGE, CFG_IMAGE_SEQ, CFG_IMAGE_IMAGE_ID, CFG_CARE_PERIOD_H, CFG_PT_CMD_OP, CFG_PT_CMD_GO, CFG_PT_CMD_BUSY, CFG_PT_CMD_RESULT, CFG_PT_CMD_LEN, CFG_PT_CMD_ADDR, CFG_LOG_COUNT, CFG_LOG_NEXT, CFG_CNT_CORR_COUNT, CFG_CNT_UNCORR_COUNT, CFG_CNT_REFRESH_COUNT, CFG_CNT_PROTECTED_COUNT, CFG_PT_BUF_DATA]
/-- The fields of the GLB region. -/
def allGLB : List Field :=
  [GLB_ID_PART, GLB_ID_STEPPING, GLB_CAPS_GALLERIES, GLB_CAPS_PORTS, GLB_CAPS_TABLES, GLB_CAPS_CHANNELS, GLB_CAPS_MAXVF, GLB_STATE_STATE, GLB_STATE_WAKE, GLB_STATE_EPOCH, GLB_TICK_TICK, GLB_UPTIME_US, GLB_SCRATCH_VALUE, GLB_FUNC_NUMVF]
/-- The fields of the QUE region. -/
def allQUE : List Field :=
  [QUE_CMD_BASE_ADDR, QUE_CMD_CTRL_LOG2SIZE, QUE_CMD_CTRL_EN, QUE_CMD_TAIL_TAIL, QUE_CMD_HEAD_HEAD, QUE_CPL_BASE_ADDR, QUE_CPL_CTRL_LOG2SIZE, QUE_CPL_CTRL_EN, QUE_CPL_CTRL_VECTOR, QUE_CPL_HEAD_HEAD, QUE_CPL_TAIL_TAIL, QUE_STATUS_TAIL_ERR, QUE_STATUS_SIZE_ERR, QUE_STATUS_CPL_FULL, QUE_STATUS_DMA_ERR, QUE_STATUS_CFG_ERR, QUE_STATUS_OWED, QUE_EVPEND_PEND, QUE_EVQ_POP_RECORD, QUE_EVQ_STATUS_FILL, QUE_EVQ_CTRL_IDLE_US, QUE_CAP_CTRL_PORT, QUE_CAP_CTRL_MODE, QUE_CAP_CTRL_FUNC, QUE_CAP_CTRL_IDLE_US, QUE_CAP_POP_WORD, QUE_CAP_STATUS_FILL, QUE_CAP_CNT_DROP_COUNT]
/-- The fields of the EVT region. -/
def allEVT : List Field :=
  [EVT_SRC_EN, EVT_SRC_QUEUE, EVT_SRC_VECTOR, EVT_SRC_PINS, EVT_SRC_FUNC, EVT_SRC_VFVEC, EVT_SRC_PEND, EVT_SRC_COUNT, EVT_VEC_HOLDOFF_US, EVT_STATUS_PINS, EVT_STATUS_EVQ_OVERFLOW, EVT_CNT_LOST_COUNT, EVT_CNT_RAISED_COUNT]
/-- Every register field of the device. -/
def all : List Field :=
  allTCK ++ allPRT ++ allCHN ++ allGAL ++ allTBL ++ allTBLG ++ allCUR ++ allWRD ++ allRPT ++ allMNT ++ allSEAM ++ allCSC ++ allBOOT ++ allPWR ++ allCFG ++ allGLB ++ allQUE ++ allEVT

end Reg

end Sys2Proof.Machine
end

