-- ==== Sys2Proof/Machine/State.lean ====
section
/-! DEFINITION. The state of the device as plain data: registers by field, every queue, buffer, table, non-volatile
structure and pin the manual gives it, the queue of waiting commands, and State.reset. -/

namespace Sys2Proof.Machine

/-! ## Outcomes -/

/-- Reasons to stop with a fault. The manual gives the block no fault that stops it: every error it describes is a
register bit, a completion status or an event, after which the device runs on. -/
inductive Fault where
  /-- Raised by no meaning: kept so that the type has a name to list. Safe. -/
  | none
  deriving DecidableEq, Repr

/-- Reasons to refuse a command. -/
inductive Refusal where
  /-- A row of the opcode table without a meaning yet; raised by an arm of exec only. Safe. -/
  | notModelled (mnemonic : String)
  deriving DecidableEq, Repr

/-! ## Device state, pins, TAP, boot -/

/-- The four device states (Table 1-8). -/
inductive Mode where
  | startUp | service | recovery | dormant
  deriving DecidableEq, Repr

/-- TAP instructions (Table 17-8). -/
inductive TapIr where
  | extest | idcode | sample | highz | clamp | extestPulse | extestTrain | fuseRead | fuseProg | bypass
  deriving DecidableEq, Repr

/-- The TAP (R452): its instruction and the data register it last captured. -/
structure Tap where
  ir : TapIr := .idcode
  dr : BitVec 128 := 0
  deriving DecidableEq, Repr

/-- Input pins and supplies as the device sees them (R356, R442, R444), the GPIO input levels and the levels the
pins had at gating (Table 14-1). -/
structure Pins where
  resetL : Bool := true
  perstL : Bool := true
  core : Bool := true
  sds : Bool := true
  io : Bool := true
  aon : Bool := true
  unwatched : Bool := true
  gpioIn : BitVec 8 := 0
  gpioHeld : BitVec 8 := 0
  pcieUp : Bool := false
  deriving DecidableEq, Repr

/-- One copy of the boot ledger (R371, BOOT_LEDGER of Table 13-6). `good`: its CRC-32 checks. -/
structure Ledger where
  count : Nat := 0
  pend : Bool := false
  clr : Bool := false
  cause : Nat := 0
  step : Nat := 0
  seq : Nat := 0
  good : Bool := false
  deriving DecidableEq, Repr

/-- The header of an image copy as checked at step 6 (Table 15-1). -/
structure ImageHdr where
  seq : Nat
  imageId : Nat
  length : Nat
  bodyCrc : Nat
  spiN : Nat
  mode : Nat
  readOp : Nat
  dummy : Nat
  marginOp : Nat
  refreshOp : Nat
  logBase : Nat
  logSize : Nat
  deriving DecidableEq, Repr

/-- The boot engine (R360 to R372): what the ledger read at step 4 held,
the selected image's corrected body, the index of the next operation, the clock at which a WAIT in progress ends, whether the
tables of the directory were checked, the clock at which the start timer started, the events held for entry to service state (R437), oldest first, whether links
train (step 9), and the clock of entry to service state. -/
structure Boot where
  countRead : Nat := 0
  clrRead : Bool := false
  hdr : Option ImageHdr := none
  body : List Byte := []
  pc : Nat := 0
  waitUntil : Option Nat := none
  checked : Bool := false
  timer : Option Nat := none
  held : List Nat := []
  training : Bool := false
  serviceAt : Nat := 0
  deriving DecidableEq, Repr

/-- LAST_WAKE in the always-on domain (R384), and the latch of a detection during entry. -/
structure LastWake where
  valid : Bool := false
  portAct : Bool := false
  portPat : Bool := false
  seam : Bool := false
  pcie : Bool := false
  race : Bool := false
  port : Nat := 0
  count : Nat := 0
  dormantS : Nat := 0
  deriving DecidableEq, Repr

/-- Entry to dormancy (R378): none of it, expired and waiting for the entry boundary, or past that boundary. -/
inductive DormPhase where
  | awake | expired | entering
  deriving DecidableEq, Repr

/-- Dormancy and wake (R377 to R384). -/
structure Dorm where
  phase : DormPhase := .awake
  idleFrom : Nat := 0
  aon : LastWake := {}
  latched : Option WakeSeen := none
  deriving DecidableEq, Repr

/-! ## The tick unit -/

/-- What a re-timing waits to apply (R45). -/
structure Retime where
  src : Option Nat := none
  period : Option Nat := none
  guard : Option Nat := none
  latency : Option Nat := none
  release : Option Bool := none
  settle : Option Nat := none
  join : Bool := false
  deriving DecidableEq, Repr

/-- The tick unit beside its registers (R32 to R45): the tick counter; the first tick not yet planned; whether
the first boundary has fallen, whether admission is open in the tick in progress and was open in the tick before it; the clock of the last boundary; the planned
length of the tick in progress in cycles, and whether it goes on until a reference edge or marker falls at or after its planned end
(`await`, R38, R44); the value that the first boundary of service state gives the counter, latched at entry (R33); the reference edges of a measurement with E0 and k of R38; whether P is refined; expected edge and stored offsets in
1/16 cycle; consecutive misses; the edges watched while LOST; whether LOSS_ACTION 1 holds admission closed;
full ticks tracked under the source or since reacquisition, and whether its first boundary is still to fall (`fresh`); a pending
re-timing and whether it is applied; the last marker of the follower source; the clock of the last edge. -/
structure TickUnit where
  now : Tick := 0
  plan : Tick := 0
  started : Bool := false
  open_ : Bool := false
  openPrev : Bool := false
  last : Nat := 0
  len : Nat := 0
  await : Bool := false
  first : Tick := 0
  edges : List Nat := []
  e0 : Nat := 0
  k : Nat := 0
  refined : Bool := false
  expected : Nat := 0
  offsets : List Int := []
  misses : Nat := 0
  watch : List Nat := []
  lossClosed : Bool := false
  full : Nat := 0
  fresh : Bool := false
  retime : Option Retime := none
  applied : Bool := false
  marker : Option Tick := none
  lastEdge : Nat := 0
  deriving DecidableEq, Repr

/-! ## Links, ports, records -/

/-- Link training states (Table 3-1). -/
inductive LState where
  | disabled | seek | lock | align | hello | up | selftest
  deriving DecidableEq, Repr

/-- One link (R66 to R70, R79 to R82): training state, the clocks at which training and the order of the lanes began, HELLO handshake,
ALIGN flits sent and the count last received by lane, ordinals of uncorrectable codewords by lane, and the credit counts. -/
structure LinkSt where
  st : LState := .disabled
  since : Nat := 0
  aligned : Nat := 0
  gotHello : Bool := false
  gotAck : Bool := false
  sentAck : Bool := false
  alignTx : List Nat := [0, 0, 0, 0]
  alignRx : List Nat := [0, 0, 0, 0]
  uncorr : List (Nat × Nat) := []
  cumTx : Nat := 0
  sinceCredit : Nat := 0
  cumRx : Nat := 0
  rxFlits : Nat := 0
  newCredit : Nat := 0
  deriving DecidableEq, Repr

/-- A flit as the ingress queue stores it: four 72-bit words (R84). -/
structure QFlit where
  w0 : BitVec 72
  w1 : BitVec 72
  w2 : BitVec 72
  w3 : BitVec 72
  deriving DecidableEq, Repr

/-- A committed record waiting in an ingress queue: its flits, the tick it is admitted to (none until admission is
open), whether it waited in the queue when admission opened (R45), and the tick whose plan it was first offered to (R47, R122). -/
structure QRec where
  flits : List QFlit
  admitAt : Option Tick
  waits : Bool := false
  offered : Option Tick := none
  deriving DecidableEq, Repr

/-- A capture (R93): arrival port, tick of admission, the record's flits as received. -/
structure Capture where
  srcPort : Nat
  tick : Tick
  flits : List Flit
  deriving DecidableEq, Repr

/-- One Svetre port: its link, the flits of the record in reception with its length, the flits still to discard by
framing, records whose last flit has arrived and which have not committed (with the outcome of their CRC-32), the ingress queue, the SEQ of the last
committed record, the ticks in which a record was rewound (R318), the capture buffer (R68 to R93). `viol`: the record in reception has
already been counted as received without credit in resync (R81). -/
structure PortSt where
  link : LinkSt := {}
  part : List QFlit := []
  partLen : Nat := 0
  skip : Nat := 0
  viol : Bool := false
  complete : List (List QFlit × Bool) := []
  queue : List QRec := []
  prevSeq : Option Nat := none
  rewinds : List Tick := []
  capBuf : List Capture := []
  deriving DecidableEq, Repr

/-! ## Planned records and verdicts -/

/-- What becomes of one lookup of a planned record (R51, R111, R119, R103). -/
inductive LAct where
  | disabled | notSearched | poisoned | closed | search
  deriving DecidableEq, Repr

/-- One result of a verdict (Table 3-4). `spill`: the lookup whose further candidate fills the field (R160). -/
structure Result where
  status : Nat := 0
  entry : Nat := 0
  data : Nat := 0
  spill : Option Nat := none
  deriving DecidableEq, Repr

/-- A confirmed candidate: its entry, and the member that holds it where that is another one. -/
structure Cand where
  id : Nat
  rank : Nat
  dref : Nat
  gal : Nat := 0
  remote : Option Nat := none
  deriving DecidableEq, Repr

/-- What a lookup reports before data and accession: its status, its candidates, its count (Table 5-7). -/
structure Verdict where
  status : Nat
  cands : List Cand
  count : Nat
  deriving DecidableEq, Repr

/-- One lookup of a planned record: what it does, its table, key and result form, the catalogue selection made at the
plan (gallery, units; R150), the galleries in which units of fenced cabinets are skipped (R156), the offset at which its last search starts, that of its search in each gallery (R127), its judgement
until the lookups before it have theirs (R15), whether it has its result, and for a cascaded table the tag of its token, the origin's own result and the returned token (R342). -/
structure LookupPlan where
  act : LAct := .disabled
  tbl : Nat := 0
  width : Nat := 0
  rfmt : Nat := 0
  dsel : Nat := 0
  key : BitVec 640 := 0
  sel : List (Nat × List Nat) := []
  skip : List Nat := []
  slot : Nat := 0
  places : List (Nat × Nat) := []
  judged : Option Verdict := none
  done : Bool := false
  charged : Bool := false
  tok : Option Nat := none
  loc : Option Token := none
  ret : Option Token := none
  deriving DecidableEq, Repr

/-- A planned record until its last verdict has left. `dest`: transmit ports with the flit slot of the verdict in the
release tick, for the ports whose verdict has not left. `digested`: it belongs to a digest window (R315). `formed`: its
results, capture and digest term are done. -/
structure Planned where
  port : Nat
  flits : List Flit
  handle : Nat
  chan : Nat := 0
  capPort : Nat := 0
  policy : Nat := 0
  admitAt : Tick := 0
  tick : Tick := 0
  late : Bool := false
  poison : Bool := false
  allClosed : Bool := false
  orphan : Bool := false
  lookups : List LookupPlan := []
  results : List Result := []
  j : Nat := 0
  dest : List (Nat × Nat) := []
  digested : Bool := false
  formed : Bool := false
  counted : Bool := false
  deriving DecidableEq, Repr

/-! ## Channels and sites -/

/-- Channel slot states (CHN_HANDLE.STATE), with the two that wait for a boundary. -/
inductive ChanSt where
  | free | creating | live | destroying | fencing
  deriving DecidableEq, Repr

/-- A channel slot (R97 to R103, Table 4-1). `gen` is the slot's last generation and `owner` its last owner (R433); both
stay when the slot is freed. `cmd`: the command whose completion the slot's release gives. -/
structure Chan where
  st : ChanSt := .free
  gen : Nat := 0
  owner : Nat := 0
  standing : Bool := false
  lookups : List (BitVec 64) := []
  egress : BitVec 64 := 0
  qf : List Nat := []
  stallLimit : Nat := 65536
  segs : List (BitVec 64) := []
  fencedAt : Option Tick := none
  cmd : Option (Nat × Nat × Nat) := none
  deriving DecidableEq, Repr

/-- State of an SRAM word under its (72,64) SECDED code (R272, R273, R136). -/
inductive Ecc where
  | clean | single | double
  deriving DecidableEq, Repr

/-- A site entry (R269, R270): last value written, whether it waits to be applied, the value applied and its state
under its code, and both as they stood at the start of the tick before the one in progress (R107). -/
structure Site where
  word : BitVec 64 := 0
  due : Bool := false
  applied : BitVec 64 := 0
  ecc : Ecc := .clean
  before : BitVec 64 := 0
  eccBefore : Ecc := .clean
  deriving DecidableEq, Repr

/-- A return-path entry in a way of a bucket (R273). -/
structure RptEntry where
  bucket : Nat
  way : Nat
  tag : Nat
  port : Nat
  static : Bool
  last : Tick
  bad : Bool := false
  deriving DecidableEq, Repr

/-- An RPT_FLUSH_BY_PORT that waits for the next boundary (R285): its port, whether static entries go too, where its record
goes and whether the write there succeeds, and its command. -/
structure RptFlush where
  port : Nat
  static : Bool
  addr : Nat
  wrOk : Bool
  cmd : Option (Nat × Nat × Nat)
  deriving DecidableEq, Repr

/-- Return-path changes that wait for the next boundary (R280), in their five kinds. -/
structure RptPend where
  aged : List (Nat × Nat) := []
  down : List Nat := []
  learn : List (Nat × Nat × Tick) := []
  flush : List RptFlush := []
  static : List (Bool × Nat × Nat) := []
  deriving DecidableEq, Repr

/-! ## Tables, rows, edits -/

/-- Where an entry's row is: drawer (gallery, cabinet, position, row, half), vestibule or transient pool row. -/
inductive Loc where
  | drawer (g c d row half : Nat)
  | vest (g c i : Nat)
  | pool (g c i : Nat)
  deriving DecidableEq, Repr

/-- Row states (Table 6-5); FREE rows are not listed. -/
inductive RowSt where
  | pending | set | entering | live
  deriving DecidableEq, Repr

/-- The physical condition of one row (R133, R153, R227, R229, R231): its cells near the read reference or beyond it, with their distance
in codes, negative where the cell reads wrong at RREF; the contents that a misdirected write has left in place of its own; and a match line
that departs from what its cells give. -/
structure RowFault where
  cells : List (Nat × Int) := []
  held : Option RowCells := none
  analog : Option Bool := none
  deriving DecidableEq, Repr

/-- A row, half or row group that holds an entry (R131, R185, R191). `group`: the edit group that staged it;
`target`: the drawer reserved for a vestibule row; `since`: clock at which it entered the vestibule; `jrow`: its journal
row, as position * 2048 + row of the cabinet; `persisted`: it is durable (R193); `owing`: its group was released by the wear governor and
it has not migrated (R219); `missed`: self-search found that it misses falsely; `again`: a copy of a row so found (R231);
`maker`: the requester that wrote a SET row (R301). -/
structure Row where
  loc : Loc
  tbl : Nat
  id : Nat
  rank : Nat := 0
  dref : Nat := 0
  value : BitVec 640 := 0
  care : BitVec 640 := 0
  learned : Bool := false
  st : RowSt := .live
  on : Tick := 0
  off : Option Tick := none
  group : Nat := 0
  target : Option Nat := none
  since : Nat := 0
  jrow : Option Nat := none
  persisted : Bool := true
  owing : Bool := false
  missed : Bool := false
  again : Bool := false
  maker : Nat := 0
  deriving DecidableEq, Repr

/-- A journal record that is no vestibule row's: a tombstone or a move record (R191), with its journal row and the places it covers. -/
structure JRow where
  g : Nat
  c : Nat
  at_ : Option Nat := none
  tomb : Bool
  tbl : Nat
  id : Nat
  covers : List Loc
  committed : Bool := true
  deriving DecidableEq, Repr

/-- A table of the directory (R166, R168) and its working state. `blocks`: tally blocks owned; `destroyAt`: boundary
k of TBL_DESTROY; `creating`: executed and not yet at its boundary; `cmd`: the TBL_DESTROY that its removal completes. -/
structure Table where
  attr : BitVec 64 := 0
  limit : BitVec 64 := 0
  sel0 : BitVec 64 := 0
  sel1 : BitVec 64 := 0
  learn : BitVec 64 := 0
  learn2 : BitVec 64 := 0
  mask : BitVec 640 := 0
  commitSeq : Nat := 0
  creating : Bool := false
  destroying : Bool := false
  destroyAt : Option Tick := none
  outOfService : Bool := false
  degraded : Bool := false
  learnLast : Nat := 0
  blocks : List Nat := []
  cmd : Option (Nat × Nat × Nat) := none
  deriving DecidableEq, Repr

/-- The kind of an edit (Table 6-4). -/
inductive EditOp where
  | insert | delete | modify
  deriving DecidableEq, Repr

/-- One edit of a group (R182). -/
structure Edit where
  op : EditOp
  id : Nat
  existed : Bool := false
  deriving DecidableEq, Repr

/-- How far a group is: open, committed to the log and due at a boundary, held by the wear governor (R219),
waiting for the peer's agreement (R327), bound to a boundary. -/
inductive GroupSt where
  | open | ready | deferred | agreeing | bound (k : Tick)
  deriving DecidableEq, Repr

/-- An edit group (R179 to R187). `local_`: a restore from the twin (R244); `released`: let go by the wear governor (R219). `lease`: full length in ms; `leaseAt`: clock at which it last started; `cmd`: the
command whose completion the commit gives (function, ring index, CID). -/
structure Group where
  num : Nat
  tbl : Nat
  func : Nat
  lease : Nat
  leaseAt : Nat := 0
  edits : List Edit := []
  st : GroupSt := .open
  ungrouped : Bool := false
  mirrored : Bool := false
  fromPeer : Bool := false
  local_ : Bool := false
  released : Bool := false
  order : Nat := 0
  cmd : Option (Nat × Nat × Nat) := none
  deriving DecidableEq, Repr

/-- An accession made for a masked key, or refused (no ID), by a lookup planned in a tick (R196, R197, R199, R347). -/
structure Learned where
  tbl : Nat
  key : BitVec 640
  tick : Tick
  id : Option Nat
  deriving DecidableEq, Repr

/-- A tally counter held by an entry (R201); `gone`: of one that is deleted and has a row that is not FREE yet. -/
structure Tally where
  tbl : Nat
  id : Nat
  idx : Nat
  count : Nat
  gone : Bool := false
  deriving DecidableEq, Repr

/-- A lost-entry record (R206). -/
structure Loss where
  tbl : Nat
  id : Nat
  cause : Nat
  deriving DecidableEq, Repr

/-- A bay of a gallery's catalogue (R143): table, first code, log2 of its block, units. -/
structure Bay where
  g : Nat
  num : Nat
  tbl : Nat
  first : Nat
  s : Nat
  units : List Nat := []
  deriving DecidableEq, Repr

/-- A unit of a table's broad set in a gallery (R144). -/
structure Broad where
  g : Nat
  tbl : Nat
  unit : Nat
  deriving DecidableEq, Repr

/-- Drawer states (GAL_DRAWER.STATE). -/
inductive DrawerSt where
  | free | assigned | spare | retired | selftest
  deriving DecidableEq, Repr

/-- A drawer position (R126, R128, R212, R216, R233, R235). `block`: the first code and log2 size of its bay's block as the descriptor
rows record it; `rejectsAt`: REJECTS at the start of the scrub period; `unread`: rows found unreadable at nominal since its last self-test;
`digestSeq`: sequence of the digest record that stands; `lastWrite`: clock of its last row write; `marched`: rows that `cells` does not list
hold the last pattern of a self-test. -/
structure Drawer where
  st : DrawerSt
  tbl : Nat := 0
  width : Nat := 0
  broad : Bool := false
  bay : Nat := 0
  block : Nat × Nat := (0, 0)
  rejects : Nat := 0
  rejectsAt : Nat := 0
  wear : Nat := 0
  defects : List Nat := []
  suspect : Bool := false
  unread : List Nat := []
  dirty : Bool := false
  digest : Nat := 0
  digestSeq : Nat := 0
  writes : Nat := 0
  lastWrite : Nat := 0
  marched : Bool := false
  deriving DecidableEq, Repr

/-- A cabinet (R126, R220 to R225). `code`: MREF and RREF in force; `next`: codes that take effect with the first
window after the next boundary (R222); `base`: baselines; `spare`: spare position, 31 none; `reserve`: the rows kept for the journal
(R215) as position * 2048 + row, none listed while they are the first 256 sound rows of the spare. -/
structure Cab where
  spare : Nat := 16
  fenced : Bool := false
  fenceDue : Bool := false
  unfenceDue : Bool := false
  checking : Bool := false
  code : Nat × Nat := (128, 128)
  prev : Nat × Nat := (128, 128)
  next : Option (Nat × Nat) := none
  base : Nat × Nat := (128, 128)
  width : Nat := 0
  drift : Int := 0
  calFail : Bool := false
  driftEp : Bool := false
  reserve : List Nat := []
  deriving DecidableEq, Repr

/-- A spare swap in progress in a gallery (R238). `flipAt`: boundary b; `made`: test searches made in reserved slots (R210, R240). -/
structure Swap where
  g : Nat
  c : Nat
  d : Nat
  s : Nat
  flipAt : Option Tick := none
  inPlace : Bool := false
  made : Nat := 0
  deriving DecidableEq, Repr

/-- A bay split (`sib` none: the half `hi` goes to a new bay) or merge (into the units `keep`) whose copies are written and
which commits at the next boundary (R146, R189). -/
structure Reshape where
  g : Nat
  bay : Nat
  sib : Option Nat := none
  hi : Bool := false
  keep : List Nat := []
  deriving DecidableEq, Repr

/-- The curator beside its registers (07_medium_care.md). `scrubQ`, `refreshQ`: rows by physical address; `newer`: pairs of descriptor or
reference rows whose second copy was written last (R228); `earnFrom`: clock up to which powered time has earned; `slots`: reserved slots of
the tick in progress that are used, by gallery; `claim`: self-searches still needed in it to keep the pace; `calDue`: calibration searches due, by gallery (R210);
`restoreHeld`: entries received that wait for their table's edit lock (R244); `programmed`: cells programmed since clock `rateFrom`. -/
structure Curator where
  balance : Int := 549755813888
  saved : Int := 549755813888
  stage : Nat := 0
  histValid : Bool := false
  conservLeft : Nat := 3
  earnFrom : Nat := 0
  scrubQ : List Nat := []
  refreshQ : List Nat := []
  newer : List Nat := []
  clearQ : List Loc := []
  sweep : Nat := 0
  sweepFrom : Nat := 0
  swept : List (Nat × Nat) := []
  slots : FMap Nat := []
  claim : FMap Nat := []
  calDue : FMap Nat := []
  swaps : List Swap := []
  reshape : List Reshape := []
  retire : Option (Nat × Nat × Nat) := none
  fullTest : Bool := false
  restorePend : List (Nat × Nat) := []
  restoreAsked : List (Nat × Nat) := []
  restoreHeld : List (Nat × Nat × List Byte) := []
  rateFrom : Nat := 0
  deferOrder : Nat := 0
  programmed : Nat := 0
  rowWear : FMap Nat := []
  deriving DecidableEq, Repr

/-! ## Associated data -/

/-- A valid way of a wardrobe set (R250): line, contents, dirty bit, the pin that holds it. -/
structure Way where
  set : Nat
  way : Nat
  line : Nat
  data : BitVec 512
  dirty : Bool := false
  deriving DecidableEq, Repr

/-- Pin states (WRD_PIN.STATE). -/
inductive PinState where
  | off | loading | held | conflict
  deriving DecidableEq, Repr

/-- A pin with the range it took into use at its last load (R255); `read`: lines of the range that the load has reached. -/
structure Pin where
  st : PinState := .off
  base : Nat := 0
  count : Nat := 0
  tbl : Nat := 0
  read : Nat := 0
  offDue : Bool := false
  loaded : Bool := false
  deriving DecidableEq, Repr

/-- A wardrobe change that waits for a boundary (R259): quarters of a line written; an operation of R261, with the lines of its part
already applied whose store writes it waits for; the invalidation that ends a FLUSH of a line now in the store. -/
inductive WrdChange where
  | write (line : Nat) (quarters : BitVec 4) (data : BitVec 512) (durable : Bool)
  | op (kind : Nat) (first count : Nat) (lines : List Nat)
  | flushed (line : Nat)
  deriving DecidableEq, Repr

/-- The contents of a line as it stood before a change at boundary `at_`, kept until boundary at_ + L (R259); `bad`: an uncorrectable
line of the store. -/
structure Retained where
  line : Nat
  data : BitVec 512
  at_ : Tick
  until_ : Tick
  bad : Bool := false
  deriving DecidableEq, Repr

/-- A fill in flight for a requester: the line's contents, and the clock at which it completes (R253, R263). -/
structure Fill where
  line : Nat
  slot : Nat
  data : BitVec 512
  due : Nat
  deriving DecidableEq, Repr

/-- The wardrobe and the store (08_wardrobe.md). `store`: lines that are not all zero; `bad`: lines whose check code
fails; `marred`: lines in which the last scrub corrected cells; `fills`: fills in flight; `owing`: dirty lines that are to be staged when there
is room; `flushing`: lines to invalidate once they are in the store (R261); `lock`, `masks`: LOCK and the way masks in force (R252); `changes`: changes that wait for a boundary, each with
the mirrored operation that holds it and the command it completes; `wait`: commands that complete once their lines
are in the store; `held`, `heldBefore`: tables held at the last boundary and at the one before (R254, R258); `fetches`,
`evictions`: of the last 1,024 ticks (R266). -/
structure Wardrobe where
  store : FMap (BitVec 512) := []
  bad : List Nat := []
  marred : List Nat := []
  ways : List Way := []
  plru : FMap Nat := []
  fills : List Fill := []
  staging : List (Nat × BitVec 512) := []
  owing : List Nat := []
  flushing : List Nat := []
  retention : List Retained := []
  changes : List (WrdChange × Option Nat × Option (Nat × Nat × Nat)) := []
  pins : FMap Pin := []
  held : List Nat := []
  heldBefore : List Nat := []
  lock : Nat := 0
  masks : FMap Nat := []
  fetches : List (Tick × Bool) := []
  evictions : List (Tick × Nat) := []
  wait : List ((Nat × Nat × Nat) × List Nat) := []
  deriving DecidableEq, Repr

/-! ## Maintenance port -/

/-- Requester states (MNT_REQ.STATE). -/
inductive ReqSt where
  | idle | waiting | owner | fenced
  deriving DecidableEq, Repr

/-- A maintenance requester (R292 to R303): state, clock since which it waits, clock up to which its wait is counted. -/
structure Req where
  st : ReqSt := .idle
  since : Nat := 0
  counted : Nat := 0
  deriving DecidableEq, Repr

/-- The arbiter (R293, R299): last requester granted, clock of the owner's grant or last break point. -/
structure Mnt where
  reqs : FMap Req := []
  last : Nat := 15
  mark : Nat := 0
  deriving DecidableEq, Repr

/-! ## Host interface -/

/-- A command fetched from a ring or executing: function, ring index, slot (R420). -/
structure Cmd where
  func : Nat
  idx : Nat
  slot : CmdSlot
  deriving DecidableEq, Repr

/-- A completion owed (R423). `ready`: its effect is reached and the next boundary writes it. -/
structure Owed where
  func : Nat
  idx : Nat
  cid : Nat
  status : Nat
  result : Nat := 0
  ready : Bool := true
  silent : Bool := false
  deriving DecidableEq, Repr

/-- CTL_SEND copies not yet sent or dropped (R283). -/
structure CtlOp where
  msg : Nat
  tag : Nat
  body : List Byte
  copies : List Nat
  failed : Bool := false
  owed : Option (Nat × Nat × Nat) := none
  deriving DecidableEq, Repr

/-- The idle notice of a queue (R431): clock of the later of its last POP and its last filling, and whether armed. -/
structure Idle where
  from_ : Nat := 0
  armed : Bool := true
  deriving DecidableEq, Repr

/-- An entry of an MSI-X table: message address and data, and the mask bit of its vector control (PCIe 5.0, R434). -/
structure MsixVec where
  addr : Nat := 0
  data : Nat := 0
  masked : Bool := true
  deriving DecidableEq, Repr

/-- What configuration space holds for one function (R409, R411, R412): Command, D3hot, MSI-X Enable and Function Mask with the
table and the pending bits, and the AER status and mask registers, at their PCIe reset values (notes/assumptions/114.md). -/
structure PciFn where
  command : Nat := 0
  d3 : Bool := false
  msixEn : Bool := false
  msixMask : Bool := false
  vecs : FMap MsixVec := []
  pba : Nat := 0
  aerUnc : Nat := 0
  aerUncMask : Nat := 0x04400000
  aerCor : Nat := 0
  aerCorMask : Nat := 0xE000
  deriving DecidableEq, Repr

/-- The SR-IOV capability of the PF (R410): VF Enable, VF Memory Space Enable, ARI Capable Hierarchy, NumVFs. -/
structure SrIov where
  en : Bool := false
  mse : Bool := false
  ari : Bool := false
  num : Nat := 0
  deriving DecidableEq, Repr

/-- Host-side structures (16_host_events.md): fetched commands by function with their ring indices (oldest first), the command in
the engine, whether its function was reset since and so gets no completion (R411),
whether it waits (R184) and the mirrored operation it waits for (R325), the last function served, completions owed in execution order, the event queue, capture
queues, idle notices (0 to 7 capture, 8 event queue), hold-offs (end clock, raises held), episode marks by event, configuration space by function, SR-IOV, and the rate and width of the PCIe
link while it is up. -/
structure HostIf where
  fetched : FMap (List (Nat × CmdSlot)) := []
  engine : Option Cmd := none
  muted : Bool := false
  waitFrom : Option Nat := none
  mirror : Option Nat := none
  lastFunc : Nat := 15
  owed : List Owed := []
  ctl : List CtlOp := []
  evq : List (BitVec 64) := []
  evqLost : Bool := false
  capq : FMap (List (BitVec 64)) := []
  idle : FMap Idle := []
  hold : FMap (Nat × Bool) := []
  episodes : FMap Tick := []
  pci : FMap PciFn := []
  sriov : SrIov := {}
  pcieRate : Nat := 0
  pcieLanes : Nat := 0
  deriving DecidableEq, Repr

/-! ## Seam and cascade -/

/-- Pair states (Table 11-2). -/
inductive PairSt where
  | detached | attaching | source | target | paired
  deriving DecidableEq, Repr

/-- The running digest of a channel slot or group for a stamp tick (R315, R316, R318). -/
structure Dig where
  stamp : Tick
  slot : Nat
  hash : BitVec 32 := 0
  count : Nat := 0
  anom : BitVec 4 := 0
  ports : List Nat := []
  deriving DecidableEq, Repr

/-- The outcome of a comparison (R319) for a group and stamp, with the ANOM bits of both twins and the lowest slot that CHDIGEST
flits have shown to differ (R321). -/
structure Cmp where
  stamp : Tick
  group : Nat
  agreed : Bool
  ownAnom : BitVec 4
  peerAnom : BitVec 4
  worst : Option Nat := none
  deriving DecidableEq, Repr

/-- How far a mirrored operation is (R325, R327). -/
inductive MirrorSt where
  | staging | staged | deferred | proposed (k : Tick) | bound (k : Tick)
  deriving DecidableEq, Repr

/-- A mirrored operation in flight: the origin is this device when `mine`; `cmd`: the command it completes; `target`:
what it holds back until its boundary (channel slot, table, site, group). -/
structure Mirrored where
  id : Nat
  mine : Bool
  op : MirrorOp
  st : MirrorSt := .staging
  peerReady : Bool := false
  cmd : Option (Nat × Nat × Nat) := none
  target : Nat := 0
  deriving DecidableEq, Repr

/-- Messages the device sends over the seam (Table 11-1). -/
inductive SeamOut where
  | hello (h : PairHello)
  | bye
  | digest (stamp : Tick) (first : Nat) (body : BitVec 192)
  | chdigest (stamp : Tick) (group : Nat) (body : BitVec 192)
  | lockReq (t group func : Nat)
  | lockAns (t : Nat) (grant : Bool)
  | mirror (id : Nat) (op : MirrorOp) (k : Option Tick)
  | staged (id : Nat) (handle : BitVec 16)
  | ready (id : Nat)
  | refuse (id status : Nat)
  | propose (id : Nat) (k : Tick)
  | agree (id : Nat) (k : Tick)
  | defer (id : Nat)
  | abort (id : Nat)
  | syncBegin
  | syncData (i : SyncItem)
  | syncEnd
  | join (j : Tick)
  | restoreReq (t id : Nat)
  | restoreAns (t id : Nat) (rec : Option (List Byte)) (refusal : Nat)
  deriving DecidableEq, Repr

/-- The seam (11_seam_pairing.md). `role`: effective role, 0 solo, 1 leader, 2 follower; `hello`: the twin's PAIR_HELLO not
yet acted on. -/
structure Seam where
  link : LinkSt := {}
  pair : PairSt := .detached
  role : Nat := 0
  hello : Option PairHello := none
  digs : List Dig := []
  cmps : List Cmp := []
  pendRecv : List (Tick × Nat × GroupRec) := []
  ops : List Mirrored := []
  nextId : Nat := 0
  lockWait : List (Nat × Nat) := []
  joinAt : Option Tick := none
  syncing : Bool := false
  missed : Nat := 0
  detachDue : Option Nat := none
  seq : Nat := 0
  credit : Nat := 0
  waiting : List SeamOut := []
  snap : Option (List SyncItem) := none
  deriving DecidableEq, Repr

/-- A membership change under agreement (R349). -/
structure CscChange where
  live : Nat
  k : Tick
  acks : List Nat := []
  bound : Bool := false
  deriving DecidableEq, Repr

/-- Cascading (12_cascade.md). `sent`: tokens sent in the tick in progress; `flight`: tokens sent and not returned: (tag,
plan tick); `learns`: LEARN tokens that wait until the records of the plan in which they arrived have their results (R347); `maps`: the code map as it
stood until a boundary k, for the tokens of ticks before k (R344); `want`: the live set the coordinator proposes at its next boundary; `lost`: ring positions known to be lost;
`gone`: those that break the ring since the last change (R351). -/
structure Csc where
  up : LinkSt := {}
  dn : LinkSt := {}
  sent : Nat := 0
  flight : List (Nat × Tick) := []
  learns : List (Tick × Nat × BitVec 640) := []
  maps : List (Tick × List Bay × List Broad) := []
  nextTok : Nat := 0
  change : Option CscChange := none
  want : Option Nat := none
  lost : Nat := 0
  gone : Nat := 0
  deriving DecidableEq, Repr

/-! ## Configuration memory -/

/-- The attached memory (R388): whether one answers SFDP, whether its quad reads agree with its single-line reads (R394 step 2),
its size and page (log2 of bytes), addressing, BP. -/
structure CfgDev where
  present : Bool := true
  quadOk : Bool := true
  size : Nat := 23
  page : Nat := 8
  addr4 : Bool := false
  bp : Nat := 0
  deriving DecidableEq, Repr

/-- A page program in progress: address, bytes, and who asked (0 log entry, 1 pass-through, 2 care, 3 log head). -/
structure PageProg where
  addr : Nat
  bytes : List Byte
  who : Nat
  deriving DecidableEq, Repr

/-- A log entry that is still to be written: TYPE, the tick and DATA (Table 15-3). -/
structure LogOwed where
  type : Nat
  tick : Tick
  data : Nat
  deriving DecidableEq, Repr

/-- The configuration-memory master (R402 to R404). `logs`: the log entries that are owed, oldest first. -/
structure Cfg where
  dev : CfgDev := {}
  mem : FMap Byte := []
  prog : Option PageProg := none
  headB : Bool := false
  logs : List LogOwed := []
  deriving DecidableEq, Repr

/-! ## Outputs -/

/-- Messages the device sends on its cascade ports. -/
inductive CscOut where
  | token (down : Bool) (flits : List Flit)
  | learn (flits : List Flit)
  | tally (flits : List Flit)
  | notice (n : Notice)
  | propose (live : Nat) (k : Tick)
  | ack (m : Nat)
  | commit
  | bye (m : Nat)
  | joinReq
  deriving DecidableEq, Repr

/-- Everything the device puts on an output interface: link flits and verdicts with the lane that carries them (R66), seam
messages with bits [63:0] of their first flit (R309). -/
inductive Output where
  | link (l : Link) (lane : Nat) (f : Flit)
  | verdict (p lane : Nat) (f : Flit)
  | capture (p : Nat) (c : Capture)
  | seam (head : BitVec 64) (m : SeamOut)
  | csc (m : CscOut)
  | hostWrite (f : Nat) (addr : Nat) (bytes : List Byte)
  | msix (f vec addr data : Nat)
  | popped (f : Nat) (w : BitVec 64)
  | pageProgram (addr : Nat) (bytes : List Byte)
  | pageRefresh (page : Nat)
  deriving DecidableEq, Repr

/-! ## The state -/

/-- The whole device. `clock` counts core cycles and `out` lists what left the device, newest first; both are the
model's own (notes/assumptions/1.md, 2.md), as are `pending`, the commands that wait, and `freeCtr`, how many free
values have been drawn (notes/assumptions/3.md). `cells`: what was last programmed into the rows of the medium, and `faults` their
condition, by physical address. -/
structure State where
  pending : List Instr := []
  clock : Nat := 0
  freeCtr : Nat := 0
  out : List Output := []
  mode : Mode := .startUp
  pins : Pins := {}
  fuses : BitVec 128 := 0x10 <<< 64
  tap : Tap := {}
  regs : FMap Nat := []
  boot : Boot := {}
  ledgerA : Ledger := {}
  ledgerB : Ledger := {}
  dorm : Dorm := {}
  tick : TickUnit := {}
  ports : FMap PortSt := []
  planned : List Planned := []
  chans : FMap Chan := []
  sites : FMap Site := []
  rpt : List RptEntry := []
  rptPend : RptPend := {}
  shadow : FMap Nat := []
  tables : FMap Table := []
  rows : List Row := []
  cells : FMap RowCells := []
  faults : FMap RowFault := []
  journal : List JRow := []
  groups : List Group := []
  tallies : List Tally := []
  learnLog : List Learned := []
  lost : List (Nat × Nat) := []
  lossList : List Loss := []
  bays : List Bay := []
  broad : List Broad := []
  baysBefore : List Bay := []
  broadBefore : List Broad := []
  drawers : FMap Drawer := []
  cabs : FMap Cab := []
  acts : List (Tick × Nat × Nat) := []
  cur : Curator := {}
  wrd : Wardrobe := {}
  mnt : Mnt := {}
  host : HostIf := {}
  seam : Seam := {}
  csc : Csc := {}
  cfg : Cfg := {}
  deriving DecidableEq, Repr

/-- The machine right after a reset has been qualified (R356, R357): start-up state, step 1, RESET_L low, every rail
in range, every register field at its reset value (no entry of `regs`: R62 and the other register rules), a medium
on which nothing was ever written, and an attached memory that reads 0 everywhere (notes/assumptions/6.md). -/
def State.reset : State := { pins := { resetL := false } }

end Sys2Proof.Machine
end

