-- ==== Sys2Proof/Machine/Ops.lean ====
section
/-! DEFINITION. The named operations over the state that every meaning uses: register fields, ports and the other
sparsely held parts, tick arithmetic, free values, outputs, completions and credits. -/

namespace Sys2Proof.Machine

/-! ## Order -/

/-- Insert an element before the first one that it may precede. -/
def insertBy {α : Type} (le : α → α → Bool) (a : α) : List α → List α
  | [] => [a]
  | b :: l => if le a b then a :: b :: l else b :: insertBy le a l

/-- The elements of a list in an order; those that tie stay as they are. -/
def sortBy {α : Type} (le : α → α → Bool) (l : List α) : List α := l.foldr (insertBy le) []

/-! ## Register fields -/

/-- The place of a field instance: its lowest bit's address in BAR0, in bits. -/
def Field.key (F : Field) (i : Nat := 0) (j : Nat := 0) : Nat := 8 * F.base + F.lo + F.st1 * i + F.st2 * j

/-- The reset value of a field instance (the register tables; Table 10-2 for MNT_REQ.PRIO). -/
def Field.resetAt (F : Field) (i : Nat := 0) : Nat := if F.rsts.isEmpty then F.rst else F.rsts.getD i 0

/-- The largest value a field holds. -/
def Field.max (F : Field) : Nat := 2 ^ F.width - 1

/-- The value of a register field (R7). -/
def State.get (s : State) (F : Field) (i : Nat := 0) (j : Nat := 0) : Nat :=
  fgetD s.regs (F.key i j) (F.resetAt i)

/-- A one-bit field read as a truth value. -/
def State.flag (s : State) (F : Field) (i : Nat := 0) (j : Nat := 0) : Bool := s.get F i j == 1

/-- Store a value in a register field, truncated to its width. -/
def State.put (s : State) (F : Field) (v : Nat) (i : Nat := 0) (j : Nat := 0) : State :=
  { s with regs := fset s.regs (F.key i j) (F.resetAt i) (v % 2 ^ F.width) }

/-- Store a truth value in a one-bit field. -/
def State.putB (s : State) (F : Field) (b : Bool) (i : Nat := 0) (j : Nat := 0) : State :=
  s.put F (if b then 1 else 0) i j

/-- Add to a counter that saturates at its maximum (R62, R95 and the other register rules). -/
def State.bump (s : State) (F : Field) (n : Nat := 1) (i : Nat := 0) (j : Nat := 0) : State :=
  s.put F (min (s.get F i j + n) F.max) i j

/-! ## Time -/

/-- Core cycles in a microsecond at 1.25 GHz (Table 0-1). -/
def cyclesPerUs : Nat := 1250

/-- Core cycles in a millisecond. -/
def cyclesPerMs : Nat := 1250000

/-- Core cycles in a second. -/
def cyclesPerS : Nat := 1250000000

/-- Tick arithmetic is modulo 2^48 (R6). -/
def tickAdd (t n : Tick) : Tick := (t + n) % 2 ^ 48

/-- The difference of two tick numbers modulo 2^48 (R6). -/
def tickSub (a b : Tick) : Nat := (a + 2 ^ 48 - b % 2 ^ 48) % 2 ^ 48

/-- `a` is later than `b` (R6). -/
def tickLater (a b : Tick) : Bool := decide (1 ≤ tickSub a b) && decide (tickSub a b ≤ 2 ^ 47 - 1)

/-- `a` is `b` or earlier. -/
def tickLe (a b : Tick) : Bool := !tickLater a b

/-- Rounding up division. -/
def ceilDiv (a b : Nat) : Nat := (a + b - 1) / b

/-! ## Free values -/

/-- The next free value (notes/assumptions/3.md). -/
def State.peek (s : State) : Nat := Config.free s.freeCtr

/-- A free value has been drawn. -/
def State.drawn (s : State) : State := { s with freeCtr := s.freeCtr + 1 }

/-- One member of a list, which the manual does not fix; none of an empty list. -/
def State.pick {α : Type} (s : State) : List α → Option α
  | [] => none
  | a :: l => some ((a :: l).getD (s.peek % (l.length + 1)) a)

/-! ## Output -/

/-- Put something on an output interface. -/
def State.emit (s : State) (o : Output) : State := { s with out := o :: s.out }

/-- Put several things on output interfaces, the first of the list first. -/
def State.emitAll (s : State) (l : List Output) : State := { s with out := l.reverse ++ s.out }

/-! ## The sparsely held parts -/

/-- Port p. -/
def State.port (s : State) (p : Nat) : PortSt := fgetD s.ports p {}

/-- Set port p. -/
def State.setPort (s : State) (p : Nat) (v : PortSt) : State := { s with ports := fset s.ports p {} v }

/-- Channel slot c. -/
def State.chan (s : State) (c : Nat) : Chan := fgetD s.chans c {}

/-- Set channel slot c. -/
def State.setChan (s : State) (c : Nat) (v : Chan) : State := { s with chans := fset s.chans c {} v }

/-- Site entry n (R269: an entry the image does not set reads 0). -/
def State.site (s : State) (n : Nat) : Site := fgetD s.sites n {}

/-- Set site entry n. -/
def State.setSite (s : State) (n : Nat) (v : Site) : State := { s with sites := fset s.sites n {} v }

/-- Table t, none where the directory holds none. -/
def State.table (s : State) (t : Nat) : Option Table := fget s.tables t

/-- Set table t. -/
def State.setTable (s : State) (t : Nat) (v : Table) : State := { s with tables := fput s.tables t v }

/-- Remove table t. -/
def State.dropTable (s : State) (t : Nat) : State := { s with tables := fdel s.tables t }

/-- The key of drawer x = 17c + d of gallery g. -/
def drawerKey (g x : Nat) : Nat := 544 * g + x

/-- What a drawer position holds that was never changed: a free drawer, the spare at position 16 (R126). -/
def drawerInit (x : Nat) : Drawer := { st := if x % 17 = 16 then .spare else .free }

/-- Drawer x of gallery g. -/
def State.drawer (s : State) (g x : Nat) : Drawer := fgetD s.drawers (drawerKey g x) (drawerInit x)

/-- Set drawer x of gallery g. -/
def State.setDrawer (s : State) (g x : Nat) (v : Drawer) : State :=
  { s with drawers := fset s.drawers (drawerKey g x) (drawerInit x) v }

/-- Cabinet n = 32g + c. -/
def State.cab (s : State) (n : Nat) : Cab := fgetD s.cabs n {}

/-- Set cabinet n = 32g + c. -/
def State.setCab (s : State) (n : Nat) (v : Cab) : State := { s with cabs := fset s.cabs n {} v }

/-- Wardrobe pin i. -/
def State.pin (s : State) (i : Nat) : Pin := fgetD s.wrd.pins i {}

/-- Set wardrobe pin i. -/
def State.setPin (s : State) (i : Nat) (v : Pin) : State :=
  { s with wrd := { s.wrd with pins := fset s.wrd.pins i {} v } }

/-- Maintenance requester r. -/
def State.req (s : State) (r : Nat) : Req := fgetD s.mnt.reqs r {}

/-- Set maintenance requester r. -/
def State.setReq (s : State) (r : Nat) (v : Req) : State :=
  { s with mnt := { s.mnt with reqs := fset s.mnt.reqs r {} v } }

/-- A requester's wrapper is fenced (R301). -/
def State.reqFenced (s : State) (r : Nat) : Bool := (s.req r).st == .fenced

/-- The port is another requester's (R13, R293): requester r reads and writes nothing now. -/
def State.portBlocked (s : State) (r : Nat) : Bool :=
  (List.range 16).any fun q => q != r && (s.req q).st == .owner

/-- Requester r may work: it is not fenced, and no other requester owns the port. -/
def State.mayWork (s : State) (r : Nat) : Bool := !s.reqFenced r && !s.portBlocked r

/-- The link state of a port, the seam or a cascade port. -/
def State.link (s : State) : Link → LinkSt
  | .port p => (s.port p.val).link
  | .seam => s.seam.link
  | .up => s.csc.up
  | .down => s.csc.dn

/-- Set the link state of a port, the seam or a cascade port. -/
def State.setLink (s : State) (l : Link) (v : LinkSt) : State :=
  match l with
  | .port p => s.setPort p.val { s.port p.val with link := v }
  | .seam => { s with seam := { s.seam with link := v } }
  | .up => { s with csc := { s.csc with up := v } }
  | .down => { s with csc := { s.csc with dn := v } }

/-- The enable bit of a link (R361). -/
def State.linkEn (s : State) : Link → Bool
  | .port p => s.flag Reg.PRT_CTRL_EN p.val
  | .seam => s.flag Reg.SEAM_CTRL_EN
  | .up => s.flag Reg.CSC_CTRL_EN
  | .down => s.flag Reg.CSC_CTRL_EN

/-- Port p is in UP. -/
def State.portUp (s : State) (p : Nat) : Bool := (s.port p).link.st == .up

/-- Every link of the device. -/
def allLinks : List Link := (List.finRange 16).map Link.port ++ [.seam, .up, .down]

/-! ## Times and latencies in force -/

/-- The period P in force; 0 until one is measured (TCK_MEAS.PMEAS). -/
def State.period (s : State) : Nat := s.get Reg.TCK_MEAS_PMEAS

/-- The verdict latency L. -/
def State.lat (s : State) : Nat := s.get Reg.TCK_LATENCY_L

/-- The settle added to every release: S in checked release, 0 in prompt release (R322, C7). -/
def State.settle (s : State) : Nat := if s.flag Reg.SEAM_CTRL_RELEASE then s.get Reg.SEAM_CTRL_S else 0

/-- Admission guard G = min(GUARD, floor(P / 2)) (R47). -/
def State.guardCycles (s : State) : Nat := min (s.get Reg.TCK_GUARD_GUARD) (s.period / 2)

/-- Table slots of a 640-bit key are two, of any other one (R127). -/
def slotsOf (width : Nat) : Nat := if width = 3 then 2 else 1

/-- Key width in bits of a width code (Table 6-2). -/
def widthBits (w : Nat) : Nat := if w = 0 then 80 else if w = 1 then 160 else if w = 2 then 320 else 640

/-- D_L = 1 + ceil(160 / P) ticks (R197). -/
def State.learnDelay (s : State) : Nat := 1 + ceilDiv 160 (max s.period 1)

/-! ## Completion status codes (Table 16-7) -/

namespace Sts
def SUCCESS : Nat := 0x00
def INVALID_FIELD : Nat := 0x01
def DENIED : Nat := 0x02
def NO_RESOURCE : Nat := 0x03
def QUOTA : Nat := 0x04
def STALE_HANDLE : Nat := 0x05
def FENCED : Nat := 0x06
def EXISTS : Nat := 0x07
def NOT_FOUND : Nat := 0x08
def IN_USE : Nat := 0x09
def LOCKED : Nat := 0x0A
def NO_GROUP : Nat := 0x0B
def ABORTED : Nat := 0x0C
def RANGE : Nat := 0x0D
def TABLE_FULL : Nat := 0x0E
def NO_ROOM : Nat := 0x0F
def VESTIBULE_FULL : Nat := 0x10
def GROUP_FULL : Nat := 0x11
def NO_ROUTE : Nat := 0x12
def DMA_ERROR : Nat := 0x13
end Sts

/-! ## Verdict status codes (Table 3-5) -/

namespace Vs
def MISS : Nat := 0
def HIT : Nat := 1
def MULTI : Nat := 2
def UNCERTAIN : Nat := 3
def NEW : Nat := 4
def LEARN_FULL : Nat := 5
def POISONED : Nat := 6
def CLOSED : Nat := 7
def NOT_SEARCHED : Nat := 8
def CASCADE_GAP : Nat := 9
end Vs

/-! ## Commands in the engine -/

/-- The command in the engine when its opcode is `op` and the device is in service (R421). -/
def State.engineOp (s : State) (op : Nat) : Option Cmd :=
  if s.mode = .service then
    match s.host.engine with
    | some c => if c.slot.opcode.toNat = op then some c else none
    | none => none
  else none

/-- The engine is free again. -/
def State.freeEngine (s : State) : State := { s with host := { s.host with engine := none, waitFrom := none, mirror := none, muted := false } }

/-- The command's execution ends with a status and a result; the next boundary completes it (R422). -/
def State.finish (s : State) (c : Cmd) (status : Nat) (result : Nat := 0) : State :=
  { s.freeEngine with host := { s.freeEngine.host with
      owed := s.host.owed ++ [⟨c.func, c.idx, c.slot.cid.toNat, status, result, true, s.host.muted⟩] } }

/-- The command's execution ends and a later step of its own completes it. -/
def State.finishLater (s : State) (c : Cmd) (status : Nat := 0) (result : Nat := 0) : State :=
  { s.freeEngine with host := { s.freeEngine.host with
      owed := s.host.owed ++ [⟨c.func, c.idx, c.slot.cid.toNat, status, result, false, s.host.muted⟩] } }

/-- The completion owed to a command becomes ready, with its status and result. -/
def State.owedReady (s : State) (func idx cid status : Nat) (result : Nat := 0) : State :=
  let fix := fun o : Owed => if o.func = func ∧ o.idx = idx ∧ o.cid = cid ∧ o.ready = false then
    { o with status := status, result := result, ready := true } else o
  { s with host := { s.host with owed := s.host.owed.map fix } }

/-! ## Parameters -/

/-- Bits [hi:lo] of a word as a number. -/
def bits {n : Nat} (w : BitVec n) (hi lo : Nat) : Nat := (w.toNat >>> lo) % 2 ^ (hi + 1 - lo)

/-- Bit i of a word. -/
def bitOf {n : Nat} (w : BitVec n) (i : Nat) : Bool := w.getLsbD i

/-- P1[5:0], the table of a table command (Table 6-4). -/
def Cmd.table (c : Cmd) : Nat := bits c.slot.p1 5 0

/-- P1[31:16], the group of an edit command (Table 6-4). -/
def Cmd.group (c : Cmd) : Nat := bits c.slot.p1 31 16

/-- P1[55:32], the entry ID of a table command (Table 6-4). -/
def Cmd.id (c : Cmd) : Nat := bits c.slot.p1 55 32

/-- Little-endian value of bytes (R4). -/
def leNat : List Byte → Nat
  | [] => 0
  | b :: t => b.toNat + 256 * leNat t

/-- n little-endian bytes of a number (R4). -/
def leBytes : Nat → Nat → List Byte
  | 0, _ => []
  | n + 1, v => BitVec.ofNat 8 v :: leBytes n (v / 256)

/-- `n` bytes from offset `o` as a little-endian number; bytes beyond the list read 0. -/
def leAt (l : List Byte) (o n : Nat) : Nat := leNat ((l.drop o).take n)

end Sys2Proof.Machine
end

