-- ==== Sys2Proof/Machine/Pci.lean ====
section
/-! DEFINITION. The PCIe endpoint's configuration space and MSI-X (R409 to R412, R434, R438). -/

namespace Sys2Proof.Machine

/-! ## Configuration space -/

/-- The capabilities of the endpoint (R409); MSI, INTx, ASPM and ATS are absent. -/
inductive Capability where
  | pciExpress | powerManagement | msix | aer | ari | sriov
  deriving DecidableEq, Repr

/-- The capability list of a function (R409). SR-IOV belongs to the PF. -/
def capabilities (f : Nat) : List Capability :=
  [.pciExpress, .powerManagement, .msix, .aer, .ari] ++ (if f = 0 then [.sriov] else [])

/-- The largest payload in bytes (R409). -/
def maxPayloadBytes : Nat := 512

/-- Configuration space of function f. -/
def State.pci (s : State) (f : Nat) : PciFn := fgetD s.host.pci f {}

/-- Set it. -/
def State.setPci (s : State) (f : Nat) (v : PciFn) : State := { s with host := { s.host with pci := fset s.host.pci f {} v } }

/-- VFs enabled by SR-IOV (GLB_FUNC.NUMVF). -/
def State.numVf (s : State) : Nat := if s.host.sriov.en then s.host.sriov.num else 0

/-- Function f answers configuration requests: the PF, and the VFs that SR-IOV has enabled (R410). -/
def State.fnPresent (s : State) (f : Nat) : Bool := f == 0 || decide (f ≤ s.numVf)

/-- Function f answers accesses to its BAR0: D0, and memory space enabled (for a VF by VF Memory Space Enable). -/
def State.barOpen (s : State) (f : Nat) : Bool :=
  s.fnPresent f && !(s.pci f).d3 && (if f = 0 then (s.pci 0).command.testBit 1 else s.host.sriov.mse)

/-- Function-level reset of f's configuration space and MSI-X table; AER status and masks are sticky (R411). -/
def PciFn.flr (c : PciFn) : PciFn := { aerUnc := c.aerUnc, aerUncMask := c.aerUncMask, aerCor := c.aerCor, aerCorMask := c.aerCorMask }

/-- What function f reads in configuration space (R409, R410): 32 GT/s is speed code 5, payload 512 is code 2. -/
def State.configRead (s : State) (f : Nat) (r : CfgReg) : Nat :=
  let c := s.pci f
  let v := s.host.sriov
  match r with
  | .vendorId => if f = 0 then Config.vendorId.toNat else 0xFFFF
  | .deviceId => if f = 0 then 0x8640 else 0xFFFF
  | .command => c.command
  | .maxPayload => 2
  | .linkCap => 5 + 16 * 4
  | .linkStatus => if s.pins.pcieUp then s.host.pcieRate + 16 * s.host.pcieLanes else 0
  | .powerState => if c.d3 then 3 else 0
  | .msixControl => (if f = 0 then 63 else 3) + (if c.msixMask then 2 ^ 14 else 0) + (if c.msixEn then 2 ^ 15 else 0)
  | .aerUncStatus => c.aerUnc
  | .aerUncMask => c.aerUncMask
  | .aerCorStatus => c.aerCor
  | .aerCorMask => c.aerCorMask
  | .sriovControl => if f = 0 then (if v.en then 1 else 0) + (if v.mse then 8 else 0) + (if v.ari then 16 else 0) else 0
  | .numVfs => if f = 0 then v.num else 0
  | .totalVfs => if f = 0 then 15 else 0
  | .firstVfOffset => if f = 0 then 1 else 0
  | .vfStride => if f = 0 then 1 else 0

/-! ## MSI-X -/

/-- Entries of a function's MSI-X table: 64 on the PF, 4 on a VF (Tables 16-2, 16-11). -/
def msixCount (f : Nat) : Nat := if f = 0 then 64 else 4

/-- Entry v of the table. -/
def PciFn.vec (c : PciFn) (v : Nat) : MsixVec := fgetD c.vecs v {}

/-- The function sends messages at all: the link up, D0, bus mastering and MSI-X enabled (R412). -/
def State.msixOn (s : State) (f : Nat) : Bool :=
  s.pins.pcieUp && s.fnPresent f && !(s.pci f).d3 && (s.pci f).command.testBit 2 && (s.pci f).msixEn

/-- Vector v of function f is masked. -/
def State.msixMasked (s : State) (f v : Nat) : Bool := (s.pci f).msixMask || ((s.pci f).vec v).masked

/-- The pending bit of a vector set or cleared. -/
def State.setPba (s : State) (f v : Nat) (b : Bool) : State :=
  let c := s.pci f
  if c.pba.testBit v = b then s else s.setPci f { c with pba := if b then c.pba + 2 ^ v else c.pba - 2 ^ v }

/-- A message of vector v of function f: sent, or pending while the vector is masked; a number beyond the table names none. -/
def State.msixSend (s : State) (f v : Nat) : State :=
  if s.msixOn f = false ∨ msixCount f ≤ v then s
  else if s.msixMasked f v then s.setPba f v true
  else s.emit (.msix f v ((s.pci f).vec v).addr ((s.pci f).vec v).data)

/-- The 64-bit word at offset 8i of a function's MSI-X table: message address, or data with the vector control. -/
def PciFn.tableWord (c : PciFn) (i : Nat) : Nat :=
  let e := c.vec (i / 2)
  if i % 2 = 0 then e.addr else e.data + (if e.masked then 2 ^ 32 else 0)

/-- It takes a value; the low address bits and the reserved control bits stay 0. -/
def PciFn.setTableWord (c : PciFn) (i v : Nat) : PciFn :=
  let e := c.vec (i / 2)
  { c with vecs := fset c.vecs (i / 2) {} (if i % 2 = 0 then { e with addr := v % 2 ^ 64 / 4 * 4 } else { e with data := v % 2 ^ 32, masked := v.testBit 32 }) }

/-- The index of the MSI-X table word of function f at offset `off` of its BAR0 (Tables 16-1, 16-2). -/
def msixIndex (f off : Nat) : Option Nat :=
  let base := if f = 0 then 0x158000 else 0x800
  if base ≤ off ∧ off < base + 16 * msixCount f then some ((off - base) / 8) else none

end Sys2Proof.Machine
end

