-- ==== Sys2Proof/Machine/Events.lean ====
section
/-! DEFINITION. Event numbers (Table 16-9) and the raising, delivery and episodes of events (R433 to R437). -/

namespace Sys2Proof.Machine

namespace Ev
def BOOT_DONE : Nat := 0
def RECOVERY : Nat := 1
def SEAL_VIOLATION : Nat := 2
def TICK_LOST : Nat := 3
def TICK_EARLY : Nat := 4
def POWER_GOV : Nat := 5
def THERMAL : Nat := 6
def WAKE : Nat := 7
def INVENTORY_LOSS : Nat := 8
def STAMP_RANGE : Nat := 9
def ADMIT_BLOCKED : Nat := 10
def LEDGER_LOST : Nat := 11
def DORMANT : Nat := 12
def LINK_DOWN (p : Nat) : Nat := 32 + 4 * p
def RECORD_REWIND (p : Nat) : Nat := 33 + 4 * p
def CREDIT_VIOLATION (p : Nat) : Nat := 34 + 4 * p
def POISON (p : Nat) : Nat := 35 + 4 * p
def CHANNEL (slot : Nat) : Nat := 96 + slot
def LEARN_FULL (t : Nat) : Nat := 352 + 4 * t
def VESTIBULE_FULL (t : Nat) : Nat := 353 + 4 * t
def UNCERTAIN (t : Nat) : Nat := 354 + 4 * t
def DEGRADED (t : Nat) : Nat := 355 + 4 * t
def QUOTA_SHORTFALL (g : Nat) : Nat := 608 + 8 * g
def ACTIVATION_CAP (g : Nat) : Nat := 609 + 8 * g
def CATALOGUE_SKEW (g : Nat) : Nat := 610 + 8 * g
def CONFIRM_REJECT (g : Nat) : Nat := 611 + 8 * g
def DRAWER_RETIRED (g : Nat) : Nat := 612 + 8 * g
def SPARE_EXHAUSTED (g : Nat) : Nat := 613 + 8 * g
def CAL_DRIFT (g : Nat) : Nat := 614 + 8 * g
def SELFTEST_FAIL (g : Nat) : Nat := 615 + 8 * g
def WEAR_STAGE : Nat := 672
def CABINET_FENCED : Nat := 673
def FALSE_MISS : Nat := 674
def SWEEP_LATE : Nat := 675
def DIGEST_MISMATCH : Nat := 676
def DRAWER_SUSPECT : Nat := 677
def RESTORE_DONE : Nat := 678
def FULLTEST_DONE : Nat := 679
def STORE_UNCORR : Nat := 736
def PIN_CONFLICT : Nat := 737
def PIN_DROPPED : Nat := 738
def STAGING_FULL : Nat := 739
def HIT_LOW : Nat := 740
def SITE_DISABLED : Nat := 768
def SITE_UNCORR : Nat := 769
def TAG_SPLIT : Nat := 770
def RPT_INSERT_FAIL : Nat := 771
def RPT_UNCORR : Nat := 772
def RPT_SHADOW : Nat := 773
def STARVE (r : Nat) : Nat := 800 + 2 * r
def WATCHDOG_FENCE (r : Nat) : Nat := 801 + 2 * r
def SEAM_ATTACH : Nat := 832
def SEAM_DETACH : Nat := 833
def SEAM_MISMATCH : Nat := 834
def SEAM_S_SHORT : Nat := 835
def SEAM_REFUSED : Nat := 836
def CSC_CHANGE : Nat := 864
def CSC_GAP : Nat := 865
def CSC_LATE : Nat := 866
def CSC_JOIN_REFUSED : Nat := 867
def EDIT_ABORT : Nat := 896
def CAPQ_IDLE (q : Nat) : Nat := 897 + q
def CAPQ_FULL (q : Nat) : Nat := 905 + q
def EVQ_IDLE : Nat := 913
def CPLQ_FULL : Nat := 914
def CFG_SEQ_TIE : Nat := 928
def CFG_MODE_FALLBACK : Nat := 929
def CFG_WRITE_TIMEOUT : Nat := 930
def CFG_COPY_DAMAGED : Nat := 931
def FLR : Nat := 960
def PCIE_LINK : Nat := 961
def PCIE_AER : Nat := 962
def DMA_ERROR : Nat := 963
end Ev

/-- The idle notice of a queue: 0 to 7 the capture queues, 8 the event queue (R431). -/
def State.idle (s : State) (q : Nat) : Idle := fgetD s.host.idle q {}

/-- Set the idle notice of a queue. -/
def State.setIdle (s : State) (q : Nat) (v : Idle) : State :=
  { s with host := { s.host with idle := fset s.host.idle q {} v } }

/-- The function a source belongs to: the owner of the slot for sources 96 to 351 (R433). -/
def State.eventFunc (s : State) (n : Nat) : Nat :=
  if 96 ≤ n ∧ n ≤ 351 then (s.chan (n - 96)).owner else s.get Reg.EVT_SRC_FUNC n

/-- The event record of a raise (Table 16-10). -/
def eventRecord (lost held : Bool) (func source : Nat) (tick : Tick) : BitVec 64 :=
  BitVec.ofNat 64 (2 ^ 63 + (if lost then 2 ^ 62 else 0) + func % 16 * 2 ^ 58 + source % 1024 * 2 ^ 48 +
    (if held then 2 ^ 47 else 0) + (if held then 0 else tick % 2 ^ 47))

/-- Append a record to the event queue of 4,096, or count it as lost (R436). -/
def State.pushEvent (s : State) (n : Nat) (held : Bool) : State :=
  if s.host.evq.length < 4096 then
    let t := if s.host.evq.isEmpty then s.setIdle 8 { s.idle 8 with from_ := s.clock } else s
    { t with host := { t.host with
        evq := t.host.evq ++ [eventRecord t.host.evqLost held (s.eventFunc n) n s.tick.now], evqLost := false } }
  else
    let t := (s.bump Reg.EVT_CNT_LOST_COUNT).put Reg.EVT_STATUS_EVQ_OVERFLOW 1
    { t with host := { t.host with evqLost := true } }

/-- Send an MSI-X message on a PF vector under its hold-off (R434); none while messages are off (R412), and a masked vector becomes
pending without a hold-off. -/
def State.msixPf (s : State) (v : Nat) : State :=
  if s.msixOn 0 = false then s else
    let h := fgetD s.host.hold v (0, false)
    if s.clock < h.1 then { s with host := { s.host with hold := fput s.host.hold v (h.1, true) } }
    else
      let us := s.get Reg.EVT_VEC_HOLDOFF_US v
      let t := s.msixSend 0 v
      if s.msixMasked 0 v then t
      else { t with host := { t.host with
          hold := if us = 0 then fdel t.host.hold v else fput t.host.hold v (s.clock + us * cyclesPerUs, false) } }

/-- A message of function f: the PF's under the hold-off of its vector (R434). -/
def State.msixTo (s : State) (f v : Nat) : State := if f = 0 then s.msixPf v else s.msixSend f v

/-- Send the message of a source: the PF's vector, or VFVEC of an enabled VF (R433, R410). -/
def State.msixOf (s : State) (n : Nat) : State :=
  let f := s.eventFunc n
  s.msixTo f (if f = 0 then s.get Reg.EVT_SRC_VECTOR n else s.get Reg.EVT_SRC_VFVEC n)

/-- Deliver a raise of source n (R433). -/
def State.deliver (s : State) (n : Nat) (held : Bool) : State :=
  let t := (s.bump Reg.EVT_SRC_COUNT 1 n).bump Reg.EVT_CNT_RAISED_COUNT
  if t.flag Reg.EVT_SRC_EN n && !t.flag Reg.EVT_SRC_PEND n then
    let u := t.put Reg.EVT_SRC_PEND 1 n
    let v := if u.flag Reg.EVT_SRC_QUEUE n then u.pushEvent n held else u
    v.msixOf n
  else t

/-- Raise source n: delivered in service state, held in start-up until entry to service state, lost in recovery
state and in dormancy (R433, R437). -/
def State.raise (s : State) (n : Nat) : State :=
  match s.mode with
  | .service => s.deliver n false
  | .startUp => { s with boot := { s.boot with held := s.boot.held ++ [n] } }
  | .recovery => s
  | .dormant => s

/-- Raise source n once per episode: an episode ends after 1,024 ticks without a recurrence. `key` tells apart
episodes that share a source. -/
def State.raiseEp (s : State) (n : Nat) (key : Nat := 0) : State :=
  let k := n + 1024 * key
  let open_ : Bool := match fget s.host.episodes k with
    | some t => decide (tickSub s.tick.now t ≤ 1024)
    | none => false
  let u := { s with host := { s.host with episodes := fput s.host.episodes k s.tick.now } }
  if open_ then u else u.raise n

/-- Raise source n at most once per 1,024 ticks (Tables 2-2, 6-8). -/
def State.raiseRate (s : State) (n : Nat) : State :=
  match fget s.host.episodes n with
  | some t => if tickSub s.tick.now t < 1024 then s
      else { s with host := { s.host with episodes := fput s.host.episodes n s.tick.now } }.raise n
  | none => { s with host := { s.host with episodes := fput s.host.episodes n s.tick.now } }.raise n

/-- A channel status bit is set; going from 0 to 1 it raises the channel's event (R123). -/
def State.chanCause (s : State) (F : Field) (slot : Nat) : State :=
  if s.flag F slot then s else (s.put F 1 slot).raise (Ev.CHANNEL slot)

/-- An entry of the log in the attached memory is owed, with the tick of what it records (Table 15-3, notes/assumptions/132.md). -/
def State.oweLog (s : State) (type data : Nat) : State :=
  { s with cfg := { s.cfg with logs := s.cfg.logs ++ [⟨type, s.tick.now, data⟩] } }

/-- Set a status bit and raise an event. -/
def State.setRaise (s : State) (F : Field) (n : Nat) : State := (s.put F 1).raise n

end Sys2Proof.Machine
end

