-- ==== Sys2Proof/Machine/Operands.lean ====
section
/-! DEFINITION. How the device reads what it is given: CRC-32, the stored form of flits, records and their header
(Table 3-3), channel template words (Tables 4-1 to 4-4), keys (R110), table attributes (Tables 5-6, 6-1, 6-2), entry
records (Table 6-3) and site entries (Table 9-1). -/

namespace Sys2Proof.Machine

/-! ## CRC-32 (R75) -/

/-- One bit of the reflected IEEE 802.3 division. -/
def crcBit (c : Nat) : Nat := if c % 2 = 1 then (c / 2) ^^^ 0xEDB88320 else c / 2

/-- One byte, least significant bit first. -/
def crcByte (c : Nat) (b : Byte) : Nat :=
  crcBit (crcBit (crcBit (crcBit (crcBit (crcBit (crcBit (crcBit (c ^^^ b.toNat))))))))

/-- The CRC-32 of R75 over bytes in order: register preset to all ones, result complemented. -/
def crc32 (l : List Byte) : Nat := (l.foldl crcByte 0xFFFFFFFF) ^^^ 0xFFFFFFFF

/-- One bit of a CRC-64 under the ECMA-182 polynomial. -/
def crc64Bit (c : Nat) (b : Bool) : Nat :=
  let top : Bool := c.testBit 63 != b
  let v := c * 2 % 2 ^ 64
  if top then v ^^^ 0x42F0E1EBA9EA3693 else v

/-- CRC-64 of a string of bits. -/
def crc64Bits (l : List Bool) : BitVec 64 := BitVec.ofNat 64 (l.foldl crc64Bit Config.crcInit.toNat) ^^^ Config.crcLast

/-- The n low bits of a number, in the order CRC-64 takes them. -/
def crcOrder (n v : Nat) : List Bool := (List.range n).map fun i => v.testBit (if Config.crcLow then i else n - 1 - i)

/-- CRC-64 of a string of bytes (R316, R329). -/
def crc64 (l : List Byte) : BitVec 64 := crc64Bits (l.flatMap fun b => crcOrder 8 b.toNat)

/-- The bytes of a flit: byte k is bits [8k+7:8k] (R72). -/
def flitBytes (f : Flit) : List Byte := leBytes 32 f.toNat

/-- The CRC-32 of a record checks: over every byte up to byte 27 of the last flit, stored from byte 28 (R75). -/
def recCrcOk (fl : List Flit) : Bool :=
  let b := fl.flatMap flitBytes
  let n := b.length - 4
  crc32 (b.take n) == leNat (b.drop n)

/-! ## Stored flits (R84, R85) -/

/-- XOR of the bits of a number below 2^n. -/
def parityOf : Nat → Nat → Bool
  | 0, _ => false
  | n + 1, v => xor (v % 2 == 1) (parityOf n (v / 2))

/-- A queue word in parity mode: bit 64 makes bits [64:0] even, bits [71:65] are 0. -/
def qword (v : Nat) : BitVec 72 :=
  BitVec.ofNat 72 (v % 2 ^ 64 + if parityOf 64 (v % 2 ^ 64) then 2 ^ 64 else 0)

/-- A flit as stored. -/
def QFlit.ofFlit (f : Flit) : QFlit :=
  { w0 := qword f.toNat, w1 := qword (f.toNat >>> 64), w2 := qword (f.toNat >>> 128), w3 := qword (f.toNat >>> 192) }

/-- The data bits of a stored word. -/
def wordData (w : BitVec 72) : Nat := w.toNat % 2 ^ 64

/-- A stored flit read back. -/
def QFlit.flit (q : QFlit) : Flit :=
  BitVec.ofNat 256 (wordData q.w0 + wordData q.w1 * 2 ^ 64 + wordData q.w2 * 2 ^ 128 + wordData q.w3 * 2 ^ 192)

/-- A stored word fails its parity check. -/
def wordBad (w : BitVec 72) : Bool := parityOf 65 (w.toNat % 2 ^ 65)

/-- Header words 0 and 1 of a record fail the check made at commit (R86). -/
def headBad (l : List QFlit) : Bool :=
  match l with
  | [] => false
  | q :: _ => wordBad q.w0 || wordBad q.w1

/-- Some other word of a record fails the check made at the plan (R86). -/
def bodyBad (l : List QFlit) : Bool :=
  match l with
  | [] => false
  | q :: t => wordBad q.w2 || wordBad q.w3 || t.any fun r => wordBad r.w0 || wordBad r.w1 || wordBad r.w2 || wordBad r.w3

/-! ## Records (Table 3-3) -/

/-- The header flit. -/
def recHead (l : List Flit) : Nat := match l with | [] => 0 | f :: _ => f.toNat

/-- FLITS + 1 of a header flit. -/
def hdrFlits (f : Flit) : Nat := bits f 9 8 + 1

/-- SITE of a record. -/
def recSite (l : List Flit) : Nat := (recHead l >>> 16) % 4096

/-- TAG of a record. -/
def recTag (l : List Flit) : Nat := (recHead l >>> 32) % 2 ^ 24

/-- STAMP of a record. -/
def recStamp (l : List Flit) : Tick := (recHead l >>> 64) % 2 ^ 48

/-- SEQ of a record. -/
def recSeq (l : List Flit) : Nat := (recHead l >>> 112) % 2 ^ 16

/-- The flits of a record as one number: record bit 256f + b is bit b of flit f (R109). -/
def recNat : List Flit → Nat
  | [] => 0
  | f :: t => f.toNat + 2 ^ 256 * recNat t

/-- The first record bit that reads 0: 256F − 32 (R109). -/
def recTop (l : List Flit) : Nat := 256 * l.length - 32

/-- `n` record bits from address `a`; bits at or above 256F − 32 read 0 (R109). -/
def recField (l : List Flit) (a n : Nat) : Nat := ((recNat l % 2 ^ recTop l) >>> a) % 2 ^ n

/-! ## Template words (Tables 4-2 to 4-4) -/

namespace Lk
def en (w : BitVec 64) : Bool := bitOf w 0
def table (w : BitVec 64) : Nat := bits w 6 1
def width (w : BitVec 64) : Nat := bits w 8 7
def condOp (w : BitVec 64) : Nat := bits w 10 9
def condOff (w : BitVec 64) : Nat := bits w 20 11
def rfmt (w : BitVec 64) : Nat := bits w 22 21
def dsel (w : BitVec 64) : Nat := bits w 29 23
def rsvd (w : BitVec 64) : Nat := bits w 31 30
def condMask (w : BitVec 64) : Nat := bits w 47 32
def condValue (w : BitVec 64) : Nat := bits w 63 48
end Lk

namespace Sg
def src (w : BitVec 64) : Nat := bits w 1 0
def lmask (w : BitVec 64) : Nat := bits w 5 2
def soff (w : BitVec 64) : Nat := bits w 15 6
def len (w : BitVec 64) : Nat := bits w 22 16
def doff (w : BitVec 64) : Nat := bits w 32 23
def rsvd (w : BitVec 64) : Nat := bits w 39 33
def const (w : BitVec 64) : Nat := bits w 63 40
end Sg

namespace Eg
def dest (w : BitVec 64) : Nat := bits w 1 0
def port (w : BitVec 64) : Nat := bits w 5 2
def capStatus (w : BitVec 64) : Nat := bits w 15 6
def capPoison (w : BitVec 64) : Bool := bitOf w 16
def capAll (w : BitVec 64) : Bool := bitOf w 17
def rsvd (w : BitVec 64) : Nat := bits w 63 18
end Eg

/-- The condition of a lookup on a record (R111). -/
def condTrue (w : BitVec 64) (l : List Flit) : Bool :=
  let v := recField l (Lk.condOff w) 16 &&& Lk.condMask w
  match Lk.condOp w with
  | 0 => true
  | 1 => v == Lk.condValue w
  | 2 => v != Lk.condValue w
  | _ => false

/-- The source bits of a segment as a number (R110). -/
def segSource (w : BitVec 64) (l : List Flit) (port : Nat) (poison : Bool) : Nat :=
  let n := Sg.len w + 1
  match Sg.src w with
  | 0 => recField l (Sg.soff w) n
  | 1 => Sg.const w % 2 ^ n
  | _ => (if Sg.soff w = 0 then port % 16 else if Sg.soff w = 1 then (if poison then 1 else 0) else 0) % 2 ^ n

/-- Replace bits [o + n − 1 : o] of a number. -/
def setBits (k o n v : Nat) : Nat := k - ((k >>> o) % 2 ^ n) * 2 ^ o + (v % 2 ^ n) * 2 ^ o

/-- The key of lookup i: segments applied in ascending order to zeros, later bits standing (R110). -/
def buildKey (segs : List (BitVec 64)) (i : Nat) (l : List Flit) (port : Nat) (poison : Bool) : BitVec 640 :=
  BitVec.ofNat 640 (segs.foldl (fun k w =>
    if (Sg.lmask w).testBit i then setBits k (Sg.doff w) (Sg.len w + 1) (segSource w l port poison) else k) 0)

/-- The record has bits at or above 256F − 32 read by a segment of an active lookup or a condition (R112). -/
def readsShort (lk segs : List (BitVec 64)) (active : List Bool) (l : List Flit) : Bool :=
  (segs.any fun w => Sg.src w == 0 && decide (recTop l < Sg.soff w + Sg.len w + 1) &&
    (List.range 4).any fun i => (Sg.lmask w).testBit i && active.getD i false) ||
  lk.any fun w => Lk.en w && Lk.condOp w != 0 && decide (recTop l < Lk.condOff w + 16)

/-! ## Table attributes (Tables 6-1, 6-2, 5-6) -/

def Table.transient (t : Table) : Bool := bitOf t.attr 0
def Table.ranked (t : Table) : Bool := bitOf t.attr 1
def Table.width (t : Table) : Nat := bits t.attr 3 2
def Table.rmode (t : Table) : Nat := bits t.attr 5 4
def Table.learnEn (t : Table) : Bool := bitOf t.attr 6
def Table.tallyEn (t : Table) : Bool := bitOf t.attr 7
def Table.gals (t : Table) : Nat := bits t.attr 15 8
def Table.cascaded (t : Table) : Bool := bitOf t.attr 16
def Table.accMember (t : Table) : Nat := bits t.attr 20 17
def Table.maxEntries (t : Table) : Nat := bits t.limit 23 0
def Table.ncat (t : Table) : Nat := bits t.sel0 3 0
def Table.learnBase (t : Table) : Nat := bits t.learn 23 0
def Table.learnCount (t : Table) : Nat := bits t.learn 47 24
def Table.learnRank (t : Table) : Nat := bits t.learn 63 48
def Table.learnDref (t : Table) : Nat := bits t.learn2 21 0
def Table.tallyNblk (t : Table) : Nat := bits t.learn2 40 32

/-- POS(k) of the catalogue selector (Table 5-6). -/
def Table.pos (t : Table) (k : Nat) : Nat :=
  if k < 6 then bits t.sel0 (10 * k + 13) (10 * k + 4) else bits t.sel1 (10 * (k - 6) + 9) (10 * (k - 6))

/-- The galleries a table spans, ascending. -/
def Table.galList (t : Table) : List Nat := (List.range 8).filter fun g => t.gals.testBit g

/-- The code of a key (R142). -/
def Table.code (t : Table) (key : BitVec 640) : Nat :=
  (List.range t.ncat).foldl (fun c k => c + if bitOf key (t.pos k) then 2 ^ k else 0) 0

/-- Bit i of an entry does not depend on the key bit: state X, or N, which is taken as X (R144). -/
def freeBit (care : BitVec 640) (i : Nat) : Bool := !bitOf care i

/-- An entry covers code x (R144). -/
def Table.covers (t : Table) (value care : BitVec 640) (x : Nat) : Bool :=
  (List.range t.ncat).all fun k => freeBit care (t.pos k) || (bitOf value (t.pos k) == x.testBit k)

/-- An entry id lies in the learn range of a learn-enabled table; a table with LEARN 0 has none, whatever LEARN_COUNT says (R183; DESIGN
CHOICE, notes/assumptions/125.md). -/
def Table.inLearn (t : Table) (id : Nat) : Bool :=
  t.learnEn && decide (t.learnBase ≤ id) && decide (id < t.learnBase + t.learnCount)

/-- A table descriptor of 128 bytes (Table 6-1). -/
def tableOfBytes (b : List Byte) : Table :=
  { attr := BitVec.ofNat 64 (leAt b 0 8), limit := BitVec.ofNat 64 (leAt b 8 8), sel0 := BitVec.ofNat 64 (leAt b 16 8),
    sel1 := BitVec.ofNat 64 (leAt b 24 8), learn := BitVec.ofNat 64 (leAt b 32 8),
    learn2 := BitVec.ofNat 64 (leAt b 40 8), mask := BitVec.ofNat 640 (leAt b 48 80) }

/-- Two tables have identical descriptors (R169). -/
def sameDesc (a b : Table) : Bool :=
  a.attr == b.attr && a.limit == b.limit && a.sel0 == b.sel0 && a.sel1 == b.sel1 && a.learn == b.learn &&
    a.learn2 == b.learn2 && a.mask == b.mask

/-! ## Entries (Table 6-3) and ternary matching -/

/-- Bytes of VALUE for a width code (R173). -/
def entryV (w : Nat) : Nat := if w = 0 then 16 else if w = 1 then 24 else if w = 2 then 40 else 80

/-- An entry record as read. -/
structure EntryRec where
  id : Nat
  rank : Nat
  dref : Nat
  rsvd : Nat
  info : Nat
  value : BitVec 640
  care : BitVec 640
  wide : Bool
  deriving DecidableEq, Repr

/-- Read an entry record of a table of width code w. `wide`: a value or care bit at or above the key width is 1. -/
def entryOfBytes (b : List Byte) (w : Nat) : EntryRec :=
  let h := leAt b 0 8
  let v := leAt b 16 (entryV w)
  let c := leAt b (16 + entryV w) (entryV w)
  { id := h % 2 ^ 24, rank := (h >>> 24) % 2 ^ 16, dref := (h >>> 40) % 2 ^ 22, rsvd := h >>> 62, info := leAt b 8 8,
    value := BitVec.ofNat 640 v, care := BitVec.ofNat 640 c,
    wide := decide (2 ^ widthBits w ≤ v) || decide (2 ^ widthBits w ≤ c) }

/-- The bytes of an entry record the device returns. -/
def entryBytes (w id rank dref info : Nat) (value care : BitVec 640) : List Byte :=
  leBytes 8 (id + rank * 2 ^ 24 + dref * 2 ^ 40) ++ leBytes 8 info ++ leBytes (entryV w) value.toNat ++
    leBytes (entryV w) care.toNat

/-- The low bits of a word below a width. -/
def widthMask (w : Nat) : BitVec 640 := BitVec.ofNat 640 (2 ^ widthBits w - 1)

/-- A ternary entry matches a key (Table 5-2, R130): no cared bit differs, no bit is in state N. -/
def ternaryMatch (w : Nat) (value care key : BitVec 640) : Bool :=
  let m := widthMask w
  ((((value ^^^ key) &&& care) ||| (value &&& ~~~care)) &&& m) == 0

/-- The entry holds a bit in state N. -/
def hasN (w : Nat) (value care : BitVec 640) : Bool := ((value &&& ~~~care) &&& widthMask w) != 0

/-! ## Site entries (Table 9-1) -/

namespace St
def handle (w : BitVec 64) : Nat := bits w 15 0
def en (w : BitVec 64) : Bool := bitOf w 16
def capPort (w : BitVec 64) : Nat := bits w 20 17
def policy (w : BitVec 64) : Nat := bits w 23 22
/-- The defined fields of a site word: reserved bits read 0 (R9). -/
def defined (w : BitVec 64) : BitVec 64 := w &&& 0xDFFFFF#64
end St

end Sys2Proof.Machine
end

