-- ==== Sys2Proof/Machine/Flags.lean ====
section
/-! DEFINITION. Computed status: the latency minimum and the causes that block admission (R18, R59, R61), the slot
budgets (R52), the wear stage (Table 7-2), the activation cap (R386), the degraded state of tables (R204). -/

namespace Sys2Proof.Machine

/-! ## Latency minimum -/

/-- Pipeline cycles for a lookup that spans m members: 640 ns + 56 ns × (m − 1), in cycles of 0.8 ns (R18). -/
def pipeCycles (m : Nat) : Nat := 800 + 70 * (m - 1)

/-- L_MIN = ceil((640 ns + 56 ns × (m − 1)) / P) + 1 (R59). -/
def lMin (p m : Nat) : Nat := ceilDiv (pipeCycles m) p + 1

/-- The period admits records at all (R18). -/
def r18Holds (p m : Nat) : Bool := decide (0 < p) && decide (lMin p m ≤ 16)

/-- SPAN of the ring: N positions unbroken, 2N' − 1 in a wrapped chain (R351). -/
def State.ringSpan (s : State) : Nat :=
  let n := s.get Reg.CSC_STATUS_POSITIONS
  if s.csc.gone = 0 then n else 2 * n - 1

/-- The device is a live member of a cascade. -/
def State.cascaded (s : State) : Bool := s.get Reg.CSC_STATUS_STATE == 2

/-- Members spanned by a table: the ring's span for a cascaded one, else 1 (R59). -/
def State.tableSpan (s : State) (t : Nat) : Nat :=
  match s.table t with
  | some d => if d.cascaded && s.cascaded then max s.ringSpan 1 else 1
  | none => 1

/-- m: the largest span of a table that an enabled lookup of a live channel references (R59). -/
def State.spanM (s : State) : Nat :=
  (s.chans.flatMap fun c => if c.2.st == .live then c.2.lookups.map (fun w => if Lk.en w then s.tableSpan (Lk.table w) else 1)
    else []).foldl max 1

/-- TCK_LATENCY.LMIN and SPAN at the current P and m: 31 where R18 fails (Table 2-1). -/
def State.showLatency (s : State) : State :=
  let m := s.spanM
  (s.put Reg.TCK_LATENCY_SPAN m).put Reg.TCK_LATENCY_LMIN (if r18Holds s.period m then lMin s.period m else 31)

/-! ## Admission -/

/-- The first cause that keeps admission closed, in the order of R61; 0 when none holds. -/
def State.blockCause (s : State) : Nat :=
  if s.mode ≠ .service then 7
  else if s.tick.retime.isSome then 4
  else if s.tick.lossClosed then 6
  else if s.tick.full < 2 then 1
  else if s.flag Reg.TCK_CTRL_ADMIT_EN = false then 5
  else if r18Holds s.period s.spanM = false then 3
  else if s.lat < lMin s.period s.spanM then 2
  else 0

/-- Report a cause in TCK_STATUS; taking the value 2, 3 or 6 raises EV_ADMIT_BLOCKED in service state (Table 2-2). -/
def State.setBlock (s : State) (c : Nat) (open_ : Bool) : State :=
  let old := s.get Reg.TCK_STATUS_BLOCK
  let t := (s.put Reg.TCK_STATUS_BLOCK c).putB Reg.TCK_STATUS_ADMIT_OPEN open_
  if s.mode = .service ∧ c ≠ old ∧ (c = 2 ∨ c = 3 ∨ c = 6) then t.raise Ev.ADMIT_BLOCKED else t

/-- Admission opens: the records that wait in the queues without a tick are offered to the plans from now on (R45, R61). -/
def State.openAdmission (s : State) : State :=
  let ports := if s.tick.open_ then s.ports else s.ports.map fun e => (e.1, { e.2 with queue := e.2.queue.map fun r => { r with waits := true } })
  let t : State := { s with tick := { s.tick with open_ := true }, ports := ports }
  t.setBlock 0 true

/-! ## Budgets -/

/-- S of gallery g: P − ceil(P/64) − C_g (R52); C_g is 0 unless the device is cascaded. -/
def State.slotBudget (s : State) (g : Nat) : Nat :=
  s.period - ceilDiv s.period 64 - (if s.cascaded then s.get Reg.CSC_TOKSLOT_SLOTS g else 0)

/-- ACT_FACTOR: 0 behaves as 1, 9 to 15 as 8 (Table 2-1). -/
def State.actFactor (s : State) : Nat := min (max (s.get Reg.TCK_ACT_ACT_FACTOR) 1) 8

/-- A of gallery g: min(ACT_FACTOR × S, governor cap) (R52). -/
def State.actBudget (s : State) (g : Nat) : Nat := min (s.actFactor * s.slotBudget g) (s.get Reg.TCK_ACT_CAP)

/-- F: floor(P / 4) (R52). -/
def State.fetchBudget (s : State) : Nat := s.period / 4

/-- Q(c, g) = floor(S_g × QF(c, g) / 1,024) (R114). -/
def State.quota (s : State) (c g : Nat) : Nat := s.slotBudget g * (s.chan c).qf.getD g 0 / 1024

/-- The QF sum of gallery g over live and fencing channels (R114). -/
def State.qfSum (s : State) (g : Nat) : Nat :=
  (s.chans.map fun c => if c.2.st == .free then 0 else c.2.qf.getD g 0).sum

/-- Slots left over by the quotas: the spare pool (R55). -/
def State.sparePool (s : State) (g : Nat) : Nat :=
  s.slotBudget g - (s.chans.map fun c => if c.2.st == .live || c.2.st == .fencing || c.2.st == .destroying then s.quota c.1 g else 0).sum

/-! ## Power governor (R386) -/

/-- LIMIT in 0.1 W: below 50 behaves as 50, above 300 as 300 (Table 14-3). -/
def State.powerLimit (s : State) : Nat := min (max (s.get Reg.PWR_GOV_LIMIT) 50) 300

/-- TJ_LIMIT: above 105 behaves as 105 (Table 14-3). -/
def State.tjLimit (s : State) : Nat := min (s.get Reg.PWR_GOV_TJ_LIMIT) 105

/-- The cap the governor does not need to bind: ACT_FACTOR × S with C_g = 0 at its largest over the galleries. -/
def State.capTop (s : State) : Nat :=
  s.actFactor * ((List.range 8).map s.slotBudget).foldl max 0

/-- The cap after a tick: one sixteenth lower above the limit less 0.5 W or at TJ_LIMIT, one sixty-fourth higher below
the limit less 1.5 W, never below floor(P/8) (R386). Fractions of a cap round up (notes/assumptions/24.md). -/
def capNext (cap top power limit tj tjLimit floor_ : Nat) : Nat :=
  let c := if limit - 5 < power ∨ tjLimit ≤ tj then cap - ceilDiv cap 16
    else if power < limit - 15 ∧ tj < tjLimit then min (cap + ceilDiv cap 64) top
    else cap
  max c floor_

/-- The cap that a boundary's step starts from: its top before the first one of service state, which finds the register at its
reset value 0, below every cap (notes/assumptions/24.md). -/
def State.capNow (s : State) : Nat := if s.get Reg.TCK_ACT_CAP = 0 then s.capTop else s.get Reg.TCK_ACT_CAP

/-- The governor's work of one boundary (R386, R54). -/
def State.governor (s : State) (b : Boundary) : State :=
  let cap := capNext s.capNow s.capTop b.power s.powerLimit b.tj s.tjLimit (s.period / 8)
  let t := ((s.put Reg.PWR_STATUS_POWER b.power).put Reg.PWR_STATUS_TJ b.tj).put Reg.TCK_ACT_CAP cap
  let capping : Bool := decide (cap < s.capTop)
  let u := if capping && !t.flag Reg.PWR_STATUS_CAPPING then t.raise Ev.POWER_GOV else t
  let v := u.putB Reg.PWR_STATUS_CAPPING capping
  let hot : Bool := decide (s.tjLimit ≤ b.tj)
  let w := if hot && decide (s.get Reg.PWR_STATUS_TJ < s.tjLimit) then v.setRaise Reg.PWR_STATUS_THERMAL Ev.THERMAL else v
  (List.range 8).foldl (fun x g => if cap < s.actFactor * s.slotBudget g then x.raiseEp (Ev.ACTIVATION_CAP g) else x) w

/-! ## Wear stage (Table 7-2) -/

/-- The governor stage of a balance. -/
def wearStage (b : Int) : Nat := if 2 ^ 37 ≤ b then 0 else if 2 ^ 35 ≤ b then 1 else if 1 ≤ b then 2 else 3

/-- Change the wear balance, capped at 2^39; a change of stage raises EV_WEAR_STAGE (R217, R218). -/
def State.setBalance (s : State) (b : Int) : State :=
  let b' := if 2 ^ 39 < b then 2 ^ 39 else b
  let st := wearStage b'
  let t := { s with cur := { s.cur with balance := b', stage := st } }
  if st = s.cur.stage then t else t.raise Ev.WEAR_STAGE

/-- Cell programmings are spent (R214, R217). -/
def State.spend (s : State) (cells : Nat) : State :=
  let t := { s with cur := { s.cur with programmed := s.cur.programmed + cells } }
  t.setBalance (s.cur.balance - cells)

/-- RES_MIN in cycles (R218). -/
def State.resMin (s : State) : Nat := s.get Reg.CUR_WEAR_CTRL_RES_MIN_MS * cyclesPerMs

/-- RES_MAX in cycles; 0 behaves as 1 s (Table 7-3). -/
def State.resMax (s : State) : Nat := max (s.get Reg.CUR_WEAR_CTRL_RES_MAX_S) 1 * cyclesPerS

/-- Vestibule residency in cycles: RES_MIN in stage 0, linear to RES_MAX at 2^35 in stage 1, RES_MAX beyond (R218). -/
def State.residency (s : State) : Nat :=
  if s.cur.stage = 0 then s.resMin
  else if s.cur.stage = 1 then
    let x := (2 ^ 37 - s.cur.balance).toNat
    s.resMin + (s.resMax - s.resMin) * x / (2 ^ 37 - 2 ^ 35)
  else s.resMax

/-! ## Degraded tables (R204) -/

/-- The cabinet of a unit: drawer 17c + d of a durable table, cabinet c of a transient one (R143). -/
def unitCab (transient : Bool) (u : Nat) : Nat := if transient then u else u / 17

/-- A unit of table t lies in a fenced cabinet. -/
def State.fencedUnit (s : State) (t : Nat) : Bool :=
  match s.table t with
  | none => false
  | some d =>
    (s.bays.any fun b => b.tbl == t && b.units.any fun u => (s.cab (32 * b.g + unitCab d.transient u)).fenced) ||
    s.broad.any fun b => b.tbl == t && (s.cab (32 * b.g + unitCab d.transient b.unit)).fenced

/-- Table t is to be DEGRADED: a fenced unit, a lost entry, or out of service. -/
def State.degradedNow (s : State) (t : Nat) : Bool :=
  match s.table t with
  | none => false
  | some d => s.fencedUnit t || s.lost.any (fun e => e.1 == t) || d.outOfService

/-- Bring the DEGRADED state of every table up to date; entry sets TBL_STATUS.DEGRADED and raises EV_DEGRADED. -/
def State.showDegraded (s : State) : State :=
  s.tables.foldl (fun x e =>
    let now := s.degradedNow e.1
    if now = e.2.degraded then x
    else
      let y := x.setTable e.1 { e.2 with degraded := now }
      if now then (y.put Reg.TBL_STATUS_DEGRADED 1 e.1).raise (Ev.DEGRADED e.1) else y) s

/-! ## Requesters -/

/-- The states in which a requester requests (Table 10-2). -/
def State.mayRequest (s : State) (r : Nat) : Bool :=
  match s.mode with
  | .service => decide (r < 14) && r != 3 && (r != 11 || s.cabs.any (·.2.checking))
  | .startUp => r == 3 || r == 6 || r == 7 || r == 9 || r == 11
  | .recovery => r == 0 || r == 9 || r == 10 || ((r == 6 || r == 8) && s.cur.fullTest)
  | .dormant => false

/-- Requester r works on the medium: it may request, and the array is powered, in start-up from step 5 on (R360). -/
def State.curating (s : State) (r : Nat) : Bool := s.mayRequest r && (s.mode != .startUp || decide (5 ≤ s.get Reg.BOOT_STATUS_STEP))

/-- Work of requester r on the medium, done in the states in which it works. -/
def State.ifCurating (s : State) (r : Nat) (f : State → State) : State := if s.curating r then f s else s

/-- The array is powered (R360, R380). -/
def State.arrayOn (s : State) : Bool :=
  match s.mode with
  | .service | .recovery => true
  | .startUp => decide (5 ≤ s.get Reg.BOOT_STATUS_STEP)
  | .dormant => false

/-! ## Ticks and the row-state map -/

/-- A row is enabled for the searches of tick t (Table 6-5). -/
def Row.enabledAt (r : Row) (t : Tick) : Bool :=
  let before : Bool := match r.off with | some f => tickLater f t | none => true
  match r.st with
  | .pending => false
  | .set => false
  | .entering => tickLe r.on t && before
  | .live => before

/-- The row holds an entry that is committed, as the table stands at the start of tick t. -/
def Row.committedAt (r : Row) (t : Tick) : Bool := r.enabledAt t

/-- Half-open age of a row in the vestibule, in cycles. -/
def State.ageOf (s : State) (r : Row) : Nat := s.clock - r.since

/-! ## Handles -/

/-- The handle is current: its slot is live or fencing, its generation the slot's (R98). -/
def State.handleCurrent (s : State) (h : Nat) : Bool :=
  let c := s.chan (h % 256)
  decide (h % 256 ≠ 0) && c.gen == h / 256 && (c.st == .live || c.st == .destroying || c.st == .fencing)

end Sys2Proof.Machine
end

