-- ==== Sys2Proof/Machine/Flit.lean ====
section
/-! DEFINITION. Flits on the wire: the fields of link flits (Table 3-2), the link flits the device sends, the 257-bit block and the
RS(544,514) codeword of a lane (R65, R66, R72, R73). -/

namespace Sys2Proof.Machine

/-! ## Link flits received (Table 3-2) -/

namespace Lf
def kind (f : Flit) : Nat := bits f 7 0
def version (f : Flit) : Nat := bits f 15 8
def port (f : Flit) : Nat := bits f 19 16
def ack (f : Flit) : Bool := bitOf f 20
def grant (f : Flit) : Nat := bits f 47 32
def cum (f : Flit) : Nat := bits f 39 8
def tick (f : Flit) : Nat := bits f 55 8
def admitOpen (f : Flit) : Bool := bitOf f 56
def lane (f : Flit) : Nat := bits f 8 8
def count (f : Flit) : Nat := bits f 31 16
def cumSent (f : Flit) : Nat := bits f 39 8
end Lf

/-- The KIND codes of Table 3-2. -/
def kHello : Nat := 1
def kCredit : Nat := 2
def kTick : Nat := 3
def kAlign : Nat := 4
def kSync : Nat := 5

/-! ## Link flits sent -/

/-- Link flits the device sends (Table 3-2). -/
inductive LinkFlit where
  | hello (port : Nat) (ack : Bool)
  | credit (cum : Nat)
  | tick (n : Tick) (admitOpen : Bool)
  | align (lane count : Nat)
  | resyncReq
  | control (msg tag : Nat) (body : List Byte)
  | capture (src flits : Nat) (tick : Tick)
  deriving DecidableEq, Repr

/-- The fields of a link flit at their places, every other bit 0 (R72, Table 3-2). HELLO carries VERSION 1 and GRANT 0 (R69); LANE is
one bit, on a link of four lanes the lane modulo 2 (notes/assumptions/110.md). -/
def LinkFlit.word : LinkFlit → Nat
  | .hello port ack => 1 + 2 ^ 8 + port % 16 * 2 ^ 16 + (if ack then 2 ^ 20 else 0)
  | .credit cum => 2 + cum % 2 ^ 32 * 2 ^ 8
  | .tick n o => 3 + n % 2 ^ 48 * 2 ^ 8 + (if o then 2 ^ 56 else 0)
  | .align lane count => 4 + lane % 2 * 2 ^ 8 + count % 2 ^ 16 * 2 ^ 16
  | .resyncReq => 6
  | .control msg tag body => 7 + msg % 2 ^ 8 * 2 ^ 8 + tag % 2 ^ 24 * 2 ^ 16 + leNat body % 2 ^ 216 * 2 ^ 40
  | .capture src flits n => 8 + src % 16 * 2 ^ 8 + (flits - 1) % 4 * 2 ^ 12 + n % 2 ^ 48 * 2 ^ 16

/-- The 256 bits of a link flit. -/
def LinkFlit.flit (f : LinkFlit) : Flit := BitVec.ofNat 256 f.word

/-- A capture on the wire: its CAPTURE link flit, then the record's data flits (R93). -/
def Capture.wire (c : Capture) : List Flit := (LinkFlit.capture c.srcPort c.flits.length c.tick).flit :: c.flits

/-! ## Lanes (R64, R66, R308, R337) -/

/-- The flits that a link of n lanes has sent in d cycles: 3.2 cycles each on the two lanes of a port. -/
def flitSlots (n d : Nat) : Nat := 5 * n * d / 32

/-- The lane of the flit that the transmitter of a link sends now: the lanes take turns from lane 0 on after alignment. -/
def State.txLane (s : State) (l : Link) : Nat := flitSlots l.lanes (s.clock - (s.link l).aligned) % l.lanes

/-- The flits each lane of a link has sent since its training began. -/
def State.laneFlits (s : State) (l : Link) : Nat := flitSlots 1 (s.clock - (s.link l).since)

/-! ## Blocks and codewords (R65) -/

/-- The 257-bit block of a flit: bit 0 is the type bit, 1 for a link flit. -/
def block (link : Bool) (f : Flit) : BitVec 257 := BitVec.ofNat 257 ((if link then 1 else 0) + 2 * f.toNat)

/-- Is the block a link flit's. -/
def blockLink (b : BitVec 257) : Bool := bitOf b 0

/-- The flit of a block. -/
def blockFlit (b : BitVec 257) : Flit := BitVec.ofNat 256 (b.toNat / 2)

/-- The 5,140-bit message of a lane's codeword: twenty blocks, the first in the lowest bits. -/
def messageOf (l : List (BitVec 257)) : BitVec 5140 :=
  BitVec.ofNat 5140 ((l.zipIdx).foldl (fun a e => a + e.1.toNat * 2 ^ (257 * e.2)) 0)

/-- A product in GF(2^10) with the field polynomial x^10 + x^3 + 1 of IEEE 802.3 clause 91 (PRESUMED, notes/assumptions/111.md). -/
def gfMul (a b : Nat) : Nat :=
  ((List.range 10).foldl (fun (e : Nat × Nat) i =>
    (if b.testBit i then e.1 ^^^ e.2 else e.1, if e.2 < 512 then 2 * e.2 else (2 * e.2) ^^^ 0x409)) (0, a)).1

/-- The generator polynomial of degree 30, highest coefficient first: the product of x − α^j for j = 0 to 29. -/
def rsGenerator : List Nat :=
  ((List.range 30).foldl (fun (e : List Nat × Nat) _ =>
    (List.zipWith (· ^^^ ·) (e.1 ++ [0]) (0 :: e.1.map (gfMul e.2)), gfMul e.2 2)) ([1], 1)).1

/-- Symbol k of a message: bits [10k+9:10k], sent in ascending k. -/
def symbols (n v : Nat) : List Nat := (List.range n).map fun k => (v >>> (10 * k)) % 1024

/-- One step of the division by the generator: the remainder after one more symbol. -/
def rsStep (g r : List Nat) (m : Nat) : List Nat :=
  let f := m ^^^ r.headD 0
  List.zipWith (· ^^^ ·) (r.drop 1 ++ [0]) (g.map (gfMul f))

/-- The 30 parity symbols of a message, in the order in which they are sent. -/
def rsParity (m : BitVec 5140) : List Nat := (symbols 514 m.toNat).foldl (rsStep (rsGenerator.drop 1)) (List.replicate 30 0)

/-- The RS(544,514) codeword of twenty blocks: the message, then the parity. -/
def codeword (l : List (BitVec 257)) : BitVec 5440 :=
  let m := messageOf l
  BitVec.ofNat 5440 (m.toNat + ((rsParity m).zipIdx).foldl (fun a e => a + e.1 * 2 ^ (5140 + 10 * e.2)) 0)

end Sys2Proof.Machine
end

