-- ==== Sys2Proof/Machine/Links.lean ====
section
/-! DEFINITION. Shared operations of links and ingress queues: credits (R79 to R83), rewinding and flushing (R77, R87),
what a port that leaves UP drops (R93, R283), training and entry to UP (R68 to R71). -/

namespace Sys2Proof.Machine

/-- Send a link flit. -/
def State.sendLink (s : State) (l : Link) (f : LinkFlit) : State := s.emit (.link l (s.txLane l) f.flit)

/-- Flits the ingress queue of a port holds: waiting, complete and in reception. -/
def PortSt.fill (q : PortSt) : Nat :=
  (q.queue.map fun r => r.flits.length).sum + (q.complete.map fun r => r.1.length).sum + q.part.length

/-- Send the CREDIT flit of a link: CUM is cumulative (R80). None goes out after the entry boundary of dormancy (R378). -/
def State.sendCredit (s : State) (l : Link) : State :=
  let k := s.link l
  if s.dorm.phase = .entering then s else (s.setLink l { k with sinceCredit := 0 }).sendLink l (.credit k.cumTx)

/-- Return n ingress credits of port p to its producer, sending a CREDIT flit when 256 have been returned since the
last one (R56, R80). A port that is not UP has no producer that holds credits: the grant at link-up makes them good (R79). -/
def State.returnCredits (s : State) (p n : Nat) : State :=
  if s.portUp p = false then s
  else
  let q := s.port p
  let k := { q.link with cumTx := (q.link.cumTx + n) % 2 ^ 32, sinceCredit := q.link.sinceCredit + n }
  let t := (s.setPort p { q with link := k }).put Reg.PRT_CREDIT_IN_HELD (s.get Reg.PRT_CREDIT_IN_HELD p + n) p
  if 256 ≤ k.sinceCredit then t.sendCredit (.port (Fin.ofNat 16 p)) else t

/-- Raise the producer's credits of port p to the number of free flits of its queue (R79). -/
def State.grantCredits (s : State) (p : Nat) : State :=
  let free := 4096 - (s.port p).fill
  let held := s.get Reg.PRT_CREDIT_IN_HELD p
  if s.mode = .service ∧ s.dorm.phase ≠ .entering ∧ s.portUp p ∧ held < free then
    let q := s.port p
    let k := { q.link with cumTx := (q.link.cumTx + (free - held)) % 2 ^ 32, sinceCredit := 0 }
    ((s.setPort p { q with link := k }).put Reg.PRT_CREDIT_IN_HELD free p).sendLink (.port (Fin.ofNat 16 p)) (.credit k.cumTx)
  else s

/-- A record of n flits on port p is rewound: counted, its credits returned, EV_RECORD_REWIND (R77). -/
def State.rewound (s : State) (p n : Nat) : State :=
  let q := s.port p
  let s' := s.setPort p { q with rewinds := s.tick.now :: q.rewinds.take 63 }
  ((s'.bump Reg.PRT_CNT_REWIND_COUNT 1 p).returnCredits p n).raiseEp (Ev.RECORD_REWIND p)

/-- Rewind the record in reception on port p, if any (R77). -/
def State.rewindPart (s : State) (p : Nat) : State :=
  let q := s.port p
  if q.part.isEmpty = true then s
  else (s.setPort p { q with part := [], partLen := 0 }).rewound p q.part.length

/-- Rewind every record on port p that has arrived and not committed. -/
def State.rewindComplete (s : State) (p : Nat) : State :=
  let q := s.port p
  q.complete.foldl (fun t r => t.rewound p r.1.length) (s.setPort p { q with complete := [] })

/-- Empty the queue of port p (R87): committed records are counted in PRT_CNT_FLUSHED, records cut by the flush are
rewound and their remaining flits discarded by framing, every discarded flit's credit is returned. -/
def State.flushPort (s : State) (p : Nat) : State :=
  let q := s.port p
  let cutN := if q.part.isEmpty then q.skip else q.partLen - q.part.length
  let n := (q.queue.map (fun r => r.flits.length)).sum
  let t := (s.setPort p { q with queue := [], skip := cutN }).bump Reg.PRT_CNT_FLUSHED_COUNT q.queue.length p
  ((t.returnCredits p n).rewindComplete p).rewindPart p

/-- The copies of control messages waiting for port p are dropped and counted in RPT_CNT_UNROUTED (R283). -/
def State.dropControl (s : State) (p : Nat) : State :=
  let n := (s.host.ctl.filter fun c => c.copies.contains p).length
  let cut := fun c : CtlOp => if c.copies.contains p then
    { c with copies := c.copies.filter (· != p), failed := true } else c
  { s with host := { s.host with ctl := s.host.ctl.map cut } }.bump Reg.RPT_CNT_UNROUTED_COUNT n

/-- Control messages all of whose copies are sent or dropped complete at the next boundary: NO_ROUTE when a copy was
dropped, success otherwise (R283). -/
def State.settleControl (s : State) : State :=
  let done := s.host.ctl.filter fun c => c.copies.isEmpty
  let t := done.foldl (fun t c => match c.owed with
    | some (f, i, cid) => t.owedReady f i cid (if c.failed then Sts.NO_ROUTE else Sts.SUCCESS)
    | none => t) s
  { t with host := { t.host with ctl := t.host.ctl.filter fun c => !c.copies.isEmpty } }

/-- Captures held for port p are dropped and counted (R93). -/
def State.dropCaptures (s : State) (p : Nat) : State :=
  let q := s.port p
  (s.setPort p { q with capBuf := [] }).bump Reg.PRT_CNT_CAPDROP_COUNT q.capBuf.length p

/-- Verdicts planned for port p that have not left are discarded and counted (R92). -/
def State.dropVerdicts (s : State) (p : Nat) : State :=
  let n := (s.planned.filter fun r => r.dest.any fun d => d.1 == p).length
  let cut := fun r : Planned => { r with dest := r.dest.filter fun d => d.1 ≠ p }
  { s with planned := s.planned.map cut }.bump Reg.PRT_CNT_VERDICT_DROP_COUNT n p

/-- What a port that leaves UP drops (R92, R93, R283), and what its queue rewinds (R70). -/
def State.leaveUp (s : State) (p : Nat) : State :=
  let t := ((((s.rewindPart p).dropVerdicts p).dropCaptures p).dropControl p).settleControl
  let u := ((t.put Reg.PRT_CREDIT_IN_HELD 0 p).put Reg.PRT_CREDIT_OUT_HELD 0 p).put Reg.PRT_STATUS_RESYNC 0 p
  u.setPort p { u.port p with skip := 0, viol := false }

/-- A link begins training from SEEK, its handshake and counts forgotten (R68). -/
def seekFrom (clock : Nat) : LinkSt := { st := .seek, since := clock }

/-- Links train only in start-up and service states (R71), in start-up from step 9 on (R361). -/
def State.mayTrain (s : State) : Bool :=
  s.mode == .service || (s.mode == .startUp && s.boot.training)

/-- Take an enabled link to SEEK where links may train (R68, R71). -/
def State.startTraining (s : State) (l : Link) : State :=
  if s.linkEn l && s.mayTrain then s.setLink l (seekFrom s.clock) else s

/-- The twin is granted 2,048 credits, once in each stay of the seam in UP (R79, R310). -/
def State.grantSeam (s : State) : State :=
  let k := s.seam.link
  if s.mode = .service ∧ k.st = .up ∧ k.cumTx = 0 then (s.setLink .seam { k with cumTx := 2048 }).sendCredit .seam else s

/-- A link enters UP (R69): counts since link-up start at 0, the producer's GRANT is taken, and in service state the
port's ingress credits are granted (R79). -/
def State.linkUp (s : State) (l : Link) : State :=
  let t := s.setLink l { s.link l with st := .up, cumTx := 0, cumRx := 0, rxFlits := 0, sinceCredit := 0, newCredit := 0, uncorr := [] }
  match l with
  | .port p => ((t.put Reg.PRT_CREDIT_OUT_HELD (t.get Reg.PRT_CREDIT_OUT_GRANT p.val) p.val).put Reg.PRT_CREDIT_IN_HELD 0 p.val).grantCredits p.val
  | .seam => ({ t with seam := { t.seam with pair := if t.seam.pair == .detached then .attaching else t.seam.pair, missed := 0, credit := 0,
                                             waiting := [] } } : State).grantSeam
  | _ => t

end Sys2Proof.Machine
end

