-- ==== Sys2Proof/Machine/Wire.lean ====
section
/-! DEFINITION. Data flits on the seam and the cascade ports: the header, digests and flow control of seam messages (R309, R310, R318,
R321), tokens in flits (Table 12-1). -/

namespace Sys2Proof.Machine

/-! ## Flits of a message -/

/-- The number that flits spell, the first in the lowest bits. -/
def flitsNat (l : List Flit) : Nat := l.foldr (fun f a => f.toNat + 2 ^ 256 * a) 0

/-- A number in n flits. -/
def natFlits (n w : Nat) : List Flit := (List.range n).map fun i => BitVec.ofNat 256 (w >>> (256 * i))

/-- Flits of a message whose body is n bytes: 24 of them in the first flit, above its header (R309); eight flits at most. -/
def bodyFlits (n : Nat) : Nat := min 8 (1 + ceilDiv (n - 24) 32)

/-! ## Seam messages (R309, Table 11-1) -/

/-- KIND. -/
def SeamOut.kind : SeamOut → Nat
  | .hello _ => 0x10
  | .bye => 0x11
  | .digest _ _ _ => 0x20
  | .chdigest _ _ _ => 0x21
  | .lockReq _ _ _ | .lockAns _ _ => 0x30
  | .mirror _ _ _ => 0x31
  | .staged _ _ | .ready _ | .refuse _ _ => 0x32
  | .propose _ _ | .agree _ _ | .defer _ | .abort _ => 0x33
  | .syncBegin | .syncData _ | .syncEnd | .join _ => 0x40
  | .restoreReq _ _ => 0x50
  | .restoreAns _ _ _ _ => 0x51

/-- Flits of a mirrored operation: a command's slot and the bytes it reads (notes/assumptions/131.md). -/
def mirrorFlits : MirrorOp → Nat
  | .command _ _ d _ => bodyFlits (40 + (d.rd.getD []).length)
  | .quota _ _ _ | .site _ _ | .release _ _ => 1

/-- Flits of a part of bulk synchronisation (notes/assumptions/131.md). -/
def syncFlits : SyncItem → Nat
  | .table _ _ _ => bodyFlits 128
  | .holds _ _ => 8
  | .entry _ _ _ _ _ _ => bodyFlits 176
  | .line _ _ => bodyFlits 68
  | .channel _ _ _ b => bodyFlits (b.length + 4)
  | .dropTable _ | .clearTable _ | .clearBlock _ | .clearChannels | .site _ _ => 1

/-- Flits of a message (Table 11-1). -/
def SeamOut.flits : SeamOut → Nat
  | .mirror _ op _ => mirrorFlits op
  | .syncData i => syncFlits i
  | .restoreAns _ _ (some b) _ => bodyFlits (b.length + 8)
  | .hello _ | .bye | .digest _ _ _ | .chdigest _ _ _ | .lockReq _ _ _ | .lockAns _ _ | .staged _ _ | .ready _ | .refuse _ _ | .propose _ _
  | .agree _ _ | .defer _ | .abort _ | .syncBegin | .syncEnd | .join _ | .restoreReq _ _ | .restoreAns _ _ none _ => 1

/-- The kind-specific field [63:32], where Table 11-1, R318 and R321 place one there (notes/assumptions/131.md). -/
def SeamOut.special : SeamOut → Nat
  | .hello h => h.imageId.toNat
  | .digest stamp x _ | .chdigest stamp x _ => x % 16 + stamp % 2 ^ 28 * 2 ^ 4
  | .propose id _ | .agree id _ | .defer id | .abort id => id % 2 ^ 32
  | .bye | .lockReq _ _ _ | .lockAns _ _ | .mirror _ _ _ | .staged _ _ | .ready _ | .refuse _ _ | .syncBegin | .syncData _ | .syncEnd | .join _
  | .restoreReq _ _ | .restoreAns _ _ _ _ => 0

/-- Bits [63:0] of a message's first flit: KIND, the flit count − 1, the message's number of its direction, the kind-specific field (R309). -/
def SeamOut.head (m : SeamOut) (seq : Nat) : BitVec 64 :=
  BitVec.ofNat 64 (m.kind + (m.flits - 1) % 8 * 2 ^ 8 + seq % 2 ^ 16 * 2 ^ 16 + m.special * 2 ^ 32)

/-- KIND of a message received. -/
def seamKind (f : Flit) : Nat := bits f 7 0

/-- The group, or the first of four, that a DIGEST or CHDIGEST names. -/
def digestGroup (f : Flit) : Nat := bits f 35 32

/-- STAMP_LO. -/
def stampLo (f : Flit) : Nat := bits f 63 36

/-- Records of 48 bits in the body of a flit, record i in bits [64 + 48i + 47 : 64 + 48i]. -/
def body48 (l : List Nat) : BitVec 192 := BitVec.ofNat 192 ((l.take 4).foldr (fun v a => v % 2 ^ 48 + 2 ^ 48 * a) 0)

/-- Record i of a flit's body. -/
def record48 (f : Flit) (i : Nat) : Nat := bits f (64 + 48 * i + 47) (64 + 48 * i)

/-- A group record: HASH, COUNT, ANOM (R318). -/
def groupWord (r : GroupRec) : Nat := r.hash.toNat + r.count % 4096 * 2 ^ 32 + r.anom.toNat * 2 ^ 44

/-- The group records of a DIGEST. -/
def groupRecs (f : Flit) : List GroupRec :=
  (List.range 4).map fun i =>
    let v := record48 f i
    { hash := BitVec.ofNat 32 v, count := v / 2 ^ 32 % 4096, anom := BitVec.ofNat 4 (v / 2 ^ 44) }

/-- A channel record: HASH, COUNT, SLOT (R321). -/
def chanWord (r : ChanRec) : Nat := r.hash.toNat + r.count % 256 * 2 ^ 32 + r.slot % 256 * 2 ^ 40

/-- The channel records of a CHDIGEST: those that name a slot of its group; an empty place after the first holds none. -/
def chanRecsOf (f : Flit) : List ChanRec :=
  (((List.range 4).filter fun i => i == 0 || record48 f i != 0).map fun i =>
    let v := record48 f i
    { hash := BitVec.ofNat 32 v, count := v / 2 ^ 32 % 256, slot := v / 2 ^ 40 % 256 : ChanRec }).filter fun r => r.slot % 16 == digestGroup f

/-! ## Flow control of the seam (R310) -/

/-- The credits that a message uses: one a flit; DIGEST flits use none (R310). -/
def SeamOut.cost (m : SeamOut) : Nat := match m with | .digest _ _ _ => 0 | _ => m.flits

/-- A message leaves: its header takes the next number, its credits are spent. -/
def State.putSeam (s : State) (m : SeamOut) : State :=
  { s with out := .seam (m.head s.seam.seq) m :: s.out, seam := { s.seam with seq := (s.seam.seq + 1) % 2 ^ 16, credit := s.seam.credit - m.cost } }

/-- Send a seam message: at once where the twin's credits allow it and none waits before it; else it waits (R310). -/
def State.sendSeam (s : State) (m : SeamOut) : State :=
  if m.cost = 0 ∨ (m.cost ≤ s.seam.credit ∧ s.seam.waiting.isEmpty = true) then s.putSeam m
  else { s with seam := { s.seam with waiting := s.seam.waiting ++ [m] } }

/-- Send several messages. -/
def State.sendSeams (s : State) (l : List SeamOut) : State := l.foldl State.sendSeam s

/-- The twin returns d credits: messages that wait leave in their order. -/
def State.seamCredit (s : State) (d : Nat) : State :=
  ({ s with seam := { s.seam with credit := s.seam.credit + d, waiting := [] } } : State).sendSeams s.seam.waiting

/-- A message of n flits has arrived on the seam in UP: its credits go back at once (R80, R310). -/
def State.seamGot (s : State) (n : Nat) : State :=
  let k := s.seam.link
  if k.st ≠ .up then s
  else
    let t := s.setLink .seam { k with rxFlits := (k.rxFlits + n) % 2 ^ 32, cumTx := (k.cumTx + n) % 2 ^ 32, sinceCredit := k.sinceCredit + n }
    if 256 ≤ k.sinceCredit + n then t.sendCredit .seam else t

/-! ## Tokens (Table 12-1) -/

/-- Flits of a token: 176 header bits and the key. -/
def tokenFlits (width : Nat) : Nat := ceilDiv (176 + widthBits width) 256

/-- The header and key of a LOOKUP token as one number. -/
def tokenWord (t : Token) : Nat :=
  t.origin % 16 * 2 ^ 2 + t.tok % 4096 * 2 ^ 6 + t.tbl % 64 * 2 ^ 18 + t.width % 4 * 2 ^ 24 + t.ptick % 16 * 2 ^ 26 + t.unc.toNat * 2 ^ 30 +
    t.deg.toNat * 2 ^ 31 + t.found.toNat * 2 ^ 32 + t.seen % 16 * 2 ^ 33 + t.wraps % 4 * 2 ^ 37 + t.entry % 2 ^ 24 * 2 ^ 40 +
    t.rank % 2 ^ 16 * 2 ^ 64 + t.member % 16 * 2 ^ 80 + t.dref % 2 ^ 22 * 2 ^ 84 + t.count % 2 ^ 22 * 2 ^ 106 + t.visited % 2 ^ 16 * 2 ^ 132 +
    t.key.toNat % 2 ^ widthBits t.width * 2 ^ 176

/-- The flits of a LOOKUP token. -/
def tokenWire (t : Token) : List Flit := natFlits (tokenFlits t.width) (tokenWord t)

/-- The flits of a LEARN token (TKIND 1): TABLE, WIDTH, TARGET and the key. -/
def learnFlits (target origin tbl width : Nat) (key : BitVec 640) : List Flit :=
  natFlits (tokenFlits width) (1 + origin % 16 * 2 ^ 2 + tbl % 64 * 2 ^ 18 + width % 4 * 2 ^ 24 + target % 16 * 2 ^ 128 +
    key.toNat % 2 ^ widthBits width * 2 ^ 176)

/-- The flits of a TALLY token (TKIND 2): TABLE, ENTRY and TARGET. -/
def tallyFlits (target origin tbl id : Nat) : List Flit :=
  natFlits 1 (2 + origin % 16 * 2 ^ 2 + tbl % 64 * 2 ^ 18 + id % 2 ^ 24 * 2 ^ 40 + target % 16 * 2 ^ 128)

namespace Tk
def kind (w : Nat) : Nat := w % 4
def origin (w : Nat) : Nat := w / 2 ^ 2 % 16
def table (w : Nat) : Nat := w / 2 ^ 18 % 64
def width (w : Nat) : Nat := w / 2 ^ 24 % 4
def entry (w : Nat) : Nat := w / 2 ^ 40 % 2 ^ 24
def target (w : Nat) : Nat := w / 2 ^ 128 % 16
def key (w : Nat) : BitVec 640 := BitVec.ofNat 640 (w / 2 ^ 176 % 2 ^ widthBits (width w))
end Tk

/-- The LOOKUP token that flits hold. -/
def tokenOf (l : List Flit) : Token :=
  let w := flitsNat l
  { origin := Tk.origin w, tok := w / 2 ^ 6 % 4096, tbl := Tk.table w, width := Tk.width w, ptick := w / 2 ^ 26 % 16, unc := w.testBit 30,
    deg := w.testBit 31, found := w.testBit 32, seen := w / 2 ^ 33 % 16, wraps := w / 2 ^ 37 % 4, entry := Tk.entry w,
    rank := w / 2 ^ 64 % 2 ^ 16, member := w / 2 ^ 80 % 16, dref := w / 2 ^ 84 % 2 ^ 22, count := w / 2 ^ 106 % 2 ^ 22,
    visited := w / 2 ^ 132 % 2 ^ 16, key := Tk.key w }

end Sys2Proof.Machine
end

