-- ==== Sys2Proof/Machine/Cmds.lean ====
section
/-! DEFINITION. How the command engine runs a command: its outcome, host memory, rights, mirroring over the seam
(R101, R177, R324, R325, R369, R421, R422, R427). -/

namespace Sys2Proof.Machine

/-- What the execution of a command comes to: the state it leaves, its status and result, whether a later step completes
it, and whether it waits in the engine (R184). -/
structure Ran where
  s : State
  status : Nat := Sts.SUCCESS
  result : Nat := 0
  later : Bool := false
  wait : Bool := false

/-- A command that a check refuses. -/
def State.deny (s : State) (status : Nat) : Ran := { s := s, status := status }

/-- A host memory access of function f failed (R427). -/
def State.dmaFail (s : State) (f : Nat) : State := (s.put Reg.QUE_STATUS_DMA_ERR 1 f).raise Ev.DMA_ERROR

/-- A command whose parameter read failed (R427). -/
def State.dmaDeny (s : State) (f : Nat) : Ran := { s := s.dmaFail f, status := Sts.DMA_ERROR }

/-- Write a command's result bytes to host memory: a failed write gives DMA_ERROR, the effect standing (R427). -/
def State.hostPut (s : State) (f addr : Nat) (bytes : List Byte) (d : Dma) (result : Nat := 0) : Ran :=
  if d.wrOk then { s := s.emit (.hostWrite f addr bytes), result := result }
  else { s := s.dmaFail f, status := Sts.DMA_ERROR }

/-- The completion triple of a command: function, ring index, CID. -/
def Cmd.own (c : Cmd) : Nat × Nat × Nat := (c.func, c.idx, c.slot.cid.toNat)

/-- A command's outcome is entered: it waits in the engine, or its completion is owed (R184, R422). -/
def State.complete (c : Cmd) (r : Ran) : State :=
  if r.wait then
    { r.s with host := { r.s.host with waitFrom := some (r.s.host.waitFrom.getD r.s.clock) } }
  else if r.later then r.s.finishLater c r.status r.result
  else r.s.finish c r.status r.result

/-- Opcodes of the operations mirrored in PAIRED state (Table 11-4). -/
def mirroredOpcode (op : Nat) : Bool := [0x01, 0x02, 0x03, 0x04, 0x05, 0x0A, 0x10, 0x11, 0x20, 0x22].contains op

/-- The number of a mirrored operation among those of both twins, which number theirs alike. -/
def Mirrored.key (m : Mirrored) : Nat := if m.mine then m.id else m.id + 65536

/-- A mirrored operation starts: MIRROR goes to the peer (R325). -/
def State.startMirror (s : State) (op : MirrorOp) (target : Nat) (cmd : Option (Nat × Nat × Nat)) : State :=
  let m : Mirrored := { id := s.seam.nextId, mine := true, op := op, cmd := cmd, target := target }
  let t := { s with seam := { s.seam with ops := s.seam.ops ++ [m], nextId := (s.seam.nextId + 1) % 2 ^ 16 } }
  t.sendSeam (.mirror m.id op none)

/-- The table of a mirrored operation's object, or its channel slot (for what it holds back). -/
def opTarget (c : CmdSlot) : Nat :=
  if c.opcode.toNat = 0x11 then bits c.p0 7 0 else bits c.p1 5 0

/-- A command of the engine runs: a mirrored one that passes its checks goes to the peer and holds the engine until the
peer has answered (R325); every other one is entered at once. -/
def State.issue (s : State) (c : Cmd) (d : Dma) (core : State → Option (Nat × Nat × Nat) → Nat → CmdSlot → Dma → Ran) : State :=
  if s.host.mirror.isSome then s
  else
    let r := core s (some c.own) c.func c.slot d
    if s.seam.pair = .paired ∧ mirroredOpcode c.slot.opcode.toNat = true ∧ r.status = Sts.SUCCESS ∧ r.wait = false then
      let h := if c.slot.opcode.toNat = 0x10 ∧ s.seam.role = 1 then r.result else 0
      let t := s.startMirror (.command (Fin.ofNat 16 c.func) c.slot d (BitVec.ofNat 16 h)) (if h = 0 then opTarget c.slot else h % 256)
        (some c.own)
      { t with host := { t.host with mirror := some s.seam.nextId } }
    else State.complete c r

/-- Run the command in the engine when its opcode is `op`. -/
def State.runOp (s : State) (op : Nat) (d : Dma)
    (core : State → Option (Nat × Nat × Nat) → Nat → CmdSlot → Dma → Ran) : State :=
  match s.engineOp op with
  | none => s
  | some c => s.issue c d core

/-- The bits of P0 and P1 that the parameters of an opcode take up, in full words where a whole word is a parameter or the
command takes none (R100, R103, R176, R260, R261, R283, R285, R425). -/
def paramMask (op : Nat) : Nat × Nat :=
  let table := 0x3F
  let group := 0xFFFF0000
  let entry := 0xFFFFFF00000000
  let all := 0xFFFFFFFFFFFFFFFF
  match op with
  | 0x01 | 0x02 | 0x07 => (all, table)
  | 0x03 | 0x05 | 0x09 => (all, table + group)
  | 0x04 => (all, table + group + entry)
  | 0x06 => (all, table + entry)
  | 0x08 => (all, table + entry + 2 ^ 56)
  | 0x0A | 0x0B => (all, group)
  | 0x10 => (all, 0x1FF)
  | 0x11 => (0xFFFF, 0)
  | 0x18 => (all, 0xFFFFFF)
  | 0x19 => (all, 0x1FFFF)
  | 0x1A => (all, 0x1F)
  | 0x1B => (all, 0xFFFFFFFF00)
  | 0x20 => (all, 0x1FFFFFF)
  | 0x21 => (all, 0xFFFFF)
  | 0x22 => (all, 0x1FFFFFFFFFFFF - 0xF0)
  | 0x28 => (all, table + entry)
  | 0x29 => (0xFFFFFFFF, table + entry)
  | _ => (all, all)

/-- A bit of a parameter word outside the command's parameters is not 0 (R421, notes/assumptions/11.md). -/
def badParams (c : CmdSlot) : Bool :=
  let m := paramMask c.opcode.toNat
  (c.p0 &&& ~~~(BitVec.ofNat 64 m.1)) != 0 || (c.p1 &&& ~~~(BitVec.ofNat 64 m.2)) != 0

/-! ## Rights (R177, R369) -/

/-- Function f holds the SEARCH right on table t. -/
def State.searchRight (s : State) (f t : Nat) : Bool := f == 0 || (s.get Reg.BOOT_SEARCH_SEARCH f).testBit t

/-- Function f holds the EDIT right on table t. -/
def State.editRight (s : State) (f t : Nat) : Bool := f == 0 || (s.get Reg.BOOT_EDIT_EDIT f).testBit t

/-- The sealed write lock of table t (R177). -/
def State.writeLocked (s : State) (t : Nat) : Bool := (s.get Reg.BOOT_WLOCK_LOCK).testBit t

/-- Slot c lies in the channel range of function f (R120, R369). -/
def State.slotRange (s : State) (f c : Nat) : Bool :=
  decide (1 ≤ c) && decide (c ≤ 255) && (f == 0 ||
    (decide (s.get Reg.BOOT_PMAP_CHN_LO f ≠ 0) && decide (s.get Reg.BOOT_PMAP_CHN_LO f ≤ c) && decide (c ≤ s.get Reg.BOOT_PMAP_CHN_HI f)))

/-- A mirrored operation that is not yet due holds back an object: its boundary is not reached (R324, R327). -/
def State.heldBack (s : State) (opcode target : Nat) : Bool :=
  s.seam.ops.any fun m => m.target == target && (match m.op with
    | .command _ c _ _ => c.opcode.toNat == opcode
    | _ => false)

/-- Opening of the idle timer again (R377). -/
def State.touchIdle (s : State) : State := { s with dorm := { s.dorm with idleFrom := s.clock } }

/-- A host register write in service state: it restarts the idle timer and takes effect (R364, R373, R377). -/
def State.onService (s : State) (f : State → State) : State := if s.mode = .service then f s.touchIdle else s

end Sys2Proof.Machine
end

