-- ==== Sys2Proof/Machine/Complete.lean ====
section
/-! DEFINITION. Completions: the room of a completion queue and its gate (R423), the writing of completions and their
messages (R422, R427). -/

namespace Sys2Proof.Machine

/-- Entries of a function's completion queue (R419). -/
def State.cplSize (s : State) (f : Nat) : Nat := 2 ^ s.get Reg.QUE_CPL_CTRL_LOG2SIZE f

/-- Free room of a completion queue: size − 1 − ((CPL_TAIL − CPL_HEAD) mod size) (R423). -/
def State.cplRoom (s : State) (f : Nat) : Nat :=
  let n := s.cplSize f
  n - 1 - (s.get Reg.QUE_CPL_TAIL_TAIL f + n - s.get Reg.QUE_CPL_HEAD_HEAD f % n) % n

/-- Completions owed to a function (R423). -/
def State.owedTo (s : State) (f : Nat) : Nat := (s.host.owed.filter fun o => o.func = f).length

/-- The gate of a function is open (R423). A disabled completion queue has no room (notes/assumptions/26.md). -/
def State.gateOpen (s : State) (f : Nat) : Bool := s.flag Reg.QUE_CPL_CTRL_EN f && decide (s.owedTo f < s.cplRoom f)

/-- The 16 bytes of a completion (Table 16-5). -/
def Owed.bytes (o : Owed) : List Byte :=
  leBytes 8 (o.cid % 2 ^ 16 + o.idx % 2 ^ 12 * 2 ^ 16 + o.status % 2 ^ 8 * 2 ^ 32 + 2 ^ 63) ++ leBytes 8 o.result

/-- The host address of the entry at the tail of a function's completion queue (R419). -/
def State.cplAddr (s : State) (f : Nat) : Nat := 16 * s.get Reg.QUE_CPL_BASE_ADDR f + 16 * s.get Reg.QUE_CPL_TAIL_TAIL f

/-- Write one completion at the queue's tail (R422); a failed write loses it, and the tail stays (R427,
notes/assumptions/26.md), and so does a queue that is disabled (R411). -/
def State.postOne (s : State) (o : Owed) (fail : Bool) : State :=
  if o.silent || !s.flag Reg.QUE_CPL_CTRL_EN o.func then s
  else if fail then s.dmaFail o.func
  else
    (s.emit (.hostWrite o.func (s.cplAddr o.func) o.bytes)).put Reg.QUE_CPL_TAIL_TAIL
      ((s.get Reg.QUE_CPL_TAIL_TAIL o.func + 1) % s.cplSize o.func) o.func

/-- The message of a function that received a completion (R422). -/
def State.cplMessage (s : State) (f : Nat) : State := s.msixTo f (s.get Reg.QUE_CPL_CTRL_VECTOR f)

/-- The completions that are ready are written in execution order, then one message for each function (R422). `fails`:
functions for which a completion write fails. -/
def State.postReady (s : State) (fails : List (Fin 16)) : State :=
  let ready := s.host.owed.filter (·.ready)
  let t := { s with host := { s.host with owed := s.host.owed.filter fun o => !o.ready } }
  let lost := fun (o : Owed) => fails.any fun f => f.val == o.func
  let u := ready.foldl (fun x o => x.postOne o (lost o)) t
  (((ready.filter fun o => !o.silent && !lost o).map (·.func)).eraseDups).foldl State.cplMessage u

/-- A command completes at the boundary at which a step of its own falls: its completion is written and announced. -/
def State.completeNow (s : State) (own : Option (Nat × Nat × Nat)) (status : Nat) (result : Nat := 0) : State :=
  match own with
  | none => s
  | some (f, i, c) =>
    match s.host.owed.find? fun o => o.func == f && o.idx == i && o.cid == c && !o.ready with
    | none => s
    | some o =>
      let t := { s with host := { s.host with owed := s.host.owed.erase o } }
      let u := t.postOne { o with status := status, result := result } false
      if o.silent then u else u.cplMessage f

end Sys2Proof.Machine
end

