-- ==== Sys2Proof/Machine/Channels.lean ====
section
/-! DEFINITION. Channels: creation, destruction and the release of a slot, quota writes, stalls (R97 to R106, R113 to
R115, R120 to R122). -/

namespace Sys2Proof.Machine

/-! ## The template descriptor (Table 4-1) -/

/-- A descriptor as read. -/
structure Template where
  lookups : List (BitVec 64)
  egress : BitVec 64
  qf : List Nat
  ctrl : BitVec 64
  segs : List (BitVec 64)
  deriving DecidableEq, Repr

namespace Template
def nseg (t : Template) : Nat := bits t.ctrl 5 0
def stall (t : Template) : Nat := bits t.ctrl 29 8
end Template

/-- Read a descriptor (R108). -/
def templateOf (b : List Byte) : Template :=
  let ctrl := BitVec.ofNat 64 (leAt b 56 8)
  { lookups := (List.range 4).map fun i => BitVec.ofNat 64 (leAt b (8 * i) 8), egress := BitVec.ofNat 64 (leAt b 32 8),
    qf := (List.range 8).map fun g => leAt b (40 + 2 * g) 2, ctrl := ctrl,
    segs := (List.range (bits ctrl 5 0)).map fun k => BitVec.ofNat 64 (leAt b (64 + 8 * k) 8) }

/-- A table that lookups and edits may name: it exists, and no TBL_DESTROY of it has been executed. -/
def State.liveTable (s : State) (t : Nat) : Option Table :=
  match s.table t with
  | some d => if d.destroying then none else some d
  | none => none

/-- A table a channel may reference: live and in service (R461). -/
def State.channelTable (s : State) (t : Nat) : Option Table :=
  match s.liveTable t with
  | some d => if d.outOfService then none else some d
  | none => none

/-- A lookup descriptor that R113 refuses. -/
def State.badLookup (s : State) (w : BitVec 64) : Bool :=
  Lk.rsvd w != 0 || Lk.condOp w == 3 || Lk.rfmt w == 3 || decide (106 < Lk.dsel w) ||
    (Lk.en w && match s.channelTable (Lk.table w) with
      | none => true
      | some d => d.width != Lk.width w)

/-- A segment that R113 refuses, beside a template's lookups. -/
def badSegment (lk : List (BitVec 64)) (w : BitVec 64) : Bool :=
  Sg.rsvd w != 0 || Sg.src w == 3 || (Sg.src w == 0 && decide (1024 < Sg.soff w + Sg.len w + 1)) ||
    (Sg.src w == 1 && decide (23 < Sg.len w)) || (Sg.src w == 2 && decide (1 < Sg.soff w)) ||
    (lk.zipIdx).any fun (l, i) => (Sg.lmask w).testBit i && Lk.en l && decide (widthBits (Lk.width l) < Sg.doff w + Sg.len w + 1)

/-- The channel would raise L_MIN above L (R113). -/
def State.raisesLmin (s : State) (lk : List (BitVec 64)) : Bool :=
  let m := (lk.map fun w => if Lk.en w then s.tableSpan (Lk.table w) else 1).foldl max s.spanM
  decide (lMin s.period s.spanM < lMin s.period m) && decide (s.lat < lMin s.period m)

/-- R113. -/
def State.badTemplate (s : State) (t : Template) (p0 len : Nat) : Bool :=
  p0 % 8 != 0 || decide (32 < t.nseg) || len != 64 + 8 * t.nseg ||
    t.lookups.any s.badLookup || Eg.rsvd t.egress != 0 || t.qf.any (fun q => decide (2 ^ 11 ≤ q)) ||
    bits t.ctrl 7 6 != 0 || bits t.ctrl 63 30 != 0 || t.segs.any (badSegment t.lookups) || s.raisesLmin t.lookups

/-- The function holds the SEARCH right on every table an enabled lookup names (R121). -/
def State.mayReference (s : State) (f : Nat) (lk : List (BitVec 64)) : Bool :=
  lk.all fun w => !Lk.en w || s.searchRight f (Lk.table w)

/-- The quotas of a new channel fit (R114). -/
def State.quotaFits (s : State) (qf : List Nat) : Bool :=
  (List.range 8).all fun g => decide (s.qfSum g + qf.getD g 0 ≤ 1024)

/-- The next generation of a slot (R98). -/
def nextGen (g : Nat) : Nat := if g = 0 ∨ 255 ≤ g then 1 else g + 1

/-- The channel a template makes. -/
def Template.channel (t : Template) (f gen : Nat) (st : ChanSt) : Chan :=
  { st := st, gen := gen, owner := f, lookups := t.lookups, egress := t.egress, qf := t.qf, stallLimit := t.stall, segs := t.segs }

/-! ## CHN_CREATE and CHN_DESTROY -/

/-- The lowest free slot of a function's range (R100). -/
def State.freeSlot (s : State) (f : Nat) : Option Nat :=
  (List.range 256).find? fun c => s.slotRange f c && (s.chan c).st == .free

/-- The slot and generation of a new channel: the ones the leader chose, or the lowest free slot's (R100, R105). -/
def State.chooseSlot (s : State) (f handle : Nat) : Option (Nat × Nat) :=
  if handle = 0 then (s.freeSlot f).map fun c => (c, nextGen (s.chan c).gen)
  else if s.slotRange f (handle % 256) && (s.chan (handle % 256)).st == .free then some (handle % 256, handle / 256)
  else none

/-- CHN_CREATE: the checks of R100 in order, then the channel in its slot, live from the boundary that completes it. -/
def coreChnCreate (handle : Nat) (s : State) (_own : Option (Nat × Nat × Nat)) (f : Nat) (c : CmdSlot) (d : Dma) : Ran :=
  if badParams c then s.deny Sts.INVALID_FIELD
  else match d.rd with
  | none => s.dmaDeny f
  | some b =>
    let t := templateOf b
    if s.badTemplate t c.p0.toNat (bits c.p1 8 0) then s.deny Sts.INVALID_FIELD
    else if s.mayReference f t.lookups = false then s.deny Sts.DENIED
    else match s.chooseSlot f handle with
      | none => s.deny Sts.NO_RESOURCE
      | some (n, g) =>
        if s.quotaFits t.qf = false then s.deny Sts.QUOTA
        else { s := s.setChan n (t.channel f g .creating), result := n + 256 * g }

/-- CHN_CREATE: command CHN_CREATE checks a template descriptor and creates a channel in the lowest free slot (R100). -/
def execChnCreate (d : Dma) (s : State) : Host.Outcome State Fault Refusal := .next (s.runOp 0x10 d (coreChnCreate 0))

/-- CHN_DESTROY (R98, R103, R121): the channel counts as fencing from here on; its slot is fenced at the next boundary. A channel whose
create has not completed has no current handle yet. A virtual function that names slot 0 gets STALE_HANDLE, not DENIED
(DEDUCED, notes/assumptions/17.md). -/
def coreChnDestroy (s : State) (own : Option (Nat × Nat × Nat)) (f : Nat) (c : CmdSlot) (_d : Dma) : Ran :=
  let h := bits c.p0 15 0
  let n := h % 256
  let k := s.chan n
  if badParams c then s.deny Sts.INVALID_FIELD
  else if f ≠ 0 ∧ n ≠ 0 ∧ s.slotRange f n = false then s.deny Sts.DENIED
  else if n = 0 ∨ k.st = .free ∨ k.st = .creating ∨ k.gen ≠ h / 256 then s.deny Sts.STALE_HANDLE
  else if k.st = .destroying ∨ k.st = .fencing then s.deny Sts.FENCED
  else { s := s.setChan n { k with st := .destroying, cmd := own }, later := true }

/-- CHN_DESTROY: command CHN_DESTROY fences the channel at the next boundary (R103). -/
def execChnDestroy (s : State) : Host.Outcome State Fault Refusal := .next (s.runOp 0x11 {} coreChnDestroy)

/-! ## At a boundary -/

/-- The counters and status bits of a slot read 0 when its channel is created (R100, R124). -/
def State.clearChan (s : State) (c : Nat) : State :=
  let t := [Reg.CHN_STATUS_STALL, Reg.CHN_STATUS_SHORT, Reg.CHN_STATUS_ORPHAN, Reg.CHN_STATUS_POISON_REFUSED,
    Reg.CHN_STATUS_QUOTA_ERR, Reg.CHN_STATUS_CREATE_FAIL, Reg.CHN_STATUS_CLOSED, Reg.CHN_CNT_RECORDS_COUNT,
    Reg.CHN_CNT_LATE_COUNT, Reg.CHN_CNT_CLOSED_COUNT, Reg.CHN_CNT_POISON_COUNT, Reg.CHN_CNT_SHORT_COUNT].foldl
    (fun (x : State) F => x.put F 0 c) s
  (List.range 4).foldl (fun x i => (x.put Reg.CHN_CNT_HIT_COUNT 0 c i).put Reg.CHN_CNT_MISS_COUNT 0 c i) t

/-- Channels at boundary k: created ones go live, destroyed ones are fenced, unless their mirrored operation is not due
(R100, R103, R324). -/
def State.channelsBoundary (s : State) (k : Tick) : State :=
  s.chans.foldl (fun x e =>
    match e.2.st with
    | .creating => if s.heldBack 0x10 e.1 then x else (x.setChan e.1 { e.2 with st := .live }).clearChan e.1
    | .destroying => if s.heldBack 0x11 e.1 then x else x.setChan e.1 { e.2 with st := .fencing, fencedAt := some k }
    | _ => x) s

/-- CHANNEL_SLOT_FREE (R103): at the boundary that opens tick k + L, or k + L + S in checked release, the slot becomes
free, CLOSED is set and CHN_DESTROY completes. The slot's other registers keep their values (notes/assumptions/13.md). -/
def doChannelSlotFree (slot : BitVec 8) (s : State) : State :=
  let n := slot.toNat
  let c := s.chan n
  match c.fencedAt with
  | none => s
  | some k =>
    if c.st = .fencing ∧ tickLe (tickAdd k (s.lat + s.settle)) s.tick.now = true then
      ((s.setChan n { c with st := .free, fencedAt := none, cmd := none }).chanCause Reg.CHN_STATUS_CLOSED n).completeNow c.cmd Sts.SUCCESS
    else s

/-- CHANNEL_SLOT_FREE: at boundary k+L the fenced slot becomes free and CHN_DESTROY completes (R103). -/
def execChannelSlotFree (slot : BitVec 8) (s : State) : Host.Outcome State Fault Refusal := .next (doChannelSlotFree slot s)

/-! ## Quotas -/

/-- The quota fields of a register word (Table 4-6). -/
def quotaFields (v : BitVec 64) : List Nat := (List.range 4).map fun i => bits v (16 * i + 10) (16 * i)

/-- The QF values of a channel with one half replaced. -/
def newQuota (qf : List Nat) (hi : Bool) (v : BitVec 64) : List Nat :=
  if hi then (List.range 4).map (fun g => qf.getD g 0) ++ quotaFields v
  else quotaFields v ++ (List.range 4).map fun g => qf.getD (g + 4) 0

/-- A quota write takes effect, or sets QUOTA_ERR; a slot that is free, being created or fencing ignores it (R115). -/
def State.applyQuota (s : State) (n : Nat) (hi : Bool) (v : BitVec 64) : State :=
  let c := s.chan n
  if c.st ≠ .live ∧ c.st ≠ .destroying then s
  else
    let q := newQuota c.qf hi v
    if (List.range 8).all fun g => decide (s.qfSum g - c.qf.getD g 0 + q.getD g 0 ≤ 1024) then s.setChan n { c with qf := q }
    else s.chanCause Reg.CHN_STATUS_QUOTA_ERR n

/-- CHN_QUOTA_WRITE (R115, R121): in PAIRED state a write that its own check passes is mirrored (R105, R324). -/
def doChnQuotaWrite (f : Fin 16) (slot : BitVec 8) (hi : Bool) (v : BitVec 64) (s : State) : State :=
  let n := slot.toNat
  if s.slotRange f n = false ∨ ((s.chan n).st ≠ .live ∧ (s.chan n).st ≠ .destroying) then s
  else if s.seam.pair = .paired then
    let t := s.applyQuota n hi v
    if (t.chan n).qf = newQuota (s.chan n).qf hi v then s.startMirror (.quota slot hi v) n none else t
  else s.applyQuota n hi v

/-- CHN_QUOTA_WRITE: a write to CHN_QUOTA_LO or CHN_QUOTA_HI changes the quotas, or sets QUOTA_ERR (R115). -/
def execChnQuotaWrite (f : Fin 16) (slot : BitVec 8) (hi : Bool) (v : BitVec 64) (s : State) :
    Host.Outcome State Fault Refusal := .next (s.onService (doChnQuotaWrite f slot hi v))

/-! ## Stalls -/

/-- The channel slot a waiting record belongs to, as its site entry stands; a record of a disabled site and an orphan belong to none
(R104, R271). -/
def State.slotOfRecord (s : State) (r : QRec) : Option Nat :=
  let w := (s.site (recSite (r.flits.map QFlit.flit))).applied
  if St.en w && s.handleCurrent (St.handle w) then some (St.handle w % 256) else none

/-- WAIT_AGE of a slot (R122): ticks since the channel's oldest committed, unplanned record was first offered to a plan, counted from
that plan's tick; a record held back behind a waiting one counts as offered (DESIGN CHOICE, notes/assumptions/115.md). -/
def State.waitAge (s : State) (slot : Nat) : Nat :=
  let ages := (s.ports.flatMap fun p => p.2.queue).filterMap fun r =>
    if s.slotOfRecord r = some slot then r.offered.map fun n => tickSub s.tick.now n else none
  min (ages.foldl max 0) (2 ^ 32 - 1)

/-- The stall limit in force: 0 behaves as 4,194,303 (R122). -/
def Chan.limit (c : Chan) : Nat := if c.stallLimit = 0 then 4194303 else c.stallLimit

/-- CHANNEL_STALL (R122). -/
def doChannelStall (slot : BitVec 8) (s : State) : State :=
  let c := s.chan slot.toNat
  if c.st ≠ .free ∧ c.st ≠ .creating ∧ c.limit ≤ s.waitAge slot.toNat then s.chanCause Reg.CHN_STATUS_STALL slot.toNat else s

/-- CHANNEL_STALL: WAIT_AGE reaches STALL_LIMIT and STALL is set (R122). -/
def execChannelStall (slot : BitVec 8) (s : State) : Host.Outcome State Fault Refusal := .next (doChannelStall slot s)

end Sys2Proof.Machine
end

