-- ==== Sys2Proof/Machine/Medium.lean ====
section
/-! DEFINITION. The medium: where rows lie (R125, R134), what their cells hold (R129, R131 to R136), how a row is read (R133, R136, R227,
R229) and written (R211, R212), wear (R214), digests (R233), the rows beside the drawers (R220, R228). -/

namespace Sys2Proof.Machine

/-! ## Places -/

/-- Halves of a 160-bit row an entry takes: 1, 2, 4 or 8 by width (Table 5-5, C11). -/
def halvesOf (w : Nat) : Nat := if w = 0 then 1 else if w = 1 then 2 else if w = 2 then 4 else 8

/-- Rows that an entry of a width takes (Table 5-5). -/
def rowsOf (w : Nat) : Nat := max 1 (halvesOf w / 2)

/-- The half-row index of a row in its drawer, vestibule or pool. -/
def Loc.pos : Loc → Nat
  | .drawer _ _ _ row half => 2 * row + half
  | .vest _ _ i => i
  | .pool _ _ i => i

/-- The gallery of a place. -/
def Loc.gal : Loc → Nat
  | .drawer g _ _ _ _ => g
  | .vest g _ _ => g
  | .pool g _ _ => g

/-- The cabinet of a place. -/
def Loc.cabinet : Loc → Nat
  | .drawer _ c _ _ _ => c
  | .vest _ c _ => c
  | .pool _ c _ => c

/-- The place lies in drawer x = 17c + d of gallery g. -/
def Loc.inDrawer (l : Loc) (g x : Nat) : Bool :=
  match l with
  | .drawer g' c d _ _ => g' == g && 17 * c + d == x
  | _ => false

/-- The place is a drawer row. -/
def Loc.isDrawer : Loc → Bool
  | .drawer .. => true
  | _ => false

/-- The place is a vestibule row of cabinet c of gallery g. -/
def Loc.inVest (l : Loc) (g c : Nat) : Bool :=
  match l with
  | .vest g' c' _ => g' == g && c' == c
  | _ => false

/-- The place is a vestibule row. -/
def Loc.isVest : Loc → Bool
  | .vest .. => true
  | _ => false

/-- The place is a pool row of cabinet c of gallery g. -/
def Loc.inPool (l : Loc) (g c : Nat) : Bool :=
  match l with
  | .pool g' c' _ => g' == g && c' == c
  | _ => false

/-- The place of a half-row index in drawer x of gallery g. -/
def drawerLoc (g x pos : Nat) : Loc := .drawer g (x / 17) (x % 17) (pos / 2) (pos % 2)

/-- Key width of a table, 160 bits where it is absent. -/
def State.widthOf (s : State) (t : Nat) : Nat := match s.table t with | some d => d.width | none => 1

/-- Halves a row takes. -/
def State.rowHalves (s : State) (r : Row) : Nat := halvesOf (s.widthOf r.tbl)

/-- Replace the rows. -/
def State.setRows (s : State) (l : List Row) : State := { s with rows := l }

/-- Rows that are not FREE in drawer x of gallery g. -/
def State.drawerRows (s : State) (g x : Nat) : List Row := s.rows.filter fun r => r.loc.inDrawer g x

/-! ## Physical addresses -/

/-- The physical address of row `row` of drawer x of gallery g. -/
def poolKey (g x row : Nat) : Nat := drawerKey g x * 2048 + row

/-- The physical address of the first row of a place: drawer rows, then vestibule rows from 2^24, then pool rows from 2^25. -/
def Loc.phys : Loc → Nat
  | .drawer g c d row _ => poolKey g (17 * c + d) row
  | .vest g c i => 2 ^ 24 + (32 * g + c) * 128 + i / 2
  | .pool g c i => 2 ^ 25 + (32 * g + c) * 512 + i / 2

/-- The physical address of row i of the reference bank of cabinet n (R220). -/
def refKey (n i : Nat) : Nat := 2 ^ 26 + 16 * n + i

/-- The physical address of a copy of descriptor row i of cabinet n; row 0 is the drift history's (R224). -/
def descKey (n i copy : Nat) : Nat := 2 ^ 27 + 2 * (256 * i + n) + copy

/-- The rows an entry lies in. -/
def State.physOf (s : State) (r : Row) : List Nat := (List.range (rowsOf (s.widthOf r.tbl))).map (r.loc.phys + ·)

/-- The entry lies in a row. -/
def State.lies (s : State) (r : Row) (k : Nat) : Bool := decide (r.loc.phys ≤ k) && decide (k < r.loc.phys + rowsOf (s.widthOf r.tbl))

/-- The entries that lie in a row. -/
def State.rowsAt (s : State) (k : Nat) : List Row := s.rows.filter fun r => s.lies r k

/-- A physical address is a row of a drawer. -/
def isPool (k : Nat) : Bool := decide (k < 2 ^ 24)

/-- A physical address is an SRAM row. -/
def isSram (k : Nat) : Bool := decide (2 ^ 24 ≤ k) && decide (k < 2 ^ 26)

/-- The cabinet of a row. -/
def keyCab (k : Nat) : Nat :=
  if k < 2 ^ 24 then 32 * (k / 2048 / 544) + k / 2048 % 544 / 17
  else if k < 2 ^ 25 then (k - 2 ^ 24) / 128
  else if k < 2 ^ 26 then (k - 2 ^ 25) / 512
  else if k < 2 ^ 27 then (k - 2 ^ 26) / 16
  else (k - 2 ^ 27) / 2 % 256

/-- A row of a fenced cabinet: a maintenance transfer to it ends in an error completion, and its requester abandons it (R304, R305). -/
def State.shut (s : State) (k : Nat) : Bool := (s.cab (keyCab k)).fenced

/-! ## The contents of a row (R129, R131, R132, R135) -/

/-- A field of a number. -/
def fieldOf (v lo n : Nat) : Nat := (v >>> lo) % 2 ^ n

/-- Bits [lo + n − 1 : lo] of a number replaced. -/
def putField (v lo n x : Nat) : Nat := v - fieldOf v lo n * 2 ^ lo + x % 2 ^ n * 2 ^ lo

/-- VALID of half h (Table 5-4). -/
def RowCells.valid (c : RowCells) (h : Nat) : Bool := c.dig.toNat.testBit h

/-- FLAGS.WIDTH. -/
def RowCells.width (c : RowCells) : Nat := fieldOf c.dig.toNat 2 2

/-- FLAGS.TABLE. -/
def RowCells.table (c : RowCells) : Nat := fieldOf c.dig.toNat 6 6

/-- ID_A or ID_B (Table 5-3). -/
def RowCells.id (c : RowCells) (h : Nat) : Nat := fieldOf c.dig.toNat (16 + 62 * h) 24

/-- DREF_A or DREF_B. -/
def RowCells.dref (c : RowCells) (h : Nat) : Nat := fieldOf c.dig.toNat (40 + 62 * h) 22

/-- RANK_A or RANK_B. -/
def RowCells.rank (c : RowCells) (h : Nat) : Nat := fieldOf c.dig.toNat (62 + 62 * h) 16

/-- The 176-bit digital word (Table 5-3). -/
def RowCells.word (c : RowCells) : BitVec 176 := c.tag ++ c.check ++ c.dig

/-- A row whose digital word is given whole. -/
def RowCells.ofWord (a b : BitVec 160) (w : BitVec 176) : RowCells :=
  { a := a, b := b, dig := w.extractLsb' 0 140, check := w.extractLsb' 140 19, tag := w.extractLsb' 159 17 }

/-- The parity of a number below 2^8. -/
def parity8 (v : Nat) : Nat := ((List.range 8).filter fun i => v.testBit i).length % 2

/-- The ROW_TAG of a drawer row by its address: {P, d, row} (Table 5-3). -/
def tagOf (k : Nat) : Nat :=
  let x := k / 2048
  parity8 (x / 544 * 32 + x % 544 / 17) * 2 ^ 16 + x % 544 % 17 * 2 ^ 11 + k % 2048

/-- The 477 information bits of a row (R133): match cells, digital-word bits [139:0], ROW_TAG. -/
def RowCells.info (c : RowCells) : BitVec 477 := c.tag ++ c.dig ++ c.b ++ c.a

/-- What an SRAM row holds in place of ROW_TAG: the table, and for a vestibule row the target drawer position (R136,
notes/assumptions/121.md). -/
def Row.sramTag (r : Row) : Nat := r.tbl % 64 + 64 * (match r.target with | some k => k % 544 | none => 0)

/-- ROW_TAG is computed from the address, and the check bits over it, when a drawer row is written (R133). -/
def RowCells.sealAt (c : RowCells) (k : Nat) : RowCells :=
  let t : RowCells := { c with tag := BitVec.ofNat 17 (tagOf k) }
  { t with check := Config.bch t.info }

/-- Cells A of 160 ternary bits: low for 0 and N (Table 5-2). -/
def cellsA (value care : Nat) : Nat := value ^^^ care

/-- Cells B of 160 ternary bits: low for 1 and N (Table 5-2). -/
def cellsB (value : Nat) : Nat := value

/-- One row of an entry of 160 bits or more, or an entry in a half of an 80-bit row, put over what stands there (R131, R132, R135). -/
def RowCells.put (c : RowCells) (w : Nat) (r : Row) (part : Nat) : RowCells :=
  let half := r.loc.pos % 2
  let flags := w * 4 + part * 16 + r.tbl % 64 * 64
  if w = 0 then
    let lo := 80 * half
    let v := fieldOf r.value.toNat 0 80
    let a := putField c.a.toNat lo 80 (cellsA v (fieldOf r.care.toNat 0 80))
    let b := putField c.b.toNat lo 80 (cellsB v)
    let other := if c.valid (1 - half) then 2 ^ (1 - half) else 0
    let w0 := putField c.dig.toNat 0 16 (2 ^ half + other + flags)
    let w1 := putField (putField (putField w0 (16 + 62 * half) 24 r.id) (40 + 62 * half) 22 r.dref) (62 + 62 * half) 16 r.rank
    let clearB : Bool := half == 0 && other == 0
    { c with a := BitVec.ofNat 160 (if clearB then putField a 80 1 1 else a), b := BitVec.ofNat 160 (if clearB then putField b 80 1 1 else b),
             dig := BitVec.ofNat 140 w1 }
  else
    let v := fieldOf r.value.toNat (160 * part) 160
    { a := BitVec.ofNat 160 (cellsA v (fieldOf r.care.toNat (160 * part) 160)), b := BitVec.ofNat 160 (cellsB v),
      dig := BitVec.ofNat 140 (1 + flags + r.id * 2 ^ 16 + if part = 0 then r.dref * 2 ^ 40 + r.rank * 2 ^ 62 else 0) }

/-- The last pattern of a march test, the inverse checkerboard, in row `row` (R240). -/
def checker (row : Nat) (inverse : Bool) : RowCells :=
  let odd : Bool := (row % 2 == 1) != inverse
  let alt := if odd then (4 ^ 88 - 1) / 3 * 2 else (4 ^ 88 - 1) / 3
  .ofWord (if odd then 0 else BitVec.allOnes 160) (if odd then BitVec.allOnes 160 else 0) (BitVec.ofNat 176 alt)

/-- What was last programmed into a row: where nothing is listed, the pattern of the drawer's last self-test, or every cell high
(notes/assumptions/118.md). -/
def State.cellsAt (s : State) (k : Nat) : RowCells :=
  match fget s.cells k with
  | some c => c
  | none => if isPool k && (s.drawer (k / 2048 / 544) (k / 2048 % 544)).marched then checker (k % 2048) true else {}

/-- The contents of a row: what its entries encode, over what was last programmed. -/
def State.contents (s : State) (k : Nat) : RowCells :=
  match s.rowsAt k with
  | [] => s.cellsAt k
  | r :: l =>
    let c := (r :: l).foldl (fun c r => c.put (s.widthOf r.tbl) r (k - r.loc.phys)) (s.cellsAt k)
    if isSram k then { c with check := 0, tag := BitVec.ofNat 17 r.sramTag } else c.sealAt k

/-- The eight 64-bit words of an SRAM row, each with its SECDED check byte: value, care, digital word, in this order (R136,
notes/assumptions/121.md). -/
def RowCells.words (c : RowCells) : List (BitVec 72) :=
  let v : BitVec 512 := (c.word ++ (c.a ^^^ c.b) ++ c.b).setWidth 512
  (List.range 8).map fun j => Config.secded (v.extractLsb' (64 * j) 64) ++ v.extractLsb' (64 * j) 64

/-! ## Reading a row (R133, R136, R227, R229) -/

/-- The condition of a row. -/
def State.fault (s : State) (k : Nat) : RowFault := (fget s.faults k).getD {}

/-- Set the condition of a row. -/
def State.setFault (s : State) (k : Nat) (f : RowFault) : State := { s with faults := fset s.faults k {} f }

/-- Cells that read wrong at RREF. -/
def RowFault.wrong (f : RowFault) : List Nat := (f.cells.filter fun e => decide (e.2 < 0)).map (·.1)

/-- Cells whose value differs among reads at RREF and at offsets up to m codes to both sides (R227). -/
def RowFault.near (f : RowFault) (m : Nat) : List Nat := (f.cells.filter fun e => decide (e.2.natAbs < m)).map (·.1)

/-- Cells that read wrong at every offset up to m codes (R229). -/
def RowFault.far (f : RowFault) (m : Nat) : List Nat := (f.cells.filter fun e => decide (e.2 < 0) && decide (m ≤ e.2.natAbs)).map (·.1)

/-- What a row holds, its cells read without error. -/
def State.stands (s : State) (k : Nat) : RowCells := (s.fault k).held.getD (s.contents k)

/-- A bit of the digital word changed. -/
def RowCells.flipWord (c : RowCells) (i : Nat) : RowCells := .ofWord c.a c.b (c.word ^^^ BitVec.ofNat 176 (2 ^ i))

/-- A cell of a drawer row changed: 160 cells A, 160 cells B, the digital word. -/
def RowCells.flipCell (c : RowCells) (i : Nat) : RowCells :=
  if i < 160 then { c with a := c.a ^^^ BitVec.ofNat 160 (2 ^ i) }
  else if i < 320 then { c with b := c.b ^^^ BitVec.ofNat 160 (2 ^ (i - 160)) }
  else c.flipWord (i - 320)

/-- A bit of an SRAM row changed: 160 value bits, 160 care bits, the digital word; the check bits lie beyond (R136). -/
def RowCells.flipBit (c : RowCells) (i : Nat) : RowCells :=
  if i < 160 then { c with a := c.a ^^^ BitVec.ofNat 160 (2 ^ i), b := c.b ^^^ BitVec.ofNat 160 (2 ^ i) }
  else if i < 320 then { c with a := c.a ^^^ BitVec.ofNat 160 (2 ^ (i - 160)) }
  else if i < 496 then c.flipWord (i - 320)
  else c

/-- A row as it reads at RREF, uncorrected: what acts on the match line (R133). -/
def State.raw (s : State) (k : Nat) : RowCells :=
  (s.fault k).wrong.foldl (if isSram k then RowCells.flipBit else RowCells.flipCell) (s.stands k)

/-- The 64-bit word of an SRAM row that a bit belongs to, of the eight; the check bits of word j are 512 + 8j to 519 + 8j (R136). -/
def sramWord (i : Nat) : Nat := if i < 512 then i / 64 else (i - 512) / 8

/-- The decode of a row at RREF succeeds: at most two wrong cells in a drawer row, at most one wrong bit in each word of an SRAM row
(R133, R136). -/
def State.decodes (s : State) (k : Nat) : Bool :=
  let w := (s.fault k).wrong
  if isSram k then (List.range 8).all fun j => decide ((w.filter fun i => sramWord i = j).length ≤ 1) else decide (w.length ≤ 2)

/-- The tag of a drawer row agrees with its address (R133), as it does in every row that its own contents were written to; a row beside
the drawers and an SRAM row have none. -/
def State.tagOk (s : State) (k : Nat) : Bool :=
  match (s.fault k).held with
  | none => true
  | some c => !isPool k || c.tag.toNat == tagOf k

/-- The row reads at nominal: it decodes and its tag agrees (R229). -/
def State.readsNominal (s : State) (k : Nat) : Bool := s.decodes k && s.tagOk k

/-- The scrub margin in codes: 1 to 32, doubled in conservative mode (R224, Table 7-3). -/
def State.scrubMargin (s : State) : Nat :=
  let m := min (max (s.get Reg.CUR_SCRUB_MARGIN) 1) 32
  if s.cur.histValid then m else 2 * m

/-- The verify margin in codes: two more than MARGIN, doubled in conservative mode (R211, R224). -/
def State.verifyMargin (s : State) : Nat :=
  let m := min (max (s.get Reg.CUR_SCRUB_MARGIN) 1) 32 + 2
  if s.cur.histValid then m else 2 * m

/-- The scrub period in cycles: PERIOD_H hours, 0 behaving as 1, halved in conservative mode (R224, R226). SCRUB_PASS comes once in it. -/
def State.scrubPeriod (s : State) : Nat :=
  let c := max (s.get Reg.CUR_SCRUB_PERIOD_H) 1 * 3600 * cyclesPerS
  if s.cur.histValid then c else c / 2

/-- The decode of the five-offset read succeeds: twice the errors plus the erasures is at most 5, and the tag agrees (R229). -/
def State.recovers (s : State) (k : Nat) : Bool :=
  let f := s.fault k
  let m := 2 * s.scrubMargin
  decide (2 * (f.far m).length + (f.near m).length ≤ 5) && s.tagOk k

/-- The row is readable, at nominal or by the five-offset read (R229). -/
def State.readable (s : State) (k : Nat) : Bool := s.readsNominal k || (!isSram k && s.recovers k)

/-- Every row of an entry is readable: an unreadable one makes the whole entry unreadable (R234). -/
def State.entryReadable (s : State) (r : Row) : Bool := (s.physOf r).all s.readable

/-! ## The match line (R130, R133 to R136) -/

/-- A connected cell in the low state discharges the match line: cells A are connected where the key bit is 1, cells B where it is 0. -/
def RowCells.line (c : RowCells) (w half : Nat) (key : Nat) : Bool :=
  let lo := if w = 0 then 80 * half else 0
  let n := if w = 0 then 80 else 160
  let a := fieldOf c.a.toNat lo n
  let b := fieldOf c.b.toNat lo n
  let k := key % 2 ^ n
  a &&& k == 0 && b &&& (k ^^^ (2 ^ n - 1)) == 0

/-- The key bits presented to row `part` of a group (Table 5-5). -/
def keyPart (key : BitVec 640) (part : Nat) : Nat := key.toNat >>> (160 * part)

/-- Row p of an entry's row group shows a match, as its cells stand or as the condition of the row departs from them. -/
def State.partMatch (s : State) (r : Row) (w : Nat) (key : BitVec 640) (p : Nat) : Bool :=
  let k := r.loc.phys + p
  match if r.loc.isDrawer then (s.fault k).analog else none with
  | some b => b
  | none => (s.raw k).line w (r.loc.pos % 2) (keyPart key p)

/-- The match line of an entry's row, half or row group: every row of it shows a match (R134). -/
def State.lineMatch (s : State) (r : Row) (w : Nat) (key : BitVec 640) : Bool := (List.range (rowsOf w)).all (s.partMatch r w key)

/-! ## Wear (R214, R216) -/

/-- The members of a list on which a measure is least. -/
def leastBy {α : Type} (f : α → Nat) : List α → List α
  | [] => []
  | a :: t =>
    let m := t.foldl (fun m b => min m (f b)) (f a)
    (a :: t).filter fun b => f b == m

/-- Programmings of a row of the pool. -/
def State.wearOf (s : State) (g x row : Nat) : Nat := fgetD s.cur.rowWear (poolKey g x row) 0

/-- Programmings of the rows that n halves from half-row index p of drawer x take. -/
def State.placeWear (s : State) (g x n p : Nat) : Nat := ((List.range (max 1 (n / 2))).map fun k => s.wearOf g x (p / 2 + k)).sum

/-- Programmings of a row are metered (R214). -/
def State.wearRow (s : State) (g x row cells : Nat) : State :=
  let t := { s with cur := { s.cur with rowWear := fset s.cur.rowWear (poolKey g x row) 0 (s.wearOf g x row + cells) } }
  t.setDrawer g x { t.drawer g x with wear := (t.drawer g x).wear + cells }

/-- A drawer is written: it is dirty, counts the write and notes when (R233). -/
def State.dirtyDrawer (s : State) (g x : Nat) : State :=
  s.setDrawer g x { s.drawer g x with dirty := true, writes := (s.drawer g x).writes + 1, lastWrite := s.clock }

/-! ## Suspect drawers, defective rows (R212, R235) -/

/-- A drawer becomes suspect (R235). -/
def State.makeSuspect (s : State) (g x : Nat) : State :=
  if (s.drawer g x).suspect then s
  else ((s.setDrawer g x { s.drawer g x with suspect := true }).put Reg.CUR_STATUS_SUSPECT 1).raise Ev.DRAWER_SUSPECT

/-- A row is defective: it is entered in the defect map and counted; the sixteenth makes the drawer suspect (R212, R235). -/
def State.defectRow (s : State) (g x row : Nat) : State :=
  let k := s.drawer g x
  if k.defects.contains row then s
  else
    let t := (s.setDrawer g x { k with defects := k.defects ++ [row] }).bump Reg.CUR_CNT_DEFECT_COUNT
    if 16 ≤ k.defects.length + 1 then t.makeSuspect g x else t

/-- The row of a place is defective. -/
def State.defect (s : State) (l : Loc) : State :=
  match l with
  | .drawer g c d row _ => s.defectRow g (17 * c + d) row
  | _ => s

/-! ## Writing a row (R211) -/

/-- Ones among the low n bits of a number. -/
def ones (n v : Nat) : Nat := ((List.range n).filter fun i => v.testBit i).length

/-- Cells in which two rows differ. -/
def RowCells.diff (c d : RowCells) : Nat :=
  ones 160 (c.a ^^^ d.a).toNat + ones 160 (c.b ^^^ d.b).toNat + ones 176 (c.word ^^^ d.word).toNat

/-- The cells that fail verification after each pulse, as the verify reads find them; the reads that follow a good one are not made. -/
def State.failsOf (s : State) (reads : List (List Nat)) : List Nat :=
  (reads.map fun l => (l.filter fun m => decide (m < s.verifyMargin)).length).takeWhile fun n => decide (0 < n)

/-- The outcome of a write that its command does not tell: cells that fail after each pulse, free values (notes/assumptions/3.md). -/
def State.freeFails (s : State) : List Nat × State :=
  (((List.range 4).map fun i => Config.free (s.freeCtr + i) % 497).takeWhile (fun n => decide (0 < n)), { s with freeCtr := s.freeCtr + 4 })

/-- One row of the medium is written: the cells that differ from what it holds are programmed, then those that fail verification, up to
three further pulses; each programming is wear (R211, R214). A row with a cell that still fails is defective (R212); the second part says
whether the row verified. -/
def State.program (s : State) (k : Nat) (new : RowCells) (fails : List Nat) : State × Bool :=
  let g := k / 2048 / 544
  let x := k / 2048 % 544
  let cells := (s.raw k).diff new + (fails.take 3).sum
  let t := (s.spend cells).bump Reg.CUR_CNT_WRITES_COUNT
  let u := if fails.isEmpty then t else t.bump Reg.CUR_CNT_RETRY_COUNT
  let v := (u.wearRow g x (k % 2048) cells).dirtyDrawer g x
  let w : State := { v with cells := fput v.cells k new, faults := fdel v.faults k }
  if fails.length ≤ 3 then (w, true) else (w.defectRow g x (k % 2048), false)

/-- A journal record covers a place no more; one that covers no place is freed (R191, R213). -/
def JRow.less (l : Loc) (j : JRow) : Option JRow :=
  let k := { j with covers := j.covers.filter (· != l) }
  if j.covers.contains l && k.covers.isEmpty then none else some k

/-- The place holds nothing of what it held: it waits no more to be cleared, and the journal records that covered it are freed
(R191, R213, notes/assumptions/119.md). -/
def State.overwritten (s : State) (l : Loc) : State :=
  { s with cur := { s.cur with clearQ := s.cur.clearQ.filter (· != l) }, journal := s.journal.filterMap (JRow.less l) }

/-- The rows of an entry are written at its place, one after the other (R211, R212). `fails`: for each row the cells that fail. -/
def State.programRows (s : State) (r : Row) (w : Nat) : List (List Nat) → Nat → Nat → State × Bool
  | _, _, 0 => (s, true)
  | fails, p, n + 1 =>
    let k := r.loc.phys + p
    let o := s.program k (((s.contents k).put w r p).sealAt k) (fails.headD [])
    let t := State.programRows o.1 r w fails.tail (p + 1) n
    (t.1, o.2 && t.2)

/-- The rows of an entry are written with the outcome that the command tells. -/
def State.writeEntry (s : State) (r : Row) (w : WriteRes) : State × Bool :=
  let n := s.widthOf r.tbl
  (s.overwritten r.loc).programRows r n (w.rows.map s.failsOf) 0 (rowsOf n)

/-- The rows of an entry are written by a copy of many rows: the outcome of each write is a free value. -/
def State.writeFree (s : State) (r : Row) : State × Bool :=
  let n := s.widthOf r.tbl
  let o := (List.range (rowsOf n)).foldl (fun (x : List (List Nat) × State) _ => let f := x.2.freeFails; (x.1 ++ [f.1], f.2)) ([], s)
  (o.2.overwritten r.loc).programRows r n o.1 0 (rowsOf n)

/-- A row as it is cleared: both VALID bits 0, which programs only flag and check cells (R213). -/
def RowCells.cleared (c : RowCells) (k : Nat) : RowCells :=
  RowCells.sealAt { c with dig := BitVec.ofNat 140 (putField c.dig.toNat 0 2 0) } k

/-! ## Digests (R233) -/

/-- The digest term of a row: its 477 corrected information bits, then its address g.c.d and row (R233). -/
def digestTerm (k : Nat) (c : RowCells) : Nat :=
  let x := k / 2048
  (crc64Bits (crcOrder 477 c.info.toNat ++ crcOrder 3 (x / 544) ++ crcOrder 5 (x % 544 / 17) ++ crcOrder 5 (x % 544 % 17) ++
    crcOrder 11 (k % 2048))).toNat

/-- The rows of drawer x of gallery g that may hold something: those that hold an entry and those programmed since its last self-test. -/
def State.writtenRows (s : State) (g x : Nat) : List Nat :=
  ((s.drawerRows g x).flatMap s.physOf ++ (s.cells.map (·.1)).filter fun k => k / 2048 == drawerKey g x).eraseDups

/-- The digest of a drawer: the XOR of the terms of its rows with VALID_A or VALID_B set (R233). -/
def State.drawerDigest (s : State) (g x : Nat) : Nat :=
  (s.writtenRows g x).foldl (fun a k =>
    let c := s.stands k
    if c.valid 0 || c.valid 1 then a ^^^ digestTerm k c else a) 0

/-- The rows of drawer x of gallery g that its cabinet reserves for the journal (R215). -/
def State.reservedIn (s : State) (g x : Nat) : List Nat :=
  ((s.cab (32 * g + x / 17)).reserve.filter fun a => a / 2048 == x % 17).map (· % 2048)

/-- The address of journal row a of cabinet n. -/
def journalKey (n a : Nat) : Nat := poolKey (n / 32) (17 * (n % 32) + a / 2048) (a % 2048)

/-! ## The rows beside the drawers (R220, R228) -/

/-- Row i of a reference bank: eight mismatch references with one low cell among the connected ones, eight match references (R220). -/
def refRow (i : Nat) : RowCells := if i < 8 then { a := BitVec.ofNat 160 (2 ^ i) } else {}

/-- The reference and descriptor rows of every cabinet (R226). -/
def sideRows : List Nat :=
  (List.range 4096).map (2 ^ 26 + ·) ++ (List.range (512 * (Config.descRows + 1))).map (2 ^ 27 + ·)

/-- The address of the older of the two copies of a reference or descriptor row (R228). -/
def State.olderCopy (s : State) (k : Nat) : Nat := if s.cur.newer.contains (k / 2) then k / 2 * 2 else k / 2 * 2 + 1

/-- The older copy is rewritten with the corrected contents; it is the newer one from then on (R228). -/
def State.rewriteOlder (s : State) (k : Nat) : State :=
  let n := if s.cur.newer.contains (k / 2) then s.cur.newer.erase (k / 2) else s.cur.newer ++ [k / 2]
  { s with faults := fdel s.faults (s.olderCopy k), cur := { s.cur with newer := n } }

end Sys2Proof.Machine
end

