-- ==== Sys2Proof/Machine/Place.lean ====
section
/-! DEFINITION. Where entries go: rows and their order (R134 to R139), bays and broad sets (R143 to R147), placement
(R174, R175), the vestibule and its journal (R184, R191), counters (R201), the entries of a table (R172, R184, R205). -/

namespace Sys2Proof.Machine

/-! ## Rows -/

/-- Vestibule rows that name drawer x of gallery g as their target. -/
def State.targeting (s : State) (g x : Nat) : List Row :=
  s.rows.filter fun r => r.loc.isVest && r.target == some (drawerKey g x) && r.off.isNone

/-- Drawer x of gallery g is in retirement: it takes no entry (R241). -/
def State.retiring (s : State) (g x : Nat) : Bool :=
  match s.cur.retire with
  | some (g', c, d) => g' == g && 17 * c + d == x
  | none => false

/-- Entries of width w that drawer x of gallery g can still take: its rows less defective ones, those of the journal, used and
reserved ones (R174, R215); none in a drawer in retirement. -/
def State.freeRows (s : State) (g x w : Nat) : Nat :=
  if s.retiring g x then 0 else (4096 - 2 * (s.drawer g x).defects.length - 2 * (s.reservedIn g x).length - ((s.drawerRows g x).map s.rowHalves).sum -
    ((s.targeting g x).map s.rowHalves).sum) / halvesOf w

/-- Two half-row intervals overlap. -/
def overlaps (a n b m : Nat) : Bool := decide (a < b + m) && decide (b < a + n)

/-- The first aligned free place of n halves among `size`, where rows of another table never share a row (R136, C11). -/
def State.firstFree (s : State) (used : List Row) (t : Nat) (target : Option Nat) (n size : Nat) : Option Nat :=
  ((List.range (size / n)).map (· * n)).find? fun p =>
    used.all fun r =>
      let m := s.rowHalves r
      !overlaps p n r.loc.pos m && (decide (r.loc.pos / 2 ≠ p / 2) || (r.tbl == t && r.target == target))

/-! ## Priority (R138, R139) -/

/-- A priority key: rank in a ranked table and 0 in a positional one, then ID; lower is better. -/
def prioKey (ranked : Bool) (rank id : Nat) : Nat := (if ranked then rank * 2 ^ 24 else 0) + id

/-- The priority key of a row. -/
def State.rowKey (s : State) (r : Row) : Nat :=
  prioKey (match s.table r.tbl with | some d => d.ranked | none => false) r.rank r.id

/-- Entry (key, id) may take half-row index p in drawer x of gallery g: the place is FREE, aligned, not defective, not of the
journal (R215), and the order of R139 holds with every other entry there. -/
def State.fits (s : State) (g x p n key id : Nat) : Bool :=
  p % n == 0 && decide (p + n ≤ 4096) &&
    ((List.range n).all fun k => !(s.drawer g x).defects.contains ((p + k) / 2) && !(s.reservedIn g x).contains ((p + k) / 2)) &&
    ((s.drawerRows g x).all fun r =>
      !overlaps p n r.loc.pos (s.rowHalves r) &&
        (r.id == id || (if key < s.rowKey r then decide (p < r.loc.pos) else decide (r.loc.pos < p))))

/-- The places of drawer x of gallery g that an entry may take. -/
def State.places (s : State) (g x n key id : Nat) : List Nat :=
  ((List.range (4096 / n)).map (· * n)).filter fun p => s.fits g x p n key id

/-! ## Entries of a table -/

/-- The committed row of an entry: ENTERING or LIVE and not going OFF. -/
def State.entry (s : State) (t id : Nat) : Option Row :=
  s.rows.find? fun r => r.tbl == t && r.id == id && r.off.isNone && (r.st == .live || r.st == .entering)

/-- The entry is lost (R205). -/
def State.isLost (s : State) (t id : Nat) : Bool := s.lost.contains (t, id)

/-- Committed entries of table t, lost ones excluded, and accessions made. -/
def State.entries (s : State) (t : Nat) : List Row :=
  s.rows.filter fun r => r.tbl == t && r.off.isNone && (r.st == .live || r.st == .entering)

/-- The open group of a table, if any. -/
def State.groupOf (s : State) (t : Nat) : Option Group := s.groups.find? fun g => g.tbl == t

/-- Entries counted against MAX_ENTRIES: committed ones and accessions, and the open group's inserts less its
deletions (R184). -/
def State.countFor (s : State) (t : Nat) : Nat :=
  let base := (s.entries t).length
  match s.groupOf t with
  | none => base
  | some g =>
    let ins := (g.edits.filter fun e => e.op == .insert && !e.existed).length
    let del := (g.edits.filter fun e => e.op == .delete && e.existed).length
    base + ins - del

/-- The table is full for one more entry. -/
def State.tableFull (s : State) (t : Nat) : Bool :=
  match s.table t with
  | some d => decide (d.maxEntries ≠ 0) && decide (d.maxEntries ≤ s.countFor t)
  | none => true

/-! ## Bays -/

/-- Lowest code an entry covers: bits it leaves open taken as 0 (R144). -/
def Table.lowCode (d : Table) (value care : BitVec 640) : Nat :=
  (List.range d.ncat).foldl (fun c k => if bitOf care (d.pos k) && bitOf value (d.pos k) then c + 2 ^ k else c) 0

/-- Highest code an entry covers. -/
def Table.highCode (d : Table) (value care : BitVec 640) : Nat :=
  (List.range d.ncat).foldl (fun c k => if freeBit care (d.pos k) || bitOf value (d.pos k) then c + 2 ^ k else c) 0

/-- The bay of gallery g whose block holds every code an entry covers (R144). -/
def State.bayForEntry (s : State) (t : Nat) (d : Table) (g : Nat) (value care : BitVec 640) : Option Bay :=
  s.bays.find? fun b => b.g == g && b.tbl == t && decide (b.first ≤ d.lowCode value care) &&
    decide (d.highCode value care < b.first + 2 ^ b.s)

/-- The broad units of a table in a gallery. -/
def State.broadUnits (s : State) (g t : Nat) : List Nat := (s.broad.filter fun b => b.g = g ∧ b.tbl = t).map (·.unit)

/-- BROAD_LIMIT: values above 120 behave as 120 (Table 5-9). -/
def State.broadLimit (s : State) (g : Nat) : Nat := min (s.get Reg.GAL_CTRL_BROAD_LIMIT g) 120

/-- A drawer position is free for assignment: free, in a cabinet that is not fenced, with no row written in it and no
vestibule row's target. -/
def State.drawerFree (s : State) (g x : Nat) : Bool :=
  (s.drawer g x).st == .free && !(s.cab (32 * g + x / 17)).fenced && (s.drawerRows g x).isEmpty && (s.targeting g x).isEmpty

/-- The free drawers of a gallery. -/
def State.freeDrawers (s : State) (g : Nat) : List Nat := (List.range 544).filter fun x => s.drawerFree g x

/-- The unit of gallery g that a staged row takes: its pool's cabinet, or the drawer a vestibule row targets. -/
def Row.takes (r : Row) (g : Nat) : Option Nat :=
  match r.loc with
  | .pool g' c _ => if g' = g then some c else none
  | .vest .. => r.target.bind fun k => if k / 544 = g then some (k % 544) else none
  | .drawer .. => none

/-- Units that rows of table t in gallery g have taken and that are not assigned yet, in the order they were taken. -/
def State.pendingUnits (s : State) (t g : Nat) (d : Table) (isBay : Row → Bool) : List Nat :=
  let known := (s.bays.filter fun b => b.g = g ∧ b.tbl = t).flatMap (·.units) ++ s.broadUnits g t
  (((s.rows.filter fun r => r.tbl == t && isBay r).filterMap fun r => r.takes g).eraseDups).filter fun u =>
    !known.contains u && (d.transient || (s.drawer g u).st == .free)

/-- Pool rows of width w that cabinet c of gallery g can still take. -/
def State.freePool (s : State) (g c w : Nat) : Nat :=
  (1024 - ((s.rows.filter fun r => r.loc.inPool g c).map s.rowHalves).sum) / halvesOf w

/-- Entries of width w that a unit can still take. -/
def State.unitRoom (s : State) (transient : Bool) (g u w : Nat) : Nat :=
  if transient then s.freePool g u w else s.freeRows g u w

/-- Free rows of an entry's eligible bay, or of the broad set where it fits no bay, in gallery g (R145). -/
def State.roomIn (s : State) (t : Nat) (d : Table) (g : Nat) (value care : BitVec 640) : Nat :=
  let us := match s.bayForEntry t d g value care with
    | some b => b.units
    | none => s.broadUnits g t
  (us.map fun u => s.unitRoom d.transient g u d.width).sum

/-- The spanned galleries in the order of R145: most free rows first, ties to the lowest number. -/
def State.galleryOrder (s : State) (t : Nat) (d : Table) (value care : BitVec 640) : List Nat :=
  sortBy (fun a b =>
    let x := s.roomIn t d a value care
    let y := s.roomIn t d b value care
    decide (y < x) || (x == y && decide (a ≤ b))) d.galList

/-- The unit a row of a table belongs to: its pool's cabinet, its drawer, or the drawer a vestibule row targets. -/
def Row.unit (r : Row) : Option Nat :=
  match r.loc with
  | .pool _ c _ => some c
  | .vest .. => r.target.map fun k => k - drawerKey r.loc.gal 0
  | .drawer _ c d _ _ => some (17 * c + d)

/-- The row's unit is in its table's broad set. -/
def State.inBroad (s : State) (r : Row) : Bool := match r.unit with | some u => (s.broadUnits r.loc.gal r.tbl).contains u | none => false

/-- Entries of a bay, staged ones among them, whose covered codes would span both halves of its block after a split (R146). -/
def State.straddling (s : State) (d : Table) (b : Bay) : List Row :=
  s.rows.filter fun r => r.tbl == b.tbl && r.loc.gal == b.g && r.off.isNone && r.st != .set && !s.inBroad r &&
    decide (b.first ≤ d.lowCode r.value r.care) && decide (d.highCode r.value r.care < b.first + 2 ^ b.s) &&
      decide (d.lowCode r.value r.care < b.first + 2 ^ (b.s - 1)) && decide (b.first + 2 ^ (b.s - 1) ≤ d.highCode r.value r.care)

/-- Entries the broad set of a table in a gallery can still take within BROAD_LIMIT (R146, R147). -/
def State.broadRoom (s : State) (t : Nat) (d : Table) (g : Nat) : Nat :=
  let us := s.broadUnits g t
  (us.map fun u => s.unitRoom d.transient g u d.width).sum +
    (min (s.broadLimit g - us.length) (s.freeDrawers g).length) * (4096 / halvesOf d.width)

/-- A full bay can split (R146). -/
def State.canSplit (s : State) (d : Table) (b : Bay) : Bool :=
  !d.transient && decide (0 < b.s) && decide ((s.bays.filter fun x => x.g = b.g).length < 512) &&
    decide ((s.straddling d b).length ≤ s.broadRoom b.tbl d b.g)

/-! ## Placement -/

/-- Where an entry is to go: gallery, unit (none where a pending split will provide it), and whether in the broad set. -/
structure Reserve where
  g : Nat
  unit : Option Nat
  broad : Bool
  deriving DecidableEq, Repr

/-- The units of a set that have room, with those a vestibule row already targets. -/
def State.roomy (s : State) (d : Table) (g : Nat) (us : List Nat) : List Nat :=
  us.filter fun u => decide (0 < s.unitRoom d.transient g u d.width) && !(s.cab (32 * g + unitCab d.transient u)).fenced

/-- New units a table may take in gallery g: free drawers, or cabinets whose pool has room and is no unit yet. -/
def State.newUnits (s : State) (d : Table) (g : Nat) (have_ : List Nat) : List Nat :=
  if d.transient then
    (List.range 32).filter fun c => !have_.contains c && decide (0 < s.freePool g c d.width) && !(s.cab (32 * g + c)).fenced
  else s.freeDrawers g

/-- Reserve room in the broad set of gallery g (R147); `more`: units taken for it and not assigned yet. -/
def State.reserveBroad (s : State) (t : Nat) (d : Table) (g : Nat) (more : List Nat) : Option Reserve :=
  let us := s.broadUnits g t
  let pend := (s.pendingUnits t g d fun r => (s.bayForEntry t d g r.value r.care).isNone) ++ more
  match s.pick (s.roomy d g (us ++ pend)) with
  | some u => some ⟨g, some u, true⟩
  | none =>
    if us.length + pend.length < s.broadLimit g then
      match s.pick (s.newUnits d g us) with
      | some u => some ⟨g, some u, true⟩
      | none => none
    else none

/-- Reserve room for an entry in gallery g: in its bay, in a drawer the bay will take, in a pending split, or in the
broad set (R144, R146, R174, R175). Which drawer of several is a free value (notes/assumptions/3.md). -/
def State.reserveIn (s : State) (t : Nat) (d : Table) (g : Nat) (value care : BitVec 640) : Option Reserve :=
  match s.bayForEntry t d g value care with
  | none => s.reserveBroad t d g []
  | some b =>
    let taken := s.pendingUnits t g d fun r => s.bayForEntry t d g r.value r.care == some b
    let pend := taken.take (8 - b.units.length)
    match s.pick (s.roomy d g (b.units ++ pend)) with
    | some u => some ⟨g, some u, false⟩
    | none =>
      match if b.units.length + pend.length < 8 then s.pick (s.newUnits d g (b.units ++ pend)) else none with
      | some u => some ⟨g, some u, false⟩
      | none => if s.canSplit d b then some ⟨g, none, false⟩ else s.reserveBroad t d g (taken.drop pend.length)

/-- Reserve room for an entry: the first gallery in the order of R145 that can take it. -/
def State.reserve (s : State) (t : Nat) (d : Table) (value care : BitVec 640) : Option Reserve :=
  (s.galleryOrder t d value care).findSome? fun g => s.reserveIn t d g value care

/-- Journal rows in use in cabinet c of gallery g: one for each vestibule row, and those of tombstones and moves (R191). -/
def State.journalUsed (s : State) (g c : Nat) : Nat :=
  (s.rows.filter fun r => r.loc.inVest g c).length + (s.journal.filter fun j => j.g = g ∧ j.c = c).length

/-- The rows that cabinet n reserves for its journal, as position * 2048 + row (R215). -/
def State.reserveRows (s : State) (n : Nat) : List Nat :=
  let k := s.cab n
  if k.reserve.isEmpty = false then k.reserve
  else if k.spare = 31 then []
  else
    (((List.range 2048).filter fun r => !(s.drawer (n / 32) (17 * (n % 32) + k.spare)).defects.contains r).take 256).map
      fun r => k.spare * 2048 + r

/-- No journal row can be written in cabinet c of gallery g: none is free (R191), or the cabinet is fenced (R304). -/
def State.journalFull (s : State) (g c : Nat) : Bool :=
  (s.cab (32 * g + c)).fenced || decide ((s.reserveRows (32 * g + c)).length ≤ s.journalUsed g c)

/-- A free vestibule place in cabinet c of gallery g, with a free journal row (R174, R191). -/
def State.vestFree (s : State) (g c t : Nat) (d : Table) (target : Option Nat) : Option Nat :=
  if s.journalFull g c then none
  else s.firstFree (s.rows.filter fun r => r.loc.inVest g c) t target (halvesOf d.width) 256

/-- The cabinets R174 allows for a reserved place, in order. -/
def State.vestCabs (s : State) (t : Nat) (r : Reserve) (units : List Nat) : List Nat :=
  let own := match r.unit with | some x => [x / 17] | none => []
  let bay := if r.broad then [] else sortBy (· ≤ ·) (units.map (· / 17))
  own ++ bay ++ sortBy (· ≤ ·) ((s.broadUnits r.g t).map (· / 17))

/-- Where a reserved entry of a durable table is staged. -/
def State.stagePlace (s : State) (t : Nat) (d : Table) (r : Reserve) (value care : BitVec 640) : Option Loc :=
  let units := match s.bayForEntry t d r.g value care with | some b => b.units | none => []
  let target := r.unit.map (drawerKey r.g)
  (s.vestCabs t r units).findSome? fun c => (s.vestFree r.g c t d target).map fun i => .vest r.g c i

/-- The outcome of a placement. -/
inductive Placed where
  | at_ (loc : Loc) (r : Reserve)
  | noRoom
  | full
  deriving DecidableEq, Repr

/-- Place an entry of table t (R174, R175). -/
def State.place (s : State) (t : Nat) (d : Table) (value care : BitVec 640) : Placed :=
  match s.reserve t d value care with
  | none => .noRoom
  | some r =>
    if d.transient then
      match r.unit with
      | none => .noRoom
      | some c =>
        match s.firstFree (s.rows.filter fun x => x.loc.inPool r.g c) t none (halvesOf d.width) 1024 with
        | some i => .at_ (.pool r.g c i) r
        | none => .noRoom
    else
      match s.stagePlace t d r value care with
      | some l => .at_ l r
      | none => .full

/-- The drawer a placed row targets. -/
def Placed.target (d : Table) : Placed → Option Nat
  | .at_ _ r => if d.transient then none else r.unit.map (drawerKey r.g)
  | _ => none

/-! ## Assignment of units (R187, R143, R147) -/

/-- The bay numbers free in a gallery. -/
def State.freeBays (s : State) (g : Nat) : List Nat := (List.range 512).filter fun n => !s.bays.any fun b => b.g == g && b.num == n

/-- A new bay of a table in a gallery. Which free number it takes is a free value (notes/assumptions/3.md). -/
def State.addBay (s : State) (g t first sz : Nat) (units : List Nat) : State :=
  match s.pick (s.freeBays g) with
  | none => s
  | some n => { s.drawn with bays := s.bays ++ [{ g := g, num := n, tbl := t, first := first, s := sz, units := units }] }

/-- A unit is entered in the bay or the broad set that an entry belongs to, unless it is there. -/
def State.assignUnit (s : State) (t : Nat) (d : Table) (g u : Nat) (value care : BitVec 640) : State :=
  let old := s.drawer g u
  let own : Bool := d.transient || old.st == .free
  let take := fun (x : State) (broad : Bool) (bay : Nat) (block : Nat × Nat) =>
    if d.transient || !own then x
    else x.setDrawer g u { old with st := .assigned, tbl := t, width := d.width, broad := broad, bay := bay, block := block,
                                    rejects := 0, rejectsAt := 0 }
  match s.bayForEntry t d g value care with
  | some b =>
    if b.units.contains u || !own || (s.broadUnits g t).contains u then s
    else if 8 ≤ b.units.length then
      take { s with broad := s.broad ++ [⟨g, t, u⟩] } true 0 (0, d.ncat)
    else
      let bs := s.bays.map fun x => if x = b then { x with units := x.units ++ [u] } else x
      take { s with bays := bs } false b.num (b.first, b.s)
  | none =>
    if (s.broadUnits g t).contains u || !own then s
    else take { s with broad := s.broad ++ [⟨g, t, u⟩] } true 0 (0, d.ncat)

/-- The assignment a row's placement needs, made when it is committed (R187). -/
def State.assignFor (s : State) (r : Row) : State :=
  match s.table r.tbl, r.unit with
  | some d, some u => s.assignUnit r.tbl d r.loc.gal u r.value r.care
  | _, _ => s

/-- An entry placed in a broad set is counted (Table 5-9). -/
def State.noteBroad (s : State) (r : Row) : State := if s.inBroad r then s.bump Reg.GAL_CNT_BROAD_PLACED_COUNT 1 r.loc.gal else s

/-! ## Tally counters (R201) -/

/-- The counters of a table's blocks in ascending order. -/
def Table.counters (d : Table) : List Nat := (sortBy (· ≤ ·) d.blocks).flatMap fun b => (List.range 4096).map (4096 * b + ·)

/-- The counter of an entry. -/
def State.tallyOf (s : State) (t id : Nat) : Option Tally := s.tallies.find? fun x => x.tbl == t && x.id == id && !x.gone

/-- Give an entry the lowest free counter of its table's blocks, or count it as without one (R201). -/
def State.giveTally (s : State) (t id : Nat) : State :=
  match s.table t with
  | none => s
  | some d =>
    if d.tallyEn = false ∨ (s.tallyOf t id).isSome = true then s
    else match d.counters.find? fun i => !s.tallies.any fun x => x.idx == i with
      | some i => { s with tallies := s.tallies ++ [{ tbl := t, id := id, idx := i, count := 0 }] }
      | none => (s.bump Reg.TBL_CNT_NO_TALLY_COUNT 1 t).put Reg.TBL_STATUS_NO_TALLY 1 t

/-- The counter that a lookup planned in tick n counts in: an entry deleted since, and inserted anew, has its own (R201, R202). -/
def State.tallyAt (s : State) (t id : Nat) (n : Tick) : Option Tally :=
  let old : Bool := s.rows.any fun r => r.tbl == t && r.id == id && r.off.isSome && r.enabledAt n
  let own := s.tallies.filter fun x => x.tbl == t && x.id == id
  match own.find? fun x => x.gone == old with
  | some x => some x
  | none => own.head?

/-- Add one to an entry's counter, saturating, for a lookup planned in tick n (R202). -/
def State.countTally (s : State) (t id : Nat) (n : Tick) : State :=
  match s.tallyAt t id n with
  | none => s
  | some y => { s with tallies := s.tallies.map fun x => if x = y then { x with count := min (x.count + 1) (2 ^ 32 - 1) } else x }

/-- An entry is deleted: its counter is freed with its last row (R201). -/
def State.endTally (s : State) (t id : Nat) : State :=
  { s with tallies := s.tallies.map fun x => if x.tbl = t ∧ x.id = id then { x with gone := true } else x }

/-- Free the counters of an entry whose last row is FREE: those of deleted ones without a row that goes OFF, all without any row (R201). -/
def State.dropTally (s : State) (t id : Nat) : State :=
  let own := s.rows.filter fun r => r.tbl == t && r.id == id
  { s with tallies := s.tallies.filter fun x => !(x.tbl == t && x.id == id && (own.isEmpty || (x.gone && own.all (·.off.isNone)))) }

/-- The rows that cabinet n may reserve: those of its spare while it has one, else the FREE rows of its active drawers; none of
the positions avoided (R215). -/
def State.reservable (s : State) (n : Nat) (avoid : List Nat) : List Nat :=
  let g := n / 32
  let c := n % 32
  let sp := (s.cab n).spare
  let from_ := if sp = 31 ∨ avoid.contains sp = true then (List.range 17).filter fun d =>
      d != sp && !avoid.contains d && ((s.drawer g (17 * c + d)).st == .assigned || (s.drawer g (17 * c + d)).st == .free)
    else [sp]
  from_.flatMap fun d =>
    let x := 17 * c + d
    let used := s.drawerRows g x
    ((List.range 2048).filter fun r => !(s.drawer g x).defects.contains r &&
      used.all fun y => !overlaps (2 * r) 2 y.loc.pos (s.rowHalves y)).map fun r => d * 2048 + r

/-- n members of a list of least measure, one after the other; which of several equal ones is a free value
(notes/assumptions/3.md). -/
def pickLeast (f : Nat → Nat) : Nat → List Nat → State → List Nat × State
  | 0, _, s => ([], s)
  | n + 1, l, s =>
    match s.pick (leastBy f l) with
    | none => ([], s)
    | some a =>
      let r := pickLeast f n (l.erase a) s.drawn
      (a :: r.1, r.2)

/-- The journal rows of cabinet n that records hold (R191). -/
def State.journalBusy (s : State) (n : Nat) : List Nat :=
  ((s.rows.filter fun r => r.loc.inVest (n / 32) (n % 32)).filterMap (·.jrow)) ++
    ((s.journal.filter fun j => 32 * j.g + j.c = n).filterMap (·.at_))

/-- The journal of cabinet n has rows in the drawers at some of its positions (R215). -/
def State.journalIn (s : State) (n : Nat) (ds : List Nat) : Bool := (s.reserveRows n).any fun a => ds.contains (a / 2048)

/-- The contents of a journal row. The manual gives a journal row no layout: free values (notes/assumptions/3.md). -/
def State.freeCells (s : State) : RowCells × State :=
  (.ofWord (BitVec.ofNat 160 s.peek) (BitVec.ofNat 160 s.drawn.peek) (BitVec.ofNat 176 s.drawn.drawn.peek), s.drawn.drawn.drawn)

/-- A reserved row that proved defective gives way to another FREE row (R212, R215). -/
def State.replaceReserved (s : State) (n a : Nat) : State :=
  let k := s.cab n
  if k.reserve.isEmpty then s
  else
    let left := k.reserve.erase a
    let l := (s.reservable n []).filter fun b => !left.contains b && b != a
    match s.pick (leastBy (fun b => s.wearOf (n / 32) (17 * (n % 32) + b / 2048) (b % 2048)) l) with
    | none => s.setCab n { k with reserve := left }
    | some b => s.drawn.setCab n { k with reserve := left ++ [b] }

/-- A journal row of cabinet n is written: the least-worn of its reserved rows that hold no record (R216), and another one where a write
does not verify (R212). Which of several equally worn ones, and how the write fares, are free values (notes/assumptions/3.md). -/
def State.journalPut : Nat → Nat → RowCells → State → State × Option Nat
  | 0, _, _, s => (s, none)
  | f + 1, n, c, s =>
    let l := (s.reserveRows n).filter fun a => !(s.journalBusy n).contains a
    match s.pick (leastBy (fun a => s.wearOf (n / 32) (17 * (n % 32) + a / 2048) (a % 2048)) l) with
    | none => (s, none)
    | some a =>
      let o := s.drawn.freeFails
      let r := o.2.program (journalKey n a) c o.1
      if r.2 then (r.1, some a) else State.journalPut f n c (r.1.replaceReserved n a)

/-- The record in journal row a of cabinet n moves to another of its reserved rows. -/
def State.journalMove (s : State) (n a : Nat) : State :=
  let o := State.journalPut 16 n (s.stands (journalKey n a)) s
  let t := o.1.setRows (o.1.rows.map fun r =>
    if r.loc.inVest (n / 32) (n % 32) ∧ r.jrow = some a then { r with jrow := o.2 } else r)
  { t with journal := t.journal.map fun j => if 32 * j.g + j.c = n ∧ j.at_ = some a then { j with at_ := o.2 } else j }

/-- The journal of cabinet n is reserved anew, among the least-worn rows, and the records it holds elsewhere move (R215, R238 step 1). -/
def State.moveReserve (s : State) (n : Nat) (avoid : List Nat) : State :=
  let p := pickLeast (fun a => s.wearOf (n / 32) (17 * (n % 32) + a / 2048) (a % 2048)) 256 (s.reservable n avoid) s
  let t := p.2.setCab n { p.2.cab n with reserve := p.1 }
  ((s.journalBusy n).filter fun a => !p.1.contains a).foldl (fun x a => x.journalMove n a) t

/-- The mean wear of the reserved rows of cabinet n exceeds the cabinet's mean by LEVEL_SPREAD (R215). -/
def State.reserveWorn (s : State) (n : Nat) : Bool :=
  let g := n / 32
  let c := n % 32
  let rs := s.reserveRows n
  let pool := ((List.range 17).map fun d => s.drawer g (17 * c + d)).filter fun k => k.st != .retired
  let own := (rs.map fun a => s.wearOf g (17 * c + a / 2048) (a % 2048)).sum
  let all := (pool.map (·.wear)).sum
  decide (rs.length * (all + 496 * s.get Reg.CUR_WEAR_CTRL_LEVEL_SPREAD * (2048 * pool.length)) < own * (2048 * pool.length))

/-- A new record is written to the journal of cabinet n and entered by `note`; the reservation moves when its rows have become too worn
(R191, R215, R216). -/
def State.journalled (s : State) (n : Nat) (note : State → Option Nat → State) : State :=
  let c := s.freeCells
  let o := State.journalPut 16 n c.1 c.2
  let t := note o.1 o.2
  if t.reserveWorn n then t.moveReserve n [] else t

/-- The journal row of the vestibule row at a place is written (R191). -/
def State.journalAt (s : State) (l : Loc) : State :=
  s.journalled (32 * l.gal + l.cabinet) fun x a => x.setRows (x.rows.map fun r => if r.loc = l then { r with jrow := a } else r)

/-- A tombstone or a move record is written for the place of a drawer row (R191). -/
def State.journalRecord (s : State) (r : Row) (tomb committed : Bool) : State :=
  s.journalled (32 * r.loc.gal + r.loc.cabinet) fun x a =>
    { x with journal := x.journal ++ [{ g := r.loc.gal, c := r.loc.cabinet, at_ := a, tomb := tomb, tbl := r.tbl, id := r.id,
                                        covers := [r.loc], committed := committed }] }

/-- One move record of cabinet n is written for the places that drawer rows leave together (R146, R189, R191). -/
def State.journalMoves (s : State) (n : Nat) (rs : List Row) : State :=
  match rs with
  | [] => s
  | r :: _ => s.journalled n fun x a =>
    { x with journal := x.journal ++ [{ g := n / 32, c := n % 32, at_ := a, tomb := false, tbl := r.tbl, id := r.id, covers := rs.map (·.loc) }] }

/-- A tombstone is written for a drawer entry (R191). -/
def State.tombstone (s : State) (r : Row) (committed : Bool) : State := s.journalRecord r true committed

end Sys2Proof.Machine
end

