-- ==== Sys2Proof/Machine/Records.lean ====
section
/-! DEFINITION. The receive side of the links: data flits and their credits, the commit of records and their admission,
the link flits CREDIT, SYNC and ALIGN, flits of reserved kinds, uncorrectable codewords (R66, R73 to R86, R47). -/

namespace Sys2Proof.Machine

/-! ## DATA_FLIT -/

/-- The flit's credit is spent and given back at once, as for every flit the device discards (R77, R78, R81, R87). -/
def State.discardFlit (s : State) (p : Nat) : State :=
  if s.get Reg.PRT_CREDIT_IN_HELD p = 0 then s
  else (s.put Reg.PRT_CREDIT_IN_HELD (s.get Reg.PRT_CREDIT_IN_HELD p - 1) p).returnCredits p 1

/-- A record that arrives without credit is counted, once (R81). -/
def State.countViolation (s : State) (p : Nat) : State :=
  if (s.port p).viol then s
  else ((s.setPort p { s.port p with viol := true }).bump Reg.PRT_CNT_CREDIT_VIOL_COUNT 1 p).raiseEp (Ev.CREDIT_VIOLATION p)

/-- A flit without credit discards every flit of its record; the credits of the flits that had credit go back (R81). -/
def State.creditViolation (s : State) (p : Nat) (f : Flit) : State :=
  let q := s.port p
  let rest := if q.part.isEmpty then hdrFlits f - 1 else q.partLen - q.part.length - 1
  ((s.setPort p { q with part := [], partLen := 0, skip := rest, viol := false }).returnCredits p q.part.length).countViolation p

/-- A flit that resync or framing discards: its credit goes back; one without credit makes its record a violation, in resync, where
no record can be told from the next, the whole of the resync (R78, R81, notes/assumptions/109.md). -/
def State.dropFlit (s : State) (p : Nat) : State :=
  if s.get Reg.PRT_CREDIT_IN_HELD p = 0 then s.countViolation p else s.discardFlit p

/-- A flit with credit is written to the queue; the last of its record leaves the record complete, with the outcome of
its CRC-32, to commit six cycles later (R77). -/
def State.storeFlit (s : State) (p : Nat) (f : Flit) : State :=
  let q := s.port p
  let len := if q.part.isEmpty then hdrFlits f else q.partLen
  let fl := q.part ++ [QFlit.ofFlit f]
  let q' := if fl.length = len then
      { q with part := [], partLen := 0, complete := q.complete ++ [(fl, recCrcOk (fl.map QFlit.flit))] }
    else { q with part := fl, partLen := len, viol := false }
  (s.put Reg.PRT_CREDIT_IN_HELD (s.get Reg.PRT_CREDIT_IN_HELD p - 1) p).setPort p q'

/-- DATA_FLIT (R77, R78, R81): counted as received, then stored, or discarded in resync, by framing, or without
credit. A port that is not UP receives none. -/
def doDataFlit (p : Fin 16) (f : Flit) (s : State) : State :=
  if s.portUp p = false then s
  else
    let q := s.port p
    let t := s.setPort p { q with link := { q.link with rxFlits := (q.link.rxFlits + 1) % 2 ^ 32 } }
    if t.flag Reg.PRT_STATUS_RESYNC p then t.dropFlit p
    else if 0 < q.skip then (t.dropFlit p).setPort p { (t.dropFlit p).port p with skip := q.skip - 1 }
    else if t.get Reg.PRT_CREDIT_IN_HELD p = 0 then t.creditViolation p f
    else t.storeFlit p f

/-- DATA_FLIT: a received data flit is written to the ingress queue, or discarded in resync (R77). -/
def execDataFlit (p : Fin 16) (f : Flit) (s : State) : Host.Outcome State Fault Refusal := .next (doDataFlit p f s)

/-! ## RECORD_COMMIT -/

/-- Admission of a record stamped `st` against the open tick k: the tick it is admitted to, and whether it is beyond
AHEAD_MAX (the table of R47). -/
def admitTick (st k : Tick) (ahead : Nat) : Tick × Bool :=
  if tickLater st k then (if tickSub st k ≤ ahead then (st, false) else (k, true)) else (k, false)

/-- Count SEQ values skipped since the last committed record (R76). -/
def State.countGap (s : State) (p seq : Nat) : State :=
  let q := s.port p
  let t := s.setPort p { q with prevSeq := some seq }
  match q.prevSeq with
  | none => t
  | some prev => t.bump Reg.PRT_CNT_SEQGAP_COUNT ((seq + 2 * 2 ^ 16 - prev - 1) % 2 ^ 16) p

/-- The open tick: the one whose admission close is the first after now (R47). -/
def State.openTickNo (s : State) : Tick := if s.clock < s.tick.last + s.guardCycles then s.tick.plan else s.tick.now

/-- The device admits records now (R47, R61). -/
def State.admitting (s : State) : Bool := s.mode == .service && s.tick.open_

/-- A committed record's admission: against the open tick while admission is open, otherwise left for the first
plan after it opens (R45, R47). -/
def State.admitRecord (s : State) (p : Nat) (fl : List QFlit) : State :=
  let st := recStamp (fl.map QFlit.flit)
  let a := admitTick st s.openTickNo (s.get Reg.TCK_AHEAD_AHEAD_MAX)
  let adm := if s.admitting then some a.1 else none
  let t := s.setPort p { s.port p with queue := (s.port p).queue ++ [{ flits := fl, admitAt := adm }] }
  if s.admitting && a.2 then (t.bump Reg.TCK_CNT_AHEAD_COUNT).raiseRate Ev.STAMP_RANGE else t

/-- A record whose last flit has arrived is discarded with its credits returned. -/
def State.dropRecord (s : State) (p n : Nat) : State := s.returnCredits p n

/-- The commit of a record of port p (R77): rewound on a bad CRC-32, committed and discarded at once on a parity
error in its header words (R86; such a record counts in PRT_CNT_RECORDS and is not the previous record of the SEQ check, DESIGN CHOICE,
notes/assumptions/112.md), discarded during entry to dormancy (R378) and by a joining target before J (R330), else committed. -/
def State.commitRecord (s : State) (p : Nat) (fl : List QFlit) (crcOk : Bool) : State :=
  let r := fl.map QFlit.flit
  if crcOk = false then s.rewound p fl.length
  else if headBad fl then
    (((s.bump Reg.PRT_CNT_RECORDS_COUNT 1 p).dropRecord p fl.length).bump Reg.PRT_CNT_POISON_COUNT 1 p).raiseEp (Ev.POISON p)
  else
    let t := (s.bump Reg.PRT_CNT_RECORDS_COUNT 1 p).countGap p (recSeq r)
    if s.dorm.phase = .entering then t
    else if s.seam.pair = .target ∧ (match s.seam.joinAt with | none => true | some j => tickLater j (recStamp r)) = true then
      (t.dropRecord p fl.length).bump Reg.SEAM_CNT_SYNC_DROP_COUNT
    else t.admitRecord p fl

/-- RECORD_COMMIT of the oldest record of port p that is complete. -/
def doRecordCommit (p : Fin 16) (s : State) : State :=
  let q := s.port p
  match q.complete with
  | [] => s
  | (fl, ok) :: rest => (s.setPort p { q with complete := rest }).commitRecord p fl ok

/-- RECORD_COMMIT: six core cycles after its last flit, a record commits on a good CRC-32 or is rewound (R77). -/
def execRecordCommit (p : Fin 16) (s : State) : Host.Outcome State Fault Refusal := .next (doRecordCommit p s)

/-! ## CREDIT and SYNC -/

/-- CREDIT (R80, R83): the difference from the previous CUM comes back as transmit credits, used from the next
boundary (R93); on the seam messages that wait leave at once (R310). Cascade ports use none (R337). -/
def doCredit (l : Link) (f : Flit) (s : State) : State :=
  match l with
  | .up | .down => s
  | .port _ | .seam =>
    let k := s.link l
    if k.st ≠ .up ∨ Lf.kind f ≠ kCredit then s
    else
      let d := (Lf.cum f + 2 ^ 32 - k.cumRx) % 2 ^ 32
      match l with
      | .seam => (s.setLink l { k with cumRx := Lf.cum f }).seamCredit d
      | _ => s.setLink l { k with cumRx := Lf.cum f, newCredit := k.newCredit + d }

/-- CREDIT: a CREDIT link flit returns transmit credits as the difference from the previous CUM (R80). -/
def execCredit (l : Link) (f : Flit) (s : State) : Host.Outcome State Fault Refusal := .next (doCredit l f s)

/-- The flits a SYNC shows lost: d = CUM_SENT − flits received, none where d is 0 or 2^31 or more (R82). -/
def syncLost (cumSent rx : Nat) : Nat :=
  let d := (cumSent + 2 ^ 32 - rx % 2 ^ 32) % 2 ^ 32
  if d < 2 ^ 31 then d else 0

/-- SYNC (R82): the credits of lost flits are taken as spent and returned, so IN_HELD stays and CUM rises; the count
of flits received becomes CUM_SENT; the port leaves resync and expects a header flit (R78). -/
def doSync (l : Link) (f : Flit) (s : State) : State :=
  match l with
  | .up | .down => s
  | .port _ | .seam =>
    let k := s.link l
    if k.st ≠ .up ∨ Lf.kind f ≠ kSync then s
    else
      let d := syncLost (Lf.cumSent f) k.rxFlits
      let k' := { k with rxFlits := Lf.cumSent f, cumTx := (k.cumTx + d) % 2 ^ 32, sinceCredit := k.sinceCredit + d }
      let t := s.setLink l k'
      let u := if 256 ≤ k'.sinceCredit then t.sendCredit l else t
      match l with
      | .port p =>
        if u.flag Reg.PRT_STATUS_RESYNC p then
          (u.put Reg.PRT_STATUS_RESYNC 0 p).setPort p { u.port p with skip := 0, viol := false }
        else u
      | _ => u

/-- SYNC: a SYNC link flit ends resync and reconciles lost credits (R82). -/
def execSync (l : Link) (f : Flit) (s : State) : Host.Outcome State Fault Refusal := .next (doSync l f s)

/-! ## ALIGN, reserved kinds, uncorrectable codewords -/

/-- ALIGN (R66): the far end's count on a lane holds deskew. -/
def doAlign (l : Link) (lane : Nat) (f : Flit) (s : State) : State :=
  let k := s.link l
  if Lf.kind f ≠ kAlign then s else s.setLink l { k with alignRx := k.alignRx.set lane (Lf.count f) }

/-- ALIGN: an ALIGN link flit holds lane deskew (R66). -/
def execAlign (l : Link) (lane : Nat) (f : Flit) (s : State) : Host.Outcome State Fault Refusal := .next (doAlign l lane f s)

/-- A link's transmitter is out of electrical idle: in training and in UP (R66, R71). -/
def LState.sending : LState → Bool
  | .seek | .lock | .align | .hello | .up => true
  | .disabled | .selftest => false

/-- ALIGN_TRANSMIT (R66): after every 16,384 flits of a lane, in training and in UP, the flit goes out on it. COUNT takes in the flit that
is sent, and starts anew with each training (DESIGN CHOICE, notes/assumptions/110.md). -/
def doAlignTransmit (l : Link) (lane : Nat) (s : State) : State :=
  let k := s.link l
  let n := k.alignTx.getD lane 0 + 1
  if k.st.sending = false ∨ s.laneFlits l < 16384 * n then s
  else (s.emit (.link l lane (LinkFlit.align lane n).flit)).setLink l { k with alignTx := k.alignTx.set lane n }

/-- ALIGN_TRANSMIT: after 16,384 flits on a transmit lane, the device sends ALIGN and advances its COUNT (R66). -/
def execAlignTransmit (l : Link) (lane : Nat) (s : State) : Host.Outcome State Fault Refusal :=
  .next (doAlignTransmit l lane s)

/-- The kinds of Table 3-2 that are valid toward the device on a link: on a port those of direction "both" and SYNC; on
the seam TICK as well (R310); on a cascade port no CREDIT and no SYNC (R337). -/
def kindValid (l : Link) (kind : Nat) : Bool :=
  match l with
  | .port _ => kind == 0 || kind == 1 || kind == 2 || kind == 4 || kind == 5
  | .seam => kind == 0 || kind == 1 || kind == 2 || kind == 3 || kind == 4 || kind == 5
  | .up | .down => kind == 0 || kind == 1 || kind == 3 || kind == 4

/-- RESERVED_LINK_FLIT (R73): ignored and, on a port, counted in PRT_CNT_BADLINK. -/
def doReservedLinkFlit (l : Link) (f : Flit) (s : State) : State :=
  match l with
  | .port p => if kindValid l (Lf.kind f) then s else s.bump Reg.PRT_CNT_BADLINK_COUNT 1 p
  | .seam | .up | .down => s

/-- RESERVED_LINK_FLIT: a link flit of a reserved or wrong-direction kind is ignored and counted (R73). -/
def execReservedLinkFlit (l : Link) (f : Flit) (s : State) : Host.Outcome State Fault Refusal :=
  .next (doReservedLinkFlit l f s)

/-- Uncorrectable codewords of a lane among the last 10,000 before and at codeword number n (R70). -/
def LinkSt.window (k : LinkSt) (lane n : Nat) : Nat :=
  (k.uncorr.filter fun e => e.1 = lane ∧ n < e.2 + 10000).length

/-- UNCORRECTABLE_CODEWORD (R78): the record in reception is rewound, the port enters resync and asks for it. The
codeword's number on its lane is kept for the window of R70. -/
def doUncorrectableCodeword (l : Link) (lane ordinal : Nat) (s : State) : State :=
  let k := s.link l
  if k.st ≠ .up then s
  else
    let t := s.setLink l { k with uncorr := (lane, ordinal) :: k.uncorr.filter fun e => e.1 ≠ lane ∨ ordinal < e.2 + 10000 }
    match l with
    | .port p =>
      (((t.bump Reg.PRT_CNT_FEC_UNCORR_COUNT 1 p).rewindPart p).put Reg.PRT_STATUS_RESYNC 1 p).sendLink l .resyncReq
    | .seam => t.sendLink l .resyncReq
    | .up | .down => t

/-- UNCORRECTABLE_CODEWORD: an uncorrectable codeword rewinds the current record and enters resync (R78). -/
def execUncorrectableCodeword (l : Link) (lane ordinal : Nat) (s : State) : Host.Outcome State Fault Refusal :=
  .next (doUncorrectableCodeword l lane ordinal s)

end Sys2Proof.Machine
end

