-- ==== Sys2Proof/Machine/Rpt.lean ====
section
/-! DEFINITION. Site entries and the return-path table: reading a site at the plan (R107, R271, R272), buckets and
entries (R273), and the changes applied at a boundary (R275 to R281). -/

namespace Sys2Proof.Machine

/-! ## Buckets -/

/-- H(T) = T[13:0] XOR (T[23:14] followed by four zeros) (R273). -/
def rptBucket (tag : Nat) : Nat := (tag % 2 ^ 14) ^^^ ((tag >>> 14) % 2 ^ 10 * 16)

/-- Replace the return-path table. -/
def State.setRpt (s : State) (l : List RptEntry) : State := { s with rpt := l }

/-- The entry of a tag in the return-path table. -/
def State.rptEntry (s : State) (tag : Nat) : Option RptEntry := s.rpt.find? fun e => e.tag == tag

/-- An uncorrectable entry is removed when it is found, counted, and EV_RPT_UNCORR raised (R273). -/
def State.rptScrub (s : State) (tag : Nat) : State :=
  let b := rptBucket tag
  let n := (s.rpt.filter fun e => e.bucket == b && e.bad).length
  if n = 0 then s
  else ((s.setRpt (s.rpt.filter fun e => !(e.bucket == b && e.bad))).bump Reg.RPT_CNT_UNCORR_COUNT n).raise Ev.RPT_UNCORR

/-- The lowest way of a bucket that holds no entry. -/
def State.freeWay (s : State) (b : Nat) : Option Nat :=
  (List.range 4).find? fun w => !s.rpt.any fun e => e.bucket == b && e.way == w

/-! ## Changes at a boundary (R280) -/

/-- Learning of (tag, port) by the plan of tick n (the table of R275, R277). -/
def State.rptLearn (s : State) (tag port : Nat) (n : Tick) : State :=
  let s := s.rptScrub tag
  match s.rptEntry tag with
  | some e =>
    if e.port = port then
      (s.setRpt (s.rpt.map fun x => if x.tag = tag then { x with last := n } else x))
    else if e.static then s.bump Reg.RPT_CNT_STATIC_HOLD_COUNT
    else (s.setRpt (s.rpt.map fun x => if x.tag = tag then { x with port := port, last := n } else x)).bump
      Reg.RPT_CNT_MOVE_COUNT
  | none =>
    match s.freeWay (rptBucket tag) with
    | some w => (s.setRpt (s.rpt ++ [⟨rptBucket tag, w, tag, port, false, n, false⟩])).bump Reg.RPT_CNT_LEARN_COUNT
    | none => ((s.bump Reg.RPT_CNT_INS_FAIL_COUNT).put Reg.RPT_STATUS_INS_FAIL 1).raiseEp Ev.RPT_INSERT_FAIL

/-- A static write of (tag, port) (R281): a free way, else the dynamic entry of the bucket with the oldest LAST, else
none. A new entry's LAST, which no plan has set, is a free value. The second part is RESULT: 0 done, 1 no room. -/
def State.rptStaticPut (s : State) (tag port : Nat) : State × Nat :=
  let s := s.rptScrub tag
  let b := rptBucket tag
  match s.rptEntry tag with
  | some _ => ((s.setRpt (s.rpt.map fun x => if x.tag = tag then { x with port := port, static := true } else x)), 0)
  | none =>
    match s.freeWay b with
    | some w => ((s.setRpt (s.rpt ++ [⟨b, w, tag, port, true, s.peek % 2 ^ 48, false⟩])).drawn, 0)
    | none =>
      let dyn := s.rpt.filter fun e => e.bucket == b && !e.static
      match dyn.foldl (fun best e => match best with
          | none => some e
          | some x => if tickLater x.last e.last ∨ (x.last = e.last ∧ e.way < x.way) then some e else some x) none with
      | some e =>
        ((s.setRpt ((s.rpt.filter fun x => x ≠ e) ++ [⟨b, e.way, tag, port, true, s.peek % 2 ^ 48, false⟩])).drawn.bump
          Reg.RPT_CNT_EVICT_COUNT, 0)
      | none => (s, 1)

/-! ## Reading a site entry at the plan -/

/-- How a record's site entry answers at its plan. -/
inductive SiteRead where
  | off | uncorr | live (handle : Nat)
  deriving DecidableEq, Repr

/-- The entry of site n as it stood at the start of the tick that is planned (R107, R271, R272). -/
def State.readSite (s : State) (n : Nat) : SiteRead :=
  let e := s.site n
  if e.eccBefore = .double then .uncorr
  else if St.en e.before = false ∨ St.handle e.before = 0 then .off
  else .live (St.handle e.before)

/-- A single error found in a site entry is corrected in place and counted (R272). -/
def State.fixSite (s : State) (n : Nat) : State :=
  let e := s.site n
  if e.eccBefore = .single then
    (s.setSite n { e with eccBefore := .clean, ecc := if e.ecc = .single then .clean else e.ecc }).bump
      Reg.RPT_CNT_SITE_CORR_COUNT
  else s

end Sys2Proof.Machine
end

