-- ==== Sys2Proof/Machine/Verdicts.lean ====
section
/-! DEFINITION. Verdicts: their flits (R90), flit slots (R89, R92), captures (R93, R118, R428, R429), digest terms
(R315 to R318), release (R60, R103, R323), and the transmission of captures and control copies. -/

namespace Sys2Proof.Machine

/-! ## The verdict flit (Table 3-4) -/

/-- STATUS(i), ENTRY(i) and DATA(i) in their 50 bits. -/
def Result.bits50 (r : Result) : Nat := r.status % 16 + r.entry % 2 ^ 24 * 2 ^ 4 + r.data % 2 ^ 22 * 2 ^ 28

/-- Four results from bit 56 on. -/
def resultsNat : Nat → List Result → Nat
  | _, [] => 0
  | i, r :: t => r.bits50 * 2 ^ (56 + 50 * i) + resultsNat (i + 1) t

/-- The verdict flit of Table 3-4. -/
def verdictFlit (handle seq stamp : Nat) (late poison : Bool) (rs : List Result) : Flit :=
  BitVec.ofNat 256 (handle % 2 ^ 16 + seq % 2 ^ 16 * 2 ^ 16 + stamp % 2 ^ 22 * 2 ^ 32 + (if late then 2 ^ 54 else 0) +
    (if poison then 2 ^ 55 else 0) + resultsNat 0 (rs.take 4))

/-- Four CLOSED results (R103, R104, R271). -/
def closedResults : List Result := List.replicate 4 { status := Vs.CLOSED }

/-! ## Flit slots (R89, R92) -/

/-- The cycle at which flit slot k of a tick starts: ceil(3.2 k). -/
def slotStart (k : Nat) : Nat := ceilDiv (16 * k) 5

/-- The first flit slot that starts at or after cycle j. -/
def slotFrom (j : Nat) : Nat := if j = 0 then 0 else 5 * (j - 1) / 16 + 1

/-- The verdicts of a port and tick, (anchor j, record) in the order of R60, in the first free slots from `next` on, each
at or after its anchor; none when one would not start before the end of a tick of p cycles (R92). -/
def placeVerdicts (p : Nat) : Nat → List (Nat × Nat) → Option (List (Nat × Nat))
  | _, [] => some []
  | next, (j, i) :: t =>
    let k := max next (slotFrom j)
    if slotStart k < p then
      match placeVerdicts p (k + 1) t with
      | some l => some ((i, k) :: l)
      | none => none
    else none

/-- Insert a verdict in the order of j, after the ones planned before it with the same j (R60). -/
def insertVerdict (j i : Nat) : List (Nat × Nat) → List (Nat × Nat)
  | [] => [(j, i)]
  | (j', i') :: t => if j' ≤ j then (j', i') :: insertVerdict j i t else (j, i) :: (j', i') :: t

/-! ## Captures -/

/-- Flits of the capture buffer in use: F + 1 for a capture of F (R93). -/
def PortSt.capFlits (q : PortSt) : Nat := (q.capBuf.map fun c => c.flits.length + 1).sum

/-- Words of a capture of F flits in a capture queue (R429). -/
def capWords (f : Nat) : Nat := 1 + ceilDiv (256 * f) 56

/-- The words of Table 16-8. -/
def captureWords (c : Capture) : List (BitVec 64) :=
  let n := recNat c.flits
  BitVec.ofNat 64 (2 ^ 63 + 2 ^ 62 + c.srcPort % 16 * 2 ^ 52 + (c.flits.length - 1) % 4 * 2 ^ 50 + c.tick % 2 ^ 48) ::
    (List.range (capWords c.flits.length - 1)).map fun i =>
      BitVec.ofNat 64 (2 ^ 63 + (i + 1) * 2 ^ 56 + (n >>> (56 * i)) % 2 ^ 56)

/-- The capture queue bound to a port: the lowest-numbered one in MODE 1 or 2, or in a reserved mode none (R428). -/
def State.capQueue (s : State) (p : Nat) : Option Nat :=
  (List.range 8).find? fun q =>
    s.get Reg.QUE_CAP_CTRL_PORT q == p && (s.get Reg.QUE_CAP_CTRL_MODE q == 1 || s.get Reg.QUE_CAP_CTRL_MODE q == 2)

/-- Words held by capture queue q. -/
def State.capFill (s : State) (q : Nat) : Nat := (fgetD s.host.capq q []).length

/-- Write a capture to queue q; false in the second part when it was dropped for room (R428). -/
def State.queueCapture (s : State) (q : Nat) (c : Capture) : State × Bool :=
  let old := fgetD s.host.capq q []
  if old.length + capWords c.flits.length ≤ 16384 then
    let t := if old.isEmpty then s.setIdle q { s.idle q with from_ := s.clock } else s
    ({ t with host := { t.host with capq := fset t.host.capq q [] (old ++ captureWords c) } }, true)
  else ((s.bump Reg.QUE_CAP_CNT_DROP_COUNT 1 q).raiseEp (Ev.CAPQ_FULL q), false)

/-- Take a capture into a port's capture buffer, or drop it and count it (R93). -/
def State.bufferCapture (s : State) (p : Nat) (c : Capture) : State × Bool :=
  let q := s.port p
  if s.portUp p && decide (q.capFlits + c.flits.length + 1 ≤ 1024) then
    (s.setPort p { q with capBuf := q.capBuf ++ [c] }, true)
  else (s.bump Reg.PRT_CNT_CAPDROP_COUNT 1 p, false)

/-- A capture is requested for port p (R93, R428). -/
def State.requestCapture (s : State) (p : Nat) (c : Capture) : State :=
  if s.flag Reg.PRT_CTRL_CAPTURE_EN p = false then s.bump Reg.PRT_CNT_CAPDROP_COUNT 1 p
  else match s.capQueue p with
    | none => (s.bufferCapture p c).1
    | some q =>
      if s.get Reg.QUE_CAP_CTRL_MODE q = 1 then
        let r := s.queueCapture q c
        if r.2 then r.1 else r.1.bump Reg.PRT_CNT_CAPDROP_COUNT 1 p
      else
        let r := s.bufferCapture p c
        if r.2 then (r.1.queueCapture q c).1 else r.1

/-- The capture rule of a channel (R118). -/
def captureWanted (egress : BitVec 64) (poison : Bool) (rs : List Result) : Bool :=
  Eg.capAll egress || (Eg.capPoison egress && poison) ||
    rs.any fun r => decide (r.status < 10) && (Eg.capStatus egress).testBit r.status

/-! ## Digest terms -/

/-- A result after Table 11-3, where `w` is the lookup whose table the field answers for. -/
def normalResult (learn count : Bool) (inLearn : Nat → Bool) (r : Result) : Result :=
  if learn = false then r
  else if r.spill.isSome then { status := Vs.NOT_SEARCHED }
  else if r.status = Vs.NEW ∨ r.status = Vs.LEARN_FULL then { status := Vs.MISS }
  else if (r.status = Vs.HIT ∨ r.status = Vs.MULTI) ∧ inLearn r.entry = true then { status := Vs.MISS }
  else if count then { r with data := 0 }
  else r

/-- The results of a record as its digest term takes them. -/
def State.normalResults (s : State) (pl : Planned) : List Result :=
  (pl.results.zipIdx).map fun (r, i) =>
    let w := pl.lookups.getD (r.spill.getD i) {}
    match if w.act = .search then s.table w.tbl else none with
    | none => r
    | some t => normalResult t.learnEn (t.rmode == 2) t.inLearn r

/-- The term of a record: CRC-64 of its normalised verdict flit and a byte with its arrival port, low 32 bits (R316). -/
def State.term (s : State) (pl : Planned) : BitVec 32 :=
  let f := verdictFlit pl.handle (recSeq pl.flits) (recStamp pl.flits) false pl.poison (s.normalResults pl)
  (crc64 (flitBytes f ++ [BitVec.ofNat 8 (pl.port % 16)])).setWidth 32

/-- What a record adds to ANOM (R318). -/
def State.anomOf (s : State) (pl : Planned) : BitVec 4 :=
  let unc : Bool := pl.results.any fun r => r.status == Vs.UNCERTAIN || r.status == Vs.CASCADE_GAP
  let deg : Bool := pl.lookups.any fun w => w.act == .search && (match s.table w.tbl with | some t => t.degraded | none => false)
  BitVec.ofNat 4 ((if pl.poison then 1 else 0) + (if unc then 2 else 0) + (if deg then 4 else 0) +
    (if pl.tick = recStamp pl.flits then 0 else 8))

/-- Add a term to the running digest of a channel slot and stamp. -/
def addDigest (l : List Dig) (stamp slot port : Nat) (h : BitVec 32) (n : Nat) (a : BitVec 4) : List Dig :=
  match l with
  | [] => [⟨stamp, slot, h, n, a, [port]⟩]
  | d :: t =>
    if d.stamp = stamp ∧ d.slot = slot then
      ⟨stamp, slot, d.hash ^^^ h, d.count + n, d.anom ||| a, port :: d.ports.filter (· != port)⟩ :: t
    else d :: addDigest t stamp slot port h n a

/-! ## Forming a verdict -/

/-- The verdict of a planned record is formed: its capture is decided (R118) and its digest term added (R316). -/
def State.formVerdict (s : State) (pl : Planned) : State × Planned :=
  let c := s.chan pl.chan
  let live : Bool := c.st == .live || c.st == .destroying
  let wanted := !pl.allClosed && live && captureWanted (c.egress) pl.poison pl.results
  let t := if wanted then s.requestCapture pl.capPort { srcPort := pl.port, tick := pl.admitAt, flits := pl.flits } else s
  let u := if pl.digested then
      { t with seam := { t.seam with
          digs := addDigest t.seam.digs (recStamp pl.flits) pl.chan pl.port (t.term pl) 1 (t.anomOf pl) } }
    else t
  (u, { pl with formed := true })

/-! ## VERDICT_RELEASE -/

/-- The tick in which a planned record's verdict leaves (R60, R322). -/
def State.releaseTick (s : State) (pl : Planned) : Tick := tickAdd pl.tick (s.lat + s.settle)

/-- The flit slot of a record's verdict on port p, where it has not left. -/
def Planned.slotOn (pl : Planned) (p : Nat) : Option Nat := (pl.dest.find? fun d => d.1 = p).map (·.2)

/-- The next verdict of port p in the tick in progress: its place in the list of planned records (R60). -/
def State.nextVerdict (s : State) (p : Nat) : Option Nat :=
  ((s.planned.zipIdx).foldl (fun best e =>
    if e.1.formed && (s.releaseTick e.1 == s.tick.now) then
      match e.1.slotOn p, best with
      | some k, none => some (k, e.2)
      | some k, some b => if k < b.1 then some (k, e.2) else some b
      | none, b => b
    else best) none).map (·.2)

/-- Checked release examines the comparison of a digested record (R323): the results that leave, and whether the record
counts as marked, or as unchecked. -/
def State.checkRelease (s : State) (pl : Planned) : List Result × Bool × Bool :=
  if (s.flag Reg.SEAM_CTRL_RELEASE && pl.digested) = false then (pl.results, false, false)
  else
    match s.seam.cmps.find? fun c => c.stamp = recStamp pl.flits ∧ c.group = pl.chan % 16 with
    | none => (pl.results, false, true)
    | some c =>
      if c.agreed || !s.flag Reg.SEAM_CTRL_MISMATCH_ACT then (pl.results, false, false)
      else (pl.results.map fun r => if r.status ≤ Vs.LEARN_FULL then { r with status := Vs.UNCERTAIN } else r, true, false)

/-- What the first copy of a verdict counts (Tables 2-1, 4-6). HIT and MISS are counted by the unmarked status, when the first
copy is sent, and a dropped verdict does not count (DESIGN CHOICE: notes/assumptions/123.md). -/
def State.countVerdict (s : State) (pl : Planned) (closed marked unchecked : Bool) : State :=
  let c := pl.chan
  let t := if pl.late then s.bump Reg.TCK_CNT_LATE_COUNT else s
  if pl.handle = 0 ∨ pl.orphan = true then t
  else
    let u := if pl.late then t.bump Reg.CHN_CNT_LATE_COUNT 1 c else t
    let v := if closed then u.bump Reg.CHN_CNT_CLOSED_COUNT 1 c else
      (pl.results.zipIdx).foldl (fun x (r, i) =>
        if r.spill.isSome then x
        else if r.status = Vs.HIT ∨ r.status = Vs.MULTI then x.bump Reg.CHN_CNT_HIT_COUNT 1 c i
        else if r.status = Vs.MISS then x.bump Reg.CHN_CNT_MISS_COUNT 1 c i else x) u
    let w := if marked then v.bump Reg.SEAM_CNT_MARKED_COUNT else v
    if unchecked then w.bump Reg.SEAM_CNT_UNCHECKED_COUNT else w

/-- The channel of a planned record is fenced, or its slot is no longer the record's (R103). -/
def State.fencedRecord (s : State) (pl : Planned) : Bool :=
  !pl.allClosed && (s.chan pl.chan).st == .fencing

/-- A copy of a planned record's verdict has left, or is dropped, on port p. -/
def Planned.without (pl : Planned) (p : Nat) : Planned := { pl with dest := pl.dest.filter fun d => d.1 ≠ p, counted := true }

/-- The verdict that leaves on port p, sent and counted. -/
def State.sendVerdict (s : State) (p : Nat) (pl : Planned) : State :=
  let closed := pl.allClosed || s.fencedRecord pl
  let r := s.checkRelease pl
  let rs := if closed then closedResults else r.1
  let f := verdictFlit pl.handle (recSeq pl.flits) (recStamp pl.flits) pl.late pl.poison rs
  let t := (s.emit (.verdict p (s.txLane (.port (Fin.ofNat 16 p))) f)).bump Reg.PRT_CNT_VERDICTS_COUNT 1 p
  if pl.counted then t else t.countVerdict pl closed (r.2.1 && !closed) (r.2.2 && !closed)

/-- VERDICT_RELEASE on port p: the next verdict of the tick in progress leaves. -/
def doVerdictRelease (p : Fin 16) (s : State) : State :=
  match s.nextVerdict p with
  | none => s
  | some i =>
    match s.planned[i]? with
    | none => s
    | some pl =>
      if s.portUp p = false then s
      else { s.sendVerdict p pl with planned := s.planned.set i (pl.without p) }

/-- VERDICT_RELEASE: a verdict flit leaves in its slot of tick n+L, or n+L+S in checked release (R60). -/
def execVerdictRelease (p : Fin 16) (s : State) : Host.Outcome State Fault Refusal := .next (doVerdictRelease p s)

/-! ## CAPTURE_TRANSMIT and CONTROL_COPY_SEND -/

/-- A CONTROL copy waits for port p. -/
def State.controlWaits (s : State) (p : Nat) : Bool := s.host.ctl.any fun c => c.copies.contains p

/-- CAPTURE_TRANSMIT on port p: the oldest capture goes, after every waiting CONTROL copy, when the credits for its
F + 1 flits are held, all of them at its start (R83, R93; DESIGN CHOICE, notes/assumptions/113.md). -/
def doCaptureTransmit (p : Fin 16) (s : State) : State :=
  let q := s.port p
  match q.capBuf with
  | [] => s
  | c :: rest =>
    let need := c.flits.length + 1
    if s.portUp p = false ∨ s.controlWaits p = true ∨ s.get Reg.PRT_CREDIT_OUT_HELD p < need then s
    else
      (((s.setPort p { q with capBuf := rest }).put Reg.PRT_CREDIT_OUT_HELD (s.get Reg.PRT_CREDIT_OUT_HELD p - need) p).emit
        (.capture p c))

/-- CAPTURE_TRANSMIT: a capture is sent in free slots (R93). -/
def execCaptureTransmit (p : Fin 16) (s : State) : Host.Outcome State Fault Refusal := .next (doCaptureTransmit p s)

/-- Take port p out of the first control message that waits for it. -/
def takeCopy (p : Nat) : List CtlOp → List CtlOp
  | [] => []
  | c :: t => if c.copies.contains p then { c with copies := c.copies.filter (· != p) } :: t else c :: takeCopy p t

/-- CONTROL_COPY_SEND on port p: the first CONTROL copy waiting for the port is sent for one transmit credit (R83, R283). -/
def doControlCopySend (p : Fin 16) (s : State) : State :=
  match s.host.ctl.find? fun c => c.copies.contains p.val with
  | none => s
  | some c =>
    if s.portUp p = false ∨ s.get Reg.PRT_CREDIT_OUT_HELD p = 0 then s
    else
      let t := (s.put Reg.PRT_CREDIT_OUT_HELD (s.get Reg.PRT_CREDIT_OUT_HELD p - 1) p).sendLink (.port p) (.control c.msg c.tag c.body)
      { t with host := { t.host with ctl := takeCopy p t.host.ctl } }.settleControl

/-- CONTROL_COPY_SEND: a CONTROL message copy is sent when a transmit credit and a free slot allow (R283). -/
def execControlCopySend (p : Fin 16) (s : State) : Host.Outcome State Fault Refusal := .next (doControlCopySend p s)

end Sys2Proof.Machine
end

