-- ==== Sys2Proof/Machine/Wrd.lean ====
section
/-! DEFINITION. Associated data and the wardrobe: sets and replacement (R250 to R252), fetches (R253), pins and held
tables (R255 to R258), changes to lines (R259 to R263), the staging buffer (R264), the hit-rate window (R266). -/

namespace Sys2Proof.Machine

/-! ## Geometry and replacement -/

/-- The set of line L: L[11:0] XOR (L[15:12], L[19:12]) (R250). -/
def wrdSet (l : Nat) : Nat := (l % 4096) ^^^ ((l / 4096) % 16 * 256 + (l / 4096) % 256)

/-- Set the wardrobe. -/
def State.setWrd (s : State) (w : Wardrobe) : State := { s with wrd := w }

/-- The way that holds a line, if any. -/
def Wardrobe.wayOf (w : Wardrobe) (l : Nat) : Option Way := w.ways.find? fun x => x.line == l

/-- The staged copy of a line. -/
def Wardrobe.stagedOf (w : Wardrobe) (l : Nat) : Option (BitVec 512) := (w.staging.find? fun x => x.1 == l).map (·.2)

/-- A line as the store holds it: 0 where nothing is listed. -/
def Wardrobe.stored (w : Wardrobe) (l : Nat) : BitVec 512 := fgetD w.store l 0

/-- A line as it stands, an uncorrectable store line read as `bad`. -/
def Wardrobe.read (w : Wardrobe) (bad : BitVec 512) (l : Nat) : BitVec 512 :=
  match w.wayOf l with
  | some x => x.data
  | none => match w.stagedOf l with
    | some x => x
    | none => if w.bad.contains l then bad else w.stored l

/-- A line as the host, a pin load or a partial write reads it: what an uncorrectable store line gives them is open
(notes/assumptions/8.md). -/
def Wardrobe.current (w : Wardrobe) (l : Nat) : BitVec 512 := w.read (Config.badLine l) l

/-- The tree bits after a use of way n: every bit on its path points away from it (R251). Node 1 is the root, way w the
leaf 16 + w; a bit of 1 points to the right. -/
def plruTouch : Nat → Nat → Nat → Nat
  | 0, _, b => b
  | f + 1, n, b =>
    let p := n / 2
    let b' := if n % 2 = 0 then (if b.testBit p then b else b + 2 ^ p) else (if b.testBit p then b - 2 ^ p else b)
    plruTouch f p b'

/-- The subtree of node n, `d` levels above the leaves, holds a way of the mask. -/
def plruHas : Nat → Nat → Nat → Bool
  | 0, n, m => m.testBit (n - 16)
  | d + 1, n, m => plruHas d (2 * n) m || plruHas d (2 * n + 1) m

/-- The way the tree points to among the ways of the mask (R251). -/
def plruWalk : Nat → Nat → Nat → Nat → Nat
  | 0, n, _, _ => n - 16
  | d + 1, n, b, m =>
    let want := 2 * n + (if b.testBit n then 1 else 0)
    let other := 2 * n + (if b.testBit n then 0 else 1)
    plruWalk d (if plruHas d want m then want else other) b m

/-- The allocation mask of a requester: its way mask and not LOCK; slot 0 stands for the host (R252). -/
def Wardrobe.mask (w : Wardrobe) (slot : Nat) : Nat :=
  (List.range 16).foldl (fun m i => if (fgetD w.masks slot 0xFFFF).testBit i && !w.lock.testBit i then m + 2 ^ i else m) 0

/-- Use of a way: its path in the tree of its set. -/
def Wardrobe.touch (w : Wardrobe) (set way : Nat) : Wardrobe :=
  { w with plru := fset w.plru set 0 (plruTouch 4 (16 + way) (fgetD w.plru set 0)) }

/-- The way a fill takes in a set under a mask: the lowest invalid way, else the tree's choice (R251). -/
def Wardrobe.victim (w : Wardrobe) (set m : Nat) : Option Nat :=
  if m = 0 then none
  else match (List.range 16).find? fun i => m.testBit i && !w.ways.any fun x => x.set == set && x.way == i with
    | some i => some i
    | none => some (plruWalk 4 1 (fgetD w.plru set 0) m)

/-- The clean or invalid ways of a mask in a set. -/
def Wardrobe.cleanMask (w : Wardrobe) (set m : Nat) : Nat :=
  (List.range 16).foldl (fun a i => if m.testBit i && !w.ways.any fun x => x.set == set && x.way == i && x.dirty then a + 2 ^ i else a) 0

/-- The staging buffer of 16,384 lines can take a line: it has room, or holds a copy of that line (R264). -/
def Wardrobe.canStage (w : Wardrobe) (l : Nat) : Bool := decide (w.staging.length < 16384) || w.staging.any fun x => x.1 == l

/-- Put a dirty line into the staging buffer, replacing a staged copy of the same line. -/
def Wardrobe.stage (w : Wardrobe) (l : Nat) (v : BitVec 512) : Wardrobe :=
  if w.staging.any fun x => x.1 == l then { w with staging := w.staging.map fun x => if x.1 = l then (l, v) else x }
  else { w with staging := w.staging ++ [(l, v)] }

/-- A dirty line is to be written to the store: it is staged, at once or when the buffer has room; its way stays dirty until the write
is done (R261, R264). -/
def Wardrobe.toStore (w : Wardrobe) (l : Nat) : Wardrobe :=
  match w.ways.find? fun x => x.line == l && x.dirty with
  | none => w
  | some x =>
    if w.canStage l then w.stage l x.data
    else if w.owing.contains l then w else { w with owing := w.owing ++ [l] }

/-- Empty a way: an evicted dirty line is staged (R264). -/
def State.evictWay (s : State) (set way : Nat) : State :=
  match s.wrd.ways.find? fun x => x.set == set && x.way == way with
  | none => s
  | some x =>
    let w := { s.wrd with ways := s.wrd.ways.filter (fun y => !(y.set == set && y.way == way)),
                          evictions := (s.tick.now, set) :: s.wrd.evictions }
    if x.dirty then (s.setWrd (w.stage x.line x.data)).bump Reg.WRD_CNT_EVICT_DIRTY_COUNT else s.setWrd w

/-- Install a line in a way. -/
def State.install (s : State) (way l : Nat) (v : BitVec 512) (dirty : Bool) : State :=
  let t := s.evictWay (wrdSet l) way
  let w : Wardrobe := { t.wrd with ways := t.wrd.ways ++ [⟨wrdSet l, way, l, v, dirty⟩] }
  t.setWrd (w.touch (wrdSet l) way)

/-- Fill a line for a requester (R251, R252, R264). The second part says whether it was installed. -/
def State.fill (s : State) (slot l : Nat) (v : BitVec 512) (dirty : Bool) : State × Bool :=
  let m := s.wrd.mask slot
  let full : Bool := decide (16384 ≤ s.wrd.staging.length)
  let m' := if full then s.wrd.cleanMask (wrdSet l) m else m
  match s.wrd.victim (wrdSet l) m' with
  | some i => (s.install i l v dirty, true)
  | none =>
    let t := s.bump Reg.WRD_CNT_BYPASS_COUNT
    if full && decide (m ≠ 0) then ((t.put Reg.WRD_STATUS_STAGING_FULL 1).raiseEp Ev.STAGING_FULL, false) else (t, false)

/-! ## Fetches (R253) -/

/-- Fills that are complete are installed, unless the line is there (R253). -/
def State.settleFills (s : State) : State :=
  (s.wrd.fills.filter fun f => decide (f.due ≤ s.clock)).foldl
    (fun (t : State) f => if (t.wrd.wayOf f.line).isSome then t else (t.fill f.slot f.line f.data false).1)
    (s.setWrd { s.wrd with fills := s.wrd.fills.filter fun f => decide (s.clock < f.due) })

/-- A fill starts; it completes `cycles` later (R253, R263). -/
def State.startFill (s : State) (slot l : Nat) (v : BitVec 512) (cycles : Nat) : State :=
  s.setWrd { s.wrd with fills := s.wrd.fills ++ [⟨l, slot, v, s.clock + cycles⟩] }

/-- A change reaches lines for which a fill is in flight: the fill is discarded (R263). -/
def State.discardFills (s : State) (reached : Nat → Bool) : State :=
  let n := (s.wrd.fills.filter fun f => reached f.line).length
  (s.setWrd { s.wrd with fills := s.wrd.fills.filter fun f => !reached f.line }).bump Reg.WRD_CNT_FILL_DISCARD_COUNT n

/-- A read from the store is corrected where the line has errors (R248). -/
def State.noteMarred (s : State) (l : Nat) : State := if s.wrd.marred.contains l then s.bump Reg.WRD_CNT_STORE_CORR_COUNT else s

/-- A fetch that finds a line uncorrectable (R248). -/
def State.storeUncorr (s : State) : State :=
  ((s.bump Reg.WRD_CNT_STORE_UNCORR_COUNT).put Reg.WRD_STATUS_STORE_UNCORR 1).raise Ev.STORE_UNCORR

/-- A fetch is counted in the window of R266. -/
def State.noteFetch (s : State) (hit : Bool) : State :=
  let t := (s.setWrd { s.wrd with fetches := (s.tick.now, hit) :: s.wrd.fetches }).bump Reg.WRD_CNT_FETCH_COUNT
  if hit then t.bump Reg.WRD_CNT_HIT_COUNT else t

/-- What a lookup planned in tick n sees of a line instead of its present contents: the earliest change after n (R259). -/
def Wardrobe.before (w : Wardrobe) (l : Nat) (n : Tick) : Option Retained :=
  w.retention.foldl (fun best r =>
    if r.line == l && tickLater r.at_ n then
      match best with
      | none => some r
      | some b => if tickLater b.at_ r.at_ then some r else some b
    else best) none

/-- The data fetch of a lookup planned in tick n by channel `slot`, which delivers `cycles` later: the line's contents, 0 where the store
line is uncorrectable (R248, R253). -/
def State.fetchLine (u : State) (slot l : Nat) (n : Tick) (cycles : Nat) : State × BitVec 512 :=
  let s := u.settleFills
  match s.wrd.before l n with
  | some r => if r.bad then ((s.noteFetch false).storeUncorr, 0) else (s.noteFetch true, r.data)
  | none =>
    match s.wrd.wayOf l with
    | some x => ((s.setWrd (s.wrd.touch x.set x.way)).noteFetch true, x.data)
    | none =>
      match s.wrd.stagedOf l with
      | some v => (((s.noteFetch false).bump Reg.WRD_CNT_STAGED_HIT_COUNT).startFill slot l v cycles, v)
      | none =>
        if s.wrd.bad.contains l then ((s.noteFetch false).storeUncorr, 0)
        else (((s.noteFetch false).noteMarred l).startFill slot l (s.wrd.stored l) cycles, s.wrd.stored l)

/-- Bits [dsel + 21 : dsel] of quarter q of a line (R116, R247). -/
def quarterBits (v : BitVec 512) (q dsel : Nat) : Nat := ((v.toNat >>> (128 * q)) % 2 ^ 128 >>> dsel) % 2 ^ 22

/-! ## Pins and held tables -/

/-- The lines of a pin. -/
def Pin.lines (p : Pin) : List Nat := (List.range p.count).map (p.base + ·)

/-- Locked ways. -/
def lockedWays (lock : Nat) : List Nat := (List.range 16).filter lock.testBit

/-- Pins in LOADING or HELD with their numbers. -/
def Wardrobe.active (w : Wardrobe) : List (Nat × Pin) := w.pins.filter fun p => p.2.st == .loading || p.2.st == .held

/-- The sets that need more locked ways than `k` for the lines of these pins (R255). -/
def conflictSets (ps : List Pin) (k : Nat) : List Nat :=
  let ls := (ps.flatMap Pin.lines).eraseDups
  (List.range 4096).filter fun set => decide (k < (ls.filter fun l => wrdSet l == set).length)

/-- A pin goes to CONFLICT (R255). -/
def State.pinConflict (s : State) (i : Nat) (p : Pin) (sets : List Nat) : State :=
  let t := s.setPin i { p with st := .conflict, loaded := false, read := 0 }
  ((((t.put Reg.WRD_PINC_CONF_SET (sets.headD 0) i).put Reg.WRD_PINC_CONF_SETS sets.length i).put Reg.WRD_STATUS_PIN_CONFLICT 1).raise
    Ev.PIN_CONFLICT)

/-- A load of pin i starts with the BASE, COUNT and TABLE then held (R255, R256). -/
def State.pinLoad (s : State) (i : Nat) : State :=
  let p : Pin := { st := .loading, base := s.get Reg.WRD_PIN_BASE i, count := s.get Reg.WRD_PIN_COUNT i, tbl := s.get Reg.WRD_PIN_TABLE i }
  if p.count = 0 ∨ 2 ^ 20 < p.base + p.count ∨ (s.table p.tbl).isNone = true then
    ((s.setPin i {}).put Reg.WRD_PINC_CONF_SETS 0 i).put Reg.WRD_STATUS_PIN_CONFLICT 1
  else
    let others := (s.wrd.active.filter fun e => e.1 ≠ i).map (·.2)
    let sets := conflictSets (others ++ [p]) (lockedWays s.wrd.lock).length
    if sets.isEmpty then s.setPin i p else s.pinConflict i p sets

/-- The line lies in a locked way. -/
def Wardrobe.inLocked (w : Wardrobe) (l : Nat) : Bool := match w.wayOf l with | some x => w.lock.testBit x.way | none => false

/-- A locked way of a line's set that a pin load may take: an empty one, else one whose line no active pin covers and which need not be
staged without room (R255, R264, notes/assumptions/9.md). -/
def Wardrobe.pinWay (w : Wardrobe) (l : Nat) : Option Nat :=
  let at_ := fun (i : Nat) => w.ways.find? fun y => y.set == wrdSet l && y.way == i
  let held := w.active.flatMap fun e => e.2.lines
  match (lockedWays w.lock).find? fun i => (at_ i).isNone with
  | some i => some i
  | none => (lockedWays w.lock).find? fun i => match at_ i with
    | some y => !held.contains y.line && (!y.dirty || w.canStage y.line)
    | none => false

/-- A line of a pin is read into a locked way of its set (R255). -/
def State.pinLine (s : State) (l : Nat) : State :=
  if s.wrd.inLocked l then s
  else match s.wrd.pinWay l with
    | none => s
    | some i =>
      match s.wrd.wayOf l with
      | some x => (s.setWrd { s.wrd with ways := s.wrd.ways.filter fun y => y.line ≠ l }).install i l x.data x.dirty
      | none => (s.noteMarred l).install i l (s.wrd.current l) false

/-- The lines of a pin are read into locked ways, from the first not yet reached up to line `upto` of the range (R255). -/
def State.pinInstall (s : State) (p : Pin) (upto : Nat) : State :=
  ((p.lines.take upto).drop p.read).foldl State.pinLine s

/-- Every line of a pin lies in a locked way. -/
def State.pinComplete (s : State) (p : Pin) : Bool := p.lines.all s.wrd.inLocked

/-- Requester 12 goes on with the loads: of each it has read some further lines, and not the last, since the last boundary. How many is
a free value (R255, notes/assumptions/3.md). -/
def State.pinProgress (s : State) : State :=
  if s.mode = .service ∧ s.mayWork 12 = true then
    (s.wrd.pins.filter fun e => e.2.st == .loading && !e.2.loaded && decide (e.2.read + 1 < e.2.count)).foldl (fun (t : State) e =>
      let n := e.2.read + t.peek % (e.2.count - e.2.read)
      (t.drawn.pinInstall e.2 n).setPin e.1 { e.2 with read := n }) s
  else s

/-- Entries of table t, as committed at the last boundary, whose line lies outside every active pin of the table (R257). -/
def State.outside (s : State) (t : Nat) : Nat :=
  let ps := (s.wrd.active.filter fun e => e.2.tbl = t).map (·.2)
  (s.rows.filter fun r => r.tbl == t && r.enabledAt s.tick.now &&
    !ps.any fun p => decide (p.base ≤ r.dref / 4) && decide (r.dref / 4 < p.base + p.count)).length

/-- Table t is held (R258). A pin that is OFF is no pin of its table (notes/assumptions/9.md). -/
def State.heldNow (s : State) (t : Nat) : Bool :=
  let ps := s.wrd.pins.filter fun e => e.2.st != .off && e.2.tbl == t
  !ps.isEmpty && (ps.all fun e => e.2.st == .held) && s.outside t == 0

/-- OUTSIDE of every table as it is now (R257). -/
def State.showOutside (s : State) : State := (List.range 64).foldl (fun x k => (x.put Reg.WRD_TBL_OUTSIDE (s.outside k) k)) s

/-- Which tables are held at this boundary, its commits and flips included (R257, R258). -/
def State.showHeld (s : State) : State :=
  (s.setWrd { s.wrd with held := (List.range 64).filter s.heldNow }).showOutside

/-- The lookups of a table planned now need no fetch: it is held, and its held state stood at the start of the tick planned (R254). -/
def State.heldAtPlan (s : State) (t : Nat) : Bool := s.wrd.heldBefore.contains t && s.heldNow t

/-! ## Changes at a boundary (R259 to R262) -/

/-- The retention buffer of 1,024 lines has room (R259). -/
def State.canRetain (s : State) : Bool := decide (s.wrd.retention.length < 1024)

/-- Keep the contents of a line until boundary k + L (R259). -/
def State.retain (s : State) (l : Nat) (k : Tick) : State :=
  let bad : Bool := (s.wrd.wayOf l).isNone && (s.wrd.stagedOf l).isNone && s.wrd.bad.contains l
  s.setWrd { s.wrd with retention := s.wrd.retention ++ [⟨l, s.wrd.read 0 l, k, tickAdd k s.lat, bad⟩] }

/-- Take the selected quarters of a line from data. -/
def mergeQuarters (old new : BitVec 512) (q : BitVec 4) : BitVec 512 :=
  (List.range 4).foldl (fun (a : BitVec 512) i =>
    if q.getLsbD i then
      let m : BitVec 512 := (BitVec.ofNat 512 (2 ^ 128 - 1)) <<< (128 * i)
      (a &&& ~~~m) ||| (new &&& m)
    else a) old

/-- A written line goes into its way, or fills the host's ways, and is dirty; one for which no way may be taken is staged (R252, R260,
R264). A durable write is then written to the store. -/
def State.writeLine (s : State) (l : Nat) (v : BitVec 512) (durable : Bool) : State :=
  let t : State := match s.wrd.wayOf l with
    | some x =>
      let w : Wardrobe := { s.wrd with ways := s.wrd.ways.map fun y => if y.line = l then { y with data := v, dirty := true } else y }
      s.setWrd (w.touch x.set x.way)
    | none =>
      let r := s.fill 0 l v true
      if r.2 then r.1 else r.1.setWrd (r.1.wrd.stage l v)
  if durable then t.setWrd (t.wrd.toStore l) else t

/-- A write finds a place: a way, or room in the staging buffer. Without one it waits for a later boundary (notes/assumptions/42.md). -/
def State.canWrite (s : State) (l : Nat) : Bool :=
  let m := s.wrd.mask 0
  (s.wrd.wayOf l).isSome || s.wrd.canStage l || s.wrd.cleanMask (wrdSet l) m != 0

/-- The lines of the wardrobe and the staging buffer within a range, ascending. -/
def Wardrobe.held_ (w : Wardrobe) (first count : Nat) : List Nat :=
  sortBy (· ≤ ·) (((w.ways.map (·.line)) ++ (w.staging.map (·.1))).eraseDups.filter fun l => decide (first ≤ l) && decide (l < first + count))

/-- A command waits until these lines are in the store; with none left it completes at this boundary (R260, R261). -/
def State.waitStore (s : State) (own : Option (Nat × Nat × Nat)) (lines : List Nat) : State :=
  match own with
  | none => s
  | some o =>
    if lines.isEmpty then s.owedReady o.1 o.2.1 o.2.2 Sts.SUCCESS
    else s.setWrd { s.wrd with wait := s.wrd.wait ++ [(o, lines)] }

/-- Commands that wait for lines wait for them no more: they are in the store, or discarded (R260, R261, notes/assumptions/42.md). -/
def State.storeDone (s : State) (gone : List Nat) : State :=
  let ws := s.wrd.wait.map fun e => (e.1, e.2.filter fun x => !gone.contains x)
  let done := ws.filter fun e => e.2.isEmpty
  let t := s.setWrd { s.wrd with wait := ws.filter fun e => !e.2.isEmpty }
  done.foldl (fun x e => x.owedReady e.1.1 e.1.2.1 e.1.2.2 Sts.SUCCESS) t

/-- A range of lines holds a line of a pin. -/
def Pin.covers (p : Pin) (ls : List Nat) : Bool := ls.any fun l => decide (p.base ≤ l) && decide (l < p.base + p.count)

/-- Pins whose line an invalidation reached in a locked way go back to LOADING, one that waits to become HELD among them, and reload
(R262). -/
def State.dropPins (s : State) (lines : List Nat) : State :=
  (s.wrd.pins.filter fun e => (e.2.st == .held || e.2.st == .loading) && e.2.covers lines).foldl
    (fun t e =>
      let u := t.setPin e.1 { e.2 with st := .loading, loaded := false, read := 0 }
      if e.2.st = .held then u.raise Ev.PIN_DROPPED else u) s

/-- Invalidate lines in the wardrobe (R261, R262). -/
def State.invalidate (s : State) (ls : List Nat) : State :=
  let locked := (s.wrd.ways.filter fun x => ls.contains x.line && s.wrd.lock.testBit x.way).map (·.line)
  (s.setWrd { s.wrd with ways := s.wrd.ways.filter fun x => !ls.contains x.line }).dropPins locked

/-- Lines with contents that the store does not have. -/
def Wardrobe.dirtyLines (w : Wardrobe) : List Nat := ((w.ways.filter (·.dirty)).map (·.line) ++ w.staging.map (·.1)).eraseDups

/-- INVAL of lines: dirty contents are discarded and counted, in the wardrobe and the staging buffer; nothing waits for them any more
(R261). -/
def State.opInval (s : State) (ls : List Nat) : State :=
  let lost := s.wrd.dirtyLines.filter ls.contains
  let t := (s.invalidate ls).bump Reg.WRD_CNT_DIRTY_LOST_COUNT lost.length
  (t.setWrd { t.wrd with staging := t.wrd.staging.filter fun x => !ls.contains x.1, owing := t.wrd.owing.filter fun l => !ls.contains l,
                         flushing := t.wrd.flushing.filter fun l => !ls.contains l }).storeDone lost

/-- CLEAN of lines: their dirty contents go to the store (R261). -/
def State.opClean (s : State) (ls : List Nat) : State := s.setWrd (ls.foldl Wardrobe.toStore s.wrd)

/-- FLUSH of lines: as CLEAN; the clean ones are invalidated, the dirty ones once they are in the store (R261). -/
def State.opFlush (s : State) (ls : List Nat) : State :=
  let dirty := s.wrd.dirtyLines
  let t := (s.opClean ls).invalidate (ls.filter fun l => !dirty.contains l)
  t.setWrd { t.wrd with flushing := (t.wrd.flushing ++ ls.filter dirty.contains).eraseDups }

/-- Retained copies that an operation reaches and that are no older than the line itself are dropped: the line is read from where it
lies (R261, notes/assumptions/42.md). -/
def State.dropCurrent (s : State) (first count : Nat) : State :=
  s.setWrd { s.wrd with retention := s.wrd.retention.filter fun r =>
    !(decide (first ≤ r.line) && decide (r.line < first + count) && r.data == s.wrd.read 0 r.line &&
      !s.wrd.retention.any fun q => q.line == r.line && q.data != r.data) }

/-- An operation of R261 at boundary k: the lines that it changes go as far as the retention buffer has room, the rest is carried to the
next boundary (R259). -/
def State.applyOp (s : State) (k : Tick) (kind first count : Nat) (lines : List Nat) : State × Option WrdChange × List Nat :=
  let ls := s.wrd.held_ first count
  let now := if kind = 1 then ls else ls.take (1024 - s.wrd.retention.length)
  let t := (if kind = 1 then s else now.foldl (fun x l => x.retain l k) s)
  let owed := lines ++ (if kind = 0 then [] else now.filter s.wrd.dirtyLines.contains)
  let next := match ls.drop now.length with | [] => first + count | l :: _ => l
  let u := (if kind = 0 then t.opInval now else if kind = 1 then t.opClean now else t.opFlush now).discardFills fun l =>
    decide (first ≤ l) && decide (l < next)
  if ls.length ≤ now.length then (if kind = 1 then u else u.dropCurrent first count, none, owed)
  else (u, some (.op kind next (first + count - next) owed), owed)

/-- One change at boundary k, and what of it is carried to the next boundary (R259). -/
def State.applyChange (s : State) (k : Tick) (c : WrdChange) (own : Option (Nat × Nat × Nat)) : State × Option WrdChange :=
  match c with
  | .write l q v durable =>
    if s.canRetain && s.canWrite l then
      let t := ((s.retain l k).writeLine l (mergeQuarters (s.wrd.current l) v q) durable).discardFills (· == l)
      (t.waitStore own (if durable then [l] else []), none)
    else (s, some c)
  | .op kind first count lines =>
    let r := s.applyOp k kind first count lines
    match r.2.1 with
    | some c' => (r.1, some c')
    | none => (r.1.waitStore own (r.2.2.filter fun l => r.1.wrd.dirtyLines.contains l), none)
  | .flushed l =>
    if s.wrd.dirtyLines.contains l then (s, none)
    else if s.canRetain then ((s.retain l k).invalidate [l], none)
    else (s, some c)

/-- A change waits for the agreed boundary of its mirrored operation (R324). -/
def State.changeHeld (s : State) (mid : Option Nat) : Bool :=
  match mid with
  | none => false
  | some i => s.seam.ops.any fun m => m.key == i

/-- The wardrobe changes due at boundary k, in order (R259). -/
def State.applyChanges (s : State) (k : Tick) : State :=
  let t := s.setWrd { s.wrd with changes := [], retention := s.wrd.retention.filter fun r => tickLater r.until_ k }
  s.wrd.changes.foldl (fun x c =>
    if x.changeHeld c.2.1 then x.setWrd { x.wrd with changes := x.wrd.changes ++ [c] }
    else
      let r := x.applyChange k c.1 c.2.2
      match r.2 with
      | none => r.1
      | some d => r.1.setWrd { r.1.wrd with changes := r.1.wrd.changes ++ [(d, c.2)] }) t

/-- LOCK in force becomes the register's value; the pins are counted again in ascending order (R252, R255). -/
def State.applyLock (s : State) : State :=
  let new := s.get Reg.WRD_CTRL_LOCK
  if new = s.wrd.lock then s
  else
    let t := s.setWrd { s.wrd with lock := new }
    (t.wrd.active.foldl (fun (x : State × List Pin) e =>
      let sets := conflictSets (x.2 ++ [e.2]) (lockedWays new).length
      if sets.isEmpty then (x.1, x.2 ++ [e.2]) else (x.1.pinConflict e.1 e.2 sets, x.2)) (t, [])).1

/-- Pins at a boundary: loaded pins become HELD, pins whose EN was written 0 return to OFF (R255). -/
def State.applyPins (s : State) : State :=
  s.wrd.pins.foldl (fun t e =>
    if e.2.offDue then t.setPin e.1 {}
    else if e.2.st = .loading ∧ e.2.loaded = true then t.setPin e.1 { e.2 with st := .held }
    else t) s

/-- The wardrobe's work at boundary k: changes, LOCK and the masks, pins, held tables (R252, R255, R257 to R259). -/
def State.wardrobeBoundary (s : State) (k : Tick) : State :=
  let masks := (List.range 256).foldl (fun (m : FMap Nat) c => fset m c 0xFFFF (s.get Reg.WRD_WAYS_MASK c)) []
  let t := (s.settleFills.applyChanges k).applyPins.applyLock
  (t.setWrd { t.wrd with masks := masks, heldBefore := t.wrd.held }).pinProgress.showHeld

/-- The hit-rate window of 1,024 ticks (R266). -/
def State.hitWindow (s : State) : State :=
  let near := fun t : Tick => decide (tickSub s.tick.now t ≤ 1024)
  let w : Wardrobe := { s.wrd with fetches := s.wrd.fetches.filter (fun f => near f.1), evictions := s.wrd.evictions.filter fun e => near e.1 }
  let n := w.fetches.length
  let h := (w.fetches.filter (·.2)).length
  let rate := if n = 0 then 0 else min (h * 1000 / n) 1000
  let count := fun set => (w.evictions.filter fun e => e.2 = set).length
  let worst := (w.evictions.map (·.2)).foldl (fun (b : Nat × Nat) set =>
    let c := count set
    if b.2 < c ∨ (c = b.2 ∧ set < b.1) then (set, c) else b) (0, 0)
  let t := ((((s.setWrd w).put Reg.WRD_HIT_RATE rate).put Reg.WRD_HIT_WORST_SET worst.1).put Reg.WRD_HIT_WORST_EVICT (min worst.2 65535))
  if 0 < n ∧ rate < s.get Reg.WRD_CTRL_HIT_MIN then (t.put Reg.WRD_STATUS_HIT_LOW 1).raiseEp Ev.HIT_LOW else t

/-! ## Commands -/

/-- Queue a wardrobe change for the next boundary, held by its mirrored operation where it is one. -/
def State.queueChange (s : State) (c : WrdChange) (own : Option (Nat × Nat × Nat)) : State :=
  s.setWrd { s.wrd with changes := s.wrd.changes ++ [(c, none, own)] }

/-- ADATA_WRITE (R260). -/
def coreAdataWrite (s : State) (own : Option (Nat × Nat × Nat)) (f : Nat) (c : CmdSlot) (d : Dma) : Ran :=
  if f ≠ 0 then s.deny Sts.DENIED
  else if badParams c then s.deny Sts.INVALID_FIELD
  else if s.reqFenced 0 then s.deny Sts.FENCED
  else match d.rd with
    | none => s.dmaDeny f
    | some b =>
      { s := s.queueChange (.write (bits c.p1 19 0) (BitVec.ofNat 4 (bits c.p1 23 20)) (BitVec.ofNat 512 (leAt b 0 64)) (bitOf c.p1 24)) own,
        later := true }

/-- ADATA_WRITE: command ADATA_WRITE writes the selected quarters of a line into the wardrobe (R260). -/
def execAdataWrite (d : Dma) (s : State) : Host.Outcome State Fault Refusal := .next (s.runOp 0x20 d coreAdataWrite)

/-- ADATA_READ (R260): the line as it stands at the start of the tick. How long its fill is in flight is a free value
(notes/assumptions/3.md). -/
def coreAdataRead (s : State) (_own : Option (Nat × Nat × Nat)) (f : Nat) (c : CmdSlot) (d : Dma) : Ran :=
  if f ≠ 0 then s.deny Sts.DENIED
  else if badParams c then s.deny Sts.INVALID_FIELD
  else if s.reqFenced 0 then s.deny Sts.FENCED
  else
    let l := bits c.p1 19 0
    let s := s.settleFills
    let r := match s.wrd.wayOf l with
      | some x => s.setWrd (s.wrd.touch x.set x.way)
      | none =>
        let t := if (s.wrd.stagedOf l).isNone then s.noteMarred l else s
        t.drawn.startFill 0 l (s.wrd.current l) t.peek
    r.hostPut f c.p0.toNat (leBytes 64 (s.wrd.current l).toNat) d

/-- ADATA_READ: command ADATA_READ reads a line into host memory (R260). -/
def execAdataRead (d : Dma) (s : State) : Host.Outcome State Fault Refusal := .next (s.runOp 0x21 d coreAdataRead)

/-- WRD_OP of a kind (R261): by address one line, by range COUNT lines; a reserved kind and a range beyond the last line
are refused. -/
def coreWrdOp (kind : Nat) (s : State) (own : Option (Nat × Nat × Nat)) (_f : Nat) (c : CmdSlot) (_d : Dma) : Ran :=
  let first := bits c.p1 27 8
  let count := if bitOf c.p1 3 then bits c.p1 48 28 else 1
  if s.reqFenced 0 then s.deny Sts.FENCED
  else if badParams c ∨ count = 0 ∨ 2 ^ 20 < count ∨ 2 ^ 20 < first + count then s.deny Sts.INVALID_FIELD
  else { s := s.queueChange (.op kind first count []) own, later := true }

/-- Run the WRD_OP in the engine when its operation is `kind`; a reserved operation (3 to 7) is answered by whichever of
the three rows is given, with INVALID_FIELD (R10). -/
def State.runWrdOp (s : State) (kind : Nat) : State :=
  match s.engineOp 0x22 with
  | none => s
  | some c =>
    if 3 ≤ bits c.slot.p1 2 0 then s.finish c Sts.INVALID_FIELD
    else if bits c.slot.p1 2 0 = kind then s.issue c {} (coreWrdOp kind)
    else s

/-- WRD_OP_INVAL: WRD_OP INVAL invalidates lines and discards their dirty contents (R261). -/
def execWrdOpInval (s : State) : Host.Outcome State Fault Refusal := .next (s.runWrdOp 0)

/-- WRD_OP_CLEAN: WRD_OP CLEAN writes dirty lines to the store and keeps them clean (R261). -/
def execWrdOpClean (s : State) : Host.Outcome State Fault Refusal := .next (s.runWrdOp 1)

/-- WRD_OP_FLUSH: WRD_OP FLUSH writes dirty lines to the store and then invalidates them (R261). -/
def execWrdOpFlush (s : State) : Host.Outcome State Fault Refusal := .next (s.runWrdOp 2)

/-- WRD_PIN_EN (R255): 1 starts a load from OFF or CONFLICT; 0 returns the pin to OFF at the next boundary. OUTSIDE is computed anew
where the pin changes state (R257). -/
def doWrdPinEn (i : Fin 16) (en : Bool) (s : State) : State :=
  let t := s.putB Reg.WRD_PIN_EN en i
  let p := s.pin i
  if en then (if p.st = .off ∨ p.st = .conflict then (t.pinLoad i).showOutside else t)
  else if p.st = .off then t else t.setPin i { p with offDue := true }

/-- WRD_PIN_EN: a write to a pin's EN starts a load, reports CONFLICT, or returns the pin to OFF (R255). -/
def execWrdPinEn (i : Fin 16) (en : Bool) (s : State) : Host.Outcome State Fault Refusal :=
  .next (s.onService (doWrdPinEn i en))

/-- PIN_LOAD_DONE (R255): requester 12 has read every line into locked ways; HELD at the next boundary. -/
def doPinLoadDone (i : Fin 16) (s : State) : State :=
  let p := s.pin i
  if p.st = .loading ∧ p.loaded = false ∧ s.mayWork 12 = true ∧ s.mode = .service then
    let t := s.settleFills.pinInstall { p with read := 0 } p.count
    t.setPin i { p with read := p.count - 1, loaded := t.pinComplete p }
  else s

/-- PIN_LOAD_DONE: the last line of a pin is read and the pin becomes HELD at the next boundary (R255). -/
def execPinLoadDone (i : Fin 16) (s : State) : Host.Outcome State Fault Refusal := .next (doPinLoadDone i s)

/-- WRD_LOCK_WRITE (R252, R255): stored, and in force from the next boundary. -/
def doWrdLockWrite (v : BitVec 16) (s : State) : State := s.put Reg.WRD_CTRL_LOCK v.toNat

/-- WRD_LOCK_WRITE: a write to WRD_CTRL.LOCK re-counts the pins and may move some to CONFLICT (R255). -/
def execWrdLockWrite (v : BitVec 16) (s : State) : Host.Outcome State Fault Refusal :=
  .next (s.onService (doWrdLockWrite v))

/-- A line is in the store: its way is clean unless it has changed since, commands that wait for it are told, and a FLUSH of it goes on
(R261, R264). -/
def State.lineStored (s : State) (l : Nat) (v : BitVec 512) : State :=
  let w := s.wrd
  let flush : Bool := w.flushing.contains l
  (s.setWrd { w with store := fset w.store l 0 v, bad := w.bad.filter (· != l), marred := w.marred.filter (· != l),
                     ways := w.ways.map (fun x => if x.line = l ∧ x.data = v then { x with dirty := false } else x),
                     flushing := w.flushing.filter (· != l),
                     changes := if flush then w.changes ++ [(.flushed l, none, none)] else w.changes }).storeDone [l]

/-- The dirty line that waits longest for room in the staging buffer is staged (R264). -/
def Wardrobe.stageOwing (w : Wardrobe) : Wardrobe :=
  match w.owing with
  | [] => w
  | l :: t => ({ w with owing := t } : Wardrobe).toStore l

/-- STAGING_WRITEBACK (R264): requester 12 writes the oldest staged line to the store; the cells programmed, those that failed
verification included, are metered as wear. A line that still fails after three further pulses stays staged
(notes/assumptions/8.md). -/
def doStagingWriteback (w : WriteRes) (s : State) : State :=
  match s.wrd.staging with
  | [] => s
  | (l, v) :: rest =>
    if s.mayWork 12 = false then s
    else
      let fails := s.failsOf (w.rows.headD [])
      let old := s.wrd.stored l
      let t := s.spend (ones 512 (old ^^^ v).toNat + Config.lineCells old v + (fails.take 3).sum)
      if 3 < fails.length then t
      else
        let u := (t.setWrd { t.wrd with staging := rest }).lineStored l v
        u.setWrd u.wrd.stageOwing

/-- STAGING_WRITEBACK: a staged dirty line is written to the store, oldest first (R264). -/
def execStagingWriteback (w : WriteRes) (s : State) : Host.Outcome State Fault Refusal := .next (doStagingWriteback w s)

end Sys2Proof.Machine
end

