-- ==== Sys2Proof/Machine/Plan.lean ====
section
/-! DEFINITION. The plan of a tick at its admission close: admission of records left open, keys, catalogue selection,
budgets, egress, return-path learning, and the counters of the plan (R47 to R58, R92, R103, R104, R107 to R119, R148 to
R151, R254, R271, R275, R276, R342). -/

namespace Sys2Proof.Machine

/-! ## Catalogue selection -/

/-- The bay of table t in gallery g whose block holds code x (R143). -/
def bayFor (bays : List Bay) (g t x : Nat) : Option Bay :=
  bays.find? fun b => b.g == g && b.tbl == t && decide (b.first ≤ x) && decide (x < b.first + 2 ^ b.s)

/-- The units that a lookup of table t with code x activates in gallery g: its bay's and the broad set's, each once
(R148). -/
def unitsFor (bays : List Bay) (broad : List Broad) (g t x : Nat) : List Nat :=
  let u := match bayFor bays g t x with | some b => b.units | none => []
  u ++ (((broad.filter fun b => b.g = g ∧ b.tbl = t).map (·.unit)).filter fun v => !u.contains v)

/-- A unit of gallery g lies in a fenced cabinet (R156). -/
def State.unitFenced (s : State) (g : Nat) (transient : Bool) (u : Nat) : Bool := (s.cab (32 * g + unitCab transient u)).fenced

/-- The selection made at the plan from the code map at the start of the tick (R150), and the galleries in which a unit is skipped. -/
def State.selectUnits (s : State) (bays : List Bay) (broad : List Broad) (t : Nat) (d : Table) (key : BitVec 640) :
    List (Nat × List Nat) × List Nat :=
  let all := d.galList.map fun g => (g, unitsFor bays broad g t (d.code key))
  (all.map fun e => (e.1, e.2.filter fun u => !s.unitFenced e.1 d.transient u),
    (all.filter fun e => e.2.any fun u => s.unitFenced e.1 d.transient u).map (·.1))

/-! ## What a record becomes -/

/-- How a record is planned: as one of a disabled site, an orphan, one of a fencing channel, or searched. -/
inductive RClass where
  | off | uncorr | orphan | closed | normal
  deriving DecidableEq, Repr

/-- A record made ready for its plan: its class, the planned record, the ports of its verdict, and what it will count. -/
structure Prep where
  cls : RClass
  pl : Planned
  ports : List Nat := []
  short : Bool := false
  refused : Bool := false
  default_ : Bool := false
  deriving DecidableEq, Repr

/-- The channel has been fencing since boundary n or before: records offered to the plan of tick n are closed (R103). -/
def Chan.closedFor (c : Chan) (n : Tick) : Bool :=
  match c.fencedAt with
  | some k => c.st == .fencing && tickLe k n
  | none => false

/-- The ports of a verdict, and whether the arrival port stands in for a missing return-path entry (R117, R284). -/
def State.verdictPorts (s : State) (egress : BitVec 64) (arrival tag : Nat) : List Nat × Bool :=
  match Eg.dest egress with
  | 0 => ([arrival], false)
  | 1 => ([Eg.port egress], false)
  | 2 => match s.rptEntry tag with
    | some e => ([e.port], false)
    | none => ([arrival], true)
  | _ => (if Eg.port egress = arrival then [arrival] else [arrival, Eg.port egress], false)

/-- Lookup i of a record of a live channel, at its plan (R110, R111, R119, R150). -/
def State.planLookup (s : State) (c : Chan) (i : Nat) (w : BitVec 64) (fl : List Flit) (port : Nat) (poison refuse : Bool) :
    LookupPlan :=
  if Lk.en w = false then {}
  else if condTrue w fl = false then { act := .notSearched }
  else if refuse then { act := .poisoned }
  else
    match s.table (Lk.table w) with
    | none => { act := .notSearched }
    | some d =>
      if d.outOfService then { act := .notSearched }
      else
        let key := buildKey c.segs i fl port poison &&& widthMask (Lk.width w)
        let e := s.selectUnits s.baysBefore s.broadBefore (Lk.table w) d key
        { act := .search, tbl := Lk.table w, width := Lk.width w, rfmt := Lk.rfmt w, dsel := Lk.dsel w, key := key,
          sel := e.1, skip := e.2,
          charged := Lk.rfmt w == 2 && !s.heldAtPlan (Lk.table w),
          tok := if d.cascaded && s.cascaded then some 0 else none }

/-- The result of a lookup that is not searched. -/
def LookupPlan.fixed (l : LookupPlan) : Result :=
  match l.act with
  | .poisoned => { status := Vs.POISONED }
  | .closed => { status := Vs.CLOSED }
  | .search => {}
  | .disabled | .notSearched => { status := Vs.NOT_SEARCHED }

/-- A record of port p made ready for the plan of tick n. -/
def State.prepare (s : State) (p : Nat) (n : Tick) (r : QRec) : Prep :=
  let fl := r.flits.map QFlit.flit
  let poison := bodyBad r.flits
  let st := recStamp fl
  let site := (s.site (recSite fl)).before
  let admitAt := r.admitAt.getD n
  let base : Planned :=
    { port := p, flits := fl, handle := 0, poison := poison, admitAt := admitAt, tick := n, late := decide (st ≠ n),
      allClosed := true, results := closedResults }
  match s.readSite (recSite fl) with
  | .off => { cls := .off, pl := base, ports := [p] }
  | .uncorr => { cls := .uncorr, pl := base, ports := [p] }
  | .live h =>
    if s.handleCurrent h = false then { cls := .orphan, pl := { base with handle := h, orphan := true }, ports := [p] }
    else
      let c := s.chan (h % 256)
      let d := s.verdictPorts c.egress p (recTag fl)
      let dig : Bool := s.seam.pair == .paired && (st == n || tickAdd st 1 == n)
      if c.closedFor n then
        { cls := .closed, pl := { base with handle := h, chan := h % 256, digested := dig }, ports := d.1, default_ := d.2 }
      else
        let refuse := poison && decide (2 ≤ St.policy site)
        let ls := (c.lookups.zipIdx).map fun (w, i) => s.planLookup c i w fl p poison refuse
        let active := c.lookups.map fun w => Lk.en w && condTrue w fl
        { cls := .normal, ports := d.1, default_ := d.2, refused := refuse,
          short := readsShort c.lookups c.segs active fl,
          pl := { base with handle := h, chan := h % 256, capPort := St.capPort site, policy := St.policy site,
                            allClosed := false, lookups := ls, results := ls.map LookupPlan.fixed, digested := dig } }

/-! ## Budgets -/

/-- The plan in progress: quota used by channel and gallery, what is left of the shared budgets, what is charged, the
records that waited by gallery and cause, verdicts planned by port, tags decided, search slots given out (gallery, cycle). -/
structure PlanW where
  quota : FMap Nat := []
  spare : List Nat
  acts : List Nat
  fetch : List Nat
  inject : Nat
  use : List (Nat × Nat × Nat) := List.replicate 8 (0, 0, 0)
  short : FMap (Nat × Nat) := []
  egress : FMap (List (Nat × Nat)) := []
  tags : FMap Nat := []
  busy : List (Nat × Nat) := []
  recs : List Planned := []
  deriving DecidableEq, Repr

/-- The token cycles of the window, by gallery: offsets floor(i × P / C_g), i = 0 to C_g − 1, which the plan leaves free (R343). -/
def State.tokenCycles (s : State) : List (Nat × Nat) :=
  (List.range 8).flatMap fun g =>
    let c := if s.cascaded then min (s.get Reg.CSC_TOKSLOT_SLOTS g) s.period else 0
    (List.range c).map fun i => (g, i * s.period / c)

/-- The budgets of a plan (R52, R55). -/
def State.budgets (s : State) : PlanW :=
  { spare := (List.range 8).map s.sparePool, acts := (List.range 8).map s.actBudget,
    fetch := List.replicate 8 s.fetchBudget, inject := s.get Reg.CSC_TOKEN_INJECT, busy := s.tokenCycles }

/-- Slots a planned record needs in gallery g (R52). -/
def Planned.needSlots (pl : Planned) (g : Nat) : Nat :=
  (pl.lookups.map fun l => if l.act == .search && l.sel.any (fun e => e.1 == g) then slotsOf l.width else 0).sum

/-- Activations a planned record needs in gallery g; a 640-bit lookup is charged twice (R148). -/
def Planned.needActs (pl : Planned) (g : Nat) : Nat :=
  (pl.lookups.map fun l => if l.act == .search then
    ((l.sel.filter fun e => e.1 == g).map fun e => e.2.length).sum * slotsOf l.width else 0).sum

/-- Fetches a planned record needs in gallery g: in the lowest gallery of each charged lookup's table (R254). -/
def Planned.needFetch (pl : Planned) (g : Nat) : Nat :=
  (pl.lookups.map fun l => if l.act == .search && l.charged && (l.sel.head?.map (·.1)) == some g then 1 else 0).sum

/-- Token slots a planned record needs (R342). -/
def Planned.needInject (pl : Planned) : Nat :=
  (pl.lookups.map fun l => if l.tok.isSome then slotsOf l.width else 0).sum

/-- Slots a record draws from the spare pool of gallery g (R55). -/
def State.fromSpare (s : State) (w : PlanW) (pl : Planned) (g : Nat) : Nat :=
  pl.needSlots g - (s.quota pl.chan g - fgetD w.quota (8 * pl.chan + g) 0)

/-- The first exhausted budget of gallery g for a record: 0 spare slots, 1 activations, 2 fetches; none where it fits. -/
def State.exhausted (s : State) (w : PlanW) (pl : Planned) (g : Nat) : Option Nat :=
  if w.spare.getD g 0 < s.fromSpare w pl g then some 0
  else if w.acts.getD g 0 < pl.needActs g then some 1
  else if w.fetch.getD g 0 < pl.needFetch g then some 2
  else none

/-- The galleries whose budgets a record does not fit, each with its cause (R55, R57). -/
def State.shortOf (s : State) (w : PlanW) (pl : Planned) : List (Nat × Nat) :=
  (List.range 8).filterMap fun g => (s.exhausted w pl g).map fun c => (g, c)

/-- Charge a record in every gallery it uses (R55). -/
def State.charge (s : State) (w : PlanW) (pl : Planned) : PlanW :=
  (List.range 8).foldl (fun w g =>
    let n := pl.needSlots g
    let a := pl.needActs g
    let f := pl.needFetch g
    if n = 0 ∧ a = 0 ∧ f = 0 then w
    else
      let sp := s.fromSpare w pl g
      let k := 8 * pl.chan + g
      let u := w.use.getD g (0, 0, 0)
      { w with quota := fset w.quota k 0 (fgetD w.quota k 0 + (n - sp)), spare := w.spare.set g (w.spare.getD g 0 - sp),
               acts := w.acts.set g (w.acts.getD g 0 - a), fetch := w.fetch.set g (w.fetch.getD g 0 - f),
               use := w.use.set g (u.1 + n, u.2.1 + a, u.2.2 + f) }) { w with inject := w.inject - pl.needInject }

/-! ## Slots and egress -/

/-- The cycles of a window of p in which a search of n slots of gallery g may start. Two slots are a free pair of cycles 2i and 2i + 1, or
any two free consecutive cycles where no such pair is left; one slot is a cycle whose pair is half taken, where there is one, and else any
free cycle, so that pairs stay for the searches that need them (R58, R127, notes/assumptions/108.md). `busy`: gallery and cycle of the
slots given out and of the token cycles. -/
def slotChoices (busy : List (Nat × Nat)) (p g n : Nat) : List Nat :=
  let free := fun (c : Nat) => decide (c < p) && !busy.contains (g, c)
  if n = 2 then
    let pairs := (List.range p).filter fun c => free c && free (c + 1)
    let even := pairs.filter fun c => c % 2 == 0
    if even.isEmpty then pairs else even
  else
    let half := (List.range p).filter fun c => free c && !free (c ^^^ 1)
    if half.isEmpty then (List.range p).filter free else half

/-- One lookup takes a slot, or two consecutive ones, in each gallery it searches: a free choice among those left (R127). None where a
gallery has no place left for it. -/
def takeSlots (p n : Nat) : List Nat → Nat → List (Nat × Nat) → Option (List (Nat × Nat) × Nat × List (Nat × Nat))
  | [], ctr, busy => some ([], ctr, busy)
  | g :: t, ctr, busy =>
    let l := slotChoices busy p g n
    if l.isEmpty then none
    else
      let c := l.getD (Config.free ctr % l.length) 0
      (takeSlots p n t (ctr + 1) (if n = 2 then (g, c) :: (g, c + 1) :: busy else (g, c) :: busy)).map fun r => ((g, c) :: r.1, r.2)

/-- Give every searched lookup its slots in the window of P cycles, no two searches of a gallery in one cycle (R58, R127). -/
def drawSlots (p : Nat) : List LookupPlan → Nat → List (Nat × Nat) → Option (List LookupPlan × Nat × List (Nat × Nat))
  | [], ctr, busy => some ([], ctr, busy)
  | l :: t, ctr, busy =>
    if l.act = .search then
      (takeSlots p (slotsOf l.width) (l.sel.map (·.1)) ctr busy).bind fun o =>
        (drawSlots p t o.2.1 o.2.2).map fun r => ({ l with places := o.1, slot := (o.1.map (·.2)).foldl max 0 } :: r.1, r.2)
    else (drawSlots p t ctr busy).map fun r => (l :: r.1, r.2)

/-- The galleries in which a record needs two consecutive slots, which no place is left for: it waits for search slots (R57, R127). -/
def Planned.pairShort (pl : Planned) : List (Nat × Nat) :=
  ((pl.lookups.filter fun l => l.act == .search && slotsOf l.width == 2).flatMap fun l => l.sel.map (·.1)).eraseDups.map fun g => (g, 0)

/-- The anchor j: the offset of the record's last slot, 0 without a searched lookup (R60). -/
def anchorOf (ls : List LookupPlan) : Nat := (ls.map fun l => if l.act = .search then l.slot else 0).foldl max 0

/-- The verdicts of port q with one more, in the order of R60. -/
def PlanW.withVerdict (w : PlanW) (q j i : Nat) : List (Nat × Nat) := insertVerdict j i (fgetD w.egress q [])

/-- The ports of a record on which its verdict does not fit (R92). -/
def PlanW.egressFull (w : PlanW) (p j i : Nat) (ports : List Nat) : List Nat :=
  ports.filter fun q => (placeVerdicts p 4 (w.withVerdict q j i)).isNone

/-! ## One record -/

/-- What the plan of a record counts and reports (R57, R86, R103, R104, R112, R119, R271, R272, R275, R276). -/
def State.notePlanned (s : State) (a : Prep) : State :=
  let pl := a.pl
  let c := pl.chan
  let t := s.returnCredits pl.port pl.flits.length
  let t := if pl.poison then (t.bump Reg.PRT_CNT_POISON_COUNT 1 pl.port).raiseEp (Ev.POISON pl.port) else t
  let t := (a.ports.filter fun q => !s.portUp q).foldl (fun x q => x.bump Reg.PRT_CNT_VERDICT_DROP_COUNT 1 q) t
  let t := if a.default_ then t.bump Reg.RPT_CNT_VERDICT_DEFAULT_COUNT else t
  match a.cls with
  | .off => (t.bump Reg.RPT_CNT_SITE_OFF_COUNT).raiseEp Ev.SITE_DISABLED
  | .uncorr => (((t.bump Reg.RPT_CNT_SITE_OFF_COUNT).raiseEp Ev.SITE_DISABLED).bump Reg.RPT_CNT_SITE_UNCORR_COUNT).raise Ev.SITE_UNCORR
  | .orphan =>
    let u := t.bump Reg.CHN_CNT_ORPHAN_COUNT
    if pl.handle % 256 = 0 then u else u.chanCause Reg.CHN_STATUS_ORPHAN (pl.handle % 256)
  | .closed =>
    let u := t.bump Reg.CHN_CNT_RECORDS_COUNT 1 c
    if pl.poison then u.bump Reg.CHN_CNT_POISON_COUNT 1 c else u
  | .normal =>
    let u := t.bump Reg.CHN_CNT_RECORDS_COUNT 1 c
    let u := if pl.poison then u.bump Reg.CHN_CNT_POISON_COUNT 1 c else u
    let u := if a.short then (u.bump Reg.CHN_CNT_SHORT_COUNT 1 c).chanCause Reg.CHN_STATUS_SHORT c else u
    if a.refused then u.chanCause Reg.CHN_STATUS_POISON_REFUSED c else u

/-- Return-path learning of a planned record: the first record of a tag in the plan decides (R275, R276). -/
def State.noteTag (s : State) (w : PlanW) (a : Prep) : State × PlanW :=
  if a.cls = .off ∨ a.cls = .uncorr then (s, w)
  else
    let tag := recTag a.pl.flits
    match fget w.tags tag with
    | none =>
      ({ s with rptPend := { s.rptPend with learn := s.rptPend.learn ++ [(tag, a.pl.port, a.pl.tick)] } },
        { w with tags := fput w.tags tag a.pl.port })
    | some p => if p = a.pl.port then (s, w) else ((s.bump Reg.RPT_CNT_TAG_SPLIT_COUNT).raiseEp Ev.TAG_SPLIT, w)

/-- Count a record that is not digested: planned outside its window by a paired device (R315). -/
def State.noteUndigested (s : State) (a : Prep) : State :=
  if s.seam.pair = .paired ∧ (a.cls = .closed ∨ a.cls = .normal) ∧ a.pl.digested = false then
    s.bump Reg.SEAM_CNT_UNDIGESTED_COUNT else s

/-- Offer one record to the plan of tick n: planned (true) or left waiting, with the galleries it waits on. -/
def State.offer (s : State) (w : PlanW) (p : Nat) (n : Tick) (r : QRec) : State × PlanW × Bool × List (Nat × Nat) :=
  let s := s.fixSite (recSite (r.flits.map QFlit.flit))
  let s := s.rptScrub (recTag (r.flits.map QFlit.flit))
  let a := s.prepare p n r
  let short := s.shortOf w a.pl
  if !short.isEmpty then (s, w, false, short)
  else if w.inject < a.pl.needInject then (s.bump Reg.CSC_CNT_INJECT_WAIT_COUNT, w, false, [])
  else
    match drawSlots s.period a.pl.lookups s.freeCtr w.busy with
    | none => (s, w, false, a.pl.pairShort)
    | some o =>
      let ls := o.1
      let j := anchorOf ls
      let i := w.recs.length
      let up := a.ports.filter fun q => s.portUp q
      let full := w.egressFull s.period j i up
      if !full.isEmpty then (full.foldl (fun x q => x.bump Reg.PRT_CNT_EGRESS_WAIT_COUNT 1 q) s, w, false, [])
      else
        let s := { s with freeCtr := o.2.1 }
        let w := { s.charge w a.pl with busy := o.2.2 }
        let w := up.foldl (fun w q => { w with egress := fset w.egress q [] (w.withVerdict q j i) }) w
        let w := { w with recs := w.recs ++ [{ a.pl with lookups := ls, j := j }] }
        let t := s.noteTag w a
        ((t.1.notePlanned a).noteUndigested a, t.2, true, [])

/-! ## One port, then all -/

/-- The admission of a record that waited in the queue when admission opened, made at the plan of tick n; one stamped beyond AHEAD_MAX
is counted (R45, R47). -/
def State.admitOf (s : State) (n : Tick) (r : QRec) : State × QRec :=
  if r.admitAt.isSome ∨ r.waits = false then (s, r)
  else
    let a := admitTick (recStamp (r.flits.map QFlit.flit)) n (s.get Reg.TCK_AHEAD_AHEAD_MAX)
    (if a.2 then (s.bump Reg.TCK_CNT_AHEAD_COUNT).raiseRate Ev.STAMP_RANGE else s, { r with admitAt := some a.1 })

/-- Every record of a queue that waited when admission opened is admitted. -/
def State.admitQueue (n : Tick) : List QRec → State → State × List QRec
  | [], s => (s, [])
  | r :: t, s =>
    let a := s.admitOf n r
    let o := State.admitQueue n t a.1
    (o.1, a.2 :: o.2)

/-- Every record of port p that waited when admission opened is admitted (R45). -/
def State.admitPort (n : Tick) (s : State) (p : Nat) : State :=
  let o := State.admitQueue n (s.port p).queue s
  o.1.setPort p { o.1.port p with queue := o.2 }

/-- A record is due in the plan of tick n. -/
def QRec.due (r : QRec) (n : Tick) : Bool := match r.admitAt with | some k => tickLe k n | none => false

/-- Count records that waited on galleries (R57). -/
def PlanW.noteShort (w : PlanW) (l : List (Nat × Nat)) (k : Nat) : PlanW :=
  l.foldl (fun w e =>
    let old := fgetD w.short e.1 (0, 0)
    { w with short := fput w.short e.1 (old.1 + k, e.2) }) w

/-- Offer the due records of a port in order, until one waits (R50). -/
def State.planQueue (p : Nat) (n : Tick) : List QRec → State → PlanW → State × PlanW × List QRec
  | [], s, w => (s, w, [])
  | r :: t, s, w =>
    if r.due n = false then (s, w, r :: t)
    else
      let r := { r with offered := some (r.offered.getD n) }
      let o := s.offer w p n r
      if o.2.2.1 then State.planQueue p n t o.1 o.2.1
      else
        let held := t.takeWhile fun x => x.due n
        let rest := held.map (fun x => { x with offered := some (x.offered.getD n) }) ++ (t.drop held.length)
        (o.1, o.2.1.noteShort o.2.2.2 (held.length + 1), r :: rest)

/-- Plan one port. -/
def State.planPort (n : Tick) (sw : State × PlanW) (p : Nat) : State × PlanW :=
  let q := (sw.1.port p).queue
  let o := State.planQueue p n q sw.1 sw.2
  (o.1.setPort p { o.1.port p with queue := o.2.2 }, o.2.1)

/-- The flit slots of the planned records (R92). -/
def PlanW.slots (w : PlanW) (p : Nat) : List Planned :=
  let places := w.egress.flatMap fun e => match placeVerdicts p 4 e.2 with
    | some l => l.map fun x => (e.1, x.1, x.2)
    | none => []
  (w.recs.zipIdx).map fun (r, i) =>
    { r with dest := (places.filter fun x => x.2.1 = i).map fun x => (x.1, x.2.2) }

/-- Form the verdicts of the planned records that search nothing. -/
def State.formReady (s : State) : List Planned → State × List Planned
  | [] => (s, [])
  | pl :: t =>
    if pl.lookups.any fun l => l.act == .search then
      let r := s.formReady t
      (r.1, pl :: r.2)
    else
      let a := s.formVerdict pl
      let r := a.1.formReady t
      (r.1, a.2 :: r.2)

/-- Show what the plan charged and what waited (R57, Tables 2-1, 3-6). -/
def State.showPlan (s : State) (w : PlanW) : State :=
  let a := (List.range 8).foldl (fun x g =>
    let u := w.use.getD g (0, 0, 0)
    ((x.put Reg.TCK_GAL_USE_SLOTS u.1 g).put Reg.TCK_GAL_USE_ACTS u.2.1 g).put Reg.TCK_GAL_USE_FETCH u.2.2 g) s
  let b := w.short.foldl (fun x e =>
    ((x.bump Reg.TCK_GAL_SHORT_RECORDS e.2.1 e.1).put Reg.TCK_GAL_SHORT_CAUSE e.2.2 e.1).raiseEp (Ev.QUOTA_SHORTFALL e.1)) a
  (List.range 16).foldl (fun x p => x.put Reg.PRT_EGRESS_VERDICTS (fgetD w.egress p []).length p) b

/-- The plan of tick n (R51, R55): ports in ascending order, each in order of arrival (R15). -/
def State.makePlan (s : State) (n : Tick) : State :=
  let a := (List.range 16).foldl (State.admitPort n) s
  let r := (List.range 16).foldl (State.planPort n) (a, a.budgets)
  let f := (r.1.showPlan r.2).formReady (r.2.slots s.period)
  let t := { f.1 with planned := f.1.planned ++ f.2 }
  if r.2.recs.isEmpty then t else { t with dorm := { t.dorm with idleFrom := t.clock } }

/-- ADMISSION_CLOSE of the tick before the one in progress, G cycles after its end: its plan is made if admission was open in it
(R45, R47). -/
def doAdmissionClose (s : State) : State :=
  if s.tick.started = false ∨ tickAdd s.tick.plan 1 ≠ s.tick.now ∨ s.clock < s.tick.last + s.guardCycles then s
  else
    let n := s.tick.plan
    let t := if s.tick.openPrev then s.makePlan n else s
    { t with tick := { t.tick with plan := s.tick.now } }

/-- ADMISSION_CLOSE: the admission close of a tick falls G cycles into the next tick, and the admitted records are
planned (R47). -/
def execAdmissionClose (s : State) : Host.Outcome State Fault Refusal := .next (doAdmissionClose s)

end Sys2Proof.Machine
end

