-- ==== Sys2Proof/Machine/Search.lean ====
section
/-! DEFINITION. The search of a lookup: match lines, candidates, verified match, merge, statuses, data fetch, accession
and tally (R130, R133 to R140, R148, R149, R153 to R162, R195 to R202, R248 to R254). -/

namespace Sys2Proof.Machine

/-! ## Scrub queue and suspect drawers -/

/-- Queue rows for scrub, in order, those that are not queued (R154, R155). -/
def State.queueScrub (s : State) (ks : List Nat) : State :=
  { s with cur := { s.cur with scrubQ := s.cur.scrubQ ++ ks.filter fun k => !s.cur.scrubQ.contains k } }

/-- Queue a row for refresh (R154, R228). -/
def State.queueRefresh (s : State) (k : Nat) : State :=
  if s.cur.refreshQ.contains k then s else { s with cur := { s.cur with refreshQ := s.cur.refreshQ ++ [k] } }

/-- One more rejected candidate of a drawer; 64 in a scrub period make it suspect (R154, R235). -/
def State.countReject (s : State) (g x : Nat) : State :=
  let d := s.drawer g x
  let n := min (d.rejects + 1) 65535
  let t := s.setDrawer g x { d with rejects := n }
  if d.rejectsAt + 64 ≤ n then t.makeSuspect g x else t

/-! ## One area: a drawer, the vestibule rows or the pool rows of a cabinet -/

/-- How a candidate fares in verified match (R153, R154). -/
inductive Confirm where
  | confirmed | rejected | uncorrectable
  deriving DecidableEq, Repr

/-- The rows of a candidate of width w. -/
def Row.physRows (r : Row) (w : Nat) : List Nat := (List.range (rowsOf w)).map (r.loc.phys + ·)

/-- Step 3 of R153: the key against the corrected (value, care) bits of the row group. -/
def State.compares (s : State) (r : Row) (w : Nat) (key : BitVec 640) : Bool :=
  (List.range (rowsOf w)).all fun p => (s.stands (r.loc.phys + p)).line w (r.loc.pos % 2) (keyPart key p)

/-- Verified match of a candidate of table t (R153): every row of its group decodes, its tag agrees and it carries the ID_A of the first;
FLAGS.TABLE and WIDTH are those searched, the VALID bit is set, and the key matches the corrected bits. -/
def State.confirm (s : State) (t w : Nat) (r : Row) (key : BitVec 640) : Confirm :=
  let ks := r.physRows w
  let h := r.loc.pos % 2
  let first := s.stands r.loc.phys
  if !(ks.all fun k => s.readsNominal k && (s.stands k).id h == first.id h) then .uncorrectable
  else if (ks.all fun k => (s.stands k).table == t % 64 && (s.stands k).width == w) && first.valid h && s.compares r w key then .confirmed
  else .rejected

/-- A row of the candidate has cells that its decode corrects: at least n in one row (R154). -/
def State.corrects (s : State) (ks : List Nat) (n : Nat) : List Nat := ks.filter fun k => s.decodes k && decide (n ≤ (s.fault k).wrong.length)

/-- Counting of one candidate in gallery g (R154). -/
def State.noteCandidate (s : State) (g w : Nat) (r : Row) (o : Confirm) : State :=
  let ks := r.physRows w
  let q := if r.loc.isDrawer then (s.corrects ks 2).foldl State.queueRefresh s else s
  match o with
  | .confirmed =>
    let t := q.bump Reg.GAL_CNT_CONFIRM_COUNT 1 g
    if (s.corrects ks 1).isEmpty then t else t.bump Reg.GAL_CNT_CORR_COUNT 1 g
  | _ =>
    let t := ((q.bump Reg.GAL_CNT_REJECT_COUNT 1 g).put Reg.GAL_STATUS_REJECT 1 g)
    let u := if o = .uncorrectable then t.bump Reg.GAL_CNT_UNCORR_COUNT 1 g else t
    let v := (u.queueScrub ks).raiseEp (Ev.CONFIRM_REJECT g)
    match r.loc with
    | .drawer _ c d _ _ => v.countReject g (17 * c + d)
    | _ => v

/-- What the areas of a lookup have given so far. -/
structure Scan where
  s : State
  hits : List Row := []
  unc : Bool := false
  uncGals : List Nat := []
  lost : List Nat := []
  total : Nat := 0
  rejected : Nat := 0

/-- Candidates an area returns: two, four in multi mode (R140). -/
def candLimit (rmode : Nat) : Nat := if rmode = 1 then 4 else 2

/-- Search one area of gallery g for table t, whose enabled rows are `rows` in encoder order; `whole`: the rows of its drawer, which are
queued for scrub when it is uncertain (R140, R153 to R155). -/
def Scan.area (a : Scan) (t rmode w : Nat) (key : BitVec 640) (g : Nat) (rows : List Row) (whole : List Nat) : Scan :=
  let lines := rows.filter fun r => a.s.lineMatch r w key
  let cands := lines.take (candLimit rmode)
  let outs := cands.map fun r => (r, a.s.confirm t w r key)
  let good := (outs.filter fun o => o.2 == .confirmed).map (·.1)
  let bad := (outs.filter fun o => o.2 != .confirmed).length
  let u := outs.foldl (fun x o => x.noteCandidate g w o.1 o.2) a.s
  let unc : Bool := decide (2 ≤ cands.length) && good.isEmpty
  let u := if unc then u.queueScrub whole else u
  { s := u, hits := a.hits ++ good, unc := a.unc || unc, uncGals := if unc then g :: a.uncGals else a.uncGals,
    lost := if rmode = 1 ∧ good ≠ [] ∧ 0 < bad then g :: a.lost else a.lost,
    total := a.total + lines.length, rejected := a.rejected + bad }

/-- Rows of table t enabled for tick n. -/
def State.enabled (s : State) (t : Nat) (n : Tick) : List Row := s.rows.filter fun r => r.tbl == t && r.enabledAt n

/-- The rows of drawer x in encoder order (R139, R140). -/
def drawerOrder (rows : List Row) (g x : Nat) : List Row :=
  sortBy (fun a b => decide (a.loc.pos ≤ b.loc.pos)) (rows.filter fun r => r.loc.inDrawer g x)

/-- SRAM rows in the order of their priority keys (R140). -/
def State.keyOrder (s : State) (rows : List Row) : List Row := sortBy (fun a b => decide (s.rowKey a ≤ s.rowKey b)) rows

/-- Search the units selected in one gallery (R148, R149). -/
def Scan.gallery (a : Scan) (t : Nat) (d : Table) (key : BitVec 640) (n : Tick) (g : Nat) (units : List Nat) : Scan :=
  let rows := a.s.enabled t n
  if d.transient then
    units.foldl (fun x c => x.area t d.rmode d.width key g (x.s.keyOrder (rows.filter fun r => r.loc.inPool g c)) []) a
  else
    let b := units.foldl (fun x u => x.area t d.rmode d.width key g (drawerOrder rows g u) ((List.range 2048).map (poolKey g u))) a
    ((units.map (· / 17)).eraseDups).foldl (fun x c =>
      x.area t d.rmode d.width key g (x.s.keyOrder (rows.filter fun r => r.loc.inVest g c)) []) b

/-- Search every selected unit; a unit skipped in a gallery of `skip` makes the lookup uncertain there (R156). The lookup is counted in
GAL_CNT_UNCERTAIN and GAL_CNT_SPILL_LOST of its galleries (R155). -/
def State.scan (s : State) (t : Nat) (d : Table) (key : BitVec 640) (n : Tick) (sel : List (Nat × List Nat)) (skip : List Nat) :
    Scan :=
  let a : Scan := sel.foldl (fun (x : Scan) e => x.gallery t d key n e.1 e.2) { s := s }
  let gals := (a.uncGals ++ skip).eraseDups
  let u := gals.foldl (fun x g => (x.bump Reg.GAL_CNT_UNCERTAIN_COUNT 1 g).put Reg.GAL_STATUS_UNCERTAIN 1 g) a.s
  let u := if gals.isEmpty then u else u.raiseEp (Ev.UNCERTAIN t)
  let u := a.lost.eraseDups.foldl (fun x g => x.bump Reg.GAL_CNT_SPILL_LOST_COUNT 1 g) u
  { a with s := u, unc := a.unc || !skip.isEmpty }

/-! ## Merge and statuses (R157 to R160) -/

/-- The best confirmed candidates of a scan: one, four in multi mode (R157). -/
def Scan.best (a : Scan) (rmode : Nat) : List Cand :=
  ((a.s.keyOrder a.hits).take (if rmode = 1 then 4 else 1)).map fun r => { id := r.id, rank := r.rank, dref := r.dref, gal := r.loc.gal }

/-- The count of count mode, saturating at 22 bits (R158). -/
def Scan.count (a : Scan) : Nat := min (a.total - a.rejected) 4194303

/-- The first rule of Table 5-7 that fits. -/
def judge (rmode : Nat) (unc : Bool) (cands : List Cand) (count : Nat) : Verdict :=
  let st := if unc then Vs.UNCERTAIN
    else if rmode = 2 then (if 1 ≤ count ∧ cands ≠ [] then Vs.HIT else Vs.MISS)
    else if cands.isEmpty then Vs.MISS
    else if rmode = 1 ∧ 2 ≤ cands.length then Vs.MULTI
    else Vs.HIT
  ⟨st, cands, count⟩

/-- DATA by result format for a candidate (R116): none, the data reference, or 22 bits of its quarter. -/
def State.dataOf (s : State) (slot : Nat) (n : Tick) (rfmt dsel cycles : Nat) (c : Cand) : State × Nat :=
  if rfmt = 1 then (s, c.dref)
  else if rfmt = 2 then
    let r := s.fetchLine slot (c.dref / 4) n cycles
    (r.1, quarterBits r.2 (c.dref % 4) dsel)
  else (s, 0)

/-- The result field of a judged lookup (Table 5-7, R346). -/
def State.resultOf (s : State) (slot : Nat) (n : Tick) (rmode rfmt dsel cycles : Nat) (v : Verdict) : State × Result :=
  if rmode = 2 ∧ v.status ≠ Vs.UNCERTAIN ∧ v.status ≠ Vs.CASCADE_GAP then
    (s, { status := v.status, entry := if v.status = Vs.HIT then (v.cands.head?.map (·.id)).getD 0 else 0, data := v.count })
  else
    match v.cands with
    | [] => (s, { status := v.status })
    | c :: _ =>
      let r := s.dataOf slot n rfmt dsel cycles c
      (r.1, { status := v.status, entry := c.id, data := r.2 })

/-- Place the further candidates of lookup i in the fields of disabled lookups (R160). `free_ k`: field k may be taken. -/
def spillInto (i : Nat) (status : Nat) (free_ : Nat → Bool) : Nat → List Cand → List (Nat × Result) × List Nat
  | _, [] => ([], [])
  | k, c :: t =>
    let r := spillInto i status free_ (k + 1) t
    if i + k ≤ 3 ∧ free_ (i + k) = true then
      ((i + k, { status := status, entry := c.id, data := c.dref, spill := some i }) :: r.1, r.2)
    else (r.1, c.gal :: r.2)

/-! ## Accession (R195 to R199) -/

/-- The lowest free ID of the learn range at or above the one after the last learned, wrapping (R195). -/
def State.learnId (s : State) (t : Nat) (d : Table) : Option Nat :=
  let start := if d.learnLast + 1 < d.learnBase + d.learnCount ∧ d.learnBase ≤ d.learnLast + 1 then d.learnLast + 1 - d.learnBase else 0
  ((List.range d.learnCount).map fun i => d.learnBase + (start + i) % d.learnCount).find? fun id =>
    !(s.rows.any fun r => r.tbl == t && r.id == id && r.off.isNone) && !s.isLost t id

/-- An accession cannot be made: the table's state and event say so (R199). -/
def State.learnFull (s : State) (t : Nat) : State :=
  ((s.bump Reg.TBL_CNT_LEARN_FULL_COUNT 1 t).put Reg.TBL_STATUS_LEARN_FULL 1 t).raiseEp (Ev.LEARN_FULL t)

/-- Note the outcome of an accession for a masked key. -/
def State.noteLearned (s : State) (t : Nat) (k : BitVec 640) (n : Tick) (id : Option Nat) : State :=
  { s with learnLog := ⟨t, k, n, id⟩ :: s.learnLog.filter fun l => tickSub n l.tick ≤ 64 }

/-- Make the accession of masked key k in tick n (R195); none when R199 forbids it. Its unit is assigned at the next boundary
(R150). -/
def State.accede (s : State) (t : Nat) (d : Table) (k : BitVec 640) (n : Tick) : State × Option Nat :=
  let care := d.mask &&& widthMask d.width
  let barred : Bool := s.tableFull t || (!d.transient && s.cur.stage == 3)
  match (if barred then none else s.learnId t d) with
  | none => ((s.learnFull t).noteLearned t k n none, none)
  | some id =>
    match s.place t d k care with
    | .at_ loc r =>
      let row : Row :=
        { loc := loc, tbl := t, id := id, rank := d.learnRank, dref := d.learnDref, value := k, care := care, learned := true,
          st := .entering, on := tickAdd n s.learnDelay, since := s.clock, persisted := d.transient,
          target := (Placed.at_ loc r).target d }
      let u := { s.drawn with rows := s.rows ++ [row] }.setTable t { d with learnLast := id }
      ((if r.broad then u.bump Reg.GAL_CNT_BROAD_PLACED_COUNT 1 r.g else u).giveTally t id |>.bump Reg.TBL_CNT_ACCESSION_COUNT 1 t |>.noteLearned t k n (some id), some id)
    | _ => ((s.learnFull t).noteLearned t k n none, none)

/-- An accession of the same masked key already made, or refused, in tick n or pending from an earlier tick (R196, R197). -/
def State.pendingLearn (s : State) (t : Nat) (k : BitVec 640) (n : Tick) : Option (Option Nat) :=
  (s.learnLog.find? fun l => l.tbl == t && l.key == k &&
    (l.tick == n || (l.id.isSome && tickLater n l.tick && decide (tickSub n l.tick < s.learnDelay)))).map (·.id)

/-- A missed lookup learns (R195 to R199): its result. -/
def State.learn (s : State) (t : Nat) (d : Table) (key : BitVec 640) (n : Tick) : State × Result :=
  let k := key &&& d.mask &&& widthMask d.width
  match s.pendingLearn t k n with
  | some (some id) => (s, { status := Vs.NEW, entry := id })
  | some none => (s.learnFull t, { status := Vs.LEARN_FULL })
  | none =>
    match s.accede t d k n with
    | (u, some id) => (u, { status := Vs.NEW, entry := id, data := 2 ^ 21 })
    | (u, none) => (u, { status := Vs.LEARN_FULL })

/-! ## One lookup of a planned record -/

/-- Accession and tally are barred for a record: GUARDED or REFUSE policy on a poisoned record, or a fenced channel
(R103, R119, R195, R202). -/
def State.barred (s : State) (pl : Planned) : Bool :=
  (pl.poison && decide (1 ≤ pl.policy)) || (s.chan pl.chan).st == .fencing

/-- Own member number. -/
def State.member (s : State) : Nat := s.get Reg.CSC_CTRL_MEMBER

/-- Count the tallies of a result (R202, R348). -/
def State.tallyResult (s : State) (t : Nat) (n : Tick) (cands : List Cand) (r : Result) : State :=
  if r.status = Vs.HIT ∨ r.status = Vs.MULTI then
    match cands.find? fun c => c.id == r.entry with
    | some c => match c.remote with
      | some m => (s.bump Reg.CSC_CNT_TALLY_COUNT).emit (.csc (.tally (tallyFlits m s.member t c.id)))
      | none => s.countTally t r.entry n
    | none => s
  else if r.status = Vs.NEW then s.countTally t r.entry n
  else s

/-- The result of a MISS on a learn-enabled table (R195, R347). -/
def State.learnResult (s : State) (pl : Planned) (l : LookupPlan) (d : Table) (r : Result) : State × Result :=
  if r.status ≠ Vs.MISS ∨ d.learnEn = false ∨ s.barred pl = true ∨ d.destroyAt.isSome = true then (s, r)
  else if d.cascaded && d.accMember != s.member then
    if s.cascaded then (s.emit (.csc (.learn (learnFlits d.accMember s.member l.tbl d.width l.key))), { status := Vs.NEW }) else (s, r)
  else s.learn l.tbl d l.key pl.tick

/-- A field of the verdict may take a further candidate: its lookup is disabled and it holds none yet, so that of two lookups whose
candidates reach it the one concluded first keeps it (R160; DESIGN CHOICE, notes/assumptions/124.md). -/
def Planned.fieldFree (pl : Planned) (k : Nat) : Bool :=
  (match pl.lookups[k]? with | some l => l.act == .disabled | none => true) &&
    (match pl.results[k]? with | some r => r.spill.isNone | none => false)

/-- Enter results in a verdict. -/
def setResults (rs : List Result) (l : List (Nat × Result)) : List Result := l.foldl (fun a e => a.set e.1 e.2) rs

/-- A lookup has its judgement: data, accession, tally, further candidates (R116, R160, R195, R202). A NEW that ACC_MEMBER is
asked for counts there and not here (R348). The data come 448 cycles after the last slot, 320 after the merge of a cascaded lookup
(R253, R345). -/
def State.conclude (s : State) (pl : Planned) (i : Nat) (l : LookupPlan) (d : Table) (v : Verdict) : State × Planned :=
  let a := s.resultOf pl.chan pl.tick d.rmode l.rfmt l.dsel (if l.tok.isSome then 320 else 448) v
  let b := a.1.learnResult pl l d a.2
  let further := if d.rmode = 1 ∧ (v.status = Vs.MULTI ∨ v.status = Vs.UNCERTAIN) then v.cands.drop 1 else []
  let sp := spillInto i v.status pl.fieldFree 1 further
  let c := sp.2.foldl (fun x g => x.bump Reg.GAL_CNT_SPILL_LOST_COUNT 1 g) b.1
  let far : Bool := b.2.status == Vs.NEW && d.cascaded && s.cascaded && d.accMember != s.member
  let e := if c.barred pl || d.destroyAt.isSome || far then c else
    (b.2 :: sp.1.map (·.2)).foldl (fun x r => x.tallyResult l.tbl pl.tick v.cands r) c
  (e, { pl with results := setResults pl.results ((i, b.2) :: sp.1), lookups := pl.lookups.set i { l with done := true } })

/-- Every searched lookup of a record has its result. -/
def Planned.searched (pl : Planned) : Bool := pl.lookups.all fun l => l.act != .search || l.done

/-- Put a planned record back, forming its verdict once all its lookups have their results. -/
def State.putPlanned (s : State) (i : Nat) (pl : Planned) : State :=
  if pl.searched && !pl.formed then
    let f := s.formVerdict pl
    { f.1 with planned := f.1.planned.set i f.2 }
  else { s with planned := s.planned.set i pl }

/-! ## SEARCH_SLOT -/

/-- A lookup that waits for its search. -/
def LookupPlan.waits (l : LookupPlan) : Bool := l.act == .search && !l.done && l.loc.isNone && l.judged.isNone

/-- The first planned lookup, in processing order, that waits for its search: record and lookup (R15). -/
def State.nextLookup (s : State) : Option (Nat × Nat) :=
  (s.planned.zipIdx).findSome? fun (pl, i) =>
    ((pl.lookups.zipIdx).find? fun (l, _) => l.waits).map fun (_, k) => (i, k)

/-- The lookup is counted as searched in its galleries (Table 5-9, R163). -/
def State.countSearch (s : State) (n : Tick) (l : LookupPlan) : State :=
  l.sel.foldl (fun x e =>
    let a := e.2.length * slotsOf l.width
    let y := (x.bump Reg.GAL_CNT_SEARCH_COUNT 1 e.1).bump Reg.GAL_CNT_ACT_COUNT a e.1
    { y with acts := (n, e.1, a) :: y.acts }) s

/-- Put a token on a cascade port: a member whose link in that direction is lost turns it back and counts the turn (R351), and
discards it when it would turn it a third time (R344); both links lost, it stays here. -/
def State.sendOn (s : State) (down : Bool) (t : Token) : State × Option Token :=
  let wrapped (d : Bool) : Bool := if d then s.flag Reg.CSC_STATUS_WRAP_DOWN else s.flag Reg.CSC_STATUS_WRAP_UP
  if wrapped down = false then
    (if (if down then s.csc.dn else s.csc.up).st = .up then s.emit (.csc (.token down (tokenWire t))) else s, none)
  else if 2 ≤ t.wraps then (if t.origin = s.member then s else s.bump Reg.CSC_CNT_DISCARD_COUNT, none)
  else if wrapped (!down) then (s, some { t with wraps := 2 })
  else if t.origin = s.member ∧ t.wraps = 1 then (s, some { t with wraps := 2 })
  else (s.emit (.csc (.token (!down) (tokenWire { t with wraps := t.wraps + 1 }))), none)

/-- The origin's token for a lookup: sent DOWN when an even number went before it in the tick, UP otherwise (R342). -/
def State.sendToken (s : State) (n : Tick) (l : LookupPlan) : State × Nat × Option Token :=
  let tag := s.csc.nextTok
  let t : Token := { origin := s.member, tok := tag, tbl := l.tbl, width := l.width, ptick := n % 16, key := l.key }
  let c := { s.csc with nextTok := (tag + 1) % 4096, sent := s.csc.sent + 1, flight := (tag, n) :: s.csc.flight.filter fun e => e.1 ≠ tag }
  let r := ({ s with csc := c }.bump Reg.CSC_CNT_INJECT_COUNT).sendOn (s.csc.sent % 2 == 0) t
  (r.1, tag, r.2)

/-- The own result of a cascaded lookup, kept until the merge (R345). -/
def Scan.token (a : Scan) (d : Table) (rmode : Nat) : Token :=
  let base : Token := { origin := a.s.member, tok := 0, tbl := 0, width := 0, ptick := 0, key := 0, unc := a.unc, deg := d.degraded,
                        count := a.count, member := a.s.member }
  match a.best rmode with
  | [] => base
  | c :: _ => { base with found := true, entry := c.id, rank := c.rank, dref := c.dref }

/-- Change one lookup of a planned record. -/
def State.setLookup (s : State) (i k : Nat) (f : LookupPlan → LookupPlan) : State :=
  { s with planned := s.planned.modify i fun pl => { pl with lookups := pl.lookups.modify k f } }

/-- Conclude lookup k of record i with its judgement. -/
def State.concludeAt (s : State) (i k : Nat) (v : Verdict) : State :=
  match s.planned[i]? with
  | none => s
  | some pl =>
    match pl.lookups[k]? with
    | none => s
    | some l =>
      match s.table l.tbl with
      | none => s.putPlanned i { pl with lookups := pl.lookups.set k { l with done := true } }
      | some d =>
        let c := s.conclude pl k l d v
        c.1.putPlanned i c.2

/-- Every lookup of a planned record, in processing order. -/
def State.lookupOrder (s : State) : List (Nat × Nat) :=
  s.planned.zipIdx.flatMap fun e => (List.range e.1.lookups.length).map fun k => (e.2, k)

/-- Lookups that are judged are concluded in processing order, up to the first that is not (R15). -/
def State.concludeDue (s : State) : List (Nat × Nat) → State
  | [] => s
  | (i, k) :: t =>
    match (s.planned[i]?).bind fun pl => pl.lookups[k]? with
    | none => s.concludeDue t
    | some l =>
      if l.act ≠ .search ∨ l.done = true then s.concludeDue t
      else match l.judged with
        | none => s
        | some v => (s.concludeAt i k v).concludeDue t

/-! ## LEARN tokens at ACC_MEMBER (R347) -/

/-- The masked key was learned in the last 32 ticks, among the last 1,024 accessions of the table (R347). -/
def State.recentLearn (s : State) (t : Nat) (k : BitVec 640) : Bool :=
  ((s.learnLog.filter fun l => l.tbl == t && l.id.isSome).take 1024).any fun l =>
    l.key == k && decide (tickSub s.tick.now l.tick ≤ 32)

/-- A LEARN for this member: a missed lookup of the plan of tick n (R347). -/
def State.learnHere (s : State) (n : Tick) (t : Nat) (key : BitVec 640) : State :=
  match s.table t with
  | none => s
  | some d =>
    let k := key &&& d.mask &&& widthMask d.width
    if d.cascaded = false ∨ d.learnEn = false ∨ d.destroyAt.isSome = true then s
    else if s.recentLearn t k then s.bump Reg.CSC_CNT_LEARN_DUP_COUNT
    else
      let r := s.learn t d k n
      if r.2.status = Vs.NEW then r.1.countTally t r.2.entry n else r.1

/-- A record planned in tick n or before has a lookup without its result. -/
def State.unfinished (s : State) (n : Tick) : Bool := s.planned.any fun pl => tickLe pl.tick n && !pl.searched

/-- LEARN tokens are treated, in the order of their arrival, once every record of the plan in which they arrived has its results (R347). -/
def State.settleLearns (s : State) : State :=
  let ready := s.csc.learns.takeWhile fun e => !s.unfinished e.1
  ready.foldl (fun x e => x.learnHere e.1 e.2.1 e.2.2) { s with csc := { s.csc with learns := s.csc.learns.drop ready.length } }

/-- Results follow the processing order (R15, R347). -/
def State.settleResults (s : State) : State := (s.concludeDue s.lookupOrder).settleLearns

/-! ## The search of a slot -/

/-- Search lookup k of record i. -/
def State.searchLookup (s : State) (i k : Nat) : State :=
  match s.planned[i]? with
  | none => s
  | some pl =>
    match pl.lookups[k]? with
    | none => s
    | some l =>
      match s.table l.tbl with
      | none => s.putPlanned i { pl with lookups := pl.lookups.set k { l with done := true } }
      | some d =>
        let a := (s.countSearch pl.tick l).scan l.tbl d l.key pl.tick l.sel l.skip
        if l.tok.isSome then
          let t := a.s.sendToken pl.tick l
          t.1.setLookup i k fun l => { l with tok := some t.2.1, loc := some (a.token d d.rmode), ret := t.2.2 }
        else
          (a.s.setLookup i k fun l => { l with judged := some (judge d.rmode a.unc (a.best d.rmode) a.count) }).settleResults

/-- SEARCH_SLOT: the next planned lookup in processing order is searched. -/
def doSearchSlot (s : State) : State :=
  match s.nextLookup with
  | none => s
  | some (i, k) => s.searchLookup i k

/-- SEARCH_SLOT: a planned lookup is searched in its slot: compare, priority, verified match, merge, accession and
tally (R153). -/
def execSearchSlot (s : State) : Host.Outcome State Fault Refusal := .next (doSearchSlot s)

end Sys2Proof.Machine
end

