-- ==== Sys2Proof/Machine/Rows.lean ====
section
/-! DEFINITION. The row-state map as it advances (R185), the clearing of drawer rows (R213), flips (R186, R188). -/

namespace Sys2Proof.Machine

/-- Change the rows of a place. -/
def State.mapRow (s : State) (l : Loc) (f : Row → Row) : State := s.setRows (s.rows.map fun r => if r.loc = l then f r else r)

/-- The place holds nothing valid any more: journal records cover it no longer (R213). -/
def State.covered (s : State) (l : Loc) : State := { s with journal := s.journal.filterMap (JRow.less l) }

/-- A drawer place waits to be cleared (R213). -/
def State.toClear (s : State) (l : Loc) : State := if l.isDrawer then { s with cur := { s.cur with clearQ := s.cur.clearQ ++ [l] } } else s

/-- A row becomes FREE: a drawer row waits to be cleared (R213), the entry's tally counter goes with its last row (R201). -/
def State.freeRow (s : State) (r : Row) : State := ((s.setRows (s.rows.erase r)).toClear r.loc).dropTally r.tbl r.id

/-- The row has reached OFF + L. -/
def State.rowOver (s : State) (r : Row) : Bool :=
  match r.off with
  | some f => tickLe (tickAdd f s.lat) s.tick.now
  | none => false

/-- The row has reached ON + L. -/
def State.rowSettled (s : State) (r : Row) : Bool := r.st == .entering && tickLe (tickAdd r.on s.lat) s.tick.now

/-- Rows advance: LIVE from ON + L, FREE from OFF + L (Table 6-5). -/
def State.advanceRows (s : State) : State :=
  let over_ := s.rows.filter s.rowOver
  let t := s.setRows (s.rows.map fun r => if s.rowSettled r then { r with st := .live } else r)
  (t.rows.filter fun r => over_.any fun o => o.loc = r.loc && o.id = r.id && o.tbl = r.tbl).foldl State.freeRow t

/-- ROW_STATE_ADVANCE: at ON+L a row becomes LIVE, and at OFF+L it becomes FREE (R185). -/
def execRowStateAdvance (s : State) : Host.Outcome State Fault Refusal := .next s.advanceRows

/-- The rows of the medium that a place took: those of an entry of its drawer's key width (R128). -/
def State.placeRows (s : State) (l : Loc) : List Nat :=
  match l with
  | .drawer g c d _ _ => (List.range (rowsOf (s.drawer g (17 * c + d)).width)).map (l.phys + ·)
  | _ => []

/-- A place that waits can be cleared: no entry lies in its rows. A half waits until the other half is FREE too (notes/assumptions/120.md). -/
def State.clearable (s : State) (l : Loc) : Bool := (s.placeRows l).all fun k => (s.rowsAt k).isEmpty

/-- The rows of a place are cleared, one after the other. `fails`: the cells that fail verification in each. -/
def State.clearRows (s : State) : List Nat → List (List Nat) → State
  | [], _ => s
  | k :: t, f => State.clearRows (s.program k ((s.contents k).cleared k) (f.headD [])).1 t f.tail

/-- ROW_CLEAR (R213): the oldest drawer place that waits and can be cleared, in a cabinet that is not fenced, is cleared by requester 6; tombstones and move records that
cover it are freed. -/
def doRowClear (w : WriteRes) (s : State) : State :=
  match s.cur.clearQ.find? fun m => s.clearable m && !s.shut m.phys with
  | none => s
  | some l =>
    if s.reqFenced 6 = true ∨ s.portBlocked 6 = true then s
    else
      let ks := s.placeRows l
      let done := fun (m : Loc) => m == l || (m.isDrawer && ks.contains m.phys)
      let t := s.clearRows ks (w.rows.map s.failsOf)
      let u := (t.cur.clearQ.filter done).foldl State.covered t
      { u with cur := { u.cur with clearQ := u.cur.clearQ.filter fun m => !done m } }

/-- ROW_CLEAR: the curator clears the VALID bits of a drawer row that became FREE (R213). -/
def execRowClear (w : WriteRes) (s : State) : Host.Outcome State Fault Refusal := .next (s.ifCurating 6 (doRowClear w))

/-- A SET row is cancelled: it returns to FREE (R188). A drawer row so cancelled waits to be cleared (R213). -/
def State.cancelSet (s : State) (r : Row) : State :=
  (s.setRows (s.rows.erase r)).toClear r.loc

/-- Cancel the SET rows of an entry (R188). -/
def State.cancelSets (s : State) (t id : Nat) : State :=
  (s.rows.filter fun r => r.tbl == t && r.id == id && r.st == .set).foldl State.cancelSet s

/-- The vestibule row's drawer takes its bay when a split is over: a row without target is given one (R146, R174). -/
def State.retarget (s : State) (r : Row) : State :=
  match s.table r.tbl with
  | none => s
  | some d =>
    match s.reserveIn r.tbl d r.loc.gal r.value r.care with
    | some v => s.drawn.mapRow r.loc fun x => { x with target := v.unit.map (drawerKey r.loc.gal) }
    | none => s

/-- One entry flips at boundary b: ON on its SET copy, OFF on the other (R186, R189). The entry's map record moves, the
drawer is assigned (R187), and the table counts a migration or a relocation. -/
def State.flipEntry (s : State) (b : Tick) (new : Row) : State :=
  let old := s.rows.filter fun r => r.tbl == new.tbl && r.id == new.id && r.st != .set && r.st != .pending && r.off.isNone && r.loc != new.loc
  if old.isEmpty then s.cancelSet new
  else
    let mig : Bool := old.any fun r => r.loc.isVest
    let t := s.setRows (s.rows.map fun r =>
      if r = new then { r with st := .entering, on := b, maker := 0 }
      else if old.contains r then { r with off := some b } else r)
    let w := t.assignFor new
    let u := if old.any fun r => w.inBroad r then w else w.noteBroad new
    if mig then u.bump Reg.TBL_CNT_MIGRATE_COUNT 1 new.tbl else u.bump Reg.TBL_CNT_RELOCATE_COUNT 1 new.tbl

/-! ## Lost entries (R205, R206) -/

/-- An entry is lost from tick k on: its committed rows go OFF, a copy not yet flipped is cancelled, it is counted and listed, the loss
list of 16,384 overflowing (R205, R206). -/
def State.loseEntry (s : State) (t id cause : Nat) (k : Tick) : State :=
  if s.isLost t id then s
  else
    let c := s.cancelSets t id
    let u := c.setRows (c.rows.map fun r => if r.tbl = t ∧ r.id = id ∧ r.off.isNone = true ∧ r.st ≠ .pending then { r with off := some k } else r)
    let l : State := { u with lost := u.lost ++ [(t, id)] }
    let v := (l.bump Reg.TBL_CNT_LOST_COUNT 1 t).bump Reg.CUR_CNT_LOST_COUNT
    let w := if v.lossList.length < 16384 then { v with lossList := v.lossList ++ [⟨t, id, cause⟩] }
      else v.put Reg.TBLG_LOSS_OVERFLOW 1
    w.showDegraded

/-! ## Flips that commit a split, a merge or a swap -/

/-- The descriptor rows record the bay and its block for each of its drawers (R128). -/
def State.recordBlock (s : State) (g : Nat) (us : List Nat) (bay : Nat) (block : Nat × Nat) : State :=
  us.foldl (fun x u => x.setDrawer g u { x.drawer g u with bay := bay, block := block }) s

/-- The bays after a split: the block halved, the half that moves given to a new bay without units (R146). -/
def State.flipSplit (s : State) (r : Reshape) : State :=
  match s.bays.find? fun b => b.g == r.g && b.num == r.bay with
  | none => s
  | some b =>
    let half := 2 ^ (b.s - 1)
    let stay := if r.hi then b.first else b.first + half
    let move := if r.hi then b.first + half else b.first
    let t := { s with bays := s.bays.map fun x => if x = b then { x with first := stay, s := b.s - 1 } else x }
    ((t.addBay b.g b.tbl move (b.s - 1) []).recordBlock b.g b.units b.num (stay, b.s - 1)).bump Reg.GAL_CNT_SPLIT_COUNT 1 b.g

/-- The bays after a merge: one bay over both blocks with the units kept (R146). -/
def State.flipMerge (s : State) (r : Reshape) (sib : Nat) : State :=
  match s.bays.find? (fun b => b.g == r.g && b.num == r.bay), s.bays.find? (fun b => b.g == r.g && b.num == sib) with
  | some a, some b =>
    let t : State := { s with bays := (s.bays.filter fun x => x ≠ b).map fun x =>
        if x = a then { x with first := min a.first b.first, s := a.s + 1, units := r.keep } else x }
    t.recordBlock a.g (a.units ++ b.units) a.num (min a.first b.first, a.s + 1)
  | _, _ => s

/-- The code map of a split or merge whose copies flip now. -/
def State.flipReshape (s : State) (r : Reshape) : State :=
  match r.sib with
  | none => s.flipSplit r
  | some n => s.flipMerge r n

/-- A vestibule row whose entry does not belong in the drawer reserved for it, or that has none (R146, R174): the drawer is neither
free nor one of its bay or of the broad set, or it is in retirement (R241). -/
def State.misplaced (s : State) (r : Row) : Bool :=
  r.loc.isVest && r.off.isNone && (match s.table r.tbl with
    | none => false
    | some d => match r.target with
      | none => true
      | some k =>
        let g := r.loc.gal
        let x := k - drawerKey g 0
        let own := match s.bayForEntry r.tbl d g r.value r.care with | some b => b.units | none => []
        s.retiring g x || !((s.drawer g x).st == .free || own.contains x || (s.broadUnits g r.tbl).contains x))

/-- Those rows are given a drawer. -/
def State.retargetAll (s : State) : State := (s.rows.filter s.misplaced).foldl State.retarget s

/-- Drawer sx takes the place of drawer dx of gallery g in bays and broad sets, in the targets of vestibule rows and in what
GAL_DRAWER shows of it (R238 step 3). -/
def State.replaceUnit (s : State) (g dx sx : Nat) : State :=
  let sub := fun (l : List Nat) => l.map fun u => if u = dx then sx else u
  let u : State := { s with bays := s.bays.map (fun b => if b.g = g then { b with units := sub b.units } else b),
                            broad := s.broad.map fun b => if b.g = g ∧ b.unit = dx then { b with unit := sx } else b }
  let v := u.setRows (u.rows.map fun r =>
    if r.target = some (drawerKey g dx) then { r with target := some (drawerKey g sx) } else r)
  let d := v.drawer g dx
  v.setDrawer g sx { v.drawer g sx with st := .assigned, tbl := d.tbl, width := d.width, broad := d.broad, bay := d.bay, block := d.block }

/-- The flip of a spare swap (R238 step 3): S replaces D in bays and broad sets, rows that target D target S, entries
whose rows could not be copied are lost with cause 1. An entry with a copy that flips elsewhere is not lost. -/
def State.flipSwap (s : State) (w : Swap) : State :=
  let dx := 17 * w.c + w.d
  let sx := 17 * w.c + w.s
  let gone := (s.drawerRows w.g dx).filter fun r => r.off.isNone && r.st != .set &&
    !s.rows.any fun x => x.st == .set && x.tbl == r.tbl && x.id == r.id
  let t := gone.foldl (fun (x : State) r => x.loseEntry r.tbl r.id 1 s.tick.now) s
  let v := t.replaceUnit w.g dx sx
  let x := v.setDrawer w.g dx { v.drawer w.g dx with st := .selftest }
  let n := 32 * w.g + w.c
  let y := (x.setCab n { x.cab n with spare := 31 }).bump Reg.CUR_CNT_SWAP_COUNT
  { y with cur := { y.cur with swaps := y.cur.swaps.map fun z => if z = w then { w with flipAt := some s.tick.now } else z } }

end Sys2Proof.Machine
end

