-- ==== Sys2Proof/Machine/Slots.lean ====
section
/-! DEFINITION. The reserved slots of a gallery and the work they are given to (R53, R210). -/

namespace Sys2Proof.Machine

/-- Reserved slots of each gallery in a tick (R52, R53). -/
def State.reservedSlots (s : State) : Nat := ceilDiv s.period 64

/-- The entries a sweep takes: LIVE or ENTERING in a drawer, without a bit in state N. -/
def State.sweepable (s : State) : List Row :=
  s.rows.filter fun r => r.loc.isDrawer && !s.shut r.loc.phys && r.off.isNone && (r.st == .live || r.st == .entering) && !hasN (s.widthOf r.tbl) r.value r.care

/-- The sweep period in cycles: 100 to 1,000 ms (Table 7-3). -/
def State.sweepPeriod (s : State) : Nat := min (max (s.get Reg.CUR_SWEEP_PERIOD_MS) 100) 1000 * cyclesPerMs

/-- The entries of a gallery that the sweep has not searched yet. -/
def State.unswept (s : State) (g : Nat) : List Row := s.sweepable.filter fun r => r.loc.gal == g && !s.cur.swept.contains (r.tbl, r.id)

/-- Ticks left in the sweep period, at least one (R210). -/
def State.sweepTicks (s : State) : Nat := max 1 ((s.cur.sweepFrom + s.sweepPeriod - s.clock) / max s.period 1)

/-- The pace of self-search in a gallery: searches in a tick (R210). -/
def State.pace (s : State) (g : Nat) : Nat := ceilDiv (s.unswept g).length s.sweepTicks

/-- The search slots of an entry: one, two for 640 bits (R127). -/
def State.entrySlots (s : State) (r : Row) : Nat := slotsOf (s.widthOf r.tbl)

/-- The slots that self-search still claims in the tick to keep its pace. -/
def State.claimed (s : State) (g : Nat) : Nat :=
  let n := fgetD s.cur.claim g 0
  if (s.unswept g).any fun r => s.entrySlots r == 2 then 2 * n else n

/-- Reserved slots of a gallery that are used in the tick. -/
def State.slotsUsed (s : State) (g : Nat) : Nat := fgetD s.cur.slots g 0

/-- Use n reserved slots of a gallery. -/
def State.takeSlots (s : State) (g n : Nat) : State := { s with cur := { s.cur with slots := fset s.cur.slots g 0 (s.slotsUsed g + n) } }

/-- The swap of a gallery whose drawer may be tested: in place, or with D's rows FREE from b + L (R238 step 4). -/
def State.testReady (s : State) (g : Nat) : Option Swap :=
  s.cur.swaps.find? fun w => w.g == g && (s.drawerRows g (17 * w.c + w.d)).isEmpty && (w.inPlace || (match w.flipAt with
    | some b => tickLe (tickAdd b s.lat) s.tick.now
    | none => false))

/-- A self-test has searches to make in a gallery (R240). -/
def State.testSearches (s : State) (g : Nat) : Bool := match s.testReady g with | some w => decide (w.made < 4096) | none => false

/-- The slots that a TBL_FIND waiting in the command engine needs in a gallery. -/
def State.findNeeds (s : State) (g : Nat) : Nat :=
  match s.host.engine, s.host.waitFrom with
  | some c, some _ => if c.slot.opcode = 0x07 then
      (match s.table (bits c.slot.p1 5 0) with | some d => if d.gals.testBit g then slotsOf d.width else 0 | none => 0) else 0
  | _, _ => 0

/-- A TBL_FIND gets n slots of a gallery: behind calibration, which has its slots from the start of the tick, and the pace of self-search
(R210). -/
def State.findSlot (s : State) (n g : Nat) : Bool := decide (s.slotsUsed g + s.claimed g + n ≤ s.reservedSlots)

/-- A self-search gets n slots of a gallery: ahead of TBL_FIND and self-test while it is needed for the pace, behind them otherwise
(R210). -/
def State.sweepSlot (s : State) (n g : Nat) : Bool :=
  if 0 < fgetD s.cur.claim g 0 then decide (s.slotsUsed g + n ≤ s.reservedSlots)
  else !s.testSearches g && decide (s.slotsUsed g + s.findNeeds g + n ≤ s.reservedSlots)

/-- A self-search takes its slots. -/
def State.takeSweep (s : State) (g n : Nat) : State :=
  let t := s.takeSlots g n
  { t with cur := { t.cur with claim := fset t.cur.claim g 0 (fgetD t.cur.claim g 0 - 1) } }

/-- A tick ends in a gallery: the slots that nothing of higher rank used or claims have gone to the searches of a self-test; the rest were
idle. In the tick that opens, calibration searches come first (R210). -/
def State.slotsTurn (s : State) (g : Nat) : State :=
  let left := s.reservedSlots - s.slotsUsed g - s.claimed g
  let done := match s.testReady g with
    | some w => s.cur.swaps.map fun z => if z = w then { w with made := min 4096 (w.made + left) } else z
    | none => s.cur.swaps
  let cal := min s.reservedSlots (fgetD s.cur.calDue g 0)
  { s with cur := { s.cur with swaps := done, slots := fset s.cur.slots g 0 cal, calDue := fset s.cur.calDue g 0 (fgetD s.cur.calDue g 0 - cal),
                               claim := fset s.cur.claim g 0 (s.pace g) } }

/-- The reserved slots at a boundary (R210). -/
def State.slotsBoundary (s : State) : State := (List.range 8).foldl State.slotsTurn s

end Sys2Proof.Machine
end

