-- ==== Sys2Proof/Machine/Tables.lean ====
section
/-! DEFINITION. Tables: creation and destruction (R166 to R171), reading entries (R173, R176 to R178), tallies (R201 to R203,
R425), the loss list (R206). -/

namespace Sys2Proof.Machine

/-! ## Checks of a table descriptor (R167, R141, R143) -/

/-- The device is configured as a member of a cascade (Table 1-5). -/
def State.inCascade (s : State) : Bool :=
  s.flag Reg.CSC_CTRL_EN && (s.get Reg.CSC_CTRL_RING).testBit (s.get Reg.CSC_CTRL_MEMBER)

/-- A catalogue selector that breaks R141. -/
def Table.badSelector (d : Table) : Bool :=
  let ps := (List.range d.ncat).map d.pos
  decide (12 < d.ncat) || bits d.sel1 63 60 != 0 || ps.any (fun p => decide (widthBits d.width ≤ p)) || !decide ps.Nodup

/-- R167's invalid-field conditions, and R340. -/
def State.badTable (s : State) (d : Table) : Bool :=
  bits d.attr 63 21 != 0 || bits d.limit 63 24 != 0 || bits d.learn2 31 22 != 0 || bits d.learn2 63 41 != 0 ||
    d.rmode == 3 || d.gals == 0 || d.badSelector || (d.mask &&& ~~~widthMask d.width) != 0 ||
    (d.learnEn && d.learnCount == 0) || decide (2 ^ 24 < d.learnBase + d.learnCount) ||
    (!d.ranked && d.learnRank != 0) || (d.tallyEn && d.tallyNblk == 0) || (!d.tallyEn && d.tallyNblk != 0) ||
    (d.cascaded && (!s.inCascade || !(s.get Reg.CSC_CTRL_RING).testBit d.accMember || d.rmode == 1)) ||
    (!d.cascaded && d.accMember != 0)

/-- Code-map entries in use in a gallery (R143). -/
def State.codesUsed (s : State) (g : Nat) : Nat :=
  (s.tables.map fun e => if e.2.gals.testBit g && !e.2.outOfService then 2 ^ e.2.ncat else 0).sum

/-- Tally blocks no table owns. -/
def State.freeBlocks (s : State) : List Nat := (List.range 256).filter fun b => !s.tables.any fun e => e.2.blocks.contains b

/-- The table fits: code-map entries, a bay in every spanned gallery, tally blocks (R167). -/
def State.tableFits (s : State) (d : Table) : Bool :=
  (d.galList.all fun g => decide (s.codesUsed g + 2 ^ d.ncat ≤ 16384) && !(s.freeBays g).isEmpty) &&
    decide (d.tallyNblk ≤ s.freeBlocks.length)

/-- Tally blocks are given to a table. Which free ones is a free value (notes/assumptions/3.md). -/
def State.giveBlocks : Nat → Nat → State → State
  | 0, _, s => s
  | n + 1, t, s =>
    match s.pick s.freeBlocks, s.table t with
    | some b, some d => State.giveBlocks n t (s.drawn.setTable t { d with blocks := d.blocks ++ [b] })
    | _, _ => s

/-- A table takes its bays and tally blocks: one bay over all its codes in every spanned gallery (R143, R168). -/
def State.allot (s : State) (t : Nat) (d : Table) : State :=
  let u := d.galList.foldl (fun (x : State) g => x.addBay g t 0 d.ncat []) (s.setTable t { d with blocks := [] })
  State.giveBlocks d.tallyNblk t u

/-! ## TBL_CREATE -/

/-- TBL_CREATE: the checks of R167 in order. -/
def coreTblCreate (s : State) (_own : Option (Nat × Nat × Nat)) (f : Nat) (c : CmdSlot) (d : Dma) : Ran :=
  let t := bits c.p1 5 0
  if f ≠ 0 then s.deny Sts.DENIED
  else match d.rd with
    | none => s.dmaDeny f
    | some b =>
      let k := tableOfBytes b
      if badParams c || s.badTable k then s.deny Sts.INVALID_FIELD
      else if (s.table t).isSome then s.deny Sts.EXISTS
      else if s.tableFits k = false then s.deny Sts.NO_RESOURCE
      else { s := s.allot t { k with creating := true, learnLast := k.learnBase + k.learnCount - 1 } }

/-- TBL_CREATE: command TBL_CREATE checks a descriptor and creates a table at the next boundary (R167, R170). -/
def execTblCreate (d : Dma) (s : State) : Host.Outcome State Fault Refusal := .next (s.runOp 0x01 d coreTblCreate)

/-- The counters of a table are cleared when it is created (R207). -/
def State.clearTable (s : State) (t : Nat) : State :=
  [Reg.TBL_CNT_INSERT_COUNT, Reg.TBL_CNT_DELETE_COUNT, Reg.TBL_CNT_MODIFY_COUNT, Reg.TBL_CNT_ACCESSION_COUNT,
    Reg.TBL_CNT_LEARN_FULL_COUNT, Reg.TBL_CNT_COMMIT_COUNT, Reg.TBL_CNT_ABORT_COUNT, Reg.TBL_CNT_MIGRATE_COUNT,
    Reg.TBL_CNT_RELOCATE_COUNT, Reg.TBL_CNT_NO_TALLY_COUNT, Reg.TBL_CNT_LOST_COUNT].foldl (fun (x : State) F => x.put F 0 t) s

/-! ## TBL_DESTROY -/

/-- An enabled lookup of a channel that is not free references the table (R113, R171). -/
def State.referenced (s : State) (t : Nat) : Bool :=
  s.chans.any fun c => c.2.st != .free && c.2.lookups.any fun w => Lk.en w && Lk.table w == t

/-- An edit group holds the table's edit lock (R179). -/
def State.tableLocked (s : State) (t : Nat) : Bool := (s.groupOf t).isSome

/-- TBL_DESTROY: the checks of R171 in order. -/
def coreTblDestroy (s : State) (own : Option (Nat × Nat × Nat)) (f : Nat) (c : CmdSlot) (_d : Dma) : Ran :=
  let t := bits c.p1 5 0
  if f ≠ 0 ∨ s.writeLocked t = true then s.deny Sts.DENIED
  else if badParams c then s.deny Sts.INVALID_FIELD
  else match s.liveTable t with
    | none => s.deny Sts.NOT_FOUND
    | some k =>
      if s.referenced t then s.deny Sts.IN_USE
      else if s.tableLocked t then s.deny Sts.LOCKED
      else { s := s.setTable t { k with destroying := true, cmd := own }, later := true }

/-- TBL_DESTROY: command TBL_DESTROY turns the table's rows OFF at the next boundary (R171). -/
def execTblDestroy (s : State) : Host.Outcome State Fault Refusal := .next (s.runOp 0x02 {} coreTblDestroy)

/-- Tables at boundary k: created ones exist, destroyed ones lose every row, unless their mirrored operation is not due
(R170, R171, R324). -/
def State.tablesBoundary (s : State) (k : Tick) : State :=
  s.tables.foldl (fun (x : State) e =>
    let y := if e.2.creating && !x.heldBack 0x01 e.1 then (x.setTable e.1 { e.2 with creating := false }).clearTable e.1 else x
    match y.table e.1 with
    | none => y
    | some d =>
      if d.creating || !d.destroying || d.destroyAt.isSome || y.heldBack 0x02 e.1 then y
      else
        let z := y.setTable e.1 { d with destroyAt := some k }
        z.setRows (z.rows.map fun r => if r.tbl = e.1 ∧ r.off.isNone = true then { r with off := some k } else r)) s

/-- TABLE_DESTROY_COMPLETE (R171): at boundary k + L the table's number, tally blocks, code-map entries and bays are freed,
its directory record deleted and the command completed. -/
def doTableDestroyComplete (t : Fin 64) (s : State) : State :=
  match s.table t.val with
  | none => s
  | some d =>
    match d.destroyAt with
    | none => s
    | some k =>
      if tickLe (tickAdd k s.lat) s.tick.now = false then s
      else
        let u := s.advanceRows
        let v := u.dropTable t.val
        let w : State := { v with bays := v.bays.filter (fun b => b.tbl ≠ t.val), broad := v.broad.filter (fun b => b.tbl ≠ t.val),
                                  tallies := v.tallies.filter (fun x => x.tbl ≠ t.val), lost := v.lost.filter (fun e => e.1 ≠ t.val),
                                  learnLog := v.learnLog.filter fun l => l.tbl ≠ t.val }
        w.completeNow d.cmd Sts.SUCCESS

/-- TABLE_DESTROY_COMPLETE: at k+L the table's resources are freed and TBL_DESTROY completes (R171). -/
def execTableDestroyComplete (t : Fin 64) (s : State) : Host.Outcome State Fault Refusal := .next (doTableDestroyComplete t s)

/-! ## TBL_READ, TBL_NEXT, TBL_FIND (R176 to R178) -/

/-- The table a read command names: it exists at the start of the tick. -/
def State.readTable (s : State) (t : Nat) : Option Table :=
  match s.table t with
  | some d => if d.creating then none else some d
  | none => none

/-- The function may read entries of the table (R177). -/
def State.mayRead (s : State) (f t : Nat) : Bool := s.searchRight f t || s.editRight f t

/-- The row of an entry as committed at the start of the tick (R178). -/
def State.committed (s : State) (t id : Nat) : Option Row :=
  s.rows.find? fun r => r.tbl == t && r.id == id && r.enabledAt s.tick.now

/-- INFO of an entry (Table 6-3). -/
def State.infoOf (s : State) (r : Row) : Nat :=
  let h := match s.tallyOf r.tbl r.id with
    | some x => 8 + x.idx * 2 ^ 24
    | none => 0
  (if r.learned then 2 else 0) + (if r.loc.isVest then 4 else 0) + h

/-- The record of a committed entry. -/
def State.recordOf (s : State) (w : Nat) (r : Row) : List Byte := entryBytes w r.id r.rank r.dref (s.infoOf r) r.value r.care

/-- The record of an ID: the committed entry's, or LOST with the ID and zeros for a lost one (R205); none for no entry. -/
def State.recordFor (s : State) (t id w : Nat) : Option (List Byte) :=
  if s.isLost t id then some (entryBytes w id 0 0 1 0 0) else (s.committed t id).map (s.recordOf w)

/-- The committed entry's rows lie in a fenced cabinet: the port's reads of them end in error completions (R304, R305), so that the command
completes FENCED (notes/assumptions/130.md). -/
def State.readShut (s : State) (t id : Nat) : Bool :=
  !s.isLost t id && (match s.committed t id with | some r => s.shut r.loc.phys | none => false)

/-- TBL_READ (R178). -/
def coreTblRead (s : State) (_own : Option (Nat × Nat × Nat)) (f : Nat) (c : CmdSlot) (d : Dma) : Ran :=
  let t := bits c.p1 5 0
  if s.reqFenced 0 then s.deny Sts.FENCED
  else if badParams c then s.deny Sts.INVALID_FIELD
  else if s.mayRead f t = false then s.deny Sts.DENIED
  else match s.readTable t with
    | none => s.deny Sts.NOT_FOUND
    | some k =>
      match s.recordFor t (bits c.p1 55 32) k.width with
      | none => s.deny Sts.NOT_FOUND
      | some b => if s.readShut t (bits c.p1 55 32) then s.deny Sts.FENCED else s.hostPut f c.p0.toNat b d

/-- TBL_READ: command TBL_READ writes an entry record from committed state (R178). -/
def execTblRead (d : Dma) (s : State) : Host.Outcome State Fault Refusal := .next (s.runOp 0x06 d coreTblRead)

/-- The lowest committed ID of a table at or above `id`, lost ones only where asked (Table 6-4). -/
def State.nextId (s : State) (t id : Nat) (lost : Bool) : Option Nat :=
  let live := (s.rows.filter fun r => r.tbl == t && r.enabledAt s.tick.now && !s.isLost t r.id).map (·.id)
  let gone := if lost then (s.lost.filter fun e => e.1 = t).map (·.2) else []
  ((live ++ gone).filter fun n => decide (id ≤ n)).foldl (fun (b : Option Nat) n => match b with
    | none => some n
    | some m => some (min m n)) none

/-- TBL_NEXT (R176, R178). -/
def coreTblNext (s : State) (_own : Option (Nat × Nat × Nat)) (f : Nat) (c : CmdSlot) (d : Dma) : Ran :=
  let t := bits c.p1 5 0
  if s.reqFenced 0 then s.deny Sts.FENCED
  else if badParams c then s.deny Sts.INVALID_FIELD
  else if s.mayRead f t = false then s.deny Sts.DENIED
  else match s.readTable t with
    | none => s.deny Sts.NOT_FOUND
    | some k =>
      match s.nextId t (bits c.p1 55 32) (bitOf c.p1 56) with
      | none => s.deny Sts.NOT_FOUND
      | some n =>
        match s.recordFor t n k.width with
        | none => s.deny Sts.NOT_FOUND
        | some b => if s.readShut t n then s.deny Sts.FENCED else s.hostPut f c.p0.toNat b d

/-- TBL_NEXT: command TBL_NEXT returns the entry with the lowest ID at or above the given ID (R176). -/
def execTblNext (d : Dma) (s : State) : Host.Outcome State Fault Refusal := .next (s.runOp 0x08 d coreTblNext)

/-- A result word of TBL_FIND (R178). -/
def Result.findWord (r : Result) : Nat := r.status + r.entry * 2 ^ 4 + r.data * 2 ^ 28

/-- The search of a TBL_FIND: its effects on the device and its four result words. -/
def State.find (s : State) (t : Nat) (d : Table) (key : BitVec 640) : State × List Nat :=
  let sel := s.selectUnits s.bays s.broad t d key
  let a := s.scan t d key s.tick.now sel.1 sel.2
  let v := judge d.rmode a.unc (a.best d.rmode) a.count
  let r := a.s.resultOf 0 s.tick.now d.rmode 1 0 0 v
  let further := if d.rmode = 1 ∧ (v.status = Vs.MULTI ∨ v.status = Vs.UNCERTAIN) then v.cands.drop 1 else []
  let sp := spillInto 0 v.status (fun _ => true) 1 further
  let u := sp.2.foldl (fun (x : State) g => x.bump Reg.GAL_CNT_SPILL_LOST_COUNT 1 g) r.1
  (u, (setResults (List.replicate 4 { status := Vs.NOT_SEARCHED }) ((0, r.2) :: sp.1)).map Result.findWord)

/-- TBL_FIND (R178): in reserved slots of each spanned gallery; it waits in the engine for them (R210). -/
def coreTblFind (s : State) (_own : Option (Nat × Nat × Nat)) (f : Nat) (c : CmdSlot) (d : Dma) : Ran :=
  let t := bits c.p1 5 0
  if s.reqFenced 0 then s.deny Sts.FENCED
  else if badParams c then s.deny Sts.INVALID_FIELD
  else if s.mayRead f t = false then s.deny Sts.DENIED
  else match s.readTable t with
    | none => s.deny Sts.NOT_FOUND
    | some k =>
      if k.outOfService then s.deny Sts.DENIED
      else match d.rd with
        | none => s.dmaDeny f
        | some b =>
          if (k.galList.all (s.findSlot (slotsOf k.width))) = false then { s := s, wait := true }
          else
          let u := k.galList.foldl (fun (x : State) g => x.takeSlots g (slotsOf k.width)) s
          let r := u.find t k (BitVec.ofNat 640 (leAt b 0 (entryV k.width)) &&& widthMask k.width)
          r.1.hostPut f (c.p0.toNat + entryV k.width) (r.2.flatMap (leBytes 8)) d

/-- TBL_FIND: command TBL_FIND searches a key in reserved slots and writes four result words (R178). -/
def execTblFind (d : Dma) (s : State) : Host.Outcome State Fault Refusal := .next (s.runOp 0x07 d coreTblFind)

/-! ## Tallies -/

/-- The counter a tally command names, with its status otherwise (R302, R425, R461). -/
def State.tallyFor (s : State) (right : Bool) (t id : Nat) : Except Nat Tally :=
  if s.reqFenced 0 then .error Sts.FENCED
  else if right = false then .error Sts.DENIED
  else match s.readTable t with
    | none => .error Sts.NOT_FOUND
    | some d =>
      if d.outOfService then .error Sts.DENIED
      else match s.tallyOf t id with
        | some x => if (s.committed t id).isSome then .ok x else .error Sts.NOT_FOUND
        | none => .error Sts.NOT_FOUND

/-- TALLY_READ (R425). -/
def coreTallyRead (s : State) (_own : Option (Nat × Nat × Nat)) (f : Nat) (c : CmdSlot) (_d : Dma) : Ran :=
  let t := bits c.p1 5 0
  if badParams c then s.deny Sts.INVALID_FIELD
  else match s.tallyFor (f == 0 || (s.flag Reg.BOOT_PMAP_TALLY_READ f && s.searchRight f t)) t (bits c.p1 55 32) with
  | .ok x => { s := s, result := x.count }
  | .error e => s.deny e

/-- TALLY_READ: command TALLY_READ returns an entry's counter (R425). -/
def execTallyRead (s : State) : Host.Outcome State Fault Refusal := .next (s.runOp 0x28 {} coreTallyRead)

/-- Set a tally counter. -/
def State.setTally (s : State) (idx v : Nat) : State :=
  { s with tallies := s.tallies.map fun x => if x.idx = idx then { x with count := v % 2 ^ 32 } else x }

/-- TALLY_WRITE (R203, R425). -/
def coreTallyWrite (s : State) (_own : Option (Nat × Nat × Nat)) (f : Nat) (c : CmdSlot) (_d : Dma) : Ran :=
  let t := bits c.p1 5 0
  if badParams c then s.deny Sts.INVALID_FIELD
  else match s.tallyFor (f == 0 || (s.flag Reg.BOOT_PMAP_TALLY_WRITE f && s.editRight f t)) t (bits c.p1 55 32) with
  | .ok x => { s := s.setTally x.idx (bits c.p0 31 0) }
  | .error e => s.deny e

/-- TALLY_WRITE: command TALLY_WRITE sets an entry's counter (R425). -/
def execTallyWrite (s : State) : Host.Outcome State Fault Refusal := .next (s.runOp 0x29 {} coreTallyWrite)

/-- TALLY_WINDOW_WRITE: a host write sets a tally counter through the tally window; one that no entry holds is ignored
(R203). -/
def execTallyWindowWrite (counter : BitVec 20) (v : BitVec 32) (s : State) : Host.Outcome State Fault Refusal :=
  .next (s.onService fun x => x.setTally counter.toNat v.toNat)

/-- TBLG_LOSS_NEXT: a write of 1 to TBLG_LOSS_NEXT removes the head record of the loss list (R206). -/
def execTblgLossNext (s : State) : Host.Outcome State Fault Refusal :=
  .next (s.onService fun x => { x with lossList := x.lossList.tail })

end Sys2Proof.Machine
end

