-- ==== Sys2Proof/Machine/Edits.lean ====
section
/-! DEFINITION. Edit groups: opening, staging, commit, release by the wear governor and abort (R172 to R187, R191, R192,
R219, R326). -/

namespace Sys2Proof.Machine

/-! ## Groups -/

/-- Replace the groups. -/
def State.setGroups (s : State) (l : List Group) : State := { s with groups := l }

/-- Replace a table's group. -/
def State.setGroup (s : State) (g : Group) : State :=
  s.setGroups (s.groups.map fun x => if x.tbl = g.tbl then g else x)

/-- A group number from 1 to 65,535 that no open group has. Which one is a free value (notes/assumptions/3.md). -/
def State.newGroupNum (s : State) : Nat :=
  (((List.range (s.groups.length + 1)).map fun i => 1 + (s.peek + i) % 65535).find? fun n =>
    !s.groups.any fun g => g.num == n).getD 0

/-- The open group an edit command names (R179): of this table and function; `peer`: it is the origin's group. -/
def State.openGroup (s : State) (t num func : Nat) (peer : Bool) : Option Group :=
  s.groups.find? fun g => g.tbl == t && g.num == num && g.func == func && g.st == .open && !g.ungrouped && g.fromPeer == peer

/-- The edit of an ID in a group. -/
def Group.editOf (g : Group) (id : Nat) : Option Edit := g.edits.find? fun e => e.id == id

/-- The entry exists in the table, committed, made by accession, or lost (R172). -/
def State.baseExists (s : State) (t id : Nat) : Bool := (s.entry t id).isSome || s.isLost t id

/-- The entry exists in the group's view (R182). -/
def State.viewExists (s : State) (g : Group) (id : Nat) : Bool :=
  match g.editOf id with
  | some e => e.op != .delete
  | none => s.baseExists g.tbl id

/-- The ID may not be inserted: it lies in the learn range, or outside the member's slice of a cascaded table (R183, R339). -/
def State.outOfRange (s : State) (t : Nat) (d : Table) (id : Nat) : Bool :=
  d.inLearn id || (d.cascaded && (decide (id < s.get Reg.CSC_SLICE_LO t) || decide (s.get Reg.CSC_SLICE_HI t < id)))

/-- The staged row and the tombstone of an ID in a group are freed (R180, R182). -/
def State.dropStaged (s : State) (g : Group) (id : Nat) : State :=
  let t := s.setRows (s.rows.filter fun r => !(r.st == .pending && r.tbl == g.tbl && r.id == id && r.group == g.num))
  { t with journal := t.journal.filter fun j => !(j.tomb && !j.committed && j.tbl == g.tbl && j.id == id) }

/-! ## Staging -/

/-- What staging an edit comes to. -/
inductive Staged where
  | ok (s : State) (g : Group)
  | fail (status : Nat)
  | wait
  deriving DecidableEq, Repr

/-- Note an edit in its group, in place of an earlier one of the ID (R182). -/
def Group.note (g : Group) (e : Edit) : Group := { g with edits := (g.edits.filter fun x => x.id ≠ e.id) ++ [e] }

/-- Stage a deletion: it cancels an insert of the same group; a drawer entry takes a tombstone (R182, R191). -/
def State.stageDelete (s : State) (g : Group) (id : Nat) : Staged :=
  let u := s.dropStaged g id
  if s.baseExists g.tbl id = false then .ok u { g with edits := g.edits.filter fun x => x.id ≠ id }
  else
    let g' := g.note { op := .delete, id := id, existed := true }
    match s.entry g.tbl id with
    | none => .ok u g'
    | some r =>
      if r.loc.isDrawer = false then .ok u g'
      else if u.journalFull r.loc.gal r.loc.cabinet then .wait
      else .ok (u.tombstone r false) g'

/-- Stage contents in a free row (R174, R175, R191). -/
def State.stagePut (s : State) (g : Group) (d : Table) (op : EditOp) (r : EntryRec) : Staged :=
  let u := s.dropStaged g r.id
  match u.place g.tbl d r.value r.care with
  | .noRoom => .fail Sts.NO_ROOM
  | .full => .wait
  | .at_ loc v =>
    let row : Row :=
      { loc := loc, tbl := g.tbl, id := r.id, rank := r.rank, dref := r.dref, value := r.value, care := r.care, st := .pending,
        group := g.num, target := (Placed.at_ loc v).target d, since := s.clock }
    let x := u.drawn.setRows (u.rows ++ [row])
    .ok (if d.transient then x else x.journalAt loc) (g.note { op := op, id := r.id, existed := s.baseExists g.tbl r.id })

/-- Stage one edit of a group (R176, R182 to R184). -/
def State.stage (s : State) (g : Group) (d : Table) (op : EditOp) (r : EntryRec) : Staged :=
  let ex := s.viewExists g r.id
  if op = .insert ∧ ex = true then .fail Sts.EXISTS
  else if op ≠ .insert ∧ ex = false then .fail Sts.NOT_FOUND
  else if op = .insert ∧ s.outOfRange g.tbl d r.id = true then .fail Sts.RANGE
  else if 4096 ≤ g.edits.length ∧ (g.editOf r.id).isNone = true then .fail Sts.GROUP_FULL
  else match op with
    | .delete => s.stageDelete g r.id
    | .insert => if s.tableFull g.tbl then .fail Sts.TABLE_FULL else s.stagePut g d .insert r
    | .modify => s.stagePut g d (match g.editOf r.id with | some e => if e.op = .insert then .insert else .modify | none => .modify) r

/-! ## The edit commands -/

/-- An entry record that R173 refuses for a table. -/
def Table.badRecord (d : Table) (r : EntryRec) : Bool := r.rsvd != 0 || r.wide || (!d.ranked && r.rank != 0)

/-- An edit of a table is refused to a function (R177, R461). -/
def State.editDenied (s : State) (f t : Nat) : Bool :=
  !s.editRight f t || s.writeLocked t || (match s.table t with | some d => d.outOfService | none => false)

/-- The group an edit acts in: an open one, or a new ungrouped one when the lock is free; otherwise a status. -/
def State.groupFor (s : State) (t num f : Nat) (own : Option (Nat × Nat × Nat)) : Except Nat Group :=
  if num ≠ 0 then
    match s.openGroup t num f own.isNone with
    | some g => .ok g
    | none => .error Sts.NO_GROUP
  else if s.tableLocked t then .error Sts.LOCKED
  else .ok { num := 0, tbl := t, func := f, lease := 0, ungrouped := true, st := .ready, order := s.cur.deferOrder,
             mirrored := s.seam.pair == .paired, fromPeer := own.isNone, cmd := own }

/-- A later command of an open group starts its lease again (R181). -/
def State.relet (s : State) (g : Group) : State := if g.ungrouped then s else s.setGroup { g with leaseAt := s.clock }

/-- The outcome of a staged edit: a group's edit completes at once and starts its lease again; an ungrouped one at its
commit (R179, R181). -/
def State.staged (s : State) (num : Nat) (g : Group) : Ran :=
  if num ≠ 0 then { s := s.setGroup { g with leaseAt := s.clock } }
  else { s := { s with groups := s.groups ++ [g], cur := { s.cur with deferOrder := s.cur.deferOrder + 1 } }, later := true }

/-- An edit waits for a vestibule row, unless VEST_WAIT is 0 (R184). -/
def State.vestFull (s : State) (t : Nat) : State :=
  (s.put Reg.TBL_STATUS_VESTIBULE_FULL 1 t).raiseRate (Ev.VESTIBULE_FULL t)

/-- The record of an insert or modify is refused (R173). -/
def State.badEdit (s : State) (t : Nat) (op : EditOp) (r : EntryRec) : Bool :=
  match s.liveTable t with
  | some d => op != .delete && d.badRecord r
  | none => op != .delete && r.rsvd != 0

/-- Run one edit: the checks of R176 in order, then its staging. A command that a check ahead of the group's refuses is none of the group:
it does not start the lease again (DESIGN CHOICE, notes/assumptions/126.md). -/
def State.runEdit (s : State) (own : Option (Nat × Nat × Nat)) (f t num : Nat) (op : EditOp) (r : EntryRec) : Ran :=
  if s.badEdit t op r then s.deny Sts.INVALID_FIELD
  else if s.editDenied f t then s.deny Sts.DENIED
  else match s.groupFor t num f own with
    | .error e => s.deny e
    | .ok g =>
      match s.liveTable t with
      | none => s.deny Sts.NOT_FOUND
      | some d =>
        match s.stage g d op r with
        | .ok u g' => u.staged num g'
        | .fail e => (s.relet g).deny e
        | .wait =>
          let w := s.relet g
          if s.get Reg.TBLG_CTRL_VEST_WAIT = 0 then (w.vestFull t).deny Sts.VESTIBULE_FULL else { s := w, wait := true }

/-- The width of the records of a table. -/
def State.recWidth (s : State) (t : Nat) : Nat := match s.table t with | some d => d.width | none => 1

/-- TBL_INSERT and TBL_MODIFY: the record is read first (R176). -/
def coreEdit (op : EditOp) (s : State) (own : Option (Nat × Nat × Nat)) (f : Nat) (c : CmdSlot) (d : Dma) : Ran :=
  let t := bits c.p1 5 0
  if s.reqFenced 0 then s.deny Sts.FENCED
  else match d.rd with
    | none => s.dmaDeny f
    | some b =>
      if badParams c then s.deny Sts.INVALID_FIELD
      else s.runEdit own f t (bits c.p1 31 16) op (entryOfBytes b (s.recWidth t))

/-- TBL_DELETE. -/
def coreTblDelete (s : State) (own : Option (Nat × Nat × Nat)) (f : Nat) (c : CmdSlot) (_d : Dma) : Ran :=
  if s.reqFenced 0 then s.deny Sts.FENCED
  else if badParams c then s.deny Sts.INVALID_FIELD
  else s.runEdit own f (bits c.p1 5 0) (bits c.p1 31 16) .delete
    { id := bits c.p1 55 32, rank := 0, dref := 0, rsvd := 0, info := 0, value := 0, care := 0, wide := false }

/-- TBL_INSERT: command TBL_INSERT stages an entry in a group or as an ungrouped edit (R176, R179). -/
def execTblInsert (d : Dma) (s : State) : Host.Outcome State Fault Refusal := .next (s.runOp 0x03 d (coreEdit .insert))

/-- TBL_DELETE: command TBL_DELETE stages a deletion (R176, R182). -/
def execTblDelete (s : State) : Host.Outcome State Fault Refusal := .next (s.runOp 0x04 {} coreTblDelete)

/-- TBL_MODIFY: command TBL_MODIFY stages new contents for an entry, or restores a lost entry (R176, R205). -/
def execTblModify (d : Dma) (s : State) : Host.Outcome State Fault Refusal := .next (s.runOp 0x05 d (coreEdit .modify))

/-- VEST_WAIT_EXPIRY: an insert waiting for a vestibule row reaches VEST_WAIT and completes VESTIBULE_FULL (R184). -/
def execVestWaitExpiry (s : State) : Host.Outcome State Fault Refusal :=
  match s.host.engine, s.host.waitFrom with
  | some c, some k =>
    if c.slot.opcode = 0x07 then .next s
    else if k + s.get Reg.TBLG_CTRL_VEST_WAIT * cyclesPerMs ≤ s.clock then .next ((s.vestFull c.table).finish c Sts.VESTIBULE_FULL)
    else .next s
  | _, _ => .next s

/-! ## EDIT_BEGIN, EDIT_COMMIT, EDIT_ABORT -/

/-- The group EDIT_BEGIN opens (R179, R181). -/
def State.beginGroup (s : State) (t f ms : Nat) : Group :=
  let l := if ms = 0 then max (s.get Reg.TBLG_CTRL_LEASE_DEF) 1 else ms
  { num := s.newGroupNum, tbl := t, func := f, lease := l, leaseAt := s.clock, mirrored := s.seam.pair == .paired }

/-- EDIT_BEGIN's own part: rights, table, lock (R177, R179). -/
def coreEditBegin (s : State) (_own : Option (Nat × Nat × Nat)) (f : Nat) (c : CmdSlot) (_d : Dma) : Ran :=
  let t := bits c.p1 5 0
  if badParams c then s.deny Sts.INVALID_FIELD
  else if s.editDenied f t then s.deny Sts.DENIED
  else match s.liveTable t with
    | none => s.deny Sts.NOT_FOUND
    | some _ =>
      if s.tableLocked t then s.deny Sts.LOCKED
      else
        let g := s.beginGroup t f (bits c.p1 31 16)
        { s := s.drawn.setGroups (s.groups ++ [g]), result := g.num }

/-- The value of the engine's mirrored operation while it waits for a LOCK_ANS. -/
def lockWaits : Nat := 65536

/-- EDIT_BEGIN: in PAIRED state the peer's lock is asked for and the command waits for the answer (R326). -/
def doEditBegin (s : State) : State :=
  match s.engineOp 0x09 with
  | none => s
  | some c =>
    if s.host.mirror.isSome then s
    else
      let r := coreEditBegin s (some c.own) c.func c.slot {}
      if s.seam.pair = .paired ∧ r.status = Sts.SUCCESS then
        let t := r.s.sendSeam (.lockReq c.table r.result c.func)
        { t with seam := { t.seam with lockWait := [(c.table, r.result)] }, host := { t.host with mirror := some lockWaits } }
      else State.complete c r

/-- EDIT_BEGIN: command EDIT_BEGIN takes the edit lock and opens a group (R179). -/
def execEditBegin (s : State) : Host.Outcome State Fault Refusal := .next (doEditBegin s)

/-- The group's commit is bound. -/
def Group.isBound (g : Group) : Bool := match g.st with | .bound _ => true | _ => false

/-- The group of a function by its number whose EDIT_COMMIT is not agreed yet: open, or with an EDIT_COMMIT in execution (R180). -/
def State.abortable (s : State) (num f : Nat) : Option Group :=
  s.groups.find? fun g => g.num == num && g.func == f && !g.isBound && !g.ungrouped && !g.fromPeer && num != 0

/-- The open group of a function by its number (R179). -/
def State.groupByNum (s : State) (num f : Nat) (peer : Bool) : Option Group :=
  s.groups.find? fun g => g.num == num && g.func == f && g.st == .open && !g.ungrouped && g.fromPeer == peer && num != 0

/-- EDIT_COMMIT (R177, R187): its staged rows are written; the commit record follows and the group is ready for its
boundary. -/
def coreEditCommit (s : State) (own : Option (Nat × Nat × Nat)) (f : Nat) (c : CmdSlot) (_d : Dma) : Ran :=
  if badParams c then s.deny Sts.INVALID_FIELD
  else match s.groupByNum (bits c.p1 31 16) f own.isNone with
  | none => s.deny Sts.NO_GROUP
  | some g =>
    if s.reqFenced 0 then (s.relet g).deny Sts.FENCED
    else if s.editDenied f g.tbl then (s.relet g).deny Sts.DENIED
    else
      let u := s.setGroup { g with st := .ready, order := s.cur.deferOrder, cmd := own }
      { s := { u with cur := { u.cur with deferOrder := s.cur.deferOrder + 1 } }, later := true }

/-- EDIT_COMMIT: command EDIT_COMMIT waits for the staged writes and writes the commit record (R187). -/
def execEditCommit (s : State) : Host.Outcome State Fault Refusal := .next (s.runOp 0x0A {} coreEditCommit)

/-- A group aborts (R180): its staged rows, journal rows and IDs are freed, its lock released, its cause set, the event
raised; an EDIT_COMMIT in execution completes with the aborted status, and the twin is told. -/
def State.abortGroup (s : State) (g : Group) (cause : Option Field) : State :=
  let t := g.edits.foldl (fun (x : State) e => x.dropStaged g e.id) s
  let u := (t.setGroups (t.groups.filter fun x => x ≠ g)).bump Reg.TBL_CNT_ABORT_COUNT 1 g.tbl
  let v := (match cause with | some F => u.put F 1 g.tbl | none => u).raise Ev.EDIT_ABORT
  let w := match g.cmd with | some (f, i, c) => v.owedReady f i c Sts.ABORTED | none => v
  if g.mirrored && !g.fromPeer && s.seam.pair == .paired then w.sendSeam (.abort (65536 + g.num)) else w

/-- EDIT_ABORT (R180). -/
def coreEditAbort (s : State) (_own : Option (Nat × Nat × Nat)) (f : Nat) (c : CmdSlot) (_d : Dma) : Ran :=
  if badParams c then s.deny Sts.INVALID_FIELD
  else match s.abortable (bits c.p1 31 16) f with
  | none => s.deny Sts.NO_GROUP
  | some g => { s := s.abortGroup g none }

/-- EDIT_ABORT: command EDIT_ABORT aborts the group and frees its staged rows (R180). -/
def execEditAbort (s : State) : Host.Outcome State Fault Refusal := .next (s.runOp 0x0B {} coreEditAbort)

/-- EDIT_LEASE_EXPIRY (R180, R181): the lease of an open group has run out. The peer holds its lock under the origin's
lease (R326). -/
def doEditLeaseExpiry (t : Fin 64) (s : State) : State :=
  match s.groupOf t.val with
  | none => s
  | some g => if g.st = .open ∧ g.ungrouped = false ∧ g.fromPeer = false ∧ g.leaseAt + g.lease * cyclesPerMs ≤ s.clock then
      s.abortGroup g (some Reg.TBL_STATUS_ABORT_LEASE)
    else s

/-- EDIT_LEASE_EXPIRY: a group's lease expires and the group is aborted (R180). -/
def execEditLeaseExpiry (t : Fin 64) (s : State) : Host.Outcome State Fault Refusal := .next (doEditLeaseExpiry t s)

/-! ## Commit -/

/-- One edit takes effect at boundary k (R187): the staged row goes ON, the entry's other rows OFF, flips of the entry are
cancelled (R188), a lost entry is restored or freed (R205), a new entry gets its tally counter and a deleted one loses it with its last
row (R201). -/
def State.commitEdit (s : State) (g : Group) (k : Tick) (e : Edit) : State :=
  let t := s.cancelSets g.tbl e.id
  let staged := t.rows.find? fun r => r.st == .pending && r.tbl == g.tbl && r.id == e.id && r.group == g.num
  let u := t.setRows (t.rows.map fun r =>
    if r.tbl = g.tbl ∧ r.id = e.id then
      if r.st = .pending ∧ r.group = g.num then { r with st := .entering, on := k, group := 0, owing := g.released && r.loc.isVest }
      else if r.off.isNone then { r with off := some k } else r
    else r)
  let v : State := { u with lost := u.lost.filter (fun x => x ≠ (g.tbl, e.id)),
                            journal := u.journal.map fun j => if j.tomb ∧ j.tbl = g.tbl ∧ j.id = e.id then { j with committed := true } else j }
  let w := match staged with
    | some r => (v.assignFor r).noteBroad r
    | none => v
  let x := match e.op with
    | .insert => (if e.existed then w.endTally g.tbl e.id else w).giveTally g.tbl e.id
    | .delete => w.endTally g.tbl e.id
    | .modify => if s.isLost g.tbl e.id then w.giveTally g.tbl e.id else w
  x.bump (match e.op with
    | .insert => Reg.TBL_CNT_INSERT_COUNT
    | .delete => Reg.TBL_CNT_DELETE_COUNT
    | .modify => Reg.TBL_CNT_MODIFY_COUNT) 1 g.tbl

/-- An edit of a group as the source sends it to a target that synchronises (R329 step 6). -/
def State.laterEdit (s : State) (g : Group) (e : Edit) : MirrorOp :=
  let p1 := BitVec.ofNat 64 (g.tbl + e.id * 2 ^ 32)
  let row := s.rows.find? fun r => r.st == .pending && r.tbl == g.tbl && r.id == e.id && r.group == g.num
  let body := match row with
    | some r => entryBytes (s.widthOf g.tbl) r.id r.rank r.dref 0 r.value r.care
    | none => []
  let op : Nat := match e.op with
    | .insert => 3
    | .delete => 4
    | .modify => 5
  .command 0 { opcode := BitVec.ofNat 8 op, cid := 0, p0 := 0, p1 := p1 } { rd := some body } 0

/-- A group that the source of a synchronisation commits is sent to the target with its commit tick (R329 step 6). -/
def State.sendLater (s : State) (g : Group) (k : Tick) : State :=
  if s.seam.pair = .source ∧ (s.seam.syncing || s.seam.joinAt.isSome) = true then
    g.edits.foldl (fun (x : State) e =>
      let y := x.sendSeam (.mirror x.seam.nextId (s.laterEdit g e) (some k))
      { y with seam := { y.seam with nextId := (y.seam.nextId + 1) % 2 ^ 16 } }) s
  else s

/-- A group commits at boundary k (R187): every edit, TBL_COMMIT_SEQ, the lock, the completion; the tables that pins hold
follow (R257). -/
def State.commitGroup (s : State) (g : Group) (k : Tick) : State :=
  let t := g.edits.foldl (fun (x : State) e => x.commitEdit g k e) (s.sendLater g k)
  let u := match t.table g.tbl with
    | some d => t.setTable g.tbl { d with commitSeq := (d.commitSeq + 1) % 2 ^ 32 }
    | none => t
  let v := ((u.setGroups (u.groups.filter fun x => x ≠ g)).bump Reg.TBL_CNT_COMMIT_COUNT 1 g.tbl).showDegraded
  (v.completeNow g.cmd Sts.SUCCESS).showHeld

/-- The wear governor holds the group: stage 2 or 3, a durable table, not released yet, no restore from the twin (R219,
R244). -/
def State.governed (s : State) (g : Group) : Bool :=
  decide (2 ≤ s.cur.stage) && !g.released && !g.local_ && (match s.table g.tbl with | some d => !d.transient | none => false)

/-- The agreed boundary of a group, in PAIRED state; an unmirrored one commits at the first boundary (R187, R327). -/
def Group.due (g : Group) (k : Tick) : Bool :=
  match g.st with
  | .ready => !g.mirrored || g.local_
  | .bound b => tickLe b k
  | _ => false

/-- GROUP_COMMIT of table t at the boundary in progress: the group commits, or the governor defers it (R187, R219). -/
def doGroupCommit (t : Fin 64) (s : State) : State :=
  match s.groupOf t.val with
  | none => s
  | some g =>
    if g.due s.tick.now = false then s
    else if s.governed g ∧ g.st = .ready then (s.setGroup { g with st := .deferred }).bump Reg.CUR_CNT_DEFER_COUNT
    else s.commitGroup g s.tick.now

/-- GROUP_COMMIT: a group commits at a boundary; rows go ON and OFF, the lock is released and TBL_COMMIT_SEQ is
incremented (R187). -/
def execGroupCommit (t : Fin 64) (s : State) : Host.Outcome State Fault Refusal := .next (doGroupCommit t s)

/-- Edits of groups released and not yet migrated: those of groups that have not committed, and vestibule rows of those that have. -/
def State.owingEdits (s : State) : Nat :=
  ((s.groups.filter (·.released)).map (·.edits.length)).sum + (s.rows.filter fun r => r.owing && r.loc.isVest && r.off.isNone).length

/-- B less 248 for every edit of groups released and not yet migrated (R219). -/
def State.releaseBalance (s : State) : Int := s.cur.balance - 248 * s.owingEdits

/-- No group deferred before this one in commit order is held still (R219). -/
def State.firstDeferred (s : State) (g : Group) : Bool := s.groups.all fun x => x.st != .deferred || decide (g.order ≤ x.order)

/-- COMMIT_RELEASE of table t's group (R219). -/
def doCommitRelease (t : Fin 64) (s : State) : State :=
  match s.groupOf t.val with
  | none => s
  | some g =>
    if g.st = .deferred ∧ s.firstDeferred g = true ∧ 2 ^ 35 ≤ s.releaseBalance then s.setGroup { g with st := .ready, released := true }
    else s

end Sys2Proof.Machine
end

