-- ==== Sys2Proof/Machine/Move.lean ====
section
/-! DEFINITION. The curator's moves: migration, relocation and refresh (R189, R190, R219, R228), bay splits and merges
(R146), the persistence of learned entries (R193), the loads of bulk engines, the flips of a boundary (R188, R189). -/

namespace Sys2Proof.Machine

/-! ## Where rows may move -/

/-- A drawer whose contents the curator may not move into or out of: a swap or a retirement of it runs (R239, R241). -/
def State.frozen (s : State) (g x : Nat) : Bool :=
  (s.cur.swaps.any fun w => w.g == g && (17 * w.c + w.d == x || (!w.inPlace && 17 * w.c + w.s == x))) || s.retiring g x

/-- The drawer is a unit of a bay whose split or merge is not complete: nothing else moves into it (R146). -/
def State.reshaping (s : State) (g x : Nat) : Bool :=
  s.cur.reshape.any fun r => r.g == g && s.bays.any fun b => b.g == g && (b.num == r.bay || r.sib == some b.num) && b.units.contains x

/-- A drawer that rows may be moved into. -/
def State.openDrawer (s : State) (g x : Nat) : Bool :=
  !s.frozen g x && !s.reshaping g x && !(s.cab (32 * g + x / 17)).fenced

/-! ## Writing a copy -/

/-- The copy of a row in a new place, written by requester m and verified: SET (R185, R189). -/
def Row.copyTo (r : Row) (m : Nat) (l : Loc) : Row :=
  { r with loc := l, maker := m, st := .set, on := 0, off := none, target := none, jrow := none, persisted := true, owing := false,
           missed := false, again := r.missed }

/-- A row's copy is entered where its write verified; where it did not, the row is defective and the write is to be repeated elsewhere
(R189, R211, R212). The second part says whether it verified. -/
def State.enterCopy (n : Row) (o : State × Bool) : State × Bool := if o.2 then (o.1.setRows (o.1.rows ++ [n]), true) else o

/-- Requester m writes a row's copy at half-row index p of drawer x of gallery g, with the outcome that the command tells. -/
def State.writeCopy (s : State) (m : Nat) (r : Row) (g x p : Nat) (w : WriteRes) : State × Bool :=
  let n := r.copyTo m (drawerLoc g x p)
  State.enterCopy n (s.writeEntry n w)

/-- A move of the entry is under way: it has a SET row. -/
def State.moving (s : State) (t id : Nat) : Bool := s.rows.any fun r => r.tbl == t && r.id == id && r.st == .set

/-- The LIVE row of an entry. -/
def State.liveRow (s : State) (t id : Nat) : Option Row :=
  s.rows.find? fun r => r.tbl == t && r.id == id && r.st == .live && r.off.isNone

/-! ## MIGRATION -/

/-- The vestibule of a cabinet is more than 75 % full (R219): 128 rows (R125). -/
def State.vestCrowded (s : State) (g c : Nat) : Bool :=
  decide (192 < ((s.rows.filter fun r => r.loc.inVest g c).map s.rowHalves).sum)

/-- The oldest LIVE rows of a vestibule go first when it is crowded (R219). -/
def State.oldestVest (s : State) (r : Row) : Bool :=
  s.rows.all fun x => !(x.loc.inVest r.loc.gal r.loc.cabinet && x.st == .live && x.off.isNone) || decide (r.since ≤ x.since)

/-- A vestibule row may migrate: its residency has ended, or its vestibule is crowded and it is the oldest (R219). -/
def State.mayMigrate (s : State) (r : Row) : Bool :=
  decide (s.residency ≤ s.ageOf r) || (s.vestCrowded r.loc.gal r.loc.cabinet && s.oldestVest r)

/-- MIGRATION (R189, R190): requester 5 writes the entry's row in its target drawer, in the least-worn FREE place that keeps
R139 (R216). Which of several such is a free value (notes/assumptions/3.md). Without such a place the entry waits. -/
def doMigration (t : Fin 64) (id : BitVec 24) (w : WriteRes) (s : State) : State :=
  match s.liveRow t.val id.toNat with
  | none => s
  | some r =>
    match r.target with
    | none => s
    | some k =>
      let g := r.loc.gal
      let x := k - drawerKey g 0
      if r.loc.isVest = false ∨ s.mode ≠ .service ∨ s.mayWork 5 = false ∨ s.shut r.loc.phys = true ∨ s.moving r.tbl r.id = true ∨
          s.openDrawer g x = false ∨ s.mayMigrate r = false then s
      else
        match s.pick (leastBy (s.placeWear g x (s.rowHalves r)) (s.places g x (s.rowHalves r) (s.rowKey r) r.id)) with
        | none => s
        | some p => (s.drawn.writeCopy 5 r g x p w).1

/-- MIGRATION: the curator writes and verifies a drawer row for a vestibule entry whose residency has ended (R189). -/
def execMigration (t : Fin 64) (id : BitVec 24) (w : WriteRes) (s : State) : Host.Outcome State Fault Refusal :=
  .next (doMigration t id w s)

/-! ## RELOCATION and REFRESH -/

/-- The drawers among which an entry's drawer row may lie: those of its bay, or of the broad set; of a table out of service, those that
the descriptor rows record for the same bay or for its broad set (R461). -/
def State.drawersOf (s : State) (r : Row) (d : Table) : List Nat :=
  let g := r.loc.gal
  if d.outOfService then
    match r.unit with
    | none => []
    | some u =>
      let k := s.drawer g u
      (List.range 544).filter fun x =>
        let y := s.drawer g x
        y.st == .assigned && y.tbl == r.tbl && y.broad == k.broad && (k.broad || y.block == k.block)
  else
    match s.bayForEntry r.tbl d g r.value r.care with
    | some b => if s.inBroad r then s.broadUnits g r.tbl else b.units
    | none => s.broadUnits g r.tbl


/-- Drawers an entry's drawer row may move to. -/
def State.homes (s : State) (r : Row) : List Nat :=
  match s.table r.tbl with
  | none => []
  | some d => (s.drawersOf r d).filter (s.openDrawer r.loc.gal)

/-- The places a drawer row may move to among drawers. -/
def State.movesTo (s : State) (r : Row) (us : List Nat) : List (Nat × Nat) :=
  us.flatMap fun x => ((s.places r.loc.gal x (s.rowHalves r) (s.rowKey r) r.id).map fun p => (x, p)).filter fun e =>
    drawerLoc r.loc.gal e.1 e.2 ≠ r.loc

/-- The places a drawer row may move to. -/
def State.movesOf (s : State) (r : Row) : List (Nat × Nat) := s.movesTo r (s.homes r)

/-- The least-worn of the places that a row may take (R216). -/
def State.leastWorn (s : State) (r : Row) (l : List (Nat × Nat)) : List (Nat × Nat) :=
  leastBy (fun e => s.placeWear r.loc.gal e.1 (s.rowHalves r) e.2) l

/-- A drawer row may be moved: it can be read (R230), no move of it is under way, its drawer is not frozen, and its cabinet's
journal has room for the move record (R191). -/
def State.movable (s : State) (r : Row) : Bool :=
  r.loc.isDrawer && r.st == .live && r.off.isNone && !s.moving r.tbl r.id &&
    (match r.unit with | some x => !s.frozen r.loc.gal x | none => false) &&
    s.entryReadable r && !s.journalFull r.loc.gal r.loc.cabinet

/-- Requester m moves one LIVE drawer row: the copy and a move record are written (R189). -/
def State.moveRow (s : State) (m : Nat) (r : Row) (w : WriteRes) : State :=
  if s.movable r = false then s
  else
    match s.pick (s.leastWorn r (s.movesOf r)) with
    | none => s
    | some (x, p) =>
      let o := s.drawn.writeCopy m r r.loc.gal x p w
      if o.2 then o.1.journalRecord r false true else o.1

/-- RELOCATION (R189): requester 6 writes a drawer entry to another row of its bay or broad set. -/
def doRelocation (t : Fin 64) (id : BitVec 24) (w : WriteRes) (s : State) : State :=
  match s.liveRow t.val id.toNat with
  | none => s
  | some r => if s.mayWork 6 then s.moveRow 6 r w else s

/-- RELOCATION: the curator writes a drawer entry to another row and writes a move record (R189). -/
def execRelocation (t : Fin 64) (id : BitVec 24) (w : WriteRes) (s : State) : Host.Outcome State Fault Refusal :=
  .next (s.ifCurating 6 (doRelocation t id w))

/-- A row leaves the refresh queue. -/
def State.refreshed (s : State) (k : Nat) : State := { s with cur := { s.cur with refreshQ := s.cur.refreshQ.erase k } }

/-- A journal row to be refreshed: its record moves to another reserved row. -/
def State.refreshJournal (s : State) (n a : Nat) : State := ((s.journalMove n a).refreshed (journalKey n a)).bump Reg.CUR_CNT_REFRESH_COUNT

/-- The journal row at an address: its cabinet and reserved row. -/
def State.journalRowAt (s : State) (k : Nat) : Option (Nat × Nat) :=
  let x := k / 2048 % 544
  let n := 32 * (k / 2048 / 544) + x / 17
  let a := x % 17 * 2048 + k % 2048
  if isPool k && (s.journalBusy n).contains a then some (n, a) else none

/-- REFRESH (R228): requester 7 rewrites the oldest row queued for refresh in a cabinet that is not fenced: a descriptor or reference row in its older copy, a journal
row in another reserved row, the entries of a drawer row in other FREE rows by relocation. A row that is unreadable is never written
(R230); one without a place to go to waits. -/
def doRefresh (w : WriteRes) (s : State) : State :=
  match s.cur.refreshQ.find? fun k => !s.shut k with
  | none => s
  | some k =>
    if s.mayWork 7 = false then s
    else if 2 ^ 26 ≤ k then ((s.rewriteOlder k).refreshed k).bump Reg.CUR_CNT_REFRESH_COUNT
    else match s.journalRowAt k with
      | some (n, a) => s.refreshJournal n a
      | none =>
        match (s.rowsAt k).find? fun r => r.st == .live && r.off.isNone && !s.moving r.tbl r.id && s.entryReadable r with
        | none => s.refreshed k
        | some r =>
          let u := s.moveRow 7 r w
          if (u.rowsAt k).all fun x => !(x.st == .live && x.off.isNone) || u.moving x.tbl x.id then
            (u.refreshed k).bump Reg.CUR_CNT_REFRESH_COUNT
          else u

/-- REFRESH: a row at REFRESH_THRESH is rewritten into another row by relocation (R228). -/
def execRefresh (w : WriteRes) (s : State) : Host.Outcome State Fault Refusal := .next (s.ifCurating 7 (doRefresh w))

/-! ## Loads of bulk engines -/

/-- The first place among drawers that an entry may take. -/
def State.firstPlace (s : State) (g : Nat) (us : List Nat) (r : Row) : Option (Nat × Nat) :=
  us.findSome? fun x => ((s.places g x (s.rowHalves r) (s.rowKey r) r.id).head?).map fun p => (x, p)

/-- An entry is loaded into drawer u of gallery g, in the first place that its order leaves; where a write does not verify, in the
next one (R212, notes/assumptions/105.md). None where no place is left. -/
def State.loadDrawer : Nat → Nat → Nat → Row → State → State × Bool
  | 0, _, _, _, s => (s, false)
  | f + 1, g, u, r, s =>
    match s.firstPlace g [u] r with
    | none => (s, false)
    | some (x, p) =>
      let q := { r with loc := drawerLoc g x p }
      let o := s.writeFree q
      if o.2 then (((o.1.setRows (o.1.rows ++ [q])).assignFor q).noteBroad q, true) else State.loadDrawer f g u r o.1

/-- An entry is loaded into the SRAM: a vestibule row with its journal row, or a transient table's pool row. -/
def State.loadSram (s : State) (t : Nat) (d : Table) (r : Row) : State :=
  match s.place t d r.value r.care with
  | .at_ loc v =>
    let q := { r with loc := loc, target := (Placed.at_ loc v).target d }
    let u := ((s.drawn.setRows (s.rows ++ [q])).assignFor q).noteBroad q
    if d.transient then u else u.journalAt loc
  | _ => s

/-- The row of an entry is written by a bulk engine (requester 1 or 3) and is committed at once: into a drawer row where its
order leaves one, else into the vestibule; a transient table's into a pool (R169, R329, R367). -/
def State.loadRow (s : State) (t id rank dref : Nat) (value care : BitVec 640) : State :=
  match s.table t with
  | none => s
  | some d =>
    let r : Row := { loc := .vest 0 0 0, tbl := t, id := id, rank := rank, dref := dref, value := value, care := care,
                     on := s.tick.now, since := s.clock }
    let spot : Option (Nat × Nat) := if d.transient then none else
      (s.reserve t d value care).bind fun v => v.unit.map fun u => (v.g, u)
    match spot with
    | some (g, u) =>
      let o := State.loadDrawer 16 g u r s.drawn
      if o.2 then o.1 else o.1.loadSram t d r
    | none => s.loadSram t d r

/-- An entry is written by a bulk engine and takes its tally counter (R201). -/
def State.loadEntry (s : State) (t id rank dref : Nat) (value care : BitVec 640) : State :=
  let u := s.loadRow t id rank dref value care
  if (u.entry t id).isSome && (s.entry t id).isNone then u.giveTally t id else u

/-! ## Splits and merges (R146) -/

/-- n members of a list, which the manual does not fix (notes/assumptions/3.md). -/
def State.pickMany : Nat → List Nat → State → List Nat × State
  | 0, _, s => ([], s)
  | n + 1, l, s =>
    match s.pick l with
    | none => ([], s)
    | some x =>
      let r := State.pickMany n (l.erase x) s.drawn
      (x :: r.1, r.2)

/-- A move of an entry of the table in the gallery waits for its flip, or another reshape of the gallery does. -/
def State.unsettled (s : State) (t g : Nat) : Bool :=
  (s.cur.reshape.any fun r => r.g == g) || s.rows.any fun r => r.st == .set && r.tbl == t && r.loc.gal == g

/-- One entry of a reshape is copied into drawers: into a least-worn place that leaves one for each of the `left` entries that follow it
in the order of R139 (R216); where the write does not verify, into another one (R212). -/
def State.copyOne : Nat → Nat → List Nat → Nat → Row → State → State × Bool
  | 0, _, _, _, _, s => (s, false)
  | f + 1, g, us, left, r, s =>
    let l := s.movesTo r (us.filter (s.openDrawer g))
    match s.pick (s.leastWorn r (l.take (l.length - left))) with
    | none => (s, false)
    | some (x, p) =>
      let n := r.copyTo 6 (drawerLoc g x p)
      let o := State.enterCopy n (s.drawn.writeFree n)
      if o.2 then o else State.copyOne f g us left r o.1

/-- Entries of a reshape are copied into drawers, until one finds no place. -/
def State.copyAll (g : Nat) (us : List Nat) : List Row → State → State × Bool
  | [], s => (s, true)
  | r :: t, s =>
    let o := State.copyOne 16 g us t.length r s
    if o.2 then State.copyAll g us t o.1 else o

/-- Entries that may be copied are copied, each where it finds a place; those copied. -/
def State.copySome (g : Nat) (us : List Nat) : List Row → State → List Row × State
  | [], s => ([], s)
  | r :: t, s =>
    let o := State.copyOne 16 g us 0 r s
    let u := State.copySome g us t o.1
    (if o.2 then r :: u.1 else u.1, u.2)

/-- The copies of a reshape that cannot be made are given up (R188). -/
def State.giveUp (s : State) (l : List Row) : State := l.foldl (fun x r => x.cancelSets r.tbl r.id) s

/-- The move records of entries that leave their drawers together, one in each cabinet (R189, R191). -/
def State.recordMoves (s : State) (l : List Row) : State :=
  ((l.map fun r => 32 * r.loc.gal + r.loc.cabinet).eraseDups).foldl
    (fun x n => x.journalMoves n (l.filter fun r => 32 * r.loc.gal + r.loc.cabinet = n)) s

/-- Entries of a table in drawers of a gallery whose codes lie in [lo, hi), in the order of their keys. -/
def State.codeRows (s : State) (t g : Nat) (d : Table) (lo hi : Nat) : List Row :=
  s.keyOrder ((s.entries t).filter fun r => r.loc.isDrawer && r.loc.gal == g &&
    decide (lo ≤ d.lowCode r.value r.care) && decide (d.highCode r.value r.care < hi))

/-- Drawer rows of a bay's entries whose codes lie in [lo, hi), in the order of their keys; those of the broad set are none of the bay's. -/
def State.bayRows (s : State) (b : Bay) (lo hi : Nat) (d : Table) : List Row :=
  (s.codeRows b.tbl b.g d lo hi).filter fun r => !s.inBroad r

/-- An entry is bound for the bay and waits in the vestibule without a drawer. -/
def State.bayWanted (s : State) (b : Bay) (d : Table) : Bool :=
  s.rows.any fun r => r.loc.isVest && r.tbl == b.tbl && r.loc.gal == b.g && r.target.isNone &&
    (s.bayForEntry b.tbl d b.g r.value r.care) == some b

/-- The rows of one half of a bay's block. -/
def State.halfRows (s : State) (b : Bay) (d : Table) (hi : Bool) : List Row :=
  let mid := b.first + 2 ^ (b.s - 1)
  if hi then s.bayRows b mid (b.first + 2 ^ b.s) d else s.bayRows b b.first mid d

/-- BAY_SPLIT: the copies of the entries of one half go to new drawers, those that span both to the broad set; the map
changes when they flip. Which half moves is a free value among those whose rows can all be moved (notes/assumptions/3.md). -/
def doBaySplit (g : Fin 8) (n : Nat) (s : State) : State :=
  match s.bays.find? fun b => b.g == g.val && b.num == n with
  | none => s
  | some b =>
    match s.table b.tbl with
    | none => s
    | some d =>
      let span := s.keyOrder ((s.straddling d b).filter fun r => r.loc.isDrawer)
      let halves := [false, true].filter fun hi => (s.halfRows b d hi).all s.movable
      if s.mayWork 6 = false ∨ b.units.length < 8 ∨ s.bayWanted b d = false ∨ s.canSplit d b = false ∨
          s.unsettled b.tbl b.g = true ∨ (span.all s.movable) = false then s
      else
        match s.pick halves with
        | none => s
        | some hi =>
          let half := s.halfRows b d hi
          let per := 4096 / halvesOf d.width
          let f := State.pickMany (ceilDiv half.length per) (s.freeDrawers b.g) s.drawn
          let h := State.pickMany (ceilDiv span.length per) ((f.2.freeDrawers b.g).filter fun x => !f.1.contains x) f.2
          let t := State.copyAll b.g f.1 half h.2
          let u := if t.2 then State.copyAll b.g (t.1.broadUnits b.g b.tbl ++ h.1) span t.1 else t
          if u.2 then
            let v := u.1.recordMoves (half ++ span)
            { v with cur := { v.cur with reshape := v.cur.reshape ++ [{ g := b.g, bay := n, hi := hi }] } }
          else u.1.giveUp (half ++ span)

/-- BAY_SPLIT: the curator halves a full bay's block and relocates half of its entries (R146). -/
def execBaySplit (g : Fin 8) (bay : Nat) (s : State) : Host.Outcome State Fault Refusal := .next (s.ifCurating 6 (doBaySplit g bay))

/-- Two bays are siblings: the halves of one aligned block of a table (R146). -/
def siblings (a b : Bay) : Bool :=
  a.g == b.g && a.tbl == b.tbl && a.s == b.s && (min a.first b.first) % 2 ^ (a.s + 1) == 0 &&
    max a.first b.first == min a.first b.first + 2 ^ a.s

/-- Entries of a table in a gallery whose codes lie in [lo, hi) and which are not in its broad set, staged ones among them. -/
def State.blockCount (s : State) (t g : Nat) (d : Table) (lo hi : Nat) : Nat :=
  (s.rows.filter fun r => r.tbl == t && r.loc.gal == g && r.off.isNone && r.st != .set && !s.inBroad r &&
    decide (lo ≤ d.lowCode r.value r.care) && decide (d.highCode r.value r.care < hi)).length

/-- BAY_MERGE: the entries of two siblings that fit in 4 units are copied into the units kept, and those of the broad set that the
merged bay can hold move back as far as there is room. -/
def doBayMerge (g : Fin 8) (n m : Nat) (s : State) : State :=
  match s.bays.find? (fun b => b.g == g.val && b.num == n), s.bays.find? (fun b => b.g == g.val && b.num == m) with
  | some a, some b =>
    match s.table a.tbl with
    | none => s
    | some d =>
      let lo := min a.first b.first
      let hi := lo + 2 ^ (a.s + 1)
      let room := 4 * (4096 / halvesOf d.width)
      let used := s.blockCount a.tbl a.g d lo hi
      let k := State.pickMany 4 ((a.units ++ b.units).filter (s.openDrawer a.g)) s
      let out := (s.bayRows a lo hi d).filter fun r => !k.1.any fun x => r.loc.inDrawer a.g x
      let back := (((s.codeRows a.tbl a.g d lo hi).filter s.inBroad).filter s.movable).take (room - used)
      if s.mayWork 6 = false ∨ siblings a b = false ∨ d.transient = true ∨ s.unsettled a.tbl a.g = true ∨ room < used ∨ (out.all s.movable) = false then s
      else
        let t := State.copyAll a.g k.1 out k.2
        if t.2 then
          let c := State.copySome a.g k.1 back t.1
          let v := c.2.recordMoves (out ++ c.1)
          { v with cur := { v.cur with reshape := v.cur.reshape ++ [{ g := a.g, bay := n, sib := some m, keep := k.1 }] } }
        else t.1.giveUp out
  | _, _ => s

/-- BAY_MERGE: the curator merges two sibling bays whose entries fit in 4 units (R146). -/
def execBayMerge (g : Fin 8) (bay sibling : Nat) (s : State) : Host.Outcome State Fault Refusal := .next (s.ifCurating 6 (doBayMerge g bay sibling))

/-! ## LEARN_PERSIST -/

/-- LEARN_PERSIST (R191, R193): once the entry is visible, requester 4 writes its journal row. -/
def doLearnPersist (t : Fin 64) (id : BitVec 24) (s : State) : State :=
  if s.mayWork 4 = false then s
  else
    match s.rows.find? fun r => r.tbl == t.val && r.id == id.toNat && r.loc.isVest && !r.persisted && tickLe r.on s.tick.now && !s.journalFull r.loc.gal r.loc.cabinet with
    | none => s
    | some r => (s.journalAt r.loc).mapRow r.loc fun x => { x with persisted := x.jrow.isSome }

/-- LEARN_PERSIST: the journal row of a learned entry is written and the entry becomes durable (R193). -/
def execLearnPersist (t : Fin 64) (id : BitVec 24) (s : State) : Host.Outcome State Fault Refusal := .next (s.ifCurating 4 (doLearnPersist t id))

/-! ## ROW_FLIP (R188, R189) -/

/-- The rows of D that a swap has still to copy: what can be read and has no SET copy (R238 step 2). -/
def State.uncopied (s : State) (w : Swap) : List Row :=
  (s.drawerRows w.g (17 * w.c + w.d)).filter fun r => r.off.isNone && (r.st == .live || r.st == .entering) && s.entryReadable r &&
    !s.moving r.tbl r.id

/-- The entries edited by groups that commit at the boundary in progress (R187, R219). -/
def State.dueEdits (s : State) : List (Nat × Nat) :=
  (s.groups.filter fun g => g.due s.tick.now && !(s.governed g && g.st == .ready)).flatMap fun g => g.edits.map fun e => (g.tbl, e.id)

/-- ROW_FLIP (R189): at a boundary every SET row goes ON and its source OFF, with the code-map changes of splits, merges
and swaps (R146, R238). The flip of an entry that a commit of the same boundary edits is cancelled (R188). The tables that pins hold follow
(R257). -/
def doRowFlip (s : State) : State :=
  let c := s.dueEdits.foldl (fun (x : State) e => x.cancelSets e.1 e.2) s
  let sets := c.rows.filter fun r => r.st == .set
  let t := (c.cur.swaps.filter fun w => w.flipAt.isNone && !w.inPlace && s.mayWork 10 && (c.uncopied w).isEmpty).foldl State.flipSwap c
  let u := t.cur.reshape.foldl State.flipReshape t
  let v := sets.foldl (fun x r => x.flipEntry s.tick.now r) u
  let w := { v with cur := { v.cur with reshape := [] } }
  (if s.cur.reshape.isEmpty then w else w.retargetAll).showHeld

/-- ROW_FLIP: at the next boundary the destination goes ON and the source OFF (R189). -/
def execRowFlip (s : State) : Host.Outcome State Fault Refusal := .next (doRowFlip s)

end Sys2Proof.Machine
end

