-- ==== Sys2Proof/Machine/Curator.lean ====
section
/-! DEFINITION. The curator's care of rows (07_medium_care.md): the wear balance, drift calibration and cabinet fences, scrub,
self-search, digests and their proof. -/

namespace Sys2Proof.Machine

/-- Change the curator's own state. -/
def State.setCur (s : State) (c : Curator) : State := { s with cur := c }

/-! ## The wear balance (R217) -/

/-- WEAR_BALANCE_SAVE: every 10 s the wear balance B is written to the medium (R217). -/
def execWearBalanceSave (s : State) : Host.Outcome State Fault Refusal := .next (if s.arrayOn then s.setCur { s.cur with saved := s.cur.balance } else s)

/-- Drawers that are not retired, of 4,352. -/
def State.poolDrawers (s : State) : Nat := 4352 - (s.drawers.filter fun e => e.2.st == .retired).length

/-- What a span of powered time earns: 140,000,000 programmings per second, less the share of retired drawers (R217). -/
def State.earns (s : State) (cycles : Nat) : Nat := 140000000 * s.poolDrawers * cycles / (4352 * cyclesPerS)

/-- The end of the time that n programmings were earned in; the rest of it goes on earning. -/
def State.earnedTo (s : State) (n : Nat) : Nat :=
  min s.clock (s.cur.earnFrom + ceilDiv (n * (4352 * cyclesPerS)) (140000000 * s.poolDrawers))

/-- The balance earns what the time since it last earned gives. -/
def doWearBalanceEarn (s : State) : State :=
  let n := s.earns (s.clock - s.cur.earnFrom)
  (s.setBalance (s.cur.balance + n)).setCur { (s.setBalance (s.cur.balance + n)).cur with earnFrom := s.earnedTo n }

/-- WEAR_BALANCE_EARN: powered time earns balance B, up to the cap of 2^39; a change of stage raises EV_WEAR_STAGE (R217,
R218). -/
def execWearBalanceEarn (s : State) : Host.Outcome State Fault Refusal :=
  .next (if s.mode = .dormant then s.setCur { s.cur with earnFrom := s.clock } else doWearBalanceEarn s)

/-! ## Calibration (R220 to R225) -/

/-- The midpoint of a window, rounded down (R221). -/
def midpoint (w : Nat × Nat) : Nat := (w.1 + w.2) / 2

/-- Codes of a window (R221). -/
def windowCodes (w : Nat × Nat) : Nat := w.2 + 1 - w.1

/-- The larger code distance of the two codes from their baselines, signed (Table 7-3). -/
def driftOf (code base : Nat × Nat) : Int :=
  let a : Int := (code.1 : Int) - base.1
  let b : Int := (code.2 : Int) - base.2
  if a.natAbs < b.natAbs then b else a

/-- The physical addresses of a cabinet's rows: drawers, vestibule, pool, reference bank, descriptor rows. -/
def cabinetRows (n : Nat) : List Nat :=
  (List.range (17 * 2048)).map (poolKey (n / 32) (17 * (n % 32)) 0 + ·) ++ (List.range 128).map (2 ^ 24 + n * 128 + ·) ++
    (List.range 512).map (2 ^ 25 + n * 512 + ·) ++ (List.range 16).map (refKey n) ++
    (List.range (2 * (Config.descRows + 1))).map fun j => descKey n (j / 2) (j % 2)

/-- The drift check of a cabinet after a round: a cabinet beyond a limit has every row queued for scrub (R223). -/
def State.checkDrift (s : State) (n : Nat) : State :=
  let k := s.cab n
  let bad : Bool := decide (s.get Reg.CUR_CAL_DRIFT_LIMIT < k.drift.natAbs) || decide (k.width < s.get Reg.CUR_CAL_WINDOW_MIN)
  let t := s.setCab n { k with driftEp := bad }
  if bad then
    let u := t.queueScrub (cabinetRows n)
    if k.driftEp then u else u.raise (Ev.CAL_DRIFT (n / 32))
  else t

/-- One cabinet of a round: new codes from the next boundary, or its fence at the next boundary when no window is found
(R221, R222, R225). `now`: the codes hold at once, in start-up. -/
def State.calibrate (s : State) (c : CabCal) (now : Bool) : State :=
  let k := s.cab c.cab
  if k.fenced then s
  else match c.mref, c.rref with
    | some m, some r =>
      let code := (midpoint m, midpoint r)
      let v := { k with width := min (windowCodes m) (windowCodes r), drift := driftOf code k.base,
                        code := if now then code else k.code, next := if now then none else some code }
      (s.setCab c.cab v).checkDrift c.cab
    | _, _ => (s.setCab c.cab { k with fenceDue := true, calFail := true }).raise Ev.CABINET_FENCED

/-- A cabinet in a round: what the round measures in it; one that the round does not list shows the windows of the last round again. -/
def State.calibrateIn (s : State) (cal : List CabCal) (now : Bool) (n : Nat) : State :=
  match cal.find? fun c => c.cab == n with
  | some c => s.calibrate c now
  | none => if (s.cab n).fenced || (s.cab n).width == 0 then s else s.checkDrift n

/-- Every cabinet in turn (R221). -/
def State.calibrateAll (s : State) (cal : List CabCal) (now : Bool) : State :=
  (List.range 256).foldl (fun x n => x.calibrateIn cal now n) s

/-- Drift history is absent: conservative mode for three rounds (R224). -/
def State.dropHistory (s : State) : State := s.setCur { s.cur with histValid := false, conservLeft := 3 }

/-- The end of a round: the third one after history was found absent gives the baselines (R224). -/
def State.countRound (s : State) : State :=
  if s.cur.histValid then s
  else if s.cur.conservLeft ≤ 1 then
    let u := s.setCur { s.cur with histValid := true, conservLeft := 0 }
    (List.range 256).foldl (fun x n => let k := x.cab n; x.setCab n { k with base := k.next.getD k.code, drift := 0 }) u
  else s.setCur { s.cur with conservLeft := s.cur.conservLeft - 1 }

/-- The searches of a round in reserved slots: 16 for each cabinet (R210, R221). -/
def State.owesSearches (s : State) (g : Nat) : State :=
  let n := ((List.range 32).filter fun c => !(s.cab (32 * g + c)).fenced).length
  s.setCur { s.cur with calDue := fset s.cur.calDue g 0 (fgetD s.cur.calDue g 0 + 16 * n) }

/-- A calibration round in service or recovery (R221). -/
def State.calRound (s : State) (cal : List CabCal) : State :=
  if s.mayWork 9 then (List.range 8).foldl State.owesSearches (s.calibrateAll cal false).countRound else s

/-- CALIBRATION_ROUND: a calibration round starts on its period or a temperature step and bisects the windows (R221). -/
def execCalibrationRound (cal : List CabCal) (s : State) : Host.Outcome State Fault Refusal :=
  .next (if s.mode = .service then s.calRound cal else s)

/-- CUR_CAL_GO: a write of 1 to CUR_CAL.GO starts a calibration round (R221). -/
def execCurCalGo (cal : List CabCal) (s : State) : Host.Outcome State Fault Refusal :=
  .next (s.onService fun x => x.calRound cal)

/-- HIST_CLEAR: a write of 1 to CUR_CTRL.HIST_CLEAR discards the drift history and starts conservative mode (R224). -/
def execHistClear (s : State) : Host.Outcome State Fault Refusal := .next (s.onService State.dropHistory)

/-- CUR_CAB_FENCE: a write of 1 to CUR_CAB.FENCE fences the cabinet at the next boundary (R225). -/
def execCurCabFence (cab : BitVec 8) (s : State) : Host.Outcome State Fault Refusal :=
  .next (s.onService fun x => x.setCab cab.toNat { x.cab cab.toNat with fenceDue := true })

/-- CUR_CAB_UNFENCE: a write of 1 to UNFENCE opens the cabinet to the curator for calibration and an inventory check
(R225). -/
def execCurCabUnfence (cab : BitVec 8) (s : State) : Host.Outcome State Fault Refusal :=
  .next (s.onService fun x => if (x.cab cab.toNat).fenced then x.setCab cab.toNat { x.cab cab.toNat with checking := true } else x)

/-! ## Rows that cannot be read (R229, R230, R235) -/

/-- A row of a drawer is found unreadable at nominal; four since its last self-test make the drawer suspect (R235). -/
def State.noteUnread (s : State) (k : Nat) : State :=
  let g := k / 2048 / 544
  let x := k / 2048 % 544
  let d := s.drawer g x
  if isPool k = false ∨ d.unread.contains (k % 2048) = true then s
  else
    let t := s.setDrawer g x { d with unread := (k % 2048) :: d.unread }
    if 4 ≤ d.unread.length + 1 then t.makeSuspect g x else t

/-- A drawer row that holds an entry and is still unreadable makes its drawer suspect (R230). -/
def State.suspectRow (s : State) (k : Nat) : State :=
  if isPool k ∧ (s.rowsAt k).isEmpty = false then s.makeSuspect (k / 2048 / 544) (k / 2048 % 544) else s

/-- An unreadable journal row of a vestibule row whose entry is LIVE in a drawer is free (R230). -/
def State.freeJournalRow (s : State) (k : Nat) : State :=
  match s.journalRowAt k with
  | none => s
  | some (n, a) =>
    s.setRows (s.rows.map fun r =>
      if r.loc.inVest (n / 32) (n % 32) ∧ r.jrow = some a ∧ (s.rows.any fun x => x.tbl == r.tbl && x.id == r.id && x.loc.isDrawer && x.st == .live) = true
      then { r with jrow := none } else r)

/-- A row that its nominal read does not give is treated under R229: read at five offsets, and recovered, counted and queued for refresh, or
unreadable (R229, R230). -/
def State.treatUnread (s : State) (k : Nat) : State :=
  let t := s.noteUnread k
  if s.recovers k then (t.bump Reg.CUR_CNT_RECOVERED_COUNT).queueRefresh k
  else if 2 ^ 26 ≤ k then t.queueRefresh k
  else (t.suspectRow k).freeJournalRow k

/-! ## Scrub (R226 to R230) -/

/-- The refresh threshold in force: 1 in conservative mode, 0 behaves as 1 (R224, Table 7-3). -/
def State.refreshThresh (s : State) : Nat := if s.cur.histValid = false then 1 else max (s.get Reg.CUR_SCRUB_REFRESH_THRESH) 1

/-- An entry without a copy in the medium is deleted: its row goes OFF with the next tick, CUR_CNT_LOST counts it and EV_DEGRADED is
raised (R226). -/
def State.dropEntry (s : State) (r : Row) : State :=
  let t := s.setRows (s.rows.map fun x => if x = r then { x with off := some (tickAdd s.tick.now 1) } else x)
  (t.bump Reg.CUR_CNT_LOST_COUNT).raise (Ev.DEGRADED r.tbl)

/-- A vestibule row has a journal row from which it can be rebuilt (R226). -/
def State.rebuildable (s : State) (r : Row) : Bool :=
  r.loc.isVest && r.persisted && (match r.jrow with
    | some a => s.readable (journalKey (32 * r.loc.gal + r.loc.cabinet) a)
    | none => false)

/-- The scrub of an SRAM row: a single error is corrected in place; a row with a double error is rebuilt from the journal row of its
entry, or the entry deleted where there is none (R226). -/
def State.scrubSram (s : State) (k : Nat) : State :=
  let t := s.setFault k {}
  if s.decodes k then t else ((s.rowsAt k).filter fun r => !s.rebuildable r && r.off.isNone).foldl State.dropEntry t

/-- The scrub of a row of the medium: corrected cells and weak cells that reach the threshold queue it for refresh (R227, R228,
notes/assumptions/127.md); a row that does not read at nominal is treated under R229. -/
def State.scrubPk (s : State) (k : Nat) : State :=
  if s.readsNominal k then
    if s.refreshThresh ≤ (s.fault k).wrong.length + ((s.fault k).near s.scrubMargin).length then s.queueRefresh k else s
  else s.treatUnread k

/-- The scrub reads a row: what it finds is the row's condition from then on. -/
def State.scrubRow (s : State) (k : Nat) (d : Option ScrubRead) : State :=
  let t := match d with
    | some d => s.setFault k { s.fault k with cells := d.cells, held := d.held }
    | none => s
  if isSram k then t.scrubSram k else t.scrubPk k

/-- The rows that the scrub pass reads beside reference and descriptor rows: those that hold an entry or a journal record (R226). -/
def State.heldRows (s : State) : List Nat :=
  (s.rows.flatMap s.physOf ++ (List.range 256).flatMap fun n => (s.journalBusy n).map (journalKey n)).eraseDups

/-! ## Proving a drawer (R233, R234) -/

/-- A row of a drawer as the inventory or a cabinet check reads it: one with corrected cells is queued for refresh, one that does not read at
nominal is treated under R229 (R234 steps 2, 4, 7). -/
def State.proveRow (s : State) (k : Nat) : State :=
  if s.readsNominal k then (if (s.fault k).wrong.isEmpty then s else s.queueRefresh k) else s.treatUnread k

/-- A row with a weak cell beyond correction in the margin read of step 4 of R234 is treated as uncorrectable. -/
def State.marginRow (s : State) (k : Nat) : State :=
  let f := s.fault k
  if f.near s.scrubMargin ≠ [] ∧ 2 < (f.wrong ++ f.near s.scrubMargin).eraseDups.length ∧ s.readsNominal k = true then s.treatUnread k else s

/-- The rows of a drawer are read, and a clean drawer's digest is compared with the stored one (R234 steps 2 to 4): where it differs
although every row can be read, the rows are kept as decoded, DIGEST_MISMATCH is set and the drawer is suspect (R235). The fresh digest
stands with the next save. -/
def State.proveDrawer (s : State) (g x : Nat) : State :=
  let ks := s.writtenRows g x
  let t := ks.foldl State.proveRow s
  let d := s.drawer g x
  if d.dirty || s.drawerDigest g x == d.digest then t
  else
    let u := ks.foldl State.marginRow t
    if ks.all s.readable then (u.setRaise Reg.CUR_STATUS_DIGEST_MISMATCH Ev.DIGEST_MISMATCH).makeSuspect g x else u.makeSuspect g x

/-- A drawer's digest is saved and its mark cleared; the record has the next sequence number of the ring (R233). -/
def State.saveDigest (s : State) (g x : Nat) : State :=
  let d := s.drawer g x
  s.setDrawer g x { d with dirty := false, writes := 0, digest := s.drawerDigest g x, digestSeq := d.digestSeq + 1 }

/-- A dirty drawer is due: it has had no write for 100 ms, or 4,096 writes since its last save (R233). -/
def State.digestDue (s : State) (g x : Nat) : Bool :=
  let d := s.drawer g x
  d.dirty && (decide (d.lastWrite + 100 * cyclesPerMs ≤ s.clock) || decide (4096 ≤ d.writes))

/-- DIGEST_SAVE: a dirty drawer's digest is saved after 100 ms without writes or after 4,096 writes (R233). -/
def execDigestSave (g : Fin 8) (x : Nat) (s : State) : Host.Outcome State Fault Refusal :=
  .next (if s.arrayOn ∧ s.digestDue g.val x = true then s.saveDigest g.val x else s)

/-! ## The cabinet check after UNFENCE (R225) -/

/-- The window of a measurement, in codes; 0 where one is missing. -/
def calWidth (c : CabCal) : Nat :=
  match c.mref, c.rref with
  | some m, some r => min (windowCodes m) (windowCodes r)
  | _, _ => 0

/-- The drawers of a cabinet that hold entries are proven, by reads through the maintenance port (R225, R234 steps 2 to 4). -/
def State.proveCabinet (s : State) (n : Nat) : State :=
  ((List.range 17).filter fun d => (s.drawer (n / 32) (17 * (n % 32) + d)).st == .assigned).foldl
    (fun x d => x.proveDrawer (n / 32) (17 * (n % 32) + d)) s

/-- CABINET_CHECK_DONE (R225): the drawers are proven; with a window of at least WINDOW_MIN the cabinet rejoins the search at the next
boundary, else the fence stands. -/
def doCabinetCheckDone (c : CabCal) (s : State) : State :=
  if (s.cab c.cab).checking = false ∨ s.mayWork 9 = false ∨ s.mayWork 11 = false then s
  else if calWidth c = 0 then s.setCab c.cab { s.cab c.cab with checking := false }
  else
    let code := ((c.mref.map midpoint).getD 0, (c.rref.map midpoint).getD 0)
    let k := { s.cab c.cab with checking := false, width := calWidth c, code := code, drift := driftOf code (s.cab c.cab).base }
    let ok : Bool := decide (s.get Reg.CUR_CAL_WINDOW_MIN ≤ calWidth c)
    (s.setCab c.cab (if ok then { k with unfenceDue := true, calFail := false } else k)).proveCabinet c.cab

/-- CABINET_CHECK_DONE: the unfence check ends; the cabinet rejoins the search, or the fence stands (R225). -/
def execCabinetCheckDone (cal : CabCal) (s : State) : Host.Outcome State Fault Refusal := .next (doCabinetCheckDone cal s)

/-- Cabinets at a boundary: fences and unfences take effect, new codes come into force, the tables' states follow (R222,
R225, R204). -/
def State.cabsBoundary (s : State) : State :=
  let one := fun (k : Cab) =>
    let k := match k.next with
      | some c => { k with prev := k.code, code := c, next := none }
      | none => k
    let k := if k.fenceDue then { k with fenced := true, fenceDue := false, checking := false } else k
    if k.unfenceDue then { k with fenced := false, unfenceDue := false } else k
  (s.cabs.foldl (fun x e => x.setCab e.1 (one e.2)) s).showDegraded

/-! ## Self-search (R231, R232) -/

/-- Every entry of the sweep has been searched. -/
def State.sweepOver (s : State) : Bool := s.sweepable.all fun r => s.cur.swept.contains (r.tbl, r.id)

/-- A sweep ends: counted, with its duration (Table 7-3). -/
def State.endSweep (s : State) : State :=
  let ms := min ((s.clock - s.cur.sweepFrom) / cyclesPerMs) 65535
  let t := (s.put Reg.CUR_SWEEP_LAST_MS ms).put Reg.CUR_SWEEP_COUNT (s.get Reg.CUR_SWEEP_COUNT + 1)
  t.setCur { t.cur with swept := [], sweepFrom := s.clock, sweep := s.cur.sweep + 1 }

/-- A sweep whose last entry without a search has gone OFF ends at the boundary (R231, R232). -/
def State.sweepBoundary (s : State) : State := if s.curating 8 && !s.cur.swept.isEmpty && s.sweepOver then s.endSweep else s

/-- The key of an entry's self-search: each cared bit takes its value, each don't-care bit 0 in an even-numbered sweep and 1 in an
odd-numbered one (R231). -/
def State.sweepKey (s : State) (r : Row) : BitVec 640 :=
  if s.cur.sweep % 2 = 0 then r.value &&& r.care else ((r.value &&& r.care) ||| ~~~r.care) &&& widthMask (s.widthOf r.tbl)

/-- The rows of an entry's group whose own match line shows mismatch for the key (R231). -/
def State.missing (s : State) (r : Row) (key : BitVec 640) : List Nat :=
  ((List.range (rowsOf (s.widthOf r.tbl))).filter fun p => !s.partMatch r (s.widthOf r.tbl) key p).map (r.loc.phys + ·)

/-- A false miss (R231): the rows that miss go to the head of the scrub queue; those of an entry that misses again after its refresh are
defective and the entry is relocated. -/
def State.falseMiss (s : State) (r : Row) (ks : List Nat) : State :=
  let t := (s.bump Reg.CUR_CNT_FALSE_MISS_COUNT).raiseEp Ev.FALSE_MISS
  if r.again then ks.foldl (fun x k => (x.defectRow (k / 2048 / 544) (k / 2048 % 544) (k % 2048)).queueRefresh k) t
  else
    let u := t.mapRow r.loc fun x => { x with missed := true }
    u.setCur { u.cur with scrubQ := ks ++ u.cur.scrubQ.filter fun k => !ks.contains k }

/-- The entry's own match line is read for its key; `stuck`: the line of its first row does not follow its cells and shows mismatch. -/
def State.searchSelf (s : State) (r : Row) (stuck : Bool) : State :=
  let t := if stuck || (s.fault r.loc.phys).analog.isSome then
    s.setFault r.loc.phys { s.fault r.loc.phys with analog := if stuck then some false else none } else s
  let ks := t.missing r (t.sweepKey r)
  if ks.isEmpty then t.mapRow r.loc fun x => { x with missed := false, again := false } else t.falseMiss r ks

/-- SELF_SEARCH of an entry in reserved slots of its gallery (R210, R231): the last one of a sweep ends it. -/
def doSelfSearch (t : Fin 64) (id : BitVec 24) (stuck : Bool) (s : State) : State :=
  if s.mayWork 8 = false then s
  else
    match s.sweepable.find? fun r => r.tbl == t.val && r.id == id.toNat && !s.cur.swept.contains (t.val, id.toNat) with
    | none => s
    | some r =>
      let n := s.entrySlots r
      if s.sweepSlot n r.loc.gal = false then s
      else
        let u := s.takeSweep r.loc.gal n
        let v := (u.setCur { u.cur with swept := (t.val, id.toNat) :: u.cur.swept }).searchSelf r stuck
        if v.sweepOver then v.endSweep else v

/-- SELF_SEARCH: an entry is searched with a key built from itself to find false misses (R231). -/
def execSelfSearch (t : Fin 64) (id : BitVec 24) (falseMiss : Bool) (s : State) : Host.Outcome State Fault Refusal :=
  .next (s.ifCurating 8 (doSelfSearch t id falseMiss))

/-- The sweep period is over: the sweep is late when it goes on; one without entries ends with its period (notes/assumptions/128.md). -/
def doSweepPeriodEnd (s : State) : State :=
  if s.cur.sweepFrom + s.sweepPeriod ≤ s.clock then
    if s.sweepOver then s.endSweep else s.setRaise Reg.CUR_STATUS_SWEEP_LATE Ev.SWEEP_LATE
  else s

/-- SWEEP_PERIOD_END: the sweep period ends before the sweep, setting SWEEP_LATE and raising EV_SWEEP_LATE (R232). -/
def execSweepPeriodEnd (s : State) : Host.Outcome State Fault Refusal := .next (s.ifCurating 8 doSweepPeriodEnd)

end Sys2Proof.Machine
end

