-- ==== Sys2Proof/Machine/Drawers.lean ====
section
/-! DEFINITION. The curator's care of drawers (07_medium_care.md): spare swaps, self-test and retirement of drawers, static levelling, the
commands of the scrub, the full-array test. -/

namespace Sys2Proof.Machine

/-! ## Spare swaps (R237 to R239) -/

/-- A swap or self-test runs in the gallery. -/
def State.testing (s : State) (g : Nat) : Bool := s.cur.swaps.any fun w => w.g == g

/-- R237's refusals of a self-test of position d in cabinet c of gallery g. -/
def State.testRefused (s : State) (g c d : Nat) : Bool :=
  let k := s.drawer g (17 * c + d)
  decide (16 < d) || k.st == .retired || k.st == .selftest || (k.st == .assigned && (s.cab (32 * g + c)).spare == 31) ||
    s.testing g || decide (2 ≤ s.cur.stage) || s.mode != .service

/-- Where a row of D is copied to in drawer sx: the row of the same index, and where that is defective the first other place that keeps
R139 (R212, R238). -/
def State.swapPlace (s : State) (g sx : Nat) (r : Row) : Option Nat :=
  let l := s.places g sx (s.rowHalves r) (s.rowKey r) r.id
  if l.contains r.loc.pos then some r.loc.pos else l.head?

/-- A row of D is copied, and again elsewhere where its write does not verify (R211, R212). -/
def State.swapCopy : Nat → Nat → Nat → State → Row → State
  | 0, _, _, s, _ => s
  | f + 1, g, sx, s, r =>
    match s.swapPlace g sx r with
    | none => s
    | some p =>
      let n := r.copyTo 10 (drawerLoc g sx p)
      let o := State.enterCopy n (s.writeFree n)
      if o.2 then o.1 else State.swapCopy f g sx o.1 r

/-- A swap goes on (R238): the journal's rows in the drawers concerned move away, by requester 6, then requester 10 copies the LIVE rows
of D that can be read and have no copy yet. -/
def State.stepSwap (s : State) (w : Swap) : State :=
  let n := 32 * w.g + w.c
  let ds := if w.inPlace then [w.d] else [w.d, w.s]
  let t := if s.journalIn n ds && s.mayWork 6 && !(s.cab n).fenced then s.moveReserve n ds else s
  if w.inPlace || (s.cab n).fenced || w.flipAt.isSome || t.journalIn n ds || !t.mayWork 10 then t
  else
    (drawerOrder ((t.uncopied w).filter fun r => r.st == .live) w.g (17 * w.c + w.d)).foldl (State.swapCopy 16 w.g (17 * w.c + w.s)) t

/-- The swaps that have not flipped go on at every boundary. -/
def State.stepSwaps (s : State) : State := s.cur.swaps.foldl State.stepSwap s

/-- A self-test of a drawer starts: in place, or through a spare swap (R237, R238). Moves into D that wait for their flip are given up
(R239). -/
def State.startTest (s : State) (g c d : Nat) : State :=
  let x := 17 * c + d
  let k := s.drawer g x
  let n := 32 * g + c
  let inPlace : Bool := k.st != .assigned
  let w : Swap := { g := g, c := c, d := d, s := if inPlace then (if k.st = .spare then d else 31) else (s.cab n).spare, inPlace := inPlace }
  let t := ((s.put Reg.CUR_SELFTEST_RESULT 1).drawerRows g x |>.filter fun r => r.st == .set).foldl State.cancelSet (s.put Reg.CUR_SELFTEST_RESULT 1)
  let u := (t.setCur { t.cur with swaps := t.cur.swaps ++ [w] }).stepSwap w
  if inPlace then
    let v := u.setDrawer g x { u.drawer g x with st := .selftest }
    if k.st = .spare then v.setCab n { v.cab n with spare := 31 } else v
  else u

/-- CUR_SELFTEST_GO (R237): REFUSED is cleared by each GO and set when the request is refused. -/
def doCurSelftestGo (s : State) : State :=
  let g := s.get Reg.CUR_SELFTEST_GAL
  let c := s.get Reg.CUR_SELFTEST_CAB
  let d := s.get Reg.CUR_SELFTEST_POS
  let t := s.put Reg.CUR_SELFTEST_REFUSED 0
  if s.testRefused g c d then t.put Reg.CUR_SELFTEST_REFUSED 1 else t.startTest g c d

/-- CUR_SELFTEST_GO: a self-test request tests a drawer in place or through a spare swap, or is refused (R237). Outside
service state it is refused too. -/
def execCurSelftestGo (s : State) : Host.Outcome State Fault Refusal :=
  .next (if s.mode = .service then doCurSelftestGo s.touchIdle else if s.mode = .recovery then doCurSelftestGo s else s)

/-- SELFTEST_ROTATION of a gallery (R218, R237): the drawer tested is one the manual does not fix; rotation pauses from stage
1 on, and ROTATE_H 0 turns it off. -/
def doSelftestRotation (g : Fin 8) (s : State) : State :=
  if s.get Reg.CUR_CTRL_ROTATE_H = 0 ∨ 1 ≤ s.cur.stage then s
  else
    match s.pick ((List.range 544).filter fun x => !s.testRefused g.val (x / 17) (x % 17)) with
    | none => s
    | some x => s.drawn.startTest g.val (x / 17) (x % 17)

/-- SELFTEST_ROTATION: the ROTATE_H timer starts a periodic drawer self-test in a gallery (R237). -/
def execSelftestRotation (g : Fin 8) (s : State) : Host.Outcome State Fault Refusal := .next (doSelftestRotation g s)

/-! ## The self-test (R240) -/

/-- A drawer is retired: state 3, out of every bay and broad set, EV_DRAWER_RETIRED; EV_SPARE_EXHAUSTED when no cabinet of
the gallery has a spare (R240, R241). -/
def State.retireDrawer (s : State) (g x : Nat) : State :=
  let t := s.setDrawer g x { s.drawer g x with st := .retired }
  let u : State := { t with bays := t.bays.map (fun b => if b.g = g then { b with units := b.units.filter (· != x) } else b),
                            broad := t.broad.filter fun b => !(b.g == g && b.unit == x) }
  u.raise (Ev.DRAWER_RETIRED g)

/-- No cabinet of the gallery has a spare (R240). -/
def State.noSpares (s : State) (g : Nat) : Bool := (List.range 32).all fun c => (s.cab (32 * g + c)).spare == 31

/-- Rows that fail a self-test are added to the drawer's defect map (R240). -/
def State.addDefects (s : State) (g x : Nat) (rows : List Nat) : State :=
  let k := s.drawer g x
  let new := (rows.filter fun r => !k.defects.contains r).eraseDups
  (s.setDrawer g x { k with defects := k.defects ++ new }).bump Reg.CUR_CNT_DEFECT_COUNT new.length

/-- The cells that the four passes of the march program in a row: those that are not low yet, all 496, the 248 that the checkerboard has
low, all 496 (R211, R240). -/
def State.marchCells (s : State) (k : Nat) : Nat :=
  let low : RowCells := .ofWord (BitVec.allOnes 160) (BitVec.allOnes 160) (BitVec.allOnes 176)
  (s.raw k).diff low + 496 + RowCells.diff {} (checker (k % 2048) false) + (checker (k % 2048) false).diff (checker (k % 2048) true)

/-- The journal records and the queue of clears let go of the places of a drawer whose rows hold nothing of what they held (R191, R213). -/
def State.coverNone (s : State) (g x : Nat) : State :=
  { s with cur := { s.cur with clearQ := s.cur.clearQ.filter fun l => !l.inDrawer g x },
           journal := s.journal.filterMap fun j =>
             let k := { j with covers := j.covers.filter fun l => !l.inDrawer g x }
             if j.covers.isEmpty = false ∧ k.covers.isEmpty = true then none else some k }

/-- The march test's writes: 4 passes over the 2,048 rows of a drawer (R240), metered as wear (R214). The drawer's rows hold the last
pattern from then on, and it is dirty (R233). -/
def State.marchWrites (s : State) (g x : Nat) : State :=
  let lo := drawerKey g x * 2048
  let cells := (List.range 2048).map fun r => (lo + r, s.marchCells (lo + r))
  let all := (cells.map (·.2)).sum
  let rows := (cells.map fun e => (e.1, s.wearOf g x (e.1 - lo) + e.2)).filter fun e => e.2 != 0
  let w := (s.cur.rowWear.filter fun e => decide (e.1 < lo)) ++ rows ++ s.cur.rowWear.filter fun e => decide (lo + 2048 ≤ e.1)
  let own := fun (k : Nat) => k / 2048 == drawerKey g x
  let t : State := { s with cells := s.cells.filter (fun e => !own e.1), faults := s.faults.filter (fun e => !own e.1),
                            cur := { s.cur with rowWear := w } }
  let u := ((t.spend all).bump Reg.CUR_CNT_WRITES_COUNT 8192).coverNone g x
  let d := u.drawer g x
  u.setDrawer g x { d with wear := d.wear + all, marched := true, dirty := true, writes := d.writes + 8192, lastWrite := u.clock }

/-- A drawer has been tested: the rows that fail are in its defect map, and what R235 counts starts anew. -/
def State.tested (s : State) (g x : Nat) (bad : List Nat) : State :=
  let t := (s.marchWrites g x).addDefects g x bad
  t.setDrawer g x { t.drawer g x with suspect := false, unread := [], rejects := 0, rejectsAt := 0 }

/-- The test passes when fewer than 16 rows are defective and every search is correct (R240). -/
def State.testPassed (s : State) (g x : Nat) (ok : Bool) : Bool := decide ((s.drawer g x).defects.length < 16) && ok

/-- The drawer of the test passes: it becomes the spare, or is free again when it was (R237, R240). -/
def State.testPass (s : State) (w : Swap) : State :=
  let x := 17 * w.c + w.d
  let n := 32 * w.g + w.c
  let r := s.put Reg.CUR_SELFTEST_RESULT 2
  if w.inPlace ∧ w.s = 31 then r.setDrawer w.g x { r.drawer w.g x with st := .free }
  else
    let z := r.setDrawer w.g x { r.drawer w.g x with st := .spare, tbl := 0, width := 0, broad := false, bay := 0 }
    (z.setCab n { z.cab n with spare := w.d }).moveReserve n []

/-- It fails: it is retired, and the cabinet is without a spare (R240). -/
def State.testFail (s : State) (w : Swap) : State :=
  let r := ((s.put Reg.CUR_SELFTEST_RESULT 3).raise (Ev.SELFTEST_FAIL w.g)).retireDrawer w.g (17 * w.c + w.d)
  if r.noSpares w.g then r.raise (Ev.SPARE_EXHAUSTED w.g) else r

/-- DRAWER_SELFTEST (R240): once its 4,096 searches have been made in reserved slots, the test of D ends. `bad`: rows that fail; `ok`:
every search matched exactly the rows that the patterns predict, and the priority encoder returned them. -/
def doDrawerSelftest (g : Fin 8) (bad : List (BitVec 11)) (ok : Bool) (s : State) : State :=
  match s.testReady g.val with
  | none => s
  | some w =>
    if s.mayWork 10 = false ∨ (s.cab (32 * w.g + w.c)).fenced = true ∨ w.made < 4096 ∨ s.journalIn (32 * w.g + w.c) [w.d] = true then s
    else
      let t := s.tested w.g (17 * w.c + w.d) (bad.map (·.toNat))
      let u := t.setCur { t.cur with swaps := t.cur.swaps.filter fun z => z ≠ w }
      if u.testPassed w.g (17 * w.c + w.d) ok then u.testPass w else u.testFail w

/-- DRAWER_SELFTEST: from b+L the drawer is march-tested and searched; it becomes the spare or is retired (R240). -/
def execDrawerSelftest (g : Fin 8) (bad : List (BitVec 11)) (searchesOk : Bool) (s : State) : Host.Outcome State Fault Refusal :=
  .next (doDrawerSelftest g bad searchesOk s)

/-! ## Retirement (R241) -/

/-- A free drawer of the gallery may be assigned to the bay of an entry, or to the broad set where the bay lists 8 units (R143, R147). -/
def State.mayAssign (s : State) (r : Row) : Bool :=
  match s.table r.tbl with
  | none => false
  | some d =>
    let room := decide ((s.broadUnits r.loc.gal r.tbl).length < s.broadLimit r.loc.gal)
    match s.bayForEntry r.tbl d r.loc.gal r.value r.care with
    | some b => decide (b.units.length < 8) || room
    | none => room

/-- One entry of a drawer in retirement: relocated into a drawer of its bay or broad set, or a free drawer; lost from tick k with cause 1
when it cannot be read; one without room waits. -/
def State.retireRow (k : Tick) (s : State) (r : Row) : State :=
  if s.moving r.tbl r.id || s.shut r.loc.phys then s
  else if s.entryReadable r = false then s.loseEntry r.tbl r.id 1 k
  else if r.st ≠ .live ∨ s.journalFull r.loc.gal r.loc.cabinet = true then s
  else
    let l := s.homes r
    let us := if (s.movesTo r l).isEmpty && s.mayAssign r then s.freeDrawers r.loc.gal else l
    let o := State.copyOne 16 r.loc.gal us 0 r s
    if o.2 then o.1.journalRecord r false true else o.1

/-- Go on relocating the entries of a drawer in retirement, by requester 6; vestibule rows bound for it are given another drawer. -/
def State.retireMore (s : State) (k : Tick) : State :=
  match s.cur.retire with
  | none => s
  | some (g, c, d) =>
    if s.mayWork 6 then
      ((s.retargetAll.drawerRows g (17 * c + d)).filter fun r => r.off.isNone && (r.st == .live || r.st == .entering)).foldl
        (State.retireRow k) s.retargetAll
    else s

/-- A retirement starts (R241). -/
def State.startRetire (s : State) (g c d : Nat) : State :=
  let t := s.put Reg.CUR_RETIRE_RESULT 1
  State.retireMore (t.setCur { t.cur with retire := some (g, c, d) }) (tickAdd s.tick.now 1)

/-- CUR_RETIRE_GO (R241): refused for a drawer that is free, spare or retired. -/
def doCurRetireGo (s : State) : State :=
  let g := s.get Reg.CUR_RETIRE_GAL
  let c := s.get Reg.CUR_RETIRE_CAB
  let d := s.get Reg.CUR_RETIRE_POS
  let t := s.put Reg.CUR_RETIRE_REFUSED 0
  if 16 < d ∨ (s.drawer g (17 * c + d)).st ≠ .assigned ∨ s.cur.retire.isSome = true then t.put Reg.CUR_RETIRE_REFUSED 1
  else t.startRetire g c d

/-- CUR_RETIRE_GO: a retirement request relocates a drawer's entries into other drawers (R241). -/
def execCurRetireGo (s : State) : Host.Outcome State Fault Refusal := .next (s.onService doCurRetireGo)

/-- DRAWER_RETIREMENT_DONE (R241): the drawer is retired at the boundary at which its last row becomes FREE; the journal's rows in it move
first (R215). -/
def doDrawerRetirementDone (g : Fin 8) (s : State) : State :=
  match s.cur.retire with
  | none => s
  | some (g', c, d) =>
    if g' = g.val ∧ (s.drawerRows g' (17 * c + d)).isEmpty = true ∧ (s.targeting g' (17 * c + d)).isEmpty = true then
      let n := 32 * g' + c
      let r := if s.journalIn n [d] && s.mayWork 6 && !(s.cab n).fenced then s.moveReserve n [d] else s
      if r.journalIn n [d] then r
      else
        let t := (r.retireDrawer g' (17 * c + d)).put Reg.CUR_RETIRE_RESULT 2
        t.setCur { t.cur with retire := none }
    else s

/-- DRAWER_RETIREMENT_DONE: the drawer is retired at the boundary at which its last row becomes FREE (R241). -/
def execDrawerRetirementDone (g : Fin 8) (s : State) : Host.Outcome State Fault Refusal := .next (doDrawerRetirementDone g s)

/-! ## Care of its own accord (R216, R237, R241) -/

/-- The drawers that are suspect, by key. -/
def State.suspects (s : State) : List Nat := (s.drawers.filter fun e => e.2.suspect).map (·.1)

/-- SELFTEST_AUTO 1: suspect drawers are tested, where R237 refuses nothing. -/
def State.testSuspects (s : State) : State :=
  if s.flag Reg.CUR_CTRL_SELFTEST_AUTO then
    s.suspects.foldl (fun x k =>
      let c := k % 544 / 17
      let d := k % 544 % 17
      if x.testRefused (k / 544) c d then x else x.startTest (k / 544) c d) s
  else s

/-- RETIRE_AUTO 1: a suspect drawer that holds entries in a cabinet without a spare is retired (R241). -/
def State.retireSuspects (s : State) : State :=
  if s.flag Reg.CUR_CTRL_RETIRE_AUTO = false ∨ s.cur.retire.isSome = true then s
  else
    match s.suspects.find? fun k => (s.drawer (k / 544) (k % 544)).st == .assigned && (s.cab (32 * (k / 544) + k % 544 / 17)).spare == 31 with
    | none => s
    | some k => s.startRetire (k / 544) (k % 544 / 17) (k % 544 % 17)

/-- The drawer's mean wear lies more than LEVEL_SPREAD below the mean of its gallery's pool (R216). -/
def State.coldDrawer (s : State) (g x : Nat) : Bool :=
  let pool := ((List.range 544).map (s.drawer g)).filter fun k => k.st != .retired
  let spread := s.get Reg.CUR_WEAR_CTRL_LEVEL_SPREAD * (2048 * 496)
  (s.drawer g x).st == .assigned && decide (((s.drawer g x).wear + spread) * pool.length < (pool.map (·.wear)).sum)

/-- Static levelling in a gallery: a cold drawer's contents move by a spare swap; which of several, is a free value (R216,
notes/assumptions/3.md). It pauses from stage 1 on (Table 7-2). -/
def State.level (s : State) (g : Nat) : State :=
  if 1 ≤ s.cur.stage then s
  else
    match s.pick ((List.range 544).filter fun x => s.coldDrawer g x && !s.testRefused g (x / 17) (x % 17)) with
    | none => s
    | some x => s.drawn.startTest g (x / 17) (x % 17)

/-- What the curator starts of its own accord, with the scrub (notes/assumptions/103.md). -/
def State.care (s : State) : State :=
  if s.mode = .service then (List.range 8).foldl State.level s.testSuspects.retireSuspects else s

/-! ## The scrub's commands (R226 to R230, R248) -/

/-- A store line at the threshold is rewritten in place by requester 12, its cells a free value. -/
def State.rewriteLine (s : State) : State := (s.drawn.spend s.peek).bump Reg.CUR_CNT_REFRESH_COUNT

/-- The five-offset read of a line recovers it: twice the errors plus the erasures is at most 5 (R229, R248). -/
def lineRecovers (d : LineRead) : Bool := decide (2 * d.errors5 + d.erasures ≤ 5)

/-- The store is read (R248): a line whose errors the check code corrects is counted, one at the threshold is rewritten in place; one
that no read recovers is uncorrectable from then on, and so does one stay whose rewriting requester 12 cannot make
(notes/assumptions/104.md). -/
def State.scrubStore (s : State) (l : BitVec 20) (d : LineRead) : State :=
  let n := l.toNat
  let set := fun (bad marred : Bool) =>
    let without := fun (x : List Nat) => x.filter (· != n)
    s.setWrd { s.wrd with bad := if bad then without s.wrd.bad ++ [n] else without s.wrd.bad,
                          marred := if marred then without s.wrd.marred ++ [n] else without s.wrd.marred }
  if d.uncorr = false then
    let fix : Bool := decide (s.refreshThresh ≤ d.errors + d.weak) && s.mayWork 12
    let t := set false (decide (0 < d.errors) && !fix)
    let u := if d.errors = 0 then t else t.bump Reg.WRD_CNT_STORE_CORR_COUNT
    if fix then u.rewriteLine else u
  else if lineRecovers d then
    let t := (set (!s.mayWork 12) false).bump Reg.CUR_CNT_RECOVERED_COUNT
    if s.mayWork 12 then t.rewriteLine else t
  else (set true false).setRaise Reg.WRD_STATUS_STORE_UNCORR Ev.STORE_UNCORR

/-- The scrub period of the REJECTS count begins (R235). -/
def State.startRejects (s : State) : State :=
  s.drawers.foldl (fun x e => { x with drawers := fset x.drawers e.1 (drawerInit (e.1 % 544)) { e.2 with rejectsAt := e.2.rejects } }) s

/-- The rows whose reading by the pass tells something: those that `reads` lists and those of a known condition; the others read as
written. -/
def State.passRows (s : State) (reads : List (Nat × ScrubRead)) : List Nat :=
  let all := s.heldRows
  (reads.map (·.1) ++ s.faults.map (·.1)).eraseDups.filter fun k => (all.contains k || decide (2 ^ 26 ≤ k)) && !s.shut k

/-- SCRUB_PASS (R226, R248): requester 8 reads every row that holds an entry or a journal record, every reference and descriptor row, and
the store; the pass ends the scrub period of the REJECTS count (R235), and the curator takes care of what it found. -/
def doScrubPass (reads : List (Nat × ScrubRead)) (store : List (BitVec 20 × LineRead)) (s : State) : State :=
  if s.mayWork 8 = false ∨ s.mode ≠ .service then s
  else
    let t := (s.passRows reads).foldl (fun x k => x.scrubRow k ((reads.find? fun e => e.1 == k).map (·.2))) s
    let u := t.bump Reg.CUR_CNT_SCRUBBED_COUNT ((s.heldRows ++ sideRows).filter fun k => !s.shut k).length
    (store.foldl (fun x e => x.scrubStore e.1 e.2) u).startRejects.care

/-- SCRUB_PASS: the periodic scrub reads every held row at three references and corrects SRAM rows (R226). -/
def execScrubPass (reads : List (Nat × ScrubRead)) (store : List (BitVec 20 × LineRead)) (s : State) : Host.Outcome State Fault Refusal :=
  .next (doScrubPass reads store s)

/-- SCRUB_QUEUE_READ (R226): the oldest queued row of a cabinet that is not fenced is read. -/
def doScrubQueueRead (d : ScrubRead) (s : State) : State :=
  match s.cur.scrubQ.find? fun k => !s.shut k with
  | none => s
  | some k =>
    if s.mayWork 8 then
      (((s.setCur { s.cur with scrubQ := s.cur.scrubQ.erase k }).scrubRow k (some d)).bump Reg.CUR_CNT_SCRUBBED_COUNT).care
    else s

/-- SCRUB_QUEUE_READ: a row queued for scrub is read ahead of the pass (R226). -/
def execScrubQueueRead (r : ScrubRead) (s : State) : Host.Outcome State Fault Refusal := .next (s.ifCurating 8 (doScrubQueueRead r))

/-! ## The full-array test (R242) -/

/-- Every durable entry and the table directory are deleted. -/
def State.eraseArray (s : State) : State :=
  { s with rows := [], journal := [], tables := [], tallies := [], lost := [], bays := [], broad := [],
           drawers := s.drawers.map fun e => (e.1, { e.2 with st := if e.2.st == .assigned then .free else e.2.st, tbl := 0, bay := 0 }) }

/-- CUR_FULLTEST_GO (R242): only in recovery state; elsewhere the write is ignored and FULLTEST_REFUSED set. -/
def doCurFulltestGo (s : State) : State :=
  if s.mode ≠ .recovery then (if s.mode = .service then s.put Reg.CUR_STATUS_FULLTEST_REFUSED 1 else s)
  else if s.cur.fullTest then s
  else
    let t := ((s.put Reg.CUR_FULLTEST_DONE 0).put Reg.CUR_FULLTEST_PASS 0).put Reg.CUR_FULLTEST_PROGRESS 0
    let u := t.setCur { t.cur with fullTest := true }
    if s.flag Reg.CUR_FULLTEST_ERASE then u.eraseArray else u

/-- CUR_FULLTEST_GO: a write of 1 to CUR_FULLTEST.GO in recovery starts the full-array test (R242). -/
def execCurFulltestGo (s : State) : Host.Outcome State Fault Refusal := .next (doCurFulltestGo s)

/-- PROGRESS while the full-array test runs: how far it has come is a free value that never falls (notes/assumptions/3.md). -/
def State.showProgress (s : State) : State :=
  let p := s.get Reg.CUR_FULLTEST_PROGRESS
  if s.cur.fullTest then s.drawn.put Reg.CUR_FULLTEST_PROGRESS (p + s.peek % (100 - p)) else s

/-- What a test found of a drawer: the rows that fail, and whether every search was correct; a drawer that is not listed passes without a
new defective row. -/
def foundIn (found : List (Nat × List (BitVec 11) × Bool)) (k : Nat) : List Nat × Bool :=
  match found.find? fun e => e.1 == k with
  | some e => (e.2.1.map (·.toNat), e.2.2)
  | none => ([], true)

/-- One row of a drawer moves to the same index of drawer sx in the course of the full-array test, or to another place where its write does
not verify. -/
def State.swapRow : Nat → Nat → Nat → State → Row → State
  | 0, _, _, s, _ => s
  | f + 1, g, sx, s, r =>
    match s.swapPlace g sx r with
    | none => s
    | some p =>
      let n := { r with loc := drawerLoc g sx p }
      let o := s.writeFree n
      if o.2 then o.1.setRows (o.1.rows.map fun x => if x = r then n else x) else State.swapRow f g sx o.1 r

/-- The contents of drawer p of cabinet n move to its spare, and p becomes the spare, in the course of the full-array test; an
entry that cannot be read or copied is lost with cause 1 (R238, R240, R242). -/
def State.swapNow (s : State) (n p : Nat) : State :=
  let g := n / 32
  let dx := 17 * (n % 32) + p
  let sx := 17 * (n % 32) + (s.cab n).spare
  let t := (drawerOrder (s.rows.filter s.entryReadable) g dx).foldl (State.swapRow 16 g sx) s
  let u := ((t.drawerRows g dx).filter fun r => r.off.isNone).foldl (fun x r => x.loseEntry r.tbl r.id 1 s.tick.now) t
  let q := (u.setRows (u.rows.filter fun r => !r.loc.inDrawer g dx)).replaceUnit g dx sx
  let v := q.setDrawer g sx { q.drawer g sx with st := (s.drawer g dx).st }
  let w := (v.setDrawer g dx { v.drawer g dx with st := .spare, tbl := 0, width := 0, broad := false, bay := 0 }).coverNone g dx
  (w.setCab n { w.cab n with spare := p }).bump Reg.CUR_CNT_SWAP_COUNT

/-- The drawer of cabinet n that was under test last fails: it is retired, and the cabinet is without a spare (R240, R242). -/
def State.fullTestRetire (s : State) (n : Nat) : State :=
  let g := n / 32
  let x := 17 * (n % 32) + (s.cab n).spare
  let t := s.moveReserve n [(s.cab n).spare]
  let u := (((t.setDrawer g x { t.drawer g x with st := .retired }).setCab n { t.cab n with spare := 31 }).raise (Ev.SELFTEST_FAIL g)).raise
    (Ev.DRAWER_RETIRED g)
  if u.noSpares g then u.raise (Ev.SPARE_EXHAUSTED g) else u

/-- The spare of cabinet n is tested in place (R242): the journal's rows leave it first. -/
def State.testSpare (found : List (Nat × List (BitVec 11) × Bool)) (s : State) (n : Nat) : State :=
  let g := n / 32
  let x := 17 * (n % 32) + (s.cab n).spare
  let f := foundIn found (drawerKey g x)
  let t := (if s.journalIn n [(s.cab n).spare] then s.moveReserve n [(s.cab n).spare] else s).tested g x f.1
  if t.testPassed g x f.2 then t else t.fullTestRetire n

/-- The full-array test of cabinet n with ERASE 0: its spare, then each assigned drawer in turn, which the spare replaces, until one
fails (R242). -/
def State.fullTestCab (found : List (Nat × List (BitVec 11) × Bool)) (s : State) (n : Nat) : State :=
  if (s.cab n).spare = 31 then s
  else
    let act := (List.range 17).filter fun p => (s.drawer (n / 32) (17 * (n % 32) + p)).st == .assigned || (s.drawer (n / 32) (17 * (n % 32) + p)).st == .free
    let t := act.foldl (fun x p => if (x.cab n).spare = 31 then x else (x.swapNow n p).testSpare found n) (s.testSpare found n)
    if (t.cab n).spare = 31 then t else t.moveReserve n []

/-- A drawer is tested in place with ERASE 1; one that fails is retired (R242). -/
def State.eraseTest (found : List (Nat × List (BitVec 11) × Bool)) (s : State) (k : Nat) : State :=
  let g := k / 544
  let x := k % 544
  let n := 32 * g + x / 17
  let f := foundIn found k
  if (s.drawer g x).st = .retired then s
  else
    let t := s.tested g x f.1
    if t.testPassed g x f.2 then t
    else if (t.cab n).spare = x % 17 then t.fullTestRetire n
    else ((t.setDrawer g x { t.drawer g x with st := .retired }).raise (Ev.SELFTEST_FAIL g)).raise (Ev.DRAWER_RETIRED g)

/-- The self-search sweep that ends the full-array test (R231, R242); `stuck`: entries whose match line does not follow its cells. -/
def State.fullSweep (s : State) (stuck : List (Fin 64 × BitVec 24)) : State :=
  (s.sweepable.foldl (fun x r => x.searchSelf r (stuck.any fun e => e.1.val == r.tbl && e.2.toNat == r.id)) s).endSweep

/-- Retired drawers. -/
def State.retiredCount (s : State) : Nat := (s.drawers.filter fun e => e.2.st == .retired).length

/-- FULLTEST_COMPLETE (R242): the drawers are tested, a full calibration and a self-search sweep, DONE and PASS, the drift history
cleared, EV_FULLTEST_DONE. -/
def doFulltestComplete (found : List (Nat × List (BitVec 11) × Bool)) (stuck : List (Fin 64 × BitVec 24)) (cal : List CabCal) (s : State) : State :=
  if s.cur.fullTest = false ∨ s.mayWork 10 = false then s
  else
    let t := if s.flag Reg.CUR_FULLTEST_ERASE then (List.range 4352).foldl (State.eraseTest found) s
      else (List.range 256).foldl (State.fullTestCab found) s
    let u := ((t.calibrateAll cal true).fullSweep stuck).dropHistory
    let v := u.setCur { u.cur with fullTest := false }
    ((((v.put Reg.CUR_FULLTEST_DONE 1).putB Reg.CUR_FULLTEST_PASS (t.retiredCount == s.retiredCount)).put Reg.CUR_FULLTEST_PROGRESS 100).raise
      Ev.FULLTEST_DONE)

/-- FULLTEST_COMPLETE: the full-array test ends with DONE and PASS set and EV_FULLTEST_DONE raised (R242). -/
def execFulltestComplete (found : List (Nat × List (BitVec 11) × Bool)) (missed : List (Fin 64 × BitVec 24)) (cal : List CabCal) (s : State) :
    Host.Outcome State Fault Refusal := .next (doFulltestComplete found missed cal s)

end Sys2Proof.Machine
end

