-- ==== Sys2Proof/Machine/Restore.lean ====
section
/-! DEFINITION. Restore of lost entries from a twin (R243, R244). -/

namespace Sys2Proof.Machine

/-! ## Restore from the twin (R244) -/

/-- RESTORE_REQ (R244, R309, R302): the twin's request is answered from committed state through requester 1, or refused: 1
absent, 2 lost, 3 the descriptor differs. While requester 1 is fenced it is refused with a code the manual leaves open. -/
def doRestoreReq (t : Fin 64) (id : BitVec 24) (same : Bool) (s : State) : State :=
  let ans := fun (x : State) (b : Option (List Byte)) (code : Nat) => x.sendSeam (.restoreAns t.val id.toNat b code)
  if s.seam.pair ≠ .paired then s
  else if s.reqFenced 1 then ans s.drawn none (1 + s.peek % 3)
  else match s.readTable t.val with
    | none => ans s none 1
    | some d =>
      if same = false then ans s none 3
      else if s.isLost t.val id.toNat then ans s none 2
      else match s.committed t.val id.toNat with
        | none => ans s none 1
        | some r => ans s (some (s.recordOf d.width r)) 0

/-- RESTORE_REQ: a twin's request for a lost entry is answered from committed state, or refused (R244). -/
def execRestoreReq (t : Fin 64) (id : BitVec 24) (sameDesc : Bool) (s : State) : Host.Outcome State Fault Refusal :=
  .next (doRestoreReq t id sameDesc (s.seamGot 1))

/-- Every lost entry outside its table's learn range is asked for once while a twin is attached (R244). -/
def State.askRestore (s : State) : State :=
  if s.flag Reg.CUR_CTRL_TWIN_RESTORE = false ∨ s.seam.pair ≠ .paired then s
  else
    let want := s.lost.filter fun e => !s.cur.restoreAsked.contains e && (match s.table e.1 with
      | some d => !d.inLearn e.2
      | none => false)
    let t := s.setCur { s.cur with restorePend := s.cur.restorePend ++ want, restoreAsked := s.cur.restoreAsked ++ want }
    t.sendSeams (want.map fun e => .restoreReq e.1 e.2)

/-- With no request pending EV_RESTORE_DONE is raised, and RESTORE_FAIL set when one was refused. -/
def State.restoreOver (s : State) : State :=
  if s.cur.restorePend.isEmpty then
    (if s.get Reg.CUR_RESTORE_REFUSED = 0 then s else s.put Reg.CUR_STATUS_RESTORE_FAIL 1).raise Ev.RESTORE_DONE
  else s

/-- An entry received is applied as an ungrouped TBL_MODIFY that is neither mirrored, nor bound by the write lock, nor
deferred; it waits for the table's lock and for room (R244). The second part says whether it was staged. -/
def State.applyRestore (s : State) (t id : Nat) (b : List Byte) : State × Bool :=
  match s.liveTable t with
  | none => (s, true)
  | some d =>
    if s.tableLocked t then (s, false)
    else
      let g : Group := { num := 0, tbl := t, func := 0, lease := 0, ungrouped := true, st := .ready, local_ := true, order := s.cur.deferOrder }
      let r := entryOfBytes b d.width
      match s.stage g d .modify { r with id := id } with
      | .ok u g' => ({ u with groups := u.groups ++ [g'] }.bump Reg.CUR_RESTORE_RESTORED, true)
      | .fail _ => (s, true)
      | .wait => (s, false)

/-- RESTORE_ANS (R244). -/
def doRestoreAns (t : Fin 64) (id : BitVec 24) (r : Option (List Byte)) (s : State) : State :=
  if s.cur.restorePend.contains (t.val, id.toNat) = false then s
  else
    let u := s.setCur { s.cur with restorePend := s.cur.restorePend.erase (t.val, id.toNat) }
    match r with
    | none => (u.bump Reg.CUR_RESTORE_REFUSED).restoreOver
    | some b =>
      let a := u.applyRestore t.val id.toNat b
      if a.2 then a.1.restoreOver
      else s.setCur { s.cur with restoreHeld := s.cur.restoreHeld ++ [(t.val, id.toNat, b)] }

/-- RESTORE_ANS: a received entry is applied as an unmirrored ungrouped TBL_MODIFY (R244). -/
def execRestoreAns (t : Fin 64) (id : BitVec 24) (rec : Option (List Byte)) (s : State) : Host.Outcome State Fault Refusal :=
  .next (doRestoreAns t id rec (s.seamGot (SeamOut.restoreAns 0 0 rec 0).flits))

/-- Entries received that wait for their table's lock are tried again. -/
def State.retryRestore (s : State) : State :=
  s.cur.restoreHeld.foldl (fun x e =>
    let a := x.applyRestore e.1 e.2.1 e.2.2
    if a.2 then
      ({ a.1 with cur := { a.1.cur with restoreHeld := a.1.cur.restoreHeld.erase e, restorePend := a.1.cur.restorePend.erase (e.1, e.2.1) } } :
        State).restoreOver
    else x) s

end Sys2Proof.Machine
end

