-- ==== Sys2Proof/Machine/Maintenance.lean ====
section
/-! DEFINITION. The maintenance port (10_maintenance_fencing.md): requests, arbitration, break points, starvation, the
watchdog and the fences of requesters. -/

namespace Sys2Proof.Machine

/-- A start halts with a cause and waits in start-up state for START_LIMIT (R365). -/
def State.haltStart (s : State) (cause : Nat) : State :=
  (s.put Reg.BOOT_STATUS_HALTED 1).put Reg.BOOT_STATUS_HALT_CAUSE cause

/-! ## Waits and grants -/

/-- The priority of a requester (R292). -/
def State.prio (s : State) (r : Nat) : Nat := s.get Reg.MNT_REQ_PRIO r

/-- The owner of the port, if any. -/
def State.owner (s : State) : Option Nat := (List.range 16).find? fun r => (s.req r).st == .owner

/-- Requesters that wait. -/
def State.waiters (s : State) : List Nat := (List.range 16).filter fun r => (s.req r).st == .waiting

/-- A wait is counted up to now (R296): MNT_CNT_WAIT, and MNT_MAX_WAIT once the wait exceeds it. -/
def State.countWait (s : State) (r : Nat) : State :=
  let q := s.req r
  if q.st = .waiting then
    let w := min (s.clock - q.since) (2 ^ 32 - 1)
    (((s.bump Reg.MNT_CNT_WAIT_COUNT (s.clock - q.counted) r).put Reg.MNT_MAX_WAIT_CYCLES
      (max w (s.get Reg.MNT_MAX_WAIT_CYCLES r)) r).setReq r { q with counted := s.clock })
  else s

/-- A requester waits from now on. -/
def State.startWait (s : State) (r : Nat) : State := s.setReq r { st := .waiting, since := s.clock, counted := s.clock }

/-- The port's marks: the last requester granted and the clock of the grant or break point. -/
def State.markPort (s : State) (last : Nat) : State := { s with mnt := { s.mnt with last := last, mark := s.clock } }

/-- The grant goes to requester r. -/
def State.grant (s : State) (r : Nat) : State :=
  (((s.countWait r).bump Reg.MNT_CNT_GRANT_COUNT 1 r).setReq r { st := .owner }).markPort r

/-- The waiter of highest priority; among equals the first after the last requester granted, wrapping (R293). -/
def State.bestWaiter (s : State) : Option Nat :=
  let order := (List.range 16).map fun i => (s.mnt.last + 1 + i) % 16
  order.foldl (fun (b : Option Nat) r =>
    if s.waiters.contains r then
      match b with
      | none => some r
      | some x => if s.prio x < s.prio r then some r else some x
    else b) none

/-- Arbitration of a port without owner (R293). -/
def State.arbitrate (s : State) : State :=
  match s.owner, s.bestWaiter with
  | none, some r => s.grant r
  | _, _ => s

/-- MAINTENANCE_REQUEST (R293, R296): an idle requester that may request waits, and is granted a port without owner. -/
def doMaintenanceRequest (r : Fin 16) (s : State) : State :=
  if (s.req r).st = .idle ∧ s.mayRequest r = true then (s.startWait r).arbitrate else s

/-- MAINTENANCE_REQUEST: a requester raises its request and waits for a grant (R293). -/
def execMaintenanceRequest (r : Fin 16) (s : State) : Host.Outcome State Fault Refusal := .next (doMaintenanceRequest r s)

/-- BREAK_POINT of the owner (R293, R294): it drops its request, loses the grant to a strictly higher waiter, or keeps it. -/
def doBreakPoint (drop : Bool) (s : State) : State :=
  match s.owner with
  | none => s
  | some o =>
    if drop then (s.setReq o {}).arbitrate
    else
      match s.bestWaiter with
      | some r => if s.prio o < s.prio r then (s.startWait o).grant r else s.markPort s.mnt.last
      | none => s.markPort s.mnt.last

/-- BREAK_POINT: the end of the owner's burst arbitrates the port (R293). -/
def execBreakPoint (drop : Bool) (s : State) : Host.Outcome State Fault Refusal := .next (doBreakPoint drop s)

/-- MNT_PRIO_WRITE (R295): stored, and the priority of every later arbitration. -/
def execMntPrioWrite (r : Fin 16) (v : BitVec 3) (s : State) : Host.Outcome State Fault Refusal :=
  .next (s.onService fun x => if r.val < 14 then x.put Reg.MNT_REQ_PRIO v.toNat r else x)

/-- STARVATION (R297): a wait longer than STARVE_US sets STARVED; going from 0 to 1 it raises EV_STARVE. -/
def doStarvation (r : Fin 16) (s : State) : State :=
  let us := s.get Reg.MNT_REQ_STARVE_US r
  let q := s.req r
  if q.st = .waiting ∧ us ≠ 0 ∧ us * cyclesPerUs < s.clock - q.since ∧ s.flag Reg.MNT_REQ_STARVED r = false then
    (s.put Reg.MNT_REQ_STARVED 1 r).raise (Ev.STARVE r)
  else s

/-- STARVATION: a requester waits longer than STARVE_US and STARVED is set (R297). -/
def execStarvation (r : Fin 16) (s : State) : Host.Outcome State Fault Refusal := .next (doStarvation r s)

/-! ## Fences (R301, R302) -/

/-- The flips a requester had prepared are cancelled; a split, merge or retirement copy goes with relocation's (R301). -/
def State.cancelPrepared (s : State) (r : Nat) : State :=
  let t := (s.rows.filter fun x => x.st == .set && x.maker == r).foldl State.cancelSet s
  if r = 6 then { t with cur := { t.cur with reshape := [] } } else t

/-- Commands in execution that use the port complete FENCED (R302). -/
def State.fenceEngine (s : State) : State :=
  match s.host.engine, s.host.waitFrom with
  | some c, some _ => s.finish c Sts.FENCED
  | _, _ => s

/-- Requester r is fenced (R301): its request dropped, its work cancelled, the port arbitrated when it was the owner. A
bulk load or inventory pass cut off halts the start (R367). -/
def State.fenceReq (s : State) (r : Nat) : State :=
  let own : Bool := s.owner == some r
  let t := (s.countWait r).setReq r { st := .fenced }
  let u := t.cancelPrepared r
  let v := if r = 0 then u.fenceEngine else u
  let w := if v.mode = .startUp then
      (if r = 3 ∧ v.get Reg.BOOT_STATUS_STEP = 8 then v.haltStart 6
       else if r = 11 ∧ v.get Reg.BOOT_STATUS_STEP = 7 then v.haltStart 7 else v)
    else v
  if own then w.arbitrate else w

/-- WATCHDOG_EXPIRY (R299): the owner has crossed no break point for WD_TIMEOUT and is fenced. -/
def doWatchdogExpiry (s : State) : State :=
  match s.owner with
  | none => s
  | some r =>
    if s.mnt.mark + s.get Reg.MNT_CTRL_WD_TIMEOUT * cyclesPerUs ≤ s.clock ∧ s.mode ≠ .dormant then
      (((s.fenceReq r).bump Reg.MNT_CNT_WD_COUNT).raise (Ev.WATCHDOG_FENCE r)).oweLog 6 r
    else s

/-- WATCHDOG_EXPIRY: the watchdog count reaches WD_TIMEOUT and the owner is fenced (R299). -/
def execWatchdogExpiry (s : State) : Host.Outcome State Fault Refusal := .next (doWatchdogExpiry s)

/-- MNT_FENCE: a host write of 1 to MNT_REQ(r).FENCE fences the requester at once (R301). The blocks of requesters 14 and 15
are reserved. -/
def execMntFence (r : Fin 16) (s : State) : Host.Outcome State Fault Refusal :=
  .next (s.onService fun x => if r.val < 14 ∧ x.reqFenced r = false then x.fenceReq r else x)

/-- MNT_UNFENCE (R303): a fenced requester is idle again and restarts its work; a spare swap that had not flipped is copied
again. -/
def doMntUnfence (r : Fin 16) (s : State) : State :=
  if s.reqFenced r = false then s
  else
    let t := s.setReq r {}
    if r.val = 10 then t.stepSwaps else t

/-- MNT_UNFENCE: a write of 1 to MNT_REQ(r).UNFENCE returns the requester to idle (R303). -/
def execMntUnfence (r : Fin 16) (s : State) : Host.Outcome State Fault Refusal := .next (s.onService (doMntUnfence r))

end Sys2Proof.Machine
end

