-- ==== Sys2Proof/Machine/PortCmds.lean ====
section
/-! DEFINITION. Host control of the ports: retraining, flush, enable, self-test; the training states before HELLO (R67 to
R71, R87, R88, Table 10-4). -/

namespace Sys2Proof.Machine

/-- Set the training state of a link, everything else of it forgotten. -/
def State.toState (s : State) (l : Link) (st : LState) : State := s.setLink l { st := st, since := s.clock }

/-- A port goes from UP to SEEK (R70): what leaving UP drops, the count, EV_LINK_DOWN; its dynamic return-path entries go at
the next boundary (R279). -/
def State.portDown (s : State) (p : Nat) : State :=
  let t := (s.leaveUp p).setPort p { (s.leaveUp p).port p with link := seekFrom s.clock }
  let u : State := { t with rptPend := { t.rptPend with down := t.rptPend.down ++ [p] } }
  (u.bump Reg.PRT_CNT_LINKDOWN_COUNT 1 p).raise (Ev.LINK_DOWN p)

/-- PRT_RETRAIN: a write of 1 to PRT_CTRL.RETRAIN takes the port from UP to SEEK (R70). -/
def execPrtRetrain (p : Fin 16) (s : State) : Host.Outcome State Fault Refusal :=
  .next (s.onService fun x => if x.portUp p then x.portDown p else x)

/-- PRT_FLUSH: a write of 1 to PRT_CTRL.FLUSH empties the port's queue at once (R87). -/
def execPrtFlush (p : Fin 16) (s : State) : Host.Outcome State Fault Refusal := .next (s.onService fun x => x.flushPort p)

/-- The fence of a port (Table 10-4): its queue flushed, planned verdicts, captures and CONTROL copies dropped; its link goes to
a state outside UP. -/
def State.fencePort (s : State) (p : Nat) (st : LState) : State :=
  let t := (s.flushPort p).leaveUp p
  t.setPort p { t.port p with link := { st := st, since := s.clock } }

/-- PRT_EN_WRITE in service (R68, Table 10-4): 1 starts the training of a disabled port, 0 fences the port. -/
def doPrtEnWrite (p : Fin 16) (en : Bool) (s : State) : State :=
  let t := s.putB Reg.PRT_CTRL_EN en p
  let st := (s.port p).link.st
  if en then (if st = .disabled then t.startTraining (.port p) else t)
  else if st = .disabled ∨ st = .selftest then t
  else t.fencePort p .disabled

/-- PRT_EN_WRITE: a write to PRT_CTRL.EN starts training, or fences the port (R68, Table 10-4). -/
def execPrtEnWrite (p : Fin 16) (en : Bool) (s : State) : Host.Outcome State Fault Refusal :=
  .next (s.onService (doPrtEnWrite p en))

/-- PRT_SELFTEST_START (R88): the port is fenced and its queue tested. -/
def doPrtSelftestStart (p : Fin 16) (s : State) : State :=
  let t := ((s.put Reg.PRT_CTRL_SELFTEST 1 p).put Reg.PRT_STATUS_SELFTEST_DONE 0 p).put Reg.PRT_STATUS_SELFTEST_PASS 0 p
  if (s.port p).link.st = .selftest then s else t.fencePort p .selftest

/-- PRT_SELFTEST_START: a write of 1 to PRT_CTRL.SELFTEST fences and tests the port's queue (R88). -/
def execPrtSelftestStart (p : Fin 16) (s : State) : Host.Outcome State Fault Refusal :=
  .next (s.onService (doPrtSelftestStart p))

/-- PRT_SELFTEST_DONE (R85, R88): the march ends; SELFTEST_PASS when it found no double error. -/
def doPrtSelftestDone (p : Fin 16) (corrected doubles : Nat) (s : State) : State :=
  if (s.port p).link.st = .selftest ∧ s.flag Reg.PRT_STATUS_SELFTEST_DONE p = false then
    ((((s.bump Reg.PRT_CNT_CORR_COUNT corrected p).bump Reg.PRT_CNT_UNCORR_COUNT doubles p).put Reg.PRT_STATUS_SELFTEST_DONE 1 p).putB
      Reg.PRT_STATUS_SELFTEST_PASS (doubles == 0) p)
  else s

/-- PRT_SELFTEST_DONE: the queue self-test ends with SELFTEST_DONE and SELFTEST_PASS (R88). -/
def execPrtSelftestDone (p : Fin 16) (corrected doubles : Nat) (s : State) : Host.Outcome State Fault Refusal :=
  .next (doPrtSelftestDone p corrected doubles s)

/-- PRT_SELFTEST_END (R88): the port retrains, or is disabled where EN is 0. -/
def doPrtSelftestEnd (p : Fin 16) (s : State) : State :=
  let t := s.put Reg.PRT_CTRL_SELFTEST 0 p
  if (s.port p).link.st = .selftest then t.toState (.port p) (if t.flag Reg.PRT_CTRL_EN p then .seek else .disabled) else t

/-- PRT_SELFTEST_END: a write of 0 to PRT_CTRL.SELFTEST ends the test and retrains the port (R88). -/
def execPrtSelftestEnd (p : Fin 16) (s : State) : Host.Outcome State Fault Refusal :=
  .next (s.onService (doPrtSelftestEnd p))

/-! ## Training before HELLO (Table 3-1) -/

/-- A training step from one state to the next, where links may train (R71). -/
def State.trainStep (s : State) (l : Link) (a b : LState) : State :=
  if s.mayTrain = true ∧ (s.link l).st = a then s.setLink l { s.link l with st := b } else s

/-- LINK_SIGNAL_DETECT: signal on both receive lanes takes SEEK to LOCK (R68). -/
def execLinkSignalDetect (l : Link) (s : State) : Host.Outcome State Fault Refusal := .next (s.trainStep l .seek .lock)

/-- CODEWORD_LOCK: clock recovery and codeword lock on both lanes take LOCK to ALIGN (R68). -/
def execCodewordLock (l : Link) (s : State) : Host.Outcome State Fault Refusal := .next (s.trainStep l .lock .align)

/-- The PORT field of the device's HELLO: the port's number, 0 on the seam and the cascade ports (Table 3-2, R308). -/
def helloPort : Link → Nat
  | .port p => p.val
  | .seam | .up | .down => 0

/-- LANE_ALIGNMENT (R66, R68, R69): ALIGN flits with a skew within 32 ns take ALIGN to HELLO, where the device sends HELLO. The lanes
take turns from lane 0 on from here. -/
def doLaneAlignment (l : Link) (skewNs : Nat) (s : State) : State :=
  if s.mayTrain = true ∧ (s.link l).st = .align ∧ skewNs ≤ 32 then
    (s.setLink l { s.link l with st := .hello, aligned := s.clock }).sendLink l (.hello (helloPort l) false)
  else s

/-- LANE_ALIGNMENT: ALIGN flits on every lane with skew within 32 ns take ALIGN to HELLO (R68). -/
def execLaneAlignment (l : Link) (skewNs : Nat) (s : State) : Host.Outcome State Fault Refusal :=
  .next (doLaneAlignment l skewNs s)

/-- HELLO_TIMEOUT (R69): 10 ms in HELLO without UP returns to SEEK; a port counts the attempt and raises no event. -/
def doHelloTimeout (l : Link) (s : State) : State :=
  if (s.link l).st ≠ .hello then s
  else
    let t := s.toState l .seek
    match l with
    | .port p => t.bump Reg.PRT_CNT_LINKDOWN_COUNT 1 p
    | _ => t

/-- HELLO_TIMEOUT: a port not UP within 10 ms of entering HELLO returns to SEEK (R69). -/
def execHelloTimeout (l : Link) (s : State) : Host.Outcome State Fault Refusal := .next (doHelloTimeout l s)

end Sys2Proof.Machine
end

