-- ==== Sys2Proof/Machine/Sites.lean ====
section
/-! DEFINITION. Site writes, the host's return-path operations, their application at a boundary, the shadow compare, and
control messages (R270, R272, R278 to R285). -/

namespace Sys2Proof.Machine

/-! ## Sites -/

/-- A site word is stored, to be applied at the next boundary; its check code is formed anew (R270, R272). -/
def State.storeSite (s : State) (n : Nat) (v : BitVec 64) : State :=
  s.setSite n { s.site n with word := St.defined v, due := true }

/-- SITE_WRITE (R270, R272, R324): a write that covers the lower half rewrites the entry, the upper half alone changes
nothing; another size is ignored (R416). In PAIRED state it is mirrored. -/
def doSiteWrite (n : BitVec 12) (v : BitVec 64) (size : Nat) (upper : Bool) (s : State) : State :=
  if (size = 4 ∧ upper = true) ∨ (size ≠ 4 ∧ size ≠ 8) then s
  else if s.seam.pair = .paired then s.startMirror (.site n (St.defined v)) n.toNat none
  else s.storeSite n.toNat v

/-- SITE_WRITE: a host write to SITE(n) is applied at the next boundary (R270). -/
def execSiteWrite (n : BitVec 12) (v : BitVec 64) (size : Nat) (upper : Bool) (s : State) :
    Host.Outcome State Fault Refusal := .next (s.onService (doSiteWrite n v size upper))

/-- Sites at a boundary: what stood at the start of the tick that ends is kept for its plan (R107), then due writes are
applied. -/
def State.sitesBoundary (s : State) : State :=
  let one := fun (e : Site) =>
    let k := { e with before := e.applied, eccBefore := e.ecc }
    if e.due then { k with applied := e.word, ecc := .clean, due := false } else k
  s.sites.foldl (fun x e => x.setSite e.1 (one e.2)) s

/-! ## Ageing and static entries -/

/-- AGE_S in ticks at the current P (R278). -/
def State.ageTicks (s : State) : Nat := s.get Reg.RPT_CTRL_AGE_S * cyclesPerS / max s.period 1

/-- Dynamic entries whose LAST lies more than AGE_S behind. -/
def State.aged (s : State) : List RptEntry :=
  s.rpt.filter fun e => !e.static && decide (s.ageTicks < tickSub s.tick.now e.last)

/-- RPT_AGEING (R278): the entries that are too old go at the next boundary. -/
def doRptAgeing (s : State) : State :=
  if s.get Reg.RPT_CTRL_AGE_S = 0 then s
  else { s with rptPend := { s.rptPend with aged := s.aged.map fun e => (e.bucket, e.way) } }

/-- RPT_AGEING: dynamic entries older than AGE_S are removed at a boundary (R278). -/
def execRptAgeing (s : State) : Host.Outcome State Fault Refusal := .next (s.onService doRptAgeing)

/-- The plain fields of RPT_STATIC as a write leaves them. -/
def State.staticFields (s : State) (tag port op : Nat) : State :=
  ((s.put Reg.RPT_STATIC_TAG tag).put Reg.RPT_STATIC_PORT port).put Reg.RPT_STATIC_OP op

/-- GO with OP 1 or 2: queued for the next boundary unless BUSY (R281). -/
def State.staticGo (s : State) (write : Bool) (tag port : Nat) : State :=
  if s.flag Reg.RPT_STATIC_BUSY then s
  else
    let t := s.put Reg.RPT_STATIC_BUSY 1
    { t with rptPend := { t.rptPend with static := t.rptPend.static ++ [(write, tag, port)] } }

/-- RPT_STATIC_WRITE: GO with OP 1 writes a static entry at the next boundary (R281). -/
def execRptStaticWrite (tag : BitVec 24) (port : BitVec 4) (s : State) : Host.Outcome State Fault Refusal :=
  .next (s.onService fun x => (x.staticFields tag.toNat port.toNat 1).staticGo true tag.toNat port.toNat)

/-- RPT_STATIC_REMOVE: GO with OP 2 removes a static entry at the next boundary (R281). -/
def execRptStaticRemove (tag : BitVec 24) (s : State) : Host.Outcome State Fault Refusal :=
  .next (s.onService fun x => ((x.put Reg.RPT_STATIC_TAG tag.toNat).put Reg.RPT_STATIC_OP 2).staticGo false tag.toNat 0)

/-- RPT_STATIC_INVALID (R281): OP 0 or 3 gives RESULT 3 and applies nothing. -/
def doRptStaticInvalid (op : BitVec 2) (s : State) : State :=
  let t := s.put Reg.RPT_STATIC_OP op.toNat
  if s.flag Reg.RPT_STATIC_BUSY = true ∨ op = 1 ∨ op = 2 then t else t.put Reg.RPT_STATIC_RESULT 3

/-- RPT_STATIC_INVALID: GO with OP 0 or 3 sets RESULT 3 (R281). -/
def execRptStaticInvalid (op : BitVec 2) (s : State) : Host.Outcome State Fault Refusal :=
  .next (s.onService (doRptStaticInvalid op))

/-! ## Changes at a boundary (R280) -/

/-- Apply one static operation: a removal of a tag without a static entry gives RESULT 2 (R281). -/
def State.applyStatic (s : State) (e : Bool × Nat × Nat) : State :=
  if e.1 then
    let r := s.rptStaticPut e.2.1 e.2.2
    r.1.put Reg.RPT_STATIC_RESULT r.2
  else
    let t := s.rptScrub e.2.1
    if t.rpt.any fun x => x.tag == e.2.1 && x.static then
      (t.setRpt (t.rpt.filter fun x => !(x.tag == e.2.1 && x.static))).put Reg.RPT_STATIC_RESULT 0
    else t.put Reg.RPT_STATIC_RESULT 2

/-- The result record of Table 9-2. -/
def rptRecord (tag port : Nat) (static valid : Bool) (cursor count last : Nat) : List Byte :=
  leBytes 16 (tag % 2 ^ 24 + port % 16 * 2 ^ 24 + (if static then 2 ^ 28 else 0) + (if valid then 2 ^ 29 else 0) +
    cursor % 2 ^ 16 * 2 ^ 32 + count % 2 ^ 16 * 2 ^ 48 + last % 2 ^ 48 * 2 ^ 64)

/-- Apply one RPT_FLUSH_BY_PORT: its record is written and its completion becomes ready (R285). -/
def State.applyFlush (s : State) (f : RptFlush) : State :=
  let gone := s.rpt.filter fun e => e.port == f.port && (f.static || !e.static)
  let t := s.setRpt (s.rpt.filter fun e => !(e.port == f.port && (f.static || !e.static)))
  match f.cmd with
  | none => t
  | some (fn, i, c) =>
    if f.wrOk then
      (t.emit (.hostWrite fn f.addr (rptRecord 0 f.port f.static false 0 gone.length 0))).owedReady fn i c Sts.SUCCESS gone.length
    else (t.dmaFail fn).owedReady fn i c Sts.DMA_ERROR

/-- The return-path changes of a boundary in their order (R279, R280). -/
def State.rptBoundary (s : State) : State :=
  let p := s.rptPend
  let old := s.rpt.filter fun e => p.aged.contains (e.bucket, e.way) && !e.static
  let t := (s.setRpt (s.rpt.filter fun e => !old.contains e)).bump Reg.RPT_CNT_AGED_COUNT old.length
  let u := t.setRpt (t.rpt.filter fun e => e.static || !p.down.contains e.port)
  let v := p.learn.foldl (fun (x : State) e => x.rptLearn e.1 e.2.1 e.2.2) u
  let w := p.flush.foldl State.applyFlush v
  let x := p.static.foldl State.applyStatic w
  let y := if p.static.isEmpty then x else x.put Reg.RPT_STATIC_BUSY 0
  { y with rptPend := {} }

/-! ## The shadow (R282) -/

/-- RPT_SHADOW_WRITE: a write to RPT_SHADOW sets the digests of four buckets (R282). -/
def execRptShadowWrite (w : BitVec 12) (v : BitVec 64) (s : State) : Host.Outcome State Fault Refusal :=
  .next (s.onService fun x => (List.range 4).foldl (fun (y : State) i =>
    { y with shadow := fset y.shadow (4 * w.toNat + i) 0 (bits v (16 * i + 15) (16 * i)) }) x)

/-- RPT_SHADOW_SET: a write to RPT_SHADOW_SET sets one bucket's digest (R282). -/
def execRptShadowSet (bucket : BitVec 14) (digest : BitVec 16) (s : State) : Host.Outcome State Fault Refusal :=
  .next (s.onService fun x => { x with shadow := fset x.shadow bucket.toNat 0 digest.toNat })

/-- The digest of a bucket: XOR over its static entries of the low 16 bits of their CRC-32 (R282). -/
def State.bucketDigest (s : State) (b : Nat) : Nat :=
  ((s.rpt.filter fun e => e.bucket == b && e.static && !e.bad).map fun e =>
    crc32 (leBytes 3 e.tag ++ leBytes 1 (e.port % 16)) % 2 ^ 16).foldl (· ^^^ ·) 0

/-- Buckets a pass can find wrong: those with an entry or a digest. -/
def State.shadowBuckets (s : State) : List Nat := (s.rpt.map (·.bucket) ++ s.shadow.map (·.1)).eraseDups

/-- SHADOW_PASS (R273, R282): uncorrectable entries go, digests that differ are counted, the lowest one recorded, and the
event raised once. -/
def doShadowPass (s : State) : State :=
  if s.flag Reg.RPT_CTRL_SHADOW_EN = false ∨ s.reqFenced 13 = true ∨ s.mode ≠ .service then s
  else
    let t := ((s.rpt.filter (·.bad)).map (·.tag)).foldl State.rptScrub s
    let bad := t.shadowBuckets.filter fun b => t.bucketDigest b != fgetD t.shadow b 0
    match bad with
    | [] => t
    | b :: rest =>
      (((t.bump Reg.RPT_CNT_SHADOW_MISMATCH_COUNT bad.length).put Reg.RPT_MISMATCH_BUCKET (rest.foldl min b)).put
        Reg.RPT_STATUS_SHADOW_MISMATCH 1).raise Ev.RPT_SHADOW

/-- SHADOW_PASS: the shadow engine compares every bucket and raises EV_RPT_SHADOW on a mismatch (R282). -/
def execShadowPass (s : State) : Host.Outcome State Fault Refusal := .next (doShadowPass s)

/-! ## Return-path commands (R285) -/

/-- The place of an entry in cursor order. -/
def RptEntry.cursor (e : RptEntry) : Nat := 4 * e.bucket + e.way

/-- The record of an entry. -/
def RptEntry.record (e : RptEntry) : List Byte := rptRecord e.tag e.port e.static true e.cursor 0 e.last

/-- RPT_SEARCH (R273, R285). -/
def coreRptSearch (s : State) (_own : Option (Nat × Nat × Nat)) (f : Nat) (c : CmdSlot) (d : Dma) : Ran :=
  let tag := bits c.p1 23 0
  if f ≠ 0 then s.deny Sts.DENIED
  else if badParams c then s.deny Sts.INVALID_FIELD
  else
    let t := s.rptScrub tag
    match t.rptEntry tag with
    | none => t.deny Sts.NOT_FOUND
    | some e => t.hostPut f c.p0.toNat e.record d

/-- RPT_SEARCH: command RPT_SEARCH returns the return-path entry of a tag (R285). -/
def execRptSearch (d : Dma) (s : State) : Host.Outcome State Fault Refusal := .next (s.runOp 0x18 d coreRptSearch)

/-- The first valid entry at or after a cursor. -/
def State.rptFrom (s : State) (cursor : Nat) (staticOnly : Bool) : Option RptEntry :=
  (s.rpt.filter fun e => !e.bad && decide (cursor ≤ e.cursor) && (!staticOnly || e.static)).foldl (fun (b : Option RptEntry) e =>
    match b with
    | none => some e
    | some x => if e.cursor < x.cursor then some e else some x) none

/-- The uncorrectable entries that a cursor walk reads, up to the entry it answers with, are found and removed (R273). -/
def State.rptFound (s : State) (cursor : Nat) (e : Option RptEntry) : State :=
  ((s.rpt.filter fun x => x.bad && decide (cursor ≤ x.cursor) && (match e with | some y => decide (x.cursor < y.cursor) | none => true)).map
    (·.tag)).foldl State.rptScrub s

/-- RPT_NEXT (R273, R285). -/
def coreRptNext (s : State) (_own : Option (Nat × Nat × Nat)) (f : Nat) (c : CmdSlot) (d : Dma) : Ran :=
  if f ≠ 0 then s.deny Sts.DENIED
  else if badParams c then s.deny Sts.INVALID_FIELD
  else
    let a := bits c.p1 15 0
    let o := s.rptFrom a (bitOf c.p1 16)
    let t := s.rptFound a o
    match o with
    | none => t.deny Sts.NOT_FOUND
    | some e => t.hostPut f c.p0.toNat e.record d

/-- RPT_NEXT: command RPT_NEXT returns the first valid entry at or after a cursor (R285). -/
def execRptNext (d : Dma) (s : State) : Host.Outcome State Fault Refusal := .next (s.runOp 0x19 d coreRptNext)

/-- RPT_FLUSH_BY_PORT (R280, R285). -/
def coreRptFlush (s : State) (own : Option (Nat × Nat × Nat)) (f : Nat) (c : CmdSlot) (d : Dma) : Ran :=
  if f ≠ 0 then s.deny Sts.DENIED
  else if badParams c then s.deny Sts.INVALID_FIELD
  else
    let e : RptFlush := { port := bits c.p1 3 0, static := bitOf c.p1 4, addr := c.p0.toNat, wrOk := d.wrOk, cmd := own }
    { s := { s with rptPend := { s.rptPend with flush := s.rptPend.flush ++ [e] } }, later := true }

/-- RPT_FLUSH_BY_PORT: command RPT_FLUSH_BY_PORT removes a port's entries at the next boundary (R285). -/
def execRptFlushByPort (d : Dma) (s : State) : Host.Outcome State Fault Refusal := .next (s.runOp 0x1A d coreRptFlush)

/-! ## CTL_SEND (R283) -/

/-- A message with its copies. -/
def State.addControl (s : State) (c : CtlOp) : State := { s with host := { s.host with ctl := s.host.ctl ++ [c] } }

/-- CTL_SEND (R283, R285): one copy to the tag's port, a copy to every port in UP for a tag without entry, none for an entry
whose port is not in UP. -/
def coreCtlSend (s : State) (own : Option (Nat × Nat × Nat)) (f : Nat) (c : CmdSlot) (d : Dma) : Ran :=
  let tag := bits c.p1 39 16
  if f ≠ 0 then s.deny Sts.DENIED
  else if badParams c then s.deny Sts.INVALID_FIELD
  else match d.rd with
    | none => s.dmaDeny f
    | some b =>
      let t := s.rptScrub tag
      let op : CtlOp := { msg := bits c.p1 15 8, tag := tag, body := (List.range 27).map fun i => b.getD i 0, copies := [], owed := own }
      match t.rptEntry tag with
      | some e =>
        if t.portUp e.port then { s := t.addControl { op with copies := [e.port] }, later := true }
        else { s := t.bump Reg.RPT_CNT_UNROUTED_COUNT, status := Sts.NO_ROUTE }
      | none =>
        { s := (t.addControl { op with copies := (List.range 16).filter t.portUp }).bump Reg.RPT_CNT_FLOOD_COUNT, later := true }

/-- CTL_SEND: command CTL_SEND routes a control message to a port or floods it (R283). -/
def execCtlSend (d : Dma) (s : State) : Host.Outcome State Fault Refusal := .next (s.runOp 0x1B d coreCtlSend)

end Sys2Proof.Machine
end

