-- ==== Sys2Proof/Machine/TickSrc.lean ====
section
/-! DEFINITION. Tick sources and re-timing (02_tick_schedule.md): the measurement, tracking and loss of TICK_IN (R38 to R43),
the markers of the follower source (R44), setting writes and re-timing (R45, R46), changes of source that are none. -/

namespace Sys2Proof.Machine

/-- Change the tick unit. -/
def State.setTick (s : State) (t : TickUnit) : State := { s with tick := t }

/-! ## The external source -/

/-- The period is in range (R38, R46). -/
def periodOk (p : Nat) : Bool := decide (32 ≤ p) && decide (p ≤ 1048576)

/-- The tick in progress has not reached its planned end. -/
def State.midTick (s : State) : Bool := s.tick.started && decide (s.clock < s.tick.last + s.tick.len)

/-- A period is adopted: P takes the measured value and tracking begins; the first boundary under the source is still to
fall. A tick in progress keeps its planned length, and is lengthened to the first reference edge from its planned end on (R38). -/
def State.lockSource (s : State) (e0 p : Nat) : State :=
  let t := s.setTick { s.tick with edges := [], e0 := e0, k := 2, refined := false, expected := s.clock + p, offsets := [],
                                   misses := 0, watch := [], full := 0, fresh := true, await := s.midTick }
  ((((t.put Reg.TCK_MEAS_PMEAS p).put Reg.TCK_MEAS_OFFSET 0).put Reg.TCK_STATUS_LOCKED 1).put Reg.TCK_STATUS_LOST 0).showLatency

/-- An edge of the measurement: three edges give P_MEAS = floor((E2 − E0) / 2) − 2 (R38). -/
def State.measureEdge (s : State) : State :=
  match s.tick.edges ++ [s.clock] with
  | [a, b, c] => if periodOk ((c - a) / 2 - 2) then s.lockSource a ((c - a) / 2 - 2) else s.setTick { s.tick with edges := [b, c] }
  | es => s.setTick { s.tick with edges := es }

/-- An early edge is ignored and counted (R40, R43). -/
def State.earlyEdge (s : State) : State := (s.bump Reg.TCK_CNT_EARLY_COUNT).raiseRate Ev.TICK_EARLY

/-- The mean of the stored offsets in 1/16 cycle; 0 without any (R39). -/
def TickUnit.meanOffset (t : TickUnit) : Int := if t.offsets.isEmpty then 0 else t.offsets.foldl (· + ·) 0 / (t.offsets.length : Int)

/-- TCK_MEAS.OFFSET shows the mean offset, signed (R62). -/
def State.showOffset (s : State) : State := s.put Reg.TCK_MEAS_OFFSET ((s.tick.meanOffset % 256).toNat)

/-- The one refinement of P_MEAS, at the first accepted edge with k of 16 or more (R38): never lower. -/
def State.refine (s : State) : State :=
  if s.tick.refined = false ∧ 16 ≤ s.tick.k then
    let x := s.clock - s.tick.e0
    let p := (4 * x - s.tick.k) / (4 * s.tick.k)
    ((s.setTick { s.tick with refined := true }).put Reg.TCK_MEAS_PMEAS (max (s.get Reg.TCK_MEAS_PMEAS) p)).showLatency
  else s

/-- A tick that waits for a reference edge ends at this one, where its planned end has come (R38). -/
def State.landEdge (s : State) : State :=
  if s.tick.await = true ∧ s.midTick = false then s.setTick { s.tick with await := false, len := s.clock - s.tick.last } else s

/-- An edge while tracking (R39, R40): accepted within 2 cycles of the expected position, otherwise early. -/
def State.trackEdge (s : State) : State :=
  let d : Int := (s.clock : Int) - s.tick.expected
  if d.natAbs ≤ 2 then
    let t := s.setTick { s.tick with offsets := (s.tick.offsets ++ [16 * d]).drop (s.tick.offsets.length - 15), k := s.tick.k + 1, misses := 0 }
    let u := t.refine
    (u.setTick { u.tick with expected := s.tick.expected + u.period }).showOffset.landEdge
  else s.earlyEdge

/-- An interval lies within P_MEAS ± 4 cycles (R42). -/
def near (x p : Nat) : Bool := decide (p ≤ x + 4) && decide (x ≤ p + 4)

/-- The cause that keeps admission closed is shown as it stands now (R61); while admission is open, the next boundary shows it. -/
def State.reblock (s : State) : State := if s.tick.open_ then s else s.setBlock s.blockCause false

/-- What LOSS_ACTION 1 closed opens again once two full ticks have been tracked (R42). -/
def TickUnit.trackAgain (t : TickUnit) : TickUnit :=
  { t with lossClosed := false, full := if t.lossClosed then 0 else t.full, fresh := t.fresh || t.lossClosed, misses := 0 }

/-- Reacquisition (R42): the current tick is lengthened, by less than P, so that the next boundary falls on the next edge. Admission
that LOSS_ACTION 1 closed waits for two full ticks. A refinement of P_MEAS that is still due is made from the first of the three
edges on (notes/assumptions/34.md). -/
def State.reacquire (s : State) (e0 : Nat) : State :=
  let p := max s.period 1
  let n := (s.clock + p - (s.tick.last + s.tick.len) % p) % p
  let t := s.setTick { s.tick.trackAgain with watch := [], offsets := [], e0 := e0, k := 2, expected := s.clock + p, len := s.tick.len + n }
  (((t.bump Reg.TCK_MEAS_STRETCH n).put Reg.TCK_STATUS_LOST 0).put Reg.TCK_MEAS_OFFSET 0).reblock

/-- A setting waits for its re-timing (R45). -/
def State.addRetime (s : State) (f : Retime → Retime) : State :=
  (s.setTick { s.tick with retime := some (f (s.tick.retime.getD {})), applied := false }).reblock

/-- An edge while LOST (R42). -/
def State.watchEdge (s : State) : State :=
  match s.tick.watch ++ [s.clock] with
  | [a, b, c] =>
    let p := s.period
    if near (b - a) p && near (c - b) p then s.reacquire a
    else if !near (b - a) p && !near (c - b) p then
      (s.setTick { s.tick with watch := [] }).addRetime fun r => { r with src := some 1 }
    else s.setTick { s.tick with watch := [b, c] }
  | es => s.setTick { s.tick with watch := es }

/-- TICK_REFERENCE_EDGE in service state under the external source (R38 to R43). -/
def doTickReferenceEdge (s : State) : State :=
  if s.mode ≠ .service ∨ s.get Reg.TCK_CTRL_SRC ≠ 1 then s
  else
    let t := if s.tick.lastEdge ≠ 0 ∧ s.clock - s.tick.lastEdge < 32 then s.earlyEdge else s
    let u := if s.flag Reg.TCK_STATUS_LOCKED = false then t.measureEdge
      else if s.flag Reg.TCK_STATUS_LOST then t.watchEdge
      else if s.tick.lastEdge ≠ 0 ∧ s.clock - s.tick.lastEdge < 32 ∧ 2 < ((s.clock : Int) - s.tick.expected).natAbs then t
      else s.trackEdge
    u.setTick { u.tick with lastEdge := s.clock }

/-- TICK_REFERENCE_EDGE: a TICK_IN rising edge is measured, tracked or ignored, and may lengthen a tick (R39). -/
def execTickReferenceEdge (s : State) : Host.Outcome State Fault Refusal := .next (doTickReferenceEdge s)

/-- LOSS_LIMIT: 0 behaves as 1 (R41, Table 2-1). -/
def State.lossLimit (s : State) : Nat := max (s.get Reg.TCK_CTRL_LOSS_LIMIT) 1

/-- The source is lost (R41): LOSS_ACTION 1 closes admission at the next boundary. LOSS_ACTION is looked at here alone: a write of
it while LOST is set acts at the next loss (DESIGN CHOICE, notes/assumptions/107.md). -/
def State.loseSource (s : State) : State :=
  let t := (s.put Reg.TCK_STATUS_LOST 1).raise Ev.TICK_LOST
  (t.setTick { t.tick with watch := [], await := false, lossClosed := t.tick.lossClosed || s.flag Reg.TCK_CTRL_LOSS_ACTION }).reblock

/-- The seam's count of TICK flits missed in a row, in a twin that follows (R331). -/
def State.missSeam (s : State) : State :=
  if s.seam.role = 2 then { s with seam := { s.seam with missed := s.seam.missed + 1 } } else s

/-- MISSED_EDGE (R40, R41, R44): the miss is counted and the flywheel goes on. -/
def doMissedEdge (s : State) : State :=
  if s.mode ≠ .service ∨ s.get Reg.TCK_CTRL_SRC = 0 ∨ s.flag Reg.TCK_STATUS_LOCKED = false then s
  else
    let t := (s.bump Reg.TCK_CNT_MISSED_COUNT).setTick { s.tick with misses := s.tick.misses + 1, k := s.tick.k + 1,
                                                                      expected := s.tick.expected + s.period }
    let u := if s.get Reg.TCK_CTRL_SRC = 2 then (t.setTick { t.tick with await := false }).missSeam else t
    if s.flag Reg.TCK_STATUS_LOST = false ∧ s.lossLimit ≤ u.tick.misses then u.loseSource else u

/-- MISSED_EDGE: an edge window closes without an accepted edge, and the miss is counted (R40). -/
def execMissedEdge (s : State) : Host.Outcome State Fault Refusal := .next (doMissedEdge s)

/-- TICK_SOURCE_MISSING (R43): before the first boundary is placed, the edges seen are discarded. -/
def doTickSourceMissing (s : State) : State :=
  if s.get Reg.TCK_CTRL_SRC = 1 ∧ (s.flag Reg.TCK_STATUS_LOCKED = false ∨ s.tick.await = true) then
    (s.setTick { s.tick with edges := [], lastEdge := 0, await := false }).put Reg.TCK_STATUS_LOCKED 0
  else s

/-- TICK_SOURCE_MISSING: no edge arrives for 1,048,580 cycles before the first boundary, and the measurement restarts
(R43). -/
def execTickSourceMissing (s : State) : Host.Outcome State Fault Refusal := .next (doTickSourceMissing s)

/-! ## The follower source (R44) -/

/-- The link whose TICK flits are the follower source's markers: the seam of a twin that follows (R314), the up port of a
cascade member, the down port while its up link is lost (R338). -/
def State.markerLink (s : State) : Option Link :=
  if s.get Reg.TCK_CTRL_SRC ≠ 2 then none
  else if s.seam.role = 2 then some .seam
  else if s.inCascade then (if s.csc.up.st = .up then some .up else some .down)
  else none

/-- TICK_MARKER (R44): `p` is the source's P. The next boundary falls on the marker and takes its number, so that the tick in progress
has the length of the source's; a tick in progress under another source is not shortened, but lengthened to the next marker (R32, R45).
Misses end, as at a reacquisition (R42). -/
def doTickMarker (l : Link) (f : Flit) (p : Nat) (s : State) : State :=
  if s.markerLink ≠ some l ∨ Lf.kind f ≠ kTick then s
  else
    let first := !s.flag Reg.TCK_STATUS_LOCKED
    let early : Bool := first && s.midTick
    let k := s.tick.trackAgain
    let t := s.setTick { k with marker := if early then none else some (Lf.tick f), await := early, fresh := k.fresh || first,
                                full := if first then 0 else k.full }
    let u := (((t.put Reg.TCK_MEAS_PMEAS p).put Reg.TCK_STATUS_LOCKED 1).put Reg.TCK_STATUS_LOST 0).showLatency.reblock
    { u with seam := { u.seam with missed := 0 } }

/-- TICK_MARKER: a tick marker received over the seam or the cascade places a follower boundary (R44). -/
def execTickMarker (l : Link) (f : Flit) (p : Nat) (s : State) : Host.Outcome State Fault Refusal :=
  .next (doTickMarker l f p s)

/-! ## Setting writes and re-timing (R45, R46) -/

/-- The value is in its field's range, and the device may select the source (R36, R46, C1). -/
def State.settingOk (s : State) : TickSetting → Bool
  | .src v => v != 3 && (v != 2 || s.seam.role == 2 || (s.inCascade && s.member != 0))
  | .period v => periodOk v.toNat
  | .guard v => decide (v.toNat ≤ 64)
  | .latency v => decide (2 ≤ v.toNat) && decide (v.toNat ≤ 16)

/-- The field already holds the value. -/
def State.settingHeld (s : State) : TickSetting → Bool
  | .src v => s.get Reg.TCK_CTRL_SRC == v.toNat
  | .period v => s.get Reg.TCK_PERIOD_PERIOD == v.toNat
  | .guard v => s.get Reg.TCK_GUARD_GUARD == v.toNat
  | .latency v => s.get Reg.TCK_LATENCY_L == v.toNat

/-- The setting added to a re-timing. -/
def TickSetting.into (t : TickSetting) (r : Retime) : Retime :=
  match t with
  | .src v => { r with src := some v.toNat }
  | .period v => { r with period := some v.toNat }
  | .guard v => { r with guard := some v.toNat }
  | .latency v => { r with latency := some v.toNat }

/-- A tick setting written in service state (R45, R46). -/
def doTickSettingWrite (t : TickSetting) (s : State) : State :=
  if s.settingOk t = false then s.put Reg.TCK_STATUS_CFG_ERR 1
  else if s.settingHeld t = true ∧ s.tick.retime.isNone = true then s
  else s.addRetime (TickSetting.into t)

/-- TICK_SETTING_WRITE: a write to the tick source, PERIOD, GUARD or LATENCY in service state closes admission and starts a
re-timing (R45). -/
def execTickSettingWrite (t : TickSetting) (s : State) : Host.Outcome State Fault Refusal :=
  .next (s.onService (doTickSettingWrite t))

/-- The settle minimum S_MIN (R320). -/
def State.settleMin (s : State) : Nat := 2 + ceilDiv (2 * s.get Reg.SEAM_DELAY_DLY + 24) (max s.period 1)

/-- SEAM_STATUS.SMIN, and in a paired device the shortfall of S (R320). -/
def State.checkSettle (s : State) : State :=
  if s.seam.pair = .detached ∨ s.seam.pair = .attaching then s
  else
    let t := s.put Reg.SEAM_STATUS_SMIN (min s.settleMin 31)
    if s.seam.pair = .paired ∧ s.get Reg.SEAM_CTRL_S < s.settleMin then t.setRaise Reg.SEAM_STATUS_S_SHORT Ev.SEAM_S_SHORT else t

/-- The plain fields of a re-timing. -/
def State.retimeFields (s : State) (r : Retime) : State :=
  let s := match r.period with | some v => s.put Reg.TCK_PERIOD_PERIOD v | none => s
  let s := match r.guard with | some v => s.put Reg.TCK_GUARD_GUARD v | none => s
  let s := match r.latency with | some v => s.put Reg.TCK_LATENCY_L v | none => s
  let s := match r.release with | some v => s.putB Reg.SEAM_CTRL_RELEASE v | none => s
  match r.settle with | some v => s.put Reg.SEAM_CTRL_S v | none => s

/-- The source of a re-timing: the internal source runs at PERIOD at once, the others are measured anew. -/
def State.retimeSource (s : State) (src : Option Nat) : State :=
  match src with
  | none => if s.get Reg.TCK_CTRL_SRC = 0 then s.put Reg.TCK_MEAS_PMEAS (s.get Reg.TCK_PERIOD_PERIOD) else s
  | some v =>
    let t := ((s.put Reg.TCK_CTRL_SRC v).put Reg.TCK_STATUS_LOST 0).putB Reg.TCK_STATUS_LOCKED (v == 0)
    let u := t.setTick { t.tick with edges := [], watch := [], misses := 0, marker := none, lastEdge := 0, lossClosed := false,
                                     fresh := v != 0, await := false }
    if v = 0 then u.put Reg.TCK_MEAS_PMEAS (s.get Reg.TCK_PERIOD_PERIOD) else u

/-- Admission was closed in the whole of the last tick, so that no plan is still to come, and the last pending verdict has left
(R45 steps 1 to 3). -/
def State.drained (s : State) : Bool := !s.tick.open_ && !s.tick.openPrev && s.planned.all fun r => r.dest.isEmpty

/-- RETIMING_APPLY (R45 step 3): the new setting applies at a boundary, to the tick that it opens; two full ticks are then measured. -/
def doRetimingApply (s : State) : State :=
  match s.tick.retime with
  | none => s
  | some r =>
    if s.tick.applied = true ∨ s.drained = false ∨ s.tick.last ≠ s.clock then s
    else
      let t := (s.retimeFields r).retimeSource r.src
      let u := t.setTick { t.tick with retime := some { join := r.join }, applied := true, full := 0,
                                       len := s.tick.len + t.period - s.period }
      u.showLatency.checkSettle.reblock

/-- RETIMING_APPLY: after the last pending verdict leaves, the new tick setting is applied and two ticks are measured
(R45). -/
def execRetimingApply (s : State) : Host.Outcome State Fault Refusal := .next (doRetimingApply s)

/-- The re-timing is over once two full ticks have been measured under the new setting (R45 step 5), and, in a target, the
twins are paired (R312). -/
def State.endRetime (s : State) : State :=
  match s.tick.retime with
  | none => s
  | some r => if s.tick.applied = true ∧ 2 ≤ s.tick.full ∧ r.join = false then s.setTick { s.tick with retime := none, applied := false } else s

/-- A change of source by the device itself, which is no re-timing (R45, R332, R338): with the internal source it goes on at
its current P, with the external one it starts as from LOST. The tick in progress ends at its planned length, and admission is no
longer held by a loss of the source that is left. -/
def State.leaveFollower (s : State) (ext : Bool) : State :=
  let r := match s.tick.retime with
    | some r => if r.src.isNone && r.period.isNone && r.guard.isNone && r.latency.isNone && r.release.isNone && r.settle.isNone && r.join
        then none else some { r with join := false }
    | none => none
  if s.get Reg.TCK_CTRL_SRC ≠ 2 then s.setTick { s.tick with retime := r.map fun x => if x.src = some 2 then { x with src := none } else x }
  else if ext then
    ((s.setTick { s.tick with watch := [], misses := 0, retime := r, marker := none, expected := s.clock + s.period, await := false,
                              lossClosed := false }).put Reg.TCK_CTRL_SRC 1).put
      Reg.TCK_STATUS_LOST 1
  else
    ((s.setTick { s.tick with retime := r, misses := 0, marker := none, await := false, lossClosed := false }).put Reg.TCK_CTRL_SRC 0).put Reg.TCK_PERIOD_PERIOD s.period |>.put
      Reg.TCK_STATUS_LOST 0

end Sys2Proof.Machine
end

