-- ==== Sys2Proof/Machine/Seam.lean ====
section
/-! DEFINITION. The seam and twin pairing (11_seam_pairing.md): attach, digests, mirrored operations and their agreement,
bulk synchronisation, detach. -/

namespace Sys2Proof.Machine

/-- Change the seam. -/
def State.setSeam (s : State) (x : Seam) : State := { s with seam := x }

/-! ## Attach (R312, R313) -/

/-- The device's own PAIR_HELLO (Table 11-1). -/
def State.ownHello (s : State) : PairHello :=
  { imageId := BitVec.ofNat 32 (s.get Reg.CFG_IMAGE_IMAGE_ID), role := BitVec.ofNat 2 (s.get Reg.SEAM_CTRL_ROLE),
    admitOpen := s.flag Reg.TCK_STATUS_ADMIT_OPEN, tick := s.tick.now, dly := s.get Reg.SEAM_DELAY_DLY }

/-- PAIR_HELLO goes out once the seam is UP and the device in service. -/
def State.greet (s : State) : State :=
  if s.mode = .service ∧ s.seam.link.st = .up ∧ s.seam.pair = .attaching then s.sendSeam (.hello s.ownHello) else s

/-- The attach is refused (R312). -/
def State.attachRefused (s : State) (h : PairHello) : Bool :=
  h.imageId.toNat != s.get Reg.CFG_IMAGE_IMAGE_ID || h.role.toNat == s.get Reg.SEAM_CTRL_ROLE || h.role == 0 ||
    s.get Reg.SEAM_CTRL_ROLE == 0

/-- This device is the source: the one with admission open, or the image leader (R312). -/
def State.isSource (s : State) (h : PairHello) : Bool :=
  let mine := s.flag Reg.TCK_STATUS_ADMIT_OPEN
  if mine == h.admitOpen then s.get Reg.SEAM_CTRL_ROLE == 1 else mine

/-- The twin's hello is acted on, in service with the seam attaching (R312, R314): refusal, or the effective roles; a target
selects the follower source and keeps admission closed until the join. -/
def State.decideAttach (s : State) : State :=
  match s.seam.hello with
  | none => s
  | some h =>
    if s.mode ≠ .service ∨ s.seam.pair ≠ .attaching then s
    else
      let t := s.setSeam { s.seam with hello := none }
      if s.attachRefused h then (t.setSeam { t.seam with pair := .detached }).setRaise Reg.SEAM_STATUS_REFUSED Ev.SEAM_REFUSED
      else
        let u := t.put Reg.SEAM_DELAY_DLY (min h.dly 65535)
        let v : Seam := { u.seam with joinAt := none, syncing := false, snap := none, missed := 0, digs := [], cmps := [], pendRecv := [] }
        if s.isSource h then (u.setSeam { v with pair := .source, role := 1 }).checkSettle
        else
          ((u.setSeam { v with pair := .target, role := 2 }).addRetime fun r => { r with src := some 2, join := true }).checkSettle

/-- PAIR_HELLO: an exchange decides attach, refusal and the effective roles (R312). -/
def execPairHello (h : PairHello) (s : State) : Host.Outcome State Fault Refusal :=
  .next (if s.seam.link.st = .up then ((s.seamGot 1).setSeam { (s.seamGot 1).seam with hello := some h }).decideAttach else s)

/-! ## Digests (R315 to R321) -/

/-- ANOM of a dig: a port that carried its records rewound one in the window (R318). -/
def State.digAnom (s : State) (d : Dig) : BitVec 4 :=
  if d.ports.any fun p => (s.port p).rewinds.any fun t => t == d.stamp || t == tickAdd d.stamp 1 then d.anom ||| 1 else d.anom

/-- D(x, s) of this device (R316, R318). -/
def State.ownRec (s : State) (stamp group : Nat) : GroupRec :=
  (s.seam.digs.filter fun d => d.stamp == stamp && d.slot % 16 == group).foldl (fun (r : GroupRec) d =>
    { hash := r.hash ^^^ d.hash, count := (r.count + d.count) % 4096, anom := r.anom ||| s.digAnom d }) { hash := 0, count := 0, anom := 0 }

/-- The per-channel records of a group (R321): every slot of the group that is not free, ascending. -/
def State.chanRecs (s : State) (stamp group : Nat) : List ChanRec :=
  ((List.range 256).filter fun c => c % 16 == group && (s.chan c).st != .free).map fun c =>
    match s.seam.digs.find? fun d => d.stamp == stamp && d.slot == c with
    | some d => { hash := d.hash, count := d.count % 256, slot := c }
    | none => { hash := 0, count := 0, slot := c }

/-- Records in flits of four. -/
def fours : Nat → List ChanRec → List (List ChanRec)
  | 0, _ => []
  | n + 1, l => if l.isEmpty then [] else l.take 4 :: fours n (l.drop 4)

/-- A received group record is compared with the device's own (R319, R321). -/
def State.compareRec (s : State) (stamp group : Nat) (r : GroupRec) : State :=
  let own := s.ownRec stamp group
  let ok : Bool := own.hash == r.hash && own.count == r.count % 4096
  let c : Cmp := { stamp := stamp, group := group, agreed := ok, ownAnom := own.anom, peerAnom := r.anom }
  let t := (s.setSeam { s.seam with cmps := s.seam.cmps ++ [c] }).bump Reg.SEAM_CNT_DIGEST_COUNT
  if ok then t
  else
    (t.bump Reg.SEAM_CNT_MISMATCH_COUNT).sendSeams ((fours 64 (s.chanRecs stamp group)).map fun l => .chdigest stamp group (body48 (l.map chanWord)))

/-- The device's own digest of a stamp is final: boundary s + L + 2 has fallen (R318). -/
def State.digestFinal (s : State) (stamp : Tick) : Bool := tickLe (tickAdd stamp (s.lat + 2)) s.tick.now

/-- The stamp whose low 28 bits are given, nearest to the current tick (R318). -/
def stampOf (now lo : Nat) : Tick :=
  let back := tickSub now lo % 2 ^ 28
  let s := tickSub now back
  if 2 ^ 27 ≤ back then tickAdd s (2 ^ 28) else s

/-- DIGEST (R318, R319): each group record is compared, or kept until the device's own digest of the stamp is final. -/
def doDigest (f : Flit) (s : State) : State :=
  if s.seam.pair ≠ .paired then s
  else
    let stamp := stampOf s.tick.now (stampLo f)
    ((groupRecs f).zipIdx).foldl (fun x (r, i) =>
      let g := (digestGroup f + i) % 16
      if s.digestFinal stamp then x.compareRec stamp g r
      else x.setSeam { x.seam with pendRecv := x.seam.pendRecv ++ [(stamp, g, r)] }) s

/-- DIGEST: a received DIGEST is compared with the device's own group records (R319). -/
def execDigest (f : Flit) (s : State) : Host.Outcome State Fault Refusal := .next (doDigest f s)

/-- The attribution of a mismatch (R321). -/
def attribOf (own peer : BitVec 4) : Nat := if own ≠ 0 ∧ peer = 0 then 1 else if own = 0 ∧ peer ≠ 0 then 2 else 0

/-- CHDIGEST (R321): the stamp, group, lowest mismatching slot and attribution are recorded. -/
def doChdigest (f : Flit) (s : State) : State :=
  let stamp := stampOf s.tick.now (stampLo f)
  let g := digestGroup f
  let recs := chanRecsOf f
  match s.seam.cmps.find? fun c => c.stamp == stamp && c.group == g && !c.agreed with
  | none => s
  | some c =>
    let own := s.chanRecs stamp g
    let bad := (recs.filter fun r => !own.any fun o => o.slot == r.slot && o.hash == r.hash && o.count == r.count % 256).map (·.slot)
    let slot := bad.foldl (fun (m : Option Nat) x => some (match m with | some y => min y x | none => x)) c.worst
    let s := s.setSeam { s.seam with cmps := s.seam.cmps.map fun x => if x = c then { c with worst := slot } else x }
    (((((s.put Reg.SEAM_MISMATCH_STAMP stamp).put Reg.SEAM_MISMATCH_GROUP g).put Reg.SEAM_MISMATCH_SLOT (slot.getD 0)).put Reg.SEAM_MISMATCH_ATTRIB
      (attribOf c.ownAnom c.peerAnom)).put Reg.SEAM_MISMATCH_VALID 1).raiseEp Ev.SEAM_MISMATCH

/-- CHDIGEST: per-channel digests locate a mismatch and record its attribution (R321). -/
def execChdigest (f : Flit) (s : State) : Host.Outcome State Fault Refusal := .next (doChdigest f (s.seamGot 1))

/-- Digests at the boundary that opens tick n (R318, R331): the four DIGEST flits of stamp n − (L + 2), the comparisons that
waited for it, and a late digest in checked release. -/
def State.digestBoundary (s : State) : State :=
  if s.seam.pair ≠ .paired then s
  else
    let n := s.tick.now
    let stamp := tickSub n (s.lat + 2)
    let since : Bool := match s.seam.joinAt with
      | some j => tickLe j stamp
      | none => true
    let t := if since then
        s.sendSeams ([0, 4, 8, 12].map fun f => .digest stamp f (body48 ((List.range 4).map fun i => groupWord (s.ownRec stamp (f + i)))))
      else s
    let due := t.seam.pendRecv.filter fun e => s.digestFinal e.1
    let u := due.foldl (fun (x : State) e => x.compareRec e.1 e.2.1 e.2.2) (t.setSeam { t.seam with pendRecv := t.seam.pendRecv.filter fun e => !s.digestFinal e.1 })
    let rel := tickSub n (s.lat + s.settle)
    let late : Bool := s.flag Reg.SEAM_CTRL_RELEASE && decide (s.settleMin ≤ s.get Reg.SEAM_CTRL_S) &&
      u.seam.digs.any fun d => d.stamp == rel && !u.seam.cmps.any fun c => c.stamp == rel && c.group == d.slot % 16
    let keep := fun t : Tick => decide (tickSub n t ≤ s.lat + 2 + 16 + s.settle)
    u.setSeam { u.seam with digs := u.seam.digs.filter (fun d => keep d.stamp), cmps := u.seam.cmps.filter (fun c => keep c.stamp),
                            detachDue := if late && u.seam.detachDue.isNone then some 4 else u.seam.detachDue }

/-! ## Mirrored operations (R324 to R328) -/

/-- Change the mirrored operations in flight. -/
def State.setOps (s : State) (l : List Mirrored) : State := s.setSeam { s.seam with ops := l }

/-- Change one of them. -/
def State.setOp (s : State) (m : Mirrored) : State := s.setOps (s.seam.ops.map fun x => if x.key = m.key then m else x)

/-- Remove one. -/
def State.dropOp (s : State) (m : Mirrored) : State := s.setOps (s.seam.ops.filter fun x => x.key ≠ m.key)

/-- The operation of this device, or of the twin, with a number. -/
def State.opOf (s : State) (mine : Bool) (id : Nat) : Option Mirrored := s.seam.ops.find? fun m => m.mine == mine && m.id == id

/-- The execution of a mirrored command by its opcode (Table 11-4, Table 16-6). -/
def coreOf (handle : Nat) (s : State) (own : Option (Nat × Nat × Nat)) (f : Nat) (c : CmdSlot) (d : Dma) : Ran :=
  match c.opcode.toNat with
  | 0x01 => coreTblCreate s own f c d
  | 0x02 => coreTblDestroy s own f c d
  | 0x03 => coreEdit .insert s own f c d
  | 0x04 => coreTblDelete s own f c d
  | 0x05 => coreEdit .modify s own f c d
  | 0x0A => coreEditCommit s own f c d
  | 0x10 => coreChnCreate handle s own f c d
  | 0x11 => coreChnDestroy s own f c d
  | 0x20 => coreAdataWrite s own f c d
  | 0x22 => coreWrdOp (bits c.p1 2 0) s own f c d
  | _ => s.deny Sts.INVALID_FIELD

/-- An edit (TBL_INSERT, TBL_DELETE, TBL_MODIFY). -/
def isEdit (c : CmdSlot) : Bool := [3, 4, 5].contains c.opcode.toNat

/-- An edit of an open group: staged in both twins, it needs no agreed boundary. -/
def inGroup (c : CmdSlot) : Bool := isEdit c && bits c.p1 31 16 != 0

/-- The group that a mirrored EDIT_COMMIT or ungrouped edit commits. -/
def State.groupOfOp (s : State) (m : Mirrored) : Option Group :=
  match m.op with
  | .command _ c _ _ =>
    if c.opcode.toNat = 0x0A then s.groups.find? fun g => g.fromPeer == !m.mine && !g.ungrouped && g.num == bits c.p1 31 16
    else if isEdit c then s.groups.find? fun g => g.fromPeer == !m.mine && g.ungrouped && g.tbl == bits c.p1 5 0
    else none
  | _ => none

/-- The wear governor of this device lets the operation go (R219, R327). -/
def State.mayAgree (s : State) (m : Mirrored) : Bool :=
  match s.groupOfOp m with
  | some g => !s.governed g
  | none => true

/-- A group held by the governor is deferred (R219). -/
def State.deferOp (s : State) (m : Mirrored) : State :=
  match s.groupOfOp m with
  | some g => if g.st = .ready then (s.setGroup { g with st := .deferred }).bump Reg.CUR_CNT_DEFER_COUNT else s
  | none => s

/-- The later bound of an agreed boundary: the current tick + 2 + ceil(2 (DLY + 32) / P) (R327, R329). -/
def State.agreeTick (s : State) : Tick := tickAdd s.tick.now (2 + ceilDiv (2 * (s.get Reg.SEAM_DELAY_DLY + 32)) (max s.period 1))

/-- The device is bound to boundary k (R327). -/
def State.bindOp (s : State) (m : Mirrored) (k : Tick) : State :=
  let t := s.setOp { m with st := .bound k }
  match t.groupOfOp m with
  | some g => t.setGroup { g with st := .bound k }
  | none => t

/-- The channel slot that a staged CHN_CREATE took, which its operation holds back. -/
def staticTarget (m : Mirrored) (r : Ran) : Nat :=
  match m.op with
  | .command _ c _ _ => if c.opcode.toNat = 0x10 then r.result % 256 else m.target
  | _ => m.target

/-- The wardrobe change just queued waits for its operation (R324). -/
def State.holdChange (s : State) (m : Mirrored) : State :=
  match m.op with
  | .command _ c _ _ =>
    if c.opcode.toNat = 0x20 ∨ c.opcode.toNat = 0x22 then
      match s.wrd.changes.reverse with
      | x :: rest => s.setWrd { s.wrd with changes := ((x.1, some m.key, x.2.2) :: rest).reverse }
      | [] => s
    else s
  | _ => s

/-- READY goes to the origin, or the governor holds the group (R327 step 1). -/
def State.sendReady (s : State) (m : Mirrored) : State := if s.mayAgree m then s.sendSeam (.ready m.id) else s.deferOp m

/-- The peer validates and stages a mirrored operation (R325): STAGED and READY, or REFUSE; one that waits is tried again. -/
def State.stagePeer (s : State) (m : Mirrored) : State :=
  match m.op with
  | .command f c d h =>
    let r := coreOf h.toNat s none f.val c d
    if r.wait then s
    else if r.status ≠ Sts.SUCCESS then (r.s.dropOp m).sendSeam (.refuse m.id r.status)
    else if inGroup c then (r.s.dropOp m).sendSeam (.staged m.id 0)
    else
      let m' := { m with st := .staged, target := staticTarget m r }
      let h' := if c.opcode.toNat = 0x10 then r.result else 0
      (((r.s.setOp m').holdChange m').sendSeam (.staged m.id (BitVec.ofNat 16 h'))).sendReady m'
  | .quota slot hi v =>
    let t := s.applyQuota slot.toNat hi v
    if (t.chan slot.toNat).qf = newQuota (s.chan slot.toNat).qf hi v then
      ((s.setOp { m with st := .staged }).sendSeam (.staged m.id 0)).sendReady { m with st := .staged }
    else (t.dropOp m).sendSeam (.refuse m.id Sts.QUOTA)
  | .site _ _ => ((s.setOp { m with st := .staged }).sendSeam (.staged m.id 0)).sendReady { m with st := .staged }
  | .release _ _ => ((s.setOp { m with st := .staged }).sendSeam (.staged m.id 0)).sendReady { m with st := .staged }

/-- What a mirrored operation holds back. -/
def mirrorTarget : MirrorOp → Nat
  | .command _ c _ h => if h = 0 then opTarget c else h.toNat % 256
  | .quota slot _ _ => slot.toNat
  | .site n _ => n.toNat
  | .release _ _ => 0

/-- An edit that the source committed after its snapshot is staged for its commit tick, with the others of that table and
tick in one group (R329 step 6). -/
def State.laterGroup (s : State) (c : CmdSlot) (d : Dma) (k : Tick) : State :=
  let t := bits c.p1 5 0
  match s.liveTable t with
  | none => s
  | some tb =>
    let new : Group := { num := 0, tbl := t, func := 0, lease := 0, ungrouped := true, fromPeer := true, local_ := true, st := .bound k }
    let g := (s.groupOf t).getD new
    let op : EditOp := if c.opcode.toNat = 3 then .insert else if c.opcode.toNat = 4 then .delete else .modify
    let r := entryOfBytes (d.rd.getD []) tb.width
    let x := if (s.groupOf t).isSome then s else s.setGroups (s.groups ++ [new])
    match x.stage g tb op { r with id := bits c.p1 55 32 } with
    | .ok u g' => u.setGroup g'
    | _ => s

/-- MIRROR (R325, R329): in PAIRED state the operation is staged; in a target an edit of a later group is. -/
def doMirror (id : Nat) (op : MirrorOp) (k : Option Tick) (s : State) : State :=
  match s.seam.pair, k with
  | .paired, none =>
    let m : Mirrored := { id := id % 2 ^ 16, mine := false, op := op, target := mirrorTarget op }
    (s.setOps (s.seam.ops ++ [m])).stagePeer m
  | .target, some k =>
    match op with
    | .command _ c d _ => if isEdit c then s.laterGroup c d k else s
    | _ => s
  | _, _ => s

/-- MIRROR: the peer validates and stages a mirrored operation (R325). -/
def execMirror (id : Nat) (op : MirrorOp) (commitTick : Option Tick) (s : State) : Host.Outcome State Fault Refusal :=
  .next (doMirror id op commitTick (s.seamGot (mirrorFlits op)))

/-- The origin enters a command that the peer has staged (R325): an edit of an open group completes, every other operation
waits for its agreed boundary. -/
def State.enterOp (s : State) (m : Mirrored) (e : Cmd) (f : Nat) (c : CmdSlot) (d : Dma) (h : Nat) : State :=
  let r := coreOf h s (some e.own) f c d
  if r.wait then ((s.vestFull e.table).finish e Sts.VESTIBULE_FULL).dropOp m |>.sendSeam (.abort m.id)
  else if r.status ≠ Sts.SUCCESS then ((State.complete e r).dropOp m).sendSeam (.abort m.id)
  else if inGroup c then (State.complete e r).dropOp m
  else
    let m' := { m with st := .staged, target := staticTarget m r, cmd := if r.later then none else some e.own }
    ((r.s.finishLater e r.status r.result).setOp m').holdChange m'

/-- STAGED (R325): the peer has staged an operation of this device. -/
def doStaged (id : Nat) (handle : BitVec 16) (s : State) : State :=
  match s.opOf true id with
  | none => s
  | some m =>
    if m.st ≠ .staging then s
    else match m.op with
      | .command f c d h =>
        match s.host.engine with
        | none => s
        | some e => if s.host.mirror = some id then s.enterOp m e f.val c d (if h = 0 then handle.toNat else h.toNat) else s
      | _ => s.setOp { m with st := .staged }

/-- STAGED: the peer reports that a mirrored operation is staged (R325). -/
def execStaged (id : Nat) (handle : BitVec 16) (s : State) : Host.Outcome State Fault Refusal := .next (doStaged id handle (s.seamGot 1))

/-- REFUSE (R325): the command completes with the peer's status, and neither twin applies the operation. -/
def doRefuse (id : Nat) (status : BitVec 8) (s : State) : State :=
  match s.opOf true id with
  | none => s
  | some m =>
    if m.st ≠ .staging then s
    else
      let t := s.dropOp m
      match m.op with
      | .command _ _ _ _ =>
        match t.host.engine with
        | some e => if t.host.mirror = some id then t.finish e status.toNat else t
        | none => t
      | .quota slot _ _ => t.chanCause Reg.CHN_STATUS_QUOTA_ERR slot.toNat
      | _ => t

/-- REFUSE: a peer refusal completes the command with its status in both twins (R325). -/
def execRefuse (id : Nat) (status : BitVec 8) (s : State) : Host.Outcome State Fault Refusal := .next (doRefuse id status (s.seamGot 1))

/-- The origin proposes once READY has arrived and its own governor lets go (R327 step 2). -/
def State.tryPropose (s : State) (m : Mirrored) : State :=
  if m.st = .staged ∧ m.peerReady = true then
    (if s.mayAgree m then (s.setOp { m with st := .proposed s.agreeTick }).sendSeam (.propose m.id s.agreeTick) else s.deferOp m)
  else s

/-- READY (R327). -/
def doReady (id : Nat) (s : State) : State :=
  match s.opOf true id with
  | none => s
  | some m => (s.setOp { m with peerReady := true }).tryPropose { m with peerReady := true }

/-- READY: the peer's READY lets the origin propose a commit tick (R327). -/
def execReady (id : Nat) (s : State) : Host.Outcome State Fault Refusal := .next (doReady id (s.seamGot 1))

/-- The later of two ticks. -/
def tickMax (a b : Tick) : Tick := if tickLater a b then a else b

/-- The peer answers a proposal with AGREE, from which it is bound, or DEFER (R327 step 3). -/
def State.answer (s : State) (m : Mirrored) (k : Tick) : State :=
  let b := tickMax k s.agreeTick
  if s.mayAgree m then (s.bindOp m b).sendSeam (.agree m.id b)
  else ((s.setOp { m with st := .proposed k }).deferOp m).sendSeam (.defer m.id)

/-- PROPOSE (R327). -/
def doPropose (id : Nat) (k : BitVec 48) (s : State) : State :=
  match s.opOf false id with
  | none => s
  | some m => if m.st = .staged then s.answer m k.toNat else s

/-- PROPOSE: the peer answers a proposed tick with AGREE or DEFER (R327). -/
def execPropose (id : Nat) (k : BitVec 48) (s : State) : Host.Outcome State Fault Refusal := .next (doPropose id k (s.seamGot 1))

/-- AGREE (R327): the origin is bound from here on. -/
def doAgree (id : Nat) (k : BitVec 48) (s : State) : State :=
  match s.opOf true id with
  | none => s
  | some m =>
    match m.st with
    | .proposed _ | .deferred => s.bindOp m k.toNat
    | _ => s

/-- AGREE: the origin is bound to the agreed boundary k (R327). -/
def execAgree (id : Nat) (k : BitVec 48) (s : State) : Host.Outcome State Fault Refusal := .next (doAgree id k (s.seamGot 1))

/-- DEFER: the peer's governor holds a group and the agreement waits (R327). -/
def execDefer (id : Nat) (s : State) : Host.Outcome State Fault Refusal :=
  let t := s.seamGot 1
  .next (match t.opOf true id with
    | none => t
    | some m => match m.st with
      | .proposed _ => t.setOp { m with st := .deferred }
      | _ => t)

/-- A group that the governor has let go: READY or AGREE goes to the origin, or the origin proposes (R327). -/
def State.agreeReleased (s : State) (t : Nat) : State :=
  match s.seam.ops.find? fun m => (match s.groupOfOp m with | some g => g.tbl == t | none => false) with
  | none => s
  | some m =>
    if m.mine then s.tryPropose m
    else match m.st with
      | .staged => s.sendReady m
      | .proposed k => s.answer m k
      | _ => s

/-- COMMIT_RELEASE: the wear governor releases a deferred group once the balance allows (R219, R327). -/
def execCommitRelease (t : Fin 64) (s : State) : Host.Outcome State Fault Refusal :=
  let u := doCommitRelease t s
  .next (if u.groupOf t = s.groupOf t then u else u.agreeReleased t)

/-- The command of a staged effect that is undone completes FENCED (R328). -/
def State.fenceCmd (s : State) (c : Option (Nat × Nat × Nat)) : State :=
  match c with
  | some (f, i, n) => s.owedReady f i n Sts.FENCED
  | none => s

/-- What a twin staged for an operation to which it is not bound is undone (R325, R328); a slot gets its generation back, where 0 and 255
alike are followed by 1 (R98). -/
def State.undoOp (s : State) (m : Mirrored) : State :=
  let s := (s.dropOp m).fenceCmd m.cmd
  match m.op with
  | .command _ c _ _ =>
    match c.opcode.toNat with
    | 0x01 =>
      match s.table m.target with
      | some t => if t.creating then
          { s.dropTable m.target with bays := s.bays.filter (fun b => b.tbl ≠ m.target), broad := s.broad.filter (fun b => b.tbl ≠ m.target) }
        else s
      | none => s
    | 0x02 =>
      match s.table m.target with
      | some t => if t.destroying ∧ t.destroyAt.isNone = true then
          (s.setTable m.target { t with destroying := false, cmd := none }).fenceCmd t.cmd else s
      | none => s
    | 0x10 => if (s.chan m.target).st = .creating then
        s.setChan m.target { gen := (s.chan m.target).gen - 1, owner := (s.chan m.target).owner } else s
    | 0x11 => if (s.chan m.target).st = .destroying then
        (s.setChan m.target { s.chan m.target with st := .live, cmd := none }).fenceCmd (s.chan m.target).cmd else s
    | 0x20 | 0x22 =>
      let gone := s.wrd.changes.filter fun x => x.2.1 == some m.key
      gone.foldl (fun x e => x.fenceCmd e.2.2) (s.setWrd { s.wrd with changes := s.wrd.changes.filter fun x => x.2.1 ≠ some m.key })
    | _ => s
  | _ => s

/-- The device is bound to the operation. -/
def Mirrored.isBound (m : Mirrored) : Bool := match m.st with | .bound _ => true | _ => false

/-- ABORT (R180, R328): the twin has aborted a group of its own, or an operation that this device is not bound to. -/
def doAbort (id : Nat) (s : State) : State :=
  if 65536 ≤ id then
    match s.groups.find? fun g => g.fromPeer && !g.isBound && g.num == id - 65536 && !g.ungrouped with
    | some g => s.abortGroup g none
    | none => s
  else match s.opOf false id with
    | none => s
    | some m =>
      if m.isBound then s
      else match s.groupOfOp m with
        | some g => (s.abortGroup g none).undoOp m
        | none => s.undoOp m

/-- ABORT: a seam ABORT ends a mirrored operation that is not yet bound (R328). -/
def execAbort (id : Nat) (s : State) : Host.Outcome State Fault Refusal := .next (doAbort id (s.seamGot 1))

/-- A completion owed becomes ready with the status and result it holds. -/
def State.ripen (s : State) (c : Option (Nat × Nat × Nat)) : State :=
  match c with
  | none => s
  | some (f, i, n) =>
    { s with host := { s.host with owed := s.host.owed.map fun o => if o.func = f ∧ o.idx = i ∧ o.cid = n then { o with ready := true } else o } }

/-- One mirrored operation takes effect at its agreed boundary (R327 step 4). Groups commit by GROUP_COMMIT. -/
def State.applyMirrored (s : State) (m : Mirrored) : State :=
  let t := ((s.dropOp m).bump Reg.SEAM_CNT_MIRROR_COUNT).ripen m.cmd
  match m.op with
  | .quota slot hi v => t.applyQuota slot.toNat hi v
  | .site n v => t.storeSite n.toNat v
  | .release rel v => t.addRetime fun r => { r with release := some rel, settle := if 2 ≤ v.toNat ∧ v.toNat ≤ 16 then some v.toNat else r.settle }
  | .command _ _ _ _ => t

/-- Mirrored operations at a boundary: those that are due apply, a peer's that waits for room is tried again. -/
def State.opsBoundary (s : State) : State :=
  let due := s.seam.ops.filter fun m => (match m.st with | .bound k => tickLe k s.tick.now | _ => false)
  let t := due.foldl State.applyMirrored s
  (t.seam.ops.filter fun m => !m.mine && m.st == .staging).foldl State.stagePeer t

/-! ## The edit lock (R326) -/

/-- EDIT_BEGIN's own group goes and the command completes LOCKED. -/
def State.lockRefused (s : State) (t num : Nat) : State :=
  let u := (s.setGroups (s.groups.filter fun g => !(g.tbl == t && g.num == num && !g.fromPeer))).setSeam { s.seam with lockWait := [] }
  match u.host.engine with
  | some c => if u.host.mirror = some lockWaits then u.finish c Sts.LOCKED else u
  | none => u

/-- The peer holds its lock for the origin's group, under the origin's lease. -/
def State.peerGroup (s : State) (t num f : Nat) : State :=
  s.setGroups (s.groups ++ [{ num := num, tbl := t, func := f, lease := 0, leaseAt := s.clock, mirrored := true, fromPeer := true }])

/-- LOCK_REQ (R326): granted when the lock is free; of two requests for one table the leader's wins. -/
def doLockReq (t : Fin 64) (group : BitVec 16) (f : Fin 16) (s : State) : State :=
  if s.seam.pair ≠ .paired then s
  else match s.seam.lockWait.find? fun e => e.1 == t.val with
    | some e =>
      if s.seam.role = 1 then s.sendSeam (.lockAns t.val false)
      else ((s.lockRefused t.val e.2).peerGroup t.val group.toNat f.val).sendSeam (.lockAns t.val true)
    | none =>
      if s.tableLocked t.val = true ∨ (s.liveTable t.val).isNone = true then s.sendSeam (.lockAns t.val false)
      else (s.peerGroup t.val group.toNat f.val).sendSeam (.lockAns t.val true)

/-- LOCK_REQ: the peer grants or refuses the edit lock for the origin's group (R326). -/
def execLockReq (t : Fin 64) (group : BitVec 16) (f : Fin 16) (s : State) : Host.Outcome State Fault Refusal :=
  .next (doLockReq t group f (s.seamGot 1))

/-- LOCK_ANS (R326): EDIT_BEGIN completes with its group, or with LOCKED. -/
def doLockAns (t : Fin 64) (grant : Bool) (s : State) : State :=
  match s.seam.lockWait.find? fun e => e.1 == t.val with
  | none => s
  | some e =>
    if grant = false then s.lockRefused t.val e.2
    else
      let u := s.setSeam { s.seam with lockWait := [] }
      match u.host.engine with
      | some c => if u.host.mirror = some lockWaits then u.finish c Sts.SUCCESS e.2 else u
      | none => u

/-- LOCK_ANS: the origin's EDIT_BEGIN completes on the lock answer (R326). -/
def execLockAns (t : Fin 64) (grant : Bool) (s : State) : Host.Outcome State Fault Refusal := .next (doLockAns t grant (s.seamGot 1))

/-! ## Bulk synchronisation (R329, R330) -/

/-- The template bytes of a channel (Table 4-1). -/
def Chan.bytes (c : Chan) : List Byte :=
  c.lookups.flatMap (fun w => leBytes 8 w.toNat) ++ leBytes 8 c.egress.toNat ++ c.qf.flatMap (leBytes 2) ++
    leBytes 8 (c.segs.length + c.stallLimit * 256) ++ c.segs.flatMap fun w => leBytes 8 w.toNat

/-- The words of a table's descriptor. -/
def Table.words (t : Table) : List (BitVec 64) := [t.attr, t.limit, t.sel0, t.sel1, t.learn, t.learn2]

/-- The digest of a table over its host entries: the XOR of the CRC-64 of each entry record, INFO zero (R329 step 3). -/
def State.tableDigest (s : State) (t : Nat) : BitVec 64 :=
  ((s.rows.filter fun r => r.tbl == t && !r.learned && r.enabledAt s.tick.now).map fun r =>
    crc64 (entryBytes (s.widthOf t) r.id r.rank r.dref 0 r.value r.care)).foldl (· ^^^ ·) 0

/-- The CRC-64 of a store block of 4,096 lines (R329 step 4). -/
def State.blockCrc (s : State) (b : Nat) : BitVec 64 :=
  crc64 ((List.range 4096).flatMap fun i => leBytes 64 (s.wrd.current (4096 * b + i)).toNat)

/-- What a target holds, for the comparison of directories, digests and store blocks (R329 steps 2 to 4). -/
def State.directory (s : State) : SyncItem :=
  .holds ((List.finRange 64).filterMap fun t => (s.table t.val).map fun d => (t, d.words, d.mask, s.tableDigest t.val))
    ((List.range 256).map s.blockCrc)

/-- The data of the source's snapshot (R329 steps 2 to 5), in order. -/
def State.syncItems (s : State) : List SyncItem :=
  ((List.finRange 64).flatMap fun t => match s.table t.val with
    | none => [.dropTable t]
    | some d => .table t d.words d.mask :: .clearTable t ::
        ((s.rows.filter fun r => r.tbl == t.val && !r.learned && r.enabledAt s.tick.now).map fun r =>
          .entry t r.id r.rank r.dref r.value r.care)) ++
    ((List.finRange 256).flatMap fun b => .clearBlock b ::
      (((s.wrd.store.map (·.1) ++ s.wrd.ways.map (·.line) ++ s.wrd.staging.map (·.1)).eraseDups.filter fun l => l / 4096 = b.val).map fun l =>
        .line (BitVec.ofNat 20 l) (s.wrd.current l))) ++
    .clearChannels :: ((s.chans.filter fun e => e.2.st == .live).map fun e =>
      .channel (BitVec.ofNat 8 e.1) e.2.gen e.2.owner e.2.bytes) ++
    s.sites.map fun e => .site (BitVec.ofNat 12 e.1) e.2.applied

/-- The digest of a table over the entries of a snapshot. -/
def snapDigest (items : List SyncItem) (t : Nat) (w : Nat) : BitVec 64 :=
  (items.filterMap fun i => match i with
    | .entry u id rank dref v c => if u.val = t then some (crc64 (entryBytes w id rank dref 0 v c)) else none
    | _ => none).foldl (· ^^^ ·) 0

/-- The CRC-64 of a store block of a snapshot. -/
def snapCrc (items : List SyncItem) (b : Nat) : BitVec 64 :=
  let lines : List (Nat × BitVec 512) := items.filterMap fun i => match i with
    | .line l v => if l.toNat / 4096 = b then some (l.toNat % 4096, v) else none
    | _ => none
  crc64 ((List.range 4096).flatMap fun i => leBytes 64 (((lines.find? fun (e : Nat × BitVec 512) => e.1 == i).map Prod.snd).getD 0).toNat)

/-- A table of the snapshot that the target holds with the same descriptor and digest is skipped; a transient one never is (R329 step 3). -/
def skipTable (items : List SyncItem) (held : List (Fin 64 × List (BitVec 64) × BitVec 640 × BitVec 64)) (t : Fin 64) : Bool :=
  items.any fun i => match i with
    | .table u w m => u == t && !bitOf (w.getD 0 0) 0 && held.contains (t, w, m, snapDigest items t.val (bits (w.getD 0 0) 3 2))
    | _ => false

/-- What the source streams of its snapshot, given what the target holds (R329 steps 2 to 5). -/
def streamed (items : List SyncItem) (held : List (Fin 64 × List (BitVec 64) × BitVec 640 × BitVec 64)) (blocks : List (BitVec 64)) :
    List SyncItem :=
  let skipT := (List.finRange 64).filter (skipTable items held)
  let skipB := (List.range 256).filter fun b => blocks.getD b 0 == snapCrc items b
  items.filter fun i => match i with
    | .table t _ _ | .clearTable t | .entry t _ _ _ _ _ => !skipT.contains t
    | .dropTable t => held.any fun e => e.1 == t
    | .clearBlock b => !skipB.contains b.val
    | .line l _ => !skipB.contains (l.toNat / 4096)
    | .clearChannels | .channel _ _ _ _ | .site _ _ => true
    | .holds _ _ => false

/-- The source's work at a boundary (R329): the snapshot at the first one after the attach; once its data have gone, SYNC_END and JOIN.
Requester 1 fenced stops it (R302). -/
def State.syncBoundary (s : State) : State :=
  if s.seam.pair ≠ .source ∨ s.reqFenced 1 = true ∨ s.seam.joinAt.isSome = true then s
  else if s.seam.syncing = false then
    (s.setSeam { s.seam with syncing := true, snap := some s.syncItems }).sendSeam .syncBegin
  else if s.seam.snap.isSome then s
  else
    let j := s.agreeTick
    (((s.setSeam { s.seam with syncing := false, joinAt := some j }).put Reg.SEAM_SYNC_PROGRESS 100).put Reg.SEAM_SYNC_JOIN j).sendSeams
      [.syncEnd, .join j]

/-- SYNC_BEGIN: the target begins bulk synchronisation from the source's snapshot, and tells what it holds (R329). -/
def execSyncBegin (s : State) : Host.Outcome State Fault Refusal :=
  let t := s.seamGot 1
  .next (if t.seam.pair = .target then
      ((t.setSeam { t.seam with syncing := true }).put Reg.SEAM_SYNC_PROGRESS 0).sendSeam (.syncData t.directory)
    else t)

/-- The rows of a table that a test selects leave the device. -/
def State.removeRows (s : State) (t : Nat) (p : Row → Bool) : State :=
  (s.rows.filter fun r => r.tbl == t && p r).foldl State.freeRow s

/-- A table leaves the target (R329 step 2). -/
def State.wipeTable (s : State) (t : Nat) : State :=
  let u := (s.removeRows t fun _ => true).dropTable t
  { u with bays := u.bays.filter (fun b => b.tbl ≠ t), broad := u.broad.filter (fun b => b.tbl ≠ t),
           tallies := u.tallies.filter (fun x => x.tbl ≠ t), lost := u.lost.filter (fun e => e.1 ≠ t) }

/-- A table arrives: one with the same descriptor stays, any other is created afresh, its counters clear (R207). -/
def State.syncTable (s : State) (t : Nat) (w : List (BitVec 64)) (mask : BitVec 640) : State :=
  let d : Table := { attr := w.getD 0 0, limit := w.getD 1 0, sel0 := w.getD 2 0, sel1 := w.getD 3 0, learn := w.getD 4 0,
                     learn2 := w.getD 5 0, mask := mask }
  match s.table t with
  | some o => if sameDesc o d then s else ((s.wipeTable t).allot t { d with learnLast := d.learnBase + d.learnCount - 1 }).clearTable t
  | none => (s.allot t { d with learnLast := d.learnBase + d.learnCount - 1 }).clearTable t

/-- A store block is emptied for the lines to come: pins that hold lines of it load again, nothing waits for a dirty line of it any more. -/
def State.clearLines (s : State) (b : Nat) : State :=
  let mine := fun (l : Nat) => l / 4096 == b
  let t := ((s.invalidate ((s.wrd.ways.map (·.line)).filter mine)).storeDone (s.wrd.dirtyLines.filter mine)).discardFills mine
  t.setWrd { t.wrd with store := t.wrd.store.filter (fun e => !mine e.1), bad := t.wrd.bad.filter (!mine ·), marred := t.wrd.marred.filter (!mine ·),
                        staging := t.wrd.staging.filter fun e => !mine e.1 }

/-- A line of the source's store is written to the store; a copy of the wardrobe is invalidated. Its cells are metered (R217). -/
def State.syncLine (s : State) (l : Nat) (v : BitVec 512) : State :=
  let old := s.wrd.stored l
  let t := ((s.invalidate [l]).discardFills (· == l)).spend (ones 512 (old ^^^ v).toNat + Config.lineCells old v)
  t.setWrd { t.wrd with store := fset t.wrd.store l 0 v, bad := t.wrd.bad.filter (· != l), marred := t.wrd.marred.filter (· != l),
                        staging := t.wrd.staging.filter fun x => x.1 ≠ l }

/-- SYNC_DATA (R329): the target takes one part. -/
def State.syncItem (s : State) : SyncItem → State
  | .table t w m => s.syncTable t.val w m
  | .dropTable t => if (s.table t.val).isSome then s.wipeTable t.val else s
  | .clearTable t => { s.removeRows t.val (fun r => !r.learned) with lost := s.lost.filter fun e => e.1 ≠ t.val }
  | .entry t id rank dref v c => s.loadEntry t.val id rank dref v c
  | .clearBlock b => s.clearLines b.val
  | .line l v => s.syncLine l.toNat v
  | .clearChannels => { s with chans := s.chans.map fun e => (e.1, { gen := e.2.gen, owner := e.2.owner }) }
  | .channel slot gen owner b => (s.setChan slot.toNat ((templateOf b).channel owner gen .live)).clearChan slot.toNat
  | .site n v => s.setSite n.toNat { word := v, applied := v, before := v }
  | .holds _ _ => s

/-- What the target holds lets the source stream what differs from its snapshot (R329). -/
def State.streamSnap (s : State) (i : SyncItem) : State :=
  match i, s.seam.snap with
  | .holds held blocks, some items => (s.setSeam { s.seam with snap := none }).sendSeams ((streamed items held blocks).map .syncData)
  | _, _ => s

/-- SYNC_DATA (R302, R329): the target takes a part; the source takes what the target holds. -/
def doSyncData (i : SyncItem) (s : State) : State :=
  if s.reqFenced 1 then s
  else if s.seam.pair = .target ∧ s.seam.syncing = true then s.syncItem i
  else if s.seam.pair = .source then s.streamSnap i
  else s

/-- SYNC_DATA: the target replaces table entries, store blocks, channels and sites from streamed data (R329). -/
def execSyncData (i : SyncItem) (s : State) : Host.Outcome State Fault Refusal := .next (doSyncData i (s.seamGot (syncFlits i)))

/-- SYNC_END: bulk synchronisation data ends (R329). -/
def execSyncEnd (s : State) : Host.Outcome State Fault Refusal :=
  let t := s.seamGot 1
  .next (if t.seam.pair = .target then (t.setSeam { t.seam with syncing := false }).put Reg.SEAM_SYNC_PROGRESS 100 else t)

/-- JOIN: the target learns the join tick J and discards records stamped earlier (R330). -/
def execJoin (j : BitVec 48) (s : State) : Host.Outcome State Fault Refusal :=
  let t := s.seamGot 1
  .next (if t.seam.pair = .target then (t.setSeam { t.seam with joinAt := some j.toNat }).put Reg.SEAM_SYNC_JOIN j.toNat else t)

/-- SEAM_JOIN (R330, R244): from J on the device is PAIRED; a target's admission is no longer held by the join. -/
def doSeamJoin (s : State) : State :=
  match s.seam.joinAt with
  | none => s
  | some j =>
    if (s.seam.pair = .source ∨ s.seam.pair = .target) ∧ tickLe j s.tick.now = true then
      let t := s.setSeam { s.seam with pair := .paired, digs := [], cmps := [], pendRecv := [] }
      let u := t.setTick { t.tick with retime := t.tick.retime.map fun r => { r with join := false } }
      (((u.setCur { u.cur with restoreAsked := [] }).raise Ev.SEAM_ATTACH).checkSettle).askRestore
    else s

/-- SEAM_JOIN: at tick J both twins become PAIRED and EV_SEAM_ATTACH is raised (R330). -/
def execSeamJoin (s : State) : Host.Outcome State Fault Refusal := .next (doSeamJoin s)

/-! ## Detach (R328, R331, R332) -/

/-- A detach is due at the next boundary; a seam that is only attaching goes back to DETACHED. -/
def State.detachSoon (s : State) (cause : Nat) : State :=
  match s.seam.pair with
  | .detached => s
  | .attaching => s.setSeam { s.seam with pair := .detached, hello := none }
  | _ => if s.seam.detachDue.isSome then s else s.setSeam { s.seam with detachDue := some cause }

/-- The command that holds the engine for the seam completes (R328). -/
def State.seamEngine (s : State) : State :=
  match s.host.engine, s.host.mirror with
  | some c, some k =>
    s.finish c (if k = lockWaits ∨ isEdit c.slot = true ∨ c.slot.opcode.toNat = 0x0A then Sts.ABORTED else Sts.FENCED)
  | _, _ => s

/-- The survivor's tick source (R332, R333): a follower that is a cascade member other than 0 stays with its neighbour. -/
def State.survive (s : State) : State :=
  if s.seam.role = 2 ∧ (s.inCascade && s.member != 0) = false then s.leaveFollower (s.flag Reg.SEAM_CTRL_SOLO_SRC)
  else s.setTick { s.tick with retime := s.tick.retime.map fun r => { r with join := false } }

/-- A detach that is due takes effect (R328, R331, R332). -/
def State.detachBoundary (s : State) : State :=
  match s.seam.detachDue with
  | none => s
  | some cause =>
    let t := s.survive
    let u := t.setSeam { t.seam with pair := .detached, role := 0, detachDue := none, digs := [], cmps := [], pendRecv := [], lockWait := [],
                                     joinAt := none, syncing := false, missed := 0, hello := none, waiting := [], snap := none }
    let v := (u.groups.filter fun g => (g.mirrored || g.fromPeer) && !g.isBound).foldl (fun (x : State) g =>
      x.abortGroup g (some Reg.TBL_STATUS_ABORT_SEAM)) u
    let w := (v.seam.ops.filter fun m => !m.isBound).foldl State.undoOp v.seamEngine
    let x := w.setCur { w.cur with restorePend := [], restoreAsked := [] }
    ((x.put Reg.SEAM_STATUS_DETACH_CAUSE cause).bump Reg.SEAM_CNT_DETACH_COUNT).raise Ev.SEAM_DETACH

/-- BYE: a seam BYE detaches the pair (R331). -/
def execBye (s : State) : Host.Outcome State Fault Refusal := .next ((s.seamGot 1).detachSoon 3)

/-- SEAM_TICKS_MISSED: LOSS_TICKS consecutive seam TICK flits are missed and the twin detaches (R331). -/
def execSeamTicksMissed (s : State) : Host.Outcome State Fault Refusal :=
  .next (if max (s.get Reg.SEAM_CTRL_LOSS_TICKS) 1 ≤ s.seam.missed then s.detachSoon 2 else s)

/-- BYE goes to the twin, where there is one. -/
def State.sayBye (s : State) : State := if s.seam.pair = .detached then s else s.sendSeam .bye

/-- SEAM_DETACH_WRITE: a write of 1 to SEAM_CTRL.DETACH sends BYE and detaches (R331). -/
def execSeamDetachWrite (s : State) : Host.Outcome State Fault Refusal := .next (s.onService fun x => x.sayBye.detachSoon 5)

/-! ## Release and reserved messages -/

/-- SEAM_RELEASE_WRITE (R322): a value of S outside 2 to 16 leaves S. A change re-times the device, in a pair as a mirrored
operation. -/
def doSeamReleaseWrite (rel : Bool) (v : BitVec 5) (s : State) : State :=
  let n := if 2 ≤ v.toNat ∧ v.toNat ≤ 16 then v.toNat else s.get Reg.SEAM_CTRL_S
  if rel = s.flag Reg.SEAM_CTRL_RELEASE ∧ n = s.get Reg.SEAM_CTRL_S ∧ s.tick.retime.isNone = true then s
  else if s.seam.pair = .paired then s.startMirror (.release rel (BitVec.ofNat 5 n)) 0 none
  else s.addRetime fun r => { r with release := some rel, settle := some n }

/-- SEAM_RELEASE_WRITE: a write to SEAM_CTRL.RELEASE or S re-times the device as a mirrored operation (R322). -/
def execSeamReleaseWrite (rel : Bool) (v : BitVec 5) (s : State) : Host.Outcome State Fault Refusal :=
  .next (s.onService (doSeamReleaseWrite rel v))

/-- The kinds of Table 11-1. -/
def seamKinds : List Nat := [0x10, 0x11, 0x20, 0x21, 0x30, 0x31, 0x32, 0x33, 0x40, 0x50, 0x51]

/-- RESERVED_SEAM_MESSAGE: a seam message of a reserved kind is ignored and counted (R309). -/
def execReservedSeamMessage (f : Flit) (s : State) : Host.Outcome State Fault Refusal :=
  .next (if seamKinds.contains (seamKind f) ∨ s.seam.link.st ≠ .up then s
    else (s.seamGot (bits f 10 8 + 1)).bump Reg.SEAM_CNT_BADMSG_COUNT)

end Sys2Proof.Machine
end

