-- ==== Sys2Proof/Machine/Cascade.lean ====
section
/-! DEFINITION. The cascade (12_cascade.md): lookup, learn and tally tokens, the merge at the origin, the membership of the
ring and its changes. -/

namespace Sys2Proof.Machine

/-- Change the cascade. -/
def State.setCsc (s : State) (x : Csc) : State := { s with csc := x }

/-- Send a message or token on the cascade ports. -/
def State.sendCsc (s : State) (m : CscOut) : State := s.emit (.csc m)

/-- The members of a set, ascending. -/
def membersOf (set : Nat) : List Nat := (List.range 16).filter fun m => set.testBit m

/-- The set of some members. -/
def setOf (l : List Nat) : Nat := ((List.range 16).filter fun m => l.contains m).foldl (fun a m => a + 2 ^ m) 0

/-- A set without a member. -/
def without (set m : Nat) : Nat := setOf ((membersOf set).filter (· != m))

/-- RING (R336). -/
def State.ring (s : State) : Nat := s.get Reg.CSC_CTRL_RING

/-- The live set (R349). -/
def State.liveSet (s : State) : Nat := s.get Reg.CSC_LIVE_LIVE

/-- The device takes part in the ring: in service, cabled in and enabled (R350). -/
def State.inRing (s : State) : Bool := s.mode == .service && s.inCascade

/-- A member of RING is not live (R353). -/
def State.sliceMissing (s : State) : Bool := (membersOf s.ring).any fun m => !s.liveSet.testBit m

/-! ## Tokens of other members (R344) -/

/-- The tick a token's PTICK names: the latest one not after the current tick with that value modulo 16 (R344). -/
def planTick (now ptick : Nat) : Tick := tickSub now ((now + 16 - ptick % 16) % 16)

/-- The best of two candidates by priority key; the first where they tie (R138, R344). -/
def betterToken (ranked : Bool) (a b : Token) : Token :=
  if a.found = false then b
  else if b.found = true ∧ prioKey ranked b.rank b.entry < prioKey ranked a.rank a.entry then b
  else a

/-- A token with a member's own result merged in (R344 step 2). -/
def mergeToken (ranked : Bool) (tok own : Token) : Token :=
  let b := betterToken ranked tok own
  { tok with found := tok.found || own.found, entry := b.entry, rank := b.rank, member := b.member, dref := b.dref,
             count := min (tok.count + own.count) 4194303, unc := tok.unc || own.unc, deg := tok.deg || own.deg }

/-- The code map as it stood at the start of tick n (R14, R344). -/
def State.mapAt (s : State) (n : Tick) : List Bay × List Broad :=
  if n = s.tick.now then (s.bays, s.broad)
  else match (s.csc.maps.filter fun e => tickLater e.1 n).getLast? with
    | some e => e.2
    | none => (s.baysBefore, s.broadBefore)

/-- Search another member's token and merge the result (R344 steps 1 and 2). -/
def State.searchToken (s : State) (t : Token) : State × Token :=
  match s.table t.tbl with
  | none => (s, t)
  | some d =>
    if d.cascaded = false then (s, t)
    else
      let n := planTick s.tick.now t.ptick
      let m := s.mapAt n
      let sel := s.selectUnits m.1 m.2 t.tbl d t.key
      let u := s.countSearch n { tbl := t.tbl, width := t.width, sel := sel.1, key := t.key }
      let a := u.scan t.tbl d t.key n sel.1 sel.2
      let m := mergeToken d.ranked t (a.token d d.rmode)
      (a.s.bump Reg.CSC_CNT_SEARCHED_COUNT, { m with seen := (t.seen + 1) % 16, visited := t.visited ||| 2 ^ s.member })

/-- Discard a token of another member, counted (R344). -/
def State.discardToken (s : State) : State := s.bump Reg.CSC_CNT_DISCARD_COUNT

/-- Send a token on; one that this device turned back twice by itself has gone as far as it can. -/
def State.forwardToken (s : State) (down : Bool) (t : Token) : State :=
  let r := s.sendOn down t
  match r.2 with
  | some x => if x.origin = s.member then r.1 else r.1.discardToken
  | none => r.1

/-- The planned lookup whose token has a tag: record and lookup. -/
def State.lookupOf (s : State) (tag : Nat) : Option (Nat × Nat) :=
  (s.planned.zipIdx).findSome? fun (pl, i) =>
    ((pl.lookups.zipIdx).find? fun (l, _) => l.tok == some tag && l.loc.isSome && l.judged.isNone && !l.done).map fun (_, k) => (i, k)

/-- The origin's own token returns: it waits for the merge, or is late (R346); one that a change discarded is nothing (R349). -/
def State.takeToken (s : State) (t : Token) : State :=
  if (s.csc.flight.any fun e => e.1 == t.tok) = false then s
  else
    let u := s.setCsc { s.csc with flight := s.csc.flight.filter fun e => e.1 ≠ t.tok }
    match u.lookupOf t.tok with
    | some (i, k) => u.setLookup i k fun l => { l with ret := some t }
    | none => (u.bump Reg.CSC_CNT_LATE_COUNT).raiseEp Ev.CSC_LATE

/-- The own token is back: unbroken after no turn, in a wrapped chain after two (R344). -/
def State.tokenHome (s : State) (t : Token) : Bool := if s.csc.gone = 0 then t.wraps == 0 else t.wraps == 2

/-- A token of the origin itself. -/
def State.ownToken (s : State) (down : Bool) (t : Token) : State :=
  if s.tokenHome t then s.takeToken t
  else
    let r := s.sendOn down t
    match r.2 with
    | some x => r.1.takeToken x
    | none => r.1

/-- LOOKUP_TOKEN (R344, R350): a bypassing device forwards every token; a live one takes its own, discards those of members that
are not live or that were planned before the last change, and searches, merges and forwards the others. -/
def doLookupToken (down : Bool) (t : Token) (s : State) : State :=
  if s.inRing = false then s
  else if s.cascaded = false then s.forwardToken down t
  else if t.origin = s.member then s.ownToken down t
  else if s.liveSet.testBit t.origin = false then s.discardToken
  else if tickLater (s.get Reg.CSC_LIVE_AGREED) (planTick s.tick.now t.ptick) then s.discardToken
  else if t.visited.testBit s.member then s.forwardToken down t
  else
    let r := s.searchToken t
    r.1.forwardToken down r.2

/-- LOOKUP_TOKEN: a received lookup token is taken, searched and merged, turned back or discarded (R344). -/
def execLookupToken (down : Bool) (flits : List Flit) (s : State) : Host.Outcome State Fault Refusal :=
  .next (if Tk.kind (flitsNat flits) = 0 then doLookupToken down (tokenOf flits) s else s)

/-- LEARN_TOKEN (R347): at ACC_MEMBER it waits for the records of the plan in progress; a token for another member goes on. -/
def doLearnToken (flits : List Flit) (s : State) : State :=
  let w := flitsNat flits
  if s.inRing = false ∨ Tk.kind w ≠ 1 then s
  else if s.cascaded = false ∨ Tk.target w ≠ s.member then s.sendCsc (.learn flits)
  else if s.liveSet.testBit (Tk.origin w) = false then s.discardToken
  else (s.setCsc { s.csc with learns := s.csc.learns ++ [(tickSub s.tick.plan 1, Tk.table w, Tk.key w)] }).settleLearns

/-- LEARN_TOKEN: a LEARN token makes ACC_MEMBER learn the key (R347). -/
def execLearnToken (flits : List Flit) (s : State) : Host.Outcome State Fault Refusal := .next (doLearnToken flits s)

/-- TALLY_TOKEN (R348): the holding member counts; a token for another member goes on. -/
def doTallyToken (flits : List Flit) (s : State) : State :=
  let w := flitsNat flits
  if s.inRing = false ∨ Tk.kind w ≠ 2 then s
  else if s.cascaded = false ∨ Tk.target w ≠ s.member then s.sendCsc (.tally flits)
  else s.countTally (Tk.table w) (Tk.entry w) (tickSub s.tick.plan 1)

/-- TALLY_TOKEN: a TALLY token increments a held counter (R348). -/
def execTallyToken (flits : List Flit) (s : State) : Host.Outcome State Fault Refusal := .next (doTallyToken flits s)

/-! ## The merge at the origin (R345, R346) -/

/-- The lookup reports CASCADE_GAP (R346, R353). -/
def State.cascadeGap (s : State) (n : Tick) (l : LookupPlan) : Bool :=
  (match l.ret with
    | none => true
    | some t => t.seen != ((membersOf s.liveSet).length + 15) % 16) ||
  (s.sliceMissing && s.flag Reg.CSC_CTRL_GAP_ACT && tickLe (s.get Reg.CSC_LIVE_AGREED) n)

/-- The candidate of a merged token. -/
def State.tokenCands (s : State) (t : Token) : List Cand :=
  if t.found then [{ id := t.entry, rank := t.rank, dref := t.dref, remote := if t.member = s.member then none else some t.member }] else []

/-- The verdict of the merged token (Table 5-7, R346). -/
def State.mergedVerdict (s : State) (d : Table) (n : Tick) (l : LookupPlan) (t : Token) : Verdict :=
  if s.cascadeGap n l then ⟨Vs.CASCADE_GAP, s.tokenCands t, t.count⟩ else judge d.rmode t.unc (s.tokenCands t) t.count

/-- The origin merges a returned token with its own result and so judges the lookup (R345). -/
def State.mergeLookup (s : State) (i k : Nat) (pl : Planned) (l : LookupPlan) (own : Token) : State :=
  match s.table l.tbl with
  | none => s.putPlanned i { pl with lookups := pl.lookups.set k { l with done := true } }
  | some d =>
    let t := match l.ret with
      | some r => mergeToken d.ranked r own
      | none => own
    let u := if s.cascadeGap pl.tick l then (s.bump Reg.CSC_CNT_GAP_COUNT).raiseEp Ev.CSC_GAP else s
    (u.setLookup i k fun l => { l with judged := some (s.mergedVerdict d pl.tick l t) }).settleResults

/-- CASCADE_MERGE (R345, R346). -/
def doCascadeMerge (tok : BitVec 12) (s : State) : State :=
  match s.lookupOf tok.toNat with
  | none => s
  | some (i, k) =>
    match s.planned[i]? with
    | none => s
    | some pl =>
      match pl.lookups[k]? with
      | none => s
      | some l =>
        match l.loc with
        | none => s
        | some own => s.mergeLookup i k pl l own

/-- CASCADE_MERGE: at cycle D the origin merges the returned token, or reports CASCADE_GAP (R346). -/
def execCascadeMerge (tok : BitVec 12) (s : State) : Host.Outcome State Fault Refusal := .next (doCascadeMerge tok s)

/-! ## Membership (R349, R352) -/

/-- The coordinator: the lowest live member that is not lost; the lowest of RING while none is live (notes/assumptions/64.md). -/
def State.coordinator (s : State) : Option Nat :=
  ((membersOf (if s.liveSet = 0 then s.ring else s.liveSet)).filter fun m => !s.csc.lost.testBit m).head?

/-- This device is the coordinator. -/
def State.isCoord (s : State) : Bool := s.coordinator == some s.member

/-- The live set that the coordinator is to propose. -/
def State.wanted (s : State) : Nat := s.csc.want.getD s.liveSet

/-- The cascaded tables of this device. -/
def State.ringTables (s : State) : List (Fin 64 × Table) :=
  (List.finRange 64).filterMap fun t => match s.table t.val with
    | some d => if d.cascaded then some (t, d) else none
    | none => none

/-- The device that joins has the coordinator's cascaded tables, each with the same descriptor (R339, R352). -/
def State.joinTables (s : State) (j : JoinInfo) : Bool :=
  (s.ringTables.all fun e => j.tables.contains (e.1, e.2.words, e.2.mask)) && j.tables.all fun x => s.ringTables.any fun e => e.1 == x.1

/-- CSC_SLICE of table t in the members of the set to come, in ascending order of the members: the coordinator's own and those read. -/
def State.joinSlices (s : State) (j : JoinInfo) (t : Nat) : List (Nat × Nat × Nat) :=
  (membersOf (setOf (j.member :: membersOf s.wanted))).filterMap fun m =>
    if m = s.member then some (m, s.get Reg.CSC_SLICE_LO t, s.get Reg.CSC_SLICE_HI t)
    else (j.slices.find? fun e => e.1 == m && e.2.1.val == t).map fun e => (m, e.2.2.1.toNat, e.2.2.2.toNat)

/-- Slices are disjoint and ascend with the member number (R339). -/
def ascending (l : List (Nat × Nat × Nat)) : Bool :=
  l.all fun a => l.all fun b => !decide (a.1 < b.1) || decide (a.2.2 < b.2.1)

/-- The slices of a table allow the join: they ascend, and the learn range lies within that of ACC_MEMBER (R339). -/
def State.slicesOk (s : State) (j : JoinInfo) (t : Fin 64) (d : Table) : Bool :=
  let l := s.joinSlices j t.val
  ascending l && (!d.learnEn || d.learnCount == 0 || match l.find? fun e => e.1 == d.accMember with
    | some e => decide (e.2.1 ≤ d.learnBase) && decide (d.learnBase + d.learnCount ≤ e.2.2 + 1)
    | none => true)

/-- INJECT of a member of the set to come. -/
def State.injectOf (s : State) (j : JoinInfo) (m : Nat) : Nat :=
  if m = s.member then s.get Reg.CSC_TOKEN_INJECT else ((j.inject.find? fun e => e.1 == m).map (·.2.toNat)).getD 0

/-- CSC_TOKSLOT(g) of a member of the set to come. -/
def State.tokslotOf (s : State) (j : JoinInfo) (m g : Nat) : Nat :=
  if m = s.member then s.get Reg.CSC_TOKSLOT_SLOTS g
  else ((j.tokslot.find? fun e => e.1 == m && e.2.1.val == g).map (·.2.2.toNat)).getD 0

/-- In every member the INJECT allowances of the others fit CSC_TOKSLOT of each gallery that a cascaded table spans (R352). -/
def State.injectOk (s : State) (j : JoinInfo) : Bool :=
  let ms := membersOf (setOf (j.member :: membersOf s.wanted))
  ms.all fun m => (s.ringTables.flatMap fun e => e.2.galList).all fun g =>
    decide (((ms.filter (· != m)).map (s.injectOf j)).sum ≤ s.tokslotOf j m g)

/-- The cause for which the coordinator refuses a join, 0 for none (R352). -/
def State.joinCause (s : State) (j : JoinInfo) : Nat :=
  if s.liveSet.testBit j.member = true ∨ s.ring.testBit j.member = false then 1
  else if j.ring.toNat ≠ s.ring then 2
  else if s.joinTables j = false then 3
  else if (s.ringTables.all fun e => s.slicesOk j e.1 e.2) = false then 4
  else if j.req2Fenced = true ∨ s.reqFenced 2 = true then 5
  else if s.injectOk j = false then 6
  else 0

/-- The coordinator takes a join, or refuses it (R352). -/
def State.takeJoin (s : State) (j : JoinInfo) : State :=
  if s.joinCause j ≠ 0 then (s.put Reg.CSC_STATUS_REFUSE_CAUSE (s.joinCause j)).raise Ev.CSC_JOIN_REFUSED
  else s.setCsc { s.csc with want := some (setOf (j.member :: membersOf s.wanted)), lost := without s.csc.lost j.member }

/-- A member leaves, by loss or BYE. -/
def State.takeLeave (s : State) (m : Nat) : State :=
  if s.liveSet.testBit m then s.setCsc { s.csc with want := some (without s.wanted m) } else s

/-- A notice has effect at the coordinator; every other member passes it on (R349 step 1). A loss is remembered everywhere:
it breaks the ring. -/
def State.takeNotice (s : State) (n : Notice) : State :=
  match n with
  | .lost m =>
    let t := s.setCsc { s.csc with lost := setOf (m.val :: membersOf s.csc.lost) }
    if t.isCoord then t.takeLeave m.val else t.sendCsc (.notice n)
  | .bye m => if s.isCoord ∨ s.coordinator = some m.val then s.takeLeave m.val else s.sendCsc (.notice n)
  | .join j => if s.isCoord then s.takeJoin j else s.sendCsc (.notice n)

/-- NOTICE: the coordinator learns of a lost link, missed ticks, BYE or JOIN_REQ (R349). -/
def execNotice (n : Notice) (s : State) : Host.Outcome State Fault Refusal := .next (if s.inRing then s.takeNotice n else s)

/-- JOIN_REQ: the coordinator checks a join and may refuse it (R352); another member sends NOTICE (R349). -/
def execJoinReq (j : JoinInfo) (s : State) : Host.Outcome State Fault Refusal := .next (if s.inRing then s.takeNotice (.join j) else s)

/-- BYE on a cascade port: a member leaves the live set (R349). -/
def execCscBye (m : Fin 16) (s : State) : Host.Outcome State Fault Refusal := .next (if s.inRing then s.takeNotice (.bye m) else s)

/-- The neighbour of this member at its up or down port (R336): the ring's members above it in turn, from the top to the
lowest. -/
def State.neighbour (s : State) (down : Bool) : Nat :=
  let r := membersOf s.ring
  let l := (r.filter fun m => decide (s.member < m)) ++ r.filter fun m => decide (m < s.member)
  ((if down then l.head? else l.getLast?)).getD s.member

/-- A cascade link is lost (R349 step 1, R351). -/
def State.cscLost (s : State) (down : Bool) : State :=
  if s.inRing = true ∧ s.cascaded = true then s.takeNotice (.lost (Fin.ofNat 16 (s.neighbour down))) else s

/-- CSC_TICKS_MISSED: LOSS_TICKS missed TICK flits on a cascade port (R349). -/
def execCscTicksMissed (l : Link) (s : State) : Host.Outcome State Fault Refusal :=
  .next (match l with
    | .up => s.cscLost false
    | .down => s.cscLost true
    | _ => s)

/-- CSC_LEAVE in a live member: BYE goes out, and a coordinator proposes the set without itself (R349). -/
def doCscLeave (s : State) : State :=
  if s.inRing = true ∧ s.cascaded = true then
    (if s.isCoord then (s.sendCsc (.bye s.member)).takeLeave s.member else s.sendCsc (.bye s.member))
  else s

/-- CSC_LEAVE: 1 written to CSC_CTRL.LEAVE sends BYE (R349). -/
def execCscLeave (s : State) : Host.Outcome State Fault Refusal := .next (doCscLeave s)

/-- The device's own wish to join, for a coordinator that checks itself. -/
def State.ownJoin (s : State) : JoinInfo :=
  { member := s.member, ring := BitVec.ofNat 16 s.ring, req2Fenced := s.reqFenced 2,
    tables := s.ringTables.map fun e => (e.1, e.2.words, e.2.mask) }

/-- CSC_JOIN: 1 written to CSC_CTRL.JOIN sends JOIN_REQ (R349). -/
def execCscJoin (s : State) : Host.Outcome State Fault Refusal :=
  .next (if s.inRing then (if s.isCoord then s.takeJoin s.ownJoin else s.sendCsc .joinReq) else s)

/-- At its next boundary t the coordinator proposes the new set for k = t + 2 + ceil(140 N / P) (R349 step 2). -/
def State.proposeBoundary (s : State) : State :=
  match s.csc.want with
  | none => s
  | some w =>
    if s.inRing = false ∨ s.isCoord = false ∨ s.csc.change.isSome = true then s
    else if w = s.liveSet then s.setCsc { s.csc with want := none }
    else
      let k := tickAdd s.tick.now (2 + ceilDiv (140 * s.get Reg.CSC_STATUS_POSITIONS) (max s.period 1))
      let alone : Bool := w == 2 ^ s.member
      let t := (s.setCsc { s.csc with want := none, change := some { live := w, k := k, acks := [s.member], bound := alone } }).sendCsc
        (.propose w k)
      if alone then t.sendCsc .commit else t

/-- CSC_PROPOSE (R349 step 3): a member of the new set answers ACK. -/
def doCscPropose (live : BitVec 16) (k : BitVec 48) (s : State) : State :=
  if s.inRing = false ∨ s.isCoord = true then s
  else
    let t := (s.setCsc { s.csc with change := some { live := live.toNat, k := k.toNat } }).sendCsc (.propose live.toNat k.toNat)
    if live.toNat.testBit s.member then t.sendCsc (.ack s.member) else t

/-- PROPOSE on the cascade: members answer a proposed live set with ACK (R349). -/
def execCscPropose (live : BitVec 16) (k : BitVec 48) (s : State) : Host.Outcome State Fault Refusal :=
  .next (doCscPropose live k s)

/-- ACK (R349 step 3): once every member of the new set has acknowledged, the coordinator sends COMMIT and is bound. -/
def doAck (m : Fin 16) (s : State) : State :=
  if s.inRing = false then s
  else if s.isCoord = false then s.sendCsc (.ack m.val)
  else match s.csc.change with
    | none => s
    | some c =>
      let a := if c.acks.contains m.val then c.acks else m.val :: c.acks
      let all := (membersOf c.live).all fun x => a.contains x
      let t := s.setCsc { s.csc with change := some { c with acks := a, bound := c.bound || all } }
      if all && !c.bound then t.sendCsc .commit else t

/-- ACK: the coordinator sends COMMIT when every new member has acknowledged (R349). -/
def execAck (m : Fin 16) (s : State) : Host.Outcome State Fault Refusal := .next (doAck m s)

/-- COMMIT (R349 step 3): the member is bound to k. -/
def doCommit (s : State) : State :=
  match s.csc.change with
  | some c => if s.inRing = true ∧ c.bound = false then (s.setCsc { s.csc with change := some { c with bound := true } }).sendCsc .commit else s
  | none => s

/-- COMMIT: a member that holds COMMIT is bound to the change at k (R349). -/
def execCommit (s : State) : Host.Outcome State Fault Refusal := .next (doCommit s)

/-- The positions of the chain that holds member m0: those reached from it either way round the ring without passing a lost
one (R351). -/
def chainOf (ring lost m0 : Nat) : List Nat :=
  let r := membersOf ring
  let rest := (r.filter fun m => decide (m0 < m)) ++ r.filter fun m => decide (m < m0)
  ((m0 :: rest.takeWhile fun m => !lost.testBit m) ++ rest.reverse.takeWhile fun m => !lost.testBit m).eraseDups

/-- The positions that stay together when the ring is broken: all of them, or the chain of the lowest-numbered member of the
previous live set that is not lost (R351). -/
def State.chain (s : State) (new : Nat) : List Nat :=
  if s.csc.lost = 0 then membersOf s.ring
  else
    match ((membersOf (if s.liveSet = 0 then new else s.liveSet)).filter fun m => !s.csc.lost.testBit m).head? with
    | some m => chainOf s.ring s.csc.lost m
    | none => []

/-- A bound change applies at boundary k (R349 step 4, R351, R353). -/
def State.applyLive (s : State) (new : Nat) (k : Tick) : State :=
  let ch := s.chain new
  let live := setOf ((membersOf new).filter fun m => ch.contains m)
  let on : Bool := live.testBit s.member
  let head := (membersOf live).headD 0
  let t := s.setCsc { s.csc with flight := [], change := none, gone := s.csc.lost }
  let u := ((t.put Reg.CSC_LIVE_LIVE live).put Reg.CSC_LIVE_AGREED k).put Reg.CSC_STATUS_STATE (if on then 2 else 1)
  let v := ((u.put Reg.CSC_STATUS_COORD head).put Reg.CSC_STATUS_POSITIONS ch.length).putB Reg.CSC_STATUS_SLICE_MISSING u.sliceMissing
  let w := (v.putB Reg.CSC_STATUS_WRAP_UP (on && s.csc.lost != 0 && s.csc.up.st != .up)).putB Reg.CSC_STATUS_WRAP_DOWN
    (on && s.csc.lost != 0 && s.csc.dn.st != .up)
  let x := (w.bump Reg.CSC_CNT_CHANGE_COUNT).raise Ev.CSC_CHANGE
  let y := if s.liveSet.testBit 0 = true ∧ live.testBit 0 = false ∧ on = true ∧ head = s.member ∧ s.seam.role ≠ 2
    then x.leaveFollower (s.flag Reg.CSC_CTRL_HEAD_SRC) else x
  y.showLatency

/-- A member that holds no COMMIT at k leaves the live set and sends JOIN_REQ (R349 step 3). -/
def State.missCommit (s : State) : State :=
  let t := s.setCsc { s.csc with change := none }
  if s.cascaded then ((t.put Reg.CSC_LIVE_LIVE (without s.liveSet s.member)).put Reg.CSC_STATUS_STATE 1).sendCsc .joinReq |>.showLatency
  else t.sendCsc .joinReq

/-- MEMBERSHIP_APPLY (R349 step 4). -/
def doMembershipApply (s : State) : State :=
  match s.csc.change with
  | none => s
  | some c =>
    if s.inRing = false ∨ tickLe c.k s.tick.now = false then s
    else if c.bound then s.applyLive c.live c.k
    else s.missCommit

/-- MEMBERSHIP_APPLY: at boundary k the new live set applies and in-flight tokens are discarded (R349). -/
def execMembershipApply (s : State) : Host.Outcome State Fault Refusal := .next (doMembershipApply s)

/-- A live member that leaves service state says BYE (R349 step 1). -/
def State.cscGoodbye (s : State) : State := if s.inRing = true ∧ s.cascaded = true then s.sendCsc (.bye s.member) else s

/-- CSC_STATUS.STATE and POSITIONS of a device that is not live (R350, Table 12-2). -/
def State.cscRefresh (s : State) : State :=
  if s.inRing = false then
    (if s.get Reg.CSC_STATUS_STATE = 0 then s
     else ((((s.put Reg.CSC_STATUS_STATE 0).put Reg.CSC_STATUS_WRAP_UP 0).put Reg.CSC_STATUS_WRAP_DOWN 0).put Reg.CSC_LIVE_LIVE 0).setCsc
       { s.csc with flight := [], change := none, want := none, lost := 0, gone := 0 })
  else if s.get Reg.CSC_STATUS_STATE = 0 then
    (s.put Reg.CSC_STATUS_STATE 1).put Reg.CSC_STATUS_POSITIONS (membersOf s.ring).length
  else s

/-- CSC_SLICE_WRITE (R339): ignored, with CFG_ERR, while the member holds entries of the table. -/
def doCscSliceWrite (t : Fin 64) (lo hi : BitVec 24) (s : State) : State :=
  if s.rows.any fun r => r.tbl == t.val then s.put Reg.CSC_STATUS_CFG_ERR 1
  else (s.put Reg.CSC_SLICE_LO lo.toNat t.val).put Reg.CSC_SLICE_HI hi.toNat t.val

/-- CSC_SLICE_WRITE: a write to CSC_SLICE is refused while entries of the table are held (R339). -/
def execCscSliceWrite (t : Fin 64) (lo hi : BitVec 24) (s : State) : Host.Outcome State Fault Refusal :=
  .next (s.onService (doCscSliceWrite t lo hi))

end Sys2Proof.Machine
end

