-- ==== Sys2Proof/Machine/CfgMem.lean ====
section
/-! DEFINITION. The attached configuration memory (15_config_memory.md): image headers and bodies, choosing a copy, page programs,
pass-through, care and the log. -/

namespace Sys2Proof.Machine

/-- Change the configuration-memory master. -/
def State.setCfg (s : State) (x : Cfg) : State := { s with cfg := x }

/-! ## Reading -/

/-- Bytes in the attached memory (R388). -/
def State.memSize (s : State) : Nat := 2 ^ s.cfg.dev.size

/-- Bytes in a page. -/
def State.pageSize (s : State) : Nat := 2 ^ s.cfg.dev.page

/-- The byte at an address, which the memory takes modulo its size (notes/assumptions/66.md). -/
def State.memByte (s : State) (a : Nat) : Byte := fgetD s.cfg.mem (a % s.memSize) 0

/-- n bytes from an address. -/
def State.memBytes (s : State) (a n : Nat) : List Byte := (List.range n).map fun i => s.memByte (a + i)

/-- Bytes change in the memory. -/
def State.memPut (s : State) (a : Nat) (l : List Byte) : State :=
  s.setCfg { s.cfg with mem := (l.zipIdx).foldl (fun m e => fset m ((a + e.2) % s.memSize) 0 e.1) s.cfg.mem }

/-! ## The (72,64) code over 8-byte groups (R85, R391) -/

/-- How a group decodes: right, one bit wrong (the corrected word; a check bit may be the wrong one), or two bits wrong. -/
inductive Group8 where
  | right (w : BitVec 64) | fixed (w : BitVec 64) (check : Byte) | double (w : BitVec 64)
  deriving DecidableEq, Repr

/-- Two bytes differ in one bit. -/
def oneBit (a b : Byte) : Bool := [1, 2, 4, 8, 16, 32, 64, 128].contains (a ^^^ b).toNat

/-- Decode a word against its check byte. -/
def decode8 (w : BitVec 64) (c : Byte) : Group8 :=
  if Config.secded w = c then .right w
  else
    match (List.range 64).find? fun i => Config.secded (w ^^^ BitVec.ofNat 64 (2 ^ i)) = c with
    | some i => .fixed (w ^^^ BitVec.ofNat 64 (2 ^ i)) c
    | none => if oneBit (Config.secded w) c then .fixed w (Config.secded w) else .double w

/-- The word after correction; two wrong bits stay. -/
def Group8.word : Group8 → BitVec 64
  | .right w | .fixed w _ | .double w => w

/-- Group j of data at one address with its check byte at another. -/
def State.groupAt (s : State) (data check : Nat) (j : Nat) : Group8 :=
  decode8 (BitVec.ofNat 64 (leNat (s.memBytes (data + 8 * j) 8))) (s.memByte (check + j))

/-- n groups, corrected, as bytes. -/
def State.corrected (s : State) (data check n : Nat) : List Byte :=
  (List.range n).flatMap fun j => leBytes 8 (s.groupAt data check j).word.toNat

/-! ## Headers and copies (R390 to R393) -/

/-- The corrected bytes 0 to 251 of a header. -/
def State.headerBytes (s : State) (base : Nat) : List Byte := s.corrected base (base + 224) 28 ++ s.memBytes (base + 224) 28

/-- The fields of a header (Table 15-1). -/
def headerOf (b : List Byte) : ImageHdr :=
  { seq := leAt b 8 4, imageId := leAt b 12 4, length := leAt b 16 4, bodyCrc := leAt b 20 4, spiN := leAt b 24 1, mode := leAt b 25 1,
    readOp := leAt b 26 1, dummy := leAt b 27 1, marginOp := leAt b 28 1, refreshOp := leAt b 29 1, logBase := leAt b 32 4,
    logSize := leAt b 36 4 }

/-- Bytes of a copy: header, body and check area (R390). -/
def ImageHdr.extent (h : ImageHdr) : Nat := 256 + 9 * h.length / 8

/-- Two address ranges share a byte. -/
def overlap (a n b m : Nat) : Bool := decide (a < b + m) && decide (b < a + n)

/-- Where copy A (0) or B (1) starts. -/
def State.copyBase (s : State) (c : Nat) : Nat := if c = 0 then 0 else s.memSize / 2

/-- The extent and the log area satisfy R390 and R404. -/
def State.layoutOk (s : State) (h : ImageHdr) : Bool :=
  h.length % 8 == 0 && decide (h.length ≤ 0x200000) && decide (h.extent ≤ s.memSize / 2) && h.logBase % s.pageSize == 0 &&
    decide (2 * s.pageSize + 512 ≤ h.logSize) && decide (h.logBase + h.logSize ≤ s.memSize) &&
    !overlap h.logBase h.logSize 0 h.extent && !overlap h.logBase h.logSize (s.memSize / 2) h.extent

/-- MAGIC, as it reads. -/
def State.magicAt (s : State) (base : Nat) : Nat := leNat (s.memBytes base 4)

/-- The header of a copy, where it is valid (R393). -/
def State.header (s : State) (c : Nat) : Option ImageHdr :=
  let base := s.copyBase c
  let b := s.headerBytes base
  let h := headerOf b
  if leAt b 0 4 = 0x594C4E53 ∧ leAt b 4 2 = 1 ∧ crc32 b = leNat (s.memBytes (base + 252) 4) ∧ s.layoutOk h = true then some h else none

/-- The corrected body of a copy. -/
def State.bodyOf (s : State) (c : Nat) (h : ImageHdr) : List Byte :=
  s.corrected (s.copyBase c + 256) (s.copyBase c + 256 + h.length) (h.length / 8)

/-- An entry of the directory: section, offset, length (R392). -/
def dirEntry (body : List Byte) (i : Nat) : Nat × Nat × Nat :=
  (leAt body (16 * i) 1, leAt body (16 * i + 4) 4, leAt body (16 * i + 8) 4)

/-- The body checks: BODY_CRC, and every used directory entry inside LENGTH (R393). -/
def bodyOk (h : ImageHdr) (body : List Byte) : Bool :=
  crc32 body == h.bodyCrc && (List.range 16).all fun i =>
    let e := dirEntry body i
    e.2.2 == 0 || decide (e.2.1 + e.2.2 ≤ h.length)

/-- The bytes of a section; none where the directory does not name it (R392). -/
def sectionOf (body : List Byte) (n : Nat) : Option (List Byte) :=
  ((List.range 16).map (dirEntry body)).findSome? fun e =>
    if e.1 = n ∧ e.2.2 ≠ 0 then some ((body.drop e.2.1).take e.2.2) else none

/-- SEQ b is later than SEQ a (R394). -/
def seqLater (b a : Nat) : Bool :=
  let d := (b + 2 ^ 32 - a % 2 ^ 32) % 2 ^ 32
  decide (1 ≤ d) && decide (d < 2 ^ 31)

/-- Two SEQs are equal: they differ by 0 or by 2^31 (R394). -/
def seqEqual (a b : Nat) : Bool := !seqLater a b && !seqLater b a

/-- A copy is valid (R393). -/
def State.copyValid (s : State) (c : Nat) : Bool :=
  match s.header c with
  | none => false
  | some h => bodyOk h (s.bodyOf c h)

/-- The copies in the order they are tried (R394): the valid headers, the later SEQ first, copy A where the SEQs are equal. -/
def State.copyOrder (s : State) : List Nat :=
  match s.header 0, s.header 1 with
  | some a, some b => if seqLater b.seq a.seq then [1, 0] else [0, 1]
  | some _, none => [0]
  | none, some _ => [1]
  | none, none => []

/-! ## The log's head (R403, R404) -/

/-- A head record, where its CRC-32 checks: SEQ, NEXT, COUNT. -/
def State.headAt (s : State) (a : Nat) : Option (Nat × Nat × Nat) :=
  let b := s.memBytes a 16
  if crc32 (b.take 12) = leAt b 12 4 then some (leAt b 0 4, leAt b 4 4, leAt b 8 4) else none

/-- The head record in force and whether it is copy B. -/
def State.logHead (s : State) (h : ImageHdr) : Option (Nat × Nat × Nat) × Bool :=
  match s.headAt h.logBase, s.headAt (h.logBase + s.pageSize) with
  | some a, some b => if seqLater b.1 a.1 then (some b, true) else (some a, false)
  | some a, none => (some a, false)
  | none, some b => (some b, true)
  | none, none => (none, true)

/-- Slots of the log (R403). -/
def State.logSlots (s : State) (h : ImageHdr) : Nat := (h.logSize - 2 * s.pageSize) / 32

/-- Take NEXT and COUNT from the head in force. -/
def State.readLogHead (s : State) (h : ImageHdr) : State :=
  let r := s.logHead h
  let t := s.setCfg { s.cfg with headB := r.2 }
  match r.1 with
  | some (_, next, count) => (t.put Reg.CFG_LOG_NEXT next).put Reg.CFG_LOG_COUNT count
  | none => (t.put Reg.CFG_LOG_NEXT 0).put Reg.CFG_LOG_COUNT 0

/-! ## Choosing a copy at step 6 (R394, R395) -/

/-- What the memory tells of itself at step 6 (R388, R398). -/
def State.showMem (s : State) : State :=
  (((s.put Reg.CFG_MEM_SIZE s.cfg.dev.size).putB Reg.CFG_MEM_ADDR4 s.cfg.dev.addr4).put Reg.CFG_MEM_PAGE s.cfg.dev.page).put
    Reg.CFG_STATUS_BP s.cfg.dev.bp

/-- The header of a copy reads otherwise in its own mode: its body is read on one line (R394 step 2). -/
def State.fallsBack (s : State) (c : Nat) : Bool := (s.header c).any fun h => h.mode != 0 && !s.cfg.dev.quadOk

/-- The copies whose bodies are read: in order, up to the first valid one (R394 step 3). -/
def State.copiesRead (s : State) : List Nat :=
  s.copyOrder.takeWhile (fun c => !s.copyValid c) ++ (s.copyOrder.find? s.copyValid).toList

/-- MODE_FALLBACK, where a body read falls back (R394 step 2). -/
def State.noteFallback (s : State) : State :=
  if s.copiesRead.any s.fallsBack then s.setRaise Reg.CFG_STATUS_MODE_FALLBACK Ev.CFG_MODE_FALLBACK else s

/-- The copy selected shows in CFG_STATUS, CFG_MEM and CFG_IMAGE. -/
def State.showCopy (s : State) (c : Nat) (h : ImageHdr) : State :=
  let back : Bool := s.fallsBack c
  let t := ((((s.put Reg.CFG_STATUS_COPY c).put Reg.CFG_MEM_N h.spiN).put Reg.CFG_MEM_MODE (if back then 0 else h.mode)).put
    Reg.CFG_IMAGE_SEQ h.seq).put Reg.CFG_IMAGE_IMAGE_ID h.imageId
  t.putB Reg.CFG_STATUS_REFRESH (h.marginOp != 0 && h.refreshOp != 0)

/-- Both copies are valid with equal SEQs and differ (R395). -/
def State.seqTie (s : State) : Bool :=
  match s.header 0, s.header 1 with
  | some a, some b => s.copyValid 0 && s.copyValid 1 && seqEqual a.seq b.seq && (a.bodyCrc != b.bodyCrc || a.length != b.length)
  | _, _ => false

/-- IMAGE_SELECT (R394): a valid copy is selected and its body read, or none is found. -/
def State.selectImage (s : State) : State × Bool :=
  if s.cfg.dev.present = false then (s, false)
  else
    let t := (((s.showMem).putB Reg.CFG_STATUS_A_VALID (s.copyValid 0)).putB Reg.CFG_STATUS_B_VALID (s.copyValid 1)).noteFallback
    match s.copyOrder.find? s.copyValid with
    | none => (t, false)
    | some c =>
      match s.header c with
      | none => (t, false)
      | some h =>
        let u := (t.showCopy c h).readLogHead h
        let v := if s.seqTie then (u.setRaise Reg.CFG_STATUS_SEQ_TIE Ev.CFG_SEQ_TIE).oweLog 7 0 else u
        ({ v with boot := { v.boot with hdr := some h, body := s.bodyOf c h } }, true)

/-! ## Page programs (R396 to R398) -/

/-- The first protected address (R398). -/
def State.protectedFrom (s : State) : Nat :=
  match s.cfg.dev.bp with
  | 0 => s.memSize
  | 1 => s.memSize / 4 * 3
  | 2 => s.memSize / 2
  | _ => 0

/-- A write touches a protected byte. -/
def State.isProtected (s : State) (a n : Nat) : Bool := decide (s.protectedFrom < a % s.memSize + n)

/-- Start a page program (R396). -/
def State.programPage (s : State) (a : Nat) (l : List Byte) (who : Nat) : State :=
  ((s.put Reg.CFG_STATUS_BP s.cfg.dev.bp).setCfg { s.cfg with prog := some ⟨a, l, who⟩ }).emit (.pageProgram a l)

/-- Power fails, or the device is reset, in a page program (R397): the bytes clocked in before it are new, the one being clocked
is undefined, the rest are old. -/
def State.cutProgram (s : State) : State :=
  match s.cfg.prog with
  | none => s
  | some p =>
    let n := s.peek % (p.bytes.length + 1)
    let t := s.drawn
    let u := t.memPut p.addr (p.bytes.take n)
    let v := if n < p.bytes.length then u.drawn.memPut (p.addr + n) [BitVec.ofNat 8 u.peek] else u
    v.setCfg { v.cfg with prog := none }

/-! ## Pass-through (R405, R406) -/

/-- The pass-through buffer as bytes. -/
def State.ptBuf (s : State) (n : Nat) : List Byte := ((List.range 32).flatMap fun w => leBytes 8 (s.get Reg.CFG_PT_BUF_DATA w)).take n

/-- Bytes enter the pass-through buffer from byte 0; the rest of it stays. -/
def State.fillPtBuf (s : State) (l : List Byte) : State :=
  let b := l ++ (s.ptBuf 256).drop l.length
  (List.range 32).foldl (fun x w => x.put Reg.CFG_PT_BUF_DATA (leAt b (8 * w) 8) w) s

/-- A pass-through command ends. -/
def State.ptDone (s : State) (result : Nat) : State := (s.put Reg.CFG_PT_CMD_BUSY 0).put Reg.CFG_PT_CMD_RESULT result

/-- ADDR of the pass-through command. -/
def State.ptAddr (s : State) : Nat := s.get Reg.CFG_PT_CMD_ADDR

/-- Bytes of the pass-through command: LEN + 1. -/
def State.ptLen (s : State) : Nat := s.get Reg.CFG_PT_CMD_LEN + 1

/-- Why a pass-through write is refused, 0 where it is not (R406). -/
def State.ptRefusal (s : State) : Nat :=
  if s.ptAddr / s.pageSize ≠ (s.ptAddr + s.ptLen - 1) / s.pageSize then 2
  else if s.isProtected s.ptAddr s.ptLen then 1
  else if s.mode = .service ∧ (match s.boot.hdr with
      | some h => overlap s.ptAddr s.ptLen h.logBase h.logSize
      | none => false) = true then 4
  else 0

/-- The memory's status register (R388): busy in bit 0, BP in bits [3:2]; its other bits are not stated. -/
def State.statusByte (s : State) : Byte :=
  BitVec.ofNat 8 ((s.peek % 256 &&& 0xF2) + (if s.cfg.prog.isSome then 1 else 0) + 4 * (s.cfg.dev.bp % 4))

/-- A read of the pass-through is held: it touches the page being written (R396). -/
def State.readHeld (s : State) : Bool :=
  match s.cfg.prog with
  | none => false
  | some p => overlap s.ptAddr s.ptLen (p.addr / s.pageSize * s.pageSize) s.pageSize

/-- A log entry is owed that can be written: none in a start without a valid image (R404). -/
def State.logDue (s : State) : Bool := !s.cfg.logs.isEmpty && s.boot.hdr.isSome

/-- The master is taken: an operation is in progress, or a log write comes first (R402). -/
def State.masterBusy (s : State) : Bool := s.cfg.prog.isSome || s.logDue

/-- The pass-through runs the command in CFG_PT_CMD, or waits for the master (R402). Reads are served during a page program (R396). -/
def State.ptRun (s : State) : State :=
  let t := s.put Reg.CFG_PT_CMD_BUSY 1
  match s.get Reg.CFG_PT_CMD_OP with
  | 0 => if s.readHeld then t else (t.fillPtBuf (s.memBytes s.ptAddr s.ptLen)).ptDone 0
  | 1 =>
    if s.masterBusy then t
    else if s.ptRefusal ≠ 0 then (t.put Reg.CFG_STATUS_BP s.cfg.dev.bp).ptDone s.ptRefusal
    else t.programPage s.ptAddr (s.ptBuf s.ptLen) 1
  | 2 => if s.masterBusy then t else (t.drawn.fillPtBuf [s.statusByte]).ptDone 0
  | _ => t.ptDone 5

/-- GO is written with an OP: in service and recovery states, and ignored while BUSY (R405, Table 15-4). -/
def State.ptGo (s : State) (op : Nat) : State :=
  if (s.mode ≠ .service ∧ s.mode ≠ .recovery) ∨ s.flag Reg.CFG_PT_CMD_BUSY = true then s
  else (s.touchIdle.put Reg.CFG_PT_CMD_OP op).ptRun

/-- PT_READ: a pass-through read moves bytes from the memory into CFG_PT_BUF (R405). -/
def execPtRead (s : State) : Host.Outcome State Fault Refusal := .next (s.ptGo 0)

/-- PT_WRITE: a pass-through write programs bytes, or is refused (R406). -/
def execPtWrite (s : State) : Host.Outcome State Fault Refusal := .next (s.ptGo 1)

/-- PT_STATUS: pass-through OP 2 returns the memory status register (R405). -/
def execPtStatus (s : State) : Host.Outcome State Fault Refusal := .next (s.ptGo 2)

/-- PT_INVALID: pass-through OP 3 issues nothing and completes with RESULT 5 (R405). -/
def execPtInvalid (s : State) : Host.Outcome State Fault Refusal := .next (s.ptGo 3)

/-! ## The log (R403, R404) -/

/-- Address of a log slot. -/
def State.slotAddr (s : State) (h : ImageHdr) (i : Nat) : Nat := h.logBase + 2 * s.pageSize + 32 * i

/-- A log entry (R403). -/
def logEntry (count type tick : Nat) (data : BitVec 96) : List Byte :=
  let b := leBytes 4 count ++ leBytes 1 type ++ leBytes 3 0 ++ leBytes 6 tick ++ leBytes 2 0 ++ leBytes 12 data.toNat
  b ++ leBytes 4 (crc32 b)

/-- An entry already written whose head record was not: NEXT and COUNT move past it (R404). -/
def State.skipWritten (s : State) (h : ImageHdr) : State :=
  let b := s.memBytes (s.slotAddr h (s.get Reg.CFG_LOG_NEXT)) 32
  if crc32 (b.take 28) = leAt b 28 4 ∧ leAt b 0 4 = s.get Reg.CFG_LOG_COUNT then s.put Reg.CFG_LOG_NEXT ((s.get Reg.CFG_LOG_NEXT + 1) % s.logSlots h) |>.put
    Reg.CFG_LOG_COUNT (s.get Reg.CFG_LOG_COUNT + 1)
  else s

/-- The head record after an entry: SEQ one more, in the older copy (R403, R404). -/
def State.writeHead (s : State) (h : ImageHdr) : State :=
  let seq := match (s.logHead h).1 with | some r => (r.1 + 1) % 2 ^ 32 | none => 1
  let next := (s.get Reg.CFG_LOG_NEXT + 1) % max (s.logSlots h) 1
  let t := (s.put Reg.CFG_LOG_NEXT next).put Reg.CFG_LOG_COUNT (s.get Reg.CFG_LOG_COUNT + 1)
  let b := leBytes 4 seq ++ leBytes 4 next ++ leBytes 4 (t.get Reg.CFG_LOG_COUNT)
  let a := if s.cfg.headB then h.logBase else h.logBase + s.pageSize
  if s.isProtected a 16 then t.bump Reg.CFG_CNT_PROTECTED_COUNT
  else (t.setCfg { t.cfg with headB := !s.cfg.headB }).programPage a (b ++ leBytes 4 (crc32 b)) 3

/-- The master is free: a pass-through command that waits runs (R402). -/
def State.masterFree (s : State) : State := if s.flag Reg.CFG_PT_CMD_BUSY then s.ptRun else s

/-- LOG_WRITE (R403, R404): the page program of the oldest entry that is owed starts, its head record to follow. None without a valid
image, or while the master is busy; a protected entry is withheld (R398). -/
def doLogWrite (s : State) : State :=
  match s.boot.hdr, s.cfg.logs with
  | some h, e :: rest =>
    if s.cfg.prog.isSome ∨ s.mode = .dormant then s
    else
      let t := (s.setCfg { s.cfg with logs := rest }).skipWritten h
      let a := t.slotAddr h (t.get Reg.CFG_LOG_NEXT)
      if t.isProtected a 32 then ((t.put Reg.CFG_STATUS_BP s.cfg.dev.bp).bump Reg.CFG_CNT_PROTECTED_COUNT).masterFree
      else t.programPage a (logEntry (t.get Reg.CFG_LOG_COUNT) e.type e.tick (BitVec.ofNat 96 e.data)) 0
  | _, _ => s

/-- LOG_WRITE: a log entry is written, then the older head copy (R404). -/
def execLogWrite (s : State) : Host.Outcome State Fault Refusal := .next (doLogWrite s)

/-- PAGE_PROGRAM_DONE (R396): the bytes are in the memory, and the master goes on. -/
def doPageProgramDone (s : State) : State :=
  match s.cfg.prog with
  | none => s
  | some p =>
    let t := s.memPut p.addr p.bytes
    let u := t.setCfg { t.cfg with prog := none }
    if p.who = 1 then u.ptDone 0
    else if p.who = 0 then
      match u.boot.hdr with
      | some h => let v := u.writeHead h; if v.cfg.prog.isSome then v else v.masterFree
      | none => u.masterFree
    else u.masterFree

/-- PAGE_PROGRAM_DONE: a status poll finds busy clear after a page program (R396). -/
def execPageProgramDone (s : State) : Host.Outcome State Fault Refusal := .next (doPageProgramDone s)

/-- Bytes a failed program leaves: not stated. -/
def State.scrambled : Nat → State → Nat → State
  | 0, s, _ => s
  | n + 1, s, a => State.scrambled n (s.drawn.memPut a [BitVec.ofNat 8 s.peek]) (a + 1)

/-- SPI_WRITE_TIMEOUT (R396): busy stays set and the write fails. -/
def doSpiWriteTimeout (s : State) : State :=
  match s.cfg.prog with
  | none => s
  | some p =>
    let t := State.scrambled p.bytes.length s p.addr
    let u := (t.setCfg { t.cfg with prog := none }).setRaise Reg.CFG_STATUS_WRITE_TO Ev.CFG_WRITE_TIMEOUT
    if p.who = 1 then u.ptDone 3 else u.masterFree

/-- SPI_WRITE_TIMEOUT: busy stays set 10 ms after a page program and the write fails (R396). -/
def execSpiWriteTimeout (s : State) : Host.Outcome State Fault Refusal := .next (doSpiWriteTimeout s)

/-! ## Care (R399 to R402) -/

/-- A corrected group is written back, unless it is protected (R398, R401). -/
def State.rewrite (s : State) (a : Nat) (l : List Byte) : State :=
  if s.isProtected a l.length then s.bump Reg.CFG_CNT_PROTECTED_COUNT
  else ((s.memPut a l).emit (.pageProgram a l)).bump Reg.CFG_CNT_CORR_COUNT

/-- Care of group j of data with its check bytes; the address of the first group that is doubly wrong. -/
def State.careGroup (data check : Nat) (x : State × Option Nat) (j : Nat) : State × Option Nat :=
  let d := leBytes 8 (BitVec.ofNat 64 (leNat (x.1.memBytes (data + 8 * j) 8))).toNat
  match x.1.groupAt data check j with
  | .right _ => x
  | .fixed w c => (if leBytes 8 w.toNat = d then x.1.rewrite (check + j) [c] else x.1.rewrite (data + 8 * j) (leBytes 8 w.toNat), x.2)
  | .double _ => (x.1.bump Reg.CFG_CNT_UNCORR_COUNT, some (x.2.getD (data + 8 * j)))

/-- DATA of a type 7 entry about the group at an address: the copy in byte 0, the group's number in the copy from byte 4 on. -/
def State.copyGroup (s : State) (a : Nat) : Nat :=
  let c := if s.copyBase 1 ≤ a then 1 else 0
  c + 2 ^ 32 * ((a - s.copyBase c) / 8)

/-- Care of a copy with a valid header (R399, R401). -/
def State.careCopy (s : State) (c : Nat) : State :=
  match s.header c with
  | none => s
  | some h =>
    let b := s.copyBase c
    if s.magicAt b ≠ 0x594C4E53 then s
    else
      let x := (List.range 28).foldl (State.careGroup b (b + 224)) (s, none)
      let y := (List.range (h.length / 8)).foldl (State.careGroup (b + 256) (b + 256 + h.length)) x
      match y.2 with
      | none => y.1
      | some a => (y.1.setRaise (if c = 0 then Reg.CFG_STATUS_DAMAGED_A else Reg.CFG_STATUS_DAMAGED_B) Ev.CFG_COPY_DAMAGED).oweLog 7
          (y.1.copyGroup a)

/-- A page whose margin read differs lies in a copy that the pass reads. -/
def State.carePage (s : State) (p : Nat) : Bool :=
  [0, 1].any fun c => match s.header c with
    | some h => s.magicAt (s.copyBase c) == 0x594C4E53 && overlap (p * s.pageSize) s.pageSize (s.copyBase c) h.extent
    | none => false

/-- CARE_PASS (R399 to R401): pages whose margin read differs are refreshed where the memory can, and every group is decoded. -/
def doCarePass (diff : List Nat) (s : State) : State :=
  if (s.mode ≠ .service ∧ s.mode ≠ .recovery) ∨ s.cfg.prog.isSome ∨ s.cfg.dev.present = false then s
  else
    let pages := if s.flag Reg.CFG_STATUS_REFRESH then diff.filter s.carePage else []
    let t := pages.foldl (fun x p => ((x.bump Reg.CFG_CNT_REFRESH_COUNT).emit (.pageRefresh p)).oweLog 7 (x.copyGroup (p * x.pageSize))) (s.put Reg.CFG_STATUS_BP s.cfg.dev.bp)
    (t.careCopy 0).careCopy 1

/-- CARE_PASS: the periodic care pass margin-reads, refreshes and corrects the image copies (R399). -/
def execCarePass (marginDiff : List Nat) (s : State) : Host.Outcome State Fault Refusal := .next (doCarePass marginDiff s)

end Sys2Proof.Machine
end

