-- ==== Sys2Proof/Machine/Host.lean ====
section
/-! DEFINITION. The host interface (16_host_events.md): command rings and their dispatch, capture and event queues as the host
reads them, notices, hold-offs, function-level resets, the PCIe link. -/

namespace Sys2Proof.Machine

/-- Change the host side. -/
def State.setHost (s : State) (h : HostIf) : State := { s with host := h }

/-! ## Rings (R419 to R423) -/

/-- Commands of a function that wait in its ring. -/
def State.fetchedOf (s : State) (f : Nat) : List (Nat × CmdSlot) := fgetD s.host.fetched f []

/-- Set them. -/
def State.setFetched (s : State) (f : Nat) (l : List (Nat × CmdSlot)) : State := s.setHost { s.host with fetched := fset s.host.fetched f [] l }

/-- Entries of a function's command ring (R419). -/
def State.ringSize (s : State) (f : Nat) : Nat := 2 ^ s.get Reg.QUE_CMD_CTRL_LOG2SIZE f

/-- The slots posted since HEAD are fetched: HEAD advances past each (R420). -/
def State.fetchSlots (s : State) (f : Nat) : List CmdSlot → State
  | [] => s
  | c :: rest =>
    let h := s.get Reg.QUE_CMD_HEAD_HEAD f
    let t := s.setFetched f (s.fetchedOf f ++ [(h, c)])
    (t.put Reg.QUE_CMD_HEAD_HEAD ((h + 1) % s.ringSize f) f).fetchSlots f rest

/-- The command in the 64 bytes of a ring slot (Table 16-4, R4). -/
def slotOf (b : List Byte) : CmdSlot :=
  let w := BitVec.ofNat 64 (leAt b 0 8)
  { opcode := BitVec.ofNat 8 (bits w 7 0), cid := BitVec.ofNat 16 (bits w 31 16), p0 := BitVec.ofNat 64 (leAt b 8 8),
    p1 := BitVec.ofNat 64 (leAt b 16 8), rsvd := bits w 15 8 != 0 || bits w 63 32 != 0 || leAt b 24 40 != 0 }

/-- CMD_TAIL_WRITE (R420): a tail of size or above is ignored; a ring that is disabled fetches nothing. -/
def doCmdTailWrite (f : Fin 16) (v : BitVec 64) (slots : List (List Byte)) (s : State) : State :=
  let tail := v.toNat % 4096
  let size := s.ringSize f
  if size ≤ tail then s.put Reg.QUE_STATUS_TAIL_ERR 1 f
  else
    let t := s.put Reg.QUE_CMD_TAIL_TAIL tail f
    if s.flag Reg.QUE_CMD_CTRL_EN f then t.fetchSlots f ((slots.map slotOf).take ((tail + size - s.get Reg.QUE_CMD_HEAD_HEAD f) % size)) else t

/-- CMD_TAIL_WRITE: a QUE_CMD_TAIL write posts slots, or sets TAIL_ERR (R420). -/
def execCmdTailWrite (f : Fin 16) (v : BitVec 64) (slots : List (List Byte)) (s : State) : Host.Outcome State Fault Refusal :=
  .next (s.onService (doCmdTailWrite f v slots))

/-- QUE_EN_WRITE (R419): from 0 to 1 sets HEAD and TAIL to 0. -/
def doQueEnWrite (f : Fin 16) (cpl en : Bool) (s : State) : State :=
  if cpl then
    let t := s.putB Reg.QUE_CPL_CTRL_EN en f
    if en = true ∧ s.flag Reg.QUE_CPL_CTRL_EN f = false then (t.put Reg.QUE_CPL_HEAD_HEAD 0 f).put Reg.QUE_CPL_TAIL_TAIL 0 f else t
  else
    let t := s.putB Reg.QUE_CMD_CTRL_EN en f
    if en = true ∧ s.flag Reg.QUE_CMD_CTRL_EN f = false then (t.put Reg.QUE_CMD_HEAD_HEAD 0 f).put Reg.QUE_CMD_TAIL_TAIL 0 f else t

/-- QUE_EN_WRITE: an EN 0 to 1 write sets HEAD and TAIL to 0 (R419). -/
def execQueEnWrite (f : Fin 16) (cpl en : Bool) (s : State) : Host.Outcome State Fault Refusal := .next (s.onService (doQueEnWrite f cpl en))

/-- The functions in the order in which the engine serves them next (R421). -/
def State.serveOrder (s : State) : List Nat := (List.range 16).map fun i => (s.host.lastFunc + 1 + i) % 16

/-- QUE_STATUS.CPL_FULL and EV_CPLQ_FULL of functions with posted commands whose gate is shut (R423). -/
def State.showGates (s : State) : State :=
  (List.range 16).foldl (fun x f =>
    let shut : Bool := !(x.fetchedOf f).isEmpty && !x.gateOpen f
    let y := x.putB Reg.QUE_STATUS_CPL_FULL shut f
    if shut then y.raiseEp Ev.CPLQ_FULL f else y) s

/-- The opcodes of Table 16-6. -/
def opcodes : List Nat := (List.range 12) ++ [0x10, 0x11, 0x18, 0x19, 0x1A, 0x1B, 0x20, 0x21, 0x22, 0x28, 0x29]

/-- The function the engine serves next, with its oldest command (R421, R423). -/
def State.nextCmd (s : State) : Option (Nat × (Nat × CmdSlot) × List (Nat × CmdSlot)) :=
  s.serveOrder.findSome? fun f => if s.gateOpen f then (match s.fetchedOf f with
    | c :: rest => some (f, c, rest)
    | [] => none) else none

/-- COMMAND_DISPATCH (R421): the free engine takes a command; one with a reserved bit or an unlisted opcode completes with
INVALID_FIELD. -/
def doCommandDispatch (s : State) : State :=
  if s.mode ≠ .service ∨ s.host.engine.isSome = true then s
  else
    let t := s.showGates
    match t.nextCmd with
    | none => t
    | some (f, c, rest) =>
      let e : Cmd := { func := f, idx := c.1, slot := c.2 }
      let u := (t.setFetched f rest).touchIdle
      let v := u.setHost { u.host with engine := some e, lastFunc := f }
      if c.2.rsvd || !opcodes.contains c.2.opcode.toNat then v.finish e Sts.INVALID_FIELD else v

/-- COMMAND_DISPATCH: the engine takes the next command among functions whose gate is open, and the gate may be found shut
(R421). -/
def execCommandDispatch (s : State) : Host.Outcome State Fault Refusal := .next (doCommandDispatch s)

/-- NOP completes at the first boundary after execution (Table 16-6). -/
def coreNop (s : State) (_own : Option (Nat × Nat × Nat)) (_f : Nat) (_c : CmdSlot) (_d : Dma) : Ran := { s := s }

/-- NOP: command NOP completes at the first boundary after execution (R424). -/
def execNop (s : State) : Host.Outcome State Fault Refusal := .next (s.runOp 0x00 {} coreNop)

/-! ## POP reads (R417, R430, R436) -/

/-- Function f reads the POP register of capture queue q: the PF, or the VF that owns the queue (R439). -/
def State.capReader (s : State) (f q : Nat) : Bool := f == 0 || (f == s.get Reg.QUE_CAP_CTRL_FUNC q && decide (f ≤ s.numVf))

/-- CAP_POP (R417, R430): a 64-bit read returns the oldest word and removes it; the notice is armed again. -/
def doCapPop (f : Fin 16) (q : Fin 8) (size : Nat) (s : State) : State :=
  if size ≠ 8 ∨ s.capReader f q = false then s.emit (.popped f 0)
  else
    let l := fgetD s.host.capq q []
    let t := s.setIdle q { from_ := s.clock, armed := true }
    match l with
    | [] => t.emit (.popped f 0)
    | w :: rest => (t.setHost { t.host with capq := fset t.host.capq q [] rest }).emit (.popped f w)

/-- CAP_POP: a 64-bit POP read returns and removes the oldest capture word (R430). -/
def execCapPop (f : Fin 16) (q : Fin 8) (size : Nat) (s : State) : Host.Outcome State Fault Refusal := .next (s.onService (doCapPop f q size))

/-- EVQ_POP (R436): only in block 0. -/
def doEvqPop (f : Fin 16) (size : Nat) (s : State) : State :=
  if size ≠ 8 ∨ f ≠ 0 then s.emit (.popped f 0)
  else
    let t := s.setIdle 8 { from_ := s.clock, armed := true }
    match s.host.evq with
    | [] => t.emit (.popped 0 0)
    | w :: rest => (t.setHost { t.host with evq := rest }).emit (.popped 0 w)

/-- EVQ_POP: a 64-bit POP read returns and removes the oldest event record (R436). -/
def execEvqPop (f : Fin 16) (size : Nat) (s : State) : Host.Outcome State Fault Refusal := .next (s.onService (doEvqPop f size))

/-! ## Idle notices and hold-offs (R431, R434) -/

/-- IDLE_US of a queue: 0 to 7 the capture queues, 8 the event queue. -/
def State.idleUs (s : State) (q : Nat) : Nat := if q = 8 then s.get Reg.QUE_EVQ_CTRL_IDLE_US else s.get Reg.QUE_CAP_CTRL_IDLE_US q

/-- The queue holds a word. -/
def State.queueHolds (s : State) (q : Nat) : Bool := if q = 8 then !s.host.evq.isEmpty else !(fgetD s.host.capq q []).isEmpty

/-- An armed queue that holds a word and whose idle time reaches IDLE_US gives its notice once (R431). -/
def State.idleNotice (s : State) (q : Nat) : State :=
  if (s.idle q).armed = true ∧ s.queueHolds q = true ∧ s.idleUs q ≠ 0 ∧ s.idleUs q * cyclesPerUs ≤ s.clock - (s.idle q).from_ then
    (s.setIdle q { s.idle q with armed := false }).raise (if q = 8 then Ev.EVQ_IDLE else Ev.CAPQ_IDLE q)
  else s

/-- CAPQ_IDLE_EXPIRY: an armed non-empty capture queue has been idle for IDLE_US (R431). -/
def execCapqIdleExpiry (q : Fin 8) (s : State) : Host.Outcome State Fault Refusal := .next (if s.mode = .service then s.idleNotice q else s)

/-- EVQ_IDLE_EXPIRY: an armed non-empty event queue has been idle for IDLE_US (R431). -/
def execEvqIdleExpiry (s : State) : Host.Outcome State Fault Refusal := .next (if s.mode = .service then s.idleNotice 8 else s)

/-- IDLE_US_WRITE (R431): the new value holds at once. -/
def doIdleUsWrite (q : Option (Fin 8)) (v : BitVec 16) (s : State) : State :=
  match q with
  | some q => (s.put Reg.QUE_CAP_CTRL_IDLE_US v.toNat q).idleNotice q
  | none => (s.put Reg.QUE_EVQ_CTRL_IDLE_US v.toNat).idleNotice 8

/-- IDLE_US_WRITE: a write to IDLE_US takes effect at once and may raise the idle notice (R431). -/
def execIdleUsWrite (q : Option (Fin 8)) (v : BitVec 16) (s : State) : Host.Outcome State Fault Refusal :=
  .next (s.onService (doIdleUsWrite q v))

/-- HOLDOFF_EXPIRY (R434): the raises held are sent as one message, after which a new hold-off runs. -/
def doHoldoffExpiry (v : Fin 64) (s : State) : State :=
  match fget s.host.hold v with
  | none => s
  | some (endAt, held) =>
    if s.clock < endAt then s
    else
      let t := s.setHost { s.host with hold := fdel s.host.hold v }
      if held then t.msixPf v else t

/-- HOLDOFF_EXPIRY: a vector hold-off ends, and held raises are sent as one message (R434). -/
def execHoldoffExpiry (v : Fin 64) (s : State) : Host.Outcome State Fault Refusal := .next (doHoldoffExpiry v s)

/-- A host clear of PEND, which also clears COUNT (R433, Table 16-12). -/
def State.clearPend (s : State) (n : Nat) : State := (s.put Reg.EVT_SRC_PEND 0 n).put Reg.EVT_SRC_COUNT 0 n

/-- EVT_PEND_CLEAR: a host write clears PEND and COUNT of an event source (R433). -/
def execEvtPendClear (n : BitVec 10) (s : State) : Host.Outcome State Fault Refusal := .next (s.onService fun x => x.clearPend n.toNat)

/-! ## Resets of the endpoint (R411, R412, R438) -/

/-- A completion owed to function f is lost. -/
def Owed.mute (f : Nat) (o : Owed) : Owed := if o.func = f then { o with silent := true } else o

/-- A command of function f that is executing gets no completion (R411). -/
def State.muteFunc (s : State) (f : Nat) : State :=
  let own : Bool := match s.host.engine with
    | some c => c.func == f
    | none => false
  s.setHost { s.host with muted := s.host.muted || own, owed := s.host.owed.map (Owed.mute f) }

/-- The pointers and enables of a function's rings (R411). -/
def State.clearRings (s : State) (f : Nat) : State :=
  [Reg.QUE_CMD_CTRL_EN, Reg.QUE_CPL_CTRL_EN, Reg.QUE_CMD_HEAD_HEAD, Reg.QUE_CMD_TAIL_TAIL, Reg.QUE_CPL_HEAD_HEAD,
    Reg.QUE_CPL_TAIL_TAIL].foldl (fun x F => x.put F 0 f) s

/-- The capture queues of a function are emptied, and for the PF the event queue (R411). -/
def State.clearQueues (s : State) (f : Nat) : State :=
  let t := (List.range 8).foldl (fun x q => if s.get Reg.QUE_CAP_CTRL_FUNC q = f then x.setHost { x.host with capq := fdel x.host.capq q } else x) s
  if f = 0 then t.setHost { t.host with evq := [], evqLost := false } else t

/-- A function-level reset of one function (R411). -/
def State.flrOne (s : State) (f : Nat) : State :=
  let r := s.setPci f (s.pci f).flr
  let t := (((r.muteFunc f).setFetched f []).clearRings f).clearQueues f
  let gs := t.groups.filter fun g => g.func == f && !g.fromPeer && !g.ungrouped && g.st == .open
  (gs.foldl (fun x g => x.abortGroup g (some Reg.TBL_STATUS_ABORT_FLR)) t).raise Ev.FLR

/-- FLR (R411): of the PF it acts on every VF too, which it disables. -/
def doFlr (f : Fin 16) (s : State) : State :=
  if f = 0 then
    let t := (List.range 16).foldl State.flrOne s
    t.setHost { t.host with sriov := {} }
  else s.flrOne f

/-- FLR: a function-level reset clears the function's rings, capture queues and groups (R411). -/
def execFlr (f : Fin 16) (s : State) : Host.Outcome State Fault Refusal := .next (if s.mode = .dormant then s else doFlr f s)

/-- PERST_L (R358, R412): low acts as a function-level reset of every function and returns configuration space to its PCIe reset
values; the rest of the device runs on. -/
def doPerstL (low : Bool) (s : State) : State :=
  let t : State := { s with pins := { s.pins with perstL := !low } }
  if low = true ∧ s.mode ≠ .dormant then
    let u := doFlr 0 t
    u.setHost { u.host with pci := [] }
  else t

/-- PERST_L: PERST_L acts as a function-level reset of every function (R412). -/
def execPerstL (low : Bool) (s : State) : Host.Outcome State Fault Refusal := .next (doPerstL low s)

/-- PCIE_LINK_CHANGE (R409, R438): the link goes down, or comes up at a rate and width. -/
def doPcieLinkChange (l : Option (BitVec 3 × BitVec 3)) (s : State) : State :=
  if s.pins.pcieUp = l.isSome ∨ s.mode = .dormant then s
  else
    let e := l.getD (0, 0)
    ({ s with pins := { s.pins with pcieUp := l.isSome }, host := { s.host with pcieRate := e.1.toNat, pcieLanes := e.2.toNat } } : State).raise Ev.PCIE_LINK

/-- PCIE_LINK_CHANGE: the Data Link Layer Link Active state changes (R438). -/
def execPcieLinkChange (l : Option (BitVec 3 × BitVec 3)) (s : State) : Host.Outcome State Fault Refusal := .next (doPcieLinkChange l s)

/-- AER_ERROR (R438): a bit of the function's Uncorrectable or Correctable Error Status is set; going from 0 to 1 while its mask bit is
0, it raises the event. -/
def doAerError (f : Fin 16) (unc : Bool) (bit : BitVec 5) (s : State) : State :=
  let c := s.pci f
  let b := bit.toNat
  if s.mode = .dormant ∨ (if unc then c.aerUnc else c.aerCor).testBit b = true then s
  else
    let t := s.setPci f (if unc then { c with aerUnc := c.aerUnc + 2 ^ b } else { c with aerCor := c.aerCor + 2 ^ b })
    if (if unc then c.aerUncMask else c.aerCorMask).testBit b then t else t.raiseEp Ev.PCIE_AER

/-- AER_ERROR: an unmasked AER status bit goes to 1 and raises EV_PCIE_AER once per episode (R438). -/
def execAerError (f : Fin 16) (unc : Bool) (bit : BitVec 5) (s : State) : Host.Outcome State Fault Refusal := .next (doAerError f unc bit s)

end Sys2Proof.Machine
end

