-- ==== Sys2Proof/Machine/RegWrite.lean ====
section
/-! DEFINITION. Writes to the registers that have no row of their own: which fields a BAR0 offset names, what their access codes
and field rules let a write do (R7 to R9, R46, R300, R368, R369, R414 to R419, R439), and a host's register write. -/

namespace Sys2Proof.Machine

/-! ## The fields of a register -/

/-- Index k with d = stride × k, below n. -/
def index (d stride n : Nat) : List Nat :=
  if n = 1 then (if d = 0 then [0] else []) else if d % stride = 0 ∧ d / stride < n then [d / stride] else []

/-- The instances of a field whose offset from instance (0, 0) is d bits, where both strides are whole registers. -/
def Field.indices (F : Field) (d : Nat) : List (Nat × Nat) :=
  if F.n2 = 1 then (index d F.st1 F.n1).map fun i => (i, 0)
  else if F.n1 = 1 then (index d F.st2 F.n2).map fun j => (0, j)
  else if F.st2 ≤ F.st1 then
    if d / F.st1 < F.n1 then (index (d % F.st1) F.st2 F.n2).map fun j => (d / F.st1, j) else []
  else if d / F.st2 < F.n2 then (index (d % F.st2) F.st1 F.n1).map fun i => (i, d / F.st2) else []

/-- Index 0 names no register: slot 0 is no channel (R97), and the PF's block of the protection map reads as its fixed rights
(R369). -/
def Field.fromOne (F : Field) : Bool :=
  (decide (0x40000 ≤ F.base) && decide (F.base < 0x60000) && (F.n1 == 256 || F.n2 == 256)) ||
    (decide (0x120100 ≤ F.base) && decide (F.base < 0x120200))

/-- The instances of a field in the 64-bit register at an offset that is a multiple of 8. -/
def Field.within (F : Field) (off : Nat) : List (Nat × Nat) :=
  if off < F.base then []
  else
    let d := 8 * (off - F.base)
    let all := if F.n1 ≠ 1 ∧ F.st1 < 64 then (index d F.st2 F.n2).flatMap fun j => (List.range F.n1).map fun i => (i, j)
      else F.indices d
    if F.fromOne then all.filter fun e => (if F.n2 = 256 then e.2 else e.1) != 0 else all

/-- The position of a field instance in its register. -/
def Field.pos (F : Field) (off i j : Nat) : Nat := F.key i j - 8 * off

/-- Every field instance of the register at an offset. -/
def fieldsAt (off : Nat) : List (Field × Nat × Nat) := Reg.all.flatMap fun F => (F.within off).map fun e => (F, e.1, e.2)

/-! ## One field -/

/-- The event numbers that Table 16-9 names. -/
def evNamed (n : Nat) : Bool :=
  decide (n ≤ 12) || (decide (32 ≤ n) && decide (n ≤ 95)) || (decide (97 ≤ n) && decide (n ≤ 679)) ||
    (decide (736 ≤ n) && decide (n ≤ 740)) || (decide (768 ≤ n) && decide (n ≤ 773)) || (decide (800 ≤ n) && decide (n ≤ 827)) ||
    (decide (832 ≤ n) && decide (n ≤ 836)) || (decide (864 ≤ n) && decide (n ≤ 867)) || (decide (896 ≤ n) && decide (n ≤ 914)) ||
    (decide (928 ≤ n) && decide (n ≤ 931)) || (decide (960 ≤ n) && decide (n ≤ 963))

/-- A field of an event source that a write does not reach: a reserved number (R432), FUNC of a channel slot's source (R433). -/
def evFixed (F : Field) (n : Nat) : Bool :=
  F.base == Reg.EVT_SRC_EN.base && (!evNamed n || (F == Reg.EVT_SRC_FUNC && decide (96 ≤ n) && decide (n ≤ 351)))

/-- Store a value in an RW field under its owning chapter's rule. -/
def State.store (s : State) (F : Field) (v i j : Nat) : State :=
  if F = Reg.MNT_CTRL_WD_TIMEOUT ∧ v < 500 then s.put Reg.MNT_STATUS_CFG_ERR 1
  else if F = Reg.TCK_AHEAD_AHEAD_MAX ∧ v = 0 then s.put Reg.TCK_STATUS_CFG_ERR 1
  else if F = Reg.SEAM_CTRL_ROLE ∧ v = 3 then s
  else if evFixed F i = true then s
  else if F = Reg.CHN_CTRL_STALL_LIMIT then s.setChan i { s.chan i with stallLimit := v }
  else s.put F v i j

/-- The bits under a mask replaced. -/
def mergeBits (old new mask : Nat) : Nat := (old ^^^ (old &&& mask)) ||| (new &&& mask)

/-- The present value of a field that a partial write merges with. -/
def State.present (s : State) (F : Field) (i j : Nat) : Nat := if F = Reg.CHN_CTRL_STALL_LIMIT then (s.chan i).stallLimit else s.get F i j

/-- The boot engine may still write sealed fields (R366). -/
def State.unsealed (s : State) : Bool := !s.flag Reg.BOOT_STATUS_SEALED

/-- A write reaches one field under its access code (Table 0-2). Fields with a row of their own, and fields computed from other
state, are left. A 32-bit write of 1 to bit 0 of a W1C counter wider than 32 bits clears the whole field (DESIGN CHOICE:
notes/assumptions/122.md). -/
def State.writeField (s : State) (boot : Bool) (data mask off : Nat) (e : Field × Nat × Nat) : State :=
  let F := e.1
  let p := F.pos off e.2.1 e.2.2
  let m := (mask >>> p) % 2 ^ F.width
  let d := (data >>> p) % 2 ^ F.width
  if m = 0 ∨ F.own = true ∨ (F.view = true ∧ F ≠ Reg.CHN_CTRL_STALL_LIMIT) then s
  else match F.acc with
    | .rw => s.store F (mergeBits (s.present F e.2.1 e.2.2) d m) e.2.1 e.2.2
    | .w1c => if (d &&& m) % 2 = 1 then s.put F 0 e.2.1 e.2.2 else s
    | .sl => if boot && s.unsealed then s.put F (mergeBits (s.get F e.2.1 e.2.2) d m) e.2.1 e.2.2 else s
    | _ => s

/-! ## One register -/

/-- A write that breaks the rules of R419: a ring's BASE while it is enabled, a change of LOG2SIZE while it is enabled, or a
size outside 2^6 to 2^12. -/
def State.ringRule (s : State) (data mask off : Nat) : Option Nat :=
  if off < 0x160000 ∨ 0x170000 ≤ off then none
  else
    let f := (off - 0x160000) / 4096
    let r := (off - 0x160000) % 4096
    let en := if r < 0x20 then s.flag Reg.QUE_CMD_CTRL_EN f else s.flag Reg.QUE_CPL_CTRL_EN f
    let old := if r = 0x08 then s.get Reg.QUE_CMD_CTRL_LOG2SIZE f else s.get Reg.QUE_CPL_CTRL_LOG2SIZE f
    let new := mergeBits old (data % 16) (mask % 16)
    if (r = 0x00 ∨ r = 0x20) ∧ en = true then some f
    else if (r = 0x08 ∨ r = 0x28) ∧ (new < 6 ∨ 12 < new ∨ (en = true ∧ new ≠ old)) then some f
    else none

/-- What follows a write of a link's EN bit (R68, R331, R337): 1 starts training, 0 ends it and detaches or leaves. -/
def State.linkEnable (old s : State) : State :=
  let a := old.flag Reg.SEAM_CTRL_EN
  let b := s.flag Reg.SEAM_CTRL_EN
  let t := if a == b then s else if b then (if s.mode = .service then s.startTraining .seam else s)
    else (s.detachSoon 5).toState .seam .disabled
  let c := old.flag Reg.CSC_CTRL_EN
  let d := t.flag Reg.CSC_CTRL_EN
  if c == d then t else if d then (if s.mode = .service then (t.startTraining .up).startTraining .down else t)
  else (t.toState .up .disabled).toState .down .disabled

/-- A write reaches a register: the rules of the whole register first, then each field. -/
def State.writeReg (s : State) (boot : Bool) (data mask off : Nat) : State :=
  match s.ringRule data mask off with
  | some f => s.put Reg.QUE_STATUS_CFG_ERR 1 f
  | none => s.linkEnable ((fieldsAt off).foldl (fun x e => x.writeField boot data mask off e) s)

/-- The register holds a sealed field that the write touches (R8). -/
def touchesSealed (mask off : Nat) : Bool :=
  (fieldsAt off).any fun e => e.1.acc == .sl && (mask >>> e.1.pos off e.2.1 e.2.2) % 2 ^ e.1.width != 0

/-! ## The host's write -/

/-- A 64-bit write, or a naturally aligned 32-bit one that changes its half (R416): data and mask in the register. -/
def busWord (off size : Nat) (v : BitVec 64) : Nat × Nat :=
  if size = 8 then (v.toNat, 2 ^ 64 - 1)
  else if off % 8 = 4 then (v.toNat % 2 ^ 32 * 2 ^ 32, (2 ^ 32 - 1) * 2 ^ 32)
  else (v.toNat % 2 ^ 32, 2 ^ 32 - 1)

/-- The register region is reachable in the state the device is in (R364, R373). -/
def State.reachable (s : State) (off : Nat) : Bool :=
  let glb : Bool := decide (off < 0x10000)
  let boot : Bool := decide (0x120000 ≤ off) && decide (off < 0x130000)
  match s.mode with
  | .service => true
  | .startUp => glb || boot
  | .recovery => glb || boot || (decide (0x140000 ≤ off) && decide (off < 0x150000)) || off / 8 == 0xC0008 / 8 || off / 8 == 0xC0050 / 8
  | .dormant => false

/-- The PF offset that a VF's window shows at an offset for writing (Table 16-2, R439): its own QUE block, the drop counters of
capture queues it owns, the CHN registers of its slots. -/
def State.vfTarget (s : State) (f off : Nat) : Option Nat :=
  if 0x1000 ≤ off ∧ off < 0x2000 then
    let r := off - 0x1000
    if r < 0x100 then some (0x160000 + 0x1000 * f + r)
    else if 0x800 ≤ r ∧ r < 0xA00 ∧ r % 0x40 / 8 = 3 ∧ s.get Reg.QUE_CAP_CTRL_FUNC ((r - 0x800) / 0x40) = f then some (0x160000 + r)
    else none
  else if 0x20000 ≤ off ∧ off < 0x40000 then
    let slot := (off - 0x20000) % 0x10000 / 0x100
    if slot ≠ 0 ∧ s.slotRange f slot = true then some (0x20000 + off) else none
  else none

/-- What follows a write of TCK_CTRL.ADMIT_EN in service state: 1 opens admission where no cause closes it, and the cause that does is
shown; 0 acts at the next boundary (R61, Table 2-1). -/
def State.admitWrite (old s : State) : State :=
  if s.mode ≠ .service ∨ old.flag Reg.TCK_CTRL_ADMIT_EN = s.flag Reg.TCK_CTRL_ADMIT_EN ∨ s.tick.open_ = true then s
  else if s.blockCause = 0 ∧ s.dorm.phase ≠ .entering then s.openAdmission else s.reblock

/-- Messages that waited for their vectors to be unmasked are sent (PCIe 5.0, R434). -/
def State.sendPending (s : State) (f : Nat) : State :=
  (List.range (msixCount f)).foldl (fun x v =>
    if (x.pci f).pba.testBit v && x.msixOn f && !x.msixMasked f v then (x.setPba f v false).msixTo f v else x) s

/-- A write to word i of function f's MSI-X table. -/
def State.msixWrite (s : State) (f i off size : Nat) (v : BitVec 64) : State :=
  let c := s.pci f
  let w := busWord off size v
  (s.setPci f (c.setTableWord i (mergeBits (c.tableWord i) w.1 w.2))).sendPending f

/-- A write to a register of function f's configuration space (R409 to R412): NumVFs is fixed while VF Enable is 1, a VF Enable that is
cleared acts as a function-level reset of every VF, and a power state other than D0 and D3hot changes nothing
(notes/assumptions/114.md). -/
def State.configWrite (s : State) (f : Nat) (r : CfgReg) (v : Nat) : State :=
  let c := s.pci f
  match r with
  | .command => s.setPci f { c with command := v &&& (if f = 0 then 0x146 else 0x4) }
  | .powerState => if v % 4 = 0 then s.setPci f { c with d3 := false } else if v % 4 = 3 then s.setPci f { c with d3 := true } else s
  | .msixControl => (s.setPci f { c with msixEn := v.testBit 15, msixMask := v.testBit 14 }).sendPending f
  | .aerUncStatus => s.setPci f { c with aerUnc := c.aerUnc ^^^ (c.aerUnc &&& v) }
  | .aerUncMask => s.setPci f { c with aerUncMask := v % 2 ^ 32 }
  | .aerCorStatus => s.setPci f { c with aerCor := c.aerCor ^^^ (c.aerCor &&& v) }
  | .aerCorMask => s.setPci f { c with aerCorMask := v % 2 ^ 32 }
  | .sriovControl =>
    if f ≠ 0 then s
    else
      let o := s.host.sriov
      let t := if o.en = true ∧ v.testBit 0 = false then (List.range 15).foldl (fun x i => x.flrOne (i + 1)) s else s
      t.setHost { t.host with sriov := { o with en := v.testBit 0, mse := v.testBit 3, ari := v.testBit 4 } }
  | .numVfs => if f ≠ 0 ∨ s.host.sriov.en = true then s else s.setHost { s.host with sriov := { s.host.sriov with num := min (v % 2 ^ 16) 15 } }
  | .vendorId | .deviceId | .maxPayload | .linkCap | .linkStatus | .totalVfs | .firstVfOffset | .vfStride => s

/-- A host write to a register of the PF's BAR0. -/
def State.pfWrite (s : State) (off size : Nat) (v : BitVec 64) : State :=
  if s.reachable off = false then s
  else if let some i := msixIndex 0 off then s.msixWrite 0 i off size v
  else
    let w := busWord off size v
    let r := off / 8 * 8
    let t := s.admitWrite (s.writeReg false w.1 w.2 r)
    if s.unsealed = false ∧ touchesSealed w.2 r = true then t.raise Ev.SEAL_VIOLATION else t

/-- A write to function f's BAR0 (R414 to R417): the access restarts the idle timer; a size other than 4 or 8 is ignored and sets
SIZE_ERR; a VF writes through its window in service state only. -/
def State.barWrite (s : State) (f : Fin 16) (off : BitVec 26) (size : Nat) (v : BitVec 64) : State :=
  let t := if s.mode = .service then s.touchIdle else s
  if (size ≠ 8 ∧ size ≠ 4) ∨ off.toNat % size ≠ 0 then (if s.mode = .service then t.put Reg.QUE_STATUS_SIZE_ERR 1 f else s)
  else if f = 0 then t.pfWrite off.toNat size v
  else if s.mode = .service then
    match msixIndex f off.toNat, t.vfTarget f off.toNat with
    | some i, _ => t.msixWrite f i off.toNat size v
    | none, some o =>
      let w := busWord o size v
      t.writeReg false w.1 w.2 (o / 8 * 8)
    | none, none => t
  else t

/-- REGISTER_WRITE of function f: to its BAR0 where that is open, or to its configuration space. -/
def doRegisterWrite (f : Fin 16) (a : BusAddr) (size : Nat) (v : BitVec 64) (s : State) : State :=
  match a with
  | .bar off => if s.barOpen f then s.barWrite f off size v else s
  | .config r => if s.mode ≠ .dormant ∧ s.fnPresent f = true then s.configWrite f r v.toNat else s

/-- REGISTER_WRITE: a write to a register without its own row acts under its access code and field rules (R7). -/
def execRegisterWrite (f : Fin 16) (a : BusAddr) (size : Nat) (v : BitVec 64) (s : State) : Host.Outcome State Fault Refusal :=
  .next (doRegisterWrite f a size v s)

end Sys2Proof.Machine
end

