-- ==== Sys2Proof/Machine/View.lean ====
section
/-! DEFINITION. What a register read returns: the fields computed from other state (those whose `view` is true), the site and
tally windows, and the windows of virtual functions (R416, R417, R95, R124, R164, R207, R245, R267, R287, R306, R334, R354,
R375, R387, R415, R418, R439, R440, R270, R203). A read has no row: it changes nothing. -/

namespace Sys2Proof.Machine

/-- LSTATE (Table 3-1). -/
def LState.code : LState → Nat
  | .disabled => 0
  | .seek => 1
  | .lock => 2
  | .align => 3
  | .hello => 4
  | .up => 5
  | .selftest => 6

/-- One for true. -/
def one (b : Bool) : Nat := if b then 1 else 0

/-! ## Region by region -/

/-- PRT (Table 3-6): QMODE is parity only in service state outside self-test (R85, C19). -/
def State.viewPrt (s : State) (F : Field) (p : Nat) : Option Nat :=
  let q := s.port p
  if F = Reg.PRT_STATUS_LSTATE then some q.link.st.code
  else if F = Reg.PRT_STATUS_QMODE then some (one (s.mode != .service || q.link.st == .selftest))
  else if F = Reg.PRT_QUEUE_FILL then some q.fill
  else if F = Reg.PRT_QUEUE_WAITING then some q.queue.length
  else none

/-- The state code of a slot (Table 4-6): a channel that is being created is not yet live, and one being destroyed fences at the next
boundary (R103). -/
def Chan.code (c : Chan) : Nat :=
  match c.st with
  | .free | .creating => 0
  | .live | .destroying => 1
  | .fencing => 2

/-- CHN (Table 4-6). Between the execution of CHN_CREATE and its boundary the slot's descriptor registers, QUOTA and QSUM already show the
new channel (DESIGN CHOICE, notes/assumptions/116.md). -/
def State.viewChn (s : State) (F : Field) (i j : Nat) : Option Nat :=
  let c := s.chan i
  if F = Reg.CHN_LIVE_COUNT then some (s.chans.filter fun e => e.2.code != 0).length
  else if F = Reg.CHN_QSUM_LO_SUM then some (s.qfSum i)
  else if F = Reg.CHN_QSUM_HI_SUM then some (s.qfSum (4 + i))
  else if F = Reg.CHN_QUOTA_LO_QF then some ((s.chan j).qf.getD i 0)
  else if F = Reg.CHN_QUOTA_HI_QF then some ((s.chan j).qf.getD (4 + i) 0)
  else if F = Reg.CHN_CTRL_STALL_LIMIT then some c.stallLimit
  else if F = Reg.CHN_HANDLE_HANDLE then some (if c.code = 0 then 0 else i + 256 * c.gen)
  else if F = Reg.CHN_HANDLE_STATE then some c.code
  else if F = Reg.CHN_HANDLE_OWNER then some c.owner
  else if F = Reg.CHN_HANDLE_STANDING then some (one c.standing)
  else if F = Reg.CHN_STATUS_WAIT_AGE then some (min (s.waitAge i) (2 ^ 32 - 1))
  else if F = Reg.CHN_LOOKUP_DESC then some (c.lookups.getD j 0).toNat
  else if F = Reg.CHN_EGRESS_EGRESS then some c.egress.toNat
  else if F = Reg.CHN_CTRL_NSEG then some c.segs.length
  else if F = Reg.CHN_SEG_SEGMENT then some (c.segs.getD j 0).toNat
  else none

/-- The state code of a drawer (Table 5-9). -/
def DrawerSt.code : DrawerSt → Nat
  | .free => 0
  | .assigned => 1
  | .spare => 2
  | .retired => 3
  | .selftest => 4

/-- Drawers of gallery g with a property. -/
def State.countDrawers (s : State) (g : Nat) (p : Nat → Drawer → Bool) : Nat :=
  ((List.range 544).filter fun x => p x (s.drawer g x)).length

/-- The SRAM rows in use among those that a test selects: a row of two 80-bit entries counts once, a 640-bit entry four times (R136, C11). -/
def State.sramUsed (s : State) (p : Row → Bool) : Nat := (((s.rows.filter p).flatMap s.physOf).eraseDups).length

/-- GAL (Table 5-9). -/
def State.viewGal (s : State) (F : Field) (i j : Nat) : Option Nat :=
  if F = Reg.GAL_STATUS_SPARE_EXHAUSTED then some (one (s.noSpares i))
  else if F = Reg.GAL_DRAWERS_FREE then some (s.countDrawers i fun _ k => k.st == .free)
  else if F = Reg.GAL_DRAWERS_BROAD then some (s.countDrawers i fun x _ => s.broad.any fun b => b.g == i && b.unit == x &&
    !((s.table b.tbl).any Table.transient))
  else if F = Reg.GAL_DRAWERS_RETIRED then some (s.countDrawers i fun _ k => k.st == .retired)
  else if F = Reg.GAL_DRAWERS_SPARES then some ((List.range 32).filter fun c => (s.cab (32 * i + c)).spare != 31).length
  else if F = Reg.GAL_CATALOGUE_CODES_USED then some (s.codesUsed i)
  else if F = Reg.GAL_CATALOGUE_BAYS then some (s.bays.filter fun b => b.g == i).length
  else if F = Reg.GAL_DRAWER_TABLE then some (s.drawer j i).tbl
  else if F = Reg.GAL_DRAWER_BROAD then some (one (s.drawer j i).broad)
  else if F = Reg.GAL_DRAWER_BAY then some (s.drawer j i).bay
  else if F = Reg.GAL_DRAWER_STATE then some (s.drawer j i).st.code
  else if F = Reg.GAL_DRAWER_USED then some ((s.drawerRows j i).filter fun r => r.st == .live || r.st == .entering).length
  else if F = Reg.GAL_DRAWER_REJECTS then some (s.drawer j i).rejects
  else if F = Reg.GAL_CAB_VEST_USED then some (s.sramUsed fun r => r.loc.inVest j i)
  else if F = Reg.GAL_CAB_TRANS_USED then some (s.sramUsed fun r => r.loc.inPool j i)
  else if F = Reg.GAL_CAB_SPARE_POS then some (s.cab (32 * j + i)).spare
  else if F = Reg.GAL_CAB_FENCED then some (one (s.cab (32 * j + i)).fenced)
  else none

/-- IDs of the learn range that entries hold, lost ones included (R195). -/
def State.idsHeld (s : State) (t : Nat) (d : Table) : List Nat :=
  (((s.rows.filter fun r => r.tbl == t && r.off.isNone).map (·.id) ++ (s.lost.filter fun e => e.1 = t).map (·.2)).filter d.inLearn).eraseDups

/-- TBL of a table (Table 6-7). -/
def State.viewTbl (s : State) (F : Field) (t w : Nat) : Option Nat :=
  let d := s.table t
  let o := (s.groupOf t).filter fun g => !g.ungrouped
  let now := s.tick.now
  let es := s.rows.filter fun r => r.tbl == t && r.enabledAt now
  if F = Reg.TBL_ATTR_ATTR then some (d.elim 0 fun x => x.attr.toNat)
  else if F = Reg.TBL_STATE_STATE then
    some (d.elim 0 fun x => if x.creating then 0 else if x.destroying then 3 else if x.degraded then 2 else 1)
  else if F = Reg.TBL_STATE_LOCKED then some (one (s.groupOf t).isSome)
  else if F = Reg.TBL_STATE_WRITE_LOCK then some (one (s.writeLocked t))
  else if F = Reg.TBL_STATE_FENCED_UNIT then some (one (s.fencedUnit t))
  else if F = Reg.TBL_STATE_OUT_OF_SERVICE then some (d.elim 0 fun x => one x.outOfService)
  else if F = Reg.TBL_STATE_GROUP then some (o.elim 0 (·.num))
  else if F = Reg.TBL_STATE_OWNER then some (o.elim 0 (·.func))
  else if F = Reg.TBL_ENTRIES_COUNT then some es.length
  else if F = Reg.TBL_ENTRIES_LEARNED then some (es.filter (·.learned)).length
  else if F = Reg.TBL_STAGED_VEST then some (s.sramUsed fun r => r.tbl == t && r.loc.isVest)
  else if F = Reg.TBL_STAGED_UNPERSISTED then some (s.rows.filter fun r => r.tbl == t && r.learned && r.off.isNone && !r.persisted).length
  else if F = Reg.TBL_LEARN_LAST then some (d.elim 0 (·.learnLast))
  else if F = Reg.TBL_LEARN_FREE then
    some (d.elim 0 fun x => if x.learnEn then x.learnCount - (s.idsHeld t x).length else 0)
  else if F = Reg.TBL_TALLY_NBLK then some (d.elim 0 fun x => x.blocks.length)
  else if F = Reg.TBL_TALLY_FIRST_BLK then some (d.elim 0 fun x => x.blocks.foldl min (x.blocks.headD 0))
  else if F = Reg.TBL_TALLY_USED then some (s.tallies.filter fun c => c.tbl == t).length
  else if F = Reg.TBL_COMMIT_SEQ_SEQ then some (d.elim 0 (·.commitSeq))
  else if F = Reg.TBL_LEASE_LEFT then some ((o.filter fun g => g.st == .open).elim 0 fun g => g.lease - min g.lease ((s.clock - g.leaseAt) / cyclesPerMs))
  else if F = Reg.TBL_DESC_WORD then
    some (d.elim 0 fun x => (([x.limit, x.sel0, x.sel1, x.learn, x.learn2] : List (BitVec 64)).getD w 0).toNat)
  else if F = Reg.TBL_MASK_MASK then some (d.elim 0 fun x => bits x.mask (64 * w + 63) (64 * w))
  else none

/-- TBLG (Table 6-7). -/
def State.viewTblg (s : State) (F : Field) : Option Nat :=
  let h := s.lossList.head?
  if F = Reg.TBLG_LOSS_COUNT then some s.lossList.length
  else if F = Reg.TBLG_LOSS_HEAD_ID then some (h.elim 0 (·.id))
  else if F = Reg.TBLG_LOSS_HEAD_TABLE then some (h.elim 0 (·.tbl))
  else if F = Reg.TBLG_LOSS_HEAD_CAUSE then some (h.elim 0 (·.cause))
  else if F = Reg.TBLG_LOSS_HEAD_VALID then some (one h.isSome)
  else if F = Reg.TBLG_JOURNAL_USED then
    some ((List.range 256).map fun n => (s.journalBusy n).length).sum
  else if F = Reg.TBLG_DLEARN_DL then some s.learnDelay
  else none

/-- CUR (Table 7-3). -/
def State.viewCur (s : State) (F : Field) (i j : Nat) : Option Nat :=
  let k := s.cab i
  let x := s.drawer i j
  if F = Reg.CUR_STATUS_CONSERV then some (one (s.arrayOn && !s.cur.histValid))
  else if F = Reg.CUR_STATUS_CONSERV_LEFT then some (if s.arrayOn && !s.cur.histValid then s.cur.conservLeft else 0)
  else if F = Reg.CUR_STATUS_WEAR_STAGE then some s.cur.stage
  else if F = Reg.CUR_SCRUB_QUEUED then some s.cur.scrubQ.length
  else if F = Reg.CUR_WEAR_BAL_BALANCE then some (s.cur.balance % 2 ^ 48).toNat
  else if F = Reg.CUR_RESTORE_PENDING then some s.cur.restorePend.length
  else if F = Reg.CUR_CAB_MREF then some k.code.1
  else if F = Reg.CUR_CAB_RREF then some k.code.2
  else if F = Reg.CUR_CAB_WIDTH then some k.width
  else if F = Reg.CUR_CAB_DRIFT then some (k.drift % 256).toNat
  else if F = Reg.CUR_CAB_CAL_FAIL then some (one k.calFail)
  else if F = Reg.CUR_CAB_JOURNAL_FREE then some ((s.reserveRows i).length - (s.journalBusy i).length)
  else if F = Reg.CUR_DRAWER_WEAR then some (x.wear / (2048 * 496))
  else if F = Reg.CUR_DRAWER_DEFECTS then some x.defects.length
  else if F = Reg.CUR_DRAWER_SUSPECT then some (one x.suspect)
  else if F = Reg.CUR_DRAWER_DIRTY then some (one x.dirty)
  else none

/-- WRD (Table 8-1). -/
def State.viewWrd (s : State) (F : Field) (i : Nat) : Option Nat :=
  if F = Reg.WRD_FILL_STAGED then some s.wrd.staging.length
  else if F = Reg.WRD_FILL_DIRTY then some (s.wrd.ways.filter (·.dirty)).length
  else if F = Reg.WRD_PIN_STATE then
    some (match (s.pin i).st with
      | .off => 0
      | .loading => 1
      | .held => 2
      | .conflict => 3)
  else if F = Reg.WRD_TBL_HELD then some (one (s.wrd.held.contains i))
  else none

/-- RPT (Table 9-3). -/
def State.viewRpt (s : State) (F : Field) (i : Nat) : Option Nat :=
  if F = Reg.RPT_FILL_VALID then some s.rpt.length
  else if F = Reg.RPT_FILL_STATIC then some (s.rpt.filter (·.static)).length
  else if F = Reg.RPT_SHADOW_DIGEST4 then
    some ((List.range 4).foldl (fun a k => a + fgetD s.shadow (4 * i + k) 0 * 2 ^ (16 * k)) 0)
  else none

/-- A bit for each requester with a property. -/
def reqBits (p : Nat → Bool) : Nat := ((List.range 16).filter p).foldl (fun a r => a + 2 ^ r) 0

/-- MNT (Table 10-5). -/
def State.viewMnt (s : State) (F : Field) (r : Nat) : Option Nat :=
  if F = Reg.MNT_STATUS_OWNER then some (s.owner.getD 0)
  else if F = Reg.MNT_STATUS_BUSY then some (one s.owner.isSome)
  else if F = Reg.MNT_STATUS_STARVE then some (reqBits fun q => s.flag Reg.MNT_REQ_STARVED q)
  else if F = Reg.MNT_STATUS_FENCED then some (reqBits s.reqFenced)
  else if F = Reg.MNT_REQ_STATE then
    some (match (s.req r).st with
      | .idle => 0
      | .waiting => 1
      | .owner => 2
      | .fenced => 3)
  else none

/-- SEAM and CSC (Tables 11-5, 12-2). -/
def State.viewSeam (s : State) (F : Field) : Option Nat :=
  if F = Reg.SEAM_STATUS_LSTATE then some s.seam.link.st.code
  else if F = Reg.SEAM_STATUS_ROLE then some s.seam.role
  else if F = Reg.SEAM_STATUS_PAIR then
    some (match s.seam.pair with
      | .detached => 0
      | .attaching => 1
      | .source => 2
      | .target => 3
      | .paired => 4)
  else if F = Reg.CSC_STATUS_LSTATE_UP then some s.csc.up.st.code
  else if F = Reg.CSC_STATUS_LSTATE_DOWN then some s.csc.dn.st.code
  else none

/-- The ledger copy that stands: the good one of the higher SEQ, copy A when equal; none where neither is good (R371). -/
def State.ledger (s : State) : Option Ledger :=
  if s.ledgerA.good ∧ (s.ledgerB.good = false ∨ s.ledgerB.seq ≤ s.ledgerA.seq) then some s.ledgerA
  else if s.ledgerB.good then some s.ledgerB
  else none

/-- Time left on the idle timer in ms; none where it does not run (R377). -/
def State.idleLimit (s : State) : Nat := min (s.get Reg.PWR_IDLE_IDLE_MS) 3600000

/-- The idle timer runs (R377). -/
def State.idleRuns (s : State) : Bool := s.mode == .service && s.idleLimit != 0 && s.dorm.phase == .awake

/-- BOOT and PWR (Tables 13-6, 14-3). -/
def State.viewBoot (s : State) (F : Field) : Option Nat :=
  let l := s.ledger.getD {}
  let a := s.dorm.aon
  if F = Reg.BOOT_LEDGER_COUNT then some l.count
  else if F = Reg.BOOT_LEDGER_PEND then some (one l.pend)
  else if F = Reg.BOOT_LEDGER_CLR then some (one l.clr)
  else if F = Reg.BOOT_LEDGER_CAUSE then some l.cause
  else if F = Reg.BOOT_LEDGER_STEP then some l.step
  else if F = Reg.BOOT_LEDGER_SEQ then some l.seq
  else if F = Reg.BOOT_GPIO_IN then some s.pins.gpioIn.toNat
  else if F = Reg.PWR_IDLE_LEFT_LEFT then
    some (if s.idleRuns then s.idleLimit - min s.idleLimit ((s.clock - s.dorm.idleFrom) / cyclesPerMs) else 0)
  else if F = Reg.PWR_IDLE_LEFT_RUNNING then some (one s.idleRuns)
  else if F = Reg.PWR_LAST_WAKE_VALID then some (one a.valid)
  else if F = Reg.PWR_LAST_WAKE_PORT_ACT then some (one a.portAct)
  else if F = Reg.PWR_LAST_WAKE_PORT_PAT then some (one a.portPat)
  else if F = Reg.PWR_LAST_WAKE_SEAM then some (one a.seam)
  else if F = Reg.PWR_LAST_WAKE_PCIE then some (one a.pcie)
  else if F = Reg.PWR_LAST_WAKE_ENTRY_RACE then some (one a.race)
  else if F = Reg.PWR_LAST_WAKE_PORT then some a.port
  else if F = Reg.PWR_LAST_WAKE_COUNT then some a.count
  else if F = Reg.PWR_LAST_WAKE_DORMANT_S then some a.dormantS
  else none

/-- The state code of GLB_STATE (Table 16-3): dormancy shows no registers at all. -/
def Mode.code : Mode → Nat
  | .startUp => 0
  | .service => 1
  | .recovery => 2
  | .dormant => 3

/-- EVT_L[k] is asserted (R435). -/
def State.evtAsserted (s : State) (k : Nat) : Bool :=
  (List.range 1024).any fun n => s.flag Reg.EVT_SRC_EN n && s.flag Reg.EVT_SRC_PEND n && (s.get Reg.EVT_SRC_PINS n).testBit k

/-- GLB, QUE and EVT (Tables 16-3, 16-11, 16-12). POP registers read the oldest word: their reads are rows of their own. -/
def State.viewHost (s : State) (F : Field) (i j : Nat) : Option Nat :=
  if F = Reg.GLB_ID_STEPPING then some (bits s.fuses 71 64)
  else if F = Reg.GLB_STATE_STATE then some s.mode.code
  else if F = Reg.GLB_STATE_WAKE then some (s.get Reg.BOOT_STATUS_WAKE)
  else if F = Reg.GLB_TICK_TICK then some s.tick.now
  else if F = Reg.GLB_UPTIME_US then
    some (if s.mode = .service then (s.clock - s.boot.serviceAt) / cyclesPerUs % 2 ^ 48 else 0)
  else if F = Reg.GLB_FUNC_NUMVF then some s.numVf
  else if F = Reg.QUE_STATUS_OWED then some (s.owedTo i)
  else if F = Reg.QUE_EVPEND_PEND then
    some ((List.range 64).foldl (fun a k => if s.flag Reg.EVT_SRC_PEND (64 * i + k) && s.eventFunc (64 * i + k) == j then a + 2 ^ k else a) 0)
  else if F = Reg.QUE_EVQ_POP_RECORD then some (s.host.evq.headD 0).toNat
  else if F = Reg.QUE_EVQ_STATUS_FILL then some s.host.evq.length
  else if F = Reg.QUE_CAP_POP_WORD then some ((fgetD s.host.capq i []).headD 0).toNat
  else if F = Reg.QUE_CAP_STATUS_FILL then some (s.capFill i)
  else if F = Reg.EVT_STATUS_PINS then some ((List.range 4).foldl (fun a k => if s.evtAsserted k then a + 2 ^ k else a) 0)
  else none

/-- A field that is computed from other state. -/
def State.viewField (s : State) (F : Field) (i j : Nat) : Option Nat :=
  if F.base < 0x10000 ∨ 0x150000 ≤ F.base then s.viewHost F i j
  else if F.base < 0x40000 then s.viewPrt F i
  else if F.base < 0x60000 then s.viewChn F i j
  else if F.base < 0x70000 then s.viewTbl F i j
  else if F.base < 0x80000 then s.viewTblg F
  else if F.base < 0xC0000 then s.viewGal F i j
  else if F.base < 0xD0000 then s.viewCur F i j
  else if F.base < 0xE0000 then s.viewWrd F i
  else if F.base < 0xF0000 then s.viewRpt F i
  else if F.base < 0x100000 then s.viewMnt F i
  else if F.base < 0x120000 then s.viewSeam F
  else s.viewBoot F

/-- What a read of a field returns: WO fields read 0 (Table 0-2), reserved event sources too (R432), and LOCKED while
a lost source is not tracked (Table 2-1). -/
def State.readField (s : State) (F : Field) (i j : Nat) : Nat :=
  if F.acc = .wo then 0
  else if F.base = Reg.EVT_SRC_EN.base ∧ evNamed i = false then 0
  else if F = Reg.TCK_STATUS_LOCKED ∧ s.flag Reg.TCK_STATUS_LOST = true then 0
  else if F = Reg.EVT_SRC_FUNC ∧ 96 ≤ i ∧ i ≤ 351 then s.eventFunc i
  else if F.view then (s.viewField F i j).getD (s.get F i j) % 2 ^ F.width
  else s.get F i j

/-! ## Registers and windows -/

/-- The block of the PF in the protection map: every slot, every right (R369). -/
def pfBlock (off : Nat) : Option Nat :=
  if off = 0x120100 then some (1 + 255 * 2 ^ 8 + 7 * 2 ^ 16)
  else if off = 0x120108 ∨ off = 0x120110 then some (2 ^ 64 - 1)
  else none

/-- A site entry's window register: the last value written (R270). -/
def State.siteWindow (s : State) (off : Nat) : Option Nat :=
  if 0x1000000 ≤ off ∧ off < 0x1008000 then some (s.site ((off - 0x1000000) / 8)).word.toNat else none

/-- Two counters of the tally window (R203). -/
def State.tallyWindow (s : State) (off : Nat) : Option Nat :=
  let at_ := fun i => ((s.tallies.find? fun c => c.idx == i).elim 0 (·.count)) % 2 ^ 32
  if 0x2000000 ≤ off ∧ off < 0x2400000 then
    let i := (off - 0x2000000) / 4
    some (at_ i + at_ (i + 1) * 2 ^ 32)
  else none

/-- The 64-bit register of the PF's BAR0 at an offset that is a multiple of 8 (R414). -/
def State.readReg (s : State) (off : Nat) : Nat :=
  if s.reachable off = false then 0
  else match pfBlock off, s.siteWindow off, s.tallyWindow off with
    | some v, _, _ => v
    | none, some v, _ => v
    | none, none, some v => v
    | none, none, none => (fieldsAt off).foldl (fun a e => a + s.readField e.1 e.2.1 e.2.2 * 2 ^ e.1.pos off e.2.1 e.2.2) 0

/-- The PF offset a VF's window shows for reading (Table 16-2, R120, R121, R439). -/
def State.vfShows (s : State) (f off : Nat) : Option Nat :=
  if off < 0x20 then some off
  else if 0x1000 ≤ off ∧ off < 0x2000 then
    let r := off - 0x1000
    if r < 0x100 then some (0x160000 + 0x1000 * f + r)
    else if 0x800 ≤ r ∧ r < 0xA00 ∧ s.get Reg.QUE_CAP_CTRL_FUNC ((r - 0x800) / 0x40) = f then some (0x160000 + r)
    else none
  else if 0x10000 ≤ off ∧ off < 0x20000 then
    let t := (off - 0x10000) / 0x400
    if s.flag Reg.BOOT_PMAP_TBL_READ f && s.searchRight f t then some (0x60000 + (off - 0x10000)) else none
  else if 0x20000 ≤ off ∧ off < 0x40000 then
    let slot := (off - 0x20000) % 0x10000 / 0x100
    if slot ≠ 0 ∧ s.slotRange f slot = true then some (0x20000 + off) else none
  else none

/-- What function f reads at a 64-bit register of its BAR0 (R414, R415, R417): the PF everywhere the state opens, a VF through
its window in service state. -/
def State.busRead (s : State) (f off : Nat) : Nat :=
  let pba := if f = 0 then 0x15C000 else 0xC00
  if f ≠ 0 ∧ (s.mode ≠ .service ∨ s.numVf < f) ∨ s.reachable (if f = 0 then off else 0) = false then 0
  else if let some i := msixIndex f off then (s.pci f).tableWord i
  else if off = pba then (s.pci f).pba
  else if f = 0 then s.readReg off
  else (s.vfShows f off).elim 0 s.readReg

/-- A POP register of function f's BAR0, which only a 64-bit read of its own row reads (R417). -/
def State.isPop (f off : Nat) : Bool :=
  let r := off - (if f = 0 then 0x160000 else 0x1000)
  decide ((if f = 0 then 0x160000 else 0x1000) ≤ off) && (r / 8 * 8 == 0x100 || (decide (0x800 ≤ r) && decide (r < 0xA00) && r % 0x40 / 8 == 1))

/-- A read of n bytes from an offset of function f's BAR0: the addressed bytes, lowest first (R4, R416); of a POP register 0 (R417). -/
def State.busBytes (s : State) (f off n : Nat) : List Byte :=
  (List.range n).map fun i =>
    let a := off + i
    if State.isPop f a then 0 else BitVec.ofNat 8 (s.busRead f (a / 8 * 8) >>> (8 * (a % 8)))

end Sys2Proof.Machine
end

