-- ==== Sys2Proof/Machine/Reset.lean ====
section
/-! DEFINITION. What a reset leaves (R356, R357, R359, R192 to R194) and the inventory pass that rebuilds the tables from the
medium (R233 to R236, R195, R205). -/

namespace Sys2Proof.Machine

/-! ## Copies of an entry (Table 6-6) -/

/-- The address of a row in the order g.c.d and row. -/
def Loc.addr : Loc → Nat
  | .drawer g c d row half => (((g * 32 + c) * 17 + d) * 2048 + row) * 2 + half
  | .vest g c i => (g * 32 + c) * 256 + i
  | .pool g c i => (g * 32 + c) * 1024 + i

/-- The committed row of an entry of a table kept across the reset. A table whose TBL_DESTROY has not deleted its directory record
keeps the entries it turned OFF (R171). -/
def State.committedRow (s : State) (r : Row) : Bool :=
  match s.table r.tbl with
  | none => false
  | some d => !d.transient && !d.creating && (r.st == .live || r.st == .entering) &&
      (r.off.isNone || (d.destroyAt.isSome && r.off == d.destroyAt))

/-- A move record covers the place that the entry leaves (R189). -/
def State.moveRecorded (s : State) (l : Loc) : Bool := s.journal.any fun j => !j.tomb && j.covers.contains l

/-- Which of an entry's copies stands (Table 6-6): a drawer copy over the journal row of identical contents; of two drawer copies
the destination of a move record, else the one at the lowest address; a copy that cannot be read never stands over one that can. -/
def State.standing (s : State) (o : Row) : Row :=
  match s.rows.find? fun r => r.tbl == o.tbl && r.id == o.id && r.st == .set && s.entryReadable r with
  | none => o
  | some n => if o.loc.isVest || !s.entryReadable o || s.moveRecorded o.loc || decide (n.loc.addr < o.loc.addr) then n else o

/-- The row that stands after the rebuild, LIVE from the first tick; none for a learned entry whose journal row was not written
(R193, R194). The SRAM of a vestibule row is rebuilt from its journal row. -/
def State.rebuilt (s : State) (o : Row) : Option Row :=
  let k := s.standing o
  if k.loc.isVest && k.learned && !k.persisted then none
  else some { k with st := .live, on := 0, off := none, group := 0, owing := false, since := s.clock,
                     persisted := true, missed := false, again := false }

/-- The rows after the rebuild. -/
def State.rebuiltRows (s : State) : List Row := (s.rows.filter s.committedRow).filterMap s.rebuilt

/-- The drawer rows that lost their entry in the rebuild: the curator clears them (R213, R367). -/
def State.droppedLocs (s : State) (rows : List Row) : List Loc :=
  ((s.rows.map (·.loc)).filter fun l => l.isDrawer && !rows.any fun r => r.loc == l).eraseDups

/-! ## What stays (R357) -/

/-- A self-test of a free drawer runs in place (R237). -/
def State.testedFree (s : State) (g x : Nat) : Bool := s.cur.swaps.any fun w => w.g == g && 17 * w.c + w.d == x && w.inPlace && w.s == 31

/-- A drawer position after a reset: descriptor rows keep state, wear, defects, digest and the dirty mark; a drawer whose test was
cut off is free when it was tested as a free one, and otherwise the spare of its cabinet. -/
def State.drawerAfter (s : State) (e : Nat × Drawer) : Nat × Drawer :=
  let g := e.1 / 544
  let x := e.1 % 544
  let st := if e.2.st = .selftest then (if s.testedFree g x then .free else .spare) else e.2.st
  (e.1, { e.2 with st := st, rejects := 0, rejectsAt := 0, suspect := false, unread := [], writes := 0, lastWrite := 0 })

/-- A cabinet after a reset: codes and baselines stay (R224), the spare position, and the reserved rows while the
spare does not serve (R215). -/
def State.cabAfter (s : State) (e : Nat × Cab) : Nat × Cab :=
  let at_ := fun (d : Nat) => 17 * (e.1 % 32) + d
  let tested := (List.range 17).find? fun d => (s.drawer (e.1 / 32) (at_ d)).st == .selftest && !s.testedFree (e.1 / 32) (at_ d)
  let spare := if e.2.spare = 31 then tested.getD 31 else e.2.spare
  (e.1, { spare := spare, code := e.2.code, prev := e.2.code, base := e.2.base,
          reserve := if spare = 31 ∨ (e.2.reserve.all fun a => a / 2048 = spare) = true then e.2.reserve else [] })

/-- A table of the directory after a reset (R168): its definition and TBL_COMMIT_SEQ. -/
def Table.after (d : Table) : Table :=
  { attr := d.attr, limit := d.limit, sel0 := d.sel0, sel1 := d.sel1, learn := d.learn, learn2 := d.learn2, mask := d.mask,
    commitSeq := d.commitSeq }

/-- Groups whose commit record is written are in effect whole, those that the governor defers among them (R187); the others not at all
(R192). -/
def State.settleGroups (s : State) : State :=
  let quiet : State := { s with mode := .dormant, seam := {} }
  (s.groups.filter fun g => g.st != .open).foldl (fun (x : State) g => x.commitGroup { g with cmd := none } s.tick.now) quiet

/-- The device after a reset (R356, R357): everything volatile at its reset value. `aon`: LAST_WAKE stays. -/
def State.wiped (s : State) (aon : Bool) : State :=
  let s := s.settleGroups.cutProgram
  let rows := s.rebuiltRows
  let durable := fun t => match s.table t with | some d => !d.transient && !d.creating | none => false
  { pending := s.pending, clock := s.clock, freeCtr := s.freeCtr, out := s.out, mode := .startUp,
    pins := { s.pins with pcieUp := false }, fuses := s.fuses, tap := s.tap,
    ledgerA := s.ledgerA, ledgerB := s.ledgerB, dorm := { aon := if aon then s.dorm.aon else {} },
    tables := (s.tables.filter fun e => !e.2.creating).map (fun e => (e.1, e.2.after)), rows := rows,
    journal := s.journal.filter (·.committed), lost := s.lost.filter (fun e => durable e.1),
    cells := s.cells, faults := s.faults.filter (fun e => !isSram e.1),
    drawers := s.drawers.map s.drawerAfter, cabs := s.cabs.map s.cabAfter,
    cur := { balance := s.cur.saved, saved := s.cur.saved, stage := wearStage s.cur.saved, histValid := s.cur.histValid,
             conservLeft := if s.cur.histValid then 0 else 3, rowWear := s.cur.rowWear, newer := s.cur.newer, earnFrom := s.clock,
             clearQ := s.cur.clearQ.filter (fun l => !rows.any fun r => r.loc == l) ++ s.droppedLocs rows },
    wrd := { store := s.wrd.store, bad := s.wrd.bad, marred := s.wrd.marred }, cfg := { dev := s.cfg.dev, mem := s.cfg.mem } }

/-! ## The inventory pass (R234) -/

/-- The entries that the pass cannot read: those with an unreadable drawer row, and vestibule rows whose journal row is unreadable; an
unreadable 80-bit row takes both of its entries (R230, R234 step 6). -/
def State.unreadableEntries (s : State) : List (Nat × Nat) :=
  ((s.rows.filter fun r => if r.loc.isDrawer then !s.entryReadable r else r.loc.isVest && !s.rebuildable r).map fun r => (r.tbl, r.id)).eraseDups

/-- Both copies of a descriptor row of cabinet n are unreadable (R234 step 1). -/
def State.descriptorLost (s : State) (n : Nat) : Bool :=
  s.faults.any fun e => decide (2 ^ 27 ≤ e.1) && e.1 / 2 % 256 == n && !s.readable e.1 && !s.readable (e.1 ^^^ 1)

/-- A drawer's assignment rebuilt from the FLAGS of its rows: the table and the width, in the broad set, which every lookup of the table
searches; no defective row is known, and the drawer is dirty (R234 step 1, notes/assumptions/129.md). -/
def State.rebuildDrawer (s : State) (g x : Nat) : State :=
  let k := s.drawer g x
  let blank : Drawer := { st := if k.st = .spare then .spare else .free, wear := k.wear, dirty := true, digestSeq := k.digestSeq, marched := k.marched }
  match s.drawerRows g x with
  | [] => s.setDrawer g x blank
  | r :: _ => s.setDrawer g x { blank with st := .assigned, tbl := r.tbl, width := s.widthOf r.tbl, broad := true }

/-- Step 1 of R234 where a cabinet's descriptor rows are lost: the assignments are rebuilt, and the drift history is absent (R224). -/
def State.rebuildCabinet (s : State) (n : Nat) : State :=
  ((List.range 17).foldl (fun (x : State) d => x.rebuildDrawer (n / 32) (17 * (n % 32) + d)) s).dropHistory

/-- A drawer of the pass: it is proven, and its fresh digest saved (R234 steps 2, 3, 4, 7). -/
def State.inventoryDrawer (s : State) (k : Nat) : State :=
  if (s.drawer (k / 544) (k % 544)).st = .assigned then (s.proveDrawer (k / 544) (k % 544)).saveDigest (k / 544) (k % 544) else s

/-- Step 6 of R234: losses are declared, those of earlier starts again, with one event (R205, R206). -/
def State.declareLosses (s : State) (l : List (Nat × Nat)) : State :=
  let all := (s.lost ++ l).eraseDups
  let t := all.foldl (fun (x : State) e => x.loseEntry e.1 e.2 0 s.tick.now) { s with lost := [] }
  if all.isEmpty then t else (t.raise Ev.INVENTORY_LOSS).oweLog 4 all.length

/-- The ID an accession counts from after a start (R195): the highest of the learn range that an entry holds, lost ones included. -/
def State.lastLearned (s : State) (t : Nat) (d : Table) : Nat :=
  let ids := ((s.entries t).map (·.id) ++ (s.lost.filter fun e => e.1 = t).map (·.2)).filter d.inLearn
  if ids.isEmpty then d.learnBase + d.learnCount - 1 else ids.foldl max 0

/-- Accession counts from the highest learned ID after a start (R195). -/
def State.startLearning (s : State) (t : Nat) : State :=
  match s.table t with
  | some d => s.setTable t { d with learnLast := s.lastLearned t d }
  | none => s

/-- INVENTORY_PASS (R234): descriptor rows, drawers read and proven, losses declared, digests saved. -/
def State.inventory (s : State) : State :=
  let c := ((List.range 256).filter s.descriptorLost).foldl State.rebuildCabinet s
  let u := (c.drawers.map (·.1)).foldl State.inventoryDrawer c
  let v := u.declareLosses u.unreadableEntries
  (v.tables.map (·.1)).foldl State.startLearning v

end Sys2Proof.Machine
end

