-- ==== Sys2Proof/Machine/Boot.lean ====
section
/-! DEFINITION. Reset sources, the start sequence, the boot engine with its program and image sections, the boot ledger, entry to
service and recovery states (13_reset_boot.md, R442, R444). -/

namespace Sys2Proof.Machine

/-! ## The boot ledger (R371, R372) -/

/-- A record is written to the copy that does not stand, its SEQ one up (R371). -/
def State.writeLedger (s : State) (l : Ledger) : State :=
  let n := { l with seq := (l.seq + 1) % 2 ^ 32, good := true }
  let aStands : Bool := s.ledgerA.good && (!s.ledgerB.good || decide (s.ledgerB.seq ≤ s.ledgerA.seq))
  if aStands then { s with ledgerB := n } else { s with ledgerA := n }

/-- Change the boot engine. -/
def State.setBoot (s : State) (b : Boot) : State := { s with boot := b }

/-- The start reaches a step (R364). -/
def State.toStep (s : State) (n : Nat) : State := s.put Reg.BOOT_STATUS_STEP n

/-- Entry to recovery state (R373): the start stops, the registers are sealed, every lane is idle, events held are lost. -/
def State.enterRecovery (s : State) (why : Nat) : State :=
  let t := allLinks.foldl (fun (x : State) l => x.setLink l {}) s
  let u := ((t.put Reg.BOOT_STATUS_RECOV why).put Reg.BOOT_STATUS_SEALED 1).oweLog 3 why
  let v : State := { u with mode := .recovery, boot := { u.boot with timer := none, training := false, waitUntil := none, held := [] } }
  v.setBlock v.blockCause false

/-- EPOCH takes the ledger's SEQ at the end of step 4 (R418). -/
def State.takeEpoch (s : State) : State := s.put Reg.GLB_STATE_EPOCH (s.ledger.getD {}).seq

/-- Step 4 (R371): a count of 4 or more leads to recovery without a write; else the start is counted. -/
def State.ledgerStep (s : State) : State :=
  let t := s.toStep 4
  let u := if t.ledger.isNone then t.setRaise Reg.BOOT_STATUS_LEDGER_LOST Ev.LEDGER_LOST else t
  let l := t.ledger.getD {}
  let v := u.setBoot { u.boot with countRead := l.count, clrRead := l.clr }
  if 4 ≤ l.count then (v.enterRecovery 1).takeEpoch
  else
    let r := if l.pend then { l with cause := 2, step := 0 } else l
    (v.writeLedger { r with count := r.count + 1, pend := true }).takeEpoch

/-- The start has failed (R372): PEND, CAUSE and STEP are recorded, and the device enters recovery (R362). -/
def State.failStart (s : State) : State :=
  let cause := if s.flag Reg.BOOT_STATUS_HALTED then s.get Reg.BOOT_STATUS_HALT_CAUSE else 1
  (s.writeLedger { s.ledger.getD {} with pend := false, cause := cause, step := s.get Reg.BOOT_STATUS_STEP }).enterRecovery 2

/-- START_LIMIT in cycles: below 100 ms behaves as 100 (Table 13-6). -/
def State.startLimit (s : State) : Nat := max (s.get Reg.BOOT_LIMIT_START_LIMIT) 100 * cyclesPerMs

/-- The start timer has reached START_LIMIT (R362). -/
def State.limitPassed (s : State) : Bool :=
  match s.boot.timer with
  | none => false
  | some t => s.mode == .startUp && decide (t + s.startLimit ≤ s.clock)

/-- START_LIMIT_EXPIRY: the start timer reaches START_LIMIT; the start fails and the device enters recovery (R362). -/
def execStartLimitExpiry (s : State) : Host.Outcome State Fault Refusal := .next (if s.limitPassed then s.failStart else s)

/-- Host software reaches the ledger's clear bit: in service and recovery state, and in start-up once the ledger is read (R27,
R364, R373). -/
def State.ledgerOpen (s : State) : Bool :=
  match s.mode with
  | .service | .recovery => true
  | .startUp => decide (4 ≤ s.get Reg.BOOT_STATUS_STEP)
  | .dormant => false

/-- BOOT_LEDGER_CLEAR (R374). -/
def doBootLedgerClear (v : BitVec 64) (s : State) : State :=
  if s.ledgerOpen = true ∧ bitOf v 0 = true then s.writeLedger { s.ledger.getD {} with count := 0, clr := true } else s

/-- BOOT_LEDGER_CLEAR: a write of 1 to BOOT_LEDGER_CLR.CLEAR writes COUNT 0 and CLR 1 into the ledger (R374). -/
def execBootLedgerClear (v : BitVec 64) (s : State) : Host.Outcome State Fault Refusal := .next (doBootLedgerClear v s)

/-! ## The boot program (R366) -/

/-- Operation pc of a program: OP, OFFSET, VALUE; none past its end or past 4,096 operations. -/
def bootOp (body : List Byte) (pc : Nat) : Option (Nat × Nat × Nat) :=
  match sectionOf body 0 with
  | none => none
  | some p =>
    if pc < 4096 ∧ 16 * pc + 16 ≤ p.length then
      let w := leAt p (16 * pc) 8
      some (w % 256, (w >>> 32) % 2 ^ 26, leAt p (16 * pc + 8) 8)
    else none

/-- The register regions of Table 16-1: PRT and GAL end with their blocks, every other one below QUE reaches to the next. -/
def inRegions (off : Nat) : Bool :=
  (decide (off < 0x170000) && !(decide (0x30000 ≤ off) && decide (off < 0x40000)) && !(decide (0x90000 ≤ off) && decide (off < 0xC0000))) ||
    (decide (0x1000000 ≤ off) && decide (off < 0x1008000)) ||
    (decide (0x2000000 ≤ off) && decide (off < 0x2400000))

/-- A program that cannot go on halts the start with cause 4 and sets PROG_ERR (R366). -/
def State.haltProgram (s : State) : State := (s.haltStart 4).put Reg.BOOT_PROG_PROG_ERR 1

/-- The operation that comes next is looked at: none, a reserved OP or an OFFSET outside the regions halts (R366). -/
def State.lookAhead (s : State) : State :=
  match bootOp s.boot.body s.boot.pc with
  | none => s.haltProgram
  | some (op, off, _) => if 4 < op ∨ (op = 1 ∧ inRegions off = false) then s.haltProgram else s

/-- The operation in turn when it is `op` and the boot engine runs: its OFFSET and VALUE. -/
def State.bootTurn (s : State) (op : Nat) : Option (Nat × Nat) :=
  if s.mode = .startUp ∧ s.get Reg.BOOT_STATUS_STEP = 8 ∧ s.flag Reg.BOOT_STATUS_HALTED = false ∧ s.boot.waitUntil.isNone = true then
    match bootOp s.boot.body s.boot.pc with
    | some (o, off, v) => if o = op then some (off, v) else none
    | none => none
  else none

/-- An operation has run: BOOT_PROG.PC shows it, and the next one is looked at, unless the start halted or failed. -/
def State.bootNext (s : State) : State :=
  let t := (s.put Reg.BOOT_PROG_PC s.boot.pc).setBoot { s.boot with pc := s.boot.pc + 1 }
  if t.mode = .startUp ∧ t.flag Reg.BOOT_STATUS_HALTED = false then t.lookAhead else t

/-! ## WRITE: fields that have a row of their own for the host -/

/-- The tick settings: no re-timing before service state (R36, R45, R46). -/
def State.bootTick (s : State) (off v : Nat) : State :=
  let put := fun (t : TickSetting) (F : Field) (n : Nat) => if s.settingOk t then s.put F n else s.put Reg.TCK_STATUS_CFG_ERR 1
  if off = 0x10000 then put (.src (BitVec.ofNat 2 v)) Reg.TCK_CTRL_SRC (v % 4)
  else if off = 0x10008 then put (.period (BitVec.ofNat 21 v)) Reg.TCK_PERIOD_PERIOD (v % 2 ^ 21)
  else if off = 0x10010 then put (.guard (BitVec.ofNat 7 v)) Reg.TCK_GUARD_GUARD (v % 128)
  else if off = 0x10018 then put (.latency (BitVec.ofNat 5 v)) Reg.TCK_LATENCY_L (v % 32)
  else s

/-- PRT_CTRL: EN is stored, SELFTEST starts or ends a test (R68, R88). -/
def State.bootPort (s : State) (off v : Nat) : State :=
  if 0x20000 ≤ off ∧ off < 0x30000 ∧ (off - 0x20000) % 0x1000 = 0 then
    let p : Fin 16 := Fin.ofNat 16 ((off - 0x20000) / 0x1000)
    let t := s.putB Reg.PRT_CTRL_EN (v.testBit 0) p
    if v.testBit 3 then doPrtSelftestStart p t else doPrtSelftestEnd p t
  else s

/-- CHN_QUOTA of a standing channel (R115), and the loss list's head (R206). -/
def State.bootChan (s : State) (off v : Nat) : State :=
  let r := (off - 0x40000) % 0x100
  if 0x40100 ≤ off ∧ off < 0x50000 ∧ (r = 0x38 ∨ r = 0x40) then s.applyQuota ((off - 0x40000) / 0x100) (r == 0x40) (BitVec.ofNat 64 v)
  else if off = 0x70018 ∧ v.testBit 0 = true then { s with lossList := s.lossList.drop 1 }
  else s

/-- The curator's actions (R221, R224, R225, R237, R241, R242). `cal`: the windows that a round started by CUR_CAL.GO measures. -/
def State.bootCurator (s : State) (cal : List CabCal) (off v : Nat) : State :=
  if off = 0xC0000 ∧ v.testBit 3 = true then s.dropHistory
  else if off = 0xC0020 ∧ v.testBit 36 = true then s.calRound cal
  else if off = 0xC0040 ∧ v.testBit 13 = true then doCurSelftestGo s
  else if off = 0xC0048 ∧ v.testBit 13 = true then doCurRetireGo s
  else if off = 0xC0050 ∧ v.testBit 0 = true then s.put Reg.CUR_STATUS_FULLTEST_REFUSED 1
  else if 0xC0100 ≤ off ∧ off < 0xC0900 then
    let n := (off - 0xC0100) / 8
    let t := if v.testBit 33 then s.setCab n { s.cab n with fenceDue := true } else s
    if v.testBit 34 ∧ (t.cab n).fenced then t.setCab n { t.cab n with checking := true } else t
  else s

/-- The wardrobe and the return-path table (R252, R255, R281, R282). -/
def State.bootData (s : State) (off v : Nat) : State :=
  if off = 0xD0000 then (s.put Reg.WRD_CTRL_LOCK (v % 2 ^ 16)).applyLock
  else if 0xD0100 ≤ off ∧ off < 0xD0200 ∧ off % 16 = 0 then doWrdPinEn (Fin.ofNat 16 ((off - 0xD0100) / 16)) (v.testBit 47) s
  else if off = 0xE0018 ∧ v.testBit 30 = true then
    let op := (v >>> 28) % 4
    if op = 1 ∨ op = 2 then s.staticGo (op == 1) (v % 2 ^ 24) ((v >>> 24) % 16) else doRptStaticInvalid (BitVec.ofNat 2 op) s
  else if off = 0xE0028 then { s with shadow := fset s.shadow (v % 2 ^ 14) 0 ((v >>> 16) % 2 ^ 16) }
  else if 0xE8000 ≤ off ∧ off < 0xF0000 then
    (List.range 4).foldl (fun (y : State) i =>
      { y with shadow := fset y.shadow (4 * ((off - 0xE8000) / 8) + i) 0 ((v >>> (16 * i)) % 2 ^ 16) }) s
  else s

/-- The maintenance port, the seam and the cascade the ledger's clear bit (R295, R301, R303, R322, R339, R374). -/
def State.bootPair (s : State) (off v : Nat) : State :=
  if 0xF0100 ≤ off ∧ off < 0xF0100 + 14 * 32 ∧ (off - 0xF0100) % 32 = 0 then
    let r : Fin 16 := Fin.ofNat 16 ((off - 0xF0100) / 32)
    let t := s.put Reg.MNT_REQ_PRIO (v % 8) r
    let u := if v.testBit 27 ∧ t.reqFenced r = false then t.fenceReq r else t
    if v.testBit 28 then doMntUnfence r u else u
  else if off = 0x100000 then
    let n := (v >>> 4) % 32
    let t := s.putB Reg.SEAM_CTRL_RELEASE (v.testBit 3)
    if 2 ≤ n ∧ n ≤ 16 then t.put Reg.SEAM_CTRL_S n else t
  else if off = 0x120010 then doBootLedgerClear (BitVec.ofNat 64 v) s
  else if 0x110400 ≤ off ∧ off < 0x110600 then
    doCscSliceWrite (Fin.ofNat 64 ((off - 0x110400) / 8)) (BitVec.ofNat 24 v) (BitVec.ofNat 24 (v >>> 24)) s
  else s

/-- Rings, notices and event sources (R419, R420, R431, R433). -/
def State.bootHost (s : State) (off v : Nat) : State :=
  if 0x160000 ≤ off ∧ off < 0x170000 then
    let f : Fin 16 := Fin.ofNat 16 ((off - 0x160000) / 0x1000)
    let r := (off - 0x160000) % 0x1000
    if r = 0x08 then doQueEnWrite f false (v.testBit 4) s
    else if r = 0x10 then doCmdTailWrite f (BitVec.ofNat 64 v) [] s
    else if r = 0x28 then doQueEnWrite f true (v.testBit 4) s
    else if 0x80 ≤ r ∧ r < 0x100 then
      (List.range 64).foldl (fun (x : State) i =>
        let n := 64 * ((r - 0x80) / 8) + i
        if v.testBit i && x.eventFunc n == f.val then x.clearPend n else x) s
    else if off = 0x160110 then doIdleUsWrite none (BitVec.ofNat 16 v) s
    else if 0x160800 ≤ off ∧ off < 0x160A00 ∧ r % 0x40 = 0 then
      doIdleUsWrite (some (Fin.ofNat 8 ((r - 0x800) / 0x40))) (BitVec.ofNat 16 (v >>> 16)) s
    else s
  else if 0x150000 ≤ off ∧ off < 0x152000 ∧ v.testBit 24 = true then s.clearPend ((off - 0x150000) / 8)
  else s

/-- The site and tally windows (R203, R269, R270). -/
def State.bootWindow (s : State) (off v : Nat) : State :=
  if 0x1000000 ≤ off ∧ off < 0x1008000 then
    let w := St.defined (BitVec.ofNat 64 v)
    s.setSite ((off - 0x1000000) / 8) { word := w, applied := w, before := w }
  else if 0x2000000 ≤ off then
    let i := (off - 0x2000000) / 4
    (s.setTally i (v % 2 ^ 32)).setTally (i + 1) (v >>> 32)
  else s

/-- WRITE writes VALUE to the 64-bit register at OFFSET with the PF's rights; a sealed field after the seal sets PROG_ERR (R366). -/
def State.bootReg (s : State) (cal : List CabCal) (off v : Nat) : State :=
  if off % 8 ≠ 0 then s
  else
    let t := s.writeReg true v (2 ^ 64 - 1) off
    let u := ((((((t.bootTick off v).bootPort off v).bootChan off v).bootCurator cal off v).bootData off v).bootPair off v).bootHost off v
    let w := u.bootWindow off v
    if s.unsealed = false ∧ touchesSealed (2 ^ 64 - 1) off = true then w.put Reg.BOOT_PROG_PROG_ERR 1 else w

/-- BOOT_WRITE: WRITE runs; a START_LIMIT that is already passed when it is written expires at once (R362, R366). -/
def doBootWrite (cal : List CabCal) (s : State) : State :=
  match s.bootTurn 1 with
  | none => s
  | some (off, v) =>
    let t := (s.bootReg cal off v).bootNext
    if t.limitPassed && !s.limitPassed then t.failStart else t

/-- BOOT_WRITE: boot operation WRITE writes VALUE to a register with the PF's rights (R366). -/
def execBootWrite (cal : List CabCal) (s : State) : Host.Outcome State Fault Refusal := .next (doBootWrite cal s)

/-- WAIT of VALUE[15:0] µs. -/
def doBootWait (s : State) : State :=
  match s.bootTurn 2 with
  | none => s
  | some (_, v) => s.setBoot { s.boot with waitUntil := some (s.clock + v % 2 ^ 16 * cyclesPerUs) }

/-- BOOT_WAIT: boot operation WAIT starts to wait VALUE[15:0] microseconds (R366). -/
def execBootWait (s : State) : Host.Outcome State Fault Refusal := .next (doBootWait s)

/-- The wait is over and the program goes on. -/
def doBootWaitExpiry (s : State) : State :=
  match s.boot.waitUntil with
  | none => s
  | some c => if s.clock < c then s else (s.setBoot { s.boot with waitUntil := none }).bootNext

/-- BOOT_WAIT_EXPIRY: a boot WAIT ends and the program continues (R366). -/
def execBootWaitExpiry (s : State) : Host.Outcome State Fault Refusal := .next (doBootWaitExpiry s)

/-! ## Tables at start-up (R168, R169, R461) -/

/-- A table of the image: its number, descriptor and entries (Table 15-2). -/
structure ImageTable where
  num : Nat
  desc : Table
  entries : List EntryRec
  deriving DecidableEq, Repr

/-- n entry records of a table. -/
def entryRecs (w : Nat) : Nat → List Byte → List EntryRec
  | 0, _ => []
  | n + 1, b => entryOfBytes b w :: entryRecs w n (b.drop (16 + 2 * entryV w))

/-- Read section 1; `n` bounds the tables read. -/
def imageTables : Nat → List Byte → List ImageTable
  | 0, _ => []
  | n + 1, b =>
    if b.length < 136 then []
    else
      let h := leAt b 0 8
      let d := tableOfBytes (b.drop 8)
      let c := (h >>> 24) % 2 ^ 24
      let rest := b.drop 136
      { num := h % 64, desc := d, entries := entryRecs d.width c rest } :: imageTables n (rest.drop (c * (16 + 2 * entryV d.width)))

/-- The drawers of a table in a gallery as the descriptor rows record them (R128). -/
def State.tableDrawers (s : State) (g t : Nat) : List Nat :=
  (List.range 544).filter fun x => (s.drawer g x).st == .assigned && (s.drawer g x).tbl == t

/-- The drawer's recorded block lies in the block of 2^z codes from `first` on. -/
def Drawer.within (k : Drawer) (first z : Nat) : Bool :=
  !k.broad && decide (first ≤ k.block.1) && decide (k.block.1 + 2 ^ k.block.2 ≤ first + 2 ^ z)

/-- The bays of a block of codes: one bay where a drawer records the whole block or none records a part of it, else those of its halves.
First code, log2 size, drawers. -/
def blocksOf (ds : List (Nat × Drawer)) : Nat → Nat → List (Nat × Nat × List Nat)
  | 0, first => [(first, 0, (ds.filter fun e => e.2.within first 0).map (·.1))]
  | z + 1, first =>
    let own := ds.filter fun e => e.2.within first (z + 1)
    if own.all fun e => e.2.block == (first, z + 1) then [(first, z + 1, own.map (·.1))]
    else if own.any fun e => e.2.block == (first, z + 1) then [(first, z + 1, own.map (·.1))]
    else blocksOf ds z first ++ blocksOf ds z (first + 2 ^ z)

/-- The bays of a table in a gallery as the descriptor rows give them (R128, R234 step 7); one bay without drawers for a transient table. -/
def State.recordedBays (s : State) (t : Nat) (d : Table) (g : Nat) : List (Nat × Nat × List Nat) :=
  if d.transient then [(0, d.ncat, [])] else blocksOf ((s.tableDrawers g t).map fun x => (x, s.drawer g x)) d.ncat 0

/-- The table fits beside those allotted before it (R167, R461). -/
def State.fitsNow (s : State) (t : Nat) (d : Table) : Bool :=
  (d.galList.all fun g => decide (s.codesUsed g + 2 ^ d.ncat ≤ 16384) && decide ((s.recordedBays t d g).length ≤ (s.freeBays g).length)) &&
    decide (d.tallyNblk ≤ s.freeBlocks.length)

/-- A bay of a table is entered in the code map, its drawers recorded under its number. -/
def State.enterBay (s : State) (t g : Nat) (b : Nat × Nat × List Nat) : State :=
  let us := b.2.2.take 8
  let y := s.addBay g t b.1 b.2.1 us
  let num := (y.bays.getLast?.map (·.num)).getD 0
  y.recordBlock g us num (b.1, b.2.1)

/-- The drawers of a table that are in none of its bays form its broad set. -/
def State.enterBroad (s : State) (t g : Nat) : State :=
  let listed := (s.bays.filter fun b => b.g = g ∧ b.tbl = t).flatMap (·.units)
  { s with broad := s.broad ++ ((s.tableDrawers g t).filter fun x => !listed.contains x).map fun x => ⟨g, t, x⟩ }

/-- A table takes its code-map entries, bays and tally blocks; its bays and broad sets are rebuilt from the descriptor rows (R128, R168,
R234 step 7). -/
def State.allotStart (s : State) (t : Nat) (d : Table) : State :=
  let u := d.galList.foldl (fun (x : State) g => ((x.recordedBays t d g).foldl (fun y b => y.enterBay t g b) x).enterBroad t g) s
  State.giveBlocks d.tallyNblk t u

/-- Every entry of a table gets a counter again in ascending order of ID (R201). -/
def State.recount (s : State) (t : Nat) : State :=
  (sortBy (· ≤ ·) ((s.entries t).map (·.id))).foldl (fun (x : State) i => x.giveTally t i) s

/-- A table of the directory is checked: it takes its resources, or is out of service (R461). -/
def State.checkTable (s : State) (t : Nat) : State :=
  match s.table t with
  | none => s
  | some d =>
    if s.badTable d || !s.fitsNow t d then s
    else ((s.setTable t { d with outOfService := false }).allotStart t d).recount t

/-- A table of the image that the directory lacks is created and its entries are loaded, or IMAGE_DIFF is set; one in both is kept,
with IMAGE_DIFF where the descriptors differ (R169, R461). A transient table is empty on entry to service (C13), so none of the
image's entries are loaded for it; the others are loaded in order of priority (notes/assumptions/12.md). The bulk loader fenced halts the start (R367). -/
def State.imageTable (s : State) (i : ImageTable) : State :=
  match s.table i.num with
  | some d => if sameDesc d i.desc then s else s.put Reg.TBL_STATE_IMAGE_DIFF 1 i.num
  | none =>
    if s.badTable i.desc || !s.fitsNow i.num i.desc then s.put Reg.TBL_STATE_IMAGE_DIFF 1 i.num
    else if s.reqFenced 3 then s.haltStart 6
    else
      let d := { i.desc with learnLast := i.desc.learnBase + i.desc.learnCount - 1 }
      let t := (s.setTable i.num d).allotStart i.num d
      let key := fun (r : EntryRec) => prioKey d.ranked r.rank r.id
      let u := (if d.transient then [] else sortBy (fun a b => decide (key a ≤ key b)) i.entries).foldl (fun (x : State) r =>
        if d.badRecord r || (x.entry i.num r.id).isSome || x.tableFull i.num then x
        else x.loadRow i.num r.id r.rank r.dref r.value r.care) t
      (u.recount i.num).startLearning i.num

/-- The directory is checked, once, and the tables of the image are compared with it, in ascending table number (R461). -/
def State.startTables (s : State) (img : List ImageTable) : State :=
  let fresh := !s.boot.checked
  let t : State := if fresh then
    { s with boot := { s.boot with checked := true }, tallies := [],
             tables := s.tables.map fun e => (e.1, { e.2 with outOfService := true, blocks := [] }) } else s
  let u := (List.range 64).foldl (fun (x : State) n =>
    let y := if fresh && (t.table n).isSome then x.checkTable n else x
    (img.filter fun i => i.num = n).foldl State.imageTable y) t
  u.showDegraded

/-! ## APPLY (R367) -/

/-- Section 2: 16-byte records of site entries (R269). -/
def State.applySites : Nat → List Byte → State → State
  | 0, _, s => s
  | n + 1, b, s => if b.length < 16 then s
    else
      let w := St.defined (BitVec.ofNat 64 (leAt b 8 8))
      State.applySites n (b.drop 16) (s.setSite (leAt b 0 8 % 4096) { word := w, applied := w, before := w })

/-- Section 3: owner and descriptor bytes of each standing channel. -/
def standingList : Nat → List Byte → List (Nat × List Byte)
  | 0, _ => []
  | n + 1, b =>
    if b.length < 8 then []
    else
      let h := leAt b 0 8
      let len := (h >>> 16) % 512
      (h % 16, (b.drop 8).take len) :: standingList n (b.drop (8 + len))

/-- Standing channel i (R102): created in slot i with generation 1 under the checks of CHN_CREATE, or CREATE_FAIL. -/
def State.standingChannel (s : State) (i : Nat) (f : Nat) (b : List Byte) : State :=
  let t := templateOf b
  if s.badTemplate t 0 b.length || !s.mayReference f t.lookups || (s.chooseSlot f (i + 256)).isNone || !s.quotaFits t.qf then
    s.chanCause Reg.CHN_STATUS_CREATE_FAIL i
  else s.setChan i { t.channel f 1 .live with standing := true }

/-- Section 3 applied; more than 255 channels halt the start with cause 4. -/
def State.applyChannels (s : State) (b : List Byte) : State :=
  let l := standingList 256 b
  if 255 < l.length then s.haltStart 4 else (l.zipIdx).foldl (fun (x : State) e => x.standingChannel (e.2 + 1) e.1.1 e.1.2) s

/-- Section 4: static return-path entries (R274, R281). -/
def State.applyStatics : Nat → List Byte → State → State
  | 0, _, s => s
  | n + 1, b, s => if b.length < 8 then s
    else
      let w := leAt b 0 8
      State.applyStatics n (b.drop 8) (s.rptStaticPut (w % 2 ^ 24) ((w >>> 24) % 16)).1

/-- Section 5: WRD_PIN words (R255). -/
def State.applyPinWords (s : State) (b : List Byte) : State :=
  (List.finRange 16).foldl (fun (x : State) (i : Fin 16) =>
    if b.length < 8 * i.val + 8 then x
    else
      let v := leAt b (8 * i.val) 8
      let y := ((x.put Reg.WRD_PIN_BASE (v % 2 ^ 20) i).put Reg.WRD_PIN_COUNT ((v >>> 20) % 2 ^ 21) i).put Reg.WRD_PIN_TABLE ((v >>> 41) % 64) i
      doWrdPinEn i (v.testBit 47) y) s

/-- APPLY of a section: a reserved one halts the start with cause 4, one the directory does not name applies nothing (R367, R392). -/
def State.applySection (s : State) (n : Nat) : State :=
  if n = 0 ∨ 5 < n then s.haltProgram
  else
    let t := s.startTables (if n = 1 then (match sectionOf s.boot.body 1 with | some b => imageTables 64 b | none => []) else [])
    match sectionOf s.boot.body n with
    | none => t
    | some b =>
      if n = 2 then t.applySites 4096 b
      else if n = 3 then t.applyChannels b
      else if n = 4 then t.applyStatics 65536 b
      else if n = 5 then t.applyPinWords b
      else t

/-- APPLY applies image section VALUE[7:0]. -/
def doBootApply (s : State) : State :=
  match s.bootTurn 3 with
  | none => s
  | some (_, v) => (s.applySection (v % 256)).bootNext

/-- BOOT_APPLY: boot operation APPLY applies one image section under its owning rules (R367). -/
def execBootApply (s : State) : Host.Outcome State Fault Refusal := .next (doBootApply s)

/-! ## Seal (R368) -/

/-- Ranges of virtual functions: CHN_LO ≤ CHN_HI or no range, and none overlaps another. -/
def State.mapOk (s : State) : Bool :=
  let lo := fun f => s.get Reg.BOOT_PMAP_CHN_LO f
  let hi := fun f => s.get Reg.BOOT_PMAP_CHN_HI f
  let fs := (List.range 16).drop 1
  (fs.all fun f => lo f == 0 || decide (lo f ≤ hi f)) &&
    fs.all fun f => fs.all fun g => g == f || lo f == 0 || lo g == 0 || decide (hi f < lo g) || decide (hi g < lo f)

/-- The map is checked and the registers sealed, or the start halts with cause 5. -/
def State.seal (s : State) : State := if s.mapOk then s.put Reg.BOOT_STATUS_SEALED 1 else s.haltStart 5

/-- SEAL. -/
def doBootSeal (s : State) : State :=
  match s.bootTurn 4 with
  | none => s
  | some _ => s.seal.bootNext

/-- BOOT_SEAL: boot operation SEAL checks the protection map and seals the sealed registers (R368). -/
def execBootSeal (s : State) : Host.Outcome State Fault Refusal := .next (doBootSeal s)

/-! ## Steps 9 and 10 (R361, R363) -/

/-- The counter's value at the first boundary of service state: an armed preset, ignored under the follower source, else 0 (R33). -/
def State.firstTick (s : State) : Tick :=
  if s.get Reg.TCK_CTRL_SRC ≠ 2 ∧ s.flag Reg.TCK_PRESET_ARM = true then s.get Reg.TCK_PRESET_VALUE else 0

/-- The internal source runs at PERIOD from the first boundary on (R37); another source is still to be measured. -/
def State.startSource (s : State) : State :=
  let internal : Bool := s.get Reg.TCK_CTRL_SRC == 0
  let t := if internal then (s.put Reg.TCK_MEAS_PMEAS (s.get Reg.TCK_PERIOD_PERIOD)).put Reg.TCK_STATUS_LOCKED 1 else s
  (t.setTick { t.tick with last := t.clock, first := s.firstTick, fresh := !internal }).showLatency.reblock

/-- Events held in start-up are delivered at entry to service state, oldest first (R363, R437). -/
def State.deliverHeld (s : State) : State :=
  (s.boot.held.foldl (fun (x : State) n => x.deliver n true) (s.setBoot { s.boot with held := [] }))

/-- Step 10 and entry to service state (R363, R372, R376, R383). -/
def State.serviceEntry (s : State) : State :=
  let us := (s.clock - s.boot.timer.getD s.clock) / cyclesPerUs
  let t := (s.toStep 10).writeLedger { s.ledger.getD {} with count := 0, pend := false, clr := false }
  let u : State := { t.put Reg.BOOT_TIME_START_US us with
    mode := .service, boot := { t.boot with timer := none, training := false, serviceAt := t.clock },
    dorm := { t.dorm with phase := .awake, idleFrom := t.clock }, cur := { t.cur with sweepFrom := t.clock, rateFrom := t.clock } }
  let v := (u.deliverHeld).raise Ev.BOOT_DONE
  let w := if 1 ≤ s.boot.countRead ∨ s.boot.clrRead = true then v.raise Ev.RECOVERY else v
  let x := if s.flag Reg.BOOT_STATUS_WAKE then w.raise Ev.WAKE else w
  let y := (List.range 16).foldl State.grantCredits x.startSource
  (y.oweLog 1 (10 + 16 * s.get Reg.BOOT_STATUS_WAKE + 2 ^ 32 * y.get Reg.BOOT_TIME_START_US)).grantSeam.greet.decideAttach

/-- The links that train at step 9. -/
def State.enabledLinks (s : State) : List Link := allLinks.filter s.linkEn

/-- Step 9 ends when every link that trains is UP (R361). -/
def State.trainingOver (s : State) : Bool := s.enabledLinks.all fun l => (s.link l).st == .up

/-- Step 9 has ended. -/
def State.endTraining (s : State) : State := if s.mode = .startUp ∧ s.boot.training = true ∧ s.trainingOver = true then s.serviceEntry else s

/-- Step 9 begins: every enabled link trains, all at once (R361). -/
def State.beginTraining (s : State) : State :=
  let t := (s.toStep 9).setBoot { s.boot with training := true }
  (t.enabledLinks.foldl State.startTraining t).endTraining

/-- END seals where SEAL has not run, checks the tables where no APPLY has, and ends step 8 (R366, R368). -/
def doBootEnd (s : State) : State :=
  match s.bootTurn 0 with
  | none => s
  | some _ =>
    let t := (s.startTables []).put Reg.BOOT_PROG_PC s.boot.pc
    let u := if t.unsealed then t.seal else t
    if u.flag Reg.BOOT_STATUS_HALTED then u else u.beginTraining

/-- BOOT_END: boot operation END seals if SEAL has not run and ends step 8 (R366). -/
def execBootEnd (s : State) : Host.Outcome State Fault Refusal := .next (doBootEnd s)

/-- LINK_TRAINING_TIMEOUT (R361): step 9 ends 100 ms after it began, and service state is entered. -/
def doLinkTrainingTimeout (s : State) : State := if s.mode = .startUp ∧ s.boot.training = true then s.serviceEntry else s

/-- LINK_TRAINING_TIMEOUT: step 9 ends 100 ms after it began with links not yet UP (R361). -/
def execLinkTrainingTimeout (s : State) : Host.Outcome State Fault Refusal := .next (doLinkTrainingTimeout s)

/-! ## Steps 1 to 8 (R360) -/

/-- Step 5: the array is powered and calibrated; codes far from their stored ones end the drift history (R221, R224). -/
def State.calibrateStart (s : State) (cal : List CabCal) : State :=
  let far := fun (c : CabCal) => match c.mref, c.rref with
    | some m, some r => decide (s.get Reg.CUR_CAL_DRIFT_LIMIT < (driftOf (midpoint m, midpoint r) (s.cab c.cab).code).natAbs)
    | _, _ => false
  let t := (s.toStep 5).calibrateAll cal true
  if cal.any far then t.dropHistory else t

/-- The start before this one failed: this one selects a copy and logs what the ledger says of it (Table 15-3). -/
def State.logFailed (s : State) : State :=
  if 1 ≤ s.boot.countRead ∨ s.boot.clrRead = true then s.oweLog 2 ((s.ledger.getD {}).cause + 256 * (s.ledger.getD {}).step) else s

/-- Steps 3 (its end) to 8: the start timer starts, the ledger, calibration, the image, the inventory pass, the boot program. -/
def State.startOn (s : State) (cal : List CabCal) : State :=
  let t := (s.setBoot { s.boot with timer := some s.clock }).ledgerStep
  if t.mode = .recovery then t
  else
    let r := ((t.calibrateStart cal).toStep 6).selectImage
    if r.2 = false then r.1.haltStart 3
    else
      let u := (r.1.logFailed.toStep 7).inventory.toStep 8
      (u.setBoot { u.boot with pc := 0 }).lookAhead

/-- The start sequence begins (R360): steps 1 and 2, then step 3, which waits for the unwatched rails (R444). -/
def State.startSeq (s : State) (cal : List CabCal) : State := if s.pins.unwatched then (s.toStep 3).startOn cal else s.toStep 3

/-- Every watched rail is in range. -/
def Pins.watched (p : Pins) : Bool := p.core && p.sds && p.io && p.aon

/-- Held at step 1 (R356). -/
def State.atStep1 (s : State) : Bool := s.mode == .startUp && s.get Reg.BOOT_STATUS_STEP == 1

/-- Change the pins. -/
def State.setPins (s : State) (p : Pins) : State := { s with pins := p }

/-- RESET_L_ASSERT (R356): a pulse below 250 ns is ignored; a longer one is a reset, once. -/
def doResetLAssert (lowNs : Nat) (s : State) : State :=
  if lowNs < 250 ∨ s.pins.resetL = false then s else (s.wiped false).setPins { s.pins with resetL := false, pcieUp := false }

/-- RESET_L_ASSERT: RESET_L low for 250 ns or more resets the whole device (R356). -/
def execResetLAssert (lowNs : Nat) (s : State) : Host.Outcome State Fault Refusal := .next (doResetLAssert lowNs s)

/-- RESET_L_RELEASE (R356, R360): the start sequence begins when every watched rail is in range. -/
def doResetLRelease (cal : List CabCal) (s : State) : State :=
  if s.pins.resetL then s
  else
    let t := s.setPins { s.pins with resetL := true }
    if t.pins.watched && t.atStep1 then t.startSeq cal else t

/-- RESET_L_RELEASE: the rising edge of RESET_L, with every watched rail in range, begins the start sequence (R360). -/
def execResetLRelease (cal : List CabCal) (s : State) : Host.Outcome State Fault Refusal := .next (doResetLRelease cal s)

/-- A rail leaves its range. -/
def Pins.drop (p : Pins) (r : Rail) : Pins :=
  let q := { p with unwatched := false, pcieUp := false }
  match r with
  | .core => { q with core := false }
  | .sds => { q with sds := false }
  | .io => { q with io := false }
  | .aon => { q with aon := false }

/-- POWER_DETECTOR_TRIP (R356, R442): a dip below 200 ns is ignored; a trip resets the device, and VDD_AON's clears LAST_WAKE.
Without VDD_IO the TAP is unpowered; it comes back in Test-Logic-Reset, as IEEE 1149.1 has it. -/
def doPowerDetectorTrip (r : Rail) (lowNs : Nat) (s : State) : State :=
  if lowNs < 200 then s
  else
    let t := (s.wiped (r != .aon)).setPins (s.pins.drop r)
    if r = .io then { t with tap := {} } else t

/-- POWER_DETECTOR_TRIP: a watched rail stays below its trip level for 200 ns and the device is reset (R442). -/
def execPowerDetectorTrip (r : Rail) (lowNs : Nat) (s : State) : Host.Outcome State Fault Refusal := .next (doPowerDetectorTrip r lowNs s)

/-- RAILS_IN_RANGE (R356): with RESET_L high the start sequence begins. -/
def doRailsInRange (cal : List CabCal) (s : State) : State :=
  if s.pins.watched then s
  else
    let t := s.setPins { s.pins with core := true, sds := true, io := true, aon := true }
    if t.pins.resetL && t.atStep1 then t.startSeq cal else t

/-- RAILS_IN_RANGE: every watched rail has been in range for 100 µs and RESET_L is high, so the start sequence begins (R356). -/
def execRailsInRange (cal : List CabCal) (s : State) : Host.Outcome State Fault Refusal := .next (doRailsInRange cal s)

/-- UNWATCHED_RAIL_IN_RANGE (R444): step 3 ends once the unwatched rails are in range. -/
def doUnwatchedRail (cal : List CabCal) (s : State) : State :=
  if s.pins.unwatched then s
  else
    let t := s.setPins { s.pins with unwatched := true }
    if t.mode = .startUp ∧ t.get Reg.BOOT_STATUS_STEP = 3 ∧ t.boot.timer.isNone = true then t.startOn cal else t

/-- UNWATCHED_RAIL_IN_RANGE: the last unwatched rail is in range and step 3 ends (R444). -/
def execUnwatchedRailInRange (cal : List CabCal) (s : State) : Host.Outcome State Fault Refusal := .next (doUnwatchedRail cal s)

end Sys2Proof.Machine
end

