-- ==== Sys2Proof/Machine/LinkTrain.lean ====
section
/-! DEFINITION. The HELLO handshake and link down, which every kind of link shares (R69, R70, R308, R337) with what each kind does on
entering and on leaving UP (R79, R312, R331, R349, R361). -/

namespace Sys2Proof.Machine

/-- A link has entered UP: a seam greets its twin in service, and step 9 may end (R312, R361). -/
def State.afterUp (s : State) (l : Link) : State :=
  let t := if l = .seam then s.greet.decideAttach else s
  t.endTraining

/-- The GRANT of a port's producer (R83, Table 3-6). -/
def State.takeGrant (s : State) (l : Link) (grant : Nat) : State :=
  match l with
  | .port p => s.put Reg.PRT_CREDIT_OUT_GRANT grant p.val
  | .seam | .up | .down => s

/-- HELLO (R69): the answer is a HELLO with ACK; the link is UP once an ACK has been received and one sent. -/
def doHello (l : Link) (f : Flit) (s : State) : State :=
  let k := s.link l
  if s.mayTrain = true ∧ k.st = .hello ∧ Lf.kind f = kHello then
    let a := k.gotAck || Lf.ack f
    let t := ((s.setLink l { k with gotHello := true, gotAck := a, sentAck := true }).sendLink l (.hello (helloPort l) true)).takeGrant l (Lf.grant f)
    if a then (t.linkUp l).afterUp l else t
  else s

/-- HELLO: a HELLO link flit received in training may bring the link to UP (R69). -/
def execHello (l : Link) (f : Flit) (s : State) : Host.Outcome State Fault Refusal := .next (doHello l f s)

/-- The link-down condition holds: the window of R70 counts more than 8 uncorrectable codewords on one lane. -/
def LinkSt.downBy (k : LinkSt) (why : DownCause) : Bool :=
  match why with
  | .clockLost | .codewordLost => true
  | .uncorrectable => k.uncorr.any fun e => decide (8 < k.window e.1 e.2)

/-- A link goes from UP to SEEK (R70): a port by its own rules, a twin detaches at the next boundary (R331), a cascade member
tells the coordinator (R349). -/
def State.linkDown (s : State) (l : Link) : State :=
  match l with
  | .port p => s.portDown p.val
  | .seam => (s.toState .seam .seek).detachSoon 1
  | .up => (s.toState .up .seek).cscLost false
  | .down => (s.toState .down .seek).cscLost true

/-- LINK_DOWN (R70). -/
def doLinkDown (l : Link) (why : DownCause) (s : State) : State :=
  if (s.link l).st = .up ∧ (s.link l).downBy why = true then s.linkDown l else s

/-- LINK_DOWN: a link-down condition takes the link from UP to SEEK (R70). -/
def execLinkDown (l : Link) (why : DownCause) (s : State) : Host.Outcome State Fault Refusal := .next (doLinkDown l why s)

end Sys2Proof.Machine
end

