-- ==== Sys2Proof/Machine/Tap.lean ====
section
/-! DEFINITION. The TAP and the fuse map (R451 to R453), the pins' states (R370, R446, R451, Tables 13-5, 14-1, 17-7) and the ball
map (R447 to R450). -/

namespace Sys2Proof.Machine

/-! ## The TAP (R452, R453) -/

/-- The TAP answers in every state but dormancy, in which JTAG is unpowered (R380), while VDD_IO is present. -/
def State.tapAlive (s : State) : Bool := s.mode != .dormant && s.pins.io

/-- The IDCODE (R452); its JEP106 code is the manufacturer's, which the manual does not give (notes/assumptions/10.md). -/
def idcodeWord : Nat := 0x18640001 + 2 * Config.jep106.toNat

/-- The bits of the boundary-scan register that the manual does not lay out (notes/assumptions/10.md). -/
def State.scanBits (s : State) : BitVec 128 := BitVec.ofNat 128 s.peek

/-- A TAP instruction takes effect with what its data register captures. -/
def State.tapLoad (s : State) (i : TapIr) (dr : BitVec 128) : State :=
  if s.tapAlive then { s with tap := { ir := i, dr := dr } } else s

/-- An instruction that captures the boundary-scan register: a value drawn. -/
def State.tapScan (s : State) (i : TapIr) : State := if s.tapAlive then (s.tapLoad i s.scanBits).drawn else s

/-- TAP_RESET: Test-Logic-Reset selects IDCODE (R452). -/
def doTapReset (s : State) : State := s.tapLoad .idcode 0

/-- EXTEST: the TAP selects the boundary-scan register for the pins (R452, Table 17-8). -/
def execExtest (s : State) : Host.Outcome State Fault Refusal := .next (s.tapScan .extest)

/-- IDCODE: the TAP captures 0x1864_0xxx (R452). -/
def execIdcode (s : State) : Host.Outcome State Fault Refusal := .next (s.tapLoad .idcode (BitVec.ofNat 128 idcodeWord))

/-- SAMPLE/PRELOAD: the TAP selects the boundary-scan register (R452, Table 17-8). -/
def execSamplePreload (s : State) : Host.Outcome State Fault Refusal := .next (s.tapScan .sample)

/-- HIGHZ: the TAP selects bypass (R452, Table 17-8). -/
def execHighz (s : State) : Host.Outcome State Fault Refusal := .next (s.tapLoad .highz 0)

/-- CLAMP: the TAP selects bypass (R452, Table 17-8). -/
def execClamp (s : State) : Host.Outcome State Fault Refusal := .next (s.tapLoad .clamp 0)

/-- EXTEST_PULSE: the TAP selects the boundary-scan register for the lanes (R452, R457). -/
def execExtestPulse (s : State) : Host.Outcome State Fault Refusal := .next (s.tapScan .extestPulse)

/-- EXTEST_TRAIN: the TAP selects the boundary-scan register for the lanes (R452, R457). -/
def execExtestTrain (s : State) : Host.Outcome State Fault Refusal := .next (s.tapScan .extestTrain)

/-- FUSE_READ: the TAP captures the 128 fuse bits, sensed anew (R452, Table 17-8). -/
def execFuseRead (s : State) : Host.Outcome State Fault Refusal := .next (s.tapLoad .fuseRead s.fuses)

/-- BYPASS, and every code Table 17-8 does not name: the one bypass bit, captured as 0 (R452). -/
def execBypass (_code : BitVec 8) (s : State) : Host.Outcome State Fault Refusal := .next (s.tapLoad .bypass 0)

/-- TAP_RESET: TRST_L, or Test-Logic-Reset, puts the TAP back to IDCODE (R452). -/
def execTapReset (s : State) : Host.Outcome State Fault Refusal := .next (doTapReset s)

/-- Field k of the fuse map (R451). -/
def fuseField (f : BitVec 128) (k : Nat) : Nat := bits f (3 * k + 2) (3 * k)

/-- The bits that FUSE_PROG sets in the user area: every blank field from the shifted value, and LOCK (R453). -/
def fuseGain (f : BitVec 128) (v : BitVec 64) : BitVec 128 :=
  let fields := (List.range 19).foldl (fun a k => if fuseField f k = 0 then a + bits v (3 * k + 2) (3 * k) * 2 ^ (3 * k) else a) 0
  BitVec.ofNat 128 (fields + (if bitOf v 63 then 2 ^ 63 else 0))

/-- FUSE_PROG (R453): only while RESET_L is low, VDD_PROG is in range and LOCK is 0. -/
def doFuseProg (v : BitVec 64) (s : State) : State :=
  if s.tapAlive then
    let t := s.tapLoad .fuseProg (v.setWidth 128)
    if s.pins.resetL = false ∧ s.pins.unwatched = true ∧ bitOf s.fuses 63 = false then { t with fuses := s.fuses ||| fuseGain s.fuses v } else t
  else s

/-- FUSE_PROG: at Update-DR each blank pin field is programmed from the shifted value, and LOCK (R453). -/
def execFuseProg (v : BitVec 64) (s : State) : Host.Outcome State Fault Refusal := .next (doFuseProg v s)

end Sys2Proof.Machine
end

