-- ==== Sys2Proof/Machine/Dormancy.lean ====
section
/-! DEFINITION. The idle timer, entry to dormancy and wake (14_dormancy.md). -/

namespace Sys2Proof.Machine

/-- Change what dormancy and wake hold. -/
def State.setDorm (s : State) (d : Dorm) : State := { s with dorm := d }

/-! ## The idle timer (R377) -/

/-- Work that keeps the idle timer at its full value: a command in execution, an open edit group, a bulk synchronisation, a
membership change (R377). -/
def State.keepsAwake (s : State) : Bool :=
  s.host.engine.isSome || !s.groups.isEmpty || s.seam.pair == .source || s.seam.pair == .target || s.csc.change.isSome

/-- The idle timer has run out (R377, R378). -/
def State.idleOver (s : State) : Bool :=
  s.idleRuns && !s.keepsAwake && decide (s.dorm.idleFrom + s.idleLimit * cyclesPerMs ≤ s.clock)

/-- IDLE_TIMER_EXPIRY (R378): the point of no return. -/
def doIdleTimerExpiry (s : State) : State := if s.idleOver then s.setDorm { s.dorm with phase := .expired, latched := none } else s

/-- IDLE_TIMER_EXPIRY: the idle timer expires and entry to dormancy begins (R378). -/
def execIdleTimerExpiry (s : State) : Host.Outcome State Fault Refusal := .next (doIdleTimerExpiry s)

/-- At a tick boundary the idle timer goes on at its full value while work keeps it there (R377). -/
def State.idleBoundary (s : State) : State := if s.keepsAwake then s.setDorm { s.dorm with idleFrom := s.clock } else s

/-- Every dirty line is on its way to the store, through the staging buffer and requester 12 (R264, R265). -/
def State.storeAll (s : State) : State := s.setWrd (s.wrd.dirtyLines.foldl Wardrobe.toStore s.wrd)

/-- The entry boundary (R378 step 1): EV_DORMANT; admission closes and no credit is granted from here on. Dirty lines
go to the store (R265). -/
def State.entryBoundary (s : State) : State :=
  if s.dorm.phase = .expired then
    (((s.setDorm { s.dorm with phase := .entering }).raise Ev.DORMANT).oweLog 5 (s.get Reg.PWR_IDLE_IDLE_MS)).storeAll
  else s

/-! ## Gating (R378 steps 2 to 5) -/

/-- Learned entries whose journal row is not written. -/
def State.unpersisted (s : State) : List Row := s.rows.filter fun r => r.loc.isVest && !r.persisted

/-- Learned entries whose journal row is not written are persisted (R193). -/
def State.persistAll (s : State) : State :=
  s.unpersisted.foldl (fun (x : State) r => doLearnPersist (Fin.ofNat 64 r.tbl) (BitVec.ofNat 24 r.id) x) s

/-- The digest of every dirty drawer is saved (R233). -/
def State.saveDigests (s : State) : State :=
  (s.drawers.filter fun e => e.2.dirty).foldl (fun (x : State) e => x.saveDigest (e.1 / 544) (e.1 % 544)) s

/-- What must last goes on to the medium: dirty lines and learned entries (R378 step 4). -/
def State.putAway (s : State) : State := s.storeAll.persistAll

/-- What must last is on the medium: entry waits for that (R265, R378), also while a requester that writes it is fenced (R302). -/
def State.isPutAway (s : State) : Bool := s.wrd.dirtyLines.isEmpty && s.unpersisted.isEmpty

/-- Steps 3 and 4 of R378. -/
def State.sayGoodbye (s : State) : State :=
  let u := ((if s.seam.pair = .paired then s.sayBye else s).cscGoodbye).saveDigests
  u.setCur { u.cur with saved := u.cur.balance }

/-- The level of each GPIO pin: BOOT_GPIO.OUT where DIR is 1, else what the board drives. -/
def State.gpioLevels (s : State) : BitVec 8 :=
  let d := BitVec.ofNat 8 (s.get Reg.BOOT_GPIO_DIR)
  (BitVec.ofNat 8 (s.get Reg.BOOT_GPIO_OUT) &&& d) ||| (s.pins.gpioIn &&& ~~~d)

/-- The wake arming as the always-on domain holds it, with the direction of the GPIO pins it holds (R380). -/
def State.keepArmed (s t : State) : State :=
  [Reg.PWR_WAKE_EN_PORT_EN, Reg.PWR_WAKE_EN_PAT_ONLY, Reg.PWR_WAKE_EN_SEAM, Reg.PWR_WAKE_EN_PCIE, Reg.BOOT_GPIO_DIR].foldl
    (fun (x : State) F => x.put F (s.get F)) t

/-- Every domain but the always-on domain is gated: nothing volatile stays (R378 step 5, R380). The latch of a detection
during entry is kept (R384). -/
def State.gated (s : State) : State :=
  let t := s.keepArmed (s.wiped true)
  let u : State := { t with mode := .dormant, pins := { t.pins with gpioHeld := s.gpioLevels } }
  u.setDorm { u.dorm with latched := s.dorm.latched }

/-! ## Wake (R381 to R384) -/

/-- What the armed detectors report (Table 14-2): lane activity only where PAT_ONLY is 0. -/
def State.armed (s : State) (w : WakeSeen) : WakeSeen :=
  let en := BitVec.ofNat 16 (s.get Reg.PWR_WAKE_EN_PORT_EN)
  let only := BitVec.ofNat 16 (s.get Reg.PWR_WAKE_EN_PAT_ONLY)
  { act := w.act &&& en &&& ~~~only, pat := w.pat &&& en, seam := w.seam && s.flag Reg.PWR_WAKE_EN_SEAM,
    pcie := w.pcie && s.flag Reg.PWR_WAKE_EN_PCIE }

/-- Some source fires. -/
def wakeFires (w : WakeSeen) : Bool := w.act != 0 || w.pat != 0 || w.seam || w.pcie

/-- LAST_WAKE (R384): the sources of the first cycle, the lowest port, the dormant time; COUNT goes up and saturates. -/
def LastWake.next (a : LastWake) (w : WakeSeen) (race : Bool) (dormantS : Nat) : LastWake :=
  let ports := w.act ||| w.pat
  { valid := true, portAct := w.act != 0, portPat := w.pat != 0, seam := w.seam, pcie := w.pcie, race := race,
    port := ((List.range 16).find? fun p => ports.getLsbD p).getD 0, count := min (a.count + 1) 65535, dormantS := min dormantS (2 ^ 32 - 1) }

/-- A wake (R383): LAST_WAKE is recorded and a power-on reset with the wake flag begins the start sequence. The TAP is powered
again and so in Test-Logic-Reset. -/
def State.wake (s : State) (w : WakeSeen) (race : Bool) (dormantS : Nat) (cal : List CabCal) : State :=
  let t := (s.setDorm { s.dorm with aon := s.dorm.aon.next w race dormantS }).wiped true
  (({ t with tap := {} } : State).put Reg.BOOT_STATUS_WAKE 1).startSeq cal

/-- DORMANCY_GATING (R378, R384): once the last verdict has left and what must last is written, the domains are gated; a
detection that was latched then wakes the device at once. -/
def doDormancyGating (cal : List CabCal) (s : State) : State :=
  if s.mode = .service ∧ s.dorm.phase = .entering ∧ s.drained = true then
    let p := s.putAway
    if p.isPutAway then
      match s.dorm.latched with
      | none => p.sayGoodbye.gated
      | some w => p.sayGoodbye.gated.wake w true 0 cal
    else p
  else s

/-- DORMANCY_GATING: after drain and writebacks, the pins are held and the domains gated (R378). -/
def execDormancyGating (cal : List CabCal) (s : State) : Host.Outcome State Fault Refusal := .next (doDormancyGating cal s)

/-- WAKE_DETECT (R383, R384): in dormancy it wakes the device; from the expiry until gating it is latched. -/
def doWakeDetect (w : WakeSeen) (dormantS : Nat) (cal : List CabCal) (s : State) : State :=
  let a := s.armed w
  if wakeFires a = false then s
  else if s.mode = .dormant then s.wake a false dormantS cal
  else if s.dorm.phase ≠ .awake ∧ s.dorm.latched.isNone = true then s.setDorm { s.dorm with latched := some a }
  else s

/-- WAKE_DETECT: an armed wake source fires; LAST_WAKE is recorded and the domains power on (R383). -/
def execWakeDetect (w : WakeSeen) (dormantS : Nat) (cal : List CabCal) (s : State) : Host.Outcome State Fault Refusal :=
  .next (doWakeDetect w dormantS cal s)

end Sys2Proof.Machine
end

