-- ==== Sys2Proof/Machine/Tick.lean ====
section
/-! DEFINITION. The tick boundary (R32): the counter and its preset, everything that a boundary applies, the tick and CREDIT flits, the
power governor, admission. -/

namespace Sys2Proof.Machine

/-! ## The counter (R32, R33, R44) -/

/-- A boundary may fall: in service state once a period is measured and the tick in progress has lasted its planned length, or has
been ended by the edge or marker it waits for (R32, R38, R39, R44); in recovery state the counter runs from the internal source
(C10, notes/assumptions/67.md). -/
def State.boundaryDue (s : State) : Bool :=
  match s.mode with
  | .recovery => !s.tick.started || decide (s.tick.last + s.get Reg.TCK_PERIOD_PERIOD ≤ s.clock)
  | .service => s.period != 0 && (!s.tick.started || (!s.tick.await && decide (s.tick.last + s.tick.len ≤ s.clock)))
  | .startUp | .dormant => false

/-- The number of the tick that a boundary opens: the marker's under the follower source (R44), otherwise one up, or the first
one, which entry to service state fixed (R33). -/
def State.tickOpened (s : State) : Tick :=
  match s.tick.marker with
  | some m => if s.get Reg.TCK_CTRL_SRC = 2 then m else if s.tick.started then tickAdd s.tick.now 1 else s.tick.first
  | none => if s.tick.started then tickAdd s.tick.now 1 else s.tick.first

/-- Full ticks measured under the source (R37, R38, R42, R45): the boundary that opens the first of them counts none. -/
def TickUnit.fullNext (t : TickUnit) (locked : Bool) : Nat :=
  if t.started = false ∨ t.fresh = true then 0 else if locked then min (t.full + 1) 2 else t.full

/-- The counter moves; the tick that ends is the next to be planned (R33, R47). The new tick is planned to last P; under the follower
source it lasts until the next marker, or until a marker is missed (R44). -/
def State.openTick (s : State) : State :=
  let n := s.tickOpened
  let t := s.tick
  let locked := s.flag Reg.TCK_STATUS_LOCKED
  s.setTick { t with now := n, plan := if t.started then t.now else n, started := true, openPrev := t.open_, last := s.clock, len := s.period,
                     await := locked && s.get Reg.TCK_CTRL_SRC == 2, marker := none, full := t.fullNext locked, fresh := t.fresh && t.started && !locked }

/-- A tick is lengthened by the mean offset, in whole cycles up to 4; the expected position moves, the stored offsets shrink
(R39). -/
def State.stretch (s : State) : State :=
  let n := min (s.tick.meanOffset / 16).toNat 4
  if s.get Reg.TCK_CTRL_SRC = 1 ∧ s.flag Reg.TCK_STATUS_LOCKED = true ∧ s.flag Reg.TCK_STATUS_LOST = false ∧ 1 ≤ n then
    let t := s.setTick { s.tick with len := s.tick.len + n, expected := s.tick.expected + n, offsets := s.tick.offsets.map (· - 16 * (n : Int)) }
    (t.bump Reg.TCK_MEAS_STRETCH n).showOffset
  else s

/-! ## Links at a boundary -/

/-- Transmit credits returned during the tick may be used from here on (R93). -/
def State.useCredits (s : State) : State :=
  (List.range 16).foldl (fun (x : State) p =>
    let q := x.port p
    if q.link.newCredit = 0 then x
    else
      (x.setPort p { q with link := { q.link with newCredit := 0 } }).put Reg.PRT_CREDIT_OUT_HELD
        (min (x.get Reg.PRT_CREDIT_OUT_HELD p + q.link.newCredit) 65535) p) s

/-- The links on which a TICK flit goes out: every port in UP (R89), the seam of a leader (R310, R314), both cascade ports of a
device in the ring (R338). -/
def State.tickLinks (s : State) : List Link :=
  allLinks.filter fun l => (s.link l).st == .up && (match l with
    | .port _ => true
    | .seam => s.seam.role == 1
    | .up | .down => s.inRing)

/-- The links on which a CREDIT flit goes out in every tick (R80, R310); cascade ports grant none (R337). -/
def State.creditLinks (s : State) : List Link :=
  allLinks.filter fun l => (s.link l).st == .up && (match l with
    | .port _ | .seam => true
    | .up | .down => false)

/-- The TICK flits of a boundary: the first flit of the tick on each link, before whatever else the boundary sends (R89, R310). -/
def State.sendTicks (s old : State) : State :=
  let flits := s.tickLinks.map fun l => Output.link l (s.txLane l) (LinkFlit.tick s.tick.now (s.flag Reg.TCK_STATUS_ADMIT_OPEN)).flit
  { s with out := s.out ++ (flits.reverse ++ old.out) }

/-- Codewords corrected since the last boundary (Table 3-6). -/
def State.countFec (s : State) (b : Boundary) : State :=
  b.fecCorr.foldl (fun (x : State) e => if x.portUp e.1 then x.bump Reg.PRT_CNT_FEC_CORR_COUNT e.2 e.1 else x) s

/-! ## The array at a boundary -/

/-- A drawer with no valid row, which nothing is about to use (R128). -/
def State.releasable (s : State) (g x : Nat) : Bool :=
  (s.drawer g x).st == .assigned && (s.drawerRows g x).isEmpty && (s.targeting g x).isEmpty &&
    !(s.cur.clearQ.any fun l => l.inDrawer g x) && s.cur.retire != some (g, x / 17, x % 17) &&
    !s.cur.swaps.any fun w => w.g == g && w.c == x / 17 && (w.d == x % 17 || w.s == x % 17)

/-- The drawer returns to the gallery's free drawers, its REJECTS count cleared (Table 5-9). -/
def State.releaseDrawer (s : State) (g x : Nat) : State :=
  let t := s.setDrawer g x { s.drawer g x with st := .free, tbl := 0, width := 0, broad := false, bay := 0, block := (0, 0), rejects := 0, rejectsAt := 0 }
  { t with bays := t.bays.map (fun b => if b.g = g ∧ !((t.table b.tbl).any Table.transient) then { b with units := b.units.filter (· != x) } else b),
           broad := t.broad.filter fun b => !(b.g == g && b.unit == x && !((t.table b.tbl).any Table.transient)) }

/-- Every drawer with no valid row is released (R128). -/
def State.releaseDrawers (s : State) : State :=
  (s.drawers.map (·.1)).foldl (fun (x : State) k =>
    if x.releasable (k / 544) (k % 544) then x.releaseDrawer (k / 544) (k % 544) else x) s

/-- The activations of the last 1,024 ticks (R163). -/
def State.actWindow (s : State) : State := { s with acts := s.acts.filter fun a => decide (tickSub s.tick.now a.1 ≤ 1024) }

/-- Mean activations per search in gallery g, in units of 1/256 (R163). -/
def State.actMean (s : State) (g : Nat) : Nat :=
  let l := (s.acts.filter fun a => a.2.1 = g).map (·.2.2)
  if l.isEmpty then 0 else 256 * l.sum / l.length

/-- A table's broad set reaches SKEW_BROAD, or the mean reaches SKEW_ACT; 0 disables a condition (R163). -/
def State.skewed (s : State) (g : Nat) : Bool :=
  let b := s.get Reg.GAL_CTRL_SKEW_BROAD g
  let a := s.get Reg.GAL_CTRL_SKEW_ACT g
  (b != 0 && (List.range 64).any fun t => decide (b ≤ (s.broadUnits g t).length)) || (a != 0 && decide (256 * a ≤ s.actMean g))

/-- GAL_ACT_MEAN, and the skew of every gallery (R163). -/
def State.galleries (s : State) : State :=
  (List.range 8).foldl (fun (x : State) g =>
    let y := x.put Reg.GAL_ACT_MEAN_MEAN (min (x.actMean g) 65535) g
    if y.skewed g then (y.put Reg.GAL_STATUS_SKEW 1 g).raiseEp (Ev.CATALOGUE_SKEW g) else y) s.actWindow

/-- CUR_WEAR_RATE: programmings of the last second, in units of 256 (Table 7-3). -/
def State.wearRate (s : State) : State :=
  if s.cur.rateFrom + cyclesPerS ≤ s.clock then
    (s.put Reg.CUR_WEAR_RATE_RATE (s.cur.programmed / 256)).setCur { s.cur with programmed := 0, rateFrom := s.clock }
  else s

/-! ## Admission (R59, R61) -/

/-- Admission opens or stays closed for the tick that this boundary opens; after the entry boundary of dormancy it is closed. -/
def State.admission (s : State) : State :=
  let c := s.blockCause
  if c = 0 ∧ s.dorm.phase ≠ .entering then s.openAdmission else (s.setTick { s.tick with open_ := false }).setBlock c false

/-! ## The boundary -/

/-- What a planned record keeps until its last verdict has left. -/
def State.purge (s : State) : State := { s with planned := s.planned.filter fun r => !(r.formed && r.dest.isEmpty) }

/-- The catalogue as it stood at the start of the tick that ends, for that tick's plan (R49, R150). -/
def State.snapshot (s : State) : State :=
  let near := s.csc.maps.filter fun e => decide (tickSub s.tick.now e.1 ≤ 16)
  let maps := if s.baysBefore = s.bays ∧ s.broadBefore = s.broad then near else (s.tick.now, s.baysBefore, s.broadBefore) :: near
  { s with baysBefore := s.bays, broadBefore := s.broad, csc := { s.csc with sent := 0, maps := maps } }

/-- The units that accessions of the tick that ends have taken are entered in the catalogue (R150, R187). -/
def State.assignLearned (s : State) : State :=
  (s.rows.filter fun r => r.learned && r.st == .entering).foldl (fun (x : State) r => x.assignFor r) s

/-- The seam and the objects its operations hold, in the order of R310: detach, digests, mirrored operations (R318, R327, R331). -/
def State.seamBoundary (s : State) : State := s.detachBoundary.digestBoundary.opsBoundary

/-- Tables, channels, the wardrobe, sites and the return path (R103, R170, R259, R270, R280). -/
def State.objectsBoundary (s : State) : State :=
  let k := s.tick.now
  ((((s.tablesBoundary k).channelsBoundary k).wardrobeBoundary k).hitWindow.sitesBoundary).rptBoundary

/-- The array and its care (R128, R163, R210, R222, R225, R231, R238, R241, R244). -/
def State.arrayBoundary (s : State) : State := 
  ((s.slotsBoundary.cabsBoundary.stepSwaps.retireMore s.tick.now).releaseDrawers.sweepBoundary).galleries.wearRate.askRestore.retryRestore

/-- The cascade and the bulk synchronisation (R329, R349). -/
def State.ringBoundary (s : State) : State := s.syncBoundary.cscRefresh.proposeBoundary

/-- Completions (R283, R422, R423), then the governor (R386), the end of a re-timing (R45), the entry boundary (R378) and
admission (R61). -/
def State.closeBoundary (s : State) (b : Boundary) : State :=
  ((((((s.settleControl.postReady b.cplFail).showGates).showLatency.governor b).endRetime).idleBoundary).entryBoundary).admission

/-- TICK_BOUNDARY in service state. -/
def State.serviceBoundary (s : State) (b : Boundary) : State :=
  let t := ({ s with out := [] } : State).purge.snapshot.assignLearned.openTick.stretch
  let u := t.useCredits.seamBoundary.objectsBoundary.arrayBoundary.ringBoundary.closeBoundary b
  let v := (u.countFec b).sendTicks s
  v.creditLinks.foldl State.sendCredit v

/-- TICK_BOUNDARY (R32). In recovery state the counter moves (C10), and a full-array test shows its progress. -/
def doTickBoundary (b : Boundary) (s : State) : State :=
  if s.boundaryDue = false then s
  else if s.mode = .recovery then s.showProgress.setTick { s.tick with now := if s.tick.started then tickAdd s.tick.now 1 else 0, started := true, last := s.clock }
  else s.serviceBoundary b

/-- TICK_BOUNDARY: a tick boundary falls, and every boundary-timed change is applied (R32). -/
def execTickBoundary (b : Boundary) (s : State) : Host.Outcome State Fault Refusal := .next (doTickBoundary b s)

end Sys2Proof.Machine
end

