-- ==== Sys2Proof/Machine/Dispatch.lean ====
section
/-! DEFINITION. The meaning of every command, one arm each. -/

namespace Sys2Proof.Machine

/-- The effect of a command on everything but the queue of waiting commands. -/
def exec (i : Instr) (s : State) : Host.Outcome State Fault Refusal :=
  match i with
  | .resetLAssert lowNs => Sys2Proof.Machine.execResetLAssert lowNs s
  | .resetLRelease cal => Sys2Proof.Machine.execResetLRelease cal s
  | .powerDetectorTrip r lowNs => Sys2Proof.Machine.execPowerDetectorTrip r lowNs s
  | .railsInRange cal => Sys2Proof.Machine.execRailsInRange cal s
  | .startLimitExpiry => Sys2Proof.Machine.execStartLimitExpiry s
  | .bootEnd => Sys2Proof.Machine.execBootEnd s
  | .bootWrite cal => Sys2Proof.Machine.execBootWrite cal s
  | .bootWait => Sys2Proof.Machine.execBootWait s
  | .bootWaitExpiry => Sys2Proof.Machine.execBootWaitExpiry s
  | .bootApply => Sys2Proof.Machine.execBootApply s
  | .bootSeal => Sys2Proof.Machine.execBootSeal s
  | .bootLedgerClear v => Sys2Proof.Machine.execBootLedgerClear v s
  | .tickBoundary b => Sys2Proof.Machine.execTickBoundary b s
  | .admissionClose => Sys2Proof.Machine.execAdmissionClose s
  | .tickReferenceEdge => Sys2Proof.Machine.execTickReferenceEdge s
  | .missedEdge => Sys2Proof.Machine.execMissedEdge s
  | .tickSourceMissing => Sys2Proof.Machine.execTickSourceMissing s
  | .tickMarker l f p => Sys2Proof.Machine.execTickMarker l f p s
  | .tickSettingWrite t => Sys2Proof.Machine.execTickSettingWrite t s
  | .retimingApply => Sys2Proof.Machine.execRetimingApply s
  | .dataFlit p f => Sys2Proof.Machine.execDataFlit p f s
  | .recordCommit p => Sys2Proof.Machine.execRecordCommit p s
  | .hello l f => Sys2Proof.Machine.execHello l f s
  | .credit l f => Sys2Proof.Machine.execCredit l f s
  | .sync l f => Sys2Proof.Machine.execSync l f s
  | .align l lane f => Sys2Proof.Machine.execAlign l lane f s
  | .reservedLinkFlit l f => Sys2Proof.Machine.execReservedLinkFlit l f s
  | .uncorrectableCodeword l lane ordinal => Sys2Proof.Machine.execUncorrectableCodeword l lane ordinal s
  | .linkSignalDetect l => Sys2Proof.Machine.execLinkSignalDetect l s
  | .codewordLock l => Sys2Proof.Machine.execCodewordLock l s
  | .laneAlignment l skewNs => Sys2Proof.Machine.execLaneAlignment l skewNs s
  | .helloTimeout l => Sys2Proof.Machine.execHelloTimeout l s
  | .linkDown l why => Sys2Proof.Machine.execLinkDown l why s
  | .prtRetrain p => Sys2Proof.Machine.execPrtRetrain p s
  | .prtFlush p => Sys2Proof.Machine.execPrtFlush p s
  | .prtEnWrite p en => Sys2Proof.Machine.execPrtEnWrite p en s
  | .prtSelftestStart p => Sys2Proof.Machine.execPrtSelftestStart p s
  | .prtSelftestDone p corrected doubles => Sys2Proof.Machine.execPrtSelftestDone p corrected doubles s
  | .prtSelftestEnd p => Sys2Proof.Machine.execPrtSelftestEnd p s
  | .searchSlot => Sys2Proof.Machine.execSearchSlot s
  | .verdictRelease p => Sys2Proof.Machine.execVerdictRelease p s
  | .captureTransmit p => Sys2Proof.Machine.execCaptureTransmit p s
  | .controlCopySend p => Sys2Proof.Machine.execControlCopySend p s
  | .chnCreate d => Sys2Proof.Machine.execChnCreate d s
  | .chnDestroy => Sys2Proof.Machine.execChnDestroy s
  | .channelSlotFree slot => Sys2Proof.Machine.execChannelSlotFree slot s
  | .chnQuotaWrite f slot hi v => Sys2Proof.Machine.execChnQuotaWrite f slot hi v s
  | .channelStall slot => Sys2Proof.Machine.execChannelStall slot s
  | .tblCreate d => Sys2Proof.Machine.execTblCreate d s
  | .tblDestroy => Sys2Proof.Machine.execTblDestroy s
  | .tableDestroyComplete t => Sys2Proof.Machine.execTableDestroyComplete t s
  | .editBegin => Sys2Proof.Machine.execEditBegin s
  | .editCommit => Sys2Proof.Machine.execEditCommit s
  | .groupCommit t => Sys2Proof.Machine.execGroupCommit t s
  | .commitRelease t => Sys2Proof.Machine.execCommitRelease t s
  | .editAbort => Sys2Proof.Machine.execEditAbort s
  | .editLeaseExpiry t => Sys2Proof.Machine.execEditLeaseExpiry t s
  | .tblInsert d => Sys2Proof.Machine.execTblInsert d s
  | .tblDelete => Sys2Proof.Machine.execTblDelete s
  | .tblModify d => Sys2Proof.Machine.execTblModify d s
  | .vestWaitExpiry => Sys2Proof.Machine.execVestWaitExpiry s
  | .tblRead d => Sys2Proof.Machine.execTblRead d s
  | .tblFind d => Sys2Proof.Machine.execTblFind d s
  | .tblNext d => Sys2Proof.Machine.execTblNext d s
  | .rowStateAdvance => Sys2Proof.Machine.execRowStateAdvance s
  | .migration t id w => Sys2Proof.Machine.execMigration t id w s
  | .relocation t id w => Sys2Proof.Machine.execRelocation t id w s
  | .rowFlip => Sys2Proof.Machine.execRowFlip s
  | .rowClear w => Sys2Proof.Machine.execRowClear w s
  | .baySplit g bay => Sys2Proof.Machine.execBaySplit g bay s
  | .bayMerge g bay sibling => Sys2Proof.Machine.execBayMerge g bay sibling s
  | .learnPersist t id => Sys2Proof.Machine.execLearnPersist t id s
  | .tallyWindowWrite counter v => Sys2Proof.Machine.execTallyWindowWrite counter v s
  | .tallyRead => Sys2Proof.Machine.execTallyRead s
  | .tallyWrite => Sys2Proof.Machine.execTallyWrite s
  | .tblgLossNext => Sys2Proof.Machine.execTblgLossNext s
  | .wearBalanceSave => Sys2Proof.Machine.execWearBalanceSave s
  | .calibrationRound cal => Sys2Proof.Machine.execCalibrationRound cal s
  | .curCalGo cal => Sys2Proof.Machine.execCurCalGo cal s
  | .histClear => Sys2Proof.Machine.execHistClear s
  | .curCabFence cab => Sys2Proof.Machine.execCurCabFence cab s
  | .curCabUnfence cab => Sys2Proof.Machine.execCurCabUnfence cab s
  | .cabinetCheckDone cal => Sys2Proof.Machine.execCabinetCheckDone cal s
  | .scrubPass reads store => Sys2Proof.Machine.execScrubPass reads store s
  | .scrubQueueRead r => Sys2Proof.Machine.execScrubQueueRead r s
  | .refresh w => Sys2Proof.Machine.execRefresh w s
  | .selfSearch t id falseMiss => Sys2Proof.Machine.execSelfSearch t id falseMiss s
  | .sweepPeriodEnd => Sys2Proof.Machine.execSweepPeriodEnd s
  | .digestSave g x => Sys2Proof.Machine.execDigestSave g x s
  | .curSelftestGo => Sys2Proof.Machine.execCurSelftestGo s
  | .selftestRotation g => Sys2Proof.Machine.execSelftestRotation g s
  | .drawerSelftest g bad searchesOk => Sys2Proof.Machine.execDrawerSelftest g bad searchesOk s
  | .curRetireGo => Sys2Proof.Machine.execCurRetireGo s
  | .drawerRetirementDone g => Sys2Proof.Machine.execDrawerRetirementDone g s
  | .curFulltestGo => Sys2Proof.Machine.execCurFulltestGo s
  | .fulltestComplete found missed cal => Sys2Proof.Machine.execFulltestComplete found missed cal s
  | .restoreReq t id sameDesc => Sys2Proof.Machine.execRestoreReq t id sameDesc s
  | .restoreAns t id r0 => Sys2Proof.Machine.execRestoreAns t id r0 s
  | .adataWrite d => Sys2Proof.Machine.execAdataWrite d s
  | .adataRead d => Sys2Proof.Machine.execAdataRead d s
  | .wrdOpInval => Sys2Proof.Machine.execWrdOpInval s
  | .wrdOpClean => Sys2Proof.Machine.execWrdOpClean s
  | .wrdOpFlush => Sys2Proof.Machine.execWrdOpFlush s
  | .wrdPinEn p en => Sys2Proof.Machine.execWrdPinEn p en s
  | .pinLoadDone p => Sys2Proof.Machine.execPinLoadDone p s
  | .wrdLockWrite v => Sys2Proof.Machine.execWrdLockWrite v s
  | .stagingWriteback w => Sys2Proof.Machine.execStagingWriteback w s
  | .siteWrite n v size upper => Sys2Proof.Machine.execSiteWrite n v size upper s
  | .rptAgeing => Sys2Proof.Machine.execRptAgeing s
  | .rptStaticWrite tag port => Sys2Proof.Machine.execRptStaticWrite tag port s
  | .rptStaticRemove tag => Sys2Proof.Machine.execRptStaticRemove tag s
  | .rptStaticInvalid op => Sys2Proof.Machine.execRptStaticInvalid op s
  | .rptShadowWrite w v => Sys2Proof.Machine.execRptShadowWrite w v s
  | .rptShadowSet bucket digest => Sys2Proof.Machine.execRptShadowSet bucket digest s
  | .shadowPass => Sys2Proof.Machine.execShadowPass s
  | .rptSearch d => Sys2Proof.Machine.execRptSearch d s
  | .rptNext d => Sys2Proof.Machine.execRptNext d s
  | .rptFlushByPort d => Sys2Proof.Machine.execRptFlushByPort d s
  | .ctlSend d => Sys2Proof.Machine.execCtlSend d s
  | .maintenanceRequest r => Sys2Proof.Machine.execMaintenanceRequest r s
  | .breakPoint drop => Sys2Proof.Machine.execBreakPoint drop s
  | .mntPrioWrite r v => Sys2Proof.Machine.execMntPrioWrite r v s
  | .starvation r => Sys2Proof.Machine.execStarvation r s
  | .watchdogExpiry => Sys2Proof.Machine.execWatchdogExpiry s
  | .mntFence r => Sys2Proof.Machine.execMntFence r s
  | .mntUnfence r => Sys2Proof.Machine.execMntUnfence r s
  | .pairHello h => Sys2Proof.Machine.execPairHello h s
  | .bye => Sys2Proof.Machine.execBye s
  | .digest f => Sys2Proof.Machine.execDigest f s
  | .chdigest f => Sys2Proof.Machine.execChdigest f s
  | .lockReq t group f => Sys2Proof.Machine.execLockReq t group f s
  | .lockAns t grant => Sys2Proof.Machine.execLockAns t grant s
  | .mirror id op commitTick => Sys2Proof.Machine.execMirror id op commitTick s
  | .staged id handle => Sys2Proof.Machine.execStaged id handle s
  | .ready id => Sys2Proof.Machine.execReady id s
  | .refuse id status => Sys2Proof.Machine.execRefuse id status s
  | .propose id k => Sys2Proof.Machine.execPropose id k s
  | .agree id k => Sys2Proof.Machine.execAgree id k s
  | .defer id => Sys2Proof.Machine.execDefer id s
  | .abort id => Sys2Proof.Machine.execAbort id s
  | .syncBegin => Sys2Proof.Machine.execSyncBegin s
  | .syncData d => Sys2Proof.Machine.execSyncData d s
  | .syncEnd => Sys2Proof.Machine.execSyncEnd s
  | .join j => Sys2Proof.Machine.execJoin j s
  | .seamJoin => Sys2Proof.Machine.execSeamJoin s
  | .seamTicksMissed => Sys2Proof.Machine.execSeamTicksMissed s
  | .seamDetachWrite => Sys2Proof.Machine.execSeamDetachWrite s
  | .seamReleaseWrite rel v => Sys2Proof.Machine.execSeamReleaseWrite rel v s
  | .lookupToken down flits => Sys2Proof.Machine.execLookupToken down flits s
  | .learnToken flits => Sys2Proof.Machine.execLearnToken flits s
  | .tallyToken flits => Sys2Proof.Machine.execTallyToken flits s
  | .cascadeMerge tok => Sys2Proof.Machine.execCascadeMerge tok s
  | .notice n => Sys2Proof.Machine.execNotice n s
  | .cscPropose live k => Sys2Proof.Machine.execCscPropose live k s
  | .ack m => Sys2Proof.Machine.execAck m s
  | .commit => Sys2Proof.Machine.execCommit s
  | .joinReq j => Sys2Proof.Machine.execJoinReq j s
  | .cscBye m => Sys2Proof.Machine.execCscBye m s
  | .cscLeave => Sys2Proof.Machine.execCscLeave s
  | .cscJoin => Sys2Proof.Machine.execCscJoin s
  | .cscTicksMissed l => Sys2Proof.Machine.execCscTicksMissed l s
  | .membershipApply => Sys2Proof.Machine.execMembershipApply s
  | .cscSliceWrite t lo hi => Sys2Proof.Machine.execCscSliceWrite t lo hi s
  | .idleTimerExpiry => Sys2Proof.Machine.execIdleTimerExpiry s
  | .dormancyGating cal => Sys2Proof.Machine.execDormancyGating cal s
  | .wakeDetect w dormantS cal => Sys2Proof.Machine.execWakeDetect w dormantS cal s
  | .ptRead => Sys2Proof.Machine.execPtRead s
  | .ptWrite => Sys2Proof.Machine.execPtWrite s
  | .ptStatus => Sys2Proof.Machine.execPtStatus s
  | .ptInvalid => Sys2Proof.Machine.execPtInvalid s
  | .carePass marginDiff => Sys2Proof.Machine.execCarePass marginDiff s
  | .logWrite => Sys2Proof.Machine.execLogWrite s
  | .spiWriteTimeout => Sys2Proof.Machine.execSpiWriteTimeout s
  | .flr f => Sys2Proof.Machine.execFlr f s
  | .perstL low => Sys2Proof.Machine.execPerstL low s
  | .pcieLinkChange l => Sys2Proof.Machine.execPcieLinkChange l s
  | .aerError f unc bit => Sys2Proof.Machine.execAerError f unc bit s
  | .cmdTailWrite f v slots => Sys2Proof.Machine.execCmdTailWrite f v slots s
  | .queEnWrite f cpl en => Sys2Proof.Machine.execQueEnWrite f cpl en s
  | .commandDispatch => Sys2Proof.Machine.execCommandDispatch s
  | .nop => Sys2Proof.Machine.execNop s
  | .capPop f q size => Sys2Proof.Machine.execCapPop f q size s
  | .evqPop f size => Sys2Proof.Machine.execEvqPop f size s
  | .capqIdleExpiry q => Sys2Proof.Machine.execCapqIdleExpiry q s
  | .evqIdleExpiry => Sys2Proof.Machine.execEvqIdleExpiry s
  | .idleUsWrite q v => Sys2Proof.Machine.execIdleUsWrite q v s
  | .holdoffExpiry v => Sys2Proof.Machine.execHoldoffExpiry v s
  | .evtPendClear n => Sys2Proof.Machine.execEvtPendClear n s
  | .registerWrite f a size v => Sys2Proof.Machine.execRegisterWrite f a size v s
  | .extest => Sys2Proof.Machine.execExtest s
  | .idcode => Sys2Proof.Machine.execIdcode s
  | .samplePreload => Sys2Proof.Machine.execSamplePreload s
  | .highz => Sys2Proof.Machine.execHighz s
  | .clamp => Sys2Proof.Machine.execClamp s
  | .extestPulse => Sys2Proof.Machine.execExtestPulse s
  | .extestTrain => Sys2Proof.Machine.execExtestTrain s
  | .fuseRead => Sys2Proof.Machine.execFuseRead s
  | .fuseProg v => Sys2Proof.Machine.execFuseProg v s
  | .bypass code => Sys2Proof.Machine.execBypass code s
  | .linkTrainingTimeout => Sys2Proof.Machine.execLinkTrainingTimeout s
  | .unwatchedRailInRange cal => Sys2Proof.Machine.execUnwatchedRailInRange cal s
  | .pageProgramDone => Sys2Proof.Machine.execPageProgramDone s
  | .alignTransmit l lane => Sys2Proof.Machine.execAlignTransmit l lane s
  | .wearBalanceEarn => Sys2Proof.Machine.execWearBalanceEarn s
  | .reservedSeamMessage f => Sys2Proof.Machine.execReservedSeamMessage f s
  | .tapReset => Sys2Proof.Machine.execTapReset s

end Sys2Proof.Machine
end

