-- ==== Sys2Proof/Machine/Step.lean ====
section
/-! DEFINITION. One step: the waiting command at the front of the queue is taken, or, on an empty queue, one core cycle
passes. -/

namespace Sys2Proof.Machine

/-- One core cycle passes with no command (notes/assumptions/1.md). -/
def State.idleCycle (s : State) : State := { s with clock := s.clock + 1 }

/-- One step of the block. -/
def step (s : State) : Host.Outcome State Fault Refusal :=
  match s.pending with
  | [] => .next s.idleCycle
  | c :: rest => exec c { s with pending := rest }

/-- The command a word spells put at the front of the queue; no word spells one, so the state stays. -/
def State.withFetchWord (s : State) (nbits w : Nat) : State :=
  match decodeTableWord nbits w with
  | some c => { s with pending := c :: s.pending }
  | none => s

end Sys2Proof.Machine
end

