-- ==== Sys2Proof/Safety.lean ====
section
/-! DEFINITION. The terms in which the obligations speak of runs: a completion owed to a command, the canonical form of the attached
memory. The block raises no fault, so a safe run is one in which these invariants hold at every step. -/

namespace Sys2Proof.Machine

/-- The command has left the engine and its completion is the last one owed, with a status and a result; `ready`: the next boundary
writes it (R422). -/
def State.owes (t : State) (c : Cmd) (status result : Nat) (ready : Bool) : Prop :=
  t.host.engine = none ∧ t.host.mirror = none ∧ ∃ q silent,
    t.host.owed = q ++ [⟨c.func, c.idx, c.slot.cid.toNat, status, result, ready, silent⟩]

/-- The attached memory is in canonical form: addresses strictly rising, and no entry equal to the 0 that an unlisted address reads
as (notes/assumptions/6.md). -/
def Memory.wf (m : FMap Byte) : Bool := fsorted m && m.all fun e => decide (e.2 ≠ 0)

/-- What a reset of s leaves in t (R356, R357): start-up state at step 1 with every register field at its reset value, every queue, SRAM
structure and engine empty; the boot ledger, the fuses, the cells of the medium, the attached memory's own settings and the associated-data
store as they were. -/
def ResetLeft (s t : State) : Prop :=
  t.mode = .startUp ∧ t.get Reg.BOOT_STATUS_STEP = 1 ∧ (∀ F i j, t.get F i j = F.resetAt i) ∧ t.boot = {} ∧ t.tick = {} ∧
  t.planned = [] ∧ t.ports = [] ∧ t.chans = [] ∧ t.sites = [] ∧ t.rpt = [] ∧ t.rptPend = {} ∧ t.shadow = [] ∧ t.groups = [] ∧
  t.tallies = [] ∧ t.learnLog = [] ∧ t.lossList = [] ∧ t.bays = [] ∧ t.broad = [] ∧ t.baysBefore = [] ∧ t.broadBefore = [] ∧
  t.acts = [] ∧ t.host = {} ∧ t.seam = {} ∧ t.csc = {} ∧ t.mnt = {} ∧ t.wrd.ways = [] ∧ t.wrd.staging = [] ∧ t.wrd.retention = [] ∧
  t.cfg.prog = none ∧ t.cfg.logs = [] ∧
  t.ledgerA = s.ledgerA ∧ t.ledgerB = s.ledgerB ∧ t.fuses = s.fuses ∧ t.cells = s.cells ∧ t.cfg.dev = s.cfg.dev ∧
  t.wrd.store = s.wrd.store ∧ t.pending = s.pending ∧ t.clock = s.clock

/-- Step 4 of a start that begins in s, as t shows it (R371, R373): with 4 or more in the ledger the device is in recovery state with
RECOV 1, its registers sealed and the ledger not written; else the ledger holds one start more, PEND 1, and cause 2 at step 0 where PEND
was set already. -/
def StartCounted (s t : State) : Prop :=
  (4 ≤ (s.ledger.getD {}).count → t.mode = .recovery ∧ t.get Reg.BOOT_STATUS_RECOV = 1 ∧ t.get Reg.BOOT_STATUS_SEALED = 1 ∧
    t.ledgerA = s.ledgerA ∧ t.ledgerB = s.ledgerB) ∧
  ((s.ledger.getD {}).count < 4 → (s.ledger.getD {}).seq + 1 < 2 ^ 32 → t.mode = .startUp ∧
    ∃ l, t.ledger = some l ∧ l.count = (s.ledger.getD {}).count + 1 ∧ l.pend = true ∧ l.clr = (s.ledger.getD {}).clr ∧
      l.cause = (if (s.ledger.getD {}).pend then 2 else (s.ledger.getD {}).cause) ∧
      l.step = (if (s.ledger.getD {}).pend then 0 else (s.ledger.getD {}).step))

/-- A message m for the twin, sent in s, as t shows it (R310): it has left with the next number where the twin's credits allow it and none
waits before it; else it waits behind those that wait. -/
def SeamSent (s t : State) (m : SeamOut) : Prop :=
  (m.cost = 0 ∨ (m.cost ≤ s.seam.credit ∧ s.seam.waiting = []) →
    t.out = .seam (m.head s.seam.seq) m :: s.out ∧ t.seam.waiting = s.seam.waiting) ∧
  (m.cost ≠ 0 → s.seam.credit < m.cost ∨ s.seam.waiting ≠ [] → t.out = s.out ∧ t.seam.waiting = s.seam.waiting ++ [m])

/-! ## What a command changes -/

/-- The parts of the state. -/
inductive Part where
  | pending | clock | freeCtr | out | mode | pins | fuses | tap | regs | boot | ledgerA | ledgerB | dorm | tick | ports |
    planned | chans | sites | rpt | rptPend | shadow | tables | rows | cells | faults | journal | groups | tallies |
    learnLog | lost | lossList | bays | broad | baysBefore | broadBefore | drawers | cabs | acts | cur | wrd | mnt | host |
    seam | csc | cfg
  deriving DecidableEq, Repr

/-- A part is the same in two states. -/
def Same (p : Part) (s t : State) : Prop :=
  match p with
  | .pending => s.pending = t.pending
  | .clock => s.clock = t.clock
  | .freeCtr => s.freeCtr = t.freeCtr
  | .out => s.out = t.out
  | .mode => s.mode = t.mode
  | .pins => s.pins = t.pins
  | .fuses => s.fuses = t.fuses
  | .tap => s.tap = t.tap
  | .regs => s.regs = t.regs
  | .boot => s.boot = t.boot
  | .ledgerA => s.ledgerA = t.ledgerA
  | .ledgerB => s.ledgerB = t.ledgerB
  | .dorm => s.dorm = t.dorm
  | .tick => s.tick = t.tick
  | .ports => s.ports = t.ports
  | .planned => s.planned = t.planned
  | .chans => s.chans = t.chans
  | .sites => s.sites = t.sites
  | .rpt => s.rpt = t.rpt
  | .rptPend => s.rptPend = t.rptPend
  | .shadow => s.shadow = t.shadow
  | .tables => s.tables = t.tables
  | .rows => s.rows = t.rows
  | .cells => s.cells = t.cells
  | .faults => s.faults = t.faults
  | .journal => s.journal = t.journal
  | .groups => s.groups = t.groups
  | .tallies => s.tallies = t.tallies
  | .learnLog => s.learnLog = t.learnLog
  | .lost => s.lost = t.lost
  | .lossList => s.lossList = t.lossList
  | .bays => s.bays = t.bays
  | .broad => s.broad = t.broad
  | .baysBefore => s.baysBefore = t.baysBefore
  | .broadBefore => s.broadBefore = t.broadBefore
  | .drawers => s.drawers = t.drawers
  | .cabs => s.cabs = t.cabs
  | .acts => s.acts = t.acts
  | .cur => s.cur = t.cur
  | .wrd => s.wrd = t.wrd
  | .mnt => s.mnt = t.mnt
  | .host => s.host = t.host
  | .seam => s.seam = t.seam
  | .csc => s.csc = t.csc
  | .cfg => s.cfg = t.cfg

/-- From s to t nothing changes but the parts listed. -/
def Only (w : List Part) (s t : State) : Prop := ∀ p, p ∉ w → Same p s t

/-- The parts that a command may change: its own, `out` and `host` where it sends or completes something, `regs` for counters and
status bits, `freeCtr` where the manual leaves a choice open, and `boot` for the events of a device that is not yet in service (R437).
No command changes `pending` or `clock`, and FUSE_PROG alone changes `fuses`. -/
def mayChange : Instr → List Part
  | .resetLAssert .. =>
    [.freeCtr, .out, .mode, .pins, .regs, .boot, .dorm, .tick, .ports, .planned, .chans, .sites, .rpt, .rptPend, .shadow, .tables,
     .rows, .faults, .journal, .groups, .tallies, .learnLog, .lost, .lossList, .bays, .broad, .baysBefore, .broadBefore, .drawers,
     .cabs, .acts, .cur, .wrd, .mnt, .host, .seam, .csc, .cfg]
  | .resetLRelease .. | .railsInRange .. | .unwatchedRailInRange .. =>
    [.out, .mode, .pins, .regs, .boot, .ledgerA, .ledgerB, .ports, .tables, .rows, .lost, .lossList, .drawers, .cabs, .cur, .host,
     .seam, .csc, .cfg]
  | .powerDetectorTrip .. =>
    [.freeCtr, .out, .mode, .pins, .tap, .regs, .boot, .dorm, .tick, .ports, .planned, .chans, .sites, .rpt, .rptPend, .shadow,
     .tables, .rows, .faults, .journal, .groups, .tallies, .learnLog, .lost, .lossList, .bays, .broad, .baysBefore, .broadBefore,
     .drawers, .cabs, .acts, .cur, .wrd, .mnt, .host, .seam, .csc, .cfg]
  | .startLimitExpiry => [.out, .mode, .regs, .boot, .ledgerA, .ledgerB, .ports, .host, .seam, .csc, .cfg]
  | .bootEnd =>
    [.freeCtr, .out, .mode, .regs, .boot, .ledgerA, .ledgerB, .dorm, .tick, .ports, .tables, .rows, .cells, .faults, .journal,
     .tallies, .bays, .broad, .drawers, .cabs, .cur, .host, .seam, .csc, .cfg]
  | .bootWrite .. =>
    [.freeCtr, .out, .mode, .regs, .boot, .ledgerA, .ledgerB, .ports, .planned, .chans, .sites, .rptPend, .shadow, .tables, .rows,
     .cells, .faults, .journal, .tallies, .lost, .lossList, .drawers, .cabs, .cur, .wrd, .mnt, .host, .seam, .csc, .cfg]
  | .bootWait => [.boot]
  | .bootWaitExpiry | .bootSeal => [.regs, .boot]
  | .bootApply =>
    [.freeCtr, .out, .regs, .boot, .chans, .sites, .rpt, .tables, .rows, .cells, .faults, .journal, .tallies, .bays, .broad,
     .drawers, .cabs, .cur, .wrd, .host]
  | .bootLedgerClear .. => [.ledgerA, .ledgerB]
  | .tickBoundary .. =>
    [.freeCtr, .out, .regs, .boot, .dorm, .tick, .ports, .planned, .chans, .sites, .rpt, .rptPend, .tables, .rows, .cells, .faults,
     .journal, .groups, .lost, .lossList, .bays, .broad, .baysBefore, .broadBefore, .drawers, .cabs, .acts, .cur, .wrd, .host,
     .seam, .csc, .cfg]
  | .admissionClose => [.freeCtr, .out, .regs, .boot, .dorm, .tick, .ports, .planned, .sites, .rpt, .rptPend, .host, .seam, .csc]
  | .tickReferenceEdge | .retimingApply => [.out, .regs, .boot, .tick, .host]
  | .missedEdge | .tickMarker .. => [.out, .regs, .boot, .tick, .host, .seam]
  | .tickSourceMissing => [.regs, .tick]
  | .tickSettingWrite .. => [.out, .regs, .boot, .dorm, .tick, .host]
  | .dataFlit .. | .recordCommit .. | .uncorrectableCodeword .. | .chdigest .. | .refuse .. =>
    [.out, .regs, .boot, .ports, .host, .seam, .csc]
  | .hello .. | .linkTrainingTimeout =>
    [.out, .mode, .regs, .boot, .ledgerA, .ledgerB, .dorm, .tick, .ports, .cur, .host, .seam, .csc, .cfg]
  | .credit .. | .laneAlignment .. | .bye | .defer .. | .alignTransmit .. => [.out, .ports, .seam, .csc]
  | .sync .. | .syncBegin | .syncEnd | .join .. | .reservedSeamMessage .. => [.out, .regs, .ports, .seam, .csc]
  | .align .. | .linkSignalDetect .. | .codewordLock .. => [.ports, .seam, .csc]
  | .reservedLinkFlit .. | .prtSelftestDone .. => [.regs]
  | .helloTimeout .. => [.regs, .ports, .seam, .csc]
  | .linkDown .. => [.out, .regs, .boot, .ports, .planned, .rptPend, .host, .seam, .csc]
  | .prtRetrain .. => [.out, .regs, .boot, .dorm, .ports, .planned, .rptPend, .host, .seam, .csc]
  | .prtFlush .. => [.out, .regs, .boot, .dorm, .ports, .host, .seam, .csc]
  | .prtEnWrite .. | .prtSelftestStart .. => [.out, .regs, .boot, .dorm, .ports, .planned, .host, .seam, .csc]
  | .prtSelftestEnd .. => [.regs, .dorm, .ports, .seam, .csc]
  | .searchSlot =>
    [.freeCtr, .out, .regs, .boot, .ports, .planned, .tables, .rows, .tallies, .learnLog, .drawers, .acts, .cur, .wrd, .host,
     .seam, .csc]
  | .verdictRelease .. => [.out, .regs, .planned]
  | .captureTransmit .. => [.out, .regs, .ports]
  | .controlCopySend .. => [.out, .regs, .host]
  | .chnCreate .. => [.out, .regs, .boot, .chans, .host, .seam]
  | .chnDestroy => [.out, .chans, .host, .seam]
  | .channelSlotFree .. => [.out, .regs, .boot, .chans, .host]
  | .chnQuotaWrite .. => [.out, .regs, .boot, .dorm, .chans, .host, .seam]
  | .channelStall .. | .vestWaitExpiry | .starvation .. | .aerError .. | .capqIdleExpiry .. | .evqIdleExpiry =>
    [.out, .regs, .boot, .host]
  | .tblCreate .. => [.freeCtr, .out, .regs, .boot, .tables, .bays, .host, .seam]
  | .tblDestroy => [.out, .tables, .host, .seam]
  | .tableDestroyComplete .. => [.out, .regs, .boot, .tables, .rows, .tallies, .learnLog, .lost, .bays, .broad, .cur, .host]
  | .editBegin => [.freeCtr, .out, .groups, .host, .seam]
  | .editCommit => [.out, .groups, .cur, .host, .seam]
  | .groupCommit .. =>
    [.out, .regs, .boot, .tables, .rows, .journal, .groups, .tallies, .lost, .bays, .broad, .drawers, .cur, .wrd, .host, .seam]
  | .commitRelease .. => [.out, .regs, .groups, .seam]
  | .editAbort | .editLeaseExpiry .. | .flr .. => [.out, .regs, .boot, .rows, .journal, .groups, .host, .seam]
  | .tblInsert .. | .tblDelete | .tblModify .. =>
    [.freeCtr, .out, .regs, .boot, .rows, .cells, .faults, .journal, .groups, .drawers, .cabs, .cur, .host, .seam]
  | .tblRead .. | .tblNext .. => [.out, .regs, .boot, .host, .seam]
  | .tblFind .. => [.out, .regs, .boot, .drawers, .cur, .wrd, .host, .seam]
  | .rowStateAdvance => [.rows, .tallies, .cur]
  | .migration .. => [.freeCtr, .out, .regs, .boot, .rows, .cells, .faults, .journal, .drawers, .cur, .host]
  | .relocation .. | .baySplit .. | .bayMerge .. | .learnPersist .. | .refresh .. | .selftestRotation .. =>
    [.freeCtr, .out, .regs, .boot, .rows, .cells, .faults, .journal, .drawers, .cabs, .cur, .host]
  | .rowFlip => [.freeCtr, .out, .regs, .boot, .tables, .rows, .lost, .lossList, .bays, .broad, .drawers, .cabs, .cur, .wrd, .host]
  | .rowClear .. => [.out, .regs, .boot, .cells, .faults, .journal, .drawers, .cur, .host]
  | .tallyWindowWrite .. => [.dorm, .tallies]
  | .tallyRead | .nop => [.out, .host, .seam]
  | .tallyWrite => [.out, .tallies, .host, .seam]
  | .tblgLossNext => [.dorm, .lossList]
  | .wearBalanceSave => [.cur]
  | .calibrationRound .. => [.out, .regs, .boot, .cabs, .cur, .host]
  | .curCalGo .. => [.out, .regs, .boot, .dorm, .cabs, .cur, .host]
  | .histClear => [.dorm, .cur]
  | .curCabFence .. | .curCabUnfence .. => [.dorm, .cabs]
  | .cabinetCheckDone .. => [.out, .regs, .boot, .rows, .drawers, .cabs, .cur, .host]
  | .scrubPass .. =>
    [.freeCtr, .out, .regs, .boot, .tables, .rows, .cells, .faults, .journal, .lost, .lossList, .drawers, .cabs, .cur, .wrd, .host]
  | .scrubQueueRead .. =>
    [.freeCtr, .out, .regs, .boot, .tables, .rows, .cells, .faults, .journal, .lost, .lossList, .drawers, .cabs, .cur, .host]
  | .selfSearch .. => [.out, .regs, .boot, .rows, .faults, .drawers, .cur, .host]
  | .sweepPeriodEnd | .wearBalanceEarn => [.out, .regs, .boot, .cur, .host]
  | .digestSave .. => [.drawers]
  | .curSelftestGo => [.freeCtr, .out, .regs, .boot, .dorm, .rows, .cells, .faults, .journal, .drawers, .cabs, .cur, .host]
  | .drawerSelftest .. | .drawerRetirementDone .. =>
    [.freeCtr, .out, .regs, .boot, .rows, .cells, .faults, .journal, .bays, .broad, .drawers, .cabs, .cur, .host]
  | .curRetireGo =>
    [.freeCtr, .out, .regs, .boot, .dorm, .tables, .rows, .cells, .faults, .journal, .lost, .lossList, .drawers, .cabs, .cur,
     .host]
  | .curFulltestGo => [.regs, .tables, .rows, .journal, .tallies, .lost, .bays, .broad, .drawers, .cur]
  | .fulltestComplete .. =>
    [.freeCtr, .out, .regs, .boot, .tables, .rows, .cells, .faults, .journal, .lost, .lossList, .bays, .broad, .drawers, .cabs,
     .cur, .host]
  | .restoreReq .. => [.freeCtr, .out, .ports, .seam, .csc]
  | .restoreAns .. =>
    [.freeCtr, .out, .regs, .boot, .ports, .rows, .cells, .faults, .journal, .groups, .drawers, .cabs, .cur, .host, .seam, .csc]
  | .adataWrite .. => [.out, .regs, .boot, .wrd, .host, .seam]
  | .adataRead .. => [.freeCtr, .out, .regs, .boot, .wrd, .host, .seam]
  | .wrdOpInval | .wrdOpClean | .wrdOpFlush => [.out, .wrd, .host, .seam]
  | .wrdPinEn .. => [.out, .regs, .boot, .dorm, .wrd, .host]
  | .pinLoadDone .. => [.out, .regs, .boot, .wrd, .host]
  | .wrdLockWrite .. | .rptStaticInvalid .. | .mntPrioWrite .. | .cscSliceWrite .. | .queEnWrite .. | .evtPendClear .. =>
    [.regs, .dorm]
  | .stagingWriteback .. => [.out, .regs, .boot, .cur, .wrd, .host]
  | .siteWrite .. => [.out, .dorm, .sites, .seam]
  | .rptAgeing => [.dorm, .rptPend]
  | .rptStaticWrite .. | .rptStaticRemove .. => [.regs, .dorm, .rptPend]
  | .rptShadowWrite .. | .rptShadowSet .. => [.dorm, .shadow]
  | .shadowPass => [.out, .regs, .boot, .rpt, .host]
  | .rptSearch .. | .rptNext .. | .ctlSend .. => [.out, .regs, .boot, .rpt, .host, .seam]
  | .rptFlushByPort .. => [.out, .rptPend, .host, .seam]
  | .maintenanceRequest .. | .breakPoint .. => [.regs, .mnt]
  | .watchdogExpiry => [.out, .regs, .boot, .rows, .cur, .mnt, .host, .cfg]
  | .mntFence .. => [.regs, .dorm, .rows, .cur, .mnt, .host]
  | .mntUnfence .. => [.freeCtr, .out, .regs, .boot, .dorm, .rows, .cells, .faults, .journal, .drawers, .cabs, .cur, .mnt, .host]
  | .pairHello .. => [.out, .regs, .boot, .tick, .ports, .host, .seam, .csc]
  | .digest .. => [.out, .regs, .seam]
  | .lockReq .. | .lockAns .. => [.out, .ports, .groups, .host, .seam, .csc]
  | .mirror .. | .staged .. =>
    [.freeCtr, .out, .regs, .boot, .ports, .chans, .tables, .rows, .cells, .faults, .journal, .groups, .bays, .drawers, .cabs,
     .cur, .wrd, .host, .seam, .csc]
  | .ready .. | .propose .. => [.out, .regs, .ports, .groups, .seam, .csc]
  | .agree .. => [.out, .ports, .groups, .seam, .csc]
  | .abort .. => [.out, .regs, .boot, .ports, .chans, .tables, .rows, .journal, .groups, .bays, .broad, .wrd, .host, .seam, .csc]
  | .syncData .. =>
    [.freeCtr, .out, .regs, .boot, .ports, .chans, .sites, .tables, .rows, .cells, .faults, .journal, .tallies, .lost, .bays,
     .broad, .drawers, .cabs, .cur, .wrd, .host, .seam, .csc]
  | .seamJoin => [.out, .regs, .boot, .tick, .cur, .host, .seam]
  | .seamTicksMissed => [.seam]
  | .seamDetachWrite => [.out, .dorm, .seam]
  | .seamReleaseWrite .. => [.out, .regs, .boot, .dorm, .tick, .host, .seam]
  | .lookupToken .. => [.out, .regs, .boot, .planned, .drawers, .acts, .cur, .host, .csc]
  | .learnToken .. => [.freeCtr, .out, .regs, .boot, .tables, .rows, .tallies, .learnLog, .host, .csc]
  | .tallyToken .. => [.out, .tallies]
  | .cascadeMerge .. =>
    [.freeCtr, .out, .regs, .boot, .ports, .planned, .tables, .rows, .tallies, .learnLog, .wrd, .host, .seam, .csc]
  | .notice .. | .joinReq .. | .cscBye .. | .cscJoin | .cscTicksMissed .. => [.out, .regs, .boot, .host, .csc]
  | .cscPropose .. | .ack .. | .commit | .cscLeave => [.out, .csc]
  | .membershipApply => [.out, .regs, .boot, .tick, .host, .csc]
  | .idleTimerExpiry => [.dorm]
  | .dormancyGating .. =>
    [.freeCtr, .out, .mode, .pins, .tap, .regs, .boot, .ledgerA, .ledgerB, .dorm, .tick, .ports, .planned, .chans, .sites, .rpt,
     .rptPend, .shadow, .tables, .rows, .cells, .faults, .journal, .groups, .tallies, .learnLog, .lost, .lossList, .bays, .broad,
     .baysBefore, .broadBefore, .drawers, .cabs, .acts, .cur, .wrd, .mnt, .host, .seam, .csc, .cfg]
  | .wakeDetect .. =>
    [.freeCtr, .out, .mode, .pins, .tap, .regs, .boot, .ledgerA, .ledgerB, .dorm, .tick, .ports, .planned, .chans, .sites, .rpt,
     .rptPend, .shadow, .tables, .rows, .faults, .journal, .groups, .tallies, .learnLog, .lost, .lossList, .bays, .broad,
     .baysBefore, .broadBefore, .drawers, .cabs, .acts, .cur, .wrd, .mnt, .host, .seam, .csc, .cfg]
  | .ptRead | .ptWrite | .ptStatus | .ptInvalid => [.freeCtr, .out, .regs, .dorm, .cfg]
  | .carePass .. => [.out, .regs, .boot, .host, .cfg]
  | .logWrite | .pageProgramDone => [.freeCtr, .out, .regs, .cfg]
  | .spiWriteTimeout => [.freeCtr, .out, .regs, .boot, .host, .cfg]
  | .perstL .. => [.out, .pins, .regs, .boot, .rows, .journal, .groups, .host, .seam]
  | .pcieLinkChange .. => [.out, .pins, .regs, .boot, .host]
  | .cmdTailWrite .. => [.regs, .dorm, .host]
  | .commandDispatch | .idleUsWrite .. => [.out, .regs, .boot, .dorm, .host]
  | .capPop .. | .evqPop .. => [.out, .dorm, .host]
  | .holdoffExpiry .. => [.out, .host]
  | .registerWrite .. => [.out, .regs, .boot, .dorm, .tick, .ports, .chans, .rows, .journal, .groups, .host, .seam, .csc]
  | .extest | .samplePreload | .extestPulse | .extestTrain => [.freeCtr, .tap]
  | .idcode | .highz | .clamp | .fuseRead | .bypass .. | .tapReset => [.tap]
  | .fuseProg .. => [.fuses, .tap]

end Sys2Proof.Machine
end

