-- ==== Sys2Proof/Certificates/Slice0/Obligations.lean ====
section
/-! DEFINITION. The statements about the block, for the provers. Each docstring names the rules of spec/ that its clauses rest on. -/

open Sys2Proof Sys2Proof.Machine

/-! ## The step -/

/-- With a command at the front of the queue, a step is that command's meaning on the state with the queue's rest. -/
def Obligations.StepRunsTheFrontCommand : Prop :=
  ∀ (s : State) (c : Instr) (rest : List Instr), s.pending = c :: rest → step s = exec c { s with pending := rest }

/-- With nothing waiting, a step counts one core cycle and changes nothing else. This is the model's choice (notes/assumptions/1.md):
the table has no row for a cycle. -/
def Obligations.EmptyQueueLetsOneCyclePass : Prop :=
  ∀ s : State, s.pending = [] → step s = .next { s with clock := s.clock + 1 }

/-! ## Reset and the start sequence -/

/-- RESET_L low for 250 ns or more, and a watched rail below its trip level for 200 ns or more, leave what ResetLeft lists (R356,
R357, R442). RESET_L is then low; the rail is out of range, and so are the unwatched ones; LAST_WAKE is cleared by RESET_L and by
VDD_AON and stays after the other rails. A RESET_L pulse shorter than 250 ns and a dip shorter than 200 ns change nothing (R356,
R442); RESET_L held low is one reset, so that RESET_L low again changes nothing (R356). -/
def Obligations.ResetLeavesStep1AndShortPulsesAreIgnored : Prop :=
  ((∀ (s : State) (lowNs : Nat), 250 ≤ lowNs → s.pins.resetL = true →
     ∃ t, exec (.resetLAssert lowNs) s = .next t ∧ ResetLeft s t ∧ t.pins = { s.pins with resetL := false, pcieUp := false } ∧
       t.dorm = {} ∧ t.tap = s.tap) ∧
   (∀ (s : State) (r : Rail) (lowNs : Nat), 200 ≤ lowNs →
     ∃ t, exec (.powerDetectorTrip r lowNs) s = .next t ∧ ResetLeft s t ∧ t.pins = s.pins.drop r ∧ t.pins.watched = false ∧
       t.pins.unwatched = false ∧ (r = .aon → t.dorm = {}) ∧ (r ≠ .aon → t.dorm = { aon := s.dorm.aon }))) ∧
  (∀ (s : State) (r : Rail) (lowNs : Nat),
     (lowNs < 250 → exec (.resetLAssert lowNs) s = .next s) ∧ (lowNs < 200 → exec (.powerDetectorTrip r lowNs) s = .next s) ∧
     (s.pins.resetL = false → exec (.resetLAssert lowNs) s = .next s))

/-- At step 1, RESET_L going high with the watched rails in range, and the watched rails coming into range with RESET_L high, begin
the start sequence: with an unwatched rail still out of range it waits at step 3, and otherwise step 4 runs as StartCounted says
(R356, R360, R371, R373). While it waits at step 3, the unwatched rails coming into range have step 4 run so (R444). RESET_L going
high with a watched rail out of range, and the watched rails coming into range with RESET_L low, leave the device at step 1
(R356). When the start timer has reached START_LIMIT, the start fails: the ledger records it (PEND 0, the COUNT as it is, the
STEP, and the CAUSE, 1 or that of the halt), and the device is in recovery state with RECOV 2, its registers sealed, every link
disabled, the events held lost. Before that, nothing changes (R362, R372, R373). Where the host reaches the ledger's clear bit (in
service and recovery state, and in start-up from step 4 on), a write of 1 to BOOT_LEDGER_CLR.CLEAR writes COUNT 0 and CLR 1 into
the ledger and changes nothing else; a write of 0 changes nothing (R27, R364, R374). -/
def Obligations.StartSequenceAndLedger : Prop :=
  ((∀ (s : State) (cal : List CabCal), s.pins.resetL = false → s.pins.watched = true → s.atStep1 = true →
     ∃ t, exec (.resetLRelease cal) s = .next t ∧ t.pins = { s.pins with resetL := true } ∧
       (s.pins.unwatched = false → t.mode = .startUp ∧ t.get Reg.BOOT_STATUS_STEP = 3 ∧ t = { s with pins := t.pins, regs := t.regs }) ∧
       (s.pins.unwatched = true → StartCounted s t)) ∧
   (∀ (s : State) (cal : List CabCal), s.pins.watched = false → s.pins.resetL = true → s.atStep1 = true →
     ∃ t, exec (.railsInRange cal) s = .next t ∧ t.pins = { s.pins with core := true, sds := true, io := true, aon := true } ∧
       (s.pins.unwatched = false → t.mode = .startUp ∧ t.get Reg.BOOT_STATUS_STEP = 3 ∧ t = { s with pins := t.pins, regs := t.regs }) ∧
       (s.pins.unwatched = true → StartCounted s t)) ∧
   (∀ (s : State) (cal : List CabCal), s.pins.unwatched = false → s.mode = .startUp → s.get Reg.BOOT_STATUS_STEP = 3 →
     s.boot.timer = none →
     ∃ t, exec (.unwatchedRailInRange cal) s = .next t ∧ t.pins = { s.pins with unwatched := true } ∧ StartCounted s t) ∧
   (∀ (s : State) (cal : List CabCal), s.pins.resetL = false →
     (s.pins.watched = false → exec (.resetLRelease cal) s = .next { s with pins := { s.pins with resetL := true } }) ∧
     (s.pins.watched = false → exec (.railsInRange cal) s =
       .next { s with pins := { s.pins with core := true, sds := true, io := true, aon := true } }))) ∧
  ((∀ (s : State) (c : Nat), s.mode = .startUp → s.boot.timer = some c → c + s.startLimit ≤ s.clock →
     (s.ledger.getD {}).seq + 1 < 2 ^ 32 →
     ∃ t l, exec .startLimitExpiry s = .next t ∧ t.mode = .recovery ∧ t.get Reg.BOOT_STATUS_RECOV = 2 ∧
       t.get Reg.BOOT_STATUS_SEALED = 1 ∧ t.boot.timer = none ∧ t.boot.held = [] ∧ t.ledger = some l ∧ l.pend = false ∧
       l.count = (s.ledger.getD {}).count ∧ l.step = s.get Reg.BOOT_STATUS_STEP ∧
       l.cause = (if s.flag Reg.BOOT_STATUS_HALTED then s.get Reg.BOOT_STATUS_HALT_CAUSE else 1) ∧
       (∀ x ∈ allLinks, t.link x = {})) ∧
   (∀ s : State, s.limitPassed = false → exec .startLimitExpiry s = .next s)) ∧
  (∀ (s : State) (v : BitVec 64), s.ledgerOpen = true →
     (bitOf v 0 = true → (s.ledger.getD {}).seq + 1 < 2 ^ 32 →
       ∃ t l, exec (.bootLedgerClear v) s = .next t ∧ t.ledger = some l ∧ l.count = 0 ∧ l.clr = true ∧
         l.pend = (s.ledger.getD {}).pend ∧ l.cause = (s.ledger.getD {}).cause ∧ l.step = (s.ledger.getD {}).step ∧
         t = { s with ledgerA := t.ledgerA, ledgerB := t.ledgerB }) ∧
     (bitOf v 0 = false → exec (.bootLedgerClear v) s = .next s))

/-! ## The boot program -/

/-- The operation in turn runs. A WAIT sets the time at which the program goes on, VALUE[15:0] microseconds later; at that time, and
not before, the program moves on. A SEAL with a sound protection map seals the registers and the program moves on; with a bad one
the start halts with cause 5, nothing sealed. BOOT_PROG.PC shows the operation that has run (R366, R368). WRITE in turn: the write
is made as bootReg makes it, and the program moves on, its index shown; a START_LIMIT that has passed when it is written fails the
start instead, with recovery state and RECOV 2 (R362, R366). Of what bootReg does: a PERIOD in range is in force at once (R36); a
write of BOOT_PMAP(3) before the seal sets its five fields, and after it leaves them and sets PROG_ERR (R8, R366). APPLY in turn
of a reserved section halts the start with cause 4 and sets PROG_ERR (R366, R367). Of a section 1 to 5 the section is applied, as
applySection does it, and the program moves on: one that the image lacks applies nothing beside the check of the directory (R392,
R461), and a section 2 of one record sets its site (R269, R367). END in turn checks the directory where no APPLY has, and seals
where SEAL has not run; a bad protection map then halts the start with cause 5. With an enabled link the links train at step 9,
all at once; with none service state begins. Step 9 also ends by its timeout: service state is entered at step 10, the start timer
stopped, COUNT, PEND and CLR of the ledger 0 (R361, R363, R366, R368, R372). -/
def Obligations.BootProgramRuns : Prop :=
  ((∀ (s : State) (off v : Nat), s.bootTurn 2 = some (off, v) →
     exec .bootWait s = .next { s with boot := { s.boot with waitUntil := some (s.clock + v % 2 ^ 16 * 1250) } }) ∧
   (∀ (s : State) (c : Nat), s.boot.waitUntil = some c →
     (c ≤ s.clock → ∃ t, exec .bootWaitExpiry s = .next t ∧ t.boot.waitUntil = none ∧ t.boot.pc = s.boot.pc + 1 ∧
       t.get Reg.BOOT_PROG_PC = s.boot.pc % 2 ^ 12) ∧
     (s.clock < c → exec .bootWaitExpiry s = .next s)) ∧
   (∀ (s : State) (off v : Nat), s.bootTurn 4 = some (off, v) → s.mapOk = true →
     ∃ t, exec .bootSeal s = .next t ∧ t.get Reg.BOOT_STATUS_SEALED = 1 ∧ t.boot.pc = s.boot.pc + 1 ∧
       t.get Reg.BOOT_PROG_PC = s.boot.pc % 2 ^ 12) ∧
   (∀ (s : State) (off v : Nat), s.bootTurn 4 = some (off, v) → s.mapOk = false →
     ∃ t, exec .bootSeal s = .next t ∧ t.get Reg.BOOT_STATUS_HALTED = 1 ∧ t.get Reg.BOOT_STATUS_HALT_CAUSE = 5 ∧
       t.get Reg.BOOT_STATUS_SEALED = s.get Reg.BOOT_STATUS_SEALED)) ∧
  ((∀ (s : State) (cal : List CabCal) (off v : Nat), s.bootTurn 1 = some (off, v) →
     (((s.bootReg cal off v).bootNext.limitPassed = true → s.limitPassed = true) →
       ∃ t, exec (.bootWrite cal) s = .next t ∧ t = (s.bootReg cal off v).bootNext ∧ t.boot.pc = (s.bootReg cal off v).boot.pc + 1 ∧
         t.get Reg.BOOT_PROG_PC = (s.bootReg cal off v).boot.pc % 2 ^ 12) ∧
     ((s.bootReg cal off v).bootNext.limitPassed = true → s.limitPassed = false →
       ∃ t, exec (.bootWrite cal) s = .next t ∧ t.mode = .recovery ∧ t.get Reg.BOOT_STATUS_RECOV = 2)) ∧
   (∀ (s : State) (cal : List CabCal) (v : Nat),
     (32 ≤ v → v ≤ 1048576 → (s.bootReg cal 0x10008 v).get Reg.TCK_PERIOD_PERIOD = v) ∧
     (s.unsealed = true → (s.bootReg cal 0x120160 v).get Reg.BOOT_PMAP_CHN_LO 3 = v % 256 ∧
       (s.bootReg cal 0x120160 v).get Reg.BOOT_PMAP_CHN_HI 3 = v / 256 % 256 ∧
       (s.bootReg cal 0x120160 v).get Reg.BOOT_PMAP_TBL_READ 3 = v / 65536 % 2) ∧
     (s.unsealed = false → (s.bootReg cal 0x120160 v).get Reg.BOOT_PMAP_CHN_LO 3 = s.get Reg.BOOT_PMAP_CHN_LO 3 ∧
       (s.bootReg cal 0x120160 v).get Reg.BOOT_PROG_PROG_ERR = 1))) ∧
  ((∀ (s : State) (off v : Nat), s.bootTurn 3 = some (off, v) → (v % 256 = 0 ∨ 5 < v % 256) →
     ∃ t, exec .bootApply s = .next t ∧ t.get Reg.BOOT_STATUS_HALTED = 1 ∧ t.get Reg.BOOT_STATUS_HALT_CAUSE = 4 ∧
       t.get Reg.BOOT_PROG_PROG_ERR = 1) ∧
   (∀ (s : State) (off v : Nat), s.bootTurn 3 = some (off, v) → 1 ≤ v % 256 → v % 256 ≤ 5 →
     ∃ t, exec .bootApply s = .next t ∧ t = (s.applySection (v % 256)).bootNext ∧
       t.boot.pc = (s.applySection (v % 256)).boot.pc + 1 ∧
       (sectionOf s.boot.body (v % 256) = none → t = (s.startTables []).bootNext) ∧
       (∀ b, v % 256 = 2 → sectionOf s.boot.body 2 = some b → b.length = 16 →
         (t.site (leAt b 0 8 % 4096)).applied = St.defined (BitVec.ofNat 64 (leAt b 8 8)) ∧
         (t.site (leAt b 0 8 % 4096)).word = St.defined (BitVec.ofNat 64 (leAt b 8 8))))) ∧
  ((∀ (s u : State) (off v : Nat), s.bootTurn 0 = some (off, v) → u = (s.startTables []).put Reg.BOOT_PROG_PC s.boot.pc →
     u.flag Reg.BOOT_STATUS_HALTED = false →
     (u.unsealed = true → u.mapOk = false →
       ∃ t, exec .bootEnd s = .next t ∧ t.get Reg.BOOT_STATUS_HALTED = 1 ∧ t.get Reg.BOOT_STATUS_HALT_CAUSE = 5 ∧ t.mode = u.mode) ∧
     ((u.unsealed = true → u.mapOk = true) → u.enabledLinks ≠ [] →
       ∃ t, exec .bootEnd s = .next t ∧ t.mode = .startUp ∧ t.boot.training = true ∧ t.get Reg.BOOT_STATUS_STEP = 9 ∧
         t.get Reg.BOOT_STATUS_SEALED = 1 ∧ ∀ l ∈ u.enabledLinks, (t.link l).st = .seek) ∧
     ((u.unsealed = true → u.mapOk = true) → u.enabledLinks = [] →
       ∃ t, exec .bootEnd s = .next t ∧ t.mode = .service ∧ t.boot.training = false)) ∧
   (∀ s : State, s.mode = .startUp → s.boot.training = true → (s.ledger.getD {}).seq + 1 < 2 ^ 32 →
     ∃ t l, exec .linkTrainingTimeout s = .next t ∧ t.mode = .service ∧ t.boot.training = false ∧ t.boot.timer = none ∧
       t.get Reg.BOOT_STATUS_STEP = 10 ∧ t.ledger = some l ∧ l.count = 0 ∧ l.pend = false ∧ l.clr = false))

/-! ## The tick -/

/-- While no boundary is due, TICK_BOUNDARY changes nothing. A boundary that is due in recovery state moves the counter by one, and
changes nothing else while no full-array test runs (C10); one that is due in service state does what serviceBoundary lists, and
the tick that it opens has the number the source gives, the marker's under the follower source and otherwise one more than the
last, or the first one (R32, R33, R44). The admission close of the tick before the one in progress falls G cycles after its end.
It makes that tick's plan where admission was open in it, and plans nothing where admission was closed; the tick in progress is
then the next to be planned. Before that cycle, and once the tick is planned, it changes nothing (R45, R47). -/
def Obligations.TickBoundaryAndPlan : Prop :=
  ((∀ (s : State) (b : Boundary), s.boundaryDue = false → exec (.tickBoundary b) s = .next s) ∧
   (∀ (s : State) (b : Boundary), s.mode = .recovery → s.boundaryDue = true →
     ∃ t, exec (.tickBoundary b) s = .next t ∧ t.tick.now = (if s.tick.started then (s.tick.now + 1) % 2 ^ 48 else 0) ∧
       t.tick.started = true ∧ t.tick.last = s.clock ∧ (s.cur.fullTest = false → t = { s with tick := t.tick })) ∧
   (∀ (s : State) (b : Boundary), s.mode = .service → s.boundaryDue = true →
     ∃ t, exec (.tickBoundary b) s = .next t ∧ t = s.serviceBoundary b ∧ t.tick.now = s.tickOpened ∧
       t.tick.started = true ∧ t.tick.last = s.clock) ∧
   (∀ s : State, s.mode = .service →
     (s.boundaryDue = true ↔
       s.period ≠ 0 ∧ (s.tick.started = true → s.tick.await = false ∧ s.tick.last + s.tick.len ≤ s.clock)) ∧
     (s.tick.marker = none → s.tickOpened = if s.tick.started then (s.tick.now + 1) % 2 ^ 48 else s.tick.first) ∧
     (∀ n, s.tick.marker = some n → s.get Reg.TCK_CTRL_SRC = 2 → s.tickOpened = n))) ∧
  (∀ s : State,
     (s.tick.started = true → tickAdd s.tick.plan 1 = s.tick.now → s.tick.last + s.guardCycles ≤ s.clock →
       (s.tick.openPrev = false → exec .admissionClose s = .next { s with tick := { s.tick with plan := s.tick.now } }) ∧
       (s.tick.openPrev = true →
         ∃ t, exec .admissionClose s = .next t ∧ t.tick.plan = s.tick.now ∧
           t = { s.makePlan s.tick.plan with tick := { (s.makePlan s.tick.plan).tick with plan := s.tick.now } })) ∧
     ((s.tick.started = false ∨ tickAdd s.tick.plan 1 ≠ s.tick.now ∨ s.clock < s.tick.last + s.guardCycles) →
       exec .admissionClose s = .next s))

/-- The external source in service state. While it is measured an edge is kept, and the third of three whose period is in range locks
the source at P = floor((E2 - E0) / 2) - 2 (R38). While it is tracked, an edge within 2 cycles of its expected place is accepted:
it ends a run of misses and moves the expected place by P (R39, R40). While it is lost, two intervals in a row near P end the loss
(R42). A missed edge or marker of a locked source is counted and the expected place moves on by P; LOSS_LIMIT of them in a row set
LOST, and fewer leave it as it is (R40, R41, R44). A silence while the external source is measured, or before a tick of it has
ended, discards the edges seen and has the measurement start again (R43). A TICK flit on the link whose markers the follower
source takes: P follows the source's, the source is locked and not lost, the run of misses ends, and the next boundary falls on
the marker and takes its number; while a tick of another source still lasts, that tick is to wait for the next marker instead
(R32, R44). A TICK flit on any other link, and any other flit, changes nothing. -/
def Obligations.TickSources : Prop :=
  (∀ s : State, s.mode = .service → s.get Reg.TCK_CTRL_SRC = 1 →
     (s.flag Reg.TCK_STATUS_LOCKED = false → s.tick.edges.length < 2 →
       ∃ t, exec .tickReferenceEdge s = .next t ∧ t.tick.edges = s.tick.edges ++ [s.clock] ∧ t.tick.lastEdge = s.clock ∧
         t.flag Reg.TCK_STATUS_LOCKED = false) ∧
     (∀ a b, s.flag Reg.TCK_STATUS_LOCKED = false → s.tick.edges = [a, b] → periodOk ((s.clock - a) / 2 - 2) = true →
       ∃ t, exec .tickReferenceEdge s = .next t ∧ t.flag Reg.TCK_STATUS_LOCKED = true ∧ t.period = (s.clock - a) / 2 - 2 ∧
         t.tick.e0 = a ∧ t.tick.expected = s.clock + t.period) ∧
     (s.flag Reg.TCK_STATUS_LOCKED = true → s.flag Reg.TCK_STATUS_LOST = false → ((s.clock : Int) - s.tick.expected).natAbs ≤ 2 →
       ∃ t, exec .tickReferenceEdge s = .next t ∧ t.tick.misses = 0 ∧ t.tick.k = s.tick.k + 1 ∧ t.tick.lastEdge = s.clock ∧
         t.tick.expected = s.tick.expected + t.period ∧ t = { s with tick := t.tick, regs := t.regs }) ∧
     (∀ a b, s.flag Reg.TCK_STATUS_LOCKED = true → s.flag Reg.TCK_STATUS_LOST = true → s.tick.watch = [a, b] →
       near (b - a) s.period = true → near (s.clock - b) s.period = true →
       ∃ t, exec .tickReferenceEdge s = .next t ∧ t.flag Reg.TCK_STATUS_LOST = false ∧ t.tick.lossClosed = false ∧ t.tick.watch = [])) ∧
  ((∀ s : State, s.mode = .service → s.get Reg.TCK_CTRL_SRC ≠ 0 → s.flag Reg.TCK_STATUS_LOCKED = true →
     ∃ t, exec .missedEdge s = .next t ∧
       t.get Reg.TCK_CNT_MISSED_COUNT = min (s.get Reg.TCK_CNT_MISSED_COUNT + 1) Reg.TCK_CNT_MISSED_COUNT.max ∧
       t.tick.misses = s.tick.misses + 1 ∧ t.tick.expected = s.tick.expected + s.period ∧
       (s.flag Reg.TCK_STATUS_LOST = false → s.lossLimit ≤ s.tick.misses + 1 → t.flag Reg.TCK_STATUS_LOST = true) ∧
       (s.tick.misses + 1 < s.lossLimit → t.flag Reg.TCK_STATUS_LOST = s.flag Reg.TCK_STATUS_LOST)) ∧
   (∀ s : State, s.get Reg.TCK_CTRL_SRC = 1 → (s.flag Reg.TCK_STATUS_LOCKED = false ∨ s.tick.await = true) →
     ∃ t, exec .tickSourceMissing s = .next t ∧ t.tick = { s.tick with edges := [], lastEdge := 0, await := false } ∧
       t.flag Reg.TCK_STATUS_LOCKED = false ∧ t = { s with tick := t.tick, regs := t.regs })) ∧
  ((∀ (s : State) (l : Link) (f : Flit) (p : Nat), s.markerLink = some l → Lf.kind f = kTick → p < 2 ^ 21 →
     ∃ t, exec (.tickMarker l f p) s = .next t ∧ t.tick.misses = 0 ∧ t.flag Reg.TCK_STATUS_LOCKED = true ∧
       t.flag Reg.TCK_STATUS_LOST = false ∧ t.period = p ∧ t.seam.missed = 0 ∧
       ((s.flag Reg.TCK_STATUS_LOCKED = true ∨ s.midTick = false) →
         t.tick.marker = some (Lf.tick f) ∧ t.tickOpened = Lf.tick f ∧ t.tick.await = false) ∧
       (s.flag Reg.TCK_STATUS_LOCKED = false → s.midTick = true → t.tick.marker = none ∧ t.tick.await = true)) ∧
   (∀ (s : State) (l : Link) (f : Flit) (p : Nat), (s.markerLink ≠ some l ∨ Lf.kind f ≠ kTick) → exec (.tickMarker l f p) s = .next s))

/-- A tick setting in range waits for its re-timing, which keeps admission closed with BLOCK 4, its field not yet changed; a write of
the value that the field holds, with no re-timing under way, changes nothing but the start of the idle time. At a boundary with
admission closed for the whole of the last tick and no verdict pending, the settings of the re-timing take effect; before that
they wait (R45). -/
def Obligations.RetimingTakesSettings : Prop :=
  (∀ (s : State) (t : TickSetting), s.mode = .service → s.settingOk t = true →
    (s.settingHeld t = false ∨ s.tick.retime.isSome = true →
      ∃ u, exec (.tickSettingWrite t) s = .next u ∧ u.tick.retime = some (TickSetting.into t (s.tick.retime.getD {})) ∧
        u.tick.applied = false ∧ u.blockCause = 4 ∧ (s.tick.open_ = false → u.get Reg.TCK_STATUS_BLOCK = 4) ∧
        (∀ F ∈ [Reg.TCK_CTRL_SRC, Reg.TCK_PERIOD_PERIOD, Reg.TCK_GUARD_GUARD, Reg.TCK_LATENCY_L], u.get F = s.get F)) ∧
    (s.settingHeld t = true → s.tick.retime = none →
      exec (.tickSettingWrite t) s = .next { s with dorm := { s.dorm with idleFrom := s.clock } })) ∧
  (∀ (s : State) (r : Retime), s.tick.retime = some r → s.tick.applied = false →
    (s.drained = true → s.tick.last = s.clock →
      ∃ u, exec .retimingApply s = .next u ∧ u.tick.applied = true ∧ u.tick.full = 0 ∧ u.tick.retime = some { join := r.join } ∧
        (∀ n, r.period = some n → n < 2 ^ 21 → u.get Reg.TCK_PERIOD_PERIOD = n) ∧
        (∀ n, r.guard = some n → n < 2 ^ 7 → u.get Reg.TCK_GUARD_GUARD = n) ∧
        (∀ n, r.latency = some n → n < 2 ^ 5 → u.get Reg.TCK_LATENCY_L = n) ∧
        (∀ n, r.src = some n → n < 4 → u.get Reg.TCK_CTRL_SRC = n) ∧
        (∀ b, r.release = some b → u.flag Reg.SEAM_CTRL_RELEASE = b) ∧
        (∀ n, r.settle = some n → n < 2 ^ 5 → u.get Reg.SEAM_CTRL_S = n)) ∧
    ((s.drained = false ∨ s.tick.last ≠ s.clock) → exec .retimingApply s = .next s))

/-- A write of a value outside a tick setting's range leaves the field unchanged and sets CFG_ERR: PERIOD 32 to 1,048,576, GUARD 0 to
64, LATENCY 2 to 16, AHEAD_MAX 1 to 65,535, written in service state and by the boot program alike (R46). -/
def Obligations.TickSettingOutOfRange : Prop :=
  (∀ (s : State), s.mode = .service →
    (∀ v : BitVec 21, (v.toNat < 32 ∨ 1048576 < v.toNat) →
      ∃ t, exec (.tickSettingWrite (.period v)) s = .next t ∧ t.get Reg.TCK_PERIOD_PERIOD = s.get Reg.TCK_PERIOD_PERIOD ∧
        t.tick = s.tick ∧ t.get Reg.TCK_STATUS_CFG_ERR = 1) ∧
    (∀ v : BitVec 7, 64 < v.toNat →
      ∃ t, exec (.tickSettingWrite (.guard v)) s = .next t ∧ t.get Reg.TCK_GUARD_GUARD = s.get Reg.TCK_GUARD_GUARD ∧
        t.tick = s.tick ∧ t.get Reg.TCK_STATUS_CFG_ERR = 1) ∧
    (∀ v : BitVec 5, (v.toNat < 2 ∨ 16 < v.toNat) →
      ∃ t, exec (.tickSettingWrite (.latency v)) s = .next t ∧ t.get Reg.TCK_LATENCY_L = s.get Reg.TCK_LATENCY_L ∧
        t.tick = s.tick ∧ t.get Reg.TCK_STATUS_CFG_ERR = 1) ∧
    (∀ (v : BitVec 64) (size : Nat), s.barOpen 0 = true → (size = 4 ∨ size = 8) → v.toNat % 2 ^ 16 = 0 →
      ∃ t, exec (.registerWrite 0 (.bar 0x10040) size v) s = .next t ∧
        t.get Reg.TCK_AHEAD_AHEAD_MAX = s.get Reg.TCK_AHEAD_AHEAD_MAX ∧ t.tick = s.tick ∧ t.get Reg.TCK_STATUS_CFG_ERR = 1)) ∧
  (∀ (s : State) (cal : List CabCal) (v : Nat),
    ((v % 2 ^ 21 < 32 ∨ 1048576 < v % 2 ^ 21) → (s.bootReg cal 0x10008 v).get Reg.TCK_PERIOD_PERIOD = s.get Reg.TCK_PERIOD_PERIOD ∧
      (s.bootReg cal 0x10008 v).get Reg.TCK_STATUS_CFG_ERR = 1) ∧
    (64 < v % 2 ^ 7 → (s.bootReg cal 0x10010 v).get Reg.TCK_GUARD_GUARD = s.get Reg.TCK_GUARD_GUARD ∧
      (s.bootReg cal 0x10010 v).get Reg.TCK_STATUS_CFG_ERR = 1) ∧
    ((v % 2 ^ 5 < 2 ∨ 16 < v % 2 ^ 5) → (s.bootReg cal 0x10018 v).get Reg.TCK_LATENCY_L = s.get Reg.TCK_LATENCY_L ∧
      (s.bootReg cal 0x10018 v).get Reg.TCK_STATUS_CFG_ERR = 1) ∧
    (v % 2 ^ 16 = 0 → (s.bootReg cal 0x10040 v).get Reg.TCK_AHEAD_AHEAD_MAX = s.get Reg.TCK_AHEAD_AHEAD_MAX ∧
      (s.bootReg cal 0x10040 v).get Reg.TCK_STATUS_CFG_ERR = 1))

/-- A host write to an SL field after the seal step leaves the field unchanged and raises EV_SEAL_VIOLATION in the global event range:
in service state its event counts, and in start-up it is held for delivery (R8, R437). The SL fields are in the window of the PF
alone (R439). -/
def Obligations.SealedFieldsStay : Prop :=
  ∀ (s : State) (off : BitVec 26) (size : Nat) (v : BitVec 64), s.flag Reg.BOOT_STATUS_SEALED = true → s.mode ≠ .dormant →
    s.barOpen 0 = true → (size = 4 ∨ size = 8) → off.toNat % size = 0 →
    touchesSealed (busWord off.toNat size v).2 (off.toNat / 8 * 8) = true →
    ∃ t, exec (.registerWrite 0 (.bar off) size v) s = .next t ∧
      (∀ e ∈ fieldsAt (off.toNat / 8 * 8), e.1.acc = .sl → t.get e.1 e.2.1 e.2.2 = s.get e.1 e.2.1 e.2.2) ∧
      (s.mode = .service → t.get Reg.EVT_SRC_COUNT Ev.SEAL_VIOLATION = min (s.get Reg.EVT_SRC_COUNT Ev.SEAL_VIOLATION + 1) 255) ∧
      (s.mode = .startUp → t.boot.held = s.boot.held ++ [Ev.SEAL_VIOLATION])

/-! ## Links and records -/

/-- Training, where links may train: signal takes SEEK to LOCK, codeword lock LOCK to ALIGN, aligned lanes with a skew of at most 32
ns ALIGN to HELLO, with a HELLO sent on lane 0. In HELLO a HELLO is answered with ACK, a port taking its GRANT; one that carries
ACK, or one after an ACK was received, takes the link to UP, where a port holds the GRANT as transmit credits and, in service
state and not entering dormancy, has granted its producer every free flit of its queue (R66, R68, R69, R71, R79, R83). A link that
is 10 ms in HELLO without UP returns to SEEK, which a port counts, with no event (R69). A link in UP goes to SEEK, to train again,
when its clock or its codewords are lost or more than 8 codewords of a lane in 10,000 were uncorrectable, and not on fewer (R70).
A port that leaves UP, so or by RETRAIN in service state, counts it, holds no credits, keeps its committed records and has its
dynamic return-path entries removed at the next boundary (R70, R79, R279). -/
def Obligations.LinksTrainAndGoDown : Prop :=
  ((∀ (s : State) (l : Link), s.mayTrain = true → (s.link l).st = .seek →
     exec (.linkSignalDetect l) s = .next (s.setLink l { s.link l with st := .lock })) ∧
   (∀ (s : State) (l : Link), s.mayTrain = true → (s.link l).st = .lock →
     exec (.codewordLock l) s = .next (s.setLink l { s.link l with st := .align })) ∧
   (∀ (s : State) (l : Link) (skew : Nat), s.mayTrain = true → (s.link l).st = .align → skew ≤ 32 →
     ∃ t, exec (.laneAlignment l skew) s = .next t ∧ (t.link l).st = .hello ∧
       t.out = .link l 0 (LinkFlit.hello (helloPort l) false).flit :: s.out ∧ t.regs = s.regs) ∧
   (∀ (s : State) (l : Link) (f : Flit), s.mayTrain = true → (s.link l).st = .hello → Lf.kind f = kHello →
     (Lf.ack f = false → (s.link l).gotAck = false →
       ∃ t, exec (.hello l f) s = .next t ∧ (t.link l).st = .hello ∧ (t.link l).gotHello = true ∧ (t.link l).sentAck = true ∧
         t.out = .link l (s.txLane l) (LinkFlit.hello (helloPort l) true).flit :: s.out ∧
         ∀ p, l = .port p → t.get Reg.PRT_CREDIT_OUT_GRANT p = Lf.grant f) ∧
     ((Lf.ack f = true ∨ (s.link l).gotAck = true) →
       ∃ t, exec (.hello l f) s = .next t ∧ (t.link l).st = .up ∧
         .link l (s.txLane l) (LinkFlit.hello (helloPort l) true).flit ∈ t.out ∧
         ∀ p, l = .port p → s.mode = .service → t.get Reg.PRT_CREDIT_OUT_HELD p = Lf.grant f ∧
           (s.dorm.phase ≠ .entering → t.get Reg.PRT_CREDIT_IN_HELD p = 4096 - (s.port p).fill)))) ∧
  ((∀ (s : State) (l : Link), (s.link l).st = .hello →
     ∃ t, exec (.helloTimeout l) s = .next t ∧ t.link l = { st := .seek, since := s.clock } ∧
       (∀ p, l = .port p → t.get Reg.PRT_CNT_LINKDOWN_COUNT p =
         min (s.get Reg.PRT_CNT_LINKDOWN_COUNT p + 1) Reg.PRT_CNT_LINKDOWN_COUNT.max) ∧ t.host = s.host) ∧
   (∀ (s : State) (l : Link) (why : DownCause), (s.link l).st = .up →
     ((why = .uncorrectable → ∃ e ∈ (s.link l).uncorr, 8 < (s.link l).window e.1 e.2) →
       ∃ t, exec (.linkDown l why) s = .next t ∧ (t.link l).st = .seek ∧
         (∀ p, l = .port p → t.get Reg.PRT_CREDIT_IN_HELD p = 0 ∧ t.get Reg.PRT_CREDIT_OUT_HELD p = 0 ∧
           (t.port p).queue = (s.port p).queue ∧ p.val ∈ t.rptPend.down ∧
           t.get Reg.PRT_CNT_LINKDOWN_COUNT p = min (s.get Reg.PRT_CNT_LINKDOWN_COUNT p + 1) Reg.PRT_CNT_LINKDOWN_COUNT.max)) ∧
     ((∀ e ∈ (s.link l).uncorr, (s.link l).window e.1 e.2 ≤ 8) → exec (.linkDown l .uncorrectable) s = .next s)) ∧
   (∀ (s : State) (p : Fin 16), s.mode = .service → s.portUp p = true →
     ∃ t, exec (.prtRetrain p) s = .next t ∧ (t.link (.port p)).st = .seek ∧ t.get Reg.PRT_CREDIT_IN_HELD p = 0 ∧
       t.get Reg.PRT_CREDIT_OUT_HELD p = 0 ∧ (t.port p).queue = (s.port p).queue ∧ p.val ∈ t.rptPend.down ∧
       t.get Reg.PRT_CNT_LINKDOWN_COUNT p = min (s.get Reg.PRT_CNT_LINKDOWN_COUNT p + 1) Reg.PRT_CNT_LINKDOWN_COUNT.max))

/-- The host's port control in service state. FLUSH empties the queue and counts the committed records it drops (R87). EN 1 trains a
port that is disabled and leaves another port as it is; EN 0 takes a port that trains or is UP to disabled, its queue emptied, and
leaves a port in self-test there (R68). SELFTEST 1 takes the port into self-test, its queue emptied, the outcome of the last test
cleared; its end counts what the march found and sets PASS when there was no double error; SELFTEST 0 has the port train again, or
leaves it disabled where EN is 0 (R88). -/
def Obligations.PortControl : Prop :=
  (∀ (s : State) (p : Fin 16), s.mode = .service →
    ∃ t, exec (.prtFlush p) s = .next t ∧ (t.port p).queue = [] ∧ (t.port p).complete = [] ∧ (t.port p).part = [] ∧
      t.get Reg.PRT_CNT_FLUSHED_COUNT p =
        min (s.get Reg.PRT_CNT_FLUSHED_COUNT p + (s.port p).queue.length) Reg.PRT_CNT_FLUSHED_COUNT.max) ∧
  (∀ (s : State) (p : Fin 16), s.mode = .service →
    ∃ t, exec (.prtEnWrite p true) s = .next t ∧ t.flag Reg.PRT_CTRL_EN p = true ∧
      ((s.port p).link.st = .disabled → (t.port p).link.st = .seek) ∧ ((s.port p).link.st ≠ .disabled → t.port p = s.port p)) ∧
  (∀ (s : State) (p : Fin 16), s.mode = .service →
    ∃ t, exec (.prtEnWrite p false) s = .next t ∧ t.flag Reg.PRT_CTRL_EN p = false ∧
      ((s.port p).link.st = .disabled ∨ (s.port p).link.st = .selftest → t.port p = s.port p) ∧
      ((s.port p).link.st ≠ .disabled → (s.port p).link.st ≠ .selftest →
        (t.port p).link.st = .disabled ∧ (t.port p).queue = [])) ∧
  (∀ (s : State) (p : Fin 16), s.mode = .service → (s.port p).link.st ≠ .selftest →
    ∃ t, exec (.prtSelftestStart p) s = .next t ∧ t.flag Reg.PRT_CTRL_SELFTEST p = true ∧
      t.flag Reg.PRT_STATUS_SELFTEST_DONE p = false ∧ t.flag Reg.PRT_STATUS_SELFTEST_PASS p = false ∧
      (t.port p).link.st = .selftest ∧ (t.port p).queue = []) ∧
  (∀ (s : State) (p : Fin 16) (corrected doubles : Nat), (s.port p).link.st = .selftest →
    s.flag Reg.PRT_STATUS_SELFTEST_DONE p = false →
    ∃ t, exec (.prtSelftestDone p corrected doubles) s = .next t ∧ t.flag Reg.PRT_STATUS_SELFTEST_DONE p = true ∧
      t.flag Reg.PRT_STATUS_SELFTEST_PASS p = (doubles == 0) ∧
      t.get Reg.PRT_CNT_CORR_COUNT p = min (s.get Reg.PRT_CNT_CORR_COUNT p + corrected) Reg.PRT_CNT_CORR_COUNT.max ∧
      t.get Reg.PRT_CNT_UNCORR_COUNT p = min (s.get Reg.PRT_CNT_UNCORR_COUNT p + doubles) Reg.PRT_CNT_UNCORR_COUNT.max ∧
      t = { s with regs := t.regs }) ∧
  (∀ (s : State) (p : Fin 16), s.mode = .service → (s.port p).link.st = .selftest →
    ∃ t, exec (.prtSelftestEnd p) s = .next t ∧ t.flag Reg.PRT_CTRL_SELFTEST p = false ∧
      (t.port p).link.st = (if s.flag Reg.PRT_CTRL_EN p then .seek else .disabled))

/-- A data flit on a port in UP is counted as received. With credit, and neither resync nor framing discarding it, it is stored and
spends a credit: the last flit of its record leaves the record complete with the outcome of its CRC-32, and another joins the
record in reception (R77, R79). In resync, and by framing, a flit with credit is discarded and its credit given back (R78, R87).
Without credit its record is discarded whole and counted (R81). A port that is not UP takes none. The oldest complete record of a
port. With a good CRC-32 and good parity in its headers it commits, outside entry to dormancy and in a joining target from J on:
it is counted, its SEQ kept, and it joins the queue, its admission taken against the open tick where admission is open and left
for later where it is not (R45, R47, R77, R330). On a parity error in its headers it is counted as committed and as poisoned, and
discarded (R86). With a bad CRC-32 it is rewound, counted, and on a port in UP its credits are given back (R77). With no complete
record nothing changes. -/
def Obligations.RecordsArriveAndCommit : Prop :=
  (∀ (s : State) (p : Fin 16) (f : Flit), s.get Reg.PRT_CREDIT_IN_HELD p < 2 ^ 13 →
     (s.portUp p = false → exec (.dataFlit p f) s = .next s) ∧
     (s.portUp p = true → ∃ t, exec (.dataFlit p f) s = .next t ∧
       (t.port p).link.rxFlits = ((s.port p).link.rxFlits + 1) % 2 ^ 32 ∧ (t.port p).queue = (s.port p).queue ∧
       (∀ q, q ≠ p.val → t.port q = s.port q) ∧
       (∀ fl len, s.flag Reg.PRT_STATUS_RESYNC p = false → (s.port p).skip = 0 → s.get Reg.PRT_CREDIT_IN_HELD p ≠ 0 →
         fl = (s.port p).part ++ [QFlit.ofFlit f] → len = (if (s.port p).part.isEmpty then hdrFlits f else (s.port p).partLen) →
         t.get Reg.PRT_CREDIT_IN_HELD p = s.get Reg.PRT_CREDIT_IN_HELD p - 1 ∧
         (fl.length = len → (t.port p).part = [] ∧ (t.port p).complete = (s.port p).complete ++ [(fl, recCrcOk (fl.map QFlit.flit))]) ∧
         (fl.length ≠ len → (t.port p).part = fl ∧ (t.port p).partLen = len ∧ (t.port p).complete = (s.port p).complete) ∧
         t = { s with ports := t.ports, regs := t.regs }) ∧
       ((s.flag Reg.PRT_STATUS_RESYNC p = true ∨ 0 < (s.port p).skip) → s.get Reg.PRT_CREDIT_IN_HELD p ≠ 0 →
         t.get Reg.PRT_CREDIT_IN_HELD p = s.get Reg.PRT_CREDIT_IN_HELD p ∧ (t.port p).part = (s.port p).part ∧
         (t.port p).complete = (s.port p).complete) ∧
       (s.flag Reg.PRT_STATUS_RESYNC p = false → (s.port p).skip = 0 → s.get Reg.PRT_CREDIT_IN_HELD p = 0 →
         (t.port p).part = [] ∧ (t.port p).complete = (s.port p).complete ∧
         t.get Reg.PRT_CNT_CREDIT_VIOL_COUNT p = min (s.get Reg.PRT_CNT_CREDIT_VIOL_COUNT p + 1) Reg.PRT_CNT_CREDIT_VIOL_COUNT.max))) ∧
  ((∀ (s : State) (p : Fin 16) (fl : List QFlit) (rest : List (List QFlit × Bool)), (s.port p).complete = (fl, true) :: rest →
     (headBad fl = false → s.dorm.phase ≠ .entering →
       (s.seam.pair = .target → ∃ j, s.seam.joinAt = some j ∧ tickLater j (recStamp (fl.map QFlit.flit)) = false) →
       ∃ t, exec (.recordCommit p) s = .next t ∧ (t.port p).complete = rest ∧
         t.get Reg.PRT_CNT_RECORDS_COUNT p = min (s.get Reg.PRT_CNT_RECORDS_COUNT p + 1) Reg.PRT_CNT_RECORDS_COUNT.max ∧
         (t.port p).prevSeq = some (recSeq (fl.map QFlit.flit)) ∧
         (t.port p).queue = (s.port p).queue ++ [{ flits := fl, admitAt := (if s.mode = .service ∧ s.tick.open_ = true then
           some (admitTick (recStamp (fl.map QFlit.flit)) s.openTickNo (s.get Reg.TCK_AHEAD_AHEAD_MAX)).1 else none) }]) ∧
     (headBad fl = true →
       ∃ t, exec (.recordCommit p) s = .next t ∧ (t.port p).complete = rest ∧ (t.port p).queue = (s.port p).queue ∧
         t.get Reg.PRT_CNT_RECORDS_COUNT p = min (s.get Reg.PRT_CNT_RECORDS_COUNT p + 1) Reg.PRT_CNT_RECORDS_COUNT.max ∧
         t.get Reg.PRT_CNT_POISON_COUNT p = min (s.get Reg.PRT_CNT_POISON_COUNT p + 1) Reg.PRT_CNT_POISON_COUNT.max)) ∧
   (∀ (s : State) (p : Fin 16) (fl : List QFlit) (rest : List (List QFlit × Bool)), (s.port p).complete = (fl, false) :: rest →
     ∃ t, exec (.recordCommit p) s = .next t ∧ (t.port p).complete = rest ∧ (t.port p).queue = (s.port p).queue ∧
       t.get Reg.PRT_CNT_REWIND_COUNT p = min (s.get Reg.PRT_CNT_REWIND_COUNT p + 1) Reg.PRT_CNT_REWIND_COUNT.max ∧
       (s.portUp p = true → t.get Reg.PRT_CREDIT_IN_HELD p = (s.get Reg.PRT_CREDIT_IN_HELD p + fl.length) % 2 ^ 13)) ∧
   (∀ (s : State) (p : Fin 16), (s.port p).complete = [] → exec (.recordCommit p) s = .next s))

/-- A CREDIT flit on a port in UP gives back the difference of two cumulative counts, to be used from the next boundary; on the seam
in UP it gives it back at once, and messages that wait leave as far as the credits reach (R80, R83, R93, R310). A SYNC flit on a
port or the seam in UP sets the count of received flits and takes lost flits as spent and returned; it ends the resync of a port,
whose next flit is a header (R78, R82). Cascade ports grant no credits: neither flit changes anything there (R337). A received
ALIGN flit sets the far end's count of its lane. Once another 16,384 flits have left on a lane of a link that trains or is UP, the
device counts up and sends ALIGN there, and not before (R66). A flit of a kind that is reserved or of the wrong direction is
ignored; a port counts it, and the seam and the cascade ports do not (R73). An uncorrectable codeword of a link in UP is kept for
the link-down rule (R70). On a port it is counted, the record in reception is rewound, and the port enters resync and asks for it,
its committed records staying; the seam asks for resync likewise; a cascade port only keeps it (R78). On a link that is not UP it
changes nothing. The fields of a link flit read back as they were sent, HELLO with VERSION 1 and GRANT 0 (R69, R72, Table 3-2),
and a 257-bit block gives back its flit and its type (R65). -/
def Obligations.LinkFlits : Prop :=
  ((∀ (s : State) (p : Fin 16) (f : Flit), s.portUp p = true → Lf.kind f = kCredit →
     ∃ t, exec (.credit (.port p) f) s = .next t ∧ (t.port p).link.cumRx = Lf.cum f ∧
       (t.port p).link.newCredit = (s.port p).link.newCredit + (Lf.cum f + 2 ^ 32 - (s.port p).link.cumRx) % 2 ^ 32 ∧
       t = { s with ports := t.ports }) ∧
   (∀ (s : State) (f : Flit), s.seam.link.st = .up → Lf.kind f = kCredit →
     ∃ t, exec (.credit .seam f) s = .next t ∧ t.seam.link.cumRx = Lf.cum f ∧
       (s.seam.waiting = [] → t.seam.credit = s.seam.credit + (Lf.cum f + 2 ^ 32 - s.seam.link.cumRx) % 2 ^ 32 ∧ t.out = s.out) ∧
       (∀ m rest, s.seam.waiting = m :: rest → m.cost ≤ s.seam.credit + (Lf.cum f + 2 ^ 32 - s.seam.link.cumRx) % 2 ^ 32 →
         .seam (m.head s.seam.seq) m ∈ t.out)) ∧
   (∀ (s : State) (l : Link) (f : Flit), (s.link l).st = .up → Lf.kind f = kSync → (l = .seam ∨ ∃ p, l = .port p) →
     ∃ t, exec (.sync l f) s = .next t ∧ (t.link l).rxFlits = Lf.cumSent f ∧
       (t.link l).cumTx = ((s.link l).cumTx + syncLost (Lf.cumSent f) (s.link l).rxFlits) % 2 ^ 32 ∧
       (∀ p, l = .port p → t.flag Reg.PRT_STATUS_RESYNC p = false ∧ t.get Reg.PRT_CREDIT_IN_HELD p = s.get Reg.PRT_CREDIT_IN_HELD p ∧
         (s.flag Reg.PRT_STATUS_RESYNC p = true → (t.port p).skip = 0) ∧ (t.port p).queue = (s.port p).queue)) ∧
   (∀ (s : State) (f : Flit), exec (.credit .up f) s = .next s ∧ exec (.credit .down f) s = .next s ∧
     exec (.sync .up f) s = .next s ∧ exec (.sync .down f) s = .next s)) ∧
  ((∀ (s : State) (l : Link) (lane : Nat) (f : Flit), Lf.kind f = kAlign → lane < (s.link l).alignRx.length →
     ∃ t, exec (.align l lane f) s = .next t ∧ (t.link l).alignRx[lane]? = some (Lf.count f) ∧ t.regs = s.regs ∧ t.out = s.out) ∧
   (∀ (s : State) (l : Link) (lane n : Nat), (s.link l).st.sending = true → lane < (s.link l).alignTx.length →
     n = (s.link l).alignTx.getD lane 0 + 1 →
     (16384 * n ≤ s.laneFlits l →
       ∃ t, exec (.alignTransmit l lane) s = .next t ∧ (t.link l).alignTx[lane]? = some n ∧
         t.out = .link l lane (LinkFlit.align lane n).flit :: s.out ∧ t.regs = s.regs) ∧
     (s.laneFlits l < 16384 * n → exec (.alignTransmit l lane) s = .next s)) ∧
   (∀ (s : State) (p : Fin 16) (f : Flit), kindValid (.port p) (Lf.kind f) = false →
     ∃ t, exec (.reservedLinkFlit (.port p) f) s = .next t ∧
       t.get Reg.PRT_CNT_BADLINK_COUNT p = min (s.get Reg.PRT_CNT_BADLINK_COUNT p + 1) Reg.PRT_CNT_BADLINK_COUNT.max ∧
       t = { s with regs := t.regs }) ∧
   (∀ (s : State) (f : Flit), ∀ l ∈ [Link.seam, .up, .down], exec (.reservedLinkFlit l f) s = .next s)) ∧
  (∀ (s : State) (l : Link) (lane ordinal : Nat),
     ((s.link l).st ≠ .up → exec (.uncorrectableCodeword l lane ordinal) s = .next s) ∧
     ((s.link l).st = .up → ∃ t, exec (.uncorrectableCodeword l lane ordinal) s = .next t ∧ (lane, ordinal) ∈ (t.link l).uncorr ∧
       (∀ p, l = .port p →
         t.get Reg.PRT_CNT_FEC_UNCORR_COUNT p = min (s.get Reg.PRT_CNT_FEC_UNCORR_COUNT p + 1) Reg.PRT_CNT_FEC_UNCORR_COUNT.max ∧
         t.flag Reg.PRT_STATUS_RESYNC p = true ∧ (t.port p).part = [] ∧ (t.port p).queue = (s.port p).queue ∧
         t.out.head? = some (.link l (s.txLane l) LinkFlit.resyncReq.flit)) ∧
       (l = .seam → t.out = .link l (s.txLane l) LinkFlit.resyncReq.flit :: s.out ∧ t.regs = s.regs) ∧
       ((l = .up ∨ l = .down) → t.out = s.out ∧ t.regs = s.regs))) ∧
  ((∀ (port : Nat) (a : Bool), Lf.kind (LinkFlit.hello port a).flit = 1 ∧ Lf.version (LinkFlit.hello port a).flit = 1 ∧
     Lf.port (LinkFlit.hello port a).flit = port % 16 ∧ Lf.ack (LinkFlit.hello port a).flit = a ∧
     Lf.grant (LinkFlit.hello port a).flit = 0) ∧
   (∀ cum, Lf.kind (LinkFlit.credit cum).flit = 2 ∧ Lf.cum (LinkFlit.credit cum).flit = cum % 2 ^ 32) ∧
   (∀ n o, Lf.kind (LinkFlit.tick n o).flit = 3 ∧ Lf.tick (LinkFlit.tick n o).flit = n % 2 ^ 48 ∧
     Lf.admitOpen (LinkFlit.tick n o).flit = o) ∧
   (∀ lane n, Lf.kind (LinkFlit.align lane n).flit = 4 ∧ Lf.lane (LinkFlit.align lane n).flit = lane % 2 ∧
     Lf.count (LinkFlit.align lane n).flit = n % 2 ^ 16) ∧
   (∀ (link : Bool) (f : Flit), blockFlit (block link f) = f ∧ blockLink (block link f) = link))

/-! ## Matching, codes and entry records -/

/-- An entry matches a key when every ternary bit of it below the key width matches the key bit: 0 and 1 match their own value, X
both, N neither, so that an entry with a bit in state N matches no key (R129, R130). -/
def Obligations.TernaryMatchRule : Prop :=
  ∀ (w : Nat) (value care key : BitVec 640), w < 4 →
    ((ternaryMatch w value care key = true ↔
      ∀ i < widthBits w, (bitOf care i = true → bitOf value i = bitOf key i) ∧ (bitOf care i = false → bitOf value i = false)) ∧
    ((∃ i < widthBits w, bitOf value i = true ∧ bitOf care i = false) → ternaryMatch w value care key = false))

/-- The code of a key has NCAT bits, bit k being key bit POS(k); with NCAT 0 every key has code 0 (R142). -/
def Obligations.CatalogueCode : Prop :=
  ∀ (t : Table) (key : BitVec 640),
    (∀ k < t.ncat, (t.code key).testBit k = bitOf key (t.pos k)) ∧ t.code key < 2 ^ t.ncat ∧ (t.ncat = 0 → t.code key = 0)

/-- Reading back an entry record gives every field of it, for every key width and every value its format admits (Table 6-3). -/
def Obligations.EntryRecordRoundTrip : Prop :=
  ∀ (w id rank dref info : Nat) (value care : BitVec 640), w < 4 → id < 2 ^ 24 → rank < 2 ^ 16 → dref < 2 ^ 22 →
    info < 2 ^ 64 → value.toNat < 2 ^ widthBits w → care.toNat < 2 ^ widthBits w →
    entryOfBytes (entryBytes w id rank dref info value care) w =
      { id := id, rank := rank, dref := dref, rsvd := 0, info := info, value := value, care := care, wide := false }

/-! ## Searches, verdicts, captures and control messages -/

/-- The next lookup in processing order that waits for its search is searched in its slot: it then has its judgement, which the
lookups before it may still hold back, or it has its result, or, where its table is cascaded, its token is on its way and its own
result kept (R15, R153, R342). The plan keeps its records, each with its port, flits, handle and tick (R15). With no lookup
waiting a slot changes nothing. -/
def Obligations.SearchSlotSearchesOne : Prop :=
  (∀ (s : State) (i k : Nat), s.nextLookup = some (i, k) →
    ∃ t pl l, exec .searchSlot s = .next t ∧ t.planned[i]? = some pl ∧ pl.lookups[k]? = some l ∧
      (l.done = true ∨ l.judged.isSome = true ∨ (l.tok.isSome = true ∧ l.loc.isSome = true)) ∧
      t.planned.map (fun p => (p.port, p.flits, p.handle, p.tick)) = s.planned.map fun p => (p.port, p.flits, p.handle, p.tick)) ∧
  (∀ s : State, s.nextLookup = none → exec .searchSlot s = .next s)

/-- The verdict that is due on a port in UP leaves and is counted there, and the record keeps its other ports. It carries the record's
results; a record whose channel is fenced, or that is closed whole, leaves with CLOSED in every result (R60, R90, R103). The
oldest capture of a port in UP leaves when no CONTROL copy waits for the port and its F + 1 credits are held (R83, R93); that all
of them are held at its start is the model's choice (notes/assumptions/113.md). The first CONTROL message that waits for a port in
UP sends its copy there for one credit, and leaves the list with its last copy (R83, R283). Without their credits both wait. -/
def Obligations.VerdictsCapturesAndControlLeave : Prop :=
  (∀ (s : State) (p : Fin 16) (i : Nat) (pl : Planned), s.nextVerdict p = some i → s.planned[i]? = some pl → s.portUp p = true →
     ∃ t f, exec (.verdictRelease p) s = .next t ∧ t.out = .verdict p (s.txLane (.port p)) f :: s.out ∧
       t.planned = s.planned.set i (pl.without p) ∧ (∀ d ∈ (pl.without p).dest, d.1 ≠ p.val) ∧
       t.get Reg.PRT_CNT_VERDICTS_COUNT p = min (s.get Reg.PRT_CNT_VERDICTS_COUNT p + 1) Reg.PRT_CNT_VERDICTS_COUNT.max ∧
       (pl.allClosed = true ∨ (s.chan pl.chan).st = .fencing →
         f = verdictFlit pl.handle (recSeq pl.flits) (recStamp pl.flits) pl.late pl.poison closedResults) ∧
       (pl.allClosed = false → (s.chan pl.chan).st ≠ .fencing → s.flag Reg.SEAM_CTRL_RELEASE = false →
         f = verdictFlit pl.handle (recSeq pl.flits) (recStamp pl.flits) pl.late pl.poison pl.results)) ∧
  ((∀ (s : State) (p : Fin 16) (c : Capture) (rest : List Capture), (s.port p).capBuf = c :: rest → s.get Reg.PRT_CREDIT_OUT_HELD p < 2 ^ 16 →
     (s.portUp p = true → s.controlWaits p = false → c.flits.length + 1 ≤ s.get Reg.PRT_CREDIT_OUT_HELD p →
       ∃ t, exec (.captureTransmit p) s = .next t ∧ t.out = .capture p c :: s.out ∧ (t.port p).capBuf = rest ∧
         t.get Reg.PRT_CREDIT_OUT_HELD p = s.get Reg.PRT_CREDIT_OUT_HELD p - (c.flits.length + 1)) ∧
     ((s.controlWaits p = true ∨ s.get Reg.PRT_CREDIT_OUT_HELD p < c.flits.length + 1) → exec (.captureTransmit p) s = .next s)) ∧
   (∀ (s : State) (p : Fin 16) (c : CtlOp), (s.host.ctl.find? fun c => c.copies.contains p.val) = some c →
     s.get Reg.PRT_CREDIT_OUT_HELD p < 2 ^ 16 →
     (s.portUp p = true → s.get Reg.PRT_CREDIT_OUT_HELD p ≠ 0 →
       ∃ t, exec (.controlCopySend p) s = .next t ∧
         t.out = .link (.port p) (s.txLane (.port p)) (LinkFlit.control c.msg c.tag c.body).flit :: s.out ∧
         t.get Reg.PRT_CREDIT_OUT_HELD p = s.get Reg.PRT_CREDIT_OUT_HELD p - 1 ∧
         t.host.ctl = (takeCopy p s.host.ctl).filter fun m => !m.copies.isEmpty) ∧
     (s.get Reg.PRT_CREDIT_OUT_HELD p = 0 → exec (.controlCopySend p) s = .next s)))

/-! ## Sites and the return path -/

/-- In service state a SITE write that covers the lower half is stored, its reserved bits 0, to be applied at the next boundary, in a
device that is not PAIRED; in PAIRED state it becomes a mirrored operation and no entry changes yet. A write of the upper half
alone, or of another size, changes no entry (R9, R270, R324, R416). -/
def Obligations.SiteWrites : Prop :=
  (∀ (s : State) (n : BitVec 12) (v : BitVec 64) (size : Nat) (upper : Bool), s.mode = .service →
    (size = 8 ∨ (size = 4 ∧ upper = false)) →
    (s.seam.pair ≠ .paired →
      ∃ t, exec (.siteWrite n v size upper) s = .next t ∧ (t.site n.toNat).word = St.defined v ∧ (t.site n.toNat).due = true ∧
        (t.site n.toNat).applied = (s.site n.toNat).applied ∧ (∀ m, m ≠ n.toNat → t.site m = s.site m) ∧
        t = { s with sites := t.sites, dorm := t.dorm }) ∧
    (s.seam.pair = .paired →
      ∃ t, exec (.siteWrite n v size upper) s = .next t ∧ t.sites = s.sites ∧
        t.seam.ops = s.seam.ops ++ [{ id := s.seam.nextId, mine := true, op := .site n (St.defined v), target := n.toNat }])) ∧
  (∀ (s : State) (n : BitVec 12) (v : BitVec 64) (size : Nat) (upper : Bool), s.mode = .service →
    ((size = 4 ∧ upper = true) ∨ (size ≠ 4 ∧ size ≠ 8)) →
    exec (.siteWrite n v size upper) s = .next { s with dorm := { s.dorm with idleFrom := s.clock } })

/-- RPT_STATIC in service state: a static write or removal waits for the next boundary with BUSY set, and one given while BUSY is set
is dropped; OP 0 or 3 gives RESULT 3 and applies nothing. RPT_AGEING has the dynamic entries older than AGE_S removed at the next
boundary, and no static one (R278, R281). Return-path commands of the PF with sound parameters, over a table that reads without
error. RPT_SEARCH writes the record of the tag's entry to host memory and ends SUCCESS, or NOT_FOUND without an entry; RPT_NEXT
does so with the first entry from its cursor on; RPT_FLUSH_BY_PORT waits for the next boundary; CTL_SEND makes one copy for the
port of the tag's entry where that port is in UP, ends NO_ROUTE where it is not, and makes one for every port in UP for a tag
without entry (R283, R285, R422). -/
def Obligations.ReturnPath : Prop :=
  ((∀ (s : State) (tag : BitVec 24) (port : BitVec 4), s.mode = .service →
     ∃ t, exec (.rptStaticWrite tag port) s = .next t ∧ t.flag Reg.RPT_STATIC_BUSY = true ∧ t.rpt = s.rpt ∧
       t.rptPend.static = (if s.flag Reg.RPT_STATIC_BUSY then s.rptPend.static else s.rptPend.static ++ [(true, tag.toNat, port.toNat)])) ∧
   (∀ (s : State) (tag : BitVec 24), s.mode = .service →
     ∃ t, exec (.rptStaticRemove tag) s = .next t ∧ t.flag Reg.RPT_STATIC_BUSY = true ∧ t.rpt = s.rpt ∧
       t.rptPend.static = (if s.flag Reg.RPT_STATIC_BUSY then s.rptPend.static else s.rptPend.static ++ [(false, tag.toNat, 0)])) ∧
   (∀ (s : State) (op : BitVec 2), s.mode = .service → s.flag Reg.RPT_STATIC_BUSY = false → (op = 0 ∨ op = 3) →
     ∃ t, exec (.rptStaticInvalid op) s = .next t ∧ t.get Reg.RPT_STATIC_RESULT = 3 ∧ t.rptPend = s.rptPend ∧ t.rpt = s.rpt) ∧
   (∀ s : State, s.mode = .service → s.get Reg.RPT_CTRL_AGE_S ≠ 0 →
     ∃ t, exec .rptAgeing s = .next t ∧ t.rpt = s.rpt ∧
       ∀ e ∈ s.rpt, (e.bucket, e.way) ∈ t.rptPend.aged ↔
         ∃ x ∈ s.rpt, x.bucket = e.bucket ∧ x.way = e.way ∧ x.static = false ∧ s.ageTicks < tickSub s.tick.now x.last)) ∧
  ((∀ (s : State) (c : Cmd) (d : Dma), s.engineOp 0x18 = some c → s.host.mirror = none → c.func = 0 → badParams c.slot = false →
     d.wrOk = true → (∀ x ∈ s.rpt, x.bad = false) →
     ∃ t, exec (.rptSearch d) s = .next t ∧ t.rpt = s.rpt ∧
       (∀ e, s.rptEntry (bits c.slot.p1 23 0) = some e →
         t.out = .hostWrite 0 c.slot.p0.toNat e.record :: s.out ∧ t.owes c Sts.SUCCESS 0 true) ∧
       (s.rptEntry (bits c.slot.p1 23 0) = none → t.out = s.out ∧ t.owes c Sts.NOT_FOUND 0 true)) ∧
   (∀ (s : State) (c : Cmd) (d : Dma), s.engineOp 0x19 = some c → s.host.mirror = none → c.func = 0 → badParams c.slot = false →
     d.wrOk = true → (∀ x ∈ s.rpt, x.bad = false) →
     ∃ t, exec (.rptNext d) s = .next t ∧ t.rpt = s.rpt ∧
       (∀ e, s.rptFrom (bits c.slot.p1 15 0) (bitOf c.slot.p1 16) = some e →
         t.out = .hostWrite 0 c.slot.p0.toNat e.record :: s.out ∧ t.owes c Sts.SUCCESS 0 true) ∧
       (s.rptFrom (bits c.slot.p1 15 0) (bitOf c.slot.p1 16) = none → t.out = s.out ∧ t.owes c Sts.NOT_FOUND 0 true)) ∧
   (∀ (s : State) (c : Cmd) (d : Dma), s.engineOp 0x1A = some c → s.host.mirror = none → c.func = 0 → badParams c.slot = false →
     ∃ t e, exec (.rptFlushByPort d) s = .next t ∧ t.rptPend.flush = s.rptPend.flush ++ [e] ∧ e.port = bits c.slot.p1 3 0 ∧
       e.static = bitOf c.slot.p1 4 ∧ e.cmd = some c.own ∧ t.owes c Sts.SUCCESS 0 false ∧ t.rpt = s.rpt) ∧
   (∀ (s : State) (c : Cmd) (d : Dma) (b : List Byte), s.engineOp 0x1B = some c → s.host.mirror = none → c.func = 0 →
     badParams c.slot = false → d.rd = some b → (∀ x ∈ s.rpt, x.bad = false) →
     ((∃ e, s.rptEntry (bits c.slot.p1 39 16) = some e ∧ s.portUp e.port = true) ∨ s.rptEntry (bits c.slot.p1 39 16) = none →
       ∃ t m, exec (.ctlSend d) s = .next t ∧ t.host.ctl = s.host.ctl ++ [m] ∧ m.tag = bits c.slot.p1 39 16 ∧
         m.msg = bits c.slot.p1 15 8 ∧ m.owed = some c.own ∧ t.owes c Sts.SUCCESS 0 false ∧
         (∀ e, s.rptEntry (bits c.slot.p1 39 16) = some e → m.copies = [e.port]) ∧
         (s.rptEntry (bits c.slot.p1 39 16) = none → m.copies = (List.range 16).filter s.portUp)) ∧
     (∀ e, s.rptEntry (bits c.slot.p1 39 16) = some e → s.portUp e.port = false →
       ∃ t, exec (.ctlSend d) s = .next t ∧ t.owes c Sts.NO_ROUTE 0 true ∧ t.host.ctl = s.host.ctl)))

/-- The digests the host writes for the shadow engine, four buckets at a time or one, and no other bucket's. A pass over a return-path
table that reads without error, the engine enabled and its requester not fenced, changes nothing where every bucket's digest
agrees; otherwise it counts the buckets that differ, records the lowest of them, sets SHADOW_MISMATCH and raises EV_RPT_SHADOW
once (R282). -/
def Obligations.ShadowEngine : Prop :=
  (∀ (s : State) (w : BitVec 12) (v : BitVec 64), s.mode = .service →
    ∃ t, exec (.rptShadowWrite w v) s = .next t ∧
      (∀ i < 4, fgetD t.shadow (4 * w.toNat + i) 0 = bits v (16 * i + 15) (16 * i)) ∧
      (∀ b, (b < 4 * w.toNat ∨ 4 * w.toNat + 4 ≤ b) → fgetD t.shadow b 0 = fgetD s.shadow b 0)) ∧
  (∀ (s : State) (bucket : BitVec 14) (digest : BitVec 16), s.mode = .service →
    ∃ t, exec (.rptShadowSet bucket digest) s = .next t ∧ fgetD t.shadow bucket.toNat 0 = digest.toNat ∧
      (∀ b, b ≠ bucket.toNat → fgetD t.shadow b 0 = fgetD s.shadow b 0)) ∧
  (∀ (s : State) (bad : List Nat), s.mode = .service → s.flag Reg.RPT_CTRL_SHADOW_EN = true → s.reqFenced 13 = false →
    (∀ e ∈ s.rpt, e.bad = false) → bad = (s.shadowBuckets.filter fun b => s.bucketDigest b != fgetD s.shadow b 0) →
    (bad = [] → exec .shadowPass s = .next s) ∧
    (∀ b rest, bad = b :: rest → rest.foldl min b < 2 ^ 14 →
      ∃ t, exec .shadowPass s = .next t ∧ t.get Reg.RPT_MISMATCH_BUCKET = rest.foldl min b ∧
        t.get Reg.RPT_CNT_SHADOW_MISMATCH_COUNT =
          min (s.get Reg.RPT_CNT_SHADOW_MISMATCH_COUNT + bad.length) Reg.RPT_CNT_SHADOW_MISMATCH_COUNT.max ∧
        t.flag Reg.RPT_STATUS_SHADOW_MISMATCH = true ∧ t.rpt = s.rpt ∧
        t.get Reg.EVT_SRC_COUNT Ev.RPT_SHADOW = min (s.get Reg.EVT_SRC_COUNT Ev.RPT_SHADOW + 1) 255))

/-! ## Channels -/

/-- CHN_CREATE of a sound template whose tables the function may search, with a free slot in the function's range and quotas that fit,
makes the channel of the template in the lowest such slot, with its next generation, and completes with its handle (R98, R100,
R113, R114, R121). CHN_DESTROY of the current handle of a live channel has its slot fenced at the next boundary and completes
later (R103). Neither changes another slot. In PAIRED state both are mirrored instead, as MirroredOperations states. A slot fenced
at boundary k is free from boundary k + L, or k + L + S in checked release, with CLOSED set, the rest of it as it was; no other
slot changes, and before that boundary nothing does (R103). -/
def Obligations.ChannelLifecycle : Prop :=
  ((∀ (s : State) (c : Cmd) (d : Dma) (b : List Byte) (n : Nat), s.engineOp 0x10 = some c → s.host.mirror = none →
     s.seam.pair ≠ .paired → badParams c.slot = false → d.rd = some b →
     s.badTemplate (templateOf b) c.slot.p0.toNat (bits c.slot.p1 8 0) = false →
     s.mayReference c.func (templateOf b).lookups = true → s.freeSlot c.func = some n → s.quotaFits (templateOf b).qf = true →
     ∃ t, exec (.chnCreate d) s = .next t ∧ (t.chan n).lookups = (templateOf b).lookups ∧ (t.chan n).segs = (templateOf b).segs ∧
       (t.chan n).egress = (templateOf b).egress ∧ (t.chan n).qf = (templateOf b).qf ∧ (t.chan n).owner = c.func ∧
       (t.chan n).gen = nextGen (s.chan n).gen ∧ (t.chan n).st = .creating ∧ (∀ m, m ≠ n → t.chan m = s.chan m) ∧
       t.owes c Sts.SUCCESS (n + 256 * nextGen (s.chan n).gen) true) ∧
   (∀ (s : State) (c : Cmd) (n : Nat), s.engineOp 0x11 = some c → s.host.mirror = none → s.seam.pair ≠ .paired →
     badParams c.slot = false → n = bits c.slot.p0 15 0 % 256 → n ≠ 0 → (c.func = 0 ∨ s.slotRange c.func n = true) →
     (s.chan n).gen = bits c.slot.p0 15 0 / 256 → (s.chan n).st = .live →
     ∃ t, exec .chnDestroy s = .next t ∧ t.chan n = { s.chan n with st := .destroying, cmd := some c.own } ∧
       (∀ m, m ≠ n → t.chan m = s.chan m) ∧ t.owes c Sts.SUCCESS 0 false)) ∧
  (∀ (s : State) (slot : BitVec 8) (k : Tick), (s.chan slot.toNat).fencedAt = some k → (s.chan slot.toNat).st = .fencing →
     (tickLe (tickAdd k (s.lat + s.settle)) s.tick.now = true →
       ∃ t, exec (.channelSlotFree slot) s = .next t ∧
         t.chan slot.toNat = { s.chan slot.toNat with st := .free, fencedAt := none, cmd := none } ∧
         t.flag Reg.CHN_STATUS_CLOSED slot.toNat = true ∧ (∀ m, m ≠ slot.toNat → t.chan m = s.chan m)) ∧
     (tickLe (tickAdd k (s.lat + s.settle)) s.tick.now = false → exec (.channelSlotFree slot) s = .next s))

/-- A quota write in service state to a slot of the function's range that holds a channel not yet fenced replaces the four quotas of
its half where every gallery's sum stays within 1,024, in PAIRED state as a mirrored operation, and otherwise leaves them and sets
QUOTA_ERR; a write to any other slot changes no channel (R105, R114, R115, R121). A channel's slot whose WAIT_AGE has reached
STALL_LIMIT sets STALL, and before that nothing changes (R122). -/
def Obligations.QuotasAndStall : Prop :=
  (∀ (s : State) (f : Fin 16) (slot : BitVec 8) (hi : Bool) (v : BitVec 64) (n : Nat) (q : List Nat), s.mode = .service →
    n = slot.toNat → q = newQuota (s.chan n).qf hi v →
    (s.slotRange f n = true → ((s.chan n).st = .live ∨ (s.chan n).st = .destroying) →
      ((∀ g < 8, s.qfSum g - (s.chan n).qf.getD g 0 + q.getD g 0 ≤ 1024) → s.seam.pair ≠ .paired →
        ∃ t, exec (.chnQuotaWrite f slot hi v) s = .next t ∧ t.chan n = { s.chan n with qf := q } ∧
          (∀ m, m ≠ n → t.chan m = s.chan m)) ∧
      ((∀ g < 8, s.qfSum g - (s.chan n).qf.getD g 0 + q.getD g 0 ≤ 1024) → s.seam.pair = .paired →
        ∃ t, exec (.chnQuotaWrite f slot hi v) s = .next t ∧ t.chans = s.chans ∧
          t.seam.ops = s.seam.ops ++ [{ id := s.seam.nextId, mine := true, op := .quota slot hi v, target := n }]) ∧
      ((∃ g < 8, 1024 < s.qfSum g - (s.chan n).qf.getD g 0 + q.getD g 0) → s.seam.pair ≠ .paired →
        ∃ t, exec (.chnQuotaWrite f slot hi v) s = .next t ∧ t.chans = s.chans ∧ t.flag Reg.CHN_STATUS_QUOTA_ERR n = true)) ∧
    ((s.slotRange f n = false ∨ (s.chan n).st = .free ∨ (s.chan n).st = .creating ∨ (s.chan n).st = .fencing) →
      exec (.chnQuotaWrite f slot hi v) s = .next { s with dorm := { s.dorm with idleFrom := s.clock } })) ∧
  (∀ (s : State) (slot : BitVec 8), (s.chan slot.toNat).st ≠ .free → (s.chan slot.toNat).st ≠ .creating →
    ((s.chan slot.toNat).limit ≤ s.waitAge slot.toNat →
      ∃ t, exec (.channelStall slot) s = .next t ∧ t.flag Reg.CHN_STATUS_STALL slot.toNat = true ∧ t.chans = s.chans) ∧
    (s.waitAge slot.toNat < (s.chan slot.toNat).limit → exec (.channelStall slot) s = .next s))

/-- A CHN_STATUS cause bit of a slot that goes from 0 to 1 in service state is set and counts once in the channel's event 96 + slot;
one that is set already changes nothing. CHANNEL_STALL at the limit is such a cause, STALL (R122, R123). -/
def Obligations.ChannelCauseRaisesOnce : Prop :=
  (∀ (s : State) (slot : Nat) (F : Field), slot < 256 →
    F ∈ [Reg.CHN_STATUS_STALL, Reg.CHN_STATUS_SHORT, Reg.CHN_STATUS_ORPHAN, Reg.CHN_STATUS_POISON_REFUSED,
      Reg.CHN_STATUS_QUOTA_ERR, Reg.CHN_STATUS_CREATE_FAIL, Reg.CHN_STATUS_CLOSED] →
    (s.flag F slot = true → s.chanCause F slot = s) ∧
    (s.flag F slot = false → s.mode = .service → (s.chanCause F slot).flag F slot = true ∧
      (s.chanCause F slot).get Reg.EVT_SRC_COUNT (96 + slot) = min (s.get Reg.EVT_SRC_COUNT (96 + slot) + 1) 255)) ∧
  (∀ (s : State) (slot : BitVec 8), (s.chan slot.toNat).st ≠ .free → (s.chan slot.toNat).st ≠ .creating →
    (s.chan slot.toNat).limit ≤ s.waitAge slot.toNat →
    exec (.channelStall slot) s = .next (s.chanCause Reg.CHN_STATUS_STALL slot.toNat))

/-! ## Tables -/

/-- TBL_CREATE from the PF of a sound descriptor under a free number, with room, gives the table its resources, to exist from the next
boundary (R167, R170); TBL_DESTROY from the PF of a live table that is not write-locked and that nothing references or edits waits
for its boundary, its rows as they are (R171). Neither changes another table. In PAIRED state both are mirrored instead, as
MirroredOperations states. TBL_CREATE and TBL_DESTROY are accepted from the physical function only: a virtual function receives
DENIED, and no table changes (R170). A table destroyed at boundary k is gone from boundary k + L, with its bays, broad set, tally
counters, lost entries and accession records; other tables stay. Before that boundary nothing changes (R171). -/
def Obligations.TableLifecycle : Prop :=
  ((∀ (s : State) (c : Cmd) (d : Dma) (b : List Byte), s.engineOp 0x01 = some c → s.host.mirror = none → s.seam.pair ≠ .paired →
     c.func = 0 → d.rd = some b → badParams c.slot = false → s.badTable (tableOfBytes b) = false →
     s.table c.table = none → s.tableFits (tableOfBytes b) = true →
     ∃ t k, exec (.tblCreate d) s = .next t ∧ t.table c.table = some k ∧ sameDesc k (tableOfBytes b) = true ∧ k.creating = true ∧
       k.destroying = false ∧ t.owes c Sts.SUCCESS 0 true ∧ (∀ u, u ≠ c.table → t.table u = s.table u)) ∧
   (∀ (s : State) (c : Cmd) (k : Table), s.engineOp 0x02 = some c → s.host.mirror = none → s.seam.pair ≠ .paired →
     c.func = 0 → s.writeLocked c.table = false → badParams c.slot = false → s.liveTable c.table = some k →
     s.referenced c.table = false → s.tableLocked c.table = false →
     ∃ t, exec .tblDestroy s = .next t ∧ t.table c.table = some { k with destroying := true, cmd := some c.own } ∧
       t.owes c Sts.SUCCESS 0 false ∧ (∀ u, u ≠ c.table → t.table u = s.table u) ∧ t.rows = s.rows)) ∧
  (∀ (s : State) (c : Cmd) (d : Dma), s.host.mirror = none → c.func ≠ 0 →
     (s.engineOp 0x01 = some c → ∃ t, exec (.tblCreate d) s = .next t ∧ t.tables = s.tables ∧ t.owes c Sts.DENIED 0 true) ∧
     (s.engineOp 0x02 = some c → ∃ t, exec .tblDestroy s = .next t ∧ t.tables = s.tables ∧ t.owes c Sts.DENIED 0 true)) ∧
  (∀ (s : State) (n : Fin 64) (d : Table) (k : Tick), s.table n.val = some d → d.destroyAt = some k →
     (tickLe (tickAdd k s.lat) s.tick.now = true →
       ∃ t, exec (.tableDestroyComplete n) s = .next t ∧ t.table n.val = none ∧ (∀ b ∈ t.bays, b.tbl ≠ n.val) ∧
         (∀ b ∈ t.broad, b.tbl ≠ n.val) ∧ (∀ x ∈ t.tallies, x.tbl ≠ n.val) ∧ (∀ e ∈ t.lost, e.1 ≠ n.val) ∧
         (∀ l ∈ t.learnLog, l.tbl ≠ n.val) ∧ (∀ u, u ≠ n.val → t.table u = s.table u)) ∧
     (tickLe (tickAdd k s.lat) s.tick.now = false → exec (.tableDestroyComplete n) s = .next s))

/-- Reads of a table by a function with a right on it, requester 0 not fenced. TBL_READ and TBL_NEXT write the record of the entry
they name to host memory and end SUCCESS, FENCED where the entry's rows lie in a fenced cabinet (the model's choice,
notes/assumptions/130.md), and NOT_FOUND without an entry; the tables and rows stay. TBL_FIND of a table in service writes four
result words after its key and ends SUCCESS when every spanned gallery has its reserved slots for it; without them it waits (R176
to R178, R210, R422). -/
def Obligations.TableReads : Prop :=
  ∀ (s : State) (c : Cmd) (d : Dma) (k : Table), s.host.mirror = none → s.reqFenced 0 = false → badParams c.slot = false →
    s.mayRead c.func c.table = true → s.readTable c.table = some k → d.wrOk = true →
    (s.engineOp 0x06 = some c →
      ∃ t, exec (.tblRead d) s = .next t ∧ t.tables = s.tables ∧ t.rows = s.rows ∧
        (∀ b, s.recordFor c.table c.id k.width = some b → s.readShut c.table c.id = false →
          t.out = .hostWrite c.func c.slot.p0.toNat b :: s.out ∧ t.owes c Sts.SUCCESS 0 true) ∧
        (∀ b, s.recordFor c.table c.id k.width = some b → s.readShut c.table c.id = true → t.owes c Sts.FENCED 0 true) ∧
        (s.recordFor c.table c.id k.width = none → t.owes c Sts.NOT_FOUND 0 true)) ∧
    (s.engineOp 0x08 = some c →
      ∃ t, exec (.tblNext d) s = .next t ∧ t.tables = s.tables ∧ t.rows = s.rows ∧
        (∀ n b, s.nextId c.table c.id (bitOf c.slot.p1 56) = some n → s.recordFor c.table n k.width = some b →
          (s.readShut c.table n = false →
            t.out = .hostWrite c.func c.slot.p0.toNat b :: s.out ∧ t.owes c Sts.SUCCESS 0 true) ∧
          (s.readShut c.table n = true → t.owes c Sts.FENCED 0 true)) ∧
        (s.nextId c.table c.id (bitOf c.slot.p1 56) = none → t.owes c Sts.NOT_FOUND 0 true)) ∧
    (∀ key, s.engineOp 0x07 = some c → k.outOfService = false → d.rd = some key →
      (k.galList.all (s.findSlot (slotsOf k.width)) = true →
        ∃ t w, exec (.tblFind d) s = .next t ∧
          t.out.head? = some (.hostWrite c.func (c.slot.p0.toNat + entryV k.width) w) ∧ w.length = 32 ∧ t.owes c Sts.SUCCESS 0 true) ∧
      (k.galList.all (s.findSlot (slotsOf k.width)) = false →
        exec (.tblFind d) s = .next { s with host := { s.host with waitFrom := some (s.host.waitFrom.getD s.clock) } }))

/-- Tally counters: TALLY_READ by a function that may read them returns the counter of a committed entry, and TALLY_WRITE by one that
may write them sets it, in a table in service, requester 0 not fenced; a write through the tally window sets the counter of that
index and is ignored where no entry holds it. TBLG_LOSS_NEXT takes the head off the loss list (R203, R206, R425). -/
def Obligations.TalliesAndLossList : Prop :=
  (∀ (s : State) (c : Cmd) (d : Table) (x : Tally), s.host.mirror = none → s.reqFenced 0 = false → badParams c.slot = false →
    s.readTable c.table = some d → d.outOfService = false → s.tallyOf c.table c.id = some x →
    (s.committed c.table c.id).isSome = true →
    (s.engineOp 0x28 = some c → (c.func = 0 ∨ (s.flag Reg.BOOT_PMAP_TALLY_READ c.func = true ∧ s.searchRight c.func c.table = true)) →
      ∃ t, exec .tallyRead s = .next t ∧ t.owes c Sts.SUCCESS x.count true ∧ t.tallies = s.tallies) ∧
    (s.engineOp 0x29 = some c → (c.func = 0 ∨ (s.flag Reg.BOOT_PMAP_TALLY_WRITE c.func = true ∧ s.editRight c.func c.table = true)) →
      ∃ t, exec .tallyWrite s = .next t ∧ t.owes c Sts.SUCCESS 0 true ∧
        (∀ y ∈ t.tallies, y.idx = x.idx → y.count = bits c.slot.p0 31 0) ∧
        t.tallies.map (fun y => (y.tbl, y.id, y.idx)) = s.tallies.map fun y => (y.tbl, y.id, y.idx))) ∧
  (∀ (s : State) (counter : BitVec 20) (v : BitVec 32), s.mode = .service →
    ∃ t, exec (.tallyWindowWrite counter v) s = .next t ∧ (∀ y ∈ t.tallies, y.idx = counter.toNat → y.count = v.toNat) ∧
      ((∀ y ∈ s.tallies, y.idx ≠ counter.toNat) → t.tallies = s.tallies)) ∧
  (∀ s : State, s.mode = .service →
    ∃ t, exec .tblgLossNext s = .next t ∧ t.lossList = s.lossList.tail ∧ t = { s with lossList := t.lossList, dorm := t.dorm })

/-! ## Edits -/

/-- EDIT_BEGIN on a live table that no group holds opens a group with a new number, the function's and the table's, its lease running
from now (R179 to R181). Outside PAIRED state it completes with the number; in PAIRED state it asks the twin for the table's lock
and waits for the answer (R326). -/
def Obligations.EditBeginOpensAGroup : Prop :=
  ∀ (s : State) (c : Cmd) (k : Table), s.engineOp 0x09 = some c → s.host.mirror = none →
    badParams c.slot = false → s.editDenied c.func c.table = false → s.liveTable c.table = some k →
    s.tableLocked c.table = false → s.groups.length < 65535 →
    ∃ t g, exec .editBegin s = .next t ∧ t.groups = s.groups ++ [g] ∧ g.tbl = c.table ∧ g.func = c.func ∧ g.st = .open ∧
      g.leaseAt = s.clock ∧ g.edits = [] ∧ g.num ≠ 0 ∧ g.num < 65536 ∧ (∀ x ∈ s.groups, x.num ≠ g.num) ∧
      g.lease = (if c.group ≠ 0 then c.group else max (s.get Reg.TBLG_CTRL_LEASE_DEF) 1) ∧
      (s.seam.pair ≠ .paired → t.owes c Sts.SUCCESS g.num true) ∧
      (s.seam.pair = .paired → t.host.engine = some c ∧ t.host.mirror = some lockWaits ∧ t.seam.lockWait = [(c.table, g.num)] ∧
        SeamSent s t (.lockReq c.table g.num c.func))

/-- An edit command that can be staged enters its edit in the open group it names, whose lease starts again, and completes at once;
without a group number it makes a group of one edit that commits at the next boundary and completes then (R179, R181). In PAIRED
state it is mirrored instead, as MirroredOperations states. What staging does. An insert or modify that is staged leaves the group
with an edit of its ID and a PENDING row of the entry's contents that no search finds; a delete leaves a delete edit of an entry
that exists. An insert of an ID that exists in the group's view gives EXISTS, a modify or delete of one that does not NOT_FOUND,
an insert of an ID that may not be inserted RANGE, an edit of a 4,097th ID GROUP_FULL, an insert into a full table TABLE_FULL
(R173, R176, R182 to R185). -/
def Obligations.EditCommandsStage : Prop :=
  (∀ (s u : State) (c : Cmd) (d : Dma) (b : List Byte) (k : Table) (g g' : Group) (op : EditOp) (r : EntryRec),
     s.host.mirror = none → s.seam.pair ≠ .paired → s.reqFenced 0 = false → badParams c.slot = false →
     s.editDenied c.func c.table = false → s.liveTable c.table = some k → s.stage g k op r = .ok u g' →
     ((op = .insert ∧ s.engineOp 0x03 = some c) ∨ (op = .modify ∧ s.engineOp 0x05 = some c) →
       d.rd = some b → r = entryOfBytes b k.width → k.badRecord r = false →
       (∀ n, n = c.group → n ≠ 0 → s.openGroup c.table n c.func false = some g →
         ∃ t, exec (if op = .insert then .tblInsert d else .tblModify d) s = .next t ∧
           t.groups = u.groups.map (fun x => if x.tbl = g'.tbl then { g' with leaseAt := u.clock } else x) ∧ t.rows = u.rows ∧
           t.owes c Sts.SUCCESS 0 true) ∧
       (c.group = 0 → s.groupFor c.table 0 c.func (some c.own) = .ok g →
         ∃ t, exec (if op = .insert then .tblInsert d else .tblModify d) s = .next t ∧ t.groups = u.groups ++ [g'] ∧
           t.rows = u.rows ∧ t.owes c Sts.SUCCESS 0 false)) ∧
     (op = .delete → s.engineOp 0x04 = some c →
       r = { id := c.id, rank := 0, dref := 0, rsvd := 0, info := 0, value := 0, care := 0, wide := false } →
       (c.group ≠ 0 → s.openGroup c.table c.group c.func false = some g →
         ∃ t, exec .tblDelete s = .next t ∧
           t.groups = u.groups.map (fun x => if x.tbl = g'.tbl then { g' with leaseAt := u.clock } else x) ∧ t.rows = u.rows ∧
           t.owes c Sts.SUCCESS 0 true) ∧
       (c.group = 0 → s.groupFor c.table 0 c.func (some c.own) = .ok g →
         ∃ t, exec .tblDelete s = .next t ∧ t.groups = u.groups ++ [g'] ∧ t.rows = u.rows ∧ t.owes c Sts.SUCCESS 0 false))) ∧
  (∀ (s : State) (g : Group) (k : Table) (op : EditOp) (r : EntryRec),
     (∀ u g', s.stage g k op r = .ok u g' → op ≠ .delete →
       (∃ e ∈ g'.edits, e.id = r.id ∧ e.op ≠ .delete) ∧
       ∃ row ∈ u.rows, row.tbl = g.tbl ∧ row.id = r.id ∧ row.rank = r.rank ∧ row.dref = r.dref ∧ row.value = r.value ∧
         row.care = r.care ∧ row.st = .pending ∧ row.group = g.num ∧ ∀ n, row.enabledAt n = false) ∧
     (∀ u g', s.stage g k op r = .ok u g' → op = .delete → s.baseExists g.tbl r.id = true →
       ∃ e ∈ g'.edits, e.id = r.id ∧ e.op = .delete) ∧
     (op = .insert → s.viewExists g r.id = true → s.stage g k op r = .fail Sts.EXISTS) ∧
     (op ≠ .insert → s.viewExists g r.id = false → s.stage g k op r = .fail Sts.NOT_FOUND) ∧
     (op = .insert → s.viewExists g r.id = false → s.outOfRange g.tbl k r.id = true → s.stage g k op r = .fail Sts.RANGE) ∧
     (op = .insert → s.viewExists g r.id = false → s.outOfRange g.tbl k r.id = false → 4096 ≤ g.edits.length → g.editOf r.id = none →
       s.stage g k op r = .fail Sts.GROUP_FULL) ∧
     (op ≠ .insert → s.viewExists g r.id = true → 4096 ≤ g.edits.length → g.editOf r.id = none →
       s.stage g k op r = .fail Sts.GROUP_FULL) ∧
     (op = .insert → s.viewExists g r.id = false → s.outOfRange g.tbl k r.id = false → g.edits.length < 4096 → s.tableFull g.tbl = true →
       s.stage g k op r = .fail Sts.TABLE_FULL))

/-- EDIT_COMMIT ends a group's editing and completes at its boundary, outside PAIRED state; in it it is mirrored, as
MirroredOperations states. EDIT_ABORT discards a group that is open or has its EDIT_COMMIT in execution, counted, and that
EDIT_COMMIT completes with ABORTED; a lease that runs out discards an open one, ABORT_LEASE set, and does nothing before. A
command that has waited VEST_WAIT for room completes with VESTIBULE_FULL; TBL_FIND waits for slots, not for room, and no command
stops waiting earlier (R180, R181, R184, R187). A group due at the boundary commits: it is gone, counted, and its staged rows
enter with this tick as ON; one that the wear governor holds is deferred instead, one that is not due stays, and the first
deferred one is released, to commit at the next boundary or at the boundary agreed with the twin, once the balance, less what
released edits owe, reaches 2^35, and not before (R185, R187, R219). -/
def Obligations.GroupsEndAndCommit : Prop :=
  ((∀ (s : State) (c : Cmd) (g : Group), s.engineOp 0x0A = some c → s.host.mirror = none → s.seam.pair ≠ .paired →
     badParams c.slot = false → s.groupByNum c.group c.func false = some g → s.reqFenced 0 = false →
     s.editDenied c.func g.tbl = false →
     ∃ t g', exec .editCommit s = .next t ∧ g' ∈ t.groups ∧ g'.num = g.num ∧ g'.tbl = g.tbl ∧ g'.edits = g.edits ∧
       g'.st = .ready ∧ g'.cmd = some c.own ∧ t.owes c Sts.SUCCESS 0 false) ∧
   (∀ (s : State) (c : Cmd) (g : Group), s.engineOp 0x0B = some c → s.host.mirror = none → badParams c.slot = false →
     s.abortable c.group c.func = some g →
     ∃ t, exec .editAbort s = .next t ∧ t.groups = s.groups.filter (fun x => x ≠ g) ∧ t.owes c Sts.SUCCESS 0 true ∧
       (∀ r ∈ t.rows, r ∈ s.rows) ∧ (∀ r ∈ t.rows, r.st = .pending → r.tbl = g.tbl → r.group = g.num → ∀ e ∈ g.edits, e.id ≠ r.id) ∧
       (∀ o ∈ s.host.owed, g.cmd = some (o.func, o.idx, o.cid) → o.ready = false →
         { o with status := Sts.ABORTED, result := 0, ready := true } ∈ t.host.owed) ∧
       t.get Reg.TBL_CNT_ABORT_COUNT g.tbl = min (s.get Reg.TBL_CNT_ABORT_COUNT g.tbl + 1) Reg.TBL_CNT_ABORT_COUNT.max) ∧
   (∀ (s : State) (n : Fin 64) (g : Group), s.groupOf n.val = some g → g.st = .open → g.ungrouped = false → g.fromPeer = false →
     (g.leaseAt + g.lease * cyclesPerMs ≤ s.clock →
       ∃ t, exec (.editLeaseExpiry n) s = .next t ∧ t.groups = s.groups.filter (fun x => x ≠ g) ∧
         t.flag Reg.TBL_STATUS_ABORT_LEASE g.tbl = true) ∧
     (s.clock < g.leaseAt + g.lease * cyclesPerMs → exec (.editLeaseExpiry n) s = .next s)) ∧
   (∀ (s : State) (c : Cmd) (at_ : Nat), s.host.engine = some c → s.host.waitFrom = some at_ →
     (c.slot.opcode ≠ 0x07 → at_ + s.get Reg.TBLG_CTRL_VEST_WAIT * cyclesPerMs ≤ s.clock →
       ∃ t, exec .vestWaitExpiry s = .next t ∧ t.flag Reg.TBL_STATUS_VESTIBULE_FULL c.table = true ∧ t.owes c Sts.VESTIBULE_FULL 0 true) ∧
     (c.slot.opcode = 0x07 ∨ s.clock < at_ + s.get Reg.TBLG_CTRL_VEST_WAIT * cyclesPerMs → exec .vestWaitExpiry s = .next s))) ∧
  ((∀ (s : State) (n : Fin 64) (g : Group), s.groupOf n.val = some g → g.due s.tick.now = true →
     ¬ (s.governed g = true ∧ g.st = .ready) →
     ∃ t, exec (.groupCommit n) s = .next t ∧ t.groups = s.groups.filter (fun x => x ≠ g) ∧
       t.get Reg.TBL_CNT_COMMIT_COUNT g.tbl = min (s.get Reg.TBL_CNT_COMMIT_COUNT g.tbl + 1) Reg.TBL_CNT_COMMIT_COUNT.max ∧
       (∀ r ∈ s.rows, r.st = .pending → r.tbl = g.tbl → r.group = g.num → (∃ e ∈ g.edits, e.id = r.id) →
         ∃ r' ∈ t.rows, r'.loc = r.loc ∧ r'.tbl = r.tbl ∧ r'.id = r.id ∧ r'.value = r.value ∧ r'.care = r.care ∧ r'.on = s.tick.now)) ∧
   (∀ (s : State) (n : Fin 64) (g : Group), s.groupOf n.val = some g → g.due s.tick.now = true → s.governed g = true →
     g.st = .ready →
     ∃ t, exec (.groupCommit n) s = .next t ∧ { g with st := .deferred } ∈ t.groups ∧ t.rows = s.rows ∧
       t.get Reg.CUR_CNT_DEFER_COUNT = min (s.get Reg.CUR_CNT_DEFER_COUNT + 1) Reg.CUR_CNT_DEFER_COUNT.max) ∧
   (∀ (s : State) (n : Fin 64), (∀ g, s.groupOf n.val = some g → g.due s.tick.now = false) → exec (.groupCommit n) s = .next s) ∧
   (∀ (s : State) (n : Fin 64) (g : Group), s.groupOf n.val = some g → g.st = .deferred →
     (s.firstDeferred g = true → 2 ^ 35 ≤ s.releaseBalance →
       ∃ t g', exec (.commitRelease n) s = .next t ∧ g' ∈ t.groups ∧ g' = { g with st := g'.st, released := true } ∧ g'.st ≠ .deferred ∧
         t.rows = s.rows) ∧
     (s.firstDeferred g = false ∨ s.releaseBalance < 2 ^ 35 → exec (.commitRelease n) s = .next s)))

/-! ## Rows of the array -/

/-- From ON + L a row is LIVE and from OFF + L it is free: after an advance no row still waits for either, and every other row stays
(R185). The oldest place that waits and can be cleared, in a cabinet that is not fenced, is cleared by requester 6: the VALID bits
of its rows are 0, it waits no more, no journal record covers it, and the entries stay; without such a place or while requester 6
may not work nothing changes (R213). The journal row of a visible learned entry is written by requester 4, and the entry is
durable once a journal row holds it; the entries of other places stay, up to the journal rows that hold them. Without such an
entry, or room in its cabinet's journal, nothing changes (R191, R193, R215). -/
def Obligations.RowsAdvancePersistAndClear : Prop :=
  ((∀ s : State,
     ∃ t, exec .rowStateAdvance s = .next t ∧ (∀ r ∈ t.rows, s.rowSettled r = false ∧ s.rowOver r = false) ∧
       (∀ r ∈ s.rows, (∀ o ∈ s.rows, s.rowOver o = true → o.loc ≠ r.loc) →
         (s.rowSettled r = false → r ∈ t.rows) ∧ (s.rowSettled r = true → { r with st := .live } ∈ t.rows))) ∧
   (∀ (s : State) (w : WriteRes),
     (∀ l, s.curating 6 = true → s.mayWork 6 = true →
       (s.cur.clearQ.find? fun m => s.clearable m && !s.shut m.phys) = some l →
       ∃ t, exec (.rowClear w) s = .next t ∧ l ∉ t.cur.clearQ ∧ (∀ j ∈ t.journal, l ∉ j.covers) ∧ t.rows = s.rows ∧
         (∀ m ∈ s.cur.clearQ, m ≠ l → m.isDrawer = false ∨ m.phys ∉ s.placeRows l → m ∈ t.cur.clearQ) ∧
         ∀ k ∈ s.placeRows l, ∃ c, fget t.cells k = some c ∧ c.valid 0 = false ∧ c.valid 1 = false) ∧
     (s.curating 6 = false ∨ s.mayWork 6 = false ∨ (s.cur.clearQ.find? fun m => s.clearable m && !s.shut m.phys) = none →
       exec (.rowClear w) s = .next s))) ∧
  (∀ (s : State) (n : Fin 64) (id : BitVec 24),
     let own := s.rows.find? fun r => r.tbl == n.val && r.id == id.toNat && r.loc.isVest && !r.persisted && tickLe r.on s.tick.now &&
       !s.journalFull r.loc.gal r.loc.cabinet
     (∀ r, s.curating 4 = true → s.mayWork 4 = true → own = some r →
       ∃ t, exec (.learnPersist n id) s = .next t ∧
         (∃ x ∈ t.rows, x = { r with jrow := x.jrow, persisted := x.jrow.isSome }) ∧
         (∀ o ∈ s.rows, o.loc ≠ r.loc → ∃ x ∈ t.rows, x = { o with jrow := x.jrow }) ∧ t.rows.length = s.rows.length) ∧
     (s.curating 4 = false ∨ s.mayWork 4 = false ∨ own = none → exec (.learnPersist n id) s = .next s))

/-- The copies of entries. A migration out of the vestibule writes a SET row in a least-worn place of the target drawer that keeps
R139; a relocation or refresh of a drawer row writes one in a least-worn place of its bay or broad set, with a move record: where
every row of the write verifies within three retries, beside the row that stands; where the first row does not, no entry is
written and that row is defective. Each waits where its conditions fail. A refresh leaves the queue when its entries have moved,
and a descriptor or reference row when its older copy is rewritten. At the boundary every SET row flips or is cancelled: the copy
goes ON, the row that stood goes OFF, unless a commit of the same boundary edits the entry (R185, R188 to R190, R211, R212, R216,
R218, R219, R228 to R230). BAY_SPLIT of a full bay that an entry needs and that can split, and BAY_MERGE of two siblings whose
entries fit four units, while requester 6 may work and no other move of the table in the gallery is unsettled: where every copy
finds a place the bay waits for the boundary that flips them, each of its moving entries beside its copy; where one does not, the
reshape is given up. The map stays until the boundary. Without those conditions nothing changes (R146, R188, R189). -/
def Obligations.EntriesMoveAndBaysReshape : Prop :=
  ((∀ (s : State) (n : Fin 64) (id : BitVec 24) (w : WriteRes) (r : Row) (k x : Nat), s.liveRow n.val id.toNat = some r →
     r.target = some k → x = k - drawerKey r.loc.gal 0 → r.loc.isVest = true → s.mode = .service → s.mayWork 5 = true →
     s.shut r.loc.phys = false → s.moving r.tbl r.id = false → s.openDrawer r.loc.gal x = true → s.mayMigrate r = true →
     s.places r.loc.gal x (s.rowHalves r) (s.rowKey r) r.id ≠ [] →
     ∃ t p, exec (.migration n id w) s = .next t ∧ p ∈ s.places r.loc.gal x (s.rowHalves r) (s.rowKey r) r.id ∧
       (∀ q ∈ s.places r.loc.gal x (s.rowHalves r) (s.rowKey r) r.id,
         s.placeWear r.loc.gal x (s.rowHalves r) p ≤ s.placeWear r.loc.gal x (s.rowHalves r) q) ∧
       ((∀ y ∈ w.rows, (s.failsOf y).length ≤ 3) → t.rows = s.rows ++ [r.copyTo 5 (drawerLoc r.loc.gal x p)]) ∧
       (∀ y rest, w.rows = y :: rest → 3 < (s.failsOf y).length → t.rows = s.rows ∧ p / 2 ∈ (t.drawer r.loc.gal x).defects)) ∧
   (∀ (s : State) (n : Fin 64) (id : BitVec 24) (w : WriteRes),
     (∀ r, s.liveRow n.val id.toNat = some r → r.loc.isVest = false ∨ r.target = none ∨ s.mode ≠ .service ∨ s.mayWork 5 = false ∨
       s.shut r.loc.phys = true ∨ s.moving r.tbl r.id = true ∨ s.mayMigrate r = false ∨
       (∀ x, r.target = some (drawerKey r.loc.gal x) → s.openDrawer r.loc.gal x = false ∨
         s.places r.loc.gal x (s.rowHalves r) (s.rowKey r) r.id = [])) →
     exec (.migration n id w) s = .next s) ∧
   (∀ (s : State) (n : Fin 64) (id : BitVec 24) (w : WriteRes) (r : Row), s.curating 6 = true → s.mayWork 6 = true →
     s.liveRow n.val id.toNat = some r → s.movable r = true → s.movesOf r ≠ [] →
     ∃ t m, exec (.relocation n id w) s = .next t ∧ m ∈ s.movesOf r ∧
       (∀ q ∈ s.movesOf r, s.placeWear r.loc.gal m.1 (s.rowHalves r) m.2 ≤ s.placeWear r.loc.gal q.1 (s.rowHalves r) q.2) ∧
       ((∀ y ∈ w.rows, (s.failsOf y).length ≤ 3) → r.copyTo 6 (drawerLoc r.loc.gal m.1 m.2) ∈ t.rows ∧
         t.rows.length = s.rows.length + 1 ∧ (∀ o ∈ s.rows, o.loc.isDrawer = true → o ∈ t.rows) ∧
         ∃ j ∈ t.journal, j.tomb = false ∧ j.tbl = r.tbl ∧ j.id = r.id ∧ j.covers = [r.loc]) ∧
       (∀ y rest, w.rows = y :: rest → 3 < (s.failsOf y).length → t.rows = s.rows ∧ m.2 / 2 ∈ (t.drawer r.loc.gal m.1).defects)) ∧
   (∀ (s : State) (n : Fin 64) (id : BitVec 24) (w : WriteRes), (s.curating 6 = false ∨ s.mayWork 6 = false ∨
       ∀ r, s.liveRow n.val id.toNat = some r → s.movable r = false ∨ s.movesOf r = []) → exec (.relocation n id w) s = .next s) ∧
   (∀ (s : State) (w : WriteRes) (k : Nat), s.curating 7 = true → s.mayWork 7 = true →
     (s.cur.refreshQ.find? fun k => !s.shut k) = some k →
     (2 ^ 26 ≤ k → ∃ t, exec (.refresh w) s = .next t ∧ t.cur.refreshQ = s.cur.refreshQ.erase k ∧ t.rows = s.rows ∧
       fget t.faults (s.olderCopy k) = none ∧ (s.cur.newer.Nodup → t.olderCopy k ≠ s.olderCopy k) ∧
       t.get Reg.CUR_CNT_REFRESH_COUNT = min (s.get Reg.CUR_CNT_REFRESH_COUNT + 1) Reg.CUR_CNT_REFRESH_COUNT.max) ∧
     (k < 2 ^ 26 → ∀ n a, s.journalRowAt k = some (n, a) → ∃ t, exec (.refresh w) s = .next t ∧
       t.cur.refreshQ = s.cur.refreshQ.erase k ∧
       t.get Reg.CUR_CNT_REFRESH_COUNT = min (s.get Reg.CUR_CNT_REFRESH_COUNT + 1) Reg.CUR_CNT_REFRESH_COUNT.max) ∧
     (k < 2 ^ 26 → s.journalRowAt k = none → ∀ r, s.rowsAt k = [r] → s.movable r = true → s.movesOf r ≠ [] →
       (∀ y ∈ w.rows, (s.failsOf y).length ≤ 3) →
       ∃ t m, exec (.refresh w) s = .next t ∧ m ∈ s.movesOf r ∧ r.copyTo 7 (drawerLoc r.loc.gal m.1 m.2) ∈ t.rows ∧
         t.cur.refreshQ = s.cur.refreshQ.erase k ∧
         t.get Reg.CUR_CNT_REFRESH_COUNT = min (s.get Reg.CUR_CNT_REFRESH_COUNT + 1) Reg.CUR_CNT_REFRESH_COUNT.max) ∧
     (k < 2 ^ 26 → s.journalRowAt k = none → s.rowsAt k = [] →
       ∃ t, exec (.refresh w) s = .next t ∧ t = { s with cur := { s.cur with refreshQ := s.cur.refreshQ.erase k } })) ∧
   (∀ (s : State) (w : WriteRes), (s.curating 7 = false ∨ s.mayWork 7 = false ∨ (s.cur.refreshQ.find? fun k => !s.shut k) = none) →
     exec (.refresh w) s = .next s) ∧
   (∀ s : State, s.cur.swaps = [] → s.cur.reshape = [] →
     ∃ t, exec .rowFlip s = .next t ∧ (∀ r ∈ t.rows, r.st ≠ .set) ∧ t.cur.reshape = [] ∧
       ∀ n ∈ s.rows, n.st = .set → (n.tbl, n.id) ∉ s.dueEdits → (∀ m ∈ s.rows, m.st = .set → m.tbl = n.tbl → m.id = n.id → m = n) →
         ∀ o ∈ s.rows, o.tbl = n.tbl → o.id = n.id → o.st ≠ .set → o.st ≠ .pending → o.off = none → o.loc ≠ n.loc →
           { n with st := .entering, on := s.tick.now, maker := 0 } ∈ t.rows ∧ { o with off := some s.tick.now } ∈ t.rows)) ∧
  ((∀ (s : State) (g : Fin 8) (n : Nat) (b : Bay) (d : Table), s.curating 6 = true → s.mayWork 6 = true →
     (s.bays.find? fun x => x.g == g.val && x.num == n) = some b → s.table b.tbl = some d →
     let span := s.keyOrder ((s.straddling d b).filter fun r => r.loc.isDrawer)
     let halves := [false, true].filter fun hi => (s.halfRows b d hi).all s.movable
     (8 ≤ b.units.length → s.bayWanted b d = true → s.canSplit d b = true → s.unsettled b.tbl b.g = false → span.all s.movable = true →
       halves ≠ [] →
       ∃ t hi, exec (.baySplit g n) s = .next t ∧ hi ∈ halves ∧ t.bays = s.bays ∧
         (let half := s.halfRows b d hi
          let per := 4096 / halvesOf d.width
          let f := State.pickMany (ceilDiv half.length per) (s.freeDrawers b.g) s.drawn
          let h := State.pickMany (ceilDiv span.length per) ((f.2.freeDrawers b.g).filter fun x => !f.1.contains x) f.2
          let u := State.copyAll b.g f.1 half h.2
          let v := State.copyAll b.g (u.1.broadUnits b.g b.tbl ++ h.1) span u.1
          (u.2 = true → v.2 = true → t.cur.reshape = s.cur.reshape ++ [{ g := b.g, bay := n, hi := hi }] ∧
            ∀ r ∈ half ++ span, t.moving r.tbl r.id = true) ∧
          (u.2 = false ∨ v.2 = false → t.cur.reshape = s.cur.reshape ∧ ∀ r ∈ half ++ span, t.moving r.tbl r.id = false))) ∧
     (b.units.length < 8 ∨ s.bayWanted b d = false ∨ s.canSplit d b = false ∨ s.unsettled b.tbl b.g = true ∨ span.all s.movable = false ∨
       halves = [] → exec (.baySplit g n) s = .next s)) ∧
   (∀ (s : State) (g : Fin 8) (n m : Nat) (a b : Bay) (d : Table), s.curating 6 = true → s.mayWork 6 = true →
     (s.bays.find? fun x => x.g == g.val && x.num == n) = some a → (s.bays.find? fun x => x.g == g.val && x.num == m) = some b →
     s.table a.tbl = some d →
     let lo := min a.first b.first
     let room := 4 * (4096 / halvesOf d.width)
     let k := State.pickMany 4 ((a.units ++ b.units).filter (s.openDrawer a.g)) s
     let out := (s.bayRows a lo (lo + 2 ^ (a.s + 1)) d).filter fun r => !k.1.any fun x => r.loc.inDrawer a.g x
     let u := State.copyAll a.g k.1 out k.2
     (siblings a b = true → d.transient = false → s.unsettled a.tbl a.g = false →
       s.blockCount a.tbl a.g d lo (lo + 2 ^ (a.s + 1)) ≤ room → out.all s.movable = true →
       ∃ t, exec (.bayMerge g n m) s = .next t ∧ t.bays = s.bays ∧
         (u.2 = true → t.cur.reshape = s.cur.reshape ++ [{ g := a.g, bay := n, sib := some m, keep := k.1 }] ∧
           ∀ r ∈ out, t.moving r.tbl r.id = true) ∧
         (u.2 = false → t.cur.reshape = s.cur.reshape ∧ ∀ r ∈ out, t.moving r.tbl r.id = false)) ∧
     (siblings a b = false ∨ d.transient = true ∨ s.unsettled a.tbl a.g = true ∨
       room < s.blockCount a.tbl a.g d lo (lo + 2 ^ (a.s + 1)) ∨ out.all s.movable = false → exec (.bayMerge g n m) s = .next s)) ∧
   (∀ (s : State) (g : Fin 8) (n m : Nat), s.curating 6 = false ∨ s.mayWork 6 = false ∨
       (s.bays.find? fun x => x.g == g.val && x.num == n) = none →
     exec (.baySplit g n) s = .next s ∧ exec (.bayMerge g n m) s = .next s))

/-! ## Care of the medium -/

/-- The wear balance is saved while the array is powered, and earns outside dormancy what the time since it last earned gives, up to
its cap of 2^39 (R215 to R217). A calibration round in service state, scheduled or by CAL_GO, takes the new codes of a cabinet
that is not fenced for the next boundary, queues every row of one whose window is below WINDOW_MIN for scrub, or has it fenced
where a window is missing; HIST_CLEAR starts the drift history anew. Without their conditions nothing changes (R221 to R224). A
fenced cabinet: CAB_FENCE has it fenced at the next boundary, CAB_UNFENCE of a fenced one starts its check. The check ends with
the fence lifted at the next boundary where the window suffices, and otherwise kept; its drawers that hold entries are read, and a
clean one whose digest differs from the stored one becomes suspect. No other cabinet changes (R225, R233 to R235). -/
def Obligations.BalanceCalibrationAndFences : Prop :=
  ((∀ s : State, (s.arrayOn = true →
       ∃ t, exec .wearBalanceSave s = .next t ∧ t.cur.saved = s.cur.balance ∧ t = { s with cur := { s.cur with saved := t.cur.saved } }) ∧
     (s.arrayOn = false → exec .wearBalanceSave s = .next s)) ∧
   (∀ s : State, (s.mode ≠ .dormant →
       ∃ t, exec .wearBalanceEarn s = .next t ∧ t.cur.balance = min (s.cur.balance + s.earns (s.clock - s.cur.earnFrom)) (2 ^ 39) ∧
         t.cur.stage = wearStage t.cur.balance ∧ t.cur.earnFrom = s.earnedTo (s.earns (s.clock - s.cur.earnFrom)) ∧ t.rows = s.rows) ∧
     (s.mode = .dormant → exec .wearBalanceEarn s = .next { s with cur := { s.cur with earnFrom := s.clock } })) ∧
   (∀ (s : State) (cal : List CabCal) (n : Nat) (c : CabCal) (i : Instr), (i = .calibrationRound cal ∨ i = .curCalGo cal) →
     s.mode = .service → s.mayWork 9 = true → n < 256 → (cal.find? fun x => x.cab == n) = some c → (s.cab n).fenced = false →
     ∃ t, exec i s = .next t ∧ t.rows = s.rows ∧ t.tables = s.tables ∧
       (∀ m r, c.mref = some m → c.rref = some r → (t.cab n).next = some (midpoint m, midpoint r) ∧ (t.cab n).code = (s.cab n).code ∧
         (t.cab n).width = min (windowCodes m) (windowCodes r) ∧
         (min (windowCodes m) (windowCodes r) < s.get Reg.CUR_CAL_WINDOW_MIN → ∀ k ∈ cabinetRows n, k ∈ t.cur.scrubQ)) ∧
       ((c.mref = none ∨ c.rref = none) → (t.cab n).fenceDue = true ∧ (t.cab n).calFail = true)) ∧
   (∀ (s : State) (cal : List CabCal), (s.mode ≠ .service → exec (.calibrationRound cal) s = .next s ∧ exec (.curCalGo cal) s = .next s) ∧
     (s.mayWork 9 = false → exec (.calibrationRound cal) s = .next s)) ∧
   (∀ s : State, (s.mode = .service →
       ∃ t, exec .histClear s = .next t ∧ t.cur.histValid = false ∧ t.cur.conservLeft = 3 ∧ t.cabs = s.cabs) ∧
     (s.mode ≠ .service → exec .histClear s = .next s))) ∧
  ((∀ (s : State) (cab : BitVec 8), s.mode = .service →
     ∃ t, exec (.curCabFence cab) s = .next t ∧ t.cab cab.toNat = { s.cab cab.toNat with fenceDue := true } ∧
       (∀ n, n ≠ cab.toNat → t.cab n = s.cab n)) ∧
   (∀ (s : State) (cab : BitVec 8), s.mode = .service →
     ∃ t, exec (.curCabUnfence cab) s = .next t ∧ (∀ n, n ≠ cab.toNat → t.cab n = s.cab n) ∧
       ((s.cab cab.toNat).fenced = true → t.cab cab.toNat = { s.cab cab.toNat with checking := true }) ∧
       ((s.cab cab.toNat).fenced = false → t.cab cab.toNat = s.cab cab.toNat)) ∧
   (∀ (s : State) (cab : BitVec 8), s.mode ≠ .service → exec (.curCabFence cab) s = .next s ∧ exec (.curCabUnfence cab) s = .next s) ∧
   (∀ (s : State) (c : CabCal), (s.cab c.cab).checking = true → s.mayWork 9 = true → s.mayWork 11 = true →
     ∃ t, exec (.cabinetCheckDone c) s = .next t ∧ (t.cab c.cab).checking = false ∧ (t.cab c.cab).fenced = (s.cab c.cab).fenced ∧
       (∀ n, n ≠ c.cab → t.cab n = s.cab n) ∧
       (s.get Reg.CUR_CAL_WINDOW_MIN ≤ calWidth c → 0 < calWidth c →
         (t.cab c.cab).unfenceDue = true ∧ (t.cab c.cab).calFail = false) ∧
       (calWidth c < s.get Reg.CUR_CAL_WINDOW_MIN ∨ calWidth c = 0 → (t.cab c.cab).unfenceDue = (s.cab c.cab).unfenceDue) ∧
       (0 < calWidth c → ∀ d < 17, ∀ g x, g = c.cab / 32 → x = 17 * (c.cab % 32) + d → (s.drawer g x).st = .assigned →
         (s.drawer g x).dirty = false → s.drawerDigest g x ≠ (s.drawer g x).digest → (t.drawer g x).suspect = true)) ∧
   (∀ (s : State) (c : CabCal), (s.cab c.cab).checking = false ∨ s.mayWork 9 = false ∨ s.mayWork 11 = false →
     exec (.cabinetCheckDone c) s = .next s))

/-- Scrub, sweep and digests. A scrub pass in service state counts the rows it reads and starts every drawer's count of rejects anew;
a store line that it cannot read is uncorrectable from then on, one that it reads is not, nor one that it recovers and requester
12 can rewrite (R226, R229, R235, R248). The oldest queued row of a cabinet that is not fenced is read once: weak and corrected
cells at the threshold queue it for refresh; one that only the five-offset read gives is recovered, counted and queued; one that
it does not give either makes its drawer suspect where it holds an entry, as does the fourth row unreadable at nominal (R226 to
R230, R235). A self-search with its slots is marked in its sweep or ends it, a miss is counted, and without slots it waits (R210,
R231). A sweep that is not over at the end of its period is reported late, one that is over ends (R232). A dirty drawer that is
due has its digest saved (R233). -/
def Obligations.ScrubSweepAndDigest : Prop :=
  (∀ (s : State) (reads : List (Nat × ScrubRead)) (store : List (BitVec 20 × LineRead)),
    (s.mode = .service → s.mayWork 8 = true →
      ∃ t, exec (.scrubPass reads store) s = .next t ∧ (∀ g x, x < 544 → (t.drawer g x).rejectsAt = (t.drawer g x).rejects) ∧
        t.get Reg.CUR_CNT_SCRUBBED_COUNT = min (s.get Reg.CUR_CNT_SCRUBBED_COUNT +
          ((s.heldRows ++ sideRows).filter fun k => !s.shut k).length) Reg.CUR_CNT_SCRUBBED_COUNT.max ∧ t.wrd.store = s.wrd.store ∧
        ∀ l d, store = [(l, d)] → (l.toNat ∈ t.wrd.bad ↔ d.uncorr = true ∧ (lineRecovers d = false ∨ s.mayWork 12 = false)) ∧
          (d.uncorr = true → lineRecovers d = false → t.flag Reg.WRD_STATUS_STORE_UNCORR = true)) ∧
    (s.mode ≠ .service ∨ s.mayWork 8 = false → exec (.scrubPass reads store) s = .next s)) ∧
  (∀ (s : State) (d : ScrubRead),
    (∀ k u, s.curating 8 = true → s.mayWork 8 = true → (s.cur.scrubQ.find? fun k => !s.shut k) = some k →
      u = s.setFault k { s.fault k with cells := d.cells, held := d.held } →
      ∃ t, exec (.scrubQueueRead d) s = .next t ∧ t.cur.scrubQ = s.cur.scrubQ.erase k ∧
        t.get Reg.CUR_CNT_SCRUBBED_COUNT = min (s.get Reg.CUR_CNT_SCRUBBED_COUNT + 1) Reg.CUR_CNT_SCRUBBED_COUNT.max ∧
        (isSram k = false → u.readsNominal k = true →
          s.refreshThresh ≤ (u.fault k).wrong.length + ((u.fault k).near s.scrubMargin).length → k ∈ t.cur.refreshQ) ∧
        (isSram k = false → u.readsNominal k = false → u.recovers k = true → k ∈ t.cur.refreshQ ∧
          t.get Reg.CUR_CNT_RECOVERED_COUNT = min (s.get Reg.CUR_CNT_RECOVERED_COUNT + 1) Reg.CUR_CNT_RECOVERED_COUNT.max) ∧
        (isPool k = true → u.readsNominal k = false → u.recovers k = false → s.rowsAt k ≠ [] →
          (t.drawer (k / 2048 / 544) (k / 2048 % 544)).suspect = true) ∧
        (isPool k = true → u.readsNominal k = false → k % 2048 ∉ (s.drawer (k / 2048 / 544) (k / 2048 % 544)).unread →
          3 ≤ (s.drawer (k / 2048 / 544) (k / 2048 % 544)).unread.length →
          (t.drawer (k / 2048 / 544) (k / 2048 % 544)).suspect = true)) ∧
    (s.curating 8 = false ∨ s.mayWork 8 = false ∨ (s.cur.scrubQ.find? fun k => !s.shut k) = none →
      exec (.scrubQueueRead d) s = .next s)) ∧
  (∀ (s : State) (n : Fin 64) (id : BitVec 24) (stuck : Bool),
    let own := s.sweepable.find? fun r => r.tbl == n.val && r.id == id.toNat && !s.cur.swept.contains (n.val, id.toNat)
    (∀ r, s.curating 8 = true → s.mayWork 8 = true → own = some r → s.sweepSlot (s.entrySlots r) r.loc.gal = true →
      ∃ t, exec (.selfSearch n id stuck) s = .next t ∧
        ((n.val, id.toNat) ∈ t.cur.swept ∨ (t.cur.sweep = s.cur.sweep + 1 ∧ t.cur.swept = [])) ∧
        (stuck = true → t.get Reg.CUR_CNT_FALSE_MISS_COUNT =
          min (s.get Reg.CUR_CNT_FALSE_MISS_COUNT + 1) Reg.CUR_CNT_FALSE_MISS_COUNT.max) ∧
        (stuck = false → (s.fault r.loc.phys).analog = none → s.missing r (s.sweepKey r) = [] →
          t.get Reg.CUR_CNT_FALSE_MISS_COUNT = s.get Reg.CUR_CNT_FALSE_MISS_COUNT ∧ { r with missed := false, again := false } ∈ t.rows)) ∧
    (s.curating 8 = false ∨ s.mayWork 8 = false ∨ (∀ r, own = some r → s.sweepSlot (s.entrySlots r) r.loc.gal = false) →
      exec (.selfSearch n id stuck) s = .next s)) ∧
  (∀ s : State, (s.curating 8 = true → s.cur.sweepFrom + s.sweepPeriod ≤ s.clock →
      ∃ t, exec .sweepPeriodEnd s = .next t ∧ (s.sweepOver = false → t.flag Reg.CUR_STATUS_SWEEP_LATE = true ∧ t.cur.sweep = s.cur.sweep) ∧
        (s.sweepOver = true → t.cur.sweep = s.cur.sweep + 1 ∧ t.cur.swept = [] ∧ t.cur.sweepFrom = s.clock)) ∧
    (s.curating 8 = false ∨ s.clock < s.cur.sweepFrom + s.sweepPeriod → exec .sweepPeriodEnd s = .next s)) ∧
  (∀ (s : State) (g : Fin 8) (x : Nat), (s.arrayOn = true → s.digestDue g x = true →
      ∃ t, exec (.digestSave g x) s = .next t ∧
        t.drawer g x = { s.drawer g x with dirty := false, writes := 0, digest := s.drawerDigest g x, digestSeq := (s.drawer g x).digestSeq + 1 } ∧
        t = { s with drawers := t.drawers }) ∧
    (s.arrayOn = false ∨ s.digestDue g x = false → exec (.digestSave g x) s = .next s))

/-- Tests of drawers: SELFTEST_GO starts the test of the drawer it names, or is refused, as it is in recovery state; a rotation starts
one in its gallery from those that R237 does not refuse, and none in stage 1 or beyond or with ROTATE_H 0. A test that has made
its searches ends with the rows that failed in the defect map: with fewer than 16 defective rows and every search correct it
leaves a spare (a free drawer where its cabinet has no spare to keep), else a retired drawer; before that it goes on (R212, R218,
R237 to R240). Retirement and the full test: RETIRE_GO of an assigned drawer begins to move its entries and is refused for any
other, or while a retirement runs; the drawer, once empty and without journal rows, is retired, and not before. FULLTEST_GO starts
a full test in recovery state and is refused in service state; its end reports PASS when it retired nothing and clears the drift
history (R215, R241, R242). -/
def Obligations.DrawersAreTestedAndRetired : Prop :=
  ((∀ s : State, s.mode = .service →
     ∃ t, exec .curSelftestGo s = .next t ∧
       (s.testRefused (s.get Reg.CUR_SELFTEST_GAL) (s.get Reg.CUR_SELFTEST_CAB) (s.get Reg.CUR_SELFTEST_POS) = false →
         t.get Reg.CUR_SELFTEST_REFUSED = 0 ∧ t.get Reg.CUR_SELFTEST_RESULT = 1 ∧
         ∃ w ∈ t.cur.swaps, w.g = s.get Reg.CUR_SELFTEST_GAL ∧ w.c = s.get Reg.CUR_SELFTEST_CAB ∧ w.d = s.get Reg.CUR_SELFTEST_POS) ∧
       (s.testRefused (s.get Reg.CUR_SELFTEST_GAL) (s.get Reg.CUR_SELFTEST_CAB) (s.get Reg.CUR_SELFTEST_POS) = true →
         t.get Reg.CUR_SELFTEST_REFUSED = 1 ∧ t.cur.swaps = s.cur.swaps)) ∧
   (∀ s : State, (s.mode = .recovery →
       ∃ t, exec .curSelftestGo s = .next t ∧ t.get Reg.CUR_SELFTEST_REFUSED = 1 ∧ t = { s with regs := t.regs }) ∧
     (s.mode = .startUp ∨ s.mode = .dormant → exec .curSelftestGo s = .next s)) ∧
   (∀ (s : State) (g : Fin 8),
     let may := (List.range 544).filter fun x => !s.testRefused g.val (x / 17) (x % 17)
     (s.get Reg.CUR_CTRL_ROTATE_H ≠ 0 → s.cur.stage = 0 → may ≠ [] →
       ∃ t, exec (.selftestRotation g) s = .next t ∧ t.get Reg.CUR_SELFTEST_RESULT = 1 ∧
         ∃ w ∈ t.cur.swaps, w.g = g.val ∧ 17 * w.c + w.d ∈ may) ∧
     (s.get Reg.CUR_CTRL_ROTATE_H = 0 ∨ s.cur.stage ≠ 0 ∨ may = [] → exec (.selftestRotation g) s = .next s)) ∧
   (∀ (s : State) (g : Fin 8) (bad : List (BitVec 11)) (ok : Bool),
     (∀ w x, s.testReady g.val = some w → x = 17 * w.c + w.d → s.mayWork 10 = true → (s.cab (32 * w.g + w.c)).fenced = false → 4096 ≤ w.made →
       s.journalIn (32 * w.g + w.c) [w.d] = false →
       let all := (s.drawer w.g x).defects ++
         ((bad.map (·.toNat)).filter fun r => !(s.drawer w.g x).defects.contains r).eraseDups
       ∃ t, exec (.drawerSelftest g bad ok) s = .next t ∧ (∀ r ∈ all, r ∈ (t.drawer w.g x).defects) ∧ (t.drawer w.g x).unread = [] ∧
         w ∉ t.cur.swaps ∧
         (all.length < 16 → ok = true → t.get Reg.CUR_SELFTEST_RESULT = 2 ∧
           (t.drawer w.g x).st = (if w.inPlace = true ∧ w.s = 31 then .free else .spare)) ∧
         (16 ≤ all.length ∨ ok = false → t.get Reg.CUR_SELFTEST_RESULT = 3 ∧ (t.drawer w.g x).st = .retired)) ∧
     ((∀ w, s.testReady g.val = some w → w.made < 4096) ∨ s.mayWork 10 = false → exec (.drawerSelftest g bad ok) s = .next s))) ∧
  ((∀ s : State,
     let g := s.get Reg.CUR_RETIRE_GAL
     let c := s.get Reg.CUR_RETIRE_CAB
     let d := s.get Reg.CUR_RETIRE_POS
     (s.mode = .service → d ≤ 16 → s.cur.retire = none → (s.drawer g (17 * c + d)).st = .assigned →
       ∃ t, exec .curRetireGo s = .next t ∧ t.get Reg.CUR_RETIRE_REFUSED = 0 ∧ t.get Reg.CUR_RETIRE_RESULT = 1 ∧ t.cur.retire = some (g, c, d)) ∧
     (s.mode = .service → 16 < d ∨ s.cur.retire ≠ none ∨ (s.drawer g (17 * c + d)).st ≠ .assigned →
       ∃ t, exec .curRetireGo s = .next t ∧ t.get Reg.CUR_RETIRE_REFUSED = 1 ∧ t.cur.retire = s.cur.retire ∧ t.rows = s.rows) ∧
     (s.mode ≠ .service → exec .curRetireGo s = .next s)) ∧
   (∀ (s : State) (g : Fin 8) (c d : Nat), s.cur.retire = some (g.val, c, d) →
     (s.drawerRows g (17 * c + d) = [] → s.targeting g (17 * c + d) = [] → s.journalIn (32 * g.val + c) [d] = false →
       ∃ t, exec (.drawerRetirementDone g) s = .next t ∧ (t.drawer g (17 * c + d)).st = .retired ∧
         t.get Reg.CUR_RETIRE_RESULT = 2 ∧ t.cur.retire = none ∧ (∀ b ∈ t.bays, b.g = g.val → 17 * c + d ∉ b.units) ∧
         (∀ b ∈ t.broad, b.g = g.val → b.unit ≠ 17 * c + d)) ∧
     (s.drawerRows g (17 * c + d) ≠ [] ∨ s.targeting g (17 * c + d) ≠ [] → exec (.drawerRetirementDone g) s = .next s)) ∧
   (∀ s : State, (s.mode = .recovery → s.cur.fullTest = false →
       ∃ t, exec .curFulltestGo s = .next t ∧ t.cur.fullTest = true ∧ t.get Reg.CUR_FULLTEST_DONE = 0 ∧ t.get Reg.CUR_FULLTEST_PASS = 0 ∧
         t.get Reg.CUR_FULLTEST_PROGRESS = 0 ∧ (s.flag Reg.CUR_FULLTEST_ERASE = true → t.rows = [] ∧ t.tables = []) ∧
         (s.flag Reg.CUR_FULLTEST_ERASE = false → t.rows = s.rows ∧ t.tables = s.tables)) ∧
     (s.mode = .recovery → s.cur.fullTest = true → exec .curFulltestGo s = .next s) ∧
     (s.mode = .service →
       ∃ t, exec .curFulltestGo s = .next t ∧ t.get Reg.CUR_STATUS_FULLTEST_REFUSED = 1 ∧ t = { s with regs := t.regs }) ∧
     (s.mode = .startUp ∨ s.mode = .dormant → exec .curFulltestGo s = .next s)) ∧
   (∀ (s : State) (found : List (Nat × List (BitVec 11) × Bool)) (missed : List (Fin 64 × BitVec 24)) (cal : List CabCal),
     (s.cur.fullTest = true → s.mayWork 10 = true →
       let u := if s.flag Reg.CUR_FULLTEST_ERASE then (List.range 4352).foldl (State.eraseTest found) s
         else (List.range 256).foldl (State.fullTestCab found) s
       ∃ t, exec (.fulltestComplete found missed cal) s = .next t ∧ t.cur.fullTest = false ∧ t.get Reg.CUR_FULLTEST_DONE = 1 ∧
         t.flag Reg.CUR_FULLTEST_PASS = (u.retiredCount == s.retiredCount) ∧ t.get Reg.CUR_FULLTEST_PROGRESS = 100 ∧
         t.cur.histValid = false ∧ t.cur.conservLeft = 3) ∧
     (s.cur.fullTest = false ∨ s.mayWork 10 = false → exec (.fulltestComplete found missed cal) s = .next s)))

/-- Restoring from the twin. A paired device answers a request with the record of a committed entry of a table of the same descriptor,
or refuses it with 1 where the table or the entry does not exist, 3 where the descriptor differs and 2 where the entry is lost;
while requester 1 is fenced with one of these codes, which one is the model's choice (notes/assumptions/3.md). An answer that was
asked for is taken off the list, its refusal counted; its entry is staged for the next boundary as an ungrouped edit, or waits for
the table's lock (R244, R309). -/
def Obligations.RestoreFromTheTwin : Prop :=
  (∀ (s : State) (n : Fin 64) (id : BitVec 24) (same : Bool), s.seam.pair = .paired →
    ∃ t b code, exec (.restoreReq n id same) s = .next t ∧ SeamSent (s.seamGot 1) t (.restoreAns n.val id.toNat b code) ∧ t.rows = s.rows ∧
      (s.reqFenced 1 = true → b = none ∧ 1 ≤ code ∧ code ≤ 3) ∧
      (s.reqFenced 1 = false → s.readTable n.val = none → b = none ∧ code = 1) ∧
      (∀ d, s.reqFenced 1 = false → s.readTable n.val = some d →
        (same = false → b = none ∧ code = 3) ∧
        (same = true → s.isLost n.val id.toNat = true → b = none ∧ code = 2) ∧
        (same = true → s.isLost n.val id.toNat = false → s.committed n.val id.toNat = none → b = none ∧ code = 1) ∧
        (∀ r, same = true → s.isLost n.val id.toNat = false → s.committed n.val id.toNat = some r →
          b = some (s.recordOf d.width r) ∧ code = 0))) ∧
  (∀ (s : State) (n : Fin 64) (id : BitVec 24) (same : Bool), s.seam.pair ≠ .paired →
    exec (.restoreReq n id same) s = .next (s.seamGot 1)) ∧
  (∀ (s : State) (n : Fin 64) (id : BitVec 24), (n.val, id.toNat) ∈ s.cur.restorePend →
    (∃ t, exec (.restoreAns n id none) s = .next t ∧ t.cur.restorePend = s.cur.restorePend.erase (n.val, id.toNat) ∧ t.rows = s.rows ∧
      t.get Reg.CUR_RESTORE_REFUSED = min (s.get Reg.CUR_RESTORE_REFUSED + 1) Reg.CUR_RESTORE_REFUSED.max) ∧
    (∀ b d, s.liveTable n.val = some d → s.tableLocked n.val = true →
      ∃ t, exec (.restoreAns n id (some b)) s = .next t ∧ (n.val, id.toNat, b) ∈ t.cur.restoreHeld ∧ t.cur.restorePend = s.cur.restorePend ∧
        t.groups = s.groups) ∧
    (∀ b d u v g g', s.liveTable n.val = some d → s.tableLocked n.val = false →
      u = (s.seamGot (SeamOut.restoreAns 0 0 (some b) 0).flits).setCur { s.cur with restorePend := s.cur.restorePend.erase (n.val, id.toNat) } →
      g = { num := 0, tbl := n.val, func := 0, lease := 0, ungrouped := true, st := .ready, local_ := true, order := s.cur.deferOrder } →
      u.stage g d .modify { entryOfBytes b d.width with id := id.toNat } = .ok v g' →
      ∃ t, exec (.restoreAns n id (some b)) s = .next t ∧ t.groups = v.groups ++ [g'] ∧ t.rows = v.rows ∧
        t.cur.restorePend = v.cur.restorePend ∧
        t.get Reg.CUR_RESTORE_RESTORED = min (v.get Reg.CUR_RESTORE_RESTORED + 1) Reg.CUR_RESTORE_RESTORED.max)) ∧
  (∀ (s : State) (n : Fin 64) (id : BitVec 24) (b : Option (List Byte)), (n.val, id.toNat) ∉ s.cur.restorePend →
    exec (.restoreAns n id b) s = .next (s.seamGot (SeamOut.restoreAns 0 0 b 0).flits))

/-! ## Associated data and the wardrobe -/

/-- ADATA_WRITE from the PF joins the wardrobe changes of the next boundary and is completed later; ADATA_READ writes the line, with
the fills that are complete settled, to host memory; both are DENIED to a virtual function. WRD_OP INVAL, CLEAN and FLUSH of a
line or of a range within the store join the changes likewise; a reserved operation, an empty range and one beyond the store end
INVALID_FIELD. In PAIRED state the writes and operations are mirrored instead, as MirroredOperations states (R10, R259 to R261). -/
def Obligations.AssociatedDataCommands : Prop :=
  (∀ (s : State) (c : Cmd) (d : Dma) (b : List Byte), s.engineOp 0x20 = some c → s.host.mirror = none → s.seam.pair ≠ .paired →
    c.func = 0 → badParams c.slot = false → s.reqFenced 0 = false → d.rd = some b →
    ∃ t, exec (.adataWrite d) s = .next t ∧
      t.wrd = { s.wrd with changes := s.wrd.changes ++ [(.write (bits c.slot.p1 19 0) (BitVec.ofNat 4 (bits c.slot.p1 23 20))
        (BitVec.ofNat 512 (leAt b 0 64)) (bitOf c.slot.p1 24), none, some c.own)] } ∧ t.owes c Sts.SUCCESS 0 false) ∧
  (∀ (s : State) (c : Cmd) (d : Dma), s.engineOp 0x21 = some c → s.host.mirror = none → c.func = 0 → badParams c.slot = false →
    s.reqFenced 0 = false → d.wrOk = true →
    ∃ t rest, exec (.adataRead d) s = .next t ∧
      t.out = .hostWrite 0 c.slot.p0.toNat (leBytes 64 (s.settleFills.wrd.current (bits c.slot.p1 19 0)).toNat) :: rest ∧
      t.owes c Sts.SUCCESS 0 true) ∧
  (∀ (s : State) (c : Cmd) (d : Dma), s.host.mirror = none → c.func ≠ 0 →
    (s.engineOp 0x20 = some c → ∃ t, exec (.adataWrite d) s = .next t ∧ t.wrd = s.wrd ∧ t.owes c Sts.DENIED 0 true) ∧
    (s.engineOp 0x21 = some c → ∃ t, exec (.adataRead d) s = .next t ∧ t.wrd = s.wrd ∧ t.out = s.out ∧ t.owes c Sts.DENIED 0 true)) ∧
  (∀ (s : State) (c : Cmd) (i : Instr) (kind n : Nat), (i, kind) ∈ [(Instr.wrdOpInval, 0), (.wrdOpClean, 1), (.wrdOpFlush, 2)] →
    s.engineOp 0x22 = some c → s.host.mirror = none → n = (if bitOf c.slot.p1 3 then bits c.slot.p1 48 28 else 1) →
    (bits c.slot.p1 2 0 = kind → s.seam.pair ≠ .paired → badParams c.slot = false → s.reqFenced 0 = false → n ≠ 0 → n ≤ 2 ^ 20 →
      bits c.slot.p1 27 8 + n ≤ 2 ^ 20 →
      ∃ t, exec i s = .next t ∧
        t.wrd = { s.wrd with changes := s.wrd.changes ++ [(.op kind (bits c.slot.p1 27 8) n [], none, some c.own)] } ∧
        t.owes c Sts.SUCCESS 0 false) ∧
    ((bits c.slot.p1 2 0 = kind ∧ s.reqFenced 0 = false ∧ (n = 0 ∨ 2 ^ 20 < bits c.slot.p1 27 8 + n)) ∨ 3 ≤ bits c.slot.p1 2 0 →
      ∃ t, exec i s = .next t ∧ t.wrd = s.wrd ∧ t.owes c Sts.INVALID_FIELD 0 true))

/-- What the operations of R261 do at their boundary. With room in the retention buffer: after INVAL neither the wardrobe nor the
staging buffer holds a line of the range; CLEAN leaves the wardrobe's lines and has every dirty one staged, or waiting for room
there; after FLUSH the wardrobe holds no line of the range that was clean, and those that were dirty until they are in the store.
The command is completed when no line of the range has contents that the store does not have, and otherwise waits for those lines.
Without room the lines that find none are carried to the next boundary (R259 to R261, R264). -/
def Obligations.WardrobeOperationsAtTheBoundary : Prop :=
  ∀ (s : State) (k : Tick) (kind first n : Nat) (own : Option (Nat × Nat × Nat)), kind ≤ 2 →
    (s.wrd.retention.length + (s.wrd.held_ first n).length ≤ 1024 ∨ kind = 1 →
      let need := if kind = 0 then [] else (s.wrd.held_ first n).filter s.wrd.dirtyLines.contains
      ∃ t, s.applyChange k (.op kind first n []) own = (t, none) ∧ t.wrd.store = s.wrd.store ∧
        (kind = 0 → (∀ x ∈ t.wrd.ways, ¬ (first ≤ x.line ∧ x.line < first + n)) ∧
          ∀ x ∈ t.wrd.staging, ¬ (first ≤ x.1 ∧ x.1 < first + n)) ∧
        (kind = 1 → t.wrd.ways = s.wrd.ways ∧ ∀ x ∈ t.wrd.ways, first ≤ x.line → x.line < first + n → x.dirty = true →
          (t.wrd.stagedOf x.line).isSome = true ∨ x.line ∈ t.wrd.owing) ∧
        (kind = 2 → ∀ x ∈ t.wrd.ways, first ≤ x.line → x.line < first + n → x.line ∈ s.wrd.dirtyLines ∧ x.line ∈ t.wrd.flushing) ∧
        (∀ o ∈ s.host.owed, need = [] → own = some (o.func, o.idx, o.cid) → o.ready = false →
          { o with status := Sts.SUCCESS, result := 0, ready := true } ∈ t.host.owed) ∧
        (∀ o, own = some o → need ≠ [] → (o, need) ∈ t.wrd.wait)) ∧
    (s.wrd.retention.length ≤ 1024 → 1024 < s.wrd.retention.length + (s.wrd.held_ first n).length → kind ≠ 1 →
      ∃ t c, s.applyChange k (.op kind first n []) own = (t, some c) ∧ t.wrd.store = s.wrd.store ∧ t.wrd.retention.length = 1024)

/-- Pins, the lock and the store. EN 1 of a pin that is OFF or in CONFLICT takes its range into use and starts its load where locked
ways suffice, goes to CONFLICT where they do not, and returns to OFF where the range or the table is none; EN 0 returns a pin to
OFF at the next boundary. A load that ends is marked where every line lies in a locked way. LOCK is stored, and in force later. A
write-back moves the oldest staged line into the store, completing a command that waits for it alone; one that does not verify
stays staged. Without their conditions nothing changes (R252, R255, R256, R260, R261, R264). -/
def Obligations.PinsLockAndStore : Prop :=
  (∀ (s : State) (i : Fin 16) (p : Pin), s.mode = .service → (s.pin i).st = .off ∨ (s.pin i).st = .conflict →
    p = { st := .loading, base := s.get Reg.WRD_PIN_BASE i, count := s.get Reg.WRD_PIN_COUNT i, tbl := s.get Reg.WRD_PIN_TABLE i } →
    ∃ t, exec (.wrdPinEn i true) s = .next t ∧ t.flag Reg.WRD_PIN_EN i = true ∧ (∀ j, j ≠ i.val → t.pin j = s.pin j) ∧
      (0 < p.count → p.base + p.count ≤ 2 ^ 20 → (s.table p.tbl).isSome = true →
        (conflictSets (((s.wrd.active.filter fun e => e.1 ≠ i.val).map (·.2)) ++ [p]) (lockedWays s.wrd.lock).length = [] → t.pin i = p) ∧
        (conflictSets (((s.wrd.active.filter fun e => e.1 ≠ i.val).map (·.2)) ++ [p]) (lockedWays s.wrd.lock).length ≠ [] →
          t.pin i = { p with st := .conflict } ∧ t.flag Reg.WRD_STATUS_PIN_CONFLICT = true)) ∧
      (p.count = 0 ∨ 2 ^ 20 < p.base + p.count ∨ s.table p.tbl = none → t.pin i = {} ∧ t.flag Reg.WRD_STATUS_PIN_CONFLICT = true)) ∧
  (∀ (s : State) (i : Fin 16), s.mode = .service →
    (∃ t, exec (.wrdPinEn i false) s = .next t ∧ t.flag Reg.WRD_PIN_EN i = false ∧
      t.pin i = (if (s.pin i).st = .off then s.pin i else { s.pin i with offDue := true }) ∧ (∀ j, j ≠ i.val → t.pin j = s.pin j)) ∧
    ((s.pin i).st = .loading ∨ (s.pin i).st = .held →
      ∃ t, exec (.wrdPinEn i true) s = .next t ∧ t.flag Reg.WRD_PIN_EN i = true ∧ t.wrd = s.wrd)) ∧
  (∀ (s : State) (i : Fin 16),
    ((s.pin i).st = .loading → (s.pin i).loaded = false → s.mayWork 12 = true → s.mode = .service →
      ∃ t, exec (.pinLoadDone i) s = .next t ∧
        t.pin i = { s.pin i with read := (s.pin i).count - 1, loaded := (s.pin i).lines.all t.wrd.inLocked } ∧
        (∀ j, j ≠ i.val → t.pin j = s.pin j) ∧ t.wrd.store = s.wrd.store) ∧
    ((s.pin i).st ≠ .loading ∨ (s.pin i).loaded = true ∨ s.mayWork 12 = false ∨ s.mode ≠ .service → exec (.pinLoadDone i) s = .next s)) ∧
  (∀ (s : State) (v : BitVec 16), (s.mode = .service →
      ∃ t, exec (.wrdLockWrite v) s = .next t ∧ t.get Reg.WRD_CTRL_LOCK = v.toNat ∧ t.wrd = s.wrd) ∧
    (s.mode ≠ .service → exec (.wrdLockWrite v) s = .next s ∧ ∀ i en, exec (.wrdPinEn i en) s = .next s)) ∧
  (∀ (s : State) (w : WriteRes),
    (∀ l v q, s.wrd.staging = (l, v) :: q → s.mayWork 12 = true → (s.failsOf (w.rows.headD [])).length ≤ 3 →
      ∃ t, exec (.stagingWriteback w) s = .next t ∧ t.wrd.stored l = v ∧ l ∉ t.wrd.bad ∧ (s.wrd.owing = [] → t.wrd.staging = q) ∧
        (∀ m, m ≠ l → t.wrd.stored m = s.wrd.stored m) ∧
        t.wrd.ways = s.wrd.ways.map (fun x => if x.line = l ∧ x.data = v then { x with dirty := false } else x) ∧
        (∀ o ∈ s.host.owed, ((o.func, o.idx, o.cid), [l]) ∈ s.wrd.wait → o.ready = false →
          { o with status := Sts.SUCCESS, result := 0, ready := true } ∈ t.host.owed)) ∧
    (∀ l v q, s.wrd.staging = (l, v) :: q → s.mayWork 12 = true → 3 < (s.failsOf (w.rows.headD [])).length →
      ∃ t, exec (.stagingWriteback w) s = .next t ∧ t.wrd = s.wrd) ∧
    (s.wrd.staging = [] ∨ s.mayWork 12 = false → exec (.stagingWriteback w) s = .next s))

/-! ## The maintenance port -/

/-- The port: an idle requester that may request is granted a free port for which nobody waits, and waits behind an owner; at a break
point the owner keeps the port, loses it to a strictly higher waiter, or drops its request; a priority is stored, requesters 14
and 15 having none. Without their conditions nothing changes (R293 to R296, R306). -/
def Obligations.PortArbitration : Prop :=
  (∀ (s : State) (r : Fin 16),
    ((s.req r).st = .idle → s.mayRequest r = true →
      ∃ t, exec (.maintenanceRequest r) s = .next t ∧
        (s.owner = none → s.waiters = [] → (t.req r).st = .owner ∧ t.mnt.last = r.val ∧
          t.get Reg.MNT_CNT_GRANT_COUNT r = min (s.get Reg.MNT_CNT_GRANT_COUNT r + 1) Reg.MNT_CNT_GRANT_COUNT.max) ∧
        (s.owner ≠ none → t.req r = { st := .waiting, since := s.clock, counted := s.clock } ∧ t.owner = s.owner)) ∧
    ((s.req r).st ≠ .idle ∨ s.mayRequest r = false → exec (.maintenanceRequest r) s = .next s)) ∧
  (∀ s : State, s.owner = none → ∀ drop, exec (.breakPoint drop) s = .next s) ∧
  (∀ (s : State) (o : Nat), s.owner = some o →
    (∃ t, exec (.breakPoint true) s = .next t ∧ (t.req o).st = .idle) ∧
    (∃ t, exec (.breakPoint false) s = .next t ∧
      (∀ r, s.bestWaiter = some r → s.prio o < s.prio r → (t.req r).st = .owner ∧ (t.req o).st = .waiting) ∧
      ((∀ r, s.bestWaiter = some r → s.prio r ≤ s.prio o) → t = { s with mnt := { s.mnt with mark := s.clock } }))) ∧
  (∀ (s : State) (r : Fin 16) (v : BitVec 3), (s.mode = .service → r.val < 14 →
      ∃ t, exec (.mntPrioWrite r v) s = .next t ∧ t.prio r = v.toNat ∧ (∀ q < 14, q ≠ r.val → t.prio q = s.prio q) ∧ t.mnt = s.mnt) ∧
    (s.mode = .service → 14 ≤ r.val → exec (.mntPrioWrite r v) s = .next s.touchIdle) ∧
    (s.mode ≠ .service → exec (.mntPrioWrite r v) s = .next s))

/-- Starvation and the fences: a wait longer than STARVE_US sets STARVED; an owner that has crossed no break point for WD_TIMEOUT is
fenced, as is a requester by a write of FENCE. A fenced requester owns nothing, the flips it had prepared are cancelled, and a
command that waits while requester 0 is fenced completes FENCED; UNFENCE returns a fenced requester to idle. Without their
conditions nothing changes (R297 to R303). -/
def Obligations.FencesOfTheMaintenancePort : Prop :=
  (∀ (s : State) (r : Fin 16),
    let late := (s.req r).st = .waiting ∧ s.get Reg.MNT_REQ_STARVE_US r ≠ 0 ∧
      s.get Reg.MNT_REQ_STARVE_US r * cyclesPerUs < s.clock - (s.req r).since
    (late → s.flag Reg.MNT_REQ_STARVED r = false →
      ∃ t, exec (.starvation r) s = .next t ∧ t.flag Reg.MNT_REQ_STARVED r = true ∧ t.mnt = s.mnt) ∧
    (¬ late ∨ s.flag Reg.MNT_REQ_STARVED r = true → exec (.starvation r) s = .next s)) ∧
  (∀ s : State,
    (∀ r, s.owner = some r → s.mnt.mark + s.get Reg.MNT_CTRL_WD_TIMEOUT * cyclesPerUs ≤ s.clock → s.mode ≠ .dormant →
      ∃ t, exec .watchdogExpiry s = .next t ∧ (t.req r).st = .fenced ∧ t.owner ≠ some r ∧ ∀ x ∈ t.rows, ¬ (x.st = .set ∧ x.maker = r)) ∧
    (s.owner = none ∨ s.clock < s.mnt.mark + s.get Reg.MNT_CTRL_WD_TIMEOUT * cyclesPerUs ∨ s.mode = .dormant →
      exec .watchdogExpiry s = .next s)) ∧
  (∀ (s : State) (r : Fin 16), s.mode = .service →
    (r.val < 14 → s.reqFenced r = false →
      ∃ t, exec (.mntFence r) s = .next t ∧ (t.req r).st = .fenced ∧ t.owner ≠ some r.val ∧
        (∀ x ∈ t.rows, ¬ (x.st = .set ∧ x.maker = r.val)) ∧
        ∀ c k, r = 0 → s.host.engine = some c → s.host.waitFrom = some k → t.owes c Sts.FENCED 0 true) ∧
    (14 ≤ r.val ∨ s.reqFenced r = true → exec (.mntFence r) s = .next s.touchIdle) ∧
    (s.reqFenced r = true → ∃ t, exec (.mntUnfence r) s = .next t ∧ (t.req r).st = .idle) ∧
    (s.reqFenced r = false → exec (.mntUnfence r) s = .next s.touchIdle)) ∧
  (∀ (s : State) (r : Fin 16), s.mode ≠ .service → exec (.mntFence r) s = .next s ∧ exec (.mntUnfence r) s = .next s)

/-! ## The seam -/

/-- Attaching: the twin's PAIR_HELLO, while the device attaches in service state, decides refusal or the effective roles, a target
taking the follower source with its admission held for the join; before that it is kept. SYNC_BEGIN has the target tell what it
holds, which the source takes to stream what differs from its snapshot; between SYNC_BEGIN and SYNC_END the target takes the
source's data (a table that goes, the clearing of a table, a block or the channels, a store line, a site) unless requester 1 is
fenced, and it learns J by JOIN; from J on the twins are PAIRED. Messages arrive on the seam in UP, where their credits go back
(R302, R310, R312, R314, R329, R330). -/
def Obligations.AttachSyncAndJoin : Prop :=
  (∀ (s : State) (h : PairHello),
    (s.seam.link.st = .up → s.mode = .service → s.seam.pair = .attaching →
      ∃ t, exec (.pairHello h) s = .next t ∧ t.seam.hello = none ∧
        (s.attachRefused h = true → t.seam.pair = .detached ∧ t.flag Reg.SEAM_STATUS_REFUSED = true) ∧
        (s.attachRefused h = false → s.isSource h = true → t.seam.pair = .source ∧ t.seam.role = 1 ∧ t.tick = s.tick) ∧
        (s.attachRefused h = false → s.isSource h = false → t.seam.pair = .target ∧ t.seam.role = 2 ∧
          ∃ r, t.tick.retime = some r ∧ r.src = some 2 ∧ r.join = true)) ∧
    (s.seam.link.st = .up → s.mode ≠ .service ∨ s.seam.pair ≠ .attaching →
      ∃ t, exec (.pairHello h) s = .next t ∧ t.seam = { (s.seamGot 1).seam with hello := some h }) ∧
    (s.seam.link.st ≠ .up → exec (.pairHello h) s = .next s)) ∧
  (∀ s : State, s.seam.pair = .target →
    (∃ t, exec .syncBegin s = .next t ∧ t.seam.syncing = true ∧ t.get Reg.SEAM_SYNC_PROGRESS = 0 ∧
      SeamSent (s.seamGot 1) t (.syncData (s.seamGot 1).directory)) ∧
    (∃ t, exec .syncEnd s = .next t ∧ t.seam.syncing = false ∧ t.get Reg.SEAM_SYNC_PROGRESS = 100) ∧
    (∀ j : BitVec 48, ∃ t, exec (.join j) s = .next t ∧ t.seam.joinAt = some j.toNat ∧ t.get Reg.SEAM_SYNC_JOIN = j.toNat)) ∧
  (∀ (s : State) (j : BitVec 48) (i : Instr), i ∈ [Instr.syncBegin, .syncEnd, .join j] → s.seam.pair ≠ .target →
    exec i s = .next (s.seamGot 1)) ∧
  (∀ (s : State) (i : SyncItem), s.seam.pair = .target → s.seam.syncing = true → s.reqFenced 1 = false →
    ∃ t, exec (.syncData i) s = .next t ∧
      (∀ l v, i = .line l v → t.wrd.stored l.toNat = v ∧ l.toNat ∉ t.wrd.bad ∧ t.wrd.wayOf l.toNat = none ∧
        t.wrd.stagedOf l.toNat = none ∧ ∀ m, m ≠ l.toNat → t.wrd.stored m = s.wrd.stored m) ∧
      (∀ n v, i = .site n v → t.site n.toNat = { word := v, applied := v, before := v } ∧
        t = { s.seamGot (syncFlits i) with sites := t.sites }) ∧
      (∀ n, i = .dropTable n → t.table n.val = none ∧ ((s.table n.val).isSome = true → ∀ r ∈ t.rows, r.tbl ≠ n.val)) ∧
      (∀ n, i = .clearTable n → ∀ r ∈ t.rows, r.tbl = n.val → r.learned = true) ∧
      (∀ b, i = .clearBlock b → ∀ l, l / 4096 = b.val → t.wrd.stored l = 0 ∧ l ∉ t.wrd.bad ∧ t.wrd.stagedOf l = none) ∧
      (i = .clearChannels → (∀ e ∈ t.chans, e.2.st = .free) ∧ t = { s.seamGot (syncFlits i) with chans := t.chans })) ∧
  (∀ (s : State) (held : List (Fin 64 × List (BitVec 64) × BitVec 640 × BitVec 64)) (blocks : List (BitVec 64)) (items : List SyncItem),
    s.seam.pair = .source → s.reqFenced 1 = false → s.seam.snap = some items →
    ∃ t, exec (.syncData (.holds held blocks)) s = .next t ∧ t.seam.snap = none ∧ t.rows = s.rows ∧ t.wrd = s.wrd ∧
      (∀ i, streamed items held blocks = [i] → SeamSent (s.seamGot 8) t (.syncData i))) ∧
  (∀ (s : State) (i : SyncItem), s.reqFenced 1 = true ∨ (s.seam.pair ≠ .source ∧ (s.seam.pair ≠ .target ∨ s.seam.syncing = false)) →
    exec (.syncData i) s = .next (s.seamGot (syncFlits i))) ∧
  (∀ s : State,
    (∀ j, s.seam.joinAt = some j → (s.seam.pair = .source ∨ s.seam.pair = .target) → tickLe j s.tick.now = true →
      ∃ t, exec .seamJoin s = .next t ∧ t.seam.pair = .paired ∧ t.seam.digs = [] ∧
        t.tick = { s.tick with retime := s.tick.retime.map fun r => { r with join := false } }) ∧
    (s.seam.joinAt = none ∨ (s.seam.pair ≠ .source ∧ s.seam.pair ≠ .target) ∨ (∀ j, s.seam.joinAt = some j → tickLe j s.tick.now = false) →
      exec .seamJoin s = .next s))

/-- Digests: in PAIRED state a DIGEST whose stamp is final is compared record by record with the device's own group records, counted,
and one that is early is kept; in any other state it changes nothing. A CHDIGEST of a mismatch records its stamp, its group, its
attribution and a slot no higher than any that differs (R318 to R321). -/
def Obligations.DigestsAreCompared : Prop :=
  (∀ (s : State) (f : Flit) (stamp : Tick), stamp = stampOf s.tick.now (stampLo f) →
    (s.seam.pair = .paired →
      ∃ t, exec (.digest f) s = .next t ∧
        (s.digestFinal stamp = true → t.seam.cmps = s.seam.cmps ++ (groupRecs f).zipIdx.map (fun e =>
            { stamp := stamp, group := (digestGroup f + e.2) % 16,
              agreed := (s.ownRec stamp ((digestGroup f + e.2) % 16)).hash == e.1.hash &&
                (s.ownRec stamp ((digestGroup f + e.2) % 16)).count == e.1.count % 4096,
              ownAnom := (s.ownRec stamp ((digestGroup f + e.2) % 16)).anom, peerAnom := e.1.anom }) ∧
          t.get Reg.SEAM_CNT_DIGEST_COUNT = min (s.get Reg.SEAM_CNT_DIGEST_COUNT + 4) Reg.SEAM_CNT_DIGEST_COUNT.max) ∧
        (s.digestFinal stamp = false →
          t.seam.pendRecv = s.seam.pendRecv ++ (groupRecs f).zipIdx.map (fun e => (stamp, (digestGroup f + e.2) % 16, e.1)) ∧
          t = { s with seam := t.seam })) ∧
    (s.seam.pair ≠ .paired → exec (.digest f) s = .next s)) ∧
  (∀ (s : State) (f : Flit) (stamp : Tick), stamp = stampOf s.tick.now (stampLo f) →
    let found := s.seam.cmps.find? fun c => c.stamp == stamp && c.group == digestGroup f && !c.agreed
    (∀ c, found = some c →
      ∃ t, exec (.chdigest f) s = .next t ∧ t.get Reg.SEAM_MISMATCH_STAMP = stamp % 2 ^ 48 ∧
        t.get Reg.SEAM_MISMATCH_GROUP = digestGroup f ∧ t.get Reg.SEAM_MISMATCH_ATTRIB = attribOf c.ownAnom c.peerAnom ∧
        t.flag Reg.SEAM_MISMATCH_VALID = true ∧
        ∀ r ∈ chanRecsOf f, (∀ o ∈ s.chanRecs stamp (digestGroup f), o.slot = r.slot → o.hash ≠ r.hash ∨ o.count ≠ r.count % 256) →
          t.get Reg.SEAM_MISMATCH_SLOT ≤ r.slot) ∧
    (found = none → exec (.chdigest f) s = .next (s.seamGot 1)))

/-- Mirrored operations. In PAIRED state a command that changes tables, entries, channels or lines, and passes its checks, changes
nothing yet: it goes to the twin by MIRROR and holds the engine; one that a check refuses completes with its status (R324, R325).
A received operation is staged and answered STAGED and READY, or REFUSE with the status of its checks, or waits for room; the
origin's command is completed later once the peer has staged it, at once for an edit of an open group, or with the status of a
refusal (R325). The agreement on a boundary: READY of a staged operation has the origin propose the earliest agreed boundary,
unless its governor holds the group; the peer answers with the later of it and its own, or DEFER where its governor holds the
group, and AGREE binds the origin; ABORT ends an operation that is not bound, or an origin's group (R180, R327, R328). -/
def Obligations.MirroredOperations : Prop :=
  ((∀ (s : State) (c : Cmd) (d e : Dma) (i : Instr) (op : Nat) (r : Ran),
     (i, op, e) ∈ [(Instr.tblCreate d, 0x01, d), (.tblDestroy, 0x02, {}), (.tblInsert d, 0x03, d), (.tblDelete, 0x04, {}), (.tblModify d, 0x05, d),
       (.editCommit, 0x0A, {}), (.chnCreate d, 0x10, d), (.chnDestroy, 0x11, {}), (.adataWrite d, 0x20, d)] ∨
       (∃ kind, (i, kind) ∈ [(Instr.wrdOpInval, 0), (.wrdOpClean, 1), (.wrdOpFlush, 2)] ∧ bits c.slot.p1 2 0 = kind ∧ op = 0x22 ∧ e = {}) →
     s.engineOp op = some c → s.host.mirror = none → s.seam.pair = .paired → r = coreOf 0 s (some c.own) c.func c.slot e → r.wait = false →
     (r.status = Sts.SUCCESS →
       ∃ t m h, exec i s = .next t ∧ t.host.engine = some c ∧ t.host.mirror = some s.seam.nextId ∧ t.seam.ops = s.seam.ops ++ [m] ∧
         m.id = s.seam.nextId ∧ m.mine = true ∧ m.st = .staging ∧ m.op = .command (Fin.ofNat 16 c.func) c.slot e h ∧
         SeamSent s t (.mirror m.id m.op none) ∧ t.rows = s.rows ∧ t.tables = s.tables ∧ t.chans = s.chans ∧ t.wrd = s.wrd ∧
         t.groups = s.groups) ∧
     (r.status ≠ Sts.SUCCESS → r.later = false → ∃ t, exec i s = .next t ∧ t.owes c r.status r.result true)) ∧
   (∀ (s : State) (id : Nat) (op : MirrorOp), ((∃ n v, op = .site n v) ∨ ∃ rel v, op = .release rel v) → s.seam.pair = .paired →
     (∀ x ∈ s.seam.ops, x.key ≠ id % 2 ^ 16 + 65536) →
     exec (.mirror id op none) s = .next ((({ s.seamGot 1 with
       seam := { (s.seamGot 1).seam with ops := s.seam.ops ++
         [{ id := id % 2 ^ 16, mine := false, op := op, st := .staged, target := mirrorTarget op }] } } : State).sendSeam
           (.staged (id % 2 ^ 16) 0)).sendSeam (.ready (id % 2 ^ 16)))) ∧
   (∀ (s : State) (id : Nat) (f : Fin 16) (c : CmdSlot) (d : Dma) (h : BitVec 16) (m : Mirrored) (r : Ran) (u : State), s.seam.pair = .paired →
     u = s.seamGot (mirrorFlits (.command f c d h)) →
     m = { id := id % 2 ^ 16, mine := false, op := .command f c d h, target := mirrorTarget (.command f c d h) } →
     r = coreOf h.toNat (u.setOps (u.seam.ops ++ [m])) none f.val c d →
     ∃ t, exec (.mirror id (.command f c d h) none) s = .next t ∧
       (r.wait = true → t = u.setOps (u.seam.ops ++ [m])) ∧
       (r.wait = false → r.status ≠ Sts.SUCCESS → SeamSent r.s t (.refuse m.id r.status) ∧ ∀ x ∈ t.seam.ops, x.key ≠ m.key) ∧
       (r.wait = false → r.status = Sts.SUCCESS → inGroup c = true → SeamSent r.s t (.staged m.id 0) ∧ ∀ x ∈ t.seam.ops, x.key ≠ m.key) ∧
       (r.wait = false → r.status = Sts.SUCCESS → inGroup c = false →
         t.seam.ops = r.s.seam.ops.map fun x => if x.key = m.key then { m with st := .staged, target := staticTarget m r } else x)) ∧
   (∀ (s : State) (id : Nat) (handle : BitVec 16) (m : Mirrored) (e : Cmd) (f : Fin 16) (c : CmdSlot) (d : Dma) (h : BitVec 16) (r : Ran),
     s.opOf true id = some m → m.st = .staging → m.op = .command f c d h → s.host.engine = some e → s.host.mirror = some id →
     r = coreOf (if h = 0 then handle.toNat else h.toNat) (s.seamGot 1) (some e.own) f.val c d → r.wait = false →
     ∃ t, exec (.staged id handle) s = .next t ∧
       (r.status = Sts.SUCCESS → inGroup c = false → t.owes e Sts.SUCCESS r.result false) ∧
       (r.status = Sts.SUCCESS → inGroup c = true → r.later = false →
         t.owes e Sts.SUCCESS r.result true ∧ ∀ x ∈ t.seam.ops, x.key ≠ m.key)) ∧
   (∀ (s : State) (id : Nat) (status : BitVec 8) (m : Mirrored), s.opOf true id = some m → m.st = .staging →
     ∃ t, exec (.refuse id status) s = .next t ∧ t.seam.ops = s.seam.ops.filter (fun x => x.key ≠ m.key) ∧
       (∀ e f c d h, m.op = .command f c d h → s.host.engine = some e → s.host.mirror = some id → t.owes e status.toNat 0 true) ∧
       (∀ slot hi v, m.op = .quota slot hi v → t.flag Reg.CHN_STATUS_QUOTA_ERR slot.toNat = true)) ∧
   (∀ (s : State) (id : Nat) (op : MirrorOp) (handle : BitVec 16) (status : BitVec 8),
     (s.seam.pair ≠ .paired → s.seam.pair ≠ .target → exec (.mirror id op none) s = .next (s.seamGot (mirrorFlits op))) ∧
     (s.opOf true id = none → exec (.staged id handle) s = .next (s.seamGot 1) ∧ exec (.refuse id status) s = .next (s.seamGot 1)))) ∧
  ((∀ (s : State) (id : Nat) (m : Mirrored), s.opOf true id = some m → m.st = .staged →
     ∃ t, exec (.ready id) s = .next t ∧
       (s.mayAgree m = true → SeamSent (s.seamGot 1) t (.propose id s.agreeTick) ∧ ∃ x ∈ t.seam.ops, x.key = m.key ∧ x.st = .proposed s.agreeTick) ∧
       (s.mayAgree m = false → t.out = (s.seamGot 1).out ∧ ∃ x ∈ t.seam.ops, x.key = m.key ∧ x.st = .staged ∧ x.peerReady = true)) ∧
   (∀ (s : State) (id : Nat) (k : BitVec 48) (m : Mirrored), s.opOf false id = some m → m.st = .staged →
     ∃ t, exec (.propose id k) s = .next t ∧
       (s.mayAgree m = true → SeamSent (s.seamGot 1) t (.agree id (tickMax k.toNat s.agreeTick)) ∧
         ∃ x ∈ t.seam.ops, x.key = m.key ∧ x.st = .bound (tickMax k.toNat s.agreeTick)) ∧
       (s.mayAgree m = false → SeamSent (s.seamGot 1) t (.defer id) ∧ ∃ x ∈ t.seam.ops, x.key = m.key ∧ x.st = .proposed k.toNat)) ∧
   (∀ (s : State) (id : Nat) (k : BitVec 48) (m : Mirrored), s.opOf true id = some m →
     (m.st = .deferred ∨ ∃ p, m.st = .proposed p) →
     ∃ t, exec (.agree id k) s = .next t ∧ ∃ x ∈ t.seam.ops, x.key = m.key ∧ x.st = .bound k.toNat) ∧
   (∀ (s : State) (id : Nat) (m : Mirrored) (k : Tick), s.opOf true id = some m → m.st = .proposed k →
     ∃ t, exec (.defer id) s = .next t ∧ (∃ x ∈ t.seam.ops, x.key = m.key ∧ x.st = .deferred) ∧ t = { s.seamGot 1 with seam := t.seam }) ∧
   (∀ (s : State) (id : Nat) (k : BitVec 48),
     (s.opOf true id = none → ∀ i ∈ [Instr.ready id, .agree id k, .defer id], exec i s = .next (s.seamGot 1)) ∧
     (s.opOf false id = none → exec (.propose id k) s = .next (s.seamGot 1))) ∧
   (∀ (s : State) (id : Nat) (m : Mirrored), id < 65536 → s.opOf false id = some m →
     (m.isBound = false → ∃ t, exec (.abort id) s = .next t ∧ ∀ x ∈ t.seam.ops, x.key ≠ m.key) ∧
     (m.isBound = true → exec (.abort id) s = .next (s.seamGot 1))) ∧
   (∀ (s : State) (id : Nat), 65536 ≤ id →
     let own := s.groups.find? fun g => g.fromPeer && !g.isBound && g.num == id - 65536 && !g.ungrouped
     (∀ g, own = some g → ∃ t, exec (.abort id) s = .next t ∧ t.groups = s.groups.filter fun x => x ≠ g) ∧
     (own = none → exec (.abort id) s = .next (s.seamGot 1))))

/-- Edit locks over the seam: a request is granted where the table is live and its lock free, the leader's winning among two, and the
answer completes EDIT_BEGIN; BYE, missed TICK flits and SEAM_CTRL.DETACH make a detach due, each with its cause; a write of
RELEASE and S re-times the device, in a pair by a mirrored operation, S staying where the value is none of 2 to 16; a message of a
reserved kind is counted (R309, R322, R326, R331). -/
def Obligations.LocksDetachAndRelease : Prop :=
  (∀ (s : State) (n : Fin 64) (g : BitVec 16) (f : Fin 16) (new : Group),
    new = { num := g.toNat, tbl := n.val, func := f.val, lease := 0, leaseAt := s.clock, mirrored := true, fromPeer := true } →
    (s.seam.pair = .paired → (s.seam.lockWait.find? fun e => e.1 == n.val) = none →
      ∃ t, exec (.lockReq n g f) s = .next t ∧
        (s.tableLocked n.val = false → (s.liveTable n.val).isSome = true → t.groups = s.groups ++ [new] ∧
          SeamSent (s.seamGot 1) t (.lockAns n.val true)) ∧
        (s.tableLocked n.val = true ∨ s.liveTable n.val = none → t.groups = s.groups ∧ SeamSent (s.seamGot 1) t (.lockAns n.val false))) ∧
    (∀ e, s.seam.pair = .paired → (s.seam.lockWait.find? fun e => e.1 == n.val) = some e →
      ∃ t, exec (.lockReq n g f) s = .next t ∧
        (s.seam.role = 1 → t.groups = s.groups ∧ SeamSent (s.seamGot 1) t (.lockAns n.val false)) ∧
        (s.seam.role ≠ 1 → new ∈ t.groups ∧ (∀ x ∈ t.groups, ¬ (x.tbl = n.val ∧ x.num = e.2 ∧ x.fromPeer = false)) ∧
          SeamSent (s.seamGot 1) t (.lockAns n.val true) ∧
          ∀ c, s.host.engine = some c → s.host.mirror = some lockWaits → t.owes c Sts.LOCKED 0 true)) ∧
    (s.seam.pair ≠ .paired → exec (.lockReq n g f) s = .next (s.seamGot 1))) ∧
  (∀ (s : State) (n : Fin 64) (grant : Bool),
    (∀ e c, (s.seam.lockWait.find? fun e => e.1 == n.val) = some e → s.host.engine = some c → s.host.mirror = some lockWaits →
      ∃ t, exec (.lockAns n grant) s = .next t ∧ t.seam.lockWait = [] ∧
        (if grant then t.owes c Sts.SUCCESS e.2 true ∧ t.groups = s.groups
         else t.owes c Sts.LOCKED 0 true ∧ ∀ g ∈ t.groups, ¬ (g.tbl = n.val ∧ g.num = e.2 ∧ g.fromPeer = false))) ∧
    ((s.seam.lockWait.find? fun e => e.1 == n.val) = none → exec (.lockAns n grant) s = .next (s.seamGot 1))) ∧
  (∀ s : State, (s.seam.pair = .source ∨ s.seam.pair = .target ∨ s.seam.pair = .paired) → s.seam.detachDue = none →
    exec .bye s = .next { s.seamGot 1 with seam := { (s.seamGot 1).seam with detachDue := some 3 } } ∧
    (max (s.get Reg.SEAM_CTRL_LOSS_TICKS) 1 ≤ s.seam.missed →
      exec .seamTicksMissed s = .next { s with seam := { s.seam with detachDue := some 2 } }) ∧
    (s.mode = .service → ∃ t, exec .seamDetachWrite s = .next t ∧ SeamSent s t .bye ∧ t.seam.detachDue = some 5 ∧ t.seam.pair = s.seam.pair)) ∧
  (∀ s : State, (s.seam.missed < max (s.get Reg.SEAM_CTRL_LOSS_TICKS) 1 → exec .seamTicksMissed s = .next s) ∧
    (s.mode ≠ .service → exec .seamDetachWrite s = .next s ∧ ∀ rel v, exec (.seamReleaseWrite rel v) s = .next s)) ∧
  (∀ (s : State) (rel : Bool) (v : BitVec 5) (n : Nat), s.mode = .service →
    n = (if 2 ≤ v.toNat ∧ v.toNat ≤ 16 then v.toNat else s.get Reg.SEAM_CTRL_S) →
    (rel ≠ s.flag Reg.SEAM_CTRL_RELEASE ∨ n ≠ s.get Reg.SEAM_CTRL_S →
      ∃ t, exec (.seamReleaseWrite rel v) s = .next t ∧
        (s.seam.pair ≠ .paired → ∃ r, t.tick.retime = some r ∧ r.release = some rel ∧ r.settle = some n) ∧
        (s.seam.pair = .paired → t.tick = s.tick ∧ SeamSent s t (.mirror s.seam.nextId (.release rel (BitVec.ofNat 5 n)) none))) ∧
    (rel = s.flag Reg.SEAM_CTRL_RELEASE → n = s.get Reg.SEAM_CTRL_S → s.tick.retime = none →
      exec (.seamReleaseWrite rel v) s = .next s.touchIdle)) ∧
  (∀ (s : State) (f : Flit),
    (seamKinds.contains (seamKind f) = false → s.seam.link.st = .up →
      ∃ t, exec (.reservedSeamMessage f) s = .next t ∧
        t.get Reg.SEAM_CNT_BADMSG_COUNT = min (s.get Reg.SEAM_CNT_BADMSG_COUNT + 1) Reg.SEAM_CNT_BADMSG_COUNT.max ∧
        t = { s.seamGot (bits f 10 8 + 1) with regs := t.regs }) ∧
    (seamKinds.contains (seamKind f) = true ∨ s.seam.link.st ≠ .up → exec (.reservedSeamMessage f) s = .next s))

/-! ## The cascade -/

/-- Tokens, in the flits that hold them: a live member searches a LOOKUP token of another live member and sends it on, its SEEN one
higher, itself marked as visited, its count no lower, and counts it; it sends one it has visited on as it is, as a bypassing
member sends every one; one of a member that is not live, or planned before the last change, is discarded and counted; its own,
back home, waits for the merge, or is late (R344 to R346, R349, R350). A LEARN or TALLY token for another member goes on; one for
this member counts, or learns once every record of the plan in which it arrived has its results; a key learned in the last 32
ticks is not learned again (R347, R348; notes/assumptions/131.md). At its merge a lookup of the origin has its result, CASCADE_GAP
where its token has not returned (R346). -/
def Obligations.CascadeTokens : Prop :=
  (∀ (s : State) (down : Bool) (flits : List Flit) (k : Token) (d : Table), tokenOf flits = k → Tk.kind (flitsNat flits) = 0 →
    s.inRing = true → s.cascaded = true → k.origin ≠ s.member → s.liveSet.testBit k.origin = true →
    tickLater (s.get Reg.CSC_LIVE_AGREED) (planTick s.tick.now k.ptick) = false →
    k.visited.testBit s.member = false → s.table k.tbl = some d → d.cascaded = true →
    ∃ (u : State) (x : Token), exec (.lookupToken down flits) s = .next (u.forwardToken down x) ∧ x.seen = (k.seen + 1) % 16 ∧
      x.visited = k.visited ||| 2 ^ s.member ∧ (k.found = true → x.found = true) ∧ k.count ≤ x.count ∧ x.key = k.key ∧
      x.origin = k.origin ∧ x.tok = k.tok ∧
      u.get Reg.CSC_CNT_SEARCHED_COUNT = min (s.get Reg.CSC_CNT_SEARCHED_COUNT + 1) Reg.CSC_CNT_SEARCHED_COUNT.max) ∧
  (∀ (s : State) (down : Bool) (flits : List Flit) (k : Token), tokenOf flits = k → Tk.kind (flitsNat flits) = 0 → s.inRing = true →
    (s.cascaded = false → exec (.lookupToken down flits) s = .next (s.forwardToken down k)) ∧
    (s.cascaded = true → k.origin ≠ s.member →
      ((s.liveSet.testBit k.origin = false ∨ tickLater (s.get Reg.CSC_LIVE_AGREED) (planTick s.tick.now k.ptick) = true) →
        ∃ t, exec (.lookupToken down flits) s = .next t ∧ t = { s with regs := t.regs } ∧
          t.get Reg.CSC_CNT_DISCARD_COUNT = min (s.get Reg.CSC_CNT_DISCARD_COUNT + 1) Reg.CSC_CNT_DISCARD_COUNT.max) ∧
      (s.liveSet.testBit k.origin = true → tickLater (s.get Reg.CSC_LIVE_AGREED) (planTick s.tick.now k.ptick) = false →
        k.visited.testBit s.member = true → exec (.lookupToken down flits) s = .next (s.forwardToken down k)))) ∧
  (∀ (s : State) (down : Bool) (flits : List Flit) (k : Token), tokenOf flits = k → Tk.kind (flitsNat flits) = 0 → s.inRing = true →
    s.cascaded = true → k.origin = s.member → s.tokenHome k = true → (s.csc.flight.any fun e => e.1 == k.tok) = true →
    ∃ t, exec (.lookupToken down flits) s = .next t ∧ (t.csc.flight.any fun e => e.1 == k.tok) = false ∧
      (∀ i j pl l, s.lookupOf k.tok = some (i, j) → s.planned[i]? = some pl → pl.lookups[j]? = some l →
        t.planned = s.planned.set i { pl with lookups := pl.lookups.set j { l with ret := some k } }) ∧
      (s.lookupOf k.tok = none → t.planned = s.planned ∧
        t.get Reg.CSC_CNT_LATE_COUNT = min (s.get Reg.CSC_CNT_LATE_COUNT + 1) Reg.CSC_CNT_LATE_COUNT.max)) ∧
  (∀ (s : State) (flits : List Flit), s.inRing = true →
    (Tk.kind (flitsNat flits) = 1 → (s.cascaded = false ∨ Tk.target (flitsNat flits) ≠ s.member) →
      exec (.learnToken flits) s = .next { s with out := .csc (.learn flits) :: s.out }) ∧
    (Tk.kind (flitsNat flits) = 2 → (s.cascaded = false ∨ Tk.target (flitsNat flits) ≠ s.member) →
      exec (.tallyToken flits) s = .next { s with out := .csc (.tally flits) :: s.out }) ∧
    (Tk.kind (flitsNat flits) = 2 → s.cascaded = true → Tk.target (flitsNat flits) = s.member →
      ∃ t, exec (.tallyToken flits) s = .next t ∧ t = { s with tallies := t.tallies } ∧
        (∀ y, s.tallyAt (Tk.table (flitsNat flits)) (Tk.entry (flitsNat flits)) (tickSub s.tick.plan 1) = some y →
          t.tallies = s.tallies.map fun x => if x = y then { x with count := min (x.count + 1) (2 ^ 32 - 1) } else x) ∧
        (s.tallyAt (Tk.table (flitsNat flits)) (Tk.entry (flitsNat flits)) (tickSub s.tick.plan 1) = none → t = s))) ∧
  (∀ (s : State) (flits : List Flit) (d : Table) (n : Nat) (key : BitVec 640), s.inRing = true → s.cascaded = true →
    Tk.kind (flitsNat flits) = 1 → Tk.target (flitsNat flits) = s.member → Tk.table (flitsNat flits) = n →
    s.liveSet.testBit (Tk.origin (flitsNat flits)) = true → s.table n = some d → d.cascaded = true → d.learnEn = true →
    d.destroyAt = none → s.csc.learns = [] → key = Tk.key (flitsNat flits) &&& d.mask &&& widthMask d.width →
    (s.unfinished (tickSub s.tick.plan 1) = true → exec (.learnToken flits) s =
      .next { s with csc := { s.csc with learns := [(tickSub s.tick.plan 1, n, Tk.key (flitsNat flits))] } }) ∧
    (s.unfinished (tickSub s.tick.plan 1) = false → s.recentLearn n key = true →
      ∃ t, exec (.learnToken flits) s = .next t ∧ t = { s with regs := t.regs } ∧ t.get Reg.CSC_CNT_LEARN_DUP_COUNT =
        min (s.get Reg.CSC_CNT_LEARN_DUP_COUNT + 1) Reg.CSC_CNT_LEARN_DUP_COUNT.max) ∧
    (s.unfinished (tickSub s.tick.plan 1) = false → s.recentLearn n key = false →
      (s.learn n d key (tickSub s.tick.plan 1)).2.status = Vs.NEW → exec (.learnToken flits) s =
        .next ((s.learn n d key (tickSub s.tick.plan 1)).1.countTally n (s.learn n d key (tickSub s.tick.plan 1)).2.entry
          (tickSub s.tick.plan 1)))) ∧
  (∀ (s : State) (tok : BitVec 12),
    (s.lookupOf tok.toNat = none → exec (.cascadeMerge tok) s = .next s) ∧
    (∀ i k pl l, s.lookupOf tok.toNat = some (i, k) → s.planned[i]? = some pl → pl.lookups[k]? = some l →
      ∃ t pm m, exec (.cascadeMerge tok) s = .next t ∧ t.planned[i]? = some pm ∧ pm.lookups[k]? = some m ∧
        (m.done = true ∨ m.judged ≠ none) ∧ pm.handle = pl.handle ∧ pm.tick = pl.tick ∧
        (∀ d own, s.table l.tbl = some d → l.loc = some own →
          m.judged = some (s.mergedVerdict d pl.tick l (match l.ret with
            | some r => mergeToken d.ranked r own
            | none => own))) ∧
        (∀ d, s.table l.tbl = some d → l.ret = none → ∃ v, m.judged = some v ∧ v.status = Vs.CASCADE_GAP)))

/-- Joining and leaving: the coordinator takes a join it can accept into the set it will propose and otherwise records why it refuses;
every other member passes a notice on; BYE and a lost neighbour take a live member out of that set, and the loss is remembered; a
member that leaves says BYE, one that joins sends JOIN_REQ, and a coordinator that joins checks itself (R349, R352; the join
operand is what the coordinator reads from the member through requester 2). A membership change: a member of a proposed set keeps
the change and acknowledges it; the coordinator is bound once every new member has acknowledged, and the others by COMMIT; at
boundary k a bound change applies, its tokens in flight discarded, and a member without COMMIT leaves and asks to join again
(R349); while no position is lost the new live set is what was agreed. CSC_SLICE is taken only in service state and while no entry
of the table is held (R339, R364). -/
def Obligations.CascadeMembership : Prop :=
  ((∀ (s : State) (j : JoinInfo) (i : Instr), i ∈ [Instr.joinReq j, .notice (.join j)] → s.inRing = true →
     ∃ t, exec i s = .next t ∧
       (s.isCoord = true → s.joinCause j = 0 → t = { s with csc := { s.csc with
         want := some (setOf (j.member :: membersOf s.wanted)), lost := without s.csc.lost j.member } }) ∧
       (s.isCoord = true → s.joinCause j ≠ 0 → t.get Reg.CSC_STATUS_REFUSE_CAUSE = s.joinCause j ∧ t.csc = s.csc) ∧
       (s.isCoord = false → t = { s with out := .csc (.notice (.join j)) :: s.out })) ∧
   (∀ (s : State) (m : Fin 16) (i : Instr), i ∈ [Instr.cscBye m, .notice (.bye m)] → s.inRing = true →
     ∃ t, exec i s = .next t ∧
       ((s.isCoord = true ∨ s.coordinator = some m.val) → s.liveSet.testBit m = true →
         t = { s with csc := { s.csc with want := some (without s.wanted m) } }) ∧
       ((s.isCoord = true ∨ s.coordinator = some m.val) → s.liveSet.testBit m = false → t = s) ∧
       (s.isCoord = false → s.coordinator ≠ some m.val → t = { s with out := .csc (.notice (.bye m)) :: s.out })) ∧
   (∀ (s : State) (m : Fin 16) (i : Instr), (i = .notice (.lost m) ∨
       (s.cascaded = true ∧ ((i = .cscTicksMissed .up ∧ m.val = s.neighbour false % 16) ∨
         (i = .cscTicksMissed .down ∧ m.val = s.neighbour true % 16)))) → s.inRing = true →
     ∃ t, exec i s = .next t ∧ t.csc.lost = setOf (m.val :: membersOf s.csc.lost) ∧
       (t.isCoord = true → s.liveSet.testBit m = true → t.csc.want = some (without s.wanted m)) ∧
       (t.isCoord = false → t.out = .csc (.notice (.lost m)) :: s.out)) ∧
   (∀ s : State, s.inRing = true → s.cascaded = true →
     ∃ t, exec .cscLeave s = .next t ∧ t.out = .csc (.bye s.member) :: s.out ∧
       (s.isCoord = true → s.liveSet.testBit s.member = true → t.csc.want = some (without s.wanted s.member)) ∧
       (s.isCoord = false → t.csc = s.csc)) ∧
   (∀ s : State, s.inRing = true →
     (s.isCoord = false → exec .cscJoin s = .next { s with out := .csc .joinReq :: s.out }) ∧
     (s.isCoord = true → ∃ t, exec .cscJoin s = .next t ∧
       (s.joinCause s.ownJoin = 0 → t.csc.want = some (setOf (s.ownJoin.member :: membersOf s.wanted))) ∧
       (s.joinCause s.ownJoin ≠ 0 → t.get Reg.CSC_STATUS_REFUSE_CAUSE = s.joinCause s.ownJoin ∧ t.csc = s.csc))) ∧
   (∀ (s : State) (i : Instr), s.inRing = false →
     (i ∈ [Instr.cscLeave, .cscJoin, .commit, .membershipApply] ∨ (∃ l, i = .cscTicksMissed l) ∨ (∃ n, i = .notice n) ∨
       (∃ j, i = .joinReq j) ∨ (∃ m, i = .cscBye m) ∨ (∃ m, i = .ack m) ∨ (∃ l k, i = .cscPropose l k) ∨
       (∃ f, i = .learnToken f) ∨ (∃ f, i = .tallyToken f) ∨ ∃ d f, i = .lookupToken d f) → exec i s = .next s)) ∧
  ((∀ (s : State) (live : BitVec 16) (k : BitVec 48), s.inRing = true →
     ∃ t, exec (.cscPropose live k) s = .next t ∧ (s.isCoord = true → t = s) ∧
       (s.isCoord = false → t.csc = { s.csc with change := some { live := live.toNat, k := k.toNat } } ∧
         t.out = (if live.toNat.testBit s.member then [Output.csc (.ack s.member)] else []) ++
           .csc (.propose live.toNat k.toNat) :: s.out)) ∧
   (∀ (s : State) (m : Fin 16), s.inRing = true →
     ∃ t, exec (.ack m) s = .next t ∧
       (s.isCoord = false → t = { s with out := .csc (.ack m.val) :: s.out }) ∧
       (s.isCoord = true → s.csc.change = none → t = s) ∧
       (∀ c, s.isCoord = true → s.csc.change = some c → c.bound = true → t.out = s.out) ∧
       (∀ c, s.isCoord = true → s.csc.change = some c → c.bound = false →
         ((∀ x ∈ membersOf c.live, x = m.val ∨ x ∈ c.acks) → t.out = .csc .commit :: s.out ∧
           ∃ e, t.csc.change = some e ∧ e.bound = true ∧ e.live = c.live ∧ e.k = c.k) ∧
         ((∃ x ∈ membersOf c.live, x ≠ m.val ∧ x ∉ c.acks) → t.out = s.out ∧
           ∃ e, t.csc.change = some e ∧ e.bound = false ∧ m.val ∈ e.acks))) ∧
   (∀ (s : State), s.inRing = true →
     (∀ c, s.csc.change = some c → c.bound = false →
       exec .commit s = .next { s with csc := { s.csc with change := some { c with bound := true } }, out := .csc .commit :: s.out }) ∧
     ((∀ c, s.csc.change = some c → c.bound = true) → exec .commit s = .next s)) ∧
   (∀ (s : State), s.inRing = true →
     ((∀ c, s.csc.change = some c → tickLe c.k s.tick.now = false) → exec .membershipApply s = .next s) ∧
     (∀ c, s.csc.change = some c → tickLe c.k s.tick.now = true →
       ∃ t, exec .membershipApply s = .next t ∧ t.csc.change = none ∧
         (c.bound = true → t.csc.flight = [] ∧ t.get Reg.CSC_LIVE_AGREED = c.k % 2 ^ 48 ∧
           (s.csc.lost = 0 → t.liveSet = setOf ((membersOf c.live).filter fun m => (membersOf s.ring).contains m))) ∧
         (c.bound = false → t.out = .csc .joinReq :: s.out ∧
           (s.cascaded = true → t.liveSet = without s.liveSet s.member ∧ t.cascaded = false)))) ∧
   (∀ (s : State) (n : Fin 64) (lo hi : BitVec 24),
     (s.mode ≠ .service → exec (.cscSliceWrite n lo hi) s = .next s) ∧
     (s.mode = .service → ∃ t, exec (.cscSliceWrite n lo hi) s = .next t ∧
       ((∀ r ∈ s.rows, r.tbl ≠ n.val) → t.get Reg.CSC_SLICE_LO n = lo.toNat ∧ t.get Reg.CSC_SLICE_HI n = hi.toNat) ∧
       ((∃ r ∈ s.rows, r.tbl = n.val) → t.get Reg.CSC_SLICE_LO n = s.get Reg.CSC_SLICE_LO n ∧
         t.get Reg.CSC_SLICE_HI n = s.get Reg.CSC_SLICE_HI n ∧ t.flag Reg.CSC_STATUS_CFG_ERR = true))))

/-! ## Dormancy -/

/-- Dormancy: an idle timer that has run out is past the point of no return; a drained device that is entering first puts away what
must last, and once that is on the medium it is gated, all that is volatile gone; a detection latched meanwhile wakes it at once;
in dormancy an armed source that fires is recorded in LAST_WAKE and begins the start sequence with WAKE set. An idle timer that
has not run out, a device that is not drained, and sources that are not armed change nothing (R377, R378, R380, R383, R384). -/
def Obligations.DormancyAndWake : Prop :=
  (∀ s : State,
    (s.idleOver = true → exec .idleTimerExpiry s = .next { s with dorm := { s.dorm with phase := .expired, latched := none } }) ∧
    (s.idleOver = false → exec .idleTimerExpiry s = .next s)) ∧
  (∀ (s : State) (cal : List CabCal), s.mode = .service → s.dorm.phase = .entering → s.drained = true →
    (s.putAway.isPutAway = false → exec (.dormancyGating cal) s = .next s.putAway) ∧
    (s.putAway.isPutAway = true → ∃ u : State, exec (.dormancyGating cal) s = .next (match s.dorm.latched with
      | none => u
      | some w => u.wake w true 0 cal) ∧
      u.mode = .dormant ∧ u.fuses = s.fuses ∧ u.chans = [] ∧ u.ports = [] ∧ u.planned = [] ∧ u.groups = [] ∧ u.wrd.ways = [] ∧
      u.wrd.staging = [] ∧ u.host = {} ∧ u.seam = {} ∧ u.dorm.aon = s.dorm.aon)) ∧
  (∀ (s : State) (cal : List CabCal), (s.mode ≠ .service ∨ s.dorm.phase ≠ .entering ∨ s.drained = false) →
    exec (.dormancyGating cal) s = .next s) ∧
  (∀ (s : State) (w : WakeSeen) (dormantS : Nat) (cal : List CabCal), s.mode = .dormant → wakeFires (s.armed w) = true →
    ∃ u : State, exec (.wakeDetect w dormantS cal) s = .next (u.startSeq cal) ∧ u.mode = .startUp ∧ u.tap = {} ∧
      u.dorm.aon = s.dorm.aon.next (s.armed w) false dormantS ∧ u.get Reg.BOOT_STATUS_WAKE = 1) ∧
  (∀ (s : State) (w : WakeSeen) (dormantS : Nat) (cal : List CabCal),
    (s.mode ≠ .dormant → s.dorm.phase ≠ .awake → s.dorm.latched = none → wakeFires (s.armed w) = true →
      exec (.wakeDetect w dormantS cal) s = .next { s with dorm := { s.dorm with latched := some (s.armed w) } }) ∧
    ((wakeFires (s.armed w) = false ∨ (s.mode ≠ .dormant ∧ (s.dorm.phase = .awake ∨ s.dorm.latched ≠ none))) →
      exec (.wakeDetect w dormantS cal) s = .next s))

/-! ## The configuration memory -/

/-- Pass-through, in service and recovery states: a read brings the bytes at ADDR into CFG_PT_BUF, unless it touches the page that is
being written, when it waits; a write that no rule refuses starts its page program, and another ends with the code of its refusal;
a status read returns busy and BP; while the master is taken a write and a status read wait; OP 3 ends with RESULT 5. GO is
ignored while BUSY, and in the other states (R396, R402, R405, R406). Programs of the attached memory: the oldest log entry that
is owed starts its page program, unless its slot is protected, when it is withheld and counted; none without a valid image or
during a program. A program that ends leaves its bytes in the memory and no others; one that times out sets WRITE_TO; a care pass
refreshes the pages of the copies whose margin read differs (R396, R398, R399, R404; notes/assumptions/132.md). -/
def Obligations.ConfigurationMemory : Prop :=
  ((∀ s : State, (s.mode = .service ∨ s.mode = .recovery) → s.flag Reg.CFG_PT_CMD_BUSY = false →
     (s.readHeld = false → s.ptLen ≤ 256 →
       ∃ t, exec .ptRead s = .next t ∧ t.ptBuf 256 = s.memBytes s.ptAddr s.ptLen ++ (s.ptBuf 256).drop s.ptLen ∧
         t.get Reg.CFG_PT_CMD_RESULT = 0 ∧ t.flag Reg.CFG_PT_CMD_BUSY = false ∧ t.cfg = s.cfg) ∧
     (s.readHeld = true →
       ∃ t, exec .ptRead s = .next t ∧ t.flag Reg.CFG_PT_CMD_BUSY = true ∧ t.ptBuf 256 = s.ptBuf 256 ∧ t.cfg = s.cfg) ∧
     (s.masterBusy = false →
       ∃ t, exec .ptWrite s = .next t ∧
         (s.ptRefusal = 0 → t.cfg = { s.cfg with prog := some ⟨s.ptAddr, s.ptBuf s.ptLen, 1⟩ } ∧ t.flag Reg.CFG_PT_CMD_BUSY = true ∧
           t.out = .pageProgram s.ptAddr (s.ptBuf s.ptLen) :: s.out) ∧
         (s.ptRefusal ≠ 0 → t.cfg = s.cfg ∧ t.get Reg.CFG_PT_CMD_RESULT = s.ptRefusal ∧ t.flag Reg.CFG_PT_CMD_BUSY = false)) ∧
     (s.masterBusy = false →
       ∃ t b, exec .ptStatus s = .next t ∧ t.ptBuf 1 = [b] ∧ b.getLsbD 0 = false ∧ bits b 3 2 = s.cfg.dev.bp % 4 ∧
         t.get Reg.CFG_PT_CMD_RESULT = 0 ∧ t.flag Reg.CFG_PT_CMD_BUSY = false ∧ t.cfg = s.cfg) ∧
     (∀ i ∈ [Instr.ptWrite, .ptStatus], s.masterBusy = true →
       ∃ t, exec i s = .next t ∧ t.flag Reg.CFG_PT_CMD_BUSY = true ∧ t.cfg = s.cfg ∧ t.out = s.out) ∧
     (∃ t, exec .ptInvalid s = .next t ∧ t.get Reg.CFG_PT_CMD_RESULT = 5 ∧ t.flag Reg.CFG_PT_CMD_BUSY = false ∧ t.cfg = s.cfg)) ∧
   (∀ (s : State) (i : Instr), i ∈ [Instr.ptRead, .ptWrite, .ptStatus, .ptInvalid] →
     ((s.mode ≠ .service ∧ s.mode ≠ .recovery) ∨ s.flag Reg.CFG_PT_CMD_BUSY = true) → exec i s = .next s)) ∧
  ((∀ (s u : State) (h : ImageHdr) (e : LogOwed) (rest : List LogOwed), s.boot.hdr = some h → s.cfg.logs = e :: rest → s.cfg.prog = none →
     s.mode ≠ .dormant → u = ({ s with cfg := { s.cfg with logs := rest } } : State).skipWritten h →
     ∃ t, exec .logWrite s = .next t ∧
       (u.isProtected (u.slotAddr h (u.get Reg.CFG_LOG_NEXT)) 32 = false →
         t.cfg = { s.cfg with logs := rest, prog := some ⟨u.slotAddr h (u.get Reg.CFG_LOG_NEXT),
           logEntry (u.get Reg.CFG_LOG_COUNT) e.type e.tick (BitVec.ofNat 96 e.data), 0⟩ }) ∧
       (u.isProtected (u.slotAddr h (u.get Reg.CFG_LOG_NEXT)) 32 = true →
         t.get Reg.CFG_CNT_PROTECTED_COUNT = min (s.get Reg.CFG_CNT_PROTECTED_COUNT + 1) Reg.CFG_CNT_PROTECTED_COUNT.max ∧
         (s.flag Reg.CFG_PT_CMD_BUSY = false → t.cfg = { s.cfg with logs := rest }))) ∧
   (∀ s : State, (s.boot.hdr = none ∨ s.cfg.logs = [] ∨ s.cfg.prog ≠ none ∨ s.mode = .dormant) → exec .logWrite s = .next s) ∧
   (∀ (s : State) (p : PageProg), s.cfg.prog = some p → p.bytes.length ≤ s.memSize →
     ∃ t, exec .pageProgramDone s = .next t ∧ t.memBytes p.addr p.bytes.length = p.bytes ∧
       (p.who = 1 → t.cfg.prog = none ∧ t.flag Reg.CFG_PT_CMD_BUSY = false ∧ t.get Reg.CFG_PT_CMD_RESULT = 0) ∧
       (∀ a, (∀ i < p.bytes.length, (p.addr + i) % s.memSize ≠ a % s.memSize) → t.memByte a = s.memByte a)) ∧
   (∀ (s : State) (p : PageProg), s.cfg.prog = some p → (p.who = 1 ∨ s.flag Reg.CFG_PT_CMD_BUSY = false) →
     ∃ t, exec .spiWriteTimeout s = .next t ∧ t.cfg.prog = none ∧ t.flag Reg.CFG_STATUS_WRITE_TO = true ∧
       (p.who = 1 → t.flag Reg.CFG_PT_CMD_BUSY = false ∧ t.get Reg.CFG_PT_CMD_RESULT = 3) ∧
       (∀ a, (∀ i < p.bytes.length, (p.addr + i) % s.memSize ≠ a % s.memSize) → t.memByte a = s.memByte a)) ∧
   (∀ (s : State) (i : Instr), i ∈ [Instr.pageProgramDone, .spiWriteTimeout] → s.cfg.prog = none → exec i s = .next s) ∧
   (∀ (s : State) (diff : List Nat),
     ((s.mode = .service ∨ s.mode = .recovery) → s.cfg.prog = none → s.cfg.dev.present = true →
       ∃ t, exec (.carePass diff) s = .next t ∧ t.get Reg.CFG_STATUS_BP = s.cfg.dev.bp % 4 ∧ t.cfg.prog = none ∧ t.cfg.dev = s.cfg.dev ∧
         (s.flag Reg.CFG_STATUS_REFRESH = true → ∀ p ∈ diff, s.carePage p = true → .pageRefresh p ∈ t.out)) ∧
     (((s.mode ≠ .service ∧ s.mode ≠ .recovery) ∨ s.cfg.prog ≠ none ∨ s.cfg.dev.present = false) → exec (.carePass diff) s = .next s)))

/-! ## The host interface -/

/-- Rings: the 64 bytes of a slot hold a command as Table 16-4 lays it out; a tail within the ring takes the slots posted since HEAD,
and another sets TAIL_ERR; EN from 0 to 1 zeroes HEAD and TAIL; the free engine takes the oldest command of the next function
whose gate is open, one with a reserved bit or an unlisted opcode ending INVALID_FIELD; NOP ends SUCCESS at the next boundary.
Outside service state these writes change nothing (R4, R364, R419 to R424). -/
def Obligations.CommandRings : Prop :=
  (∀ (op : BitVec 8) (cid : BitVec 16) (p0 p1 : BitVec 64),
    slotOf (leBytes 1 op.toNat ++ leBytes 1 0 ++ leBytes 2 cid.toNat ++ leBytes 4 0 ++ leBytes 8 p0.toNat ++ leBytes 8 p1.toNat ++ leBytes 40 0) =
      { opcode := op, cid := cid, p0 := p0, p1 := p1, rsvd := false }) ∧
  (∀ (s : State) (f : Fin 16) (v : BitVec 64) (slots : List (List Byte)), s.mode = .service →
    ∃ t, exec (.cmdTailWrite f v slots) s = .next t ∧
      (s.ringSize f ≤ v.toNat % 4096 → t.flag Reg.QUE_STATUS_TAIL_ERR f = true ∧ t.host = s.host ∧
        t.get Reg.QUE_CMD_TAIL_TAIL f = s.get Reg.QUE_CMD_TAIL_TAIL f) ∧
      (v.toNat % 4096 < s.ringSize f → s.flag Reg.QUE_CMD_CTRL_EN f = true → s.get Reg.QUE_CMD_HEAD_HEAD f < s.ringSize f →
        s.ringSize f ≤ 4096 → slots.length = (v.toNat % 4096 + s.ringSize f - s.get Reg.QUE_CMD_HEAD_HEAD f) % s.ringSize f →
        t.get Reg.QUE_CMD_TAIL_TAIL f = v.toNat % 4096 ∧ t.get Reg.QUE_CMD_HEAD_HEAD f = v.toNat % 4096 ∧
        (t.fetchedOf f).map (·.2) = (s.fetchedOf f).map (·.2) ++ slots.map slotOf) ∧
      (v.toNat % 4096 < s.ringSize f → s.flag Reg.QUE_CMD_CTRL_EN f = false →
        t.get Reg.QUE_CMD_TAIL_TAIL f = v.toNat % 4096 ∧ t.host = s.host)) ∧
  (∀ (s : State) (f : Fin 16), s.mode = .service →
    (∃ t, exec (.queEnWrite f false true) s = .next t ∧ t.flag Reg.QUE_CMD_CTRL_EN f = true ∧
      (s.flag Reg.QUE_CMD_CTRL_EN f = false → t.get Reg.QUE_CMD_HEAD_HEAD f = 0 ∧ t.get Reg.QUE_CMD_TAIL_TAIL f = 0) ∧
      (s.flag Reg.QUE_CMD_CTRL_EN f = true → t.get Reg.QUE_CMD_HEAD_HEAD f = s.get Reg.QUE_CMD_HEAD_HEAD f)) ∧
    (∃ t, exec (.queEnWrite f true true) s = .next t ∧ t.flag Reg.QUE_CPL_CTRL_EN f = true ∧
      (s.flag Reg.QUE_CPL_CTRL_EN f = false → t.get Reg.QUE_CPL_HEAD_HEAD f = 0 ∧ t.get Reg.QUE_CPL_TAIL_TAIL f = 0)) ∧
    (∃ t, exec (.queEnWrite f false false) s = .next t ∧ t.flag Reg.QUE_CMD_CTRL_EN f = false) ∧
    (∃ t, exec (.queEnWrite f true false) s = .next t ∧ t.flag Reg.QUE_CPL_CTRL_EN f = false)) ∧
  (∀ (s : State) (f : Fin 16), s.mode ≠ .service →
    (∀ cpl en, exec (.queEnWrite f cpl en) s = .next s) ∧ ∀ v slots, exec (.cmdTailWrite f v slots) s = .next s) ∧
  (∀ (s : State) (f i : Nat) (c : CmdSlot) (rest : List (Nat × CmdSlot)), s.mode = .service → s.host.engine = none →
    s.nextCmd = some (f, (i, c), rest) →
    ∃ t, exec .commandDispatch s = .next t ∧ t.fetchedOf f = rest ∧ t.host.lastFunc = f ∧
      (c.rsvd = false → c.opcode.toNat ∈ opcodes → t.host.engine = some { func := f, idx := i, slot := c }) ∧
      ((c.rsvd = true ∨ c.opcode.toNat ∉ opcodes) → t.owes { func := f, idx := i, slot := c } Sts.INVALID_FIELD 0 true)) ∧
  (∀ s : State,
    ((s.mode ≠ .service ∨ s.host.engine.isSome = true) → exec .commandDispatch s = .next s) ∧
    (s.mode = .service → s.host.engine = none → s.nextCmd = none →
      ∃ t, exec .commandDispatch s = .next t ∧ t.host.engine = none ∧ t.host.fetched = s.host.fetched)) ∧
  (∀ (s : State) (c : Cmd), s.engineOp 0 = some c → s.host.mirror = none →
    ∃ t, exec .nop s = .next t ∧ t.owes c Sts.SUCCESS 0 true ∧ t = { s with host := t.host })

/-- A 64-bit POP read returns the oldest word of a capture queue, or of the event queue, and removes it; a read of an empty queue
returns 0 with VALID clear, a 32-bit read returns 0 and removes nothing, and so does a read by a function that does not own the
queue. Outside service state nothing is read (R364, R417, R430, R436, R439). Idle notices and messages: an armed queue that holds
a word and whose idle time has reached IDLE_US gives its notice once, and no other queue does; a write of IDLE_US holds at once;
the end of a hold-off frees its vector where no raise was held, and otherwise sends one message, with the address and data of its
MSI-X entry, after which a new hold-off runs; a host clear of PEND clears COUNT too (R431, R433, R434). -/
def Obligations.PopReadsAndNotices : Prop :=
  ((∀ (s : State) (f : Fin 16) (q : Fin 8), s.mode = .service → s.capReader f q = true →
     ∃ t, exec (.capPop f q 8) s = .next t ∧
       (∀ w rest, fgetD s.host.capq q [] = w :: rest → t.out = .popped f w :: s.out ∧ fgetD t.host.capq q [] = rest ∧
         ∀ r : Fin 8, r ≠ q → fgetD t.host.capq r [] = fgetD s.host.capq r []) ∧
       (fgetD s.host.capq q [] = [] → t.out = .popped f 0 :: s.out ∧ t.host.capq = s.host.capq)) ∧
   (∀ s : State, s.mode = .service →
     ∃ t, exec (.evqPop 0 8) s = .next t ∧
       (∀ w rest, s.host.evq = w :: rest → t.out = .popped 0 w :: s.out ∧ t.host.evq = rest) ∧
       (s.host.evq = [] → t.out = .popped 0 0 :: s.out ∧ t.host.evq = [])) ∧
   (∀ (s : State) (f : Fin 16) (q : Fin 8) (i : Instr), (i ∈ [Instr.capPop f q 4, .evqPop f 4] ∨
       (s.capReader f q = false ∧ i = .capPop f q 8) ∨ (f ≠ 0 ∧ i = .evqPop f 8)) → s.mode = .service →
     ∃ t, exec i s = .next t ∧ t.out = .popped f 0 :: s.out ∧ t.host = s.host) ∧
   (∀ (s : State) (f : Fin 16) (q : Fin 8) (n : Nat), s.mode ≠ .service →
     exec (.capPop f q n) s = .next s ∧ exec (.evqPop f n) s = .next s)) ∧
  ((∀ (s : State) (q : Fin 8), s.mode = .service → (s.idle q).armed = true → s.queueHolds q = true → s.idleUs q ≠ 0 →
     s.idleUs q * cyclesPerUs ≤ s.clock - (s.idle q).from_ →
     ∃ t, exec (.capqIdleExpiry q) s = .next t ∧ (t.idle q).armed = false ∧
       t.get Reg.EVT_SRC_COUNT (Ev.CAPQ_IDLE q) = min (s.get Reg.EVT_SRC_COUNT (Ev.CAPQ_IDLE q) + 1) 255) ∧
   (∀ s : State, s.mode = .service → (s.idle 8).armed = true → s.queueHolds 8 = true → s.idleUs 8 ≠ 0 →
     s.idleUs 8 * cyclesPerUs ≤ s.clock - (s.idle 8).from_ →
     ∃ t, exec .evqIdleExpiry s = .next t ∧ (t.idle 8).armed = false ∧
       t.get Reg.EVT_SRC_COUNT Ev.EVQ_IDLE = min (s.get Reg.EVT_SRC_COUNT Ev.EVQ_IDLE + 1) 255) ∧
   (∀ (s : State),
     (∀ q : Fin 8, (s.mode ≠ .service ∨ (s.idle q).armed = false ∨ s.queueHolds q = false ∨ s.idleUs q = 0 ∨
       s.clock - (s.idle q).from_ < s.idleUs q * cyclesPerUs) → exec (.capqIdleExpiry q) s = .next s) ∧
     ((s.mode ≠ .service ∨ (s.idle 8).armed = false ∨ s.queueHolds 8 = false ∨ s.idleUs 8 = 0 ∨
       s.clock - (s.idle 8).from_ < s.idleUs 8 * cyclesPerUs) → exec .evqIdleExpiry s = .next s)) ∧
   (∀ (s : State) (v : BitVec 16), s.mode = .service →
     (∀ q : Fin 8, ∃ t, exec (.idleUsWrite (some q) v) s = .next t ∧ t.idleUs q = v.toNat) ∧
     (∃ t, exec (.idleUsWrite none v) s = .next t ∧ t.idleUs 8 = v.toNat)) ∧
   (∀ (s : State) (v : Fin 64),
     ((∀ e, fget s.host.hold v = some e → s.clock < e.1) → exec (.holdoffExpiry v) s = .next s) ∧
     (∀ c held, fget s.host.hold v = some (c, held) → c ≤ s.clock →
       ∃ t, exec (.holdoffExpiry v) s = .next t ∧
         ((held = false ∨ s.msixOn 0 = false) → t = { s with host := { s.host with hold := fdel s.host.hold v } }) ∧
         (held = true → s.msixOn 0 = true → s.msixMasked 0 v = false →
           t.out = .msix 0 v ((s.pci 0).vec v).addr ((s.pci 0).vec v).data :: s.out ∧
           (s.get Reg.EVT_VEC_HOLDOFF_US v ≠ 0 →
             fget t.host.hold v = some (s.clock + s.get Reg.EVT_VEC_HOLDOFF_US v * cyclesPerUs, false))))) ∧
   (∀ (s : State) (n : BitVec 10), s.mode = .service →
     ∃ t, exec (.evtPendClear n) s = .next t ∧ t.get Reg.EVT_SRC_PEND n.toNat = 0 ∧ t.get Reg.EVT_SRC_COUNT n.toNat = 0 ∧
       t.host = s.host) ∧
   (∀ (s : State) (n : BitVec 10) (q : Option (Fin 8)) (v : BitVec 16), s.mode ≠ .service →
     exec (.evtPendClear n) s = .next s ∧ exec (.idleUsWrite q v) s = .next s))

/-- Resets of the endpoint: a function-level reset empties the function's rings, resets its configuration space but for the AER
registers and ends its open groups; that of the PF is one of every function and disables SR-IOV; PERST_L acts as one of every
function and is no device reset: state of the device, directory, seal, store and sites stay; a change of the PCIe link raises its
event, and so does an unmasked AER status bit that goes to 1 (R358, R409 to R412, R438). -/
def Obligations.EndpointResets : Prop :=
  (∀ (s : State) (f : Fin 16), s.mode ≠ .dormant → f ≠ 0 → (∀ g ∈ s.groups, g.tbl < 64) →
    ∃ t, exec (.flr f) s = .next t ∧ t.fetchedOf f = [] ∧ t.pci f = (s.pci f).flr ∧
      (∀ F ∈ [Reg.QUE_CMD_CTRL_EN, Reg.QUE_CPL_CTRL_EN, Reg.QUE_CMD_HEAD_HEAD, Reg.QUE_CMD_TAIL_TAIL, Reg.QUE_CPL_HEAD_HEAD,
        Reg.QUE_CPL_TAIL_TAIL], t.get F f = 0) ∧
      (∀ g ∈ t.groups, ¬ (g.func = f.val ∧ g.fromPeer = false ∧ g.ungrouped = false ∧ g.st = .open)) ∧ t.mode = s.mode) ∧
  (∀ s : State, s.mode ≠ .dormant →
    ∃ t, exec (.flr 0) s = .next t ∧ t.numVf = 0 ∧ t.mode = s.mode ∧ ∀ f : Fin 16, t.fetchedOf f = []) ∧
  (∀ (s : State) (f : Fin 16), s.mode = .dormant → exec (.flr f) s = .next s) ∧
  (∀ (s : State) (low : Bool), ∃ t, exec (.perstL low) s = .next t ∧ t.pins = { s.pins with perstL := !low } ∧ t.mode = s.mode ∧
    t.boot.hdr = s.boot.hdr ∧ t.tables = s.tables ∧ t.wrd = s.wrd ∧ t.sites = s.sites ∧ t.chans = s.chans ∧ t.lost = s.lost ∧
    (t.rows.filter fun r => r.st != .pending) = (s.rows.filter fun r => r.st != .pending) ∧
    ((∀ g ∈ s.groups, g.tbl < 64) → t.get Reg.BOOT_STATUS_SEALED = s.get Reg.BOOT_STATUS_SEALED) ∧
    (low = true → s.mode ≠ .dormant → t.numVf = 0 ∧ ∀ f : Fin 16, t.fetchedOf f = [] ∧ t.pci f = {})) ∧
  (∀ (s : State) (l : Option (BitVec 3 × BitVec 3)),
    (s.pins.pcieUp ≠ l.isSome → s.mode ≠ .dormant →
      ∃ t, exec (.pcieLinkChange l) s = .next t ∧ t.pins = { s.pins with pcieUp := l.isSome } ∧
        t.host.pcieRate = (l.getD (0, 0)).1.toNat ∧ t.host.pcieLanes = (l.getD (0, 0)).2.toNat ∧
        (s.mode = .service → t.get Reg.EVT_SRC_COUNT Ev.PCIE_LINK = min (s.get Reg.EVT_SRC_COUNT Ev.PCIE_LINK + 1) 255)) ∧
    ((s.pins.pcieUp = l.isSome ∨ s.mode = .dormant) → exec (.pcieLinkChange l) s = .next s)) ∧
  (∀ (s : State) (f : Fin 16) (unc : Bool) (b : BitVec 5),
    ((s.mode = .dormant ∨ (if unc then (s.pci f).aerUnc else (s.pci f).aerCor).testBit b.toNat = true) →
      exec (.aerError f unc b) s = .next s) ∧
    (s.mode ≠ .dormant → (if unc then (s.pci f).aerUnc else (s.pci f).aerCor).testBit b.toNat = false →
      ∃ t, exec (.aerError f unc b) s = .next t ∧ (if unc then (t.pci f).aerUnc else (t.pci f).aerCor).testBit b.toNat = true ∧
        ((if unc then (s.pci f).aerUncMask else (s.pci f).aerCorMask).testBit b.toNat = true → t.regs = s.regs ∧ t.out = s.out) ∧
        ((if unc then (s.pci f).aerUncMask else (s.pci f).aerCorMask).testBit b.toNat = false → s.mode = .service →
          fget s.host.episodes Ev.PCIE_AER = none →
          t.get Reg.EVT_SRC_COUNT Ev.PCIE_AER = min (s.get Reg.EVT_SRC_COUNT Ev.PCIE_AER + 1) 255)))

/-- A register write acts under the access codes: an RW field takes its bits, a W1C field is cleared by a 1 and left by a 0, an RO
field stays, a 32-bit write changes its half only, and a write of another size, or one that is not aligned, sets SIZE_ERR and
changes nothing else (R7, R9, R416). A function whose BAR0 is closed takes no write there. In configuration space the command
register and the power state take theirs, NumVFs while VF Enable is 0, VF Enable then names the VFs, and the registers that only
tell stay (R409 to R412; notes/assumptions/114.md). -/
def Obligations.RegisterWritesFollowTheAccessCodes : Prop :=
  (∀ (s : State) (v : BitVec 64), s.mode = .service → s.barOpen 0 = true →
    ∃ t, exec (.registerWrite 0 (.bar 0xD0000) 8 v) s = .next t ∧ t.get Reg.WRD_CTRL_HIT_MIN = bits v 25 16 ∧
      t.get Reg.WRD_CTRL_LOCK = s.get Reg.WRD_CTRL_LOCK) ∧
  (∀ (s : State) (v : BitVec 64), s.mode = .service → s.barOpen 0 = true →
    ∃ t, exec (.registerWrite 0 (.bar 0xD0008) 8 v) s = .next t ∧
      t.get Reg.WRD_STATUS_HIT_LOW = (if bitOf v 0 then 0 else s.get Reg.WRD_STATUS_HIT_LOW) ∧
      t.get Reg.WRD_STATUS_PIN_CONFLICT = (if bitOf v 3 then 0 else s.get Reg.WRD_STATUS_PIN_CONFLICT)) ∧
  (∀ (s : State) (v : BitVec 64), s.mode = .service → s.barOpen 0 = true →
    ∃ t, exec (.registerWrite 0 (.bar 0xC0018) 4 v) s = .next t ∧ t.get Reg.CUR_SCRUB_PERIOD_H = bits v 7 0 ∧
      t.get Reg.CUR_SCRUB_MARGIN = bits v 13 8) ∧
  (∀ (s : State) (v : BitVec 64), s.mode = .service → s.barOpen 0 = true →
    ∃ t, exec (.registerWrite 0 (.bar 0xC001C) 4 v) s = .next t ∧ t = { s with dorm := { s.dorm with idleFrom := s.clock } }) ∧
  (∀ (s : State) (f : Fin 16) (off : BitVec 26) (size : Nat) (v : BitVec 64), s.mode = .service → s.barOpen f = true →
    ((size ≠ 4 ∧ size ≠ 8) ∨ off.toNat % size ≠ 0) →
    ∃ t, exec (.registerWrite f (.bar off) size v) s = .next t ∧ t.flag Reg.QUE_STATUS_SIZE_ERR f = true ∧
      t = { s with regs := t.regs, dorm := { s.dorm with idleFrom := s.clock } }) ∧
  (∀ (s : State) (f : Fin 16) (off : BitVec 26) (size : Nat) (v : BitVec 64), s.barOpen f = false →
    exec (.registerWrite f (.bar off) size v) s = .next s) ∧
  (∀ (s : State) (f : Fin 16) (size : Nat) (v : BitVec 64), s.mode ≠ .dormant → s.fnPresent f = true →
    (∃ t, exec (.registerWrite f (.config .command) size v) s = .next t ∧
      (t.pci f).command = v.toNat &&& (if f = 0 then 0x146 else 0x4)) ∧
    (v.toNat % 4 = 3 → ∃ t, exec (.registerWrite f (.config .powerState) size v) s = .next t ∧ (t.pci f).d3 = true) ∧
    (v.toNat % 4 = 0 → ∃ t, exec (.registerWrite f (.config .powerState) size v) s = .next t ∧ (t.pci f).d3 = false) ∧
    (∀ r ∈ [CfgReg.vendorId, .deviceId, .maxPayload, .linkCap, .linkStatus, .totalVfs, .firstVfOffset, .vfStride],
      exec (.registerWrite f (.config r) size v) s = .next s)) ∧
  (∀ (s : State) (size : Nat) (v : BitVec 64), s.mode ≠ .dormant →
    (s.host.sriov.en = false → ∃ t, exec (.registerWrite 0 (.config .numVfs) size v) s = .next t ∧
      t.host.sriov = { s.host.sriov with num := min (v.toNat % 2 ^ 16) 15 }) ∧
    (∃ t, exec (.registerWrite 0 (.config .sriovControl) size v) s = .next t ∧
      t.numVf = (if v.toNat.testBit 0 then s.host.sriov.num else 0)))

/-! ## The TAP -/

/-- The TAP answers where it is powered: each instruction is selected with what it captures (the IDCODE 0x1864_0xxx with bit 0 set,
the fuses, the bypass bit 0), boundary-scan instructions capturing bits that the manual does not lay out (assumption 10);
FUSE_PROG acts only with RESET_L low, VDD_PROG in range and LOCK 0, and then sets bits of blank fields and LOCK alone. In
dormancy, or without VDD_IO, nothing answers (R380, R451 to R453). -/
def Obligations.TapInstructions : Prop :=
  (∀ s : State, s.tapAlive = true →
    (∀ e ∈ [(Instr.extest, TapIr.extest), (.samplePreload, .sample), (.extestPulse, .extestPulse), (.extestTrain, .extestTrain)],
      ∃ t, exec e.1 s = .next t ∧ t.tap.ir = e.2 ∧ t = { s with tap := t.tap, freeCtr := t.freeCtr }) ∧
    (∀ e ∈ [(Instr.highz, TapIr.highz), (.clamp, .clamp), (.tapReset, .idcode)],
      exec e.1 s = .next { s with tap := { ir := e.2, dr := 0 } }) ∧
    (∀ code, exec (.bypass code) s = .next { s with tap := { ir := .bypass, dr := 0 } }) ∧
    (∃ t, exec .idcode s = .next t ∧ t.tap.ir = .idcode ∧ t.tap.dr.toNat / 4096 = 0x18640 ∧ t.tap.dr.getLsbD 0 = true ∧
      t = { s with tap := t.tap }) ∧
    exec .fuseRead s = .next { s with tap := { ir := .fuseRead, dr := s.fuses } }) ∧
  (∀ (s : State) (v : BitVec 64), s.tapAlive = true →
    ∃ t, exec (.fuseProg v) s = .next t ∧ t.tap.ir = .fuseProg ∧ t = { s with tap := t.tap, fuses := t.fuses } ∧
      ((s.pins.resetL = true ∨ s.pins.unwatched = false ∨ s.fuses.getLsbD 63 = true) → t.fuses = s.fuses) ∧
      (s.pins.resetL = false → s.pins.unwatched = true → s.fuses.getLsbD 63 = false →
        (∀ k < 19, fuseField t.fuses k = (if fuseField s.fuses k = 0 then bits v (3 * k + 2) (3 * k) else fuseField s.fuses k)) ∧
        t.fuses.getLsbD 63 = v.getLsbD 63 ∧ t.fuses.toNat / 2 ^ 64 = s.fuses.toNat / 2 ^ 64)) ∧
  (∀ (s : State) (i : Instr), s.tapAlive = false → (i ∈ [Instr.extest, .samplePreload, .extestPulse, .extestTrain, .highz, .clamp,
      .tapReset, .idcode, .fuseRead] ∨ (∃ c, i = .bypass c) ∨ ∃ v, i = .fuseProg v) → exec i s = .next s)

/-! ## The whole device -/

/-- The frame of every command: a command changes only the parts of the state that mayChange lists for it. So none touches the queue
or the count of core cycles, FUSE_PROG alone the fuses, the TAP's instructions nothing but the TAP, and the table reads neither
tables nor rows. -/
def Obligations.CommandsChangeOnlyTheirParts : Prop :=
  ∀ (c : Instr) (s t : State), exec c s = .next t → Only (mayChange c) s t

/-- Fuses are programmed once: no step clears a fuse bit, none changes the factory area, and once LOCK is set none changes any fuse
(R451, R453). -/
def Obligations.FusesAreProgrammedOnce : Prop :=
  ∀ s t : State, step s = .next t →
    s.fuses &&& t.fuses = s.fuses ∧ t.fuses.toNat / 2 ^ 64 = s.fuses.toNat / 2 ^ 64 ∧ (s.fuses.getLsbD 63 = true → t.fuses = s.fuses)

/-- Every step keeps the attached memory in canonical form: addresses strictly rising, no entry equal to the 0 that an unlisted
address reads as. -/
def Obligations.MemoryStaysCanonical : Prop :=
  ∀ s t : State, step s = .next t → Memory.wf s.cfg.mem = true → Memory.wf t.cfg.mem = true

/-- After reset the attached memory is in canonical form, the queue is empty, and nothing has left the device. -/
def Obligations.ResetIsCanonical : Prop :=
  Memory.wf State.reset.cfg.mem = true ∧ State.reset.pending = [] ∧ State.reset.out = [] ∧ State.reset.mode = .startUp ∧
    State.reset.get Reg.BOOT_STATUS_STEP = 1

/-- Every command answers a next state in every state: the block raises no fault and refuses no command. -/
def Obligations.EveryCommandAnswers : Prop :=
  ∀ (c : Instr) (s : State), ∃ t, exec c s = .next t
end

