-- ==== Sys2Proof/Laws/FMap.lean ====
section
/-! SUPPORT. Laws of the sparse maps: a read after a write, and the canonical form every operation keeps. -/

namespace Sys2Proof

variable {α : Type}

@[simp] theorem fget_nil (k : Nat) : fget ([] : FMap α) k = none := rfl

@[simp] theorem fget_fput_same (m : FMap α) (k : Nat) (v : α) : fget (fput m k v) k = some v := by
  induction m with
  | nil => simp [fput, fget]
  | cons hd t ih =>
    simp only [fput]
    split
    · simp [fget]
    · split
      · simp [fget]
      · simp [fget, *]

theorem fget_fput_ne (m : FMap α) {k k' : Nat} (v : α) (h : k ≠ k') : fget (fput m k v) k' = fget m k' := by
  induction m with
  | nil => simp [fput, fget, h]
  | cons hd t ih =>
    obtain ⟨a, w⟩ := hd
    simp only [fput]
    split
    · simp [fget, h]
    · split
      · subst_vars; simp [fget, h]
      · simp [fget, ih]

@[simp] theorem fget_fdel_same (m : FMap α) (k : Nat) : fget (fdel m k) k = none := by
  induction m with
  | nil => rfl
  | cons hd t ih =>
    simp only [fdel]
    split
    · exact ih
    · simp [fget, *]

theorem fget_fdel_ne (m : FMap α) {k k' : Nat} (h : k ≠ k') : fget (fdel m k) k' = fget m k' := by
  induction m with
  | nil => rfl
  | cons hd t ih =>
    simp only [fdel]
    split
    · subst_vars; simp [fget, ih, h]
    · simp [fget, ih]

/-- A read after a write of the same key gives the value written. -/
@[simp] theorem fgetD_fset_same [DecidableEq α] (m : FMap α) (k : Nat) (d v : α) : fgetD (fset m k d v) k d = v := by
  unfold fset fgetD
  split
  · simp_all
  · simp

/-- A write leaves every other key alone. -/
theorem fget_fset_ne [DecidableEq α] (m : FMap α) {k k' : Nat} (d v : α) (h : k ≠ k') : fget (fset m k d v) k' = fget m k' := by
  unfold fset
  split
  · exact fget_fdel_ne m h
  · exact fget_fput_ne m v h

theorem fgetD_fset_ne [DecidableEq α] (m : FMap α) {k k' : Nat} (d d' v : α) (h : k ≠ k') :
    fgetD (fset m k d v) k' d' = fgetD m k' d' := by
  simp only [fgetD, fget_fset_ne m d v h]

/-- `m` lists no key below `n`. -/
def fabove {α : Type} (n : Nat) (m : FMap α) : Bool := m.all fun e => decide (n ≤ e.1)

theorem fsorted_cons (a : Nat) (v : α) (m : FMap α) :
    fsorted ((a, v) :: m) = (fabove (a + 1) m && fsorted m) := by
  induction m generalizing a v with
  | nil => rfl
  | cons hd t ih =>
    obtain ⟨b, w⟩ := hd
    rw [fsorted, ih b w]
    have hb : a < b → fabove (b + 1) t = true → fabove (a + 1) t = true := by
      simp only [fabove, List.all_eq_true, decide_eq_true_eq]
      intro hab H x hx
      exact Nat.le_trans (by omega) (H x hx)
    have hc : fabove (a + 1) ((b, w) :: t) = (decide (a < b) && fabove (a + 1) t) := rfl
    rw [hc]
    by_cases h : a < b
    · have hb' := hb h
      revert hb'
      cases fabove (b + 1) t <;> cases fabove (a + 1) t <;> simp
    · simp [h]

theorem fabove_fput (n : Nat) (m : FMap α) (k : Nat) (v : α) (hk : n ≤ k) (h : fabove n m = true) :
    fabove n (fput m k v) = true := by
  induction m with
  | nil => simpa [fput, fabove] using hk
  | cons hd t ih =>
    simp only [fabove, List.all_cons, Bool.and_eq_true, decide_eq_true_eq] at h ih ⊢
    simp only [fput]
    split
    · simp [hk, h.1]; simpa using h.2
    · split
      · simp [hk]; simpa using h.2
      · simp only [List.all_cons, Bool.and_eq_true, decide_eq_true_eq]; exact ⟨h.1, ih h.2⟩

theorem fabove_fdel (n : Nat) (m : FMap α) (k : Nat) (h : fabove n m = true) : fabove n (fdel m k) = true := by
  induction m with
  | nil => rfl
  | cons hd t ih =>
    simp only [fabove, List.all_cons, Bool.and_eq_true, decide_eq_true_eq] at h ih ⊢
    simp only [fdel]
    split
    · exact ih h.2
    · simp only [List.all_cons, Bool.and_eq_true, decide_eq_true_eq]; exact ⟨h.1, ih h.2⟩

theorem fsorted_fput (m : FMap α) (k : Nat) (v : α) (h : fsorted m = true) : fsorted (fput m k v) = true := by
  induction m with
  | nil => rfl
  | cons hd t ih =>
    obtain ⟨a, w⟩ := hd
    have h' := h
    rw [fsorted_cons, Bool.and_eq_true] at h'
    simp only [fput]
    split
    · rename_i hlt
      rw [fsorted]
      simp [hlt, h]
    · split
      · subst_vars
        rw [fsorted_cons]; simp [h'.1, h'.2]
      · rename_i h1 h2
        rw [fsorted_cons]
        simp only [Bool.and_eq_true]
        exact ⟨fabove_fput _ _ _ _ (by omega) h'.1, ih h'.2⟩

theorem fsorted_fdel (m : FMap α) (k : Nat) (h : fsorted m = true) : fsorted (fdel m k) = true := by
  induction m with
  | nil => rfl
  | cons hd t ih =>
    obtain ⟨a, w⟩ := hd
    rw [fsorted_cons, Bool.and_eq_true] at h
    simp only [fdel]
    split
    · exact ih h.2
    · rw [fsorted_cons]
      simp only [Bool.and_eq_true]
      exact ⟨fabove_fdel _ _ _ h.1, ih h.2⟩

/-- Every write keeps the keys rising. -/
theorem fsorted_fset [DecidableEq α] (m : FMap α) (k : Nat) (d v : α) (h : fsorted m = true) : fsorted (fset m k d v) = true := by
  unfold fset
  split
  · exact fsorted_fdel m k h
  · exact fsorted_fput m k v h

theorem all_fput (p : α → Bool) (m : FMap α) (k : Nat) (v : α) (hv : p v = true)
    (h : (m.all fun e => p e.2) = true) : ((fput m k v).all fun e => p e.2) = true := by
  induction m with
  | nil => simpa [fput] using hv
  | cons hd t ih =>
    simp only [List.all_cons, Bool.and_eq_true] at h
    simp only [fput]
    split
    · simp only [List.all_cons, Bool.and_eq_true]; exact ⟨hv, h⟩
    · split
      · simp only [List.all_cons, Bool.and_eq_true]; exact ⟨hv, h.2⟩
      · simp only [List.all_cons, Bool.and_eq_true]; exact ⟨h.1, ih h.2⟩

theorem all_fdel (p : α → Bool) (m : FMap α) (k : Nat)
    (h : (m.all fun e => p e.2) = true) : ((fdel m k).all fun e => p e.2) = true := by
  induction m with
  | nil => rfl
  | cons hd t ih =>
    simp only [List.all_cons, Bool.and_eq_true] at h
    simp only [fdel]
    split
    · exact ih h.2
    · simp only [List.all_cons, Bool.and_eq_true]; exact ⟨h.1, ih h.2⟩

/-- A write lists no default: the second half of the canonical form. -/
theorem all_fset [DecidableEq α] (m : FMap α) (k : Nat) (d v : α) (h : (m.all fun e => decide (e.2 ≠ d)) = true) :
    ((fset m k d v).all fun e => decide (e.2 ≠ d)) = true := by
  unfold fset
  split
  · exact all_fdel (fun x => decide (x ≠ d)) m k h
  · rename_i hv
    exact all_fput (fun x => decide (x ≠ d)) m k v (by simpa using hv) h

end Sys2Proof
end

