-- ==== Sys2Proof/Laws/Memory.lean ====
section
/-! SUPPORT. The attached memory: every write keeps its canonical form, and changes the bytes it writes alone. -/

namespace Sys2Proof.Machine

set_option Elab.async false

theorem Memory.wf_nil : Memory.wf [] = true := rfl

theorem Memory.wf_fset (m : FMap Byte) (a : Nat) (v : Byte) (h : Memory.wf m = true) : Memory.wf (fset m a 0 v) = true := by
  simp only [Memory.wf, Bool.and_eq_true] at h ⊢
  exact ⟨fsorted_fset m a 0 v h.1, all_fset m a 0 v h.2⟩

/-- The bytes of a write, put one after the other. -/
theorem Memory.wf_foldl (f : Byte × Nat → Nat) (l : List (Byte × Nat)) (m : FMap Byte) (h : Memory.wf m = true) :
    Memory.wf (l.foldl (fun m e => fset m (f e) 0 e.1) m) = true := by
  induction l generalizing m with
  | nil => exact h
  | cons e t ih => exact ih _ (Memory.wf_fset m _ _ h)

/-- Every write to the attached memory keeps its canonical form. -/
theorem State.memPut_wf (s : State) (a : Nat) (l : List Byte) (h : Memory.wf s.cfg.mem = true) :
    Memory.wf (s.memPut a l).cfg.mem = true :=
  Memory.wf_foldl (fun e => (a + e.2) % s.memSize) _ _ h

/-- A byte that none of the writes touches. -/
theorem Memory.fget_foldl (f : Byte × Nat → Nat) (l : List (Byte × Nat)) (m : FMap Byte) (k : Nat) (h : ∀ e ∈ l, f e ≠ k) :
    fget (l.foldl (fun m e => fset m (f e) 0 e.1) m) k = fget m k := by
  induction l generalizing m with
  | nil => rfl
  | cons e t ih =>
    rw [List.foldl_cons, ih _ fun x hx => h x (List.mem_cons_of_mem _ hx)]
    exact fget_fset_ne m 0 e.1 (h e List.mem_cons_self)

/-- A write leaves every byte outside it as it was. -/
theorem State.memByte_memPut_other (s : State) (a k : Nat) (l : List Byte)
    (h : ∀ i < l.length, (a + i) % s.memSize ≠ k % s.memSize) : (s.memPut a l).memByte k = s.memByte k := by
  have h' : ∀ e ∈ l.zipIdx, (a + e.2) % s.memSize ≠ k % s.memSize := fun e he => by
    have := List.snd_lt_of_mem_zipIdx he
    exact h e.2 (by simpa using this)
  show (fget (l.zipIdx.foldl (fun m e => fset m ((a + e.2) % s.memSize) 0 e.1) s.cfg.mem) (k % s.memSize)).getD 0 =
    (fget s.cfg.mem (k % s.memSize)).getD 0
  rw [Memory.fget_foldl (fun e => (a + e.2) % s.memSize) _ _ _ h']

end Sys2Proof.Machine
end

