-- ==== Sys2Proof/Laws/Only.lean ====
section
/-! SUPPORT. The frame relation: how it composes, and how a record update, a fold or a match keeps it. -/

namespace Sys2Proof.Machine

set_option Elab.async false

theorem Same.rfl' (p : Part) (s : State) : Same p s s := by cases p <;> rfl

theorem Same.trans' {p : Part} {s t u : State} (h : Same p s t) (k : Same p t u) : Same p s u := by
  cases p <;> exact Eq.trans h k

theorem mem_of_sub {v w : List Part} {p : Part} (h : v ⊆ w) (hp : p ∈ v) : p ∈ w := h hp

@[simp] theorem Only.refl (w : List Part) (s : State) : Only w s s := fun p _ => Same.rfl' p s

theorem Only.trans {w : List Part} {s t u : State} (h : Only w s t) (k : Only w t u) : Only w s u :=
  fun p hp => (h p hp).trans' (k p hp)

theorem Only.mono {v w : List Part} {s t : State} (h : Only v s t) (hw : v ⊆ w) : Only w s t :=
  fun p hp => h p fun q => hp (hw q)

/-- A record update of a state that is within the frame is within it, where the updated fields are listed. -/
theorem Only.upd {w : List Part} {s t : State}
    {a0 a1 a2 a3 a4 a5 a6 a7 a8 a9 a10 a11 a12 a13 a14 a15 a16 a17 a18 a19 a20 a21 a22 a23 a24 a25 a26 a27 a28 a29 a30 a31 a32
    a33 a34 a35 a36 a37 a38 a39 a40 a41 a42 a43 a44}
    (k : a0 = t.pending ∧ (a1 = t.clock ∨ Part.clock ∈ w) ∧ (a2 = t.freeCtr ∨ Part.freeCtr ∈ w) ∧ (a3 = t.out ∨ Part.out ∈ w) ∧
    (a4 = t.mode ∨ Part.mode ∈ w) ∧ (a5 = t.pins ∨ Part.pins ∈ w) ∧ (a6 = t.fuses ∨ Part.fuses ∈ w) ∧ (a7 = t.tap ∨ Part.tap ∈
    w) ∧ (a8 = t.regs ∨ Part.regs ∈ w) ∧ (a9 = t.boot ∨ Part.boot ∈ w) ∧ (a10 = t.ledgerA ∨ Part.ledgerA ∈ w) ∧ (a11 =
    t.ledgerB ∨ Part.ledgerB ∈ w) ∧ (a12 = t.dorm ∨ Part.dorm ∈ w) ∧ (a13 = t.tick ∨ Part.tick ∈ w) ∧ (a14 = t.ports ∨
    Part.ports ∈ w) ∧ (a15 = t.planned ∨ Part.planned ∈ w) ∧ (a16 = t.chans ∨ Part.chans ∈ w) ∧ (a17 = t.sites ∨ Part.sites ∈
    w) ∧ (a18 = t.rpt ∨ Part.rpt ∈ w) ∧ (a19 = t.rptPend ∨ Part.rptPend ∈ w) ∧ (a20 = t.shadow ∨ Part.shadow ∈ w) ∧ (a21 =
    t.tables ∨ Part.tables ∈ w) ∧ (a22 = t.rows ∨ Part.rows ∈ w) ∧ (a23 = t.cells ∨ Part.cells ∈ w) ∧ (a24 = t.faults ∨
    Part.faults ∈ w) ∧ (a25 = t.journal ∨ Part.journal ∈ w) ∧ (a26 = t.groups ∨ Part.groups ∈ w) ∧ (a27 = t.tallies ∨
    Part.tallies ∈ w) ∧ (a28 = t.learnLog ∨ Part.learnLog ∈ w) ∧ (a29 = t.lost ∨ Part.lost ∈ w) ∧ (a30 = t.lossList ∨
    Part.lossList ∈ w) ∧ (a31 = t.bays ∨ Part.bays ∈ w) ∧ (a32 = t.broad ∨ Part.broad ∈ w) ∧ (a33 = t.baysBefore ∨
    Part.baysBefore ∈ w) ∧ (a34 = t.broadBefore ∨ Part.broadBefore ∈ w) ∧ (a35 = t.drawers ∨ Part.drawers ∈ w) ∧ (a36 = t.cabs
    ∨ Part.cabs ∈ w) ∧ (a37 = t.acts ∨ Part.acts ∈ w) ∧ (a38 = t.cur ∨ Part.cur ∈ w) ∧ (a39 = t.wrd ∨ Part.wrd ∈ w) ∧ (a40 =
    t.mnt ∨ Part.mnt ∈ w) ∧ (a41 = t.host ∨ Part.host ∈ w) ∧ (a42 = t.seam ∨ Part.seam ∈ w) ∧ (a43 = t.csc ∨ Part.csc ∈ w) ∧
    (a44 = t.cfg ∨ Part.cfg ∈ w))
    (h : Only w s t) :
    Only w s ⟨a0, a1, a2, a3, a4, a5, a6, a7, a8, a9, a10, a11, a12, a13, a14, a15, a16, a17, a18, a19, a20, a21, a22, a23,
    a24, a25, a26, a27, a28, a29, a30, a31, a32, a33, a34, a35, a36, a37, a38, a39, a40, a41, a42, a43, a44⟩ := by
  obtain ⟨k0, k1, k2, k3, k4, k5, k6, k7, k8, k9, k10, k11, k12, k13, k14, k15, k16, k17, k18, k19, k20, k21, k22, k23, k24,
  k25, k26, k27, k28, k29, k30, k31, k32, k33, k34, k35, k36, k37, k38, k39, k40, k41, k42, k43, k44⟩ := k
  intro p hp
  refine (h p hp).trans' ?_
  cases p
  · exact k0.symm
  · exact (k1.resolve_right hp).symm
  · exact (k2.resolve_right hp).symm
  · exact (k3.resolve_right hp).symm
  · exact (k4.resolve_right hp).symm
  · exact (k5.resolve_right hp).symm
  · exact (k6.resolve_right hp).symm
  · exact (k7.resolve_right hp).symm
  · exact (k8.resolve_right hp).symm
  · exact (k9.resolve_right hp).symm
  · exact (k10.resolve_right hp).symm
  · exact (k11.resolve_right hp).symm
  · exact (k12.resolve_right hp).symm
  · exact (k13.resolve_right hp).symm
  · exact (k14.resolve_right hp).symm
  · exact (k15.resolve_right hp).symm
  · exact (k16.resolve_right hp).symm
  · exact (k17.resolve_right hp).symm
  · exact (k18.resolve_right hp).symm
  · exact (k19.resolve_right hp).symm
  · exact (k20.resolve_right hp).symm
  · exact (k21.resolve_right hp).symm
  · exact (k22.resolve_right hp).symm
  · exact (k23.resolve_right hp).symm
  · exact (k24.resolve_right hp).symm
  · exact (k25.resolve_right hp).symm
  · exact (k26.resolve_right hp).symm
  · exact (k27.resolve_right hp).symm
  · exact (k28.resolve_right hp).symm
  · exact (k29.resolve_right hp).symm
  · exact (k30.resolve_right hp).symm
  · exact (k31.resolve_right hp).symm
  · exact (k32.resolve_right hp).symm
  · exact (k33.resolve_right hp).symm
  · exact (k34.resolve_right hp).symm
  · exact (k35.resolve_right hp).symm
  · exact (k36.resolve_right hp).symm
  · exact (k37.resolve_right hp).symm
  · exact (k38.resolve_right hp).symm
  · exact (k39.resolve_right hp).symm
  · exact (k40.resolve_right hp).symm
  · exact (k41.resolve_right hp).symm
  · exact (k42.resolve_right hp).symm
  · exact (k43.resolve_right hp).symm
  · exact (k44.resolve_right hp).symm

theorem Only.set_pending {w : List Part} {s t : State} {v} (h : Only w s t) (hw : .pending ∈ w) : Only w s { t with pending := v } := by
  intro p hp; refine (h p hp).trans' ?_; cases p <;> first | rfl | exact absurd hw hp

theorem Only.set_clock {w : List Part} {s t : State} {v} (h : Only w s t) (hw : .clock ∈ w) : Only w s { t with clock := v } := by
  intro p hp; refine (h p hp).trans' ?_; cases p <;> first | rfl | exact absurd hw hp

theorem Only.set_freeCtr {w : List Part} {s t : State} {v} (h : Only w s t) (hw : .freeCtr ∈ w) : Only w s { t with freeCtr := v } := by
  intro p hp; refine (h p hp).trans' ?_; cases p <;> first | rfl | exact absurd hw hp

theorem Only.set_out {w : List Part} {s t : State} {v} (h : Only w s t) (hw : .out ∈ w) : Only w s { t with out := v } := by
  intro p hp; refine (h p hp).trans' ?_; cases p <;> first | rfl | exact absurd hw hp

theorem Only.set_mode {w : List Part} {s t : State} {v} (h : Only w s t) (hw : .mode ∈ w) : Only w s { t with mode := v } := by
  intro p hp; refine (h p hp).trans' ?_; cases p <;> first | rfl | exact absurd hw hp

theorem Only.set_pins {w : List Part} {s t : State} {v} (h : Only w s t) (hw : .pins ∈ w) : Only w s { t with pins := v } := by
  intro p hp; refine (h p hp).trans' ?_; cases p <;> first | rfl | exact absurd hw hp

theorem Only.set_fuses {w : List Part} {s t : State} {v} (h : Only w s t) (hw : .fuses ∈ w) : Only w s { t with fuses := v } := by
  intro p hp; refine (h p hp).trans' ?_; cases p <;> first | rfl | exact absurd hw hp

theorem Only.set_tap {w : List Part} {s t : State} {v} (h : Only w s t) (hw : .tap ∈ w) : Only w s { t with tap := v } := by
  intro p hp; refine (h p hp).trans' ?_; cases p <;> first | rfl | exact absurd hw hp

theorem Only.set_regs {w : List Part} {s t : State} {v} (h : Only w s t) (hw : .regs ∈ w) : Only w s { t with regs := v } := by
  intro p hp; refine (h p hp).trans' ?_; cases p <;> first | rfl | exact absurd hw hp

theorem Only.set_boot {w : List Part} {s t : State} {v} (h : Only w s t) (hw : .boot ∈ w) : Only w s { t with boot := v } := by
  intro p hp; refine (h p hp).trans' ?_; cases p <;> first | rfl | exact absurd hw hp

theorem Only.set_ledgerA {w : List Part} {s t : State} {v} (h : Only w s t) (hw : .ledgerA ∈ w) : Only w s { t with ledgerA := v } := by
  intro p hp; refine (h p hp).trans' ?_; cases p <;> first | rfl | exact absurd hw hp

theorem Only.set_ledgerB {w : List Part} {s t : State} {v} (h : Only w s t) (hw : .ledgerB ∈ w) : Only w s { t with ledgerB := v } := by
  intro p hp; refine (h p hp).trans' ?_; cases p <;> first | rfl | exact absurd hw hp

theorem Only.set_dorm {w : List Part} {s t : State} {v} (h : Only w s t) (hw : .dorm ∈ w) : Only w s { t with dorm := v } := by
  intro p hp; refine (h p hp).trans' ?_; cases p <;> first | rfl | exact absurd hw hp

theorem Only.set_tick {w : List Part} {s t : State} {v} (h : Only w s t) (hw : .tick ∈ w) : Only w s { t with tick := v } := by
  intro p hp; refine (h p hp).trans' ?_; cases p <;> first | rfl | exact absurd hw hp

theorem Only.set_ports {w : List Part} {s t : State} {v} (h : Only w s t) (hw : .ports ∈ w) : Only w s { t with ports := v } := by
  intro p hp; refine (h p hp).trans' ?_; cases p <;> first | rfl | exact absurd hw hp

theorem Only.set_planned {w : List Part} {s t : State} {v} (h : Only w s t) (hw : .planned ∈ w) : Only w s { t with planned := v } := by
  intro p hp; refine (h p hp).trans' ?_; cases p <;> first | rfl | exact absurd hw hp

theorem Only.set_chans {w : List Part} {s t : State} {v} (h : Only w s t) (hw : .chans ∈ w) : Only w s { t with chans := v } := by
  intro p hp; refine (h p hp).trans' ?_; cases p <;> first | rfl | exact absurd hw hp

theorem Only.set_sites {w : List Part} {s t : State} {v} (h : Only w s t) (hw : .sites ∈ w) : Only w s { t with sites := v } := by
  intro p hp; refine (h p hp).trans' ?_; cases p <;> first | rfl | exact absurd hw hp

theorem Only.set_rpt {w : List Part} {s t : State} {v} (h : Only w s t) (hw : .rpt ∈ w) : Only w s { t with rpt := v } := by
  intro p hp; refine (h p hp).trans' ?_; cases p <;> first | rfl | exact absurd hw hp

theorem Only.set_rptPend {w : List Part} {s t : State} {v} (h : Only w s t) (hw : .rptPend ∈ w) : Only w s { t with rptPend := v } := by
  intro p hp; refine (h p hp).trans' ?_; cases p <;> first | rfl | exact absurd hw hp

theorem Only.set_shadow {w : List Part} {s t : State} {v} (h : Only w s t) (hw : .shadow ∈ w) : Only w s { t with shadow := v } := by
  intro p hp; refine (h p hp).trans' ?_; cases p <;> first | rfl | exact absurd hw hp

theorem Only.set_tables {w : List Part} {s t : State} {v} (h : Only w s t) (hw : .tables ∈ w) : Only w s { t with tables := v } := by
  intro p hp; refine (h p hp).trans' ?_; cases p <;> first | rfl | exact absurd hw hp

theorem Only.set_rows {w : List Part} {s t : State} {v} (h : Only w s t) (hw : .rows ∈ w) : Only w s { t with rows := v } := by
  intro p hp; refine (h p hp).trans' ?_; cases p <;> first | rfl | exact absurd hw hp

theorem Only.set_cells {w : List Part} {s t : State} {v} (h : Only w s t) (hw : .cells ∈ w) : Only w s { t with cells := v } := by
  intro p hp; refine (h p hp).trans' ?_; cases p <;> first | rfl | exact absurd hw hp

theorem Only.set_faults {w : List Part} {s t : State} {v} (h : Only w s t) (hw : .faults ∈ w) : Only w s { t with faults := v } := by
  intro p hp; refine (h p hp).trans' ?_; cases p <;> first | rfl | exact absurd hw hp

theorem Only.set_journal {w : List Part} {s t : State} {v} (h : Only w s t) (hw : .journal ∈ w) : Only w s { t with journal := v } := by
  intro p hp; refine (h p hp).trans' ?_; cases p <;> first | rfl | exact absurd hw hp

theorem Only.set_groups {w : List Part} {s t : State} {v} (h : Only w s t) (hw : .groups ∈ w) : Only w s { t with groups := v } := by
  intro p hp; refine (h p hp).trans' ?_; cases p <;> first | rfl | exact absurd hw hp

theorem Only.set_tallies {w : List Part} {s t : State} {v} (h : Only w s t) (hw : .tallies ∈ w) : Only w s { t with tallies := v } := by
  intro p hp; refine (h p hp).trans' ?_; cases p <;> first | rfl | exact absurd hw hp

theorem Only.set_learnLog {w : List Part} {s t : State} {v} (h : Only w s t) (hw : .learnLog ∈ w) : Only w s { t with learnLog := v } := by
  intro p hp; refine (h p hp).trans' ?_; cases p <;> first | rfl | exact absurd hw hp

theorem Only.set_lost {w : List Part} {s t : State} {v} (h : Only w s t) (hw : .lost ∈ w) : Only w s { t with lost := v } := by
  intro p hp; refine (h p hp).trans' ?_; cases p <;> first | rfl | exact absurd hw hp

theorem Only.set_lossList {w : List Part} {s t : State} {v} (h : Only w s t) (hw : .lossList ∈ w) : Only w s { t with lossList := v } := by
  intro p hp; refine (h p hp).trans' ?_; cases p <;> first | rfl | exact absurd hw hp

theorem Only.set_bays {w : List Part} {s t : State} {v} (h : Only w s t) (hw : .bays ∈ w) : Only w s { t with bays := v } := by
  intro p hp; refine (h p hp).trans' ?_; cases p <;> first | rfl | exact absurd hw hp

theorem Only.set_broad {w : List Part} {s t : State} {v} (h : Only w s t) (hw : .broad ∈ w) : Only w s { t with broad := v } := by
  intro p hp; refine (h p hp).trans' ?_; cases p <;> first | rfl | exact absurd hw hp

theorem Only.set_baysBefore {w : List Part} {s t : State} {v} (h : Only w s t) (hw : .baysBefore ∈ w) : Only w s { t with baysBefore := v } := by
  intro p hp; refine (h p hp).trans' ?_; cases p <;> first | rfl | exact absurd hw hp

theorem Only.set_broadBefore {w : List Part} {s t : State} {v} (h : Only w s t) (hw : .broadBefore ∈ w) : Only w s { t with broadBefore := v } := by
  intro p hp; refine (h p hp).trans' ?_; cases p <;> first | rfl | exact absurd hw hp

theorem Only.set_drawers {w : List Part} {s t : State} {v} (h : Only w s t) (hw : .drawers ∈ w) : Only w s { t with drawers := v } := by
  intro p hp; refine (h p hp).trans' ?_; cases p <;> first | rfl | exact absurd hw hp

theorem Only.set_cabs {w : List Part} {s t : State} {v} (h : Only w s t) (hw : .cabs ∈ w) : Only w s { t with cabs := v } := by
  intro p hp; refine (h p hp).trans' ?_; cases p <;> first | rfl | exact absurd hw hp

theorem Only.set_acts {w : List Part} {s t : State} {v} (h : Only w s t) (hw : .acts ∈ w) : Only w s { t with acts := v } := by
  intro p hp; refine (h p hp).trans' ?_; cases p <;> first | rfl | exact absurd hw hp

theorem Only.set_cur {w : List Part} {s t : State} {v} (h : Only w s t) (hw : .cur ∈ w) : Only w s { t with cur := v } := by
  intro p hp; refine (h p hp).trans' ?_; cases p <;> first | rfl | exact absurd hw hp

theorem Only.set_wrd {w : List Part} {s t : State} {v} (h : Only w s t) (hw : .wrd ∈ w) : Only w s { t with wrd := v } := by
  intro p hp; refine (h p hp).trans' ?_; cases p <;> first | rfl | exact absurd hw hp

theorem Only.set_mnt {w : List Part} {s t : State} {v} (h : Only w s t) (hw : .mnt ∈ w) : Only w s { t with mnt := v } := by
  intro p hp; refine (h p hp).trans' ?_; cases p <;> first | rfl | exact absurd hw hp

theorem Only.set_host {w : List Part} {s t : State} {v} (h : Only w s t) (hw : .host ∈ w) : Only w s { t with host := v } := by
  intro p hp; refine (h p hp).trans' ?_; cases p <;> first | rfl | exact absurd hw hp

theorem Only.set_seam {w : List Part} {s t : State} {v} (h : Only w s t) (hw : .seam ∈ w) : Only w s { t with seam := v } := by
  intro p hp; refine (h p hp).trans' ?_; cases p <;> first | rfl | exact absurd hw hp

theorem Only.set_csc {w : List Part} {s t : State} {v} (h : Only w s t) (hw : .csc ∈ w) : Only w s { t with csc := v } := by
  intro p hp; refine (h p hp).trans' ?_; cases p <;> first | rfl | exact absurd hw hp

theorem Only.set_cfg {w : List Part} {s t : State} {v} (h : Only w s t) (hw : .cfg ∈ w) : Only w s { t with cfg := v } := by
  intro p hp; refine (h p hp).trans' ?_; cases p <;> first | rfl | exact absurd hw hp

theorem Only.foldl {α : Type} {w : List Part} {s t : State} {f : State → α → State} {l : List α}
    (hf : ∀ x e, Only w s x → Only w s (f x e)) (h : Only w s t) : Only w s (l.foldl f t) := by
  induction l generalizing t with
  | nil => exact h
  | cons a l ih => exact ih (hf t a h)

theorem Only.foldl_fst {α β : Type} {w : List Part} {s : State} {t : State × β} {f : State × β → α → State × β} {l : List α}
    (hf : ∀ x e, Only w s x.1 → Only w s (f x e).1) (h : Only w s t.1) : Only w s (l.foldl f t).1 := by
  induction l generalizing t with
  | nil => exact h
  | cons a l ih => exact ih (hf t a h)

theorem Only.foldl_s {α : Type} {w : List Part} {s : State} {t : Scan} {f : Scan → α → Scan} {l : List α}
    (hf : ∀ x e, Only w s x.s → Only w s (f x e).s) (h : Only w s t.s) : Only w s (l.foldl f t).s := by
  induction l generalizing t with
  | nil => exact h
  | cons a l ih => exact ih (hf t a h)

end Sys2Proof.Machine
end

