-- ==== Sys2Proof/Laws/PerInstr.lean ====
section
/-! SUPPORT. The family Operands: what the frame table says of every command as it stands, whatever its operands. -/

namespace Sys2Proof.Laws.Operands

set_option Elab.async false

open Sys2Proof Sys2Proof.Machine

/-- Whatever its operands, a command changes neither the queue nor the count of core cycles, and the fuses only where it is
FUSE_PROG (R453). -/
def Statement (i : Instr) : Prop :=
  Part.pending ∉ mayChange i ∧ Part.clock ∉ mayChange i ∧ (Part.fuses ∈ mayChange i → ∃ v, i = .fuseProg v)

theorem resetLAssert (lowNs : Nat) : Statement (.resetLAssert lowNs) := by
  simp [Statement, mayChange]

theorem resetLRelease (cal : List CabCal) : Statement (.resetLRelease cal) := by
  simp [Statement, mayChange]

theorem powerDetectorTrip (r : Rail) (lowNs : Nat) : Statement (.powerDetectorTrip r lowNs) := by
  simp [Statement, mayChange]

theorem railsInRange (cal : List CabCal) : Statement (.railsInRange cal) := by
  simp [Statement, mayChange]

theorem startLimitExpiry : Statement .startLimitExpiry := by
  simp [Statement, mayChange]

theorem bootEnd : Statement .bootEnd := by
  simp [Statement, mayChange]

theorem bootWrite (cal : List CabCal) : Statement (.bootWrite cal) := by
  simp [Statement, mayChange]

theorem bootWait : Statement .bootWait := by
  simp [Statement, mayChange]

theorem bootWaitExpiry : Statement .bootWaitExpiry := by
  simp [Statement, mayChange]

theorem bootApply : Statement .bootApply := by
  simp [Statement, mayChange]

theorem bootSeal : Statement .bootSeal := by
  simp [Statement, mayChange]

theorem bootLedgerClear (v : BitVec 64) : Statement (.bootLedgerClear v) := by
  simp [Statement, mayChange]

theorem tickBoundary (b : Boundary) : Statement (.tickBoundary b) := by
  simp [Statement, mayChange]

theorem admissionClose : Statement .admissionClose := by
  simp [Statement, mayChange]

theorem tickReferenceEdge : Statement .tickReferenceEdge := by
  simp [Statement, mayChange]

theorem missedEdge : Statement .missedEdge := by
  simp [Statement, mayChange]

theorem tickSourceMissing : Statement .tickSourceMissing := by
  simp [Statement, mayChange]

theorem tickMarker (l : Link) (f : Flit) (p : Nat) : Statement (.tickMarker l f p) := by
  simp [Statement, mayChange]

theorem tickSettingWrite (t : TickSetting) : Statement (.tickSettingWrite t) := by
  simp [Statement, mayChange]

theorem retimingApply : Statement .retimingApply := by
  simp [Statement, mayChange]

theorem dataFlit (p : Fin 16) (f : Flit) : Statement (.dataFlit p f) := by
  simp [Statement, mayChange]

theorem recordCommit (p : Fin 16) : Statement (.recordCommit p) := by
  simp [Statement, mayChange]

theorem hello (l : Link) (f : Flit) : Statement (.hello l f) := by
  simp [Statement, mayChange]

theorem credit (l : Link) (f : Flit) : Statement (.credit l f) := by
  simp [Statement, mayChange]

theorem sync (l : Link) (f : Flit) : Statement (.sync l f) := by
  simp [Statement, mayChange]

theorem align (l : Link) (lane : Nat) (f : Flit) : Statement (.align l lane f) := by
  simp [Statement, mayChange]

theorem reservedLinkFlit (l : Link) (f : Flit) : Statement (.reservedLinkFlit l f) := by
  simp [Statement, mayChange]

theorem uncorrectableCodeword (l : Link) (lane ordinal : Nat) : Statement (.uncorrectableCodeword l lane ordinal) := by
  simp [Statement, mayChange]

theorem linkSignalDetect (l : Link) : Statement (.linkSignalDetect l) := by
  simp [Statement, mayChange]

theorem codewordLock (l : Link) : Statement (.codewordLock l) := by
  simp [Statement, mayChange]

theorem laneAlignment (l : Link) (skewNs : Nat) : Statement (.laneAlignment l skewNs) := by
  simp [Statement, mayChange]

theorem helloTimeout (l : Link) : Statement (.helloTimeout l) := by
  simp [Statement, mayChange]

theorem linkDown (l : Link) (why : DownCause) : Statement (.linkDown l why) := by
  simp [Statement, mayChange]

theorem prtRetrain (p : Fin 16) : Statement (.prtRetrain p) := by
  simp [Statement, mayChange]

theorem prtFlush (p : Fin 16) : Statement (.prtFlush p) := by
  simp [Statement, mayChange]

theorem prtEnWrite (p : Fin 16) (en : Bool) : Statement (.prtEnWrite p en) := by
  simp [Statement, mayChange]

theorem prtSelftestStart (p : Fin 16) : Statement (.prtSelftestStart p) := by
  simp [Statement, mayChange]

theorem prtSelftestDone (p : Fin 16) (corrected doubles : Nat) : Statement (.prtSelftestDone p corrected doubles) := by
  simp [Statement, mayChange]

theorem prtSelftestEnd (p : Fin 16) : Statement (.prtSelftestEnd p) := by
  simp [Statement, mayChange]

theorem searchSlot : Statement .searchSlot := by
  simp [Statement, mayChange]

theorem verdictRelease (p : Fin 16) : Statement (.verdictRelease p) := by
  simp [Statement, mayChange]

theorem captureTransmit (p : Fin 16) : Statement (.captureTransmit p) := by
  simp [Statement, mayChange]

theorem controlCopySend (p : Fin 16) : Statement (.controlCopySend p) := by
  simp [Statement, mayChange]

theorem chnCreate (d : Dma) : Statement (.chnCreate d) := by
  simp [Statement, mayChange]

theorem chnDestroy : Statement .chnDestroy := by
  simp [Statement, mayChange]

theorem channelSlotFree (slot : BitVec 8) : Statement (.channelSlotFree slot) := by
  simp [Statement, mayChange]

theorem chnQuotaWrite (f : Fin 16) (slot : BitVec 8) (hi : Bool) (v : BitVec 64) : Statement (.chnQuotaWrite f slot hi v) := by
  simp [Statement, mayChange]

theorem channelStall (slot : BitVec 8) : Statement (.channelStall slot) := by
  simp [Statement, mayChange]

theorem tblCreate (d : Dma) : Statement (.tblCreate d) := by
  simp [Statement, mayChange]

theorem tblDestroy : Statement .tblDestroy := by
  simp [Statement, mayChange]

theorem tableDestroyComplete (t : Fin 64) : Statement (.tableDestroyComplete t) := by
  simp [Statement, mayChange]

theorem editBegin : Statement .editBegin := by
  simp [Statement, mayChange]

theorem editCommit : Statement .editCommit := by
  simp [Statement, mayChange]

theorem groupCommit (t : Fin 64) : Statement (.groupCommit t) := by
  simp [Statement, mayChange]

theorem commitRelease (t : Fin 64) : Statement (.commitRelease t) := by
  simp [Statement, mayChange]

theorem editAbort : Statement .editAbort := by
  simp [Statement, mayChange]

theorem editLeaseExpiry (t : Fin 64) : Statement (.editLeaseExpiry t) := by
  simp [Statement, mayChange]

theorem tblInsert (d : Dma) : Statement (.tblInsert d) := by
  simp [Statement, mayChange]

theorem tblDelete : Statement .tblDelete := by
  simp [Statement, mayChange]

theorem tblModify (d : Dma) : Statement (.tblModify d) := by
  simp [Statement, mayChange]

theorem vestWaitExpiry : Statement .vestWaitExpiry := by
  simp [Statement, mayChange]

theorem tblRead (d : Dma) : Statement (.tblRead d) := by
  simp [Statement, mayChange]

theorem tblFind (d : Dma) : Statement (.tblFind d) := by
  simp [Statement, mayChange]

theorem tblNext (d : Dma) : Statement (.tblNext d) := by
  simp [Statement, mayChange]

theorem rowStateAdvance : Statement .rowStateAdvance := by
  simp [Statement, mayChange]

theorem migration (t : Fin 64) (id : BitVec 24) (w : WriteRes) : Statement (.migration t id w) := by
  simp [Statement, mayChange]

theorem relocation (t : Fin 64) (id : BitVec 24) (w : WriteRes) : Statement (.relocation t id w) := by
  simp [Statement, mayChange]

theorem rowFlip : Statement .rowFlip := by
  simp [Statement, mayChange]

theorem rowClear (w : WriteRes) : Statement (.rowClear w) := by
  simp [Statement, mayChange]

theorem baySplit (g : Fin 8) (bay : Nat) : Statement (.baySplit g bay) := by
  simp [Statement, mayChange]

theorem bayMerge (g : Fin 8) (bay sibling : Nat) : Statement (.bayMerge g bay sibling) := by
  simp [Statement, mayChange]

theorem learnPersist (t : Fin 64) (id : BitVec 24) : Statement (.learnPersist t id) := by
  simp [Statement, mayChange]

theorem tallyWindowWrite (counter : BitVec 20) (v : BitVec 32) : Statement (.tallyWindowWrite counter v) := by
  simp [Statement, mayChange]

theorem tallyRead : Statement .tallyRead := by
  simp [Statement, mayChange]

theorem tallyWrite : Statement .tallyWrite := by
  simp [Statement, mayChange]

theorem tblgLossNext : Statement .tblgLossNext := by
  simp [Statement, mayChange]

theorem wearBalanceSave : Statement .wearBalanceSave := by
  simp [Statement, mayChange]

theorem calibrationRound (cal : List CabCal) : Statement (.calibrationRound cal) := by
  simp [Statement, mayChange]

theorem curCalGo (cal : List CabCal) : Statement (.curCalGo cal) := by
  simp [Statement, mayChange]

theorem histClear : Statement .histClear := by
  simp [Statement, mayChange]

theorem curCabFence (cab : BitVec 8) : Statement (.curCabFence cab) := by
  simp [Statement, mayChange]

theorem curCabUnfence (cab : BitVec 8) : Statement (.curCabUnfence cab) := by
  simp [Statement, mayChange]

theorem cabinetCheckDone (cal : CabCal) : Statement (.cabinetCheckDone cal) := by
  simp [Statement, mayChange]

theorem scrubPass (reads : List (Nat × ScrubRead)) (store : List (BitVec 20 × LineRead)) : Statement (.scrubPass reads store) := by
  simp [Statement, mayChange]

theorem scrubQueueRead (r : ScrubRead) : Statement (.scrubQueueRead r) := by
  simp [Statement, mayChange]

theorem refresh (w : WriteRes) : Statement (.refresh w) := by
  simp [Statement, mayChange]

theorem selfSearch (t : Fin 64) (id : BitVec 24) (falseMiss : Bool) : Statement (.selfSearch t id falseMiss) := by
  simp [Statement, mayChange]

theorem sweepPeriodEnd : Statement .sweepPeriodEnd := by
  simp [Statement, mayChange]

theorem digestSave (g : Fin 8) (x : Nat) : Statement (.digestSave g x) := by
  simp [Statement, mayChange]

theorem curSelftestGo : Statement .curSelftestGo := by
  simp [Statement, mayChange]

theorem selftestRotation (g : Fin 8) : Statement (.selftestRotation g) := by
  simp [Statement, mayChange]

theorem drawerSelftest (g : Fin 8) (bad : List (BitVec 11)) (searchesOk : Bool) : Statement (.drawerSelftest g bad searchesOk) := by
  simp [Statement, mayChange]

theorem curRetireGo : Statement .curRetireGo := by
  simp [Statement, mayChange]

theorem drawerRetirementDone (g : Fin 8) : Statement (.drawerRetirementDone g) := by
  simp [Statement, mayChange]

theorem curFulltestGo : Statement .curFulltestGo := by
  simp [Statement, mayChange]

theorem fulltestComplete (found : List (Nat × List (BitVec 11) × Bool)) (missed : List (Fin 64 × BitVec 24)) (cal : List CabCal) : Statement (.fulltestComplete found missed cal) := by
  simp [Statement, mayChange]

theorem restoreReq (t : Fin 64) (id : BitVec 24) (sameDesc : Bool) : Statement (.restoreReq t id sameDesc) := by
  simp [Statement, mayChange]

theorem restoreAns (t : Fin 64) (id : BitVec 24) (rec : Option (List Byte)) : Statement (.restoreAns t id rec) := by
  simp [Statement, mayChange]

theorem adataWrite (d : Dma) : Statement (.adataWrite d) := by
  simp [Statement, mayChange]

theorem adataRead (d : Dma) : Statement (.adataRead d) := by
  simp [Statement, mayChange]

theorem wrdOpInval : Statement .wrdOpInval := by
  simp [Statement, mayChange]

theorem wrdOpClean : Statement .wrdOpClean := by
  simp [Statement, mayChange]

theorem wrdOpFlush : Statement .wrdOpFlush := by
  simp [Statement, mayChange]

theorem wrdPinEn (i : Fin 16) (en : Bool) : Statement (.wrdPinEn i en) := by
  simp [Statement, mayChange]

theorem pinLoadDone (i : Fin 16) : Statement (.pinLoadDone i) := by
  simp [Statement, mayChange]

theorem wrdLockWrite (v : BitVec 16) : Statement (.wrdLockWrite v) := by
  simp [Statement, mayChange]

theorem stagingWriteback (w : WriteRes) : Statement (.stagingWriteback w) := by
  simp [Statement, mayChange]

theorem siteWrite (n : BitVec 12) (v : BitVec 64) (size : Nat) (upper : Bool) : Statement (.siteWrite n v size upper) := by
  simp [Statement, mayChange]

theorem rptAgeing : Statement .rptAgeing := by
  simp [Statement, mayChange]

theorem rptStaticWrite (tag : BitVec 24) (port : BitVec 4) : Statement (.rptStaticWrite tag port) := by
  simp [Statement, mayChange]

theorem rptStaticRemove (tag : BitVec 24) : Statement (.rptStaticRemove tag) := by
  simp [Statement, mayChange]

theorem rptStaticInvalid (op : BitVec 2) : Statement (.rptStaticInvalid op) := by
  simp [Statement, mayChange]

theorem rptShadowWrite (w : BitVec 12) (v : BitVec 64) : Statement (.rptShadowWrite w v) := by
  simp [Statement, mayChange]

theorem rptShadowSet (bucket : BitVec 14) (digest : BitVec 16) : Statement (.rptShadowSet bucket digest) := by
  simp [Statement, mayChange]

theorem shadowPass : Statement .shadowPass := by
  simp [Statement, mayChange]

theorem rptSearch (d : Dma) : Statement (.rptSearch d) := by
  simp [Statement, mayChange]

theorem rptNext (d : Dma) : Statement (.rptNext d) := by
  simp [Statement, mayChange]

theorem rptFlushByPort (d : Dma) : Statement (.rptFlushByPort d) := by
  simp [Statement, mayChange]

theorem ctlSend (d : Dma) : Statement (.ctlSend d) := by
  simp [Statement, mayChange]

theorem maintenanceRequest (r : Fin 16) : Statement (.maintenanceRequest r) := by
  simp [Statement, mayChange]

theorem breakPoint (drop : Bool) : Statement (.breakPoint drop) := by
  simp [Statement, mayChange]

theorem mntPrioWrite (r : Fin 16) (v : BitVec 3) : Statement (.mntPrioWrite r v) := by
  simp [Statement, mayChange]

theorem starvation (r : Fin 16) : Statement (.starvation r) := by
  simp [Statement, mayChange]

theorem watchdogExpiry : Statement .watchdogExpiry := by
  simp [Statement, mayChange]

theorem mntFence (r : Fin 16) : Statement (.mntFence r) := by
  simp [Statement, mayChange]

theorem mntUnfence (r : Fin 16) : Statement (.mntUnfence r) := by
  simp [Statement, mayChange]

theorem pairHello (h : PairHello) : Statement (.pairHello h) := by
  simp [Statement, mayChange]

theorem bye : Statement .bye := by
  simp [Statement, mayChange]

theorem digest (f : Flit) : Statement (.digest f) := by
  simp [Statement, mayChange]

theorem chdigest (f : Flit) : Statement (.chdigest f) := by
  simp [Statement, mayChange]

theorem lockReq (t : Fin 64) (group : BitVec 16) (f : Fin 16) : Statement (.lockReq t group f) := by
  simp [Statement, mayChange]

theorem lockAns (t : Fin 64) (grant : Bool) : Statement (.lockAns t grant) := by
  simp [Statement, mayChange]

theorem mirror (id : Nat) (op : MirrorOp) (commitTick : Option Tick) : Statement (.mirror id op commitTick) := by
  simp [Statement, mayChange]

theorem staged (id : Nat) (handle : BitVec 16) : Statement (.staged id handle) := by
  simp [Statement, mayChange]

theorem ready (id : Nat) : Statement (.ready id) := by
  simp [Statement, mayChange]

theorem refuse (id : Nat) (status : BitVec 8) : Statement (.refuse id status) := by
  simp [Statement, mayChange]

theorem propose (id : Nat) (k : BitVec 48) : Statement (.propose id k) := by
  simp [Statement, mayChange]

theorem agree (id : Nat) (k : BitVec 48) : Statement (.agree id k) := by
  simp [Statement, mayChange]

theorem defer (id : Nat) : Statement (.defer id) := by
  simp [Statement, mayChange]

theorem abort (id : Nat) : Statement (.abort id) := by
  simp [Statement, mayChange]

theorem syncBegin : Statement .syncBegin := by
  simp [Statement, mayChange]

theorem syncData (i : SyncItem) : Statement (.syncData i) := by
  simp [Statement, mayChange]

theorem syncEnd : Statement .syncEnd := by
  simp [Statement, mayChange]

theorem join (j : BitVec 48) : Statement (.join j) := by
  simp [Statement, mayChange]

theorem seamJoin : Statement .seamJoin := by
  simp [Statement, mayChange]

theorem seamTicksMissed : Statement .seamTicksMissed := by
  simp [Statement, mayChange]

theorem seamDetachWrite : Statement .seamDetachWrite := by
  simp [Statement, mayChange]

theorem seamReleaseWrite (rel : Bool) (s : BitVec 5) : Statement (.seamReleaseWrite rel s) := by
  simp [Statement, mayChange]

theorem lookupToken (down : Bool) (flits : List Flit) : Statement (.lookupToken down flits) := by
  simp [Statement, mayChange]

theorem learnToken (flits : List Flit) : Statement (.learnToken flits) := by
  simp [Statement, mayChange]

theorem tallyToken (flits : List Flit) : Statement (.tallyToken flits) := by
  simp [Statement, mayChange]

theorem cascadeMerge (tok : BitVec 12) : Statement (.cascadeMerge tok) := by
  simp [Statement, mayChange]

theorem notice (n : Notice) : Statement (.notice n) := by
  simp [Statement, mayChange]

theorem cscPropose (live : BitVec 16) (k : BitVec 48) : Statement (.cscPropose live k) := by
  simp [Statement, mayChange]

theorem ack (m : Fin 16) : Statement (.ack m) := by
  simp [Statement, mayChange]

theorem commit : Statement .commit := by
  simp [Statement, mayChange]

theorem joinReq (j : JoinInfo) : Statement (.joinReq j) := by
  simp [Statement, mayChange]

theorem cscBye (m : Fin 16) : Statement (.cscBye m) := by
  simp [Statement, mayChange]

theorem cscLeave : Statement .cscLeave := by
  simp [Statement, mayChange]

theorem cscJoin : Statement .cscJoin := by
  simp [Statement, mayChange]

theorem cscTicksMissed (l : Link) : Statement (.cscTicksMissed l) := by
  simp [Statement, mayChange]

theorem membershipApply : Statement .membershipApply := by
  simp [Statement, mayChange]

theorem cscSliceWrite (t : Fin 64) (lo hi : BitVec 24) : Statement (.cscSliceWrite t lo hi) := by
  simp [Statement, mayChange]

theorem idleTimerExpiry : Statement .idleTimerExpiry := by
  simp [Statement, mayChange]

theorem dormancyGating (cal : List CabCal) : Statement (.dormancyGating cal) := by
  simp [Statement, mayChange]

theorem wakeDetect (w : WakeSeen) (dormantS : Nat) (cal : List CabCal) : Statement (.wakeDetect w dormantS cal) := by
  simp [Statement, mayChange]

theorem ptRead : Statement .ptRead := by
  simp [Statement, mayChange]

theorem ptWrite : Statement .ptWrite := by
  simp [Statement, mayChange]

theorem ptStatus : Statement .ptStatus := by
  simp [Statement, mayChange]

theorem ptInvalid : Statement .ptInvalid := by
  simp [Statement, mayChange]

theorem carePass (marginDiff : List Nat) : Statement (.carePass marginDiff) := by
  simp [Statement, mayChange]

theorem logWrite : Statement .logWrite := by
  simp [Statement, mayChange]

theorem spiWriteTimeout : Statement .spiWriteTimeout := by
  simp [Statement, mayChange]

theorem flr (f : Fin 16) : Statement (.flr f) := by
  simp [Statement, mayChange]

theorem perstL (low : Bool) : Statement (.perstL low) := by
  simp [Statement, mayChange]

theorem pcieLinkChange (l : Option (BitVec 3 × BitVec 3)) : Statement (.pcieLinkChange l) := by
  simp [Statement, mayChange]

theorem aerError (f : Fin 16) (unc : Bool) (bit : BitVec 5) : Statement (.aerError f unc bit) := by
  simp [Statement, mayChange]

theorem cmdTailWrite (f : Fin 16) (v : BitVec 64) (slots : List (List Byte)) : Statement (.cmdTailWrite f v slots) := by
  simp [Statement, mayChange]

theorem queEnWrite (f : Fin 16) (cpl : Bool) (en : Bool) : Statement (.queEnWrite f cpl en) := by
  simp [Statement, mayChange]

theorem commandDispatch : Statement .commandDispatch := by
  simp [Statement, mayChange]

theorem nop : Statement .nop := by
  simp [Statement, mayChange]

theorem capPop (f : Fin 16) (q : Fin 8) (size : Nat) : Statement (.capPop f q size) := by
  simp [Statement, mayChange]

theorem evqPop (f : Fin 16) (size : Nat) : Statement (.evqPop f size) := by
  simp [Statement, mayChange]

theorem capqIdleExpiry (q : Fin 8) : Statement (.capqIdleExpiry q) := by
  simp [Statement, mayChange]

theorem evqIdleExpiry : Statement .evqIdleExpiry := by
  simp [Statement, mayChange]

theorem idleUsWrite (q : Option (Fin 8)) (v : BitVec 16) : Statement (.idleUsWrite q v) := by
  simp [Statement, mayChange]

theorem holdoffExpiry (v : Fin 64) : Statement (.holdoffExpiry v) := by
  simp [Statement, mayChange]

theorem evtPendClear (n : BitVec 10) : Statement (.evtPendClear n) := by
  simp [Statement, mayChange]

theorem registerWrite (f : Fin 16) (a : BusAddr) (size : Nat) (v : BitVec 64) : Statement (.registerWrite f a size v) := by
  simp [Statement, mayChange]

theorem extest : Statement .extest := by
  simp [Statement, mayChange]

theorem idcode : Statement .idcode := by
  simp [Statement, mayChange]

theorem samplePreload : Statement .samplePreload := by
  simp [Statement, mayChange]

theorem highz : Statement .highz := by
  simp [Statement, mayChange]

theorem clamp : Statement .clamp := by
  simp [Statement, mayChange]

theorem extestPulse : Statement .extestPulse := by
  simp [Statement, mayChange]

theorem extestTrain : Statement .extestTrain := by
  simp [Statement, mayChange]

theorem fuseRead : Statement .fuseRead := by
  simp [Statement, mayChange]

theorem fuseProg (v : BitVec 64) : Statement (.fuseProg v) := by
  simp [Statement, mayChange]

theorem bypass (code : BitVec 8) : Statement (.bypass code) := by
  simp [Statement, mayChange]

theorem linkTrainingTimeout : Statement .linkTrainingTimeout := by
  simp [Statement, mayChange]

theorem unwatchedRailInRange (cal : List CabCal) : Statement (.unwatchedRailInRange cal) := by
  simp [Statement, mayChange]

theorem pageProgramDone : Statement .pageProgramDone := by
  simp [Statement, mayChange]

theorem alignTransmit (l : Link) (lane : Nat) : Statement (.alignTransmit l lane) := by
  simp [Statement, mayChange]

theorem wearBalanceEarn : Statement .wearBalanceEarn := by
  simp [Statement, mayChange]

theorem reservedSeamMessage (f : Flit) : Statement (.reservedSeamMessage f) := by
  simp [Statement, mayChange]

theorem tapReset : Statement .tapReset := by
  simp [Statement, mayChange]

end Sys2Proof.Laws.Operands
end

