-- ==== Sys2Proof/Laws/State.lean ====
section
/-! SUPPORT. What each named update of the state leaves alone (one rewriting lemma for each field it does not write,
stated together for one update), and what is read back from the part it writes. -/

namespace Sys2Proof.Machine

set_option Elab.async false

variable (s : State)

@[simp] theorem State.put_frame (F : Field) (v i j : Nat) :
    (s.put F v i j).pending = s.pending ∧ (s.put F v i j).clock = s.clock ∧ (s.put F v i j).freeCtr = s.freeCtr ∧
    (s.put F v i j).out = s.out ∧ (s.put F v i j).mode = s.mode ∧ (s.put F v i j).pins = s.pins ∧
    (s.put F v i j).fuses = s.fuses ∧ (s.put F v i j).tap = s.tap ∧ (s.put F v i j).boot = s.boot ∧
    (s.put F v i j).ledgerA = s.ledgerA ∧ (s.put F v i j).ledgerB = s.ledgerB ∧ (s.put F v i j).dorm = s.dorm ∧
    (s.put F v i j).tick = s.tick ∧ (s.put F v i j).ports = s.ports ∧ (s.put F v i j).planned = s.planned ∧
    (s.put F v i j).chans = s.chans ∧ (s.put F v i j).sites = s.sites ∧ (s.put F v i j).rpt = s.rpt ∧
    (s.put F v i j).rptPend = s.rptPend ∧ (s.put F v i j).shadow = s.shadow ∧ (s.put F v i j).tables = s.tables ∧
    (s.put F v i j).rows = s.rows ∧ (s.put F v i j).cells = s.cells ∧ (s.put F v i j).faults = s.faults ∧
    (s.put F v i j).journal = s.journal ∧ (s.put F v i j).groups = s.groups ∧
    (s.put F v i j).tallies = s.tallies ∧ (s.put F v i j).learnLog = s.learnLog ∧ (s.put F v i j).lost = s.lost ∧
    (s.put F v i j).lossList = s.lossList ∧ (s.put F v i j).bays = s.bays ∧ (s.put F v i j).broad = s.broad ∧
    (s.put F v i j).baysBefore = s.baysBefore ∧ (s.put F v i j).broadBefore = s.broadBefore ∧
    (s.put F v i j).drawers = s.drawers ∧ (s.put F v i j).cabs = s.cabs ∧ (s.put F v i j).acts = s.acts ∧
    (s.put F v i j).cur = s.cur ∧ (s.put F v i j).wrd = s.wrd ∧ (s.put F v i j).mnt = s.mnt ∧
    (s.put F v i j).host = s.host ∧ (s.put F v i j).seam = s.seam ∧ (s.put F v i j).csc = s.csc ∧
    (s.put F v i j).cfg = s.cfg ∧ (∀ x, (s.put F v i j).port x = s.port x) ∧
    (∀ x, (s.put F v i j).chan x = s.chan x) ∧ (∀ x, (s.put F v i j).site x = s.site x) ∧
    (∀ x, (s.put F v i j).table x = s.table x) ∧ (∀ x y, (s.put F v i j).drawer x y = s.drawer x y) ∧
    (∀ x, (s.put F v i j).cab x = s.cab x) ∧ (∀ x, (s.put F v i j).pin x = s.pin x) ∧
    (∀ x, (s.put F v i j).req x = s.req x) :=
  by repeat (first | exact rfl | exact fun _ => rfl | exact fun _ _ => rfl | exact fun _ _ _ => rfl |
    refine ⟨rfl, ?_⟩ | refine ⟨fun _ => rfl, ?_⟩ | refine ⟨fun _ _ => rfl, ?_⟩ | refine ⟨fun _ _ _ => rfl, ?_⟩)

@[simp] theorem State.putB_frame (F : Field) (b : Bool) (i j : Nat) :
    (s.putB F b i j).pending = s.pending ∧ (s.putB F b i j).clock = s.clock ∧ (s.putB F b i j).freeCtr = s.freeCtr ∧
    (s.putB F b i j).out = s.out ∧ (s.putB F b i j).mode = s.mode ∧ (s.putB F b i j).pins = s.pins ∧
    (s.putB F b i j).fuses = s.fuses ∧ (s.putB F b i j).tap = s.tap ∧ (s.putB F b i j).boot = s.boot ∧
    (s.putB F b i j).ledgerA = s.ledgerA ∧ (s.putB F b i j).ledgerB = s.ledgerB ∧ (s.putB F b i j).dorm = s.dorm ∧
    (s.putB F b i j).tick = s.tick ∧ (s.putB F b i j).ports = s.ports ∧ (s.putB F b i j).planned = s.planned ∧
    (s.putB F b i j).chans = s.chans ∧ (s.putB F b i j).sites = s.sites ∧ (s.putB F b i j).rpt = s.rpt ∧
    (s.putB F b i j).rptPend = s.rptPend ∧ (s.putB F b i j).shadow = s.shadow ∧ (s.putB F b i j).tables = s.tables ∧
    (s.putB F b i j).rows = s.rows ∧ (s.putB F b i j).cells = s.cells ∧ (s.putB F b i j).faults = s.faults ∧
    (s.putB F b i j).journal = s.journal ∧ (s.putB F b i j).groups = s.groups ∧
    (s.putB F b i j).tallies = s.tallies ∧ (s.putB F b i j).learnLog = s.learnLog ∧ (s.putB F b i j).lost = s.lost ∧
    (s.putB F b i j).lossList = s.lossList ∧ (s.putB F b i j).bays = s.bays ∧ (s.putB F b i j).broad = s.broad ∧
    (s.putB F b i j).baysBefore = s.baysBefore ∧ (s.putB F b i j).broadBefore = s.broadBefore ∧
    (s.putB F b i j).drawers = s.drawers ∧ (s.putB F b i j).cabs = s.cabs ∧ (s.putB F b i j).acts = s.acts ∧
    (s.putB F b i j).cur = s.cur ∧ (s.putB F b i j).wrd = s.wrd ∧ (s.putB F b i j).mnt = s.mnt ∧
    (s.putB F b i j).host = s.host ∧ (s.putB F b i j).seam = s.seam ∧ (s.putB F b i j).csc = s.csc ∧
    (s.putB F b i j).cfg = s.cfg ∧ (∀ x, (s.putB F b i j).port x = s.port x) ∧
    (∀ x, (s.putB F b i j).chan x = s.chan x) ∧ (∀ x, (s.putB F b i j).site x = s.site x) ∧
    (∀ x, (s.putB F b i j).table x = s.table x) ∧ (∀ x y, (s.putB F b i j).drawer x y = s.drawer x y) ∧
    (∀ x, (s.putB F b i j).cab x = s.cab x) ∧ (∀ x, (s.putB F b i j).pin x = s.pin x) ∧
    (∀ x, (s.putB F b i j).req x = s.req x) :=
  by repeat (first | exact rfl | exact fun _ => rfl | exact fun _ _ => rfl | exact fun _ _ _ => rfl |
    refine ⟨rfl, ?_⟩ | refine ⟨fun _ => rfl, ?_⟩ | refine ⟨fun _ _ => rfl, ?_⟩ | refine ⟨fun _ _ _ => rfl, ?_⟩)

@[simp] theorem State.bump_frame (F : Field) (n i j : Nat) :
    (s.bump F n i j).pending = s.pending ∧ (s.bump F n i j).clock = s.clock ∧ (s.bump F n i j).freeCtr = s.freeCtr ∧
    (s.bump F n i j).out = s.out ∧ (s.bump F n i j).mode = s.mode ∧ (s.bump F n i j).pins = s.pins ∧
    (s.bump F n i j).fuses = s.fuses ∧ (s.bump F n i j).tap = s.tap ∧ (s.bump F n i j).boot = s.boot ∧
    (s.bump F n i j).ledgerA = s.ledgerA ∧ (s.bump F n i j).ledgerB = s.ledgerB ∧ (s.bump F n i j).dorm = s.dorm ∧
    (s.bump F n i j).tick = s.tick ∧ (s.bump F n i j).ports = s.ports ∧ (s.bump F n i j).planned = s.planned ∧
    (s.bump F n i j).chans = s.chans ∧ (s.bump F n i j).sites = s.sites ∧ (s.bump F n i j).rpt = s.rpt ∧
    (s.bump F n i j).rptPend = s.rptPend ∧ (s.bump F n i j).shadow = s.shadow ∧ (s.bump F n i j).tables = s.tables ∧
    (s.bump F n i j).rows = s.rows ∧ (s.bump F n i j).cells = s.cells ∧ (s.bump F n i j).faults = s.faults ∧
    (s.bump F n i j).journal = s.journal ∧ (s.bump F n i j).groups = s.groups ∧
    (s.bump F n i j).tallies = s.tallies ∧ (s.bump F n i j).learnLog = s.learnLog ∧ (s.bump F n i j).lost = s.lost ∧
    (s.bump F n i j).lossList = s.lossList ∧ (s.bump F n i j).bays = s.bays ∧ (s.bump F n i j).broad = s.broad ∧
    (s.bump F n i j).baysBefore = s.baysBefore ∧ (s.bump F n i j).broadBefore = s.broadBefore ∧
    (s.bump F n i j).drawers = s.drawers ∧ (s.bump F n i j).cabs = s.cabs ∧ (s.bump F n i j).acts = s.acts ∧
    (s.bump F n i j).cur = s.cur ∧ (s.bump F n i j).wrd = s.wrd ∧ (s.bump F n i j).mnt = s.mnt ∧
    (s.bump F n i j).host = s.host ∧ (s.bump F n i j).seam = s.seam ∧ (s.bump F n i j).csc = s.csc ∧
    (s.bump F n i j).cfg = s.cfg ∧ (∀ x, (s.bump F n i j).port x = s.port x) ∧
    (∀ x, (s.bump F n i j).chan x = s.chan x) ∧ (∀ x, (s.bump F n i j).site x = s.site x) ∧
    (∀ x, (s.bump F n i j).table x = s.table x) ∧ (∀ x y, (s.bump F n i j).drawer x y = s.drawer x y) ∧
    (∀ x, (s.bump F n i j).cab x = s.cab x) ∧ (∀ x, (s.bump F n i j).pin x = s.pin x) ∧
    (∀ x, (s.bump F n i j).req x = s.req x) :=
  by repeat (first | exact rfl | exact fun _ => rfl | exact fun _ _ => rfl | exact fun _ _ _ => rfl |
    refine ⟨rfl, ?_⟩ | refine ⟨fun _ => rfl, ?_⟩ | refine ⟨fun _ _ => rfl, ?_⟩ | refine ⟨fun _ _ _ => rfl, ?_⟩)

@[simp] theorem State.drawn_frame :
    (s.drawn).pending = s.pending ∧ (s.drawn).clock = s.clock ∧ (s.drawn).out = s.out ∧ (s.drawn).mode = s.mode ∧
    (s.drawn).pins = s.pins ∧ (s.drawn).fuses = s.fuses ∧ (s.drawn).tap = s.tap ∧ (s.drawn).regs = s.regs ∧
    (s.drawn).boot = s.boot ∧ (s.drawn).ledgerA = s.ledgerA ∧ (s.drawn).ledgerB = s.ledgerB ∧
    (s.drawn).dorm = s.dorm ∧ (s.drawn).tick = s.tick ∧ (s.drawn).ports = s.ports ∧ (s.drawn).planned = s.planned ∧
    (s.drawn).chans = s.chans ∧ (s.drawn).sites = s.sites ∧ (s.drawn).rpt = s.rpt ∧ (s.drawn).rptPend = s.rptPend ∧
    (s.drawn).shadow = s.shadow ∧ (s.drawn).tables = s.tables ∧ (s.drawn).rows = s.rows ∧ (s.drawn).cells = s.cells ∧ (s.drawn).faults = s.faults ∧

    (s.drawn).journal = s.journal ∧ (s.drawn).groups = s.groups ∧ (s.drawn).tallies = s.tallies ∧
    (s.drawn).learnLog = s.learnLog ∧ (s.drawn).lost = s.lost ∧ (s.drawn).lossList = s.lossList ∧
    (s.drawn).bays = s.bays ∧ (s.drawn).broad = s.broad ∧ (s.drawn).baysBefore = s.baysBefore ∧
    (s.drawn).broadBefore = s.broadBefore ∧ (s.drawn).drawers = s.drawers ∧ (s.drawn).cabs = s.cabs ∧
    (s.drawn).acts = s.acts ∧ (s.drawn).cur = s.cur ∧ (s.drawn).wrd = s.wrd ∧ (s.drawn).mnt = s.mnt ∧
    (s.drawn).host = s.host ∧ (s.drawn).seam = s.seam ∧ (s.drawn).csc = s.csc ∧ (s.drawn).cfg = s.cfg ∧
    (∀ G x y, (s.drawn).get G x y = s.get G x y) ∧ (∀ G x y, (s.drawn).flag G x y = s.flag G x y) ∧
    (∀ x, (s.drawn).port x = s.port x) ∧ (∀ x, (s.drawn).chan x = s.chan x) ∧ (∀ x, (s.drawn).site x = s.site x) ∧
    (∀ x, (s.drawn).table x = s.table x) ∧ (∀ x y, (s.drawn).drawer x y = s.drawer x y) ∧
    (∀ x, (s.drawn).cab x = s.cab x) ∧ (∀ x, (s.drawn).pin x = s.pin x) ∧ (∀ x, (s.drawn).req x = s.req x) :=
  by repeat (first | exact rfl | exact fun _ => rfl | exact fun _ _ => rfl | exact fun _ _ _ => rfl |
    refine ⟨rfl, ?_⟩ | refine ⟨fun _ => rfl, ?_⟩ | refine ⟨fun _ _ => rfl, ?_⟩ | refine ⟨fun _ _ _ => rfl, ?_⟩)

@[simp] theorem State.emit_frame (o : Output) :
    (s.emit o).pending = s.pending ∧ (s.emit o).clock = s.clock ∧ (s.emit o).freeCtr = s.freeCtr ∧
    (s.emit o).mode = s.mode ∧ (s.emit o).pins = s.pins ∧ (s.emit o).fuses = s.fuses ∧ (s.emit o).tap = s.tap ∧
    (s.emit o).regs = s.regs ∧ (s.emit o).boot = s.boot ∧ (s.emit o).ledgerA = s.ledgerA ∧
    (s.emit o).ledgerB = s.ledgerB ∧ (s.emit o).dorm = s.dorm ∧ (s.emit o).tick = s.tick ∧
    (s.emit o).ports = s.ports ∧ (s.emit o).planned = s.planned ∧ (s.emit o).chans = s.chans ∧
    (s.emit o).sites = s.sites ∧ (s.emit o).rpt = s.rpt ∧ (s.emit o).rptPend = s.rptPend ∧
    (s.emit o).shadow = s.shadow ∧ (s.emit o).tables = s.tables ∧ (s.emit o).rows = s.rows ∧ (s.emit o).cells = s.cells ∧ (s.emit o).faults = s.faults ∧

    (s.emit o).journal = s.journal ∧ (s.emit o).groups = s.groups ∧ (s.emit o).tallies = s.tallies ∧
    (s.emit o).learnLog = s.learnLog ∧ (s.emit o).lost = s.lost ∧ (s.emit o).lossList = s.lossList ∧
    (s.emit o).bays = s.bays ∧ (s.emit o).broad = s.broad ∧ (s.emit o).baysBefore = s.baysBefore ∧
    (s.emit o).broadBefore = s.broadBefore ∧ (s.emit o).drawers = s.drawers ∧ (s.emit o).cabs = s.cabs ∧
    (s.emit o).acts = s.acts ∧ (s.emit o).cur = s.cur ∧ (s.emit o).wrd = s.wrd ∧ (s.emit o).mnt = s.mnt ∧
    (s.emit o).host = s.host ∧ (s.emit o).seam = s.seam ∧ (s.emit o).csc = s.csc ∧ (s.emit o).cfg = s.cfg ∧
    (∀ G x y, (s.emit o).get G x y = s.get G x y) ∧ (∀ G x y, (s.emit o).flag G x y = s.flag G x y) ∧
    (∀ x, (s.emit o).port x = s.port x) ∧ (∀ x, (s.emit o).chan x = s.chan x) ∧
    (∀ x, (s.emit o).site x = s.site x) ∧ (∀ x, (s.emit o).table x = s.table x) ∧
    (∀ x y, (s.emit o).drawer x y = s.drawer x y) ∧ (∀ x, (s.emit o).cab x = s.cab x) ∧
    (∀ x, (s.emit o).pin x = s.pin x) ∧ (∀ x, (s.emit o).req x = s.req x) :=
  by repeat (first | exact rfl | exact fun _ => rfl | exact fun _ _ => rfl | exact fun _ _ _ => rfl |
    refine ⟨rfl, ?_⟩ | refine ⟨fun _ => rfl, ?_⟩ | refine ⟨fun _ _ => rfl, ?_⟩ | refine ⟨fun _ _ _ => rfl, ?_⟩)

@[simp] theorem State.emitAll_frame (l : List Output) :
    (s.emitAll l).pending = s.pending ∧ (s.emitAll l).clock = s.clock ∧ (s.emitAll l).freeCtr = s.freeCtr ∧
    (s.emitAll l).mode = s.mode ∧ (s.emitAll l).pins = s.pins ∧ (s.emitAll l).fuses = s.fuses ∧
    (s.emitAll l).tap = s.tap ∧ (s.emitAll l).regs = s.regs ∧ (s.emitAll l).boot = s.boot ∧
    (s.emitAll l).ledgerA = s.ledgerA ∧ (s.emitAll l).ledgerB = s.ledgerB ∧ (s.emitAll l).dorm = s.dorm ∧
    (s.emitAll l).tick = s.tick ∧ (s.emitAll l).ports = s.ports ∧ (s.emitAll l).planned = s.planned ∧
    (s.emitAll l).chans = s.chans ∧ (s.emitAll l).sites = s.sites ∧ (s.emitAll l).rpt = s.rpt ∧
    (s.emitAll l).rptPend = s.rptPend ∧ (s.emitAll l).shadow = s.shadow ∧ (s.emitAll l).tables = s.tables ∧
    (s.emitAll l).rows = s.rows ∧ (s.emitAll l).cells = s.cells ∧ (s.emitAll l).faults = s.faults ∧
    (s.emitAll l).journal = s.journal ∧ (s.emitAll l).groups = s.groups ∧
    (s.emitAll l).tallies = s.tallies ∧ (s.emitAll l).learnLog = s.learnLog ∧ (s.emitAll l).lost = s.lost ∧
    (s.emitAll l).lossList = s.lossList ∧ (s.emitAll l).bays = s.bays ∧ (s.emitAll l).broad = s.broad ∧
    (s.emitAll l).baysBefore = s.baysBefore ∧ (s.emitAll l).broadBefore = s.broadBefore ∧
    (s.emitAll l).drawers = s.drawers ∧ (s.emitAll l).cabs = s.cabs ∧ (s.emitAll l).acts = s.acts ∧
    (s.emitAll l).cur = s.cur ∧ (s.emitAll l).wrd = s.wrd ∧ (s.emitAll l).mnt = s.mnt ∧
    (s.emitAll l).host = s.host ∧ (s.emitAll l).seam = s.seam ∧ (s.emitAll l).csc = s.csc ∧
    (s.emitAll l).cfg = s.cfg ∧ (∀ G x y, (s.emitAll l).get G x y = s.get G x y) ∧
    (∀ G x y, (s.emitAll l).flag G x y = s.flag G x y) ∧ (∀ x, (s.emitAll l).port x = s.port x) ∧
    (∀ x, (s.emitAll l).chan x = s.chan x) ∧ (∀ x, (s.emitAll l).site x = s.site x) ∧
    (∀ x, (s.emitAll l).table x = s.table x) ∧ (∀ x y, (s.emitAll l).drawer x y = s.drawer x y) ∧
    (∀ x, (s.emitAll l).cab x = s.cab x) ∧ (∀ x, (s.emitAll l).pin x = s.pin x) ∧
    (∀ x, (s.emitAll l).req x = s.req x) :=
  by repeat (first | exact rfl | exact fun _ => rfl | exact fun _ _ => rfl | exact fun _ _ _ => rfl |
    refine ⟨rfl, ?_⟩ | refine ⟨fun _ => rfl, ?_⟩ | refine ⟨fun _ _ => rfl, ?_⟩ | refine ⟨fun _ _ _ => rfl, ?_⟩)

@[simp] theorem State.setPort_frame (p : Nat) (v : PortSt) :
    (s.setPort p v).pending = s.pending ∧ (s.setPort p v).clock = s.clock ∧ (s.setPort p v).freeCtr = s.freeCtr ∧
    (s.setPort p v).out = s.out ∧ (s.setPort p v).mode = s.mode ∧ (s.setPort p v).pins = s.pins ∧
    (s.setPort p v).fuses = s.fuses ∧ (s.setPort p v).tap = s.tap ∧ (s.setPort p v).regs = s.regs ∧
    (s.setPort p v).boot = s.boot ∧ (s.setPort p v).ledgerA = s.ledgerA ∧ (s.setPort p v).ledgerB = s.ledgerB ∧
    (s.setPort p v).dorm = s.dorm ∧ (s.setPort p v).tick = s.tick ∧ (s.setPort p v).planned = s.planned ∧
    (s.setPort p v).chans = s.chans ∧ (s.setPort p v).sites = s.sites ∧ (s.setPort p v).rpt = s.rpt ∧
    (s.setPort p v).rptPend = s.rptPend ∧ (s.setPort p v).shadow = s.shadow ∧ (s.setPort p v).tables = s.tables ∧
    (s.setPort p v).rows = s.rows ∧ (s.setPort p v).cells = s.cells ∧ (s.setPort p v).faults = s.faults ∧
    (s.setPort p v).journal = s.journal ∧ (s.setPort p v).groups = s.groups ∧
    (s.setPort p v).tallies = s.tallies ∧ (s.setPort p v).learnLog = s.learnLog ∧ (s.setPort p v).lost = s.lost ∧
    (s.setPort p v).lossList = s.lossList ∧ (s.setPort p v).bays = s.bays ∧ (s.setPort p v).broad = s.broad ∧
    (s.setPort p v).baysBefore = s.baysBefore ∧ (s.setPort p v).broadBefore = s.broadBefore ∧
    (s.setPort p v).drawers = s.drawers ∧ (s.setPort p v).cabs = s.cabs ∧ (s.setPort p v).acts = s.acts ∧
    (s.setPort p v).cur = s.cur ∧ (s.setPort p v).wrd = s.wrd ∧ (s.setPort p v).mnt = s.mnt ∧
    (s.setPort p v).host = s.host ∧ (s.setPort p v).seam = s.seam ∧ (s.setPort p v).csc = s.csc ∧
    (s.setPort p v).cfg = s.cfg ∧ (∀ G x y, (s.setPort p v).get G x y = s.get G x y) ∧
    (∀ G x y, (s.setPort p v).flag G x y = s.flag G x y) ∧ (∀ x, (s.setPort p v).chan x = s.chan x) ∧
    (∀ x, (s.setPort p v).site x = s.site x) ∧ (∀ x, (s.setPort p v).table x = s.table x) ∧
    (∀ x y, (s.setPort p v).drawer x y = s.drawer x y) ∧ (∀ x, (s.setPort p v).cab x = s.cab x) ∧
    (∀ x, (s.setPort p v).pin x = s.pin x) ∧ (∀ x, (s.setPort p v).req x = s.req x) :=
  by repeat (first | exact rfl | exact fun _ => rfl | exact fun _ _ => rfl | exact fun _ _ _ => rfl |
    refine ⟨rfl, ?_⟩ | refine ⟨fun _ => rfl, ?_⟩ | refine ⟨fun _ _ => rfl, ?_⟩ | refine ⟨fun _ _ _ => rfl, ?_⟩)

@[simp] theorem State.setChan_frame (c : Nat) (v : Chan) :
    (s.setChan c v).pending = s.pending ∧ (s.setChan c v).clock = s.clock ∧ (s.setChan c v).freeCtr = s.freeCtr ∧
    (s.setChan c v).out = s.out ∧ (s.setChan c v).mode = s.mode ∧ (s.setChan c v).pins = s.pins ∧
    (s.setChan c v).fuses = s.fuses ∧ (s.setChan c v).tap = s.tap ∧ (s.setChan c v).regs = s.regs ∧
    (s.setChan c v).boot = s.boot ∧ (s.setChan c v).ledgerA = s.ledgerA ∧ (s.setChan c v).ledgerB = s.ledgerB ∧
    (s.setChan c v).dorm = s.dorm ∧ (s.setChan c v).tick = s.tick ∧ (s.setChan c v).ports = s.ports ∧
    (s.setChan c v).planned = s.planned ∧ (s.setChan c v).sites = s.sites ∧ (s.setChan c v).rpt = s.rpt ∧
    (s.setChan c v).rptPend = s.rptPend ∧ (s.setChan c v).shadow = s.shadow ∧ (s.setChan c v).tables = s.tables ∧
    (s.setChan c v).rows = s.rows ∧ (s.setChan c v).cells = s.cells ∧ (s.setChan c v).faults = s.faults ∧
    (s.setChan c v).journal = s.journal ∧ (s.setChan c v).groups = s.groups ∧
    (s.setChan c v).tallies = s.tallies ∧ (s.setChan c v).learnLog = s.learnLog ∧ (s.setChan c v).lost = s.lost ∧
    (s.setChan c v).lossList = s.lossList ∧ (s.setChan c v).bays = s.bays ∧ (s.setChan c v).broad = s.broad ∧
    (s.setChan c v).baysBefore = s.baysBefore ∧ (s.setChan c v).broadBefore = s.broadBefore ∧
    (s.setChan c v).drawers = s.drawers ∧ (s.setChan c v).cabs = s.cabs ∧ (s.setChan c v).acts = s.acts ∧
    (s.setChan c v).cur = s.cur ∧ (s.setChan c v).wrd = s.wrd ∧ (s.setChan c v).mnt = s.mnt ∧
    (s.setChan c v).host = s.host ∧ (s.setChan c v).seam = s.seam ∧ (s.setChan c v).csc = s.csc ∧
    (s.setChan c v).cfg = s.cfg ∧ (∀ G x y, (s.setChan c v).get G x y = s.get G x y) ∧
    (∀ G x y, (s.setChan c v).flag G x y = s.flag G x y) ∧ (∀ x, (s.setChan c v).port x = s.port x) ∧
    (∀ x, (s.setChan c v).site x = s.site x) ∧ (∀ x, (s.setChan c v).table x = s.table x) ∧
    (∀ x y, (s.setChan c v).drawer x y = s.drawer x y) ∧ (∀ x, (s.setChan c v).cab x = s.cab x) ∧
    (∀ x, (s.setChan c v).pin x = s.pin x) ∧ (∀ x, (s.setChan c v).req x = s.req x) :=
  by repeat (first | exact rfl | exact fun _ => rfl | exact fun _ _ => rfl | exact fun _ _ _ => rfl |
    refine ⟨rfl, ?_⟩ | refine ⟨fun _ => rfl, ?_⟩ | refine ⟨fun _ _ => rfl, ?_⟩ | refine ⟨fun _ _ _ => rfl, ?_⟩)

@[simp] theorem State.setSite_frame (n : Nat) (v : Site) :
    (s.setSite n v).pending = s.pending ∧ (s.setSite n v).clock = s.clock ∧ (s.setSite n v).freeCtr = s.freeCtr ∧
    (s.setSite n v).out = s.out ∧ (s.setSite n v).mode = s.mode ∧ (s.setSite n v).pins = s.pins ∧
    (s.setSite n v).fuses = s.fuses ∧ (s.setSite n v).tap = s.tap ∧ (s.setSite n v).regs = s.regs ∧
    (s.setSite n v).boot = s.boot ∧ (s.setSite n v).ledgerA = s.ledgerA ∧ (s.setSite n v).ledgerB = s.ledgerB ∧
    (s.setSite n v).dorm = s.dorm ∧ (s.setSite n v).tick = s.tick ∧ (s.setSite n v).ports = s.ports ∧
    (s.setSite n v).planned = s.planned ∧ (s.setSite n v).chans = s.chans ∧ (s.setSite n v).rpt = s.rpt ∧
    (s.setSite n v).rptPend = s.rptPend ∧ (s.setSite n v).shadow = s.shadow ∧ (s.setSite n v).tables = s.tables ∧
    (s.setSite n v).rows = s.rows ∧ (s.setSite n v).cells = s.cells ∧ (s.setSite n v).faults = s.faults ∧
    (s.setSite n v).journal = s.journal ∧ (s.setSite n v).groups = s.groups ∧
    (s.setSite n v).tallies = s.tallies ∧ (s.setSite n v).learnLog = s.learnLog ∧ (s.setSite n v).lost = s.lost ∧
    (s.setSite n v).lossList = s.lossList ∧ (s.setSite n v).bays = s.bays ∧ (s.setSite n v).broad = s.broad ∧
    (s.setSite n v).baysBefore = s.baysBefore ∧ (s.setSite n v).broadBefore = s.broadBefore ∧
    (s.setSite n v).drawers = s.drawers ∧ (s.setSite n v).cabs = s.cabs ∧ (s.setSite n v).acts = s.acts ∧
    (s.setSite n v).cur = s.cur ∧ (s.setSite n v).wrd = s.wrd ∧ (s.setSite n v).mnt = s.mnt ∧
    (s.setSite n v).host = s.host ∧ (s.setSite n v).seam = s.seam ∧ (s.setSite n v).csc = s.csc ∧
    (s.setSite n v).cfg = s.cfg ∧ (∀ G x y, (s.setSite n v).get G x y = s.get G x y) ∧
    (∀ G x y, (s.setSite n v).flag G x y = s.flag G x y) ∧ (∀ x, (s.setSite n v).port x = s.port x) ∧
    (∀ x, (s.setSite n v).chan x = s.chan x) ∧ (∀ x, (s.setSite n v).table x = s.table x) ∧
    (∀ x y, (s.setSite n v).drawer x y = s.drawer x y) ∧ (∀ x, (s.setSite n v).cab x = s.cab x) ∧
    (∀ x, (s.setSite n v).pin x = s.pin x) ∧ (∀ x, (s.setSite n v).req x = s.req x) :=
  by repeat (first | exact rfl | exact fun _ => rfl | exact fun _ _ => rfl | exact fun _ _ _ => rfl |
    refine ⟨rfl, ?_⟩ | refine ⟨fun _ => rfl, ?_⟩ | refine ⟨fun _ _ => rfl, ?_⟩ | refine ⟨fun _ _ _ => rfl, ?_⟩)

@[simp] theorem State.setTable_frame (t : Nat) (v : Table) :
    (s.setTable t v).pending = s.pending ∧ (s.setTable t v).clock = s.clock ∧ (s.setTable t v).freeCtr = s.freeCtr ∧
    (s.setTable t v).out = s.out ∧ (s.setTable t v).mode = s.mode ∧ (s.setTable t v).pins = s.pins ∧
    (s.setTable t v).fuses = s.fuses ∧ (s.setTable t v).tap = s.tap ∧ (s.setTable t v).regs = s.regs ∧
    (s.setTable t v).boot = s.boot ∧ (s.setTable t v).ledgerA = s.ledgerA ∧ (s.setTable t v).ledgerB = s.ledgerB ∧
    (s.setTable t v).dorm = s.dorm ∧ (s.setTable t v).tick = s.tick ∧ (s.setTable t v).ports = s.ports ∧
    (s.setTable t v).planned = s.planned ∧ (s.setTable t v).chans = s.chans ∧ (s.setTable t v).sites = s.sites ∧
    (s.setTable t v).rpt = s.rpt ∧ (s.setTable t v).rptPend = s.rptPend ∧ (s.setTable t v).shadow = s.shadow ∧
    (s.setTable t v).rows = s.rows ∧ (s.setTable t v).cells = s.cells ∧ (s.setTable t v).faults = s.faults ∧
    (s.setTable t v).journal = s.journal ∧ (s.setTable t v).groups = s.groups ∧
    (s.setTable t v).tallies = s.tallies ∧ (s.setTable t v).learnLog = s.learnLog ∧ (s.setTable t v).lost = s.lost ∧
    (s.setTable t v).lossList = s.lossList ∧ (s.setTable t v).bays = s.bays ∧ (s.setTable t v).broad = s.broad ∧
    (s.setTable t v).baysBefore = s.baysBefore ∧ (s.setTable t v).broadBefore = s.broadBefore ∧
    (s.setTable t v).drawers = s.drawers ∧ (s.setTable t v).cabs = s.cabs ∧ (s.setTable t v).acts = s.acts ∧
    (s.setTable t v).cur = s.cur ∧ (s.setTable t v).wrd = s.wrd ∧ (s.setTable t v).mnt = s.mnt ∧
    (s.setTable t v).host = s.host ∧ (s.setTable t v).seam = s.seam ∧ (s.setTable t v).csc = s.csc ∧
    (s.setTable t v).cfg = s.cfg ∧ (∀ G x y, (s.setTable t v).get G x y = s.get G x y) ∧
    (∀ G x y, (s.setTable t v).flag G x y = s.flag G x y) ∧ (∀ x, (s.setTable t v).port x = s.port x) ∧
    (∀ x, (s.setTable t v).chan x = s.chan x) ∧ (∀ x, (s.setTable t v).site x = s.site x) ∧
    (∀ x y, (s.setTable t v).drawer x y = s.drawer x y) ∧ (∀ x, (s.setTable t v).cab x = s.cab x) ∧
    (∀ x, (s.setTable t v).pin x = s.pin x) ∧ (∀ x, (s.setTable t v).req x = s.req x) :=
  by repeat (first | exact rfl | exact fun _ => rfl | exact fun _ _ => rfl | exact fun _ _ _ => rfl |
    refine ⟨rfl, ?_⟩ | refine ⟨fun _ => rfl, ?_⟩ | refine ⟨fun _ _ => rfl, ?_⟩ | refine ⟨fun _ _ _ => rfl, ?_⟩)

@[simp] theorem State.dropTable_frame (t : Nat) :
    (s.dropTable t).pending = s.pending ∧ (s.dropTable t).clock = s.clock ∧ (s.dropTable t).freeCtr = s.freeCtr ∧
    (s.dropTable t).out = s.out ∧ (s.dropTable t).mode = s.mode ∧ (s.dropTable t).pins = s.pins ∧
    (s.dropTable t).fuses = s.fuses ∧ (s.dropTable t).tap = s.tap ∧ (s.dropTable t).regs = s.regs ∧
    (s.dropTable t).boot = s.boot ∧ (s.dropTable t).ledgerA = s.ledgerA ∧ (s.dropTable t).ledgerB = s.ledgerB ∧
    (s.dropTable t).dorm = s.dorm ∧ (s.dropTable t).tick = s.tick ∧ (s.dropTable t).ports = s.ports ∧
    (s.dropTable t).planned = s.planned ∧ (s.dropTable t).chans = s.chans ∧ (s.dropTable t).sites = s.sites ∧
    (s.dropTable t).rpt = s.rpt ∧ (s.dropTable t).rptPend = s.rptPend ∧ (s.dropTable t).shadow = s.shadow ∧
    (s.dropTable t).rows = s.rows ∧ (s.dropTable t).cells = s.cells ∧ (s.dropTable t).faults = s.faults ∧
    (s.dropTable t).journal = s.journal ∧ (s.dropTable t).groups = s.groups ∧
    (s.dropTable t).tallies = s.tallies ∧ (s.dropTable t).learnLog = s.learnLog ∧ (s.dropTable t).lost = s.lost ∧
    (s.dropTable t).lossList = s.lossList ∧ (s.dropTable t).bays = s.bays ∧ (s.dropTable t).broad = s.broad ∧
    (s.dropTable t).baysBefore = s.baysBefore ∧ (s.dropTable t).broadBefore = s.broadBefore ∧
    (s.dropTable t).drawers = s.drawers ∧ (s.dropTable t).cabs = s.cabs ∧ (s.dropTable t).acts = s.acts ∧
    (s.dropTable t).cur = s.cur ∧ (s.dropTable t).wrd = s.wrd ∧ (s.dropTable t).mnt = s.mnt ∧
    (s.dropTable t).host = s.host ∧ (s.dropTable t).seam = s.seam ∧ (s.dropTable t).csc = s.csc ∧
    (s.dropTable t).cfg = s.cfg ∧ (∀ G x y, (s.dropTable t).get G x y = s.get G x y) ∧
    (∀ G x y, (s.dropTable t).flag G x y = s.flag G x y) ∧ (∀ x, (s.dropTable t).port x = s.port x) ∧
    (∀ x, (s.dropTable t).chan x = s.chan x) ∧ (∀ x, (s.dropTable t).site x = s.site x) ∧
    (∀ x y, (s.dropTable t).drawer x y = s.drawer x y) ∧ (∀ x, (s.dropTable t).cab x = s.cab x) ∧
    (∀ x, (s.dropTable t).pin x = s.pin x) ∧ (∀ x, (s.dropTable t).req x = s.req x) :=
  by repeat (first | exact rfl | exact fun _ => rfl | exact fun _ _ => rfl | exact fun _ _ _ => rfl |
    refine ⟨rfl, ?_⟩ | refine ⟨fun _ => rfl, ?_⟩ | refine ⟨fun _ _ => rfl, ?_⟩ | refine ⟨fun _ _ _ => rfl, ?_⟩)

@[simp] theorem State.setDrawer_frame (g z : Nat) (v : Drawer) :
    (s.setDrawer g z v).pending = s.pending ∧ (s.setDrawer g z v).clock = s.clock ∧
    (s.setDrawer g z v).freeCtr = s.freeCtr ∧ (s.setDrawer g z v).out = s.out ∧ (s.setDrawer g z v).mode = s.mode ∧
    (s.setDrawer g z v).pins = s.pins ∧ (s.setDrawer g z v).fuses = s.fuses ∧ (s.setDrawer g z v).tap = s.tap ∧
    (s.setDrawer g z v).regs = s.regs ∧ (s.setDrawer g z v).boot = s.boot ∧
    (s.setDrawer g z v).ledgerA = s.ledgerA ∧ (s.setDrawer g z v).ledgerB = s.ledgerB ∧
    (s.setDrawer g z v).dorm = s.dorm ∧ (s.setDrawer g z v).tick = s.tick ∧ (s.setDrawer g z v).ports = s.ports ∧
    (s.setDrawer g z v).planned = s.planned ∧ (s.setDrawer g z v).chans = s.chans ∧
    (s.setDrawer g z v).sites = s.sites ∧ (s.setDrawer g z v).rpt = s.rpt ∧
    (s.setDrawer g z v).rptPend = s.rptPend ∧ (s.setDrawer g z v).shadow = s.shadow ∧
    (s.setDrawer g z v).tables = s.tables ∧ (s.setDrawer g z v).rows = s.rows ∧ (s.setDrawer g z v).cells = s.cells ∧ (s.setDrawer g z v).faults = s.faults ∧

    (s.setDrawer g z v).journal = s.journal ∧ (s.setDrawer g z v).groups = s.groups ∧
    (s.setDrawer g z v).tallies = s.tallies ∧ (s.setDrawer g z v).learnLog = s.learnLog ∧
    (s.setDrawer g z v).lost = s.lost ∧ (s.setDrawer g z v).lossList = s.lossList ∧
    (s.setDrawer g z v).bays = s.bays ∧ (s.setDrawer g z v).broad = s.broad ∧
    (s.setDrawer g z v).baysBefore = s.baysBefore ∧ (s.setDrawer g z v).broadBefore = s.broadBefore ∧
    (s.setDrawer g z v).cabs = s.cabs ∧ (s.setDrawer g z v).acts = s.acts ∧ (s.setDrawer g z v).cur = s.cur ∧
    (s.setDrawer g z v).wrd = s.wrd ∧ (s.setDrawer g z v).mnt = s.mnt ∧ (s.setDrawer g z v).host = s.host ∧
    (s.setDrawer g z v).seam = s.seam ∧ (s.setDrawer g z v).csc = s.csc ∧ (s.setDrawer g z v).cfg = s.cfg ∧
    (∀ G x y, (s.setDrawer g z v).get G x y = s.get G x y) ∧
    (∀ G x y, (s.setDrawer g z v).flag G x y = s.flag G x y) ∧ (∀ x, (s.setDrawer g z v).port x = s.port x) ∧
    (∀ x, (s.setDrawer g z v).chan x = s.chan x) ∧ (∀ x, (s.setDrawer g z v).site x = s.site x) ∧
    (∀ x, (s.setDrawer g z v).table x = s.table x) ∧ (∀ x, (s.setDrawer g z v).cab x = s.cab x) ∧
    (∀ x, (s.setDrawer g z v).pin x = s.pin x) ∧ (∀ x, (s.setDrawer g z v).req x = s.req x) :=
  by repeat (first | exact rfl | exact fun _ => rfl | exact fun _ _ => rfl | exact fun _ _ _ => rfl |
    refine ⟨rfl, ?_⟩ | refine ⟨fun _ => rfl, ?_⟩ | refine ⟨fun _ _ => rfl, ?_⟩ | refine ⟨fun _ _ _ => rfl, ?_⟩)

@[simp] theorem State.setCab_frame (n : Nat) (v : Cab) :
    (s.setCab n v).pending = s.pending ∧ (s.setCab n v).clock = s.clock ∧ (s.setCab n v).freeCtr = s.freeCtr ∧
    (s.setCab n v).out = s.out ∧ (s.setCab n v).mode = s.mode ∧ (s.setCab n v).pins = s.pins ∧
    (s.setCab n v).fuses = s.fuses ∧ (s.setCab n v).tap = s.tap ∧ (s.setCab n v).regs = s.regs ∧
    (s.setCab n v).boot = s.boot ∧ (s.setCab n v).ledgerA = s.ledgerA ∧ (s.setCab n v).ledgerB = s.ledgerB ∧
    (s.setCab n v).dorm = s.dorm ∧ (s.setCab n v).tick = s.tick ∧ (s.setCab n v).ports = s.ports ∧
    (s.setCab n v).planned = s.planned ∧ (s.setCab n v).chans = s.chans ∧ (s.setCab n v).sites = s.sites ∧
    (s.setCab n v).rpt = s.rpt ∧ (s.setCab n v).rptPend = s.rptPend ∧ (s.setCab n v).shadow = s.shadow ∧
    (s.setCab n v).tables = s.tables ∧ (s.setCab n v).rows = s.rows ∧ (s.setCab n v).cells = s.cells ∧ (s.setCab n v).faults = s.faults ∧
    (s.setCab n v).journal = s.journal ∧
    (s.setCab n v).groups = s.groups ∧ (s.setCab n v).tallies = s.tallies ∧ (s.setCab n v).learnLog = s.learnLog ∧
    (s.setCab n v).lost = s.lost ∧ (s.setCab n v).lossList = s.lossList ∧ (s.setCab n v).bays = s.bays ∧
    (s.setCab n v).broad = s.broad ∧ (s.setCab n v).baysBefore = s.baysBefore ∧
    (s.setCab n v).broadBefore = s.broadBefore ∧ (s.setCab n v).drawers = s.drawers ∧ (s.setCab n v).acts = s.acts ∧
    (s.setCab n v).cur = s.cur ∧ (s.setCab n v).wrd = s.wrd ∧ (s.setCab n v).mnt = s.mnt ∧
    (s.setCab n v).host = s.host ∧ (s.setCab n v).seam = s.seam ∧ (s.setCab n v).csc = s.csc ∧
    (s.setCab n v).cfg = s.cfg ∧ (∀ G x y, (s.setCab n v).get G x y = s.get G x y) ∧
    (∀ G x y, (s.setCab n v).flag G x y = s.flag G x y) ∧ (∀ x, (s.setCab n v).port x = s.port x) ∧
    (∀ x, (s.setCab n v).chan x = s.chan x) ∧ (∀ x, (s.setCab n v).site x = s.site x) ∧
    (∀ x, (s.setCab n v).table x = s.table x) ∧ (∀ x y, (s.setCab n v).drawer x y = s.drawer x y) ∧
    (∀ x, (s.setCab n v).pin x = s.pin x) ∧ (∀ x, (s.setCab n v).req x = s.req x) :=
  by repeat (first | exact rfl | exact fun _ => rfl | exact fun _ _ => rfl | exact fun _ _ _ => rfl |
    refine ⟨rfl, ?_⟩ | refine ⟨fun _ => rfl, ?_⟩ | refine ⟨fun _ _ => rfl, ?_⟩ | refine ⟨fun _ _ _ => rfl, ?_⟩)

@[simp] theorem State.setPin_frame (i : Nat) (v : Pin) :
    (s.setPin i v).pending = s.pending ∧ (s.setPin i v).clock = s.clock ∧ (s.setPin i v).freeCtr = s.freeCtr ∧
    (s.setPin i v).out = s.out ∧ (s.setPin i v).mode = s.mode ∧ (s.setPin i v).pins = s.pins ∧
    (s.setPin i v).fuses = s.fuses ∧ (s.setPin i v).tap = s.tap ∧ (s.setPin i v).regs = s.regs ∧
    (s.setPin i v).boot = s.boot ∧ (s.setPin i v).ledgerA = s.ledgerA ∧ (s.setPin i v).ledgerB = s.ledgerB ∧
    (s.setPin i v).dorm = s.dorm ∧ (s.setPin i v).tick = s.tick ∧ (s.setPin i v).ports = s.ports ∧
    (s.setPin i v).planned = s.planned ∧ (s.setPin i v).chans = s.chans ∧ (s.setPin i v).sites = s.sites ∧
    (s.setPin i v).rpt = s.rpt ∧ (s.setPin i v).rptPend = s.rptPend ∧ (s.setPin i v).shadow = s.shadow ∧
    (s.setPin i v).tables = s.tables ∧ (s.setPin i v).rows = s.rows ∧ (s.setPin i v).cells = s.cells ∧ (s.setPin i v).faults = s.faults ∧
    (s.setPin i v).journal = s.journal ∧
    (s.setPin i v).groups = s.groups ∧ (s.setPin i v).tallies = s.tallies ∧ (s.setPin i v).learnLog = s.learnLog ∧
    (s.setPin i v).lost = s.lost ∧ (s.setPin i v).lossList = s.lossList ∧ (s.setPin i v).bays = s.bays ∧
    (s.setPin i v).broad = s.broad ∧ (s.setPin i v).baysBefore = s.baysBefore ∧
    (s.setPin i v).broadBefore = s.broadBefore ∧ (s.setPin i v).drawers = s.drawers ∧ (s.setPin i v).cabs = s.cabs ∧
    (s.setPin i v).acts = s.acts ∧ (s.setPin i v).cur = s.cur ∧ (s.setPin i v).mnt = s.mnt ∧
    (s.setPin i v).host = s.host ∧ (s.setPin i v).seam = s.seam ∧ (s.setPin i v).csc = s.csc ∧
    (s.setPin i v).cfg = s.cfg ∧ (∀ G x y, (s.setPin i v).get G x y = s.get G x y) ∧
    (∀ G x y, (s.setPin i v).flag G x y = s.flag G x y) ∧ (∀ x, (s.setPin i v).port x = s.port x) ∧
    (∀ x, (s.setPin i v).chan x = s.chan x) ∧ (∀ x, (s.setPin i v).site x = s.site x) ∧
    (∀ x, (s.setPin i v).table x = s.table x) ∧ (∀ x y, (s.setPin i v).drawer x y = s.drawer x y) ∧
    (∀ x, (s.setPin i v).cab x = s.cab x) ∧ (∀ x, (s.setPin i v).req x = s.req x) :=
  by repeat (first | exact rfl | exact fun _ => rfl | exact fun _ _ => rfl | exact fun _ _ _ => rfl |
    refine ⟨rfl, ?_⟩ | refine ⟨fun _ => rfl, ?_⟩ | refine ⟨fun _ _ => rfl, ?_⟩ | refine ⟨fun _ _ _ => rfl, ?_⟩)

@[simp] theorem State.setReq_frame (r : Nat) (v : Req) :
    (s.setReq r v).pending = s.pending ∧ (s.setReq r v).clock = s.clock ∧ (s.setReq r v).freeCtr = s.freeCtr ∧
    (s.setReq r v).out = s.out ∧ (s.setReq r v).mode = s.mode ∧ (s.setReq r v).pins = s.pins ∧
    (s.setReq r v).fuses = s.fuses ∧ (s.setReq r v).tap = s.tap ∧ (s.setReq r v).regs = s.regs ∧
    (s.setReq r v).boot = s.boot ∧ (s.setReq r v).ledgerA = s.ledgerA ∧ (s.setReq r v).ledgerB = s.ledgerB ∧
    (s.setReq r v).dorm = s.dorm ∧ (s.setReq r v).tick = s.tick ∧ (s.setReq r v).ports = s.ports ∧
    (s.setReq r v).planned = s.planned ∧ (s.setReq r v).chans = s.chans ∧ (s.setReq r v).sites = s.sites ∧
    (s.setReq r v).rpt = s.rpt ∧ (s.setReq r v).rptPend = s.rptPend ∧ (s.setReq r v).shadow = s.shadow ∧
    (s.setReq r v).tables = s.tables ∧ (s.setReq r v).rows = s.rows ∧ (s.setReq r v).cells = s.cells ∧ (s.setReq r v).faults = s.faults ∧
    (s.setReq r v).journal = s.journal ∧
    (s.setReq r v).groups = s.groups ∧ (s.setReq r v).tallies = s.tallies ∧ (s.setReq r v).learnLog = s.learnLog ∧
    (s.setReq r v).lost = s.lost ∧ (s.setReq r v).lossList = s.lossList ∧ (s.setReq r v).bays = s.bays ∧
    (s.setReq r v).broad = s.broad ∧ (s.setReq r v).baysBefore = s.baysBefore ∧
    (s.setReq r v).broadBefore = s.broadBefore ∧ (s.setReq r v).drawers = s.drawers ∧ (s.setReq r v).cabs = s.cabs ∧
    (s.setReq r v).acts = s.acts ∧ (s.setReq r v).cur = s.cur ∧ (s.setReq r v).wrd = s.wrd ∧
    (s.setReq r v).host = s.host ∧ (s.setReq r v).seam = s.seam ∧ (s.setReq r v).csc = s.csc ∧
    (s.setReq r v).cfg = s.cfg ∧ (∀ G x y, (s.setReq r v).get G x y = s.get G x y) ∧
    (∀ G x y, (s.setReq r v).flag G x y = s.flag G x y) ∧ (∀ x, (s.setReq r v).port x = s.port x) ∧
    (∀ x, (s.setReq r v).chan x = s.chan x) ∧ (∀ x, (s.setReq r v).site x = s.site x) ∧
    (∀ x, (s.setReq r v).table x = s.table x) ∧ (∀ x y, (s.setReq r v).drawer x y = s.drawer x y) ∧
    (∀ x, (s.setReq r v).cab x = s.cab x) ∧ (∀ x, (s.setReq r v).pin x = s.pin x) :=
  by repeat (first | exact rfl | exact fun _ => rfl | exact fun _ _ => rfl | exact fun _ _ _ => rfl |
    refine ⟨rfl, ?_⟩ | refine ⟨fun _ => rfl, ?_⟩ | refine ⟨fun _ _ => rfl, ?_⟩ | refine ⟨fun _ _ _ => rfl, ?_⟩)

@[simp] theorem State.freeEngine_frame :
    (s.freeEngine).pending = s.pending ∧ (s.freeEngine).clock = s.clock ∧ (s.freeEngine).freeCtr = s.freeCtr ∧
    (s.freeEngine).out = s.out ∧ (s.freeEngine).mode = s.mode ∧ (s.freeEngine).pins = s.pins ∧
    (s.freeEngine).fuses = s.fuses ∧ (s.freeEngine).tap = s.tap ∧ (s.freeEngine).regs = s.regs ∧
    (s.freeEngine).boot = s.boot ∧ (s.freeEngine).ledgerA = s.ledgerA ∧ (s.freeEngine).ledgerB = s.ledgerB ∧
    (s.freeEngine).dorm = s.dorm ∧ (s.freeEngine).tick = s.tick ∧ (s.freeEngine).ports = s.ports ∧
    (s.freeEngine).planned = s.planned ∧ (s.freeEngine).chans = s.chans ∧ (s.freeEngine).sites = s.sites ∧
    (s.freeEngine).rpt = s.rpt ∧ (s.freeEngine).rptPend = s.rptPend ∧ (s.freeEngine).shadow = s.shadow ∧
    (s.freeEngine).tables = s.tables ∧ (s.freeEngine).rows = s.rows ∧ (s.freeEngine).cells = s.cells ∧ (s.freeEngine).faults = s.faults ∧
    (s.freeEngine).journal = s.journal ∧
    (s.freeEngine).groups = s.groups ∧ (s.freeEngine).tallies = s.tallies ∧ (s.freeEngine).learnLog = s.learnLog ∧
    (s.freeEngine).lost = s.lost ∧ (s.freeEngine).lossList = s.lossList ∧ (s.freeEngine).bays = s.bays ∧
    (s.freeEngine).broad = s.broad ∧ (s.freeEngine).baysBefore = s.baysBefore ∧
    (s.freeEngine).broadBefore = s.broadBefore ∧ (s.freeEngine).drawers = s.drawers ∧ (s.freeEngine).cabs = s.cabs ∧
    (s.freeEngine).acts = s.acts ∧ (s.freeEngine).cur = s.cur ∧ (s.freeEngine).wrd = s.wrd ∧
    (s.freeEngine).mnt = s.mnt ∧ (s.freeEngine).seam = s.seam ∧ (s.freeEngine).csc = s.csc ∧
    (s.freeEngine).cfg = s.cfg ∧ (∀ G x y, (s.freeEngine).get G x y = s.get G x y) ∧
    (∀ G x y, (s.freeEngine).flag G x y = s.flag G x y) ∧ (∀ x, (s.freeEngine).port x = s.port x) ∧
    (∀ x, (s.freeEngine).chan x = s.chan x) ∧ (∀ x, (s.freeEngine).site x = s.site x) ∧
    (∀ x, (s.freeEngine).table x = s.table x) ∧ (∀ x y, (s.freeEngine).drawer x y = s.drawer x y) ∧
    (∀ x, (s.freeEngine).cab x = s.cab x) ∧ (∀ x, (s.freeEngine).pin x = s.pin x) ∧
    (∀ x, (s.freeEngine).req x = s.req x) :=
  by repeat (first | exact rfl | exact fun _ => rfl | exact fun _ _ => rfl | exact fun _ _ _ => rfl |
    refine ⟨rfl, ?_⟩ | refine ⟨fun _ => rfl, ?_⟩ | refine ⟨fun _ _ => rfl, ?_⟩ | refine ⟨fun _ _ _ => rfl, ?_⟩)

@[simp] theorem State.finish_frame (c : Cmd) (st r : Nat) :
    (s.finish c st r).pending = s.pending ∧ (s.finish c st r).clock = s.clock ∧
    (s.finish c st r).freeCtr = s.freeCtr ∧ (s.finish c st r).out = s.out ∧ (s.finish c st r).mode = s.mode ∧
    (s.finish c st r).pins = s.pins ∧ (s.finish c st r).fuses = s.fuses ∧ (s.finish c st r).tap = s.tap ∧
    (s.finish c st r).regs = s.regs ∧ (s.finish c st r).boot = s.boot ∧ (s.finish c st r).ledgerA = s.ledgerA ∧
    (s.finish c st r).ledgerB = s.ledgerB ∧ (s.finish c st r).dorm = s.dorm ∧ (s.finish c st r).tick = s.tick ∧
    (s.finish c st r).ports = s.ports ∧ (s.finish c st r).planned = s.planned ∧ (s.finish c st r).chans = s.chans ∧
    (s.finish c st r).sites = s.sites ∧ (s.finish c st r).rpt = s.rpt ∧ (s.finish c st r).rptPend = s.rptPend ∧
    (s.finish c st r).shadow = s.shadow ∧ (s.finish c st r).tables = s.tables ∧ (s.finish c st r).rows = s.rows ∧ (s.finish c st r).cells = s.cells ∧ (s.finish c st r).faults = s.faults ∧

    (s.finish c st r).journal = s.journal ∧ (s.finish c st r).groups = s.groups ∧
    (s.finish c st r).tallies = s.tallies ∧ (s.finish c st r).learnLog = s.learnLog ∧
    (s.finish c st r).lost = s.lost ∧ (s.finish c st r).lossList = s.lossList ∧ (s.finish c st r).bays = s.bays ∧
    (s.finish c st r).broad = s.broad ∧ (s.finish c st r).baysBefore = s.baysBefore ∧
    (s.finish c st r).broadBefore = s.broadBefore ∧ (s.finish c st r).drawers = s.drawers ∧
    (s.finish c st r).cabs = s.cabs ∧ (s.finish c st r).acts = s.acts ∧ (s.finish c st r).cur = s.cur ∧
    (s.finish c st r).wrd = s.wrd ∧ (s.finish c st r).mnt = s.mnt ∧ (s.finish c st r).seam = s.seam ∧
    (s.finish c st r).csc = s.csc ∧ (s.finish c st r).cfg = s.cfg ∧
    (∀ G x y, (s.finish c st r).get G x y = s.get G x y) ∧ (∀ G x y, (s.finish c st r).flag G x y = s.flag G x y) ∧
    (∀ x, (s.finish c st r).port x = s.port x) ∧ (∀ x, (s.finish c st r).chan x = s.chan x) ∧
    (∀ x, (s.finish c st r).site x = s.site x) ∧ (∀ x, (s.finish c st r).table x = s.table x) ∧
    (∀ x y, (s.finish c st r).drawer x y = s.drawer x y) ∧ (∀ x, (s.finish c st r).cab x = s.cab x) ∧
    (∀ x, (s.finish c st r).pin x = s.pin x) ∧ (∀ x, (s.finish c st r).req x = s.req x) :=
  by repeat (first | exact rfl | exact fun _ => rfl | exact fun _ _ => rfl | exact fun _ _ _ => rfl |
    refine ⟨rfl, ?_⟩ | refine ⟨fun _ => rfl, ?_⟩ | refine ⟨fun _ _ => rfl, ?_⟩ | refine ⟨fun _ _ _ => rfl, ?_⟩)

@[simp] theorem State.finishLater_frame (c : Cmd) (st r : Nat) :
    (s.finishLater c st r).pending = s.pending ∧ (s.finishLater c st r).clock = s.clock ∧
    (s.finishLater c st r).freeCtr = s.freeCtr ∧ (s.finishLater c st r).out = s.out ∧
    (s.finishLater c st r).mode = s.mode ∧ (s.finishLater c st r).pins = s.pins ∧
    (s.finishLater c st r).fuses = s.fuses ∧ (s.finishLater c st r).tap = s.tap ∧
    (s.finishLater c st r).regs = s.regs ∧ (s.finishLater c st r).boot = s.boot ∧
    (s.finishLater c st r).ledgerA = s.ledgerA ∧ (s.finishLater c st r).ledgerB = s.ledgerB ∧
    (s.finishLater c st r).dorm = s.dorm ∧ (s.finishLater c st r).tick = s.tick ∧
    (s.finishLater c st r).ports = s.ports ∧ (s.finishLater c st r).planned = s.planned ∧
    (s.finishLater c st r).chans = s.chans ∧ (s.finishLater c st r).sites = s.sites ∧
    (s.finishLater c st r).rpt = s.rpt ∧ (s.finishLater c st r).rptPend = s.rptPend ∧
    (s.finishLater c st r).shadow = s.shadow ∧ (s.finishLater c st r).tables = s.tables ∧
    (s.finishLater c st r).rows = s.rows ∧ (s.finishLater c st r).cells = s.cells ∧ (s.finishLater c st r).faults = s.faults ∧
    (s.finishLater c st r).journal = s.journal ∧
    (s.finishLater c st r).groups = s.groups ∧ (s.finishLater c st r).tallies = s.tallies ∧
    (s.finishLater c st r).learnLog = s.learnLog ∧ (s.finishLater c st r).lost = s.lost ∧
    (s.finishLater c st r).lossList = s.lossList ∧ (s.finishLater c st r).bays = s.bays ∧
    (s.finishLater c st r).broad = s.broad ∧ (s.finishLater c st r).baysBefore = s.baysBefore ∧
    (s.finishLater c st r).broadBefore = s.broadBefore ∧ (s.finishLater c st r).drawers = s.drawers ∧
    (s.finishLater c st r).cabs = s.cabs ∧ (s.finishLater c st r).acts = s.acts ∧
    (s.finishLater c st r).cur = s.cur ∧ (s.finishLater c st r).wrd = s.wrd ∧ (s.finishLater c st r).mnt = s.mnt ∧
    (s.finishLater c st r).seam = s.seam ∧ (s.finishLater c st r).csc = s.csc ∧ (s.finishLater c st r).cfg = s.cfg ∧
    (∀ G x y, (s.finishLater c st r).get G x y = s.get G x y) ∧
    (∀ G x y, (s.finishLater c st r).flag G x y = s.flag G x y) ∧ (∀ x, (s.finishLater c st r).port x = s.port x) ∧
    (∀ x, (s.finishLater c st r).chan x = s.chan x) ∧ (∀ x, (s.finishLater c st r).site x = s.site x) ∧
    (∀ x, (s.finishLater c st r).table x = s.table x) ∧ (∀ x y, (s.finishLater c st r).drawer x y = s.drawer x y) ∧
    (∀ x, (s.finishLater c st r).cab x = s.cab x) ∧ (∀ x, (s.finishLater c st r).pin x = s.pin x) ∧
    (∀ x, (s.finishLater c st r).req x = s.req x) :=
  by repeat (first | exact rfl | exact fun _ => rfl | exact fun _ _ => rfl | exact fun _ _ _ => rfl |
    refine ⟨rfl, ?_⟩ | refine ⟨fun _ => rfl, ?_⟩ | refine ⟨fun _ _ => rfl, ?_⟩ | refine ⟨fun _ _ _ => rfl, ?_⟩)

@[simp] theorem State.owedReady_frame (f i c st r : Nat) :
    (s.owedReady f i c st r).pending = s.pending ∧ (s.owedReady f i c st r).clock = s.clock ∧
    (s.owedReady f i c st r).freeCtr = s.freeCtr ∧ (s.owedReady f i c st r).out = s.out ∧
    (s.owedReady f i c st r).mode = s.mode ∧ (s.owedReady f i c st r).pins = s.pins ∧
    (s.owedReady f i c st r).fuses = s.fuses ∧ (s.owedReady f i c st r).tap = s.tap ∧
    (s.owedReady f i c st r).regs = s.regs ∧ (s.owedReady f i c st r).boot = s.boot ∧
    (s.owedReady f i c st r).ledgerA = s.ledgerA ∧ (s.owedReady f i c st r).ledgerB = s.ledgerB ∧
    (s.owedReady f i c st r).dorm = s.dorm ∧ (s.owedReady f i c st r).tick = s.tick ∧
    (s.owedReady f i c st r).ports = s.ports ∧ (s.owedReady f i c st r).planned = s.planned ∧
    (s.owedReady f i c st r).chans = s.chans ∧ (s.owedReady f i c st r).sites = s.sites ∧
    (s.owedReady f i c st r).rpt = s.rpt ∧ (s.owedReady f i c st r).rptPend = s.rptPend ∧
    (s.owedReady f i c st r).shadow = s.shadow ∧ (s.owedReady f i c st r).tables = s.tables ∧
    (s.owedReady f i c st r).rows = s.rows ∧ (s.owedReady f i c st r).cells = s.cells ∧ (s.owedReady f i c st r).faults = s.faults ∧
    (s.owedReady f i c st r).journal = s.journal ∧
    (s.owedReady f i c st r).groups = s.groups ∧ (s.owedReady f i c st r).tallies = s.tallies ∧
    (s.owedReady f i c st r).learnLog = s.learnLog ∧ (s.owedReady f i c st r).lost = s.lost ∧
    (s.owedReady f i c st r).lossList = s.lossList ∧ (s.owedReady f i c st r).bays = s.bays ∧
    (s.owedReady f i c st r).broad = s.broad ∧ (s.owedReady f i c st r).baysBefore = s.baysBefore ∧
    (s.owedReady f i c st r).broadBefore = s.broadBefore ∧ (s.owedReady f i c st r).drawers = s.drawers ∧
    (s.owedReady f i c st r).cabs = s.cabs ∧ (s.owedReady f i c st r).acts = s.acts ∧
    (s.owedReady f i c st r).cur = s.cur ∧ (s.owedReady f i c st r).wrd = s.wrd ∧
    (s.owedReady f i c st r).mnt = s.mnt ∧ (s.owedReady f i c st r).seam = s.seam ∧
    (s.owedReady f i c st r).csc = s.csc ∧ (s.owedReady f i c st r).cfg = s.cfg ∧
    (∀ G x y, (s.owedReady f i c st r).get G x y = s.get G x y) ∧
    (∀ G x y, (s.owedReady f i c st r).flag G x y = s.flag G x y) ∧
    (∀ x, (s.owedReady f i c st r).port x = s.port x) ∧ (∀ x, (s.owedReady f i c st r).chan x = s.chan x) ∧
    (∀ x, (s.owedReady f i c st r).site x = s.site x) ∧ (∀ x, (s.owedReady f i c st r).table x = s.table x) ∧
    (∀ x y, (s.owedReady f i c st r).drawer x y = s.drawer x y) ∧ (∀ x, (s.owedReady f i c st r).cab x = s.cab x) ∧
    (∀ x, (s.owedReady f i c st r).pin x = s.pin x) ∧ (∀ x, (s.owedReady f i c st r).req x = s.req x) :=
  by repeat (first | exact rfl | exact fun _ => rfl | exact fun _ _ => rfl | exact fun _ _ _ => rfl |
    refine ⟨rfl, ?_⟩ | refine ⟨fun _ => rfl, ?_⟩ | refine ⟨fun _ _ => rfl, ?_⟩ | refine ⟨fun _ _ _ => rfl, ?_⟩)

/-! ## What is read back -/

/-- A field read after it was stored is the value stored, cut to the field's width. -/
@[simp] theorem State.get_put_same (F : Field) (v i j : Nat) : (s.put F v i j).get F i j = v % 2 ^ F.width := by
  simp [State.get, State.put]

/-- A store leaves every field at another place alone. -/
theorem State.get_put_ne (F G : Field) (v i j i' j' : Nat) (h : F.key i j ≠ G.key i' j') :
    (s.put F v i j).get G i' j' = s.get G i' j' := by
  simp only [State.get, State.put]
  exact fgetD_fset_ne _ _ _ _ h

@[simp] theorem State.flag_putB_same (F : Field) (b : Bool) (i j : Nat) (h : F.width = 1) :
    (s.putB F b i j).flag F i j = b := by
  cases b <;> simp [State.flag, State.putB, h]

@[simp] theorem State.port_setPort_same (p : Nat) (v : PortSt) : (s.setPort p v).port p = v := by
  simp [State.port, State.setPort]

theorem State.port_setPort_ne {p q : Nat} (v : PortSt) (h : p ≠ q) : (s.setPort p v).port q = s.port q := by
  simp only [State.port, State.setPort]
  exact fgetD_fset_ne _ _ _ _ h

@[simp] theorem State.chan_setChan_same (c : Nat) (v : Chan) : (s.setChan c v).chan c = v := by
  simp [State.chan, State.setChan]

theorem State.chan_setChan_ne {c c' : Nat} (v : Chan) (h : c ≠ c') : (s.setChan c v).chan c' = s.chan c' := by
  simp only [State.chan, State.setChan]
  exact fgetD_fset_ne _ _ _ _ h

@[simp] theorem State.site_setSite_same (n : Nat) (v : Site) : (s.setSite n v).site n = v := by
  simp [State.site, State.setSite]

theorem State.site_setSite_ne {n n' : Nat} (v : Site) (h : n ≠ n') : (s.setSite n v).site n' = s.site n' := by
  simp only [State.site, State.setSite]
  exact fgetD_fset_ne _ _ _ _ h

@[simp] theorem State.table_setTable_same (t : Nat) (v : Table) : (s.setTable t v).table t = some v := by
  simp [State.table, State.setTable]

theorem State.table_setTable_ne {t u : Nat} (v : Table) (h : t ≠ u) : (s.setTable t v).table u = s.table u := by
  simp only [State.table, State.setTable]
  exact fget_fput_ne _ _ h

@[simp] theorem State.table_dropTable_same (t : Nat) : (s.dropTable t).table t = none := by
  simp [State.table, State.dropTable]

theorem State.table_dropTable_ne {t u : Nat} (h : t ≠ u) : (s.dropTable t).table u = s.table u := by
  simp only [State.table, State.dropTable]
  exact fget_fdel_ne _ h

@[simp] theorem State.drawer_setDrawer_same (g x : Nat) (v : Drawer) : (s.setDrawer g x v).drawer g x = v := by
  simp [State.drawer, State.setDrawer]

@[simp] theorem State.cab_setCab_same (n : Nat) (v : Cab) : (s.setCab n v).cab n = v := by
  simp [State.cab, State.setCab]

theorem State.cab_setCab_ne {n n' : Nat} (v : Cab) (h : n ≠ n') : (s.setCab n v).cab n' = s.cab n' := by
  simp only [State.cab, State.setCab]
  exact fgetD_fset_ne _ _ _ _ h

@[simp] theorem State.pin_setPin_same (i : Nat) (v : Pin) : (s.setPin i v).pin i = v := by
  simp [State.pin, State.setPin]

@[simp] theorem State.req_setReq_same (r : Nat) (v : Req) : (s.setReq r v).req r = v := by
  simp [State.req, State.setReq]

theorem State.req_setReq_ne {r r' : Nat} (v : Req) (h : r ≠ r') : (s.setReq r v).req r' = s.req r' := by
  simp only [State.req, State.setReq]
  exact fgetD_fset_ne _ _ _ _ h

@[simp] theorem State.link_setLink_same (l : Link) (v : LinkSt) : (s.setLink l v).link l = v := by
  cases l <;> simp [State.link, State.setLink]

/-- Setting a link changes no register and nothing of the waiting commands, the clock and the fuses. -/
@[simp] theorem State.setLink_frame (l : Link) (v : LinkSt) :
    (s.setLink l v).regs = s.regs ∧ (∀ G a b, (s.setLink l v).get G a b = s.get G a b) ∧ (s.setLink l v).pending = s.pending ∧
    (s.setLink l v).clock = s.clock ∧ (s.setLink l v).fuses = s.fuses ∧ (s.setLink l v).cfg = s.cfg ∧
    (s.setLink l v).mode = s.mode ∧ (s.setLink l v).host = s.host ∧ (s.setLink l v).pins = s.pins := by
  cases l <;> exact ⟨rfl, fun _ _ _ => rfl, rfl, rfl, rfl, rfl, rfl, rfl, rfl⟩

/-! ## One member of a list -/

/-- What is picked is a member. -/
theorem State.pick_mem {α : Type} {l : List α} {a : α} (h : s.pick l = some a) : a ∈ l := by
  cases l with
  | nil => cases h
  | cons b t =>
    have hl : s.peek % (t.length + 1) < (b :: t).length := Nat.mod_lt _ (Nat.succ_pos _)
    have e : (b :: t).getD (s.peek % (t.length + 1)) b = (b :: t)[s.peek % (t.length + 1)] := by
      simp only [List.getD_eq_getElem?_getD, List.getElem?_eq_getElem hl, Option.getD_some]
    exact Option.some.inj h ▸ e ▸ List.getElem_mem hl

@[simp] theorem State.pick_eq_none {α : Type} (l : List α) : s.pick l = none ↔ l = [] := by
  cases l <;> simp [State.pick]

end Sys2Proof.Machine
end

