-- ==== Sys2Proof/Laws/Wear.lean ====
section
/-! SUPPORT. Laws of wear and the journal: the least-worn places are places (R216), writing a row of the medium or of the journal touches no
row of an entry (R211, R215). -/

namespace Sys2Proof.Machine

set_option Elab.async false

/-- Inserting in an order adds the one element. -/
theorem insertBy_perm {α : Type} (le : α → α → Bool) (a : α) : ∀ l : List α, (insertBy le a l).Perm (a :: l)
  | [] => .refl _
  | b :: l => by
    unfold insertBy
    split
    · exact .refl _
    · exact ((insertBy_perm le a l).cons b).trans (.swap a b l)

/-- Ordering a list keeps its elements. -/
theorem sortBy_perm {α : Type} (le : α → α → Bool) : ∀ l : List α, (sortBy le l).Perm l
  | [] => .refl _
  | a :: l => (insertBy_perm le a (sortBy le l)).trans ((sortBy_perm le l).cons a)

@[simp] theorem mem_sortBy {α : Type} (le : α → α → Bool) (a : α) (l : List α) : a ∈ sortBy le l ↔ a ∈ l :=
  (sortBy_perm le l).mem_iff

theorem foldl_min_le {α : Type} (f : α → Nat) : ∀ (l : List α) (m : Nat), l.foldl (fun m b => min m (f b)) m ≤ m
  | [], _ => Nat.le_refl _
  | _ :: t, _ => Nat.le_trans (foldl_min_le f t _) (Nat.min_le_left _ _)

theorem foldl_min_le_mem {α : Type} (f : α → Nat) : ∀ (l : List α) (m : Nat) (a : α), a ∈ l →
    l.foldl (fun m b => min m (f b)) m ≤ f a
  | b :: t, m, a, h => by
    rcases List.mem_cons.1 h with rfl | h
    · exact Nat.le_trans (foldl_min_le f t _) (Nat.min_le_right _ _)
    · exact foldl_min_le_mem f t _ a h

theorem foldl_min_attained {α : Type} (f : α → Nat) : ∀ (l : List α) (m : Nat),
    l.foldl (fun m b => min m (f b)) m = m ∨ ∃ a ∈ l, l.foldl (fun m b => min m (f b)) m = f a
  | [], _ => .inl rfl
  | b :: t, m => by
    rcases foldl_min_attained f t (min m (f b)) with h | ⟨a, ha, h⟩
    · by_cases k : m ≤ f b
      · left; simpa [Nat.min_eq_left k] using h
      · right; exact ⟨b, List.mem_cons_self, by simpa [Nat.min_eq_right (Nat.le_of_not_le k)] using h⟩
    · exact .inr ⟨a, List.mem_cons_of_mem _ ha, h⟩

/-- The least members are members, and no member measures less. -/
theorem mem_leastBy {α : Type} {f : α → Nat} {l : List α} {a : α} (h : a ∈ leastBy f l) : a ∈ l ∧ ∀ b ∈ l, f a ≤ f b := by
  cases l with
  | nil => cases h
  | cons c t =>
    simp only [leastBy, List.mem_filter, beq_iff_eq] at h
    refine ⟨h.1, fun b hb => h.2 ▸ ?_⟩
    rcases List.mem_cons.1 hb with rfl | hb
    · exact foldl_min_le f t _
    · exact foldl_min_le_mem f t _ b hb

/-- A list that is not empty has a least member. -/
theorem leastBy_ne_nil {α : Type} (f : α → Nat) {l : List α} (h : l ≠ []) : leastBy f l ≠ [] := by
  cases l with
  | nil => exact absurd rfl h
  | cons c t =>
    rcases foldl_min_attained f t (f c) with k | ⟨a, ha, k⟩
    · exact List.ne_nil_of_mem (a := c) (by simp [leastBy, k])
    · exact List.ne_nil_of_mem (a := a) (by simp only [leastBy, List.mem_filter, beq_iff_eq]; exact ⟨List.mem_cons_of_mem _ ha, k.symm⟩)

/-- What metering wear, choosing rows and marking drawers leave as it is. -/
def KeepsEntries (s t : State) : Prop :=
  t.rows = s.rows ∧ t.journal = s.journal ∧ t.groups = s.groups ∧ t.tables = s.tables ∧ t.tick = s.tick ∧ t.mode = s.mode

theorem KeepsEntries.refl (s : State) : KeepsEntries s s := ⟨rfl, rfl, rfl, rfl, rfl, rfl⟩

theorem KeepsEntries.trans {s t u : State} (h : KeepsEntries s t) (k : KeepsEntries t u) : KeepsEntries s u :=
  ⟨k.1.trans h.1, k.2.1.trans h.2.1, k.2.2.1.trans h.2.2.1, k.2.2.2.1.trans h.2.2.2.1, k.2.2.2.2.1.trans h.2.2.2.2.1,
    k.2.2.2.2.2.trans h.2.2.2.2.2⟩

theorem State.drawn_keeps (s : State) : KeepsEntries s s.drawn := ⟨rfl, rfl, rfl, rfl, rfl, rfl⟩

theorem State.setDrawer_keeps (s : State) (g x : Nat) (v : Drawer) : KeepsEntries s (s.setDrawer g x v) :=
  ⟨rfl, rfl, rfl, rfl, rfl, rfl⟩

theorem State.setCab_keeps (s : State) (n : Nat) (v : Cab) : KeepsEntries s (s.setCab n v) := ⟨rfl, rfl, rfl, rfl, rfl, rfl⟩

theorem State.bump_keeps (s : State) (F : Field) (n i j : Nat) : KeepsEntries s (s.bump F n i j) := ⟨rfl, rfl, rfl, rfl, rfl, rfl⟩

theorem State.wearRow_keeps (s : State) (g x row cells : Nat) : KeepsEntries s (s.wearRow g x row cells) :=
  ⟨rfl, rfl, rfl, rfl, rfl, rfl⟩

theorem State.raise_keeps (s : State) (n : Nat) : KeepsEntries s (s.raise n) := by
  have push : ∀ (t : State) (h : Bool), KeepsEntries t (t.pushEvent n h) := fun t h => by
    unfold State.pushEvent
    split
    · dsimp only
      split <;> exact ⟨rfl, rfl, rfl, rfl, rfl, rfl⟩
    · exact ⟨rfl, rfl, rfl, rfl, rfl, rfl⟩
  have msix : ∀ t : State, KeepsEntries t (t.msixOf n) := fun t => by
    unfold State.msixOf State.msixTo State.msixPf State.msixSend State.setPba
    dsimp only
    repeat' split
    all_goals exact ⟨rfl, rfl, rfl, rfl, rfl, rfl⟩
  have del : ∀ h : Bool, KeepsEntries s (s.deliver n h) := fun h => by
    unfold State.deliver
    have e := (s.bump_keeps Reg.EVT_SRC_COUNT 1 n 0).trans (State.bump_keeps _ Reg.EVT_CNT_RAISED_COUNT 1 0 0)
    dsimp only
    split
    · refine .trans (.trans e ?_) (msix _)
      split
      · exact .trans ⟨rfl, rfl, rfl, rfl, rfl, rfl⟩ (push _ _)
      · exact ⟨rfl, rfl, rfl, rfl, rfl, rfl⟩
    · exact e
  unfold State.raise
  split
  · exact del _
  all_goals exact ⟨rfl, rfl, rfl, rfl, rfl, rfl⟩

theorem State.spend_keeps (s : State) (n : Nat) : KeepsEntries s (s.spend n) := by
  unfold State.spend State.setBalance
  dsimp only
  generalize (if 2 ^ 39 < s.cur.balance - (n : Int) then 2 ^ 39 else s.cur.balance - (n : Int)) = b
  split
  · exact ⟨rfl, rfl, rfl, rfl, rfl, rfl⟩
  · exact .trans ⟨rfl, rfl, rfl, rfl, rfl, rfl⟩ (State.raise_keeps _ _)

theorem State.put_keeps (s : State) (F : Field) (v i j : Nat) : KeepsEntries s (s.put F v i j) := ⟨rfl, rfl, rfl, rfl, rfl, rfl⟩

theorem State.dirtyDrawer_keeps (s : State) (g x : Nat) : KeepsEntries s (s.dirtyDrawer g x) := State.setDrawer_keeps _ _ _ _

theorem State.makeSuspect_keeps (s : State) (g x : Nat) : KeepsEntries s (s.makeSuspect g x) := by
  unfold State.makeSuspect
  split
  · exact .refl s
  · exact ((s.setDrawer_keeps g x _).trans (State.put_keeps _ Reg.CUR_STATUS_SUSPECT 1 0 0)).trans (State.raise_keeps _ _)

theorem State.defectRow_keeps (s : State) (g x row : Nat) : KeepsEntries s (s.defectRow g x row) := by
  unfold State.defectRow
  dsimp only
  split
  · exact .refl s
  · have e := (s.setDrawer_keeps g x { s.drawer g x with defects := (s.drawer g x).defects ++ [row] }).trans
      (State.bump_keeps _ Reg.CUR_CNT_DEFECT_COUNT 1 0 0)
    split
    · exact e.trans (State.makeSuspect_keeps _ _ _)
    · exact e

/-- Writing a row of the medium touches no entry, no journal record, no group and no table (R211, R214). -/
theorem State.program_keeps (s : State) (k : Nat) (new : RowCells) (fails : List Nat) : KeepsEntries s (s.program k new fails).1 := by
  unfold State.program
  dsimp only
  have e := (s.spend_keeps ((s.raw k).diff new + (fails.take 3).sum)).trans (State.bump_keeps _ Reg.CUR_CNT_WRITES_COUNT 1 0 0)
  generalize (s.spend ((s.raw k).diff new + (fails.take 3).sum)).bump Reg.CUR_CNT_WRITES_COUNT = t at e ⊢
  have r : KeepsEntries s (if fails.isEmpty then t else t.bump Reg.CUR_CNT_RETRY_COUNT) := by
    split
    · exact e
    · exact e.trans (State.bump_keeps _ _ _ _ _)
  generalize (if fails.isEmpty then t else t.bump Reg.CUR_CNT_RETRY_COUNT) = u at r ⊢
  have d := (r.trans (State.wearRow_keeps u (k / 2048 / 544) (k / 2048 % 544) (k % 2048) ((s.raw k).diff new + (fails.take 3).sum))).trans
    (State.dirtyDrawer_keeps _ (k / 2048 / 544) (k / 2048 % 544))
  generalize (u.wearRow _ _ _ _).dirtyDrawer _ _ = v at d ⊢
  have w : KeepsEntries s { v with cells := fput v.cells k new, faults := fdel v.faults k } := d.trans ⟨rfl, rfl, rfl, rfl, rfl, rfl⟩
  split
  · exact w
  · exact w.trans (State.defectRow_keeps _ _ _ _)

theorem State.replaceReserved_keeps (s : State) (n a : Nat) : KeepsEntries s (s.replaceReserved n a) := by
  unfold State.replaceReserved
  dsimp only
  split
  · exact .refl s
  · split <;> exact ⟨rfl, rfl, rfl, rfl, rfl, rfl⟩

theorem pickLeast_keeps (f : Nat → Nat) : ∀ (n : Nat) (l : List Nat) (s : State), KeepsEntries s (pickLeast f n l s).2
  | 0, _, s => .refl s
  | n + 1, l, s => by
    unfold pickLeast
    split
    · exact .refl s
    · exact s.drawn_keeps.trans (pickLeast_keeps f n _ _)

/-- A journal row is written without touching an entry, a journal record, a group or a table (R191, R216). -/
theorem State.journalPut_keeps : ∀ (f n : Nat) (c : RowCells) (s : State), KeepsEntries s (State.journalPut f n c s).1
  | 0, _, _, s => .refl s
  | f + 1, n, c, s => by
    unfold State.journalPut
    dsimp only
    split
    · exact .refl s
    · have h : ∀ a, KeepsEntries s (s.drawn.freeFails.2.program a c s.drawn.freeFails.1).1 := fun a =>
        (show KeepsEntries s s.drawn.freeFails.2 from ⟨rfl, rfl, rfl, rfl, rfl, rfl⟩).trans (State.program_keeps _ _ _ _)
      split
      · exact h _
      · exact (h _).trans ((State.replaceReserved_keeps _ _ _).trans (State.journalPut_keeps f n c _))

end Sys2Proof.Machine
end

