-- ==== Sys2Proof/Machine/Pins.lean ====
section
/-! DEFINITION. What the pins show in each phase (R370, R446, R451, Tables 13-5, 14-1, 17-7), which lanes are in electrical idle
(R71, Tables 13-5, 14-1), and the ball map (R447 to R450, Tables 17-4 to 17-6). -/

namespace Sys2Proof.Machine

/-! ## Non-lane pins -/

/-- How a pin stands. -/
inductive PinLevel where
  | highZ | pullUp | pullDown | low | high
  deriving DecidableEq, Repr

/-- The pins the device may drive. -/
inductive PinName where
  | gpio (k : Fin 8)
  | evt (k : Fin 4)
  | spiSck
  | spiCs
  | spiIo (k : Fin 4)
  | tickOut
  deriving DecidableEq, Repr

/-- The fuse field of a pin (R451). -/
def PinName.field : PinName → Nat
  | .gpio k => k.val
  | .evt k => 8 + k.val
  | .spiSck => 12
  | .spiCs => 13
  | .spiIo k => 14 + k.val
  | .tickOut => 18

/-- The state a field code gives (Table 17-7); TICK_OUT takes no pull (R370). -/
def fusedLevel (p : PinName) (code : Nat) : PinLevel :=
  if code = 1 then (if p = .tickOut then .highZ else .pullUp)
  else if code = 2 then (if p = .tickOut then .highZ else .pullDown)
  else if code = 3 then .low
  else if code = 4 then .high
  else .highZ

/-- The pre-fuse hold (R446). -/
def heldLevel : PinName → PinLevel
  | .spiSck | .gpio _ => .pullDown
  | .evt _ | .spiCs | .spiIo _ | .tickOut => .highZ

/-- High for 1. -/
def levelOf (b : Bool) : PinLevel := if b then .high else .low

/-- The fused state of a pin. -/
def State.fused (s : State) (p : PinName) : PinLevel := fusedLevel p (fuseField s.fuses p.field)

/-- A GPIO pin whose output is enabled shows BOOT_GPIO.OUT, another one its fused state (Table 13-5). -/
def State.gpioLevel (s : State) (k : Fin 8) : PinLevel :=
  if (s.get Reg.BOOT_GPIO_DIR).testBit k.val then levelOf ((s.get Reg.BOOT_GPIO_OUT).testBit k.val) else s.fused (.gpio k)

/-- TICK_OUT is high for 8 core cycles from each boundary (R35). -/
def State.tickOutLevel (s : State) : PinLevel :=
  if s.flag Reg.TCK_CTRL_TICK_OUT_EN then levelOf (s.tick.started && decide (s.clock < s.tick.last + 8)) else s.fused .tickOut

/-- SPI_SCK and SPI_CS_L between transfers: SCK low, CS_L high, the data pins undriven (Table 13-5). -/
def spiIdle : PinName → PinLevel
  | .spiSck => .low
  | .spiCs => .high
  | .gpio _ | .evt _ | .spiIo _ | .tickOut => .highZ

/-- The dormant states (Table 14-1). -/
def State.dormantLevel (s : State) : PinName → PinLevel
  | .gpio k =>
    if (s.get Reg.BOOT_GPIO_DIR).testBit k.val then levelOf (s.pins.gpioHeld.toNat.testBit k.val) else s.fused (.gpio k)
  | .evt _ => .high
  | .spiSck => .low
  | .spiCs => .high
  | .spiIo _ => .highZ
  | .tickOut => .low

/-- Step 8 to service state, and recovery state (Table 13-5). -/
def State.ownLevel (s : State) (p : PinName) : PinLevel :=
  match p with
  | .gpio k => s.gpioLevel k
  | .evt k => if s.mode = .recovery then s.fused p else levelOf (!s.evtAsserted k.val)
  | .spiSck | .spiCs | .spiIo _ => spiIdle p
  | .tickOut => if s.mode = .recovery then s.fused p else s.tickOutLevel

/-- Table 13-5 before TAP control: hold at step 1, fused in steps 2 to 7, the SPI pins driven from step 6. -/
def State.phaseLevel (s : State) (p : PinName) : PinLevel :=
  let step := s.get Reg.BOOT_STATUS_STEP
  match s.mode with
  | .dormant => s.dormantLevel p
  | .startUp =>
    if step ≤ 1 then heldLevel p
    else if step < 6 then s.fused p
    else if step < 8 then
      (match p with
        | .spiSck | .spiCs | .spiIo _ => spiIdle p
        | .gpio _ | .evt _ | .tickOut => s.fused p)
    else s.ownLevel p
  | .service | .recovery => s.ownLevel p

/-- A pin as the board sees it: HIGHZ of the TAP releases every output (R452). -/
def State.pinLevel (s : State) (p : PinName) : PinLevel := if s.tapAlive && s.tap.ir == .highz then .highZ else s.phaseLevel p

/-- The transmitters of a link are in electrical idle outside training, UP and self-test, and while the link is not enabled
(R71, Tables 13-5, 14-1). -/
def State.txIdle (s : State) (l : Link) : Bool :=
  s.mode == .dormant || s.mode == .recovery || !s.linkEn l || (s.link l).st == .disabled

/-! ## The ball map -/

/-- Lane groups of Table 17-4. -/
inductive LaneGroup where
  | port (p lane : Nat)
  | seam (lane : Nat)
  | up (lane : Nat)
  | down (lane : Nat)
  | pcie (lane : Nat)
  deriving DecidableEq, Repr

/-- What a ball carries. -/
inductive Ball where
  | none | vss | dnc | vddCore | vddSram | vddArray | vddProg | vddSds | vddaSds | vddIo | vddAon
  | lane (l : LaneGroup) (tx : Bool) (n : Bool)
  | tickIn (n : Bool)
  | tickOut (n : Bool)
  | refclk (n : Bool)
  | pcieRefclk (n : Bool)
  | resetL | perstL | thermA | thermK | spiSck | spiCs | tck | tms | tdi | tdo | trstL
  | spiIo (k : Nat)
  | gpio (k : Nat)
  | evt (k : Nat)
  deriving DecidableEq, Repr

/-- Balls of the port lanes (Table 17-4). -/
def portBall (r c : Nat) : Option Ball :=
  let at_ := fun (first : Nat) (tx : Bool) =>
    if 5 ≤ c ∧ c ≤ 36 then
      let k := c - 5
      some (Ball.lane (.port (first + k / 4) (k % 4 / 2)) tx (k % 2 == 1))
    else none
  if r = 2 then at_ 0 false
  else if r = 4 then at_ 0 true
  else if r = 41 then at_ 8 false
  else if r = 39 then at_ 8 true
  else none

/-- Balls of the seam, cascade and PCIe lanes (Table 17-4). -/
def sideBall (r c : Nat) : Option Ball :=
  let low := decide (6 ≤ r) && decide (r ≤ 13)
  let high := decide (24 ≤ r) && decide (r ≤ 31)
  let k := if low then r - 6 else r - 24
  let put := fun (a b : Nat → LaneGroup) (tx : Bool) =>
    if low then some (Ball.lane (a (k / 2)) tx (k % 2 == 1))
    else if high then some (Ball.lane (b (k / 2)) tx (k % 2 == 1))
    else none
  if c = 2 then put .seam .up false
  else if c = 4 then put .seam .up true
  else if c = 41 then put .pcie .down false
  else if c = 39 then put .pcie .down true
  else none

/-- Table 17-5: rows 14 to 23, columns 1 to 5. -/
def leftBalls : List (List Ball) :=
  [[.vss, .tickIn false, .vss, .tickOut false, .vddIo],
   [.vss, .tickIn true, .vss, .tickOut true, .vddIo],
   [.vss, .refclk false, .vss, .thermA, .vddAon],
   [.vss, .refclk true, .vss, .thermK, .vddAon],
   [.vddIo, .resetL, .vddProg, .gpio 0, .gpio 1],
   [.vddIo, .gpio 2, .vddProg, .gpio 3, .gpio 4],
   [.vddIo, .gpio 5, .vddProg, .gpio 6, .gpio 7],
   [.vddIo, .evt 0, .vddProg, .evt 1, .vddProg],
   [.vddIo, .evt 2, .vddProg, .evt 3, .dnc],
   [.vss, .dnc, .vss, .dnc, .dnc]]

/-- Table 17-6: rows 14 to 23, columns 38 to 42. -/
def rightBalls : List (List Ball) :=
  [[.vddIo, .vss, .vss, .pcieRefclk false, .vss],
   [.vss, .perstL, .vss, .pcieRefclk true, .vss],
   [.vddIo, .spiSck, .vss, .spiCs, .vddIo],
   [.vddIo, .spiIo 0, .vss, .spiIo 1, .vddIo],
   [.vddIo, .spiIo 2, .vss, .spiIo 3, .vddIo],
   [.vddIo, .tck, .vddProg, .tms, .vddIo],
   [.vddProg, .tdi, .vddProg, .tdo, .vddProg],
   [.vddProg, .trstL, .vddProg, .vddAon, .vddAon],
   [.vss, .dnc, .vss, .dnc, .vss],
   [.vss, .dnc, .vss, .dnc, .vss]]

/-- Balls of Tables 17-5 and 17-6 (R449). -/
def controlBall (r c : Nat) : Option Ball :=
  if 14 ≤ r ∧ r ≤ 23 ∧ c ≤ 5 then (leftBalls[r - 14]?).bind fun l => l[c - 1]?
  else if 14 ≤ r ∧ r ≤ 23 ∧ 38 ≤ c then (rightBalls[r - 14]?).bind fun l => l[c - 38]?
  else none

/-- Every other position (R450), its rules in order. -/
def restBall (r c : Nat) : Ball :=
  let edge : Bool := decide (r ≤ 5) || decide (38 ≤ r)
  let band : Bool := (decide (6 ≤ r) && decide (r ≤ 13)) || (decide (24 ≤ r) && decide (r ≤ 31))
  if 18 ≤ r ∧ r ≤ 25 ∧ 18 ≤ c ∧ c ≤ 25 then .none
  else if edge && decide (5 ≤ c) && decide (c ≤ 36) then .vss
  else if band && [1, 3, 5, 38, 40, 42].contains c then .vss
  else if edge then (if (r + c) % 2 = 0 then .vddSds else .vddaSds)
  else if 32 ≤ r ∧ r ≤ 37 ∧ (c ≤ 5 ∨ 38 ≤ c) then .vddSds
  else if (r + c) % 2 = 1 then .vss
  else if c ≤ 11 ∨ 32 ≤ c then .vddArray
  else if c = 12 ∨ c = 13 ∨ c = 30 ∨ c = 31 then .vddSram
  else .vddCore

/-- The ball at row r (1 for A to 42 for BD) and column c (R447 to R450). -/
def ballAt (r c : Nat) : Ball :=
  match portBall r c, sideBall r c, controlBall r c with
  | some b, _, _ => b
  | none, some b, _ => b
  | none, none, some b => b
  | none, none, none => restBall r c

/-- Positions of the grid that carry a ball with a property. -/
def countBalls (p : Ball → Bool) : Nat :=
  ((List.range 42).map fun r => ((List.range 42).filter fun c => p (ballAt (r + 1) (c + 1))).length).sum

end Sys2Proof.Machine
end

