-- ==== Sys2Proof/WellFormed.lean ====
section
/-! DEFINITION. What a sender may deliver: the bounds the manual puts on the operands of a command beyond their types. -/

namespace Sys2Proof

/-- A cabinet code window: lowest code not above highest, both 8 bits (R221, Table 7-3). -/
def windowWf : Option (Nat × Nat) → Bool
  | none => true
  | some (lo, hi) => decide (lo ≤ hi) && decide (hi < 256)

/-- A measurement of one cabinet n = 32g + c: 256 cabinets (R126). -/
def CabCal.wf (c : CabCal) : Bool := decide (c.cab < 256) && windowWf c.mref && windowWf c.rref

/-- A round measures each cabinet at most once. -/
def calWf (l : List CabCal) : Bool := l.all CabCal.wf && decide (l.length ≤ 256) && decide (l.map (·.cab)).Nodup

/-- The link has the lane. -/
def laneWf (l : Link) (lane : Nat) : Bool := decide (lane < l.lanes)

/-- A host access of 4 or 8 bytes at a multiple of its size, or of another size that R417 answers (1, 2). -/
def accessWf (off size : Nat) : Bool := (size == 1 || size == 2 || size == 4 || size == 8) && off % size == 0

/-- At most the bytes of one page of host memory or of the largest structure read (R427). -/
def Dma.wf (d : Dma) : Bool :=
  match d.rd with
  | none => true
  | some b => decide (b.length ≤ 4096)

/-- The verify reads of a write: at most four rows, four reads of each, 496 cells in a read (R131, R134, R211). -/
def WriteRes.wf (w : WriteRes) : Bool :=
  decide (w.rows.length ≤ 4) && w.rows.all fun r => decide (r.length ≤ 4) && r.all fun l => decide (l.length ≤ 496)

/-- A scrub read names each cell once (R131, R136). -/
def ScrubRead.wf (r : ScrubRead) : Bool := decide (r.cells.map (·.1)).Nodup && r.cells.all fun e => decide (e.1 < 576)

/-- The operands of a command are as the manual bounds them. -/
def Instr.wf : Instr → Bool
  | .resetLRelease cal | .railsInRange cal | .bootWrite cal | .unwatchedRailInRange cal | .calibrationRound cal | .curCalGo cal => calWf cal
  | .wakeDetect _ _ cal => calWf cal
  | .drawerSelftest _ bad _ => decide bad.Nodup
  | .fulltestComplete found _ cal =>
    found.all (fun e => decide (e.1 < 4352) && decide e.2.1.Nodup) && decide (found.map (·.1)).Nodup && calWf cal
  | .cabinetCheckDone c => c.wf
  | .tickMarker _ _ p => decide (32 ≤ p) && decide (p ≤ 2 ^ 20)
  | .tickBoundary b => decide (b.power < 2 ^ 10) && decide (b.tj < 2 ^ 8) && decide b.cplFail.Nodup
  | .align l lane _ | .uncorrectableCodeword l lane _ | .alignTransmit l lane => laneWf l lane
  | .chnCreate d | .tblCreate d | .tblInsert d | .tblModify d | .tblRead d | .tblFind d | .tblNext d | .adataWrite d
  | .adataRead d | .rptSearch d | .rptNext d | .rptFlushByPort d | .ctlSend d => d.wf
  | .baySplit _ bay => decide (bay < 512)
  | .bayMerge _ bay sib => decide (bay < 512) && decide (sib < 512) && bay != sib
  | .digestSave _ x => decide (x < 544)
  | .migration _ _ w | .relocation _ _ w | .rowClear w | .refresh w | .stagingWriteback w => w.wf
  | .scrubQueueRead r => r.wf
  | .scrubPass reads store =>
    decide (reads.map (·.1)).Nodup && reads.all (fun e => e.2.wf) && decide (store.length ≤ 2 ^ 20) && decide (store.map (·.1)).Nodup
  | .siteWrite _ _ size upper => (size == 8 && !upper) || size == 4
  | .registerWrite _ (.bar off) size _ => accessWf off.toNat size
  | .registerWrite _ (.config _) size _ => size == 4
  | .pcieLinkChange (some (rate, lanes)) => decide (1 ≤ rate.toNat) && decide (rate.toNat ≤ 5) && [1, 2, 4].contains lanes.toNat
  | .capPop _ _ size | .evqPop _ size => size == 1 || size == 2 || size == 4 || size == 8
  | .lookupToken _ l | .learnToken l | .tallyToken l => decide (1 ≤ l.length) && decide (l.length ≤ 4)
  | .carePass l => decide (l.length ≤ 2 ^ 15)
  | .cmdTailWrite _ _ slots => decide (slots.length ≤ 4096) && slots.all fun b => b.length == 64
  | _ => true

end Sys2Proof
end

