-- ==== Sys2Proof/Tests/Slice0.lean ====
section
/-! SUPPORT. Small checks of the model: operands that the well-formedness check refuses, one step of some commands against values
worked out from spec/, and for every statement with hypotheses a state and operands that meet them. -/

namespace Sys2Proof.Tests

open Sys2Proof Sys2Proof.Machine

set_option Elab.async false

/-! ## States to start from -/

/-- A device in service state that holds nothing. -/
def svc : State := { mode := .service }

/-- A device in start-up whose boot program, section 0, is the one operation given, and whose section 2 sets one site. -/
def booting (op : Nat) (off v : Nat) : State :=
  { boot := { body := leBytes 16 (256 * 2 ^ 32 + 16 * 2 ^ 64) ++ leBytes 16 (2 + 272 * 2 ^ 32 + 16 * 2 ^ 64) ++
                leBytes 224 0 ++ leBytes 8 (op + off * 2 ^ 32) ++ leBytes 8 v ++ leBytes 8 7 ++ leBytes 8 0x1ABCD },
    regs := (State.put {} Reg.BOOT_STATUS_STEP 8).regs }

/-- Service state with BAR0 of the PF open. -/
def opened : State := { svc with host := { pci := [(0, { command := 6 })] } }

/-- The port's link in a state. -/
def withPort (l : LState) : State := { svc with ports := [(0, { link := { st := l } })] }

/-- Service state with registers set. -/
def withReg (F : Field) (v : Nat) (i : Nat := 0) : State := svc.put F v i

/-- A command of function f. -/
def cmd (op : BitVec 8) (p0 p1 : BitVec 64) (f : Nat := 0) : Cmd := { func := f, idx := 0, slot := { opcode := op, cid := 1, p0 := p0, p1 := p1 } }

/-- The command in the engine. -/
def eng (c : Cmd) (s : State := svc) : State := { s with host := { s.host with engine := some c } }

/-- A ternary table in gallery 0, and an entry of it in a drawer. -/
def tab : Table := { attr := 0x100, limit := 1000 }
def row : Row := { loc := .drawer 0 0 0 0 0, tbl := 0, id := 5 }
def tabbed : State := { svc with tables := [(0, tab)], rows := [row], bays := [{ g := 0, num := 0, tbl := 0, first := 0, s := 0, units := [0] }],
                                 drawers := [(0, { st := .assigned })] }

/-- An edit group of table 0. -/
def grp (st : GroupSt) : Group := { num := 1, tbl := 0, func := 0, lease := 0, st := st }
def grouped (st : GroupSt) : State := { tabbed with groups := [grp st] }

/-- A member of a cascade of the members 0 and 1, this device being `m`. -/
def ring (m live : Nat) : State := (((svc.put Reg.CSC_CTRL_EN 1).put Reg.CSC_CTRL_RING 3).put Reg.CSC_CTRL_MEMBER m).put Reg.CSC_LIVE_LIVE live

/-- A live member of it. -/
def member (m : Nat) : State := (ring m 3).put Reg.CSC_STATUS_STATE 2

/-- A twin in a pairing state. -/
def twin (p : PairSt) : State := { svc with seam := { pair := p } }
def slot : CmdSlot := { opcode := 0x10, cid := 1, p0 := 0, p1 := 0 }
def mirrored (mine : Bool) (st : MirrorSt) : Mirrored := { id := 3, mine := mine, op := .site 0 0, st := st }
def twinOp (mine : Bool) (st : MirrorSt) : State := { svc with seam := { pair := .paired, ops := [mirrored mine st] } }

/-- A live channel in slot 255 whose waiting record is older than its stall limit of one tick. -/
def stalled : State :=
  { svc with tick := { now := 5 }, sites := [(0, { applied := 0x101FF })], chans := [(255, { st := .live, gen := 1, stallLimit := 1 })],
             ports := [(0, { queue := [{ flits := [⟨0, 0, 0, 0⟩], admitAt := none, offered := some 1 }] })] }

/-- A function with a posted command and an open gate. -/
def posted : State := { (svc.put Reg.QUE_CPL_CTRL_EN 1).put Reg.QUE_CPL_CTRL_LOG2SIZE 4 with host := { fetched := [(0, [(0, slot)])] } }

/-- An image header without a log. -/
def hdr0 : ImageHdr :=
  { seq := 0, imageId := 0, length := 0, bodyCrc := 0, spiN := 0, mode := 0, readOp := 0, dummy := 0, marginOp := 0, refreshOp := 0,
    logBase := 0, logSize := 16 }

/-- A bay of eight units that an entry in the vestibule is bound for, and two siblings. -/
def wide : Bay := { g := 0, num := 0, tbl := 0, first := 0, s := 1, units := List.range 8 }
def splitting : State :=
  { svc with tables := [(0, { tab with sel0 := 1 })], rows := [{ row with loc := .vest 0 0 0, care := 1 }], bays := [wide] }
def sib0 : Bay := { g := 0, num := 0, tbl := 0, first := 0, s := 0 }
def sib1 : Bay := { g := 0, num := 1, tbl := 0, first := 1, s := 0 }
def merging : State := { svc with tables := [(0, { tab with sel0 := 1 })], bays := [sib0, sib1] }
/-- Eight drawers assigned and twelve free. -/
def someDrawers : FMap Drawer :=
  ((List.range 8).map fun i => (i, ({ st := .assigned } : Drawer))) ++ (List.range 12).map fun i => (i + 8, ({ st := .free } : Drawer))
/-- The splitting bay with an entry to move in its lower half and one that spans, and free drawers. -/
def splitting2 : State :=
  { splitting with
    rows := splitting.rows ++ [{ row with id := 6, loc := .drawer 0 0 0 0 0, care := 1 }, { row with id := 7, loc := .drawer 0 0 1 0 0 },
      { row with id := 8, loc := .drawer 0 0 0 1 0, care := 1, value := 1 }],
    drawers := someDrawers }

/-- A cascaded table, a token of member 1 for it, and a device with a token of its own in flight. -/
def ctab : Table := { attr := 0x10140 }
def tokFlits : List Flit := tokenWire { origin := 1, tok := 0, tbl := 0, width := 0, ptick := 0, key := 0 }
def ringed : State := { member 0 with tables := [(0, ctab)] }
def inFlight : State :=
  { member 0 with
    csc := { flight := [(3, 0)] },
    planned := [{ port := 0, flits := [], handle := 0, lookups := [{ tok := some 3, loc := some { origin := 0, tok := 3, tbl := 0, width := 0, ptick := 0, key := 0 } }] }] }

/-! ## Well-formedness: an ill-formed term for each check, and the term mended -/

theorem test_wf_window : (Instr.cabinetCheckDone { cab := 0, mref := some (9, 8), rref := none }).wf = false ∧
    (Instr.cabinetCheckDone { cab := 0, mref := some (8, 9), rref := none }).wf = true := by decide

theorem test_wf_code : (Instr.cabinetCheckDone { cab := 0, mref := none, rref := some (0, 256) }).wf = false := by decide

theorem test_wf_cabinet : (Instr.cabinetCheckDone { cab := 256, mref := none, rref := none }).wf = false := by decide

theorem test_wf_cal_twice :
    (Instr.curCalGo [{ cab := 1, mref := none, rref := none }, { cab := 1, mref := none, rref := none }]).wf = false := by decide

theorem test_wf_lane : (Instr.align (.port 0) 2 0).wf = false ∧ (Instr.align .seam 3 0).wf = true := by decide

theorem test_wf_marker : (Instr.tickMarker .seam 0 31).wf = false ∧ (Instr.tickMarker .seam 0 32).wf = true := by decide

theorem test_wf_boundary : (Instr.tickBoundary { tj := 256 }).wf = false ∧ (Instr.tickBoundary { cplFail := [1, 1] }).wf = false := by
  decide

theorem test_wf_fulltest : (Instr.fulltestComplete [(4352, [], true)] [] []).wf = false ∧
    (Instr.fulltestComplete [(4351, [3], true)] [] []).wf = true ∧ (Instr.drawerSelftest 0 [3, 3] true).wf = false := by decide

theorem test_wf_write : (Instr.rowClear { rows := [[[]], [[]], [[]], [[]], [[]]] }).wf = false ∧ (Instr.rowClear { rows := [[[], [], [], [], []]] }).wf = false ∧
    (Instr.rowClear { rows := [[[0]]] }).wf = true := by decide

theorem test_wf_scrub : (Instr.scrubQueueRead { cells := [(3, 1), (3, 2)] }).wf = false ∧ (Instr.scrubQueueRead { cells := [(576, 1)] }).wf = false ∧
    (Instr.scrubPass [(0, {}), (0, {})] []).wf = false := by decide

theorem test_wf_pcie : (Instr.pcieLinkChange (some (6, 4))).wf = false ∧ (Instr.pcieLinkChange (some (5, 3))).wf = false ∧
    (Instr.pcieLinkChange (some (5, 4))).wf = true := by decide

theorem test_wf_slots : (Instr.cmdTailWrite 0 1 [[]]).wf = false := by decide

theorem test_wf_bays : (Instr.baySplit 0 512).wf = false ∧ (Instr.bayMerge 0 3 3).wf = false ∧ (Instr.bayMerge 0 3 4).wf = true := by
  decide

theorem test_wf_digest_save : (Instr.digestSave 0 544).wf = false ∧ (Instr.digestSave 0 543).wf = true := by decide

theorem test_wf_site : (Instr.siteWrite 0 0 8 true).wf = false ∧ (Instr.siteWrite 0 0 4 true).wf = true := by decide

theorem test_wf_access : (Instr.registerWrite 0 (.bar 4) 8 0).wf = false ∧ (Instr.registerWrite 0 (.bar 8) 8 0).wf = true ∧
    (Instr.registerWrite 0 (.config .command) 8 0).wf = false := by decide

theorem test_wf_pop : (Instr.capPop 0 0 3).wf = false ∧ (Instr.evqPop 0 4).wf = true := by decide

theorem test_wf_token : (Instr.lookupToken true []).wf = false ∧ (Instr.learnToken [0]).wf = true := by decide

/-! ## The block's own rows -/

theorem test_reset_at_step_1 : State.reset.get Reg.BOOT_STATUS_STEP = 1 ∧ State.reset.pins.resetL = false := by decide

theorem test_no_word_spells_a_command : decodeTableWord 64 0 = none ∧ (svc.withFetchWord 64 0).pending = [] := by decide

/-- R59: at P = 400 a ring of 4 members has L_MIN 4 (the example of 02_tick_schedule.md). -/
theorem test_lmin : lMin 400 4 = 4 ∧ lMin 128 1 = 8 := by decide

/-- The worked example of 02_tick_schedule.md: P 128, ACT_FACTOR 2, quotas of 60 and 40 slots. -/
def budgets : State :=
  { ((svc.put Reg.TCK_MEAS_PMEAS 128).put Reg.TCK_ACT_ACT_FACTOR 2).put Reg.TCK_ACT_CAP 65535 with
    chans := [(5, { st := .live, qf := [488] }), (9, { st := .live, qf := [326] })] }

theorem test_budgets : budgets.slotBudget 0 = 126 ∧ budgets.actBudget 0 = 252 ∧ budgets.fetchBudget = 32 ∧
    budgets.quota 5 0 = 60 ∧ budgets.quota 9 0 = 40 ∧ budgets.sparePool 0 = 26 := by decide

/-- The lookups of the worked example of 04_channels_keys.md. -/
theorem test_lookup_descriptor : Lk.en 0x200087 = true ∧ Lk.table 0x200087 = 3 ∧ Lk.width 0x200087 = 1 ∧ Lk.condOp 0x200087 = 0 ∧
    Lk.rfmt 0x200087 = 1 ∧ Lk.table 0x2100FF0040020F = 7 ∧ Lk.condOp 0x2100FF0040020F = 1 ∧ Lk.condMask 0x2100FF0040020F = 0xFF ∧
    Lk.condValue 0x2100FF0040020F = 0x21 := by decide

/-- Its segments: the address at record bits [159:128] goes to key bits [43:12], the constant 5 to [159:156]. -/
theorem test_segments : (buildKey [0x061F200C#64, 0x050_04E03_0005#64] 0 [(0x89ABCDEF#256 <<< 128)] 0 false).toNat =
    0x89ABCDEF * 2 ^ 12 + 5 * 2 ^ 156 := by decide +kernel

/-- The worked sequence of 09_site_return_path.md. -/
theorem test_rpt_bucket : rptBucket 0x031A42 = 0x1A82 ∧ rptBucket 0x030000 = 0x00C0 := by decide

/-- The sets of the worked example of 08_wardrobe.md. -/
theorem test_wardrobe_sets : wrdSet 0x40000 = 0x040 ∧ wrdSet 0x41000 = 0x141 ∧ wrdSet 0x42000 = 0x242 := by decide

/-- R429 and the example after R431: captures of two flits take 11 words, of one flit 6. -/
theorem test_capture_words : capWords 2 = 11 ∧ capWords 1 = 6 := by decide

/-- The check value of the CRC-32 of IEEE 802.3 (R74). -/
theorem test_crc32 : crc32 [0x31, 0x32, 0x33, 0x34, 0x35, 0x36, 0x37, 0x38, 0x39] = 0xCBF43926 := by decide +kernel

theorem test_ternary : ternaryMatch 0 5 7 5 = true ∧ ternaryMatch 0 5 7 4 = false ∧ ternaryMatch 0 4 7 0xC = true ∧
    ternaryMatch 0 1 0 1 = false := by decide +kernel

/-- R6: 0 is later than the last tick number, by one. -/
theorem test_ticks_wrap : tickLater 0 (2 ^ 48 - 1) = true ∧ tickSub 0 (2 ^ 48 - 1) = 1 ∧ tickLater (2 ^ 48 - 1) 0 = false := by decide

/-- R47: a stamp ahead of the tick by more than AHEAD_MAX is admitted late in the tick itself. -/
theorem test_admission_tick : admitTick 12 10 2 = (12, false) ∧ admitTick 13 10 2 = (10, true) ∧ admitTick 9 10 2 = (10, false) := by
  decide

/-! ## One step of some commands -/

/-- The state a command answers. -/
def after (c : Instr) (s : State) : State :=
  match exec c s with
  | .next t => t
  | _ => s

theorem test_short_reset_pulse : after (.resetLAssert 249) svc = svc ∧ (after (.resetLAssert 250) svc).mode = .startUp := by decide

theorem test_boot_site : ((after .bootApply (booting 3 0 2)).site 7).applied = 0x1ABCD := by decide +kernel

theorem test_boot_period : (after (.bootWrite []) (booting 1 0x10008 400)).get Reg.TCK_PERIOD_PERIOD = 400 := by decide +kernel

theorem test_period_range : (after (.tickSettingWrite (.period 31)) svc).get Reg.TCK_STATUS_CFG_ERR = 1 ∧
    ((after (.tickSettingWrite (.period 32)) svc).tick.retime.map (·.period)) = some (some 32) := by decide

theorem test_boundary_counts :
    (after (.tickBoundary {}) { mode := .recovery, clock := 2 ^ 21, tick := { started := true, now := 2 ^ 48 - 1 } }).tick.now = 0 := by decide

theorem test_skew_over_32ns : ((after (.laneAlignment (.port 0) 33) (withPort .align)).link (.port 0)).st ≠ .hello ∧
    ((after (.laneAlignment (.port 0) 32) (withPort .align)).link (.port 0)).st = .hello := by decide

theorem test_flush_counts :
    (after (.prtFlush 3) { svc with ports := [(3, { queue := [{ flits := [], admitAt := none }, { flits := [], admitAt := none }] })] }).get
      Reg.PRT_CNT_FLUSHED_COUNT 3 = 2 := by decide

theorem test_site_write_waits : ((after (.siteWrite 9 0xFFFFFFFF 8 false) svc).site 9).word = 0xDFFFFF ∧
    ((after (.siteWrite 9 0xFFFFFFFF 8 false) svc).site 9).applied = 0 := by decide

theorem test_create_denied_to_vf : ((after (.tblCreate {}) (eng (cmd 0x01 0 3 2))).host.owed.map (·.status)) = [Sts.DENIED] := by decide

theorem test_destroy_absent_table : ((after .tblDestroy (eng (cmd 0x02 0 3))).host.owed.map (·.status)) = [Sts.NOT_FOUND] := by decide +kernel

theorem test_commit_without_group : ((after .editCommit (eng (cmd 0x0A 0 (2 ^ 16)))).host.owed.map (·.status)) = [Sts.NO_GROUP] := by decide

theorem test_delete_absent_entry :
    ((after .tblDelete (eng (cmd 0x04 0 (6 * 2 ^ 32 + 2 ^ 16)) (grouped .open))).host.owed.map (·.status)) = [Sts.NOT_FOUND] := by decide +kernel

theorem test_earn_caps : (after .wearBalanceEarn { svc with clock := 2 ^ 33, cur := { balance := 2 ^ 39 - 1 } }).cur.balance = 2 ^ 39 := by decide

theorem test_higher_waiter_takes_port :
    let s := (({ svc with mnt := { reqs := [(2, { st := .owner }), (4, { st := .waiting })] } } : State).put Reg.MNT_REQ_PRIO 1 2).put Reg.MNT_REQ_PRIO 2 4
    ((after (.breakPoint false) s).req 4).st = .owner ∧ ((after (.breakPoint false) s).req 2).st = .waiting := by decide

theorem test_fuse_lock : (after (.fuseProg (2 ^ 63 - 1)) { svc with fuses := 2 ^ 63, pins := { resetL := false } }).fuses = 2 ^ 63 := by
  decide +kernel

theorem test_pop_takes_oldest : (after (.capPop 0 7 8) { svc with host := { capq := [(7, [1, 2])] } }).out = [.popped 0 1] ∧
    (after (.capPop 0 7 4) { svc with host := { capq := [(7, [1, 2])] } }).out = [.popped 0 0] := by decide

theorem test_nop_succeeds : ((after .nop (eng (cmd 0 0 0))).host.owed.map fun o => (o.cid, o.status, o.ready)) = [(1, Sts.SUCCESS, true)] := by decide

theorem test_bye_detaches : (after .bye (twin .paired)).seam.detachDue = some 3 := by decide

theorem test_learn_token_passes_on : (after (.learnToken (learnFlits 1 0 0 0 5)) (member 0)).out = [.csc (.learn (learnFlits 1 0 0 0 5))] := by
  decide +kernel

/-- Table 3-2: KIND, VERSION, PORT and ACK of a HELLO; R65: the type bit of a block. -/
theorem test_hello_flit : (LinkFlit.hello 3 true).word = 0x130101 ∧ block true 5 = 11 ∧ block false 5 = 10 := by decide

/-- R409: the PF's device identifier. -/
theorem test_device_id : (State.configRead svc 0 .deviceId) = 0x8640 := by decide

theorem test_op3_result_5 : (after .ptInvalid svc).get Reg.CFG_PT_CMD_RESULT = 5 := by decide

theorem test_step_takes_front : step { svc with pending := [.ptInvalid, .bye] } = exec .ptInvalid { svc with pending := [.bye] } := rfl

/-! ## What meets the hypotheses of each statement: for each, one theorem with a part for each of its clauses -/

theorem wit_StepRunsTheFrontCommand : ∃ (s : State) (c : Instr) (rest : List Instr), s.pending = c :: rest :=
  ⟨{ svc with pending := [.ptInvalid] }, .ptInvalid, [], by decide⟩

theorem wit_EmptyQueueLetsOneCyclePass : ∃ (s : State), s.pending = [] :=
  ⟨svc, by decide⟩

theorem wit_ResetLeavesStep1AndShortPulsesAreIgnored :
    (∃ (s : State) (lowNs : Nat), 250 ≤ lowNs ∧ s.pins.resetL = true) ∧
    (∃ (lowNs : Nat), 200 ≤ lowNs) ∧
    (∃ (lowNs : Nat), lowNs < 250) ∧
    (∃ (lowNs : Nat), lowNs < 200) ∧
    (∃ (s : State), s.pins.resetL = false) :=
  ⟨⟨{ tabbed with fuses := 5, ports := [(0, { link := { st := .up } })] }, 250, by decide⟩,
   ⟨200, by decide⟩,
   ⟨249, by decide⟩,
   ⟨199, by decide⟩,
   ⟨{ svc with pins := { resetL := false } }, by decide⟩⟩

theorem wit_StartSequenceAndLedger :
    (∃ (s : State), s.pins.resetL = false ∧ s.pins.watched = true ∧ s.atStep1 = true) ∧
    (∃ (s : State), s.pins.watched = false ∧ s.pins.resetL = true ∧ s.atStep1 = true) ∧
    (∃ (s : State), s.pins.unwatched = false ∧ s.mode = .startUp ∧ s.get Reg.BOOT_STATUS_STEP = 3 ∧ s.boot.timer = none) ∧
    (∃ (s : State), s.pins.resetL = false ∧ s.pins.watched = false) ∧
    (∃ (s : State) (c : Nat), s.mode = .startUp ∧ s.boot.timer = some c ∧ c + s.startLimit ≤ s.clock ∧ (s.ledger.getD {}).seq + 1 < 2 ^ 32) ∧
    (∃ (s : State), s.limitPassed = false) ∧
    (∃ (s : State) (v : BitVec 64), s.ledgerOpen = true ∧ bitOf v 0 = true ∧ (s.ledger.getD {}).seq + 1 < 2 ^ 32) ∧
    (∃ (s : State) (v : BitVec 64), s.ledgerOpen = true ∧ bitOf v 0 = false) :=
  ⟨⟨{ pins := { resetL := false } }, by decide⟩,
   ⟨{ pins := { core := false } }, by decide⟩,
   ⟨{ State.put {} Reg.BOOT_STATUS_STEP 3 with pins := { unwatched := false }, ledgerA := { count := 4, seq := 1, good := true } }, by decide⟩,
   ⟨{ pins := { resetL := false, core := false } }, by decide⟩,
   ⟨{ boot := { timer := some 0 }, clock := 2 ^ 40 }, 0, by decide⟩,
   ⟨svc, by decide⟩,
   ⟨svc, 1, by decide⟩,
   ⟨svc, 2, by decide⟩⟩

theorem wit_BootProgramRuns :
    (∃ (s : State) (off : Nat) (v : Nat), s.bootTurn 2 = some (off, v)) ∧
    (∃ (s : State) (c : Nat), s.boot.waitUntil = some c ∧ c ≤ s.clock) ∧
    (∃ (s : State) (c : Nat), s.boot.waitUntil = some c ∧ s.clock < c) ∧
    (∃ (s : State) (off : Nat) (v : Nat), s.bootTurn 4 = some (off, v) ∧ s.mapOk = true) ∧
    (∃ (s : State) (off : Nat) (v : Nat), s.bootTurn 4 = some (off, v) ∧ s.mapOk = false) ∧
    (∃ (s : State) (cal : List CabCal) (off : Nat) (v : Nat), s.bootTurn 1 = some (off, v) ∧ ((s.bootReg cal off v).bootNext.limitPassed = true → s.limitPassed = true)) ∧
    (∃ (s : State) (cal : List CabCal) (off : Nat) (v : Nat), s.bootTurn 1 = some (off, v) ∧ (s.bootReg cal off v).bootNext.limitPassed = true ∧ s.limitPassed = false) ∧
    (∃ (v : Nat), 32 ≤ v ∧ v ≤ 1048576) ∧
    (∃ (s : State), s.unsealed = true) ∧
    (∃ (s : State), s.unsealed = false) ∧
    (∃ (s : State) (off : Nat) (v : Nat), s.bootTurn 3 = some (off, v) ∧ (v % 256 = 0 ∨ 5 < v % 256)) ∧
    (∃ (s : State) (off : Nat) (v : Nat), s.bootTurn 3 = some (off, v) ∧ 1 ≤ v % 256 ∧ v % 256 ≤ 5) ∧
    (∃ (s : State) (u : State) (off : Nat) (v : Nat), s.bootTurn 0 = some (off, v) ∧ u = (s.startTables []).put Reg.BOOT_PROG_PC s.boot.pc ∧ u.flag Reg.BOOT_STATUS_HALTED = false ∧ u.unsealed = true ∧ u.mapOk = false) ∧
    (∃ (s : State) (u : State) (off : Nat) (v : Nat), s.bootTurn 0 = some (off, v) ∧ u = (s.startTables []).put Reg.BOOT_PROG_PC s.boot.pc ∧ u.flag Reg.BOOT_STATUS_HALTED = false ∧ (u.unsealed = true → u.mapOk = true) ∧ u.enabledLinks ≠ []) ∧
    (∃ (s : State) (u : State) (off : Nat) (v : Nat), s.bootTurn 0 = some (off, v) ∧ u = (s.startTables []).put Reg.BOOT_PROG_PC s.boot.pc ∧ u.flag Reg.BOOT_STATUS_HALTED = false ∧ (u.unsealed = true → u.mapOk = true) ∧ u.enabledLinks = []) ∧
    (∃ (s : State), s.mode = .startUp ∧ s.boot.training = true ∧ (s.ledger.getD {}).seq + 1 < 2 ^ 32) :=
  ⟨⟨booting 2 0 10, 0, 10, by decide⟩,
   ⟨{ boot := { waitUntil := some 0 } }, 0, by decide⟩,
   ⟨{ boot := { waitUntil := some 5 } }, 5, by decide⟩,
   ⟨booting 4 0 0, 0, 0, by decide⟩,
   ⟨(booting 4 0 0).put Reg.BOOT_PMAP_CHN_LO 9 1, 0, 0, by decide⟩,
   ⟨booting 1 0x10008 32, [], 0x10008, 32, by decide +kernel⟩,
   ⟨{ booting 1 0x120018 0 with clock := 125000000, boot := { (booting 1 0x120018 0).boot with timer := some 0 } }, [], 0x120018, 0, by decide +kernel⟩,
   ⟨32, by decide⟩,
   ⟨{}, by decide⟩,
   ⟨svc.put Reg.BOOT_STATUS_SEALED 1, by decide⟩,
   ⟨booting 3 0 6, 0, 6, by decide⟩,
   ⟨booting 3 0 2, 0, 2, by decide⟩,
   ⟨(booting 0 0 0).put Reg.BOOT_PMAP_CHN_LO 9 1, _, 0, 0, ⟨by decide +kernel, rfl, by decide +kernel, by decide +kernel, by decide +kernel⟩⟩,
   ⟨(booting 0 0 0).put Reg.SEAM_CTRL_EN 1, _, 0, 0, ⟨by decide +kernel, rfl, by decide +kernel, by decide +kernel, by decide +kernel⟩⟩,
   ⟨booting 0 0 0, _, 0, 0, ⟨by decide +kernel, rfl, by decide +kernel, by decide +kernel, by decide +kernel⟩⟩,
   ⟨{ boot := { training := true } }, by decide⟩⟩

theorem wit_TickBoundaryAndPlan :
    (∃ (s : State), s.boundaryDue = false) ∧
    (∃ (s : State), s.mode = .recovery ∧ s.boundaryDue = true) ∧
    (∃ (s : State), s.mode = .service ∧ s.boundaryDue = true) ∧
    (∃ (s : State), s.mode = .service) ∧
    (∃ (s : State), s.mode = .service ∧ s.tick.marker = none) ∧
    (∃ (s : State) (n : _), s.mode = .service ∧ s.tick.marker = some n ∧ s.get Reg.TCK_CTRL_SRC = 2) ∧
    (∃ (s : State), s.tick.started = true ∧ tickAdd s.tick.plan 1 = s.tick.now ∧ s.tick.last + s.guardCycles ≤ s.clock ∧ s.tick.openPrev = false) ∧
    (∃ (s : State), s.tick.started = true ∧ tickAdd s.tick.plan 1 = s.tick.now ∧ s.tick.last + s.guardCycles ≤ s.clock ∧ s.tick.openPrev = true) ∧
    (∃ (s : State), (s.tick.started = false ∨ tickAdd s.tick.plan 1 ≠ s.tick.now ∨ s.clock < s.tick.last + s.guardCycles)) :=
  ⟨⟨{ svc.put Reg.TCK_MEAS_PMEAS 32 with clock := 31, tick := { started := true, len := 32 } }, by decide⟩,
   ⟨{ mode := .recovery, clock := 2 ^ 40, tick := { started := true, len := 32 } }, by decide⟩,
   ⟨{ svc.put Reg.TCK_MEAS_PMEAS 32 with clock := 32, tick := { started := true, len := 32 } }, by decide⟩,
   ⟨svc, by decide⟩,
   ⟨svc, by decide⟩,
   ⟨{ svc.put Reg.TCK_CTRL_SRC 2 with tick := { marker := some 7 } }, 7, by decide⟩,
   ⟨{ svc with tick := { started := true, now := 1, openPrev := false } }, by decide⟩,
   ⟨{ svc with tick := { started := true, now := 1, openPrev := true } }, by decide⟩,
   ⟨svc, by decide⟩⟩

theorem wit_TickSources :
    (∃ (s : State), s.mode = .service ∧ s.get Reg.TCK_CTRL_SRC = 1 ∧ s.flag Reg.TCK_STATUS_LOCKED = false ∧ s.tick.edges.length < 2) ∧
    (∃ (s : State) (a : _) (b : _), s.mode = .service ∧ s.get Reg.TCK_CTRL_SRC = 1 ∧ s.flag Reg.TCK_STATUS_LOCKED = false ∧ s.tick.edges = [a, b] ∧ periodOk ((s.clock - a) / 2 - 2) = true) ∧
    (∃ (s : State), s.mode = .service ∧ s.get Reg.TCK_CTRL_SRC = 1 ∧ s.flag Reg.TCK_STATUS_LOCKED = true ∧ s.flag Reg.TCK_STATUS_LOST = false ∧ ((s.clock : Int) - s.tick.expected).natAbs ≤ 2) ∧
    (∃ (s : State) (a : _) (b : _), s.mode = .service ∧ s.get Reg.TCK_CTRL_SRC = 1 ∧ s.flag Reg.TCK_STATUS_LOCKED = true ∧ s.flag Reg.TCK_STATUS_LOST = true ∧ s.tick.watch = [a, b] ∧ near (b - a) s.period = true ∧ near (s.clock - b) s.period = true) ∧
    (∃ (s : State), s.mode = .service ∧ s.get Reg.TCK_CTRL_SRC ≠ 0 ∧ s.flag Reg.TCK_STATUS_LOCKED = true) ∧
    (∃ (s : State), s.get Reg.TCK_CTRL_SRC = 1 ∧ (s.flag Reg.TCK_STATUS_LOCKED = false ∨ s.tick.await = true)) ∧
    (∃ (s : State) (l : Link) (f : Flit) (p : Nat), s.markerLink = some l ∧ Lf.kind f = kTick ∧ p < 2 ^ 21) ∧
    (∃ (s : State) (l : Link) (f : Flit), (s.markerLink ≠ some l ∨ Lf.kind f ≠ kTick)) :=
  ⟨⟨svc.put Reg.TCK_CTRL_SRC 1, by decide⟩,
   ⟨{ svc.put Reg.TCK_CTRL_SRC 1 with clock := 204, tick := { edges := [100, 150] } }, 100, 150, by decide⟩,
   ⟨{ ((svc.put Reg.TCK_CTRL_SRC 1).put Reg.TCK_STATUS_LOCKED 1).put Reg.TCK_MEAS_PMEAS 50 with clock := 102, tick := { expected := 100 } }, by decide⟩,
   ⟨{ (((svc.put Reg.TCK_CTRL_SRC 1).put Reg.TCK_STATUS_LOCKED 1).put Reg.TCK_STATUS_LOST 1).put Reg.TCK_MEAS_PMEAS 50 with clock := 200, tick := { watch := [100, 150], lossClosed := true } },
      100, 150, by decide⟩,
   ⟨(svc.put Reg.TCK_CTRL_SRC 1).put Reg.TCK_STATUS_LOCKED 1, by decide⟩,
   ⟨svc.put Reg.TCK_CTRL_SRC 1, by decide⟩,
   ⟨{ svc.put Reg.TCK_CTRL_SRC 2 with seam := { pair := .paired, role := 2, link := { st := .up } } }, .seam, BitVec.ofNat 256 kTick, 400, by decide⟩,
   ⟨svc, .seam, 0, by decide⟩⟩

theorem wit_RetimingTakesSettings :
    (∃ (s : State) (t : TickSetting), s.mode = .service ∧ s.settingOk t = true ∧ (s.settingHeld t = false ∨ s.tick.retime.isSome = true)) ∧
    (∃ (s : State) (t : TickSetting), s.mode = .service ∧ s.settingOk t = true ∧ s.settingHeld t = true ∧ s.tick.retime = none) ∧
    (∃ (s : State) (r : Retime), s.tick.retime = some r ∧ s.tick.applied = false ∧ s.drained = true ∧ s.tick.last = s.clock) ∧
    (∃ (s : State) (r : Retime), s.tick.retime = some r ∧ s.tick.applied = false ∧ (s.drained = false ∨ s.tick.last ≠ s.clock)) :=
  ⟨⟨svc, .period 64, by decide⟩,
   ⟨svc.put Reg.TCK_PERIOD_PERIOD 64, .period 64, by decide⟩,
   ⟨{ svc with tick := { retime := some { period := some 64 } }, clock := 0 }, { period := some 64 }, by decide⟩,
   ⟨{ svc with tick := { retime := some { period := some 64 } }, clock := 1 }, { period := some 64 }, by decide⟩⟩

theorem wit_TickSettingOutOfRange :
    (∃ (s : State) (v : BitVec 21), s.mode = .service ∧ (v.toNat < 32 ∨ 1048576 < v.toNat)) ∧
    (∃ (s : State) (v : BitVec 7), s.mode = .service ∧ 64 < v.toNat) ∧
    (∃ (s : State) (v : BitVec 5), s.mode = .service ∧ (v.toNat < 2 ∨ 16 < v.toNat)) ∧
    (∃ (s : State) (v : BitVec 64) (size : Nat), s.mode = .service ∧ s.barOpen 0 = true ∧ (size = 4 ∨ size = 8) ∧ v.toNat % 2 ^ 16 = 0) ∧
    (∃ (v : Nat), (v % 2 ^ 21 < 32 ∨ 1048576 < v % 2 ^ 21)) ∧
    (∃ (v : Nat), 64 < v % 2 ^ 7) ∧
    (∃ (v : Nat), (v % 2 ^ 5 < 2 ∨ 16 < v % 2 ^ 5)) ∧
    (∃ (v : Nat), v % 2 ^ 16 = 0) :=
  ⟨⟨svc, 31, by decide⟩,
   ⟨svc, 65, by decide⟩,
   ⟨svc, 17, by decide⟩,
   ⟨opened, 0x10000, 8, by decide⟩,
   ⟨31, by decide⟩,
   ⟨65, by decide⟩,
   ⟨17, by decide⟩,
   ⟨0x10000, by decide⟩⟩

theorem wit_SealedFieldsStay : ∃ (s : State) (off : BitVec 26) (size : Nat) (v : BitVec 64), s.flag Reg.BOOT_STATUS_SEALED = true ∧ s.mode ≠ .dormant
    ∧ s.barOpen 0 = true ∧ (size = 4 ∨ size = 8) ∧ off.toNat % size = 0 ∧ touchesSealed (busWord off.toNat size v).2 (off.toNat / 8 * 8) = true :=
  ⟨opened.put Reg.BOOT_STATUS_SEALED 1, 0x120160, 8, -1, by decide +kernel⟩

theorem wit_LinksTrainAndGoDown :
    (∃ (s : State) (l : Link), s.mayTrain = true ∧ (s.link l).st = .seek) ∧
    (∃ (s : State) (l : Link), s.mayTrain = true ∧ (s.link l).st = .lock) ∧
    (∃ (s : State) (l : Link) (skew : Nat), s.mayTrain = true ∧ (s.link l).st = .align ∧ skew ≤ 32) ∧
    (∃ (s : State) (l : Link) (f : Flit), s.mayTrain = true ∧ (s.link l).st = .hello ∧ Lf.kind f = kHello ∧ Lf.ack f = false ∧ (s.link l).gotAck = false) ∧
    (∃ (s : State) (l : Link) (f : Flit), s.mayTrain = true ∧ (s.link l).st = .hello ∧ Lf.kind f = kHello ∧ (Lf.ack f = true ∨ (s.link l).gotAck = true)) ∧
    (∃ (s : State) (l : Link), (s.link l).st = .hello) ∧
    (∃ (s : State) (l : Link) (why : DownCause), (s.link l).st = .up ∧ (why = .uncorrectable → ∃ e ∈ (s.link l).uncorr, 8 < (s.link l).window e.1 e.2)) ∧
    (∃ (s : State) (l : Link), (s.link l).st = .up ∧ (∀ e ∈ (s.link l).uncorr, (s.link l).window e.1 e.2 ≤ 8)) ∧
    (∃ (s : State) (p : Fin 16), s.mode = .service ∧ s.portUp p = true) :=
  ⟨⟨withPort .seek, .port 0, by decide⟩,
   ⟨withPort .lock, .port 0, by decide⟩,
   ⟨withPort .align, .port 0, 32, by decide⟩,
   ⟨withPort .hello, .port 0, BitVec.ofNat 256 kHello, by decide⟩,
   ⟨withPort .hello, .port 0, BitVec.ofNat 256 (kHello + 2 ^ 20), by decide⟩,
   ⟨withPort .hello, .port 0, by decide⟩,
   ⟨withPort .up, .port 0, .clockLost, by decide⟩,
   ⟨withPort .up, .port 0, by decide⟩,
   ⟨withPort .up, 0, by decide⟩⟩

theorem wit_PortControl :
    (∃ (s : State), s.mode = .service) ∧
    (∃ (s : State) (p : Fin 16), s.mode = .service ∧ (s.port p).link.st ≠ .selftest) ∧
    (∃ (s : State) (p : Fin 16), (s.port p).link.st = .selftest ∧ s.flag Reg.PRT_STATUS_SELFTEST_DONE p = false) ∧
    (∃ (s : State) (p : Fin 16), s.mode = .service ∧ (s.port p).link.st = .selftest) :=
  ⟨⟨svc, by decide⟩,
   ⟨withPort .up, 0, by decide⟩,
   ⟨withPort .selftest, 0, by decide⟩,
   ⟨withPort .selftest, 0, by decide⟩⟩

theorem wit_RecordsArriveAndCommit :
    (∃ (s : State) (p : Fin 16), s.get Reg.PRT_CREDIT_IN_HELD p < 2 ^ 13 ∧ s.portUp p = false) ∧
    (∃ (s : State) (p : Fin 16), s.get Reg.PRT_CREDIT_IN_HELD p < 2 ^ 13 ∧ s.portUp p = true) ∧
    (∃ (s : State) (p : Fin 16) (fl : List QFlit) (rest : List (List QFlit × Bool)), (s.port p).complete = (fl, true) :: rest ∧ headBad fl = false ∧ s.dorm.phase ≠ .entering ∧ (s.seam.pair = .target → ∃ j, s.seam.joinAt = some j ∧ tickLater j (recStamp (fl.map QFlit.flit)) = false)) ∧
    (∃ (s : State) (p : Fin 16) (fl : List QFlit) (rest : List (List QFlit × Bool)), (s.port p).complete = (fl, true) :: rest ∧ headBad fl = true) ∧
    (∃ (s : State) (p : Fin 16) (fl : List QFlit) (rest : List (List QFlit × Bool)), (s.port p).complete = (fl, false) :: rest) ∧
    (∃ (s : State) (p : Fin 16), (s.port p).complete = []) :=
  ⟨⟨withPort .seek, 0, by decide⟩,
   ⟨(withPort .up).put Reg.PRT_CREDIT_IN_HELD 1 0, 0, by decide⟩,
   ⟨{ svc with ports := [(0, { complete := [([], true)] })] }, 0, [], [], by decide⟩,
   ⟨{ svc with ports := [(0, { complete := [([⟨1, 0, 0, 0⟩], true)] })] }, 0, [⟨1, 0, 0, 0⟩], [], by decide +kernel⟩,
   ⟨{ svc with ports := [(0, { complete := [([], false)] })] }, 0, [], [], by decide⟩,
   ⟨svc, 0, by decide⟩⟩

theorem wit_LinkFlits :
    (∃ (s : State) (p : Fin 16) (f : Flit), s.portUp p = true ∧ Lf.kind f = kCredit) ∧
    (∃ (s : State) (f : Flit), s.seam.link.st = .up ∧ Lf.kind f = kCredit) ∧
    (∃ (s : State) (l : Link) (f : Flit), (s.link l).st = .up ∧ Lf.kind f = kSync ∧ (l = .seam ∨ ∃ p, l = .port p)) ∧
    (∃ (s : State) (l : Link) (lane : Nat) (f : Flit), Lf.kind f = kAlign ∧ lane < (s.link l).alignRx.length) ∧
    (∃ (s : State) (l : Link) (lane : Nat) (n : Nat), (s.link l).st.sending = true ∧ lane < (s.link l).alignTx.length ∧ n = (s.link l).alignTx.getD lane 0 + 1 ∧ 16384 * n ≤ s.laneFlits l) ∧
    (∃ (s : State) (l : Link) (lane : Nat) (n : Nat), (s.link l).st.sending = true ∧ lane < (s.link l).alignTx.length ∧ n = (s.link l).alignTx.getD lane 0 + 1 ∧ s.laneFlits l < 16384 * n) ∧
    (∃ (p : Fin 16) (f : Flit), kindValid (.port p) (Lf.kind f) = false) ∧
    (∃ (l : _), l ∈ [Link.seam, .up, .down]) ∧
    (∃ (s : State) (l : Link), (s.link l).st ≠ .up) ∧
    (∃ (s : State) (l : Link), (s.link l).st = .up) :=
  ⟨⟨withPort .up, 0, BitVec.ofNat 256 kCredit, by decide⟩,
   ⟨{ svc with seam := { link := { st := .up } } }, BitVec.ofNat 256 kCredit, by decide⟩,
   ⟨withPort .up, .port 0, BitVec.ofNat 256 kSync, by decide⟩,
   ⟨withPort .align, .port 0, 0, BitVec.ofNat 256 kAlign, by decide⟩,
   ⟨{ svc with ports := [(0, { link := { st := .up, since := 0 } })], clock := 16384 * 100 }, .port 0, 0, 1, by decide⟩,
   ⟨withPort .up, .port 0, 0, 1, by decide⟩,
   ⟨0, 0xFF, by decide⟩,
   ⟨Link.seam, by decide⟩,
   ⟨withPort .seek, .port 0, by decide⟩,
   ⟨withPort .up, .port 0, by decide⟩⟩

theorem wit_TernaryMatchRule :
    (∃ (w : Nat), w < 4) ∧
    (∃ (w : Nat) (value : BitVec 640) (care : BitVec 640), w < 4 ∧ (∃ i < widthBits w, bitOf value i = true ∧ bitOf care i = false)) :=
  ⟨⟨3, by decide⟩,
   ⟨3, 1, 0, by decide +kernel⟩⟩

theorem wit_CatalogueCode :
    (∃ (t : Table) (k : _), k < t.ncat) ∧
    (∃ (t : Table), t.ncat = 0) :=
  ⟨⟨{ tab with sel0 := 1 }, 0, by decide⟩,
   ⟨tab, by decide⟩⟩

theorem wit_EntryRecordRoundTrip : ∃ (w : Nat) (id : Nat) (rank : Nat) (dref : Nat) (info : Nat) (value : BitVec 640) (care : BitVec 640), w < 4 ∧ id
    < 2 ^ 24 ∧ rank < 2 ^ 16 ∧ dref < 2 ^ 22 ∧ info < 2 ^ 64 ∧ value.toNat < 2 ^ widthBits w ∧ care.toNat < 2 ^ widthBits w :=
  ⟨0, 2 ^ 24 - 1, 2 ^ 16 - 1, 2 ^ 22 - 1, 2 ^ 64 - 1, 2 ^ 80 - 1, 1, by decide +kernel⟩

theorem wit_SearchSlotSearchesOne :
    (∃ (s : State) (i : Nat) (k : Nat), s.nextLookup = some (i, k)) ∧
    (∃ (s : State), s.nextLookup = none) :=
  ⟨⟨{ svc with planned := [{ port := 0, flits := [], handle := 0, lookups := [{ act := .search }] }] }, 0, 0, by decide⟩,
   ⟨svc, by decide⟩⟩

theorem wit_VerdictsCapturesAndControlLeave :
    (∃ (s : State) (p : Fin 16) (i : Nat) (pl : Planned), s.nextVerdict p = some i ∧ s.planned[i]? = some pl ∧ s.portUp p = true) ∧
    (∃ (s : State) (p : Fin 16) (c : Capture) (rest : List Capture), (s.port p).capBuf = c :: rest ∧ s.get Reg.PRT_CREDIT_OUT_HELD p < 2 ^ 16 ∧ s.portUp p = true ∧ s.controlWaits p = false ∧ c.flits.length + 1 ≤ s.get Reg.PRT_CREDIT_OUT_HELD p) ∧
    (∃ (s : State) (p : Fin 16) (c : Capture) (rest : List Capture), (s.port p).capBuf = c :: rest ∧ s.get Reg.PRT_CREDIT_OUT_HELD p < 2 ^ 16 ∧ (s.controlWaits p = true ∨ s.get Reg.PRT_CREDIT_OUT_HELD p < c.flits.length + 1)) ∧
    (∃ (s : State) (p : Fin 16) (c : CtlOp), (s.host.ctl.find? fun c => c.copies.contains p.val) = some c ∧ s.get Reg.PRT_CREDIT_OUT_HELD p < 2 ^ 16 ∧ s.portUp p = true ∧ s.get Reg.PRT_CREDIT_OUT_HELD p ≠ 0) ∧
    (∃ (s : State) (p : Fin 16) (c : CtlOp), (s.host.ctl.find? fun c => c.copies.contains p.val) = some c ∧ s.get Reg.PRT_CREDIT_OUT_HELD p < 2 ^ 16 ∧ s.get Reg.PRT_CREDIT_OUT_HELD p = 0) :=
  ⟨⟨{ withPort .up with planned := [{ port := 0, flits := [], handle := 0, formed := true, dest := [(0, 0)] }], tick := { now := (withPort .up).lat } },
      0, 0, { port := 0, flits := [], handle := 0, formed := true, dest := [(0, 0)] }, by decide⟩,
   ⟨{ (withPort .up).put Reg.PRT_CREDIT_OUT_HELD 1 0 with ports := [(0, { link := { st := .up }, capBuf := [{ srcPort := 0, tick := 0, flits := [] }] })] },
      0, { srcPort := 0, tick := 0, flits := [] }, [], by decide⟩,
   ⟨{ (withPort .up).put Reg.PRT_CREDIT_OUT_HELD 0 0 with ports := [(0, { link := { st := .up }, capBuf := [{ srcPort := 0, tick := 0, flits := [] }] })] },
      0, { srcPort := 0, tick := 0, flits := [] }, [], by decide⟩,
   ⟨{ (withPort .up).put Reg.PRT_CREDIT_OUT_HELD 1 0 with host := { ctl := [{ msg := 0, tag := 0, body := [], copies := [0] }] } }, 0,
      { msg := 0, tag := 0, body := [], copies := [0] }, by decide⟩,
   ⟨{ (withPort .up).put Reg.PRT_CREDIT_OUT_HELD 0 0 with host := { ctl := [{ msg := 0, tag := 0, body := [], copies := [0] }] } }, 0,
      { msg := 0, tag := 0, body := [], copies := [0] }, by decide⟩⟩

theorem wit_SiteWrites :
    (∃ (s : State) (size : Nat) (upper : Bool), s.mode = .service ∧ (size = 8 ∨ (size = 4 ∧ upper = false)) ∧ s.seam.pair ≠ .paired) ∧
    (∃ (s : State) (size : Nat) (upper : Bool), s.mode = .service ∧ (size = 8 ∨ (size = 4 ∧ upper = false)) ∧ s.seam.pair = .paired) ∧
    (∃ (s : State) (size : Nat) (upper : Bool), s.mode = .service ∧ ((size = 4 ∧ upper = true) ∨ (size ≠ 4 ∧ size ≠ 8))) :=
  ⟨⟨svc, 4, false, by decide⟩,
   ⟨twin .paired, 8, false, by decide⟩,
   ⟨svc, 4, true, by decide⟩⟩

theorem wit_ReturnPath :
    (∃ (s : State), s.mode = .service) ∧
    (∃ (s : State), s.mode = .service) ∧
    (∃ (s : State) (op : BitVec 2), s.mode = .service ∧ s.flag Reg.RPT_STATIC_BUSY = false ∧ (op = 0 ∨ op = 3)) ∧
    (∃ (s : State), s.mode = .service ∧ s.get Reg.RPT_CTRL_AGE_S ≠ 0) ∧
    (∃ (s : State) (c : Cmd) (d : Dma), s.engineOp 0x18 = some c ∧ s.host.mirror = none ∧ c.func = 0 ∧ badParams c.slot = false ∧ d.wrOk = true ∧ (∀ x ∈ s.rpt, x.bad = false)) ∧
    (∃ (s : State) (c : Cmd) (d : Dma), s.engineOp 0x19 = some c ∧ s.host.mirror = none ∧ c.func = 0 ∧ badParams c.slot = false ∧ d.wrOk = true ∧ (∀ x ∈ s.rpt, x.bad = false)) ∧
    (∃ (s : State) (c : Cmd), s.engineOp 0x1A = some c ∧ s.host.mirror = none ∧ c.func = 0 ∧ badParams c.slot = false) ∧
    (∃ (s : State) (c : Cmd) (d : Dma) (b : List Byte), s.engineOp 0x1B = some c ∧ s.host.mirror = none ∧ c.func = 0 ∧ badParams c.slot = false ∧ d.rd = some b ∧ (∀ x ∈ s.rpt, x.bad = false) ∧ ((∃ e, s.rptEntry (bits c.slot.p1 39 16) = some e ∧ s.portUp e.port = true) ∨ s.rptEntry (bits c.slot.p1 39 16) = none)) ∧
    (∃ (s : State) (c : Cmd) (d : Dma) (b : List Byte) (e : RptEntry), s.engineOp 0x1B = some c ∧ s.host.mirror = none ∧ c.func = 0 ∧ badParams c.slot = false ∧ d.rd = some b ∧ (∀ x ∈ s.rpt, x.bad = false) ∧ s.rptEntry (bits c.slot.p1 39 16) = some e ∧ s.portUp e.port = false) :=
  ⟨⟨svc, by decide⟩,
   ⟨svc, by decide⟩,
   ⟨svc, 3, by decide⟩,
   ⟨{ svc.put Reg.RPT_CTRL_AGE_S 1 with rpt := [{ bucket := 0, way := 0, tag := 7, port := 0, static := true, last := 0 }, { bucket := 0, way := 1, tag := 8, port := 0, static := false, last := 0 }], clock := 2 ^ 40 },
      by decide⟩,
   ⟨{ eng (cmd 0x18 0 7) with rpt := [{ bucket := 0, way := 0, tag := 7, port := 0, static := true, last := 0 }] }, cmd 0x18 0 7, {}, by decide⟩,
   ⟨{ eng (cmd 0x19 0 0) with rpt := [{ bucket := 0, way := 0, tag := 7, port := 0, static := true, last := 0 }] }, cmd 0x19 0 0, {}, by decide⟩,
   ⟨eng (cmd 0x1A 0 0), cmd 0x1A 0 0, by decide⟩,
   ⟨eng (cmd 0x1B 0 0), cmd 0x1B 0 0, { rd := some [] }, [], by decide⟩,
   ⟨{ eng (cmd 0x1B 0 (7 * 2 ^ 16)) with rpt := [{ bucket := rptBucket 7, way := 0, tag := 7, port := 0, static := true, last := 0 }] }, cmd 0x1B 0
      (7 * 2 ^ 16), { rd := some [] }, [], { bucket := rptBucket 7, way := 0, tag := 7, port := 0, static := true, last := 0 }, by decide⟩⟩

theorem wit_ShadowEngine :
    (∃ (s : State), s.mode = .service) ∧
    (∃ (s : State), s.mode = .service) ∧
    (∃ (s : State) (bad : List Nat), s.mode = .service ∧ s.flag Reg.RPT_CTRL_SHADOW_EN = true ∧ s.reqFenced 13 = false ∧ (∀ e ∈ s.rpt, e.bad = false) ∧ bad = (s.shadowBuckets.filter fun b => s.bucketDigest b != fgetD s.shadow b 0) ∧ bad = []) ∧
    (∃ (s : State) (bad : List Nat) (b : Nat) (rest : List Nat), s.mode = .service ∧ s.flag Reg.RPT_CTRL_SHADOW_EN = true ∧ s.reqFenced 13 = false ∧ (∀ e ∈ s.rpt, e.bad = false) ∧ bad = (s.shadowBuckets.filter fun b => s.bucketDigest b != fgetD s.shadow b 0) ∧ bad = b :: rest ∧ rest.foldl min b < 2 ^ 14) :=
  ⟨⟨svc, by decide⟩,
   ⟨svc, by decide⟩,
   ⟨svc.put Reg.RPT_CTRL_SHADOW_EN 1, _, ⟨by decide, by decide, by decide, by decide, rfl, by decide⟩⟩,
   ⟨{ svc.put Reg.RPT_CTRL_SHADOW_EN 1 with shadow := [(16383, 1)] }, [16383], 16383, [], by decide +kernel⟩⟩

theorem wit_ChannelLifecycle :
    (∃ (s : State) (c : Cmd) (d : Dma) (b : List Byte) (n : Nat), s.engineOp 0x10 = some c ∧ s.host.mirror = none ∧ s.seam.pair ≠ .paired ∧ badParams c.slot = false ∧ d.rd = some b ∧ s.badTemplate (templateOf b) c.slot.p0.toNat (bits c.slot.p1 8 0) = false ∧ s.mayReference c.func (templateOf b).lookups = true ∧ s.freeSlot c.func = some n ∧ s.quotaFits (templateOf b).qf = true) ∧
    (∃ (s : State) (c : Cmd) (n : Nat), s.engineOp 0x11 = some c ∧ s.host.mirror = none ∧ s.seam.pair ≠ .paired ∧ badParams c.slot = false ∧ n = bits c.slot.p0 15 0 % 256 ∧ n ≠ 0 ∧ (c.func = 0 ∨ s.slotRange c.func n = true) ∧ (s.chan n).gen = bits c.slot.p0 15 0 / 256 ∧ (s.chan n).st = .live) ∧
    (∃ (s : State) (slot : BitVec 8) (k : Tick), (s.chan slot.toNat).fencedAt = some k ∧ (s.chan slot.toNat).st = .fencing ∧ tickLe (tickAdd k (s.lat + s.settle)) s.tick.now = true) ∧
    (∃ (s : State) (slot : BitVec 8) (k : Tick), (s.chan slot.toNat).fencedAt = some k ∧ (s.chan slot.toNat).st = .fencing ∧ tickLe (tickAdd k (s.lat + s.settle)) s.tick.now = false) :=
  ⟨⟨eng (cmd 0x10 0 64), cmd 0x10 0 64, { rd := some (leBytes 64 0) }, leBytes 64 0, 1, by decide⟩,
   ⟨{ eng (cmd 0x11 0x101 0) with chans := [(1, { st := .live, gen := 1 })] }, cmd 0x11 0x101 0, _,
      ⟨by decide, by decide, by decide, by decide, rfl, by decide, by decide, by decide, by decide⟩⟩,
   ⟨{ svc with chans := [(255, { st := .fencing, fencedAt := some 0 })], tick := { now := 100 } }, 255, 0, by decide⟩,
   ⟨{ svc with chans := [(255, { st := .fencing, fencedAt := some 0 })] }, 255, 0, by decide⟩⟩

theorem wit_QuotasAndStall :
    (∃ (s : State) (f : Fin 16) (slot : BitVec 8) (hi : Bool) (v : BitVec 64) (n : Nat) (q : List Nat), s.mode = .service ∧ n = slot.toNat ∧ q = newQuota (s.chan n).qf hi v ∧ s.slotRange f n = true ∧ ((s.chan n).st = .live ∨ (s.chan n).st = .destroying) ∧ (∀ g < 8, s.qfSum g - (s.chan n).qf.getD g 0 + q.getD g 0 ≤ 1024) ∧ s.seam.pair ≠ .paired) ∧
    (∃ (s : State) (f : Fin 16) (slot : BitVec 8) (hi : Bool) (v : BitVec 64) (n : Nat) (q : List Nat), s.mode = .service ∧ n = slot.toNat ∧ q = newQuota (s.chan n).qf hi v ∧ s.slotRange f n = true ∧ ((s.chan n).st = .live ∨ (s.chan n).st = .destroying) ∧ (∀ g < 8, s.qfSum g - (s.chan n).qf.getD g 0 + q.getD g 0 ≤ 1024) ∧ s.seam.pair = .paired) ∧
    (∃ (s : State) (f : Fin 16) (slot : BitVec 8) (hi : Bool) (v : BitVec 64) (n : Nat) (q : List Nat), s.mode = .service ∧ n = slot.toNat ∧ q = newQuota (s.chan n).qf hi v ∧ s.slotRange f n = true ∧ ((s.chan n).st = .live ∨ (s.chan n).st = .destroying) ∧ (∃ g < 8, 1024 < s.qfSum g - (s.chan n).qf.getD g 0 + q.getD g 0) ∧ s.seam.pair ≠ .paired) ∧
    (∃ (s : State) (f : Fin 16) (slot : BitVec 8) (hi : Bool) (v : BitVec 64) (n : Nat) (q : List Nat), s.mode = .service ∧ n = slot.toNat ∧ q = newQuota (s.chan n).qf hi v ∧ (s.slotRange f n = false ∨ (s.chan n).st = .free ∨ (s.chan n).st = .creating ∨ (s.chan n).st = .fencing)) ∧
    (∃ (s : State) (slot : BitVec 8), (s.chan slot.toNat).st ≠ .free ∧ (s.chan slot.toNat).st ≠ .creating ∧ (s.chan slot.toNat).limit ≤ s.waitAge slot.toNat) ∧
    (∃ (s : State) (slot : BitVec 8), (s.chan slot.toNat).st ≠ .free ∧ (s.chan slot.toNat).st ≠ .creating ∧ s.waitAge slot.toNat < (s.chan slot.toNat).limit) :=
  ⟨⟨{ svc with chans := [(255, { st := .live, qf := [0, 0, 0, 0, 0, 0, 0, 0] })] }, 0, 255, false, 1024, ((255 : BitVec 8).toNat), _,
      ⟨by decide, by decide, rfl, by decide, by decide, by decide, by decide⟩⟩,
   ⟨{ twin .paired with chans := [(255, { st := .live, qf := [0, 0, 0, 0, 0, 0, 0, 0] })] }, 0, 255, false, 1024, ((255 : BitVec 8).toNat), _,
      ⟨by decide, by decide, rfl, by decide, by decide, by decide, by decide⟩⟩,
   ⟨{ svc with chans := [(255, { st := .live, qf := [0, 0, 0, 0, 0, 0, 0, 0] })] }, 0, 255, false, 1025, ((255 : BitVec 8).toNat), _,
      ⟨by decide, by decide, rfl, by decide, by decide, by decide, by decide⟩⟩,
   ⟨svc, 0, 255, false, 0, ((255 : BitVec 8).toNat), _, ⟨by decide, by decide, rfl, by decide⟩⟩,
   ⟨stalled, 255, by decide⟩,
   ⟨{ stalled with tick := { now := 1 } }, 255, by decide⟩⟩

theorem wit_ChannelCauseRaisesOnce :
    (∃ (s : State) (slot : Nat) (F : Field), slot < 256 ∧ F ∈ [Reg.CHN_STATUS_STALL, Reg.CHN_STATUS_SHORT, Reg.CHN_STATUS_ORPHAN, Reg.CHN_STATUS_POISON_REFUSED, Reg.CHN_STATUS_QUOTA_ERR, Reg.CHN_STATUS_CREATE_FAIL, Reg.CHN_STATUS_CLOSED] ∧ s.flag F slot = true) ∧
    (∃ (s : State) (slot : Nat) (F : Field), slot < 256 ∧ F ∈ [Reg.CHN_STATUS_STALL, Reg.CHN_STATUS_SHORT, Reg.CHN_STATUS_ORPHAN, Reg.CHN_STATUS_POISON_REFUSED, Reg.CHN_STATUS_QUOTA_ERR, Reg.CHN_STATUS_CREATE_FAIL, Reg.CHN_STATUS_CLOSED] ∧ s.flag F slot = false ∧ s.mode = .service) ∧
    (∃ (s : State) (slot : BitVec 8), (s.chan slot.toNat).st ≠ .free ∧ (s.chan slot.toNat).st ≠ .creating ∧ (s.chan slot.toNat).limit ≤ s.waitAge slot.toNat) :=
  ⟨⟨svc.put Reg.CHN_STATUS_CLOSED 1 255, 255, Reg.CHN_STATUS_CLOSED, by decide⟩,
   ⟨svc, 255, Reg.CHN_STATUS_CLOSED, by decide⟩,
   ⟨stalled, 255, by decide⟩⟩

theorem wit_TableLifecycle :
    (∃ (s : State) (c : Cmd) (d : Dma) (b : List Byte), s.engineOp 0x01 = some c ∧ s.host.mirror = none ∧ s.seam.pair ≠ .paired ∧ c.func = 0 ∧ d.rd = some b ∧ badParams c.slot = false ∧ s.badTable (tableOfBytes b) = false ∧ s.table c.table = none ∧ s.tableFits (tableOfBytes b) = true) ∧
    (∃ (s : State) (c : Cmd) (k : Table), s.engineOp 0x02 = some c ∧ s.host.mirror = none ∧ s.seam.pair ≠ .paired ∧ c.func = 0 ∧ s.writeLocked c.table = false ∧ badParams c.slot = false ∧ s.liveTable c.table = some k ∧ s.referenced c.table = false ∧ s.tableLocked c.table = false) ∧
    (∃ (s : State) (c : Cmd), s.host.mirror = none ∧ c.func ≠ 0 ∧ s.engineOp 0x01 = some c) ∧
    (∃ (s : State) (c : Cmd), s.host.mirror = none ∧ c.func ≠ 0 ∧ s.engineOp 0x02 = some c) ∧
    (∃ (s : State) (n : Fin 64) (d : Table) (k : Tick), s.table n.val = some d ∧ d.destroyAt = some k ∧ tickLe (tickAdd k s.lat) s.tick.now = true) ∧
    (∃ (s : State) (n : Fin 64) (d : Table) (k : Tick), s.table n.val = some d ∧ d.destroyAt = some k ∧ tickLe (tickAdd k s.lat) s.tick.now = false) :=
  ⟨⟨eng (cmd 0x01 0 63), cmd 0x01 0 63, { rd := some (leBytes 128 0x100) }, leBytes 128 0x100, by decide +kernel⟩,
   ⟨eng (cmd 0x02 0 0) tabbed, cmd 0x02 0 0, tab, by decide +kernel⟩,
   ⟨eng (cmd 0x01 0 63 1), cmd 0x01 0 63 1, by decide⟩,
   ⟨eng (cmd 0x02 0 63 1), cmd 0x02 0 63 1, by decide⟩,
   ⟨{ tabbed with tables := [(0, { tab with destroyAt := some 0 })], tick := { now := 100 } }, 0, { tab with destroyAt := some 0 }, 0, by decide +kernel⟩,
   ⟨{ tabbed with tables := [(0, { tab with destroyAt := some 0 })] }, 0, { tab with destroyAt := some 0 }, 0, by decide +kernel⟩⟩

theorem wit_TableReads :
    (∃ (s : State) (c : Cmd) (d : Dma) (k : Table), s.host.mirror = none ∧ s.reqFenced 0 = false ∧ badParams c.slot = false ∧ s.mayRead c.func c.table = true ∧ s.readTable c.table = some k ∧ d.wrOk = true ∧ s.engineOp 0x06 = some c) ∧
    (∃ (s : State) (c : Cmd) (d : Dma) (k : Table), s.host.mirror = none ∧ s.reqFenced 0 = false ∧ badParams c.slot = false ∧ s.mayRead c.func c.table = true ∧ s.readTable c.table = some k ∧ d.wrOk = true ∧ s.engineOp 0x08 = some c) ∧
    (∃ (s : State) (c : Cmd) (d : Dma) (k : Table) (key : List Byte), s.host.mirror = none ∧ s.reqFenced 0 = false ∧ badParams c.slot = false ∧ s.mayRead c.func c.table = true ∧ s.readTable c.table = some k ∧ d.wrOk = true ∧ s.engineOp 0x07 = some c ∧ k.outOfService = false ∧ d.rd = some key ∧ k.galList.all (s.findSlot (slotsOf k.width)) = true) ∧
    (∃ (s : State) (c : Cmd) (d : Dma) (k : Table) (key : List Byte), s.host.mirror = none ∧ s.reqFenced 0 = false ∧ badParams c.slot = false ∧ s.mayRead c.func c.table = true ∧ s.readTable c.table = some k ∧ d.wrOk = true ∧ s.engineOp 0x07 = some c ∧ k.outOfService = false ∧ d.rd = some key ∧ k.galList.all (s.findSlot (slotsOf k.width)) = false) :=
  ⟨⟨eng (cmd 0x06 0 (5 * 2 ^ 32)) tabbed, cmd 0x06 0 (5 * 2 ^ 32), {}, tab, by decide +kernel⟩,
   ⟨eng (cmd 0x08 0 0) tabbed, cmd 0x08 0 0, {}, tab, by decide +kernel⟩,
   ⟨(eng (cmd 0x07 0 0) tabbed).put Reg.TCK_MEAS_PMEAS 64, cmd 0x07 0 0, { rd := some [] }, tab, [], by decide +kernel⟩,
   ⟨{ eng (cmd 0x07 0 0) tabbed with cabs := (List.range 32).map fun j => (j, ({ fenced := true } : Cab)) }, cmd 0x07 0 0, { rd := some [] }, tab, [], by decide +kernel⟩⟩

theorem wit_TalliesAndLossList :
    (∃ (s : State) (c : Cmd) (d : Table) (x : Tally), s.host.mirror = none ∧ s.reqFenced 0 = false ∧ badParams c.slot = false ∧ s.readTable c.table = some d ∧ d.outOfService = false ∧ s.tallyOf c.table c.id = some x ∧ (s.committed c.table c.id).isSome = true ∧ s.engineOp 0x28 = some c ∧ (c.func = 0 ∨ (s.flag Reg.BOOT_PMAP_TALLY_READ c.func = true ∧ s.searchRight c.func c.table = true))) ∧
    (∃ (s : State) (c : Cmd) (d : Table) (x : Tally), s.host.mirror = none ∧ s.reqFenced 0 = false ∧ badParams c.slot = false ∧ s.readTable c.table = some d ∧ d.outOfService = false ∧ s.tallyOf c.table c.id = some x ∧ (s.committed c.table c.id).isSome = true ∧ s.engineOp 0x29 = some c ∧ (c.func = 0 ∨ (s.flag Reg.BOOT_PMAP_TALLY_WRITE c.func = true ∧ s.editRight c.func c.table = true))) ∧
    (∃ (s : State), s.mode = .service) ∧
    (∃ (s : State), s.mode = .service) :=
  ⟨⟨{ eng (cmd 0x28 0 (5 * 2 ^ 32)) tabbed with tallies := [{ tbl := 0, id := 5, idx := 0, count := 3 }] }, cmd 0x28 0 (5 * 2 ^ 32), tab,
      { tbl := 0, id := 5, idx := 0, count := 3 }, by decide +kernel⟩,
   ⟨{ eng (cmd 0x29 9 (5 * 2 ^ 32)) tabbed with tallies := [{ tbl := 0, id := 5, idx := 0, count := 3 }] }, cmd 0x29 9 (5 * 2 ^ 32), tab,
      { tbl := 0, id := 5, idx := 0, count := 3 }, by decide +kernel⟩,
   ⟨{ tabbed with tallies := [{ tbl := 0, id := 5, idx := 0, count := 3 }] }, by decide⟩,
   ⟨{ svc with lossList := [{ tbl := 63, id := 5, cause := 1 }] }, by decide⟩⟩

theorem wit_EditBeginOpensAGroup : ∃ (s : State) (c : Cmd) (k : Table), s.engineOp 0x09 = some c ∧ s.host.mirror = none ∧ badParams c.slot = false ∧
    s.editDenied c.func c.table = false ∧ s.liveTable c.table = some k ∧ s.tableLocked c.table = false ∧ s.groups.length < 65535 :=
  ⟨eng (cmd 0x09 0 0) tabbed, cmd 0x09 0 0, tab, by decide +kernel⟩

theorem wit_EditCommandsStage :
    (∃ (s : State) (u : State) (c : Cmd) (d : Dma) (b : List Byte) (k : Table) (g : Group) (g' : Group) (op : EditOp) (r : EntryRec) (n : Nat), s.host.mirror = none ∧ s.seam.pair ≠ .paired ∧ s.reqFenced 0 = false ∧ badParams c.slot = false ∧ s.editDenied c.func c.table = false ∧ s.liveTable c.table = some k ∧ s.stage g k op r = .ok u g' ∧ ((op = .insert ∧ s.engineOp 0x03 = some c) ∨ (op = .modify ∧ s.engineOp 0x05 = some c)) ∧ d.rd = some b ∧ r = entryOfBytes b k.width ∧ k.badRecord r = false ∧ n = c.group ∧ n ≠ 0 ∧ s.openGroup c.table n c.func false = some g) ∧
    (∃ (s : State) (u : State) (c : Cmd) (d : Dma) (b : List Byte) (k : Table) (g : Group) (g' : Group) (op : EditOp) (r : EntryRec), s.host.mirror = none ∧ s.seam.pair ≠ .paired ∧ s.reqFenced 0 = false ∧ badParams c.slot = false ∧ s.editDenied c.func c.table = false ∧ s.liveTable c.table = some k ∧ s.stage g k op r = .ok u g' ∧ ((op = .insert ∧ s.engineOp 0x03 = some c) ∨ (op = .modify ∧ s.engineOp 0x05 = some c)) ∧ d.rd = some b ∧ r = entryOfBytes b k.width ∧ k.badRecord r = false ∧ c.group = 0 ∧ s.groupFor c.table 0 c.func (some c.own) = .ok g) ∧
    (∃ (s : State) (u : State) (c : Cmd) (k : Table) (g : Group) (g' : Group) (op : EditOp) (r : EntryRec), s.host.mirror = none ∧ s.seam.pair ≠ .paired ∧ s.reqFenced 0 = false ∧ badParams c.slot = false ∧ s.editDenied c.func c.table = false ∧ s.liveTable c.table = some k ∧ s.stage g k op r = .ok u g' ∧ op = .delete ∧ s.engineOp 0x04 = some c ∧ r = { id := c.id, rank := 0, dref := 0, rsvd := 0, info := 0, value := 0, care := 0, wide := false } ∧ c.group ≠ 0 ∧ s.openGroup c.table c.group c.func false = some g) ∧
    (∃ (s : State) (u : State) (c : Cmd) (k : Table) (g : Group) (g' : Group) (op : EditOp) (r : EntryRec), s.host.mirror = none ∧ s.seam.pair ≠ .paired ∧ s.reqFenced 0 = false ∧ badParams c.slot = false ∧ s.editDenied c.func c.table = false ∧ s.liveTable c.table = some k ∧ s.stage g k op r = .ok u g' ∧ op = .delete ∧ s.engineOp 0x04 = some c ∧ r = { id := c.id, rank := 0, dref := 0, rsvd := 0, info := 0, value := 0, care := 0, wide := false } ∧ c.group = 0 ∧ s.groupFor c.table 0 c.func (some c.own) = .ok g) ∧
    (∃ (s : State) (g : Group) (k : Table) (op : EditOp) (r : EntryRec) (u : State) (g' : Group), s.stage g k op r = .ok u g' ∧ op ≠ .delete) ∧
    (∃ (s : State) (g : Group) (k : Table) (op : EditOp) (r : EntryRec) (u : State) (g' : Group), s.stage g k op r = .ok u g' ∧ op = .delete ∧ s.baseExists g.tbl r.id = true) ∧
    (∃ (s : State) (g : Group) (op : EditOp) (r : EntryRec), op = .insert ∧ s.viewExists g r.id = true) ∧
    (∃ (s : State) (g : Group) (op : EditOp) (r : EntryRec), op ≠ .insert ∧ s.viewExists g r.id = false) ∧
    (∃ (s : State) (g : Group) (k : Table) (op : EditOp) (r : EntryRec), op = .insert ∧ s.viewExists g r.id = false ∧ s.outOfRange g.tbl k r.id = true) ∧
    (∃ (s : State) (k : Table) (op : EditOp) (g : Group) (r : EntryRec), op = .insert ∧ s.viewExists g r.id = false ∧ s.outOfRange g.tbl k r.id = false ∧ 4096 ≤ g.edits.length ∧ g.editOf r.id = none) ∧
    (∃ (s : State) (op : EditOp) (g : Group) (r : EntryRec), op ≠ .insert ∧ s.viewExists g r.id = true ∧ 4096 ≤ g.edits.length ∧ g.editOf r.id = none) ∧
    (∃ (s : State) (g : Group) (k : Table) (op : EditOp) (r : EntryRec), op = .insert ∧ s.viewExists g r.id = false ∧ s.outOfRange g.tbl k r.id = false ∧ g.edits.length < 4096 ∧ s.tableFull g.tbl = true) :=
  ⟨⟨eng (cmd 0x03 0 (2 ^ 16)) (grouped .open),
      (match ((eng (cmd 0x03 0 (2 ^ 16)) (grouped .open)).stage (grp .open) tab .insert (entryOfBytes (leBytes 80 6) tab.width)) with | .ok v_ _ => v_ | _ => svc),
      cmd 0x03 0 (2 ^ 16), { rd := some (leBytes 80 6) }, leBytes 80 6, tab, grp .open,
      (match ((eng (cmd 0x03 0 (2 ^ 16)) (grouped .open)).stage (grp .open) tab .insert (entryOfBytes (leBytes 80 6) tab.width)) with | .ok _ v_ => v_ | _ => grp .open),
      .insert, entryOfBytes (leBytes 80 6) tab.width, 1,
      ⟨by decide +kernel, by decide +kernel, by decide +kernel, by decide +kernel, by decide +kernel, by decide +kernel, (by set_option maxRecDepth 20000 in rfl), by decide +kernel, by decide +kernel, by decide +kernel, by decide +kernel, by decide +kernel, by decide +kernel, by decide +kernel⟩⟩,
   ⟨eng (cmd 0x05 0 0) tabbed,
      (match ((eng (cmd 0x05 0 0) tabbed).stage (match (eng (cmd 0x05 0 0) tabbed).groupFor 0 0 0 (some (cmd 0x05 0 0).own) with | .ok v_ => v_ | _ => grp .open) tab .modify (entryOfBytes (leBytes 80 5) tab.width)) with | .ok v_ _ => v_ | _ => svc),
      cmd 0x05 0 0, { rd := some (leBytes 80 5) }, leBytes 80 5, tab,
      (match (eng (cmd 0x05 0 0) tabbed).groupFor 0 0 0 (some (cmd 0x05 0 0).own) with | .ok v_ => v_ | _ => grp .open),
      (match ((eng (cmd 0x05 0 0) tabbed).stage (match (eng (cmd 0x05 0 0) tabbed).groupFor 0 0 0 (some (cmd 0x05 0 0).own) with | .ok v_ => v_ | _ => grp .open) tab .modify (entryOfBytes (leBytes 80 5) tab.width)) with | .ok _ v_ => v_ | _ => grp .open),
      .modify, entryOfBytes (leBytes 80 5) tab.width,
      ⟨by decide +kernel, by decide +kernel, by decide +kernel, by decide +kernel, by decide +kernel, by decide +kernel, (by set_option maxRecDepth 20000 in rfl), by decide +kernel, by decide +kernel, by decide +kernel, by decide +kernel, by decide +kernel, by decide +kernel⟩⟩,
   ⟨eng (cmd 0x04 0 (5 * 2 ^ 32 + 2 ^ 16)) (grouped .open),
      (match ((eng (cmd 0x04 0 (5 * 2 ^ 32 + 2 ^ 16)) (grouped .open)).stage (grp .open) tab .delete { id := 5, rank := 0, dref := 0, rsvd := 0, info := 0, value := 0, care := 0, wide := false }) with | .ok v_ _ => v_ | _ => svc),
      cmd 0x04 0 (5 * 2 ^ 32 + 2 ^ 16), tab, grp .open,
      (match ((eng (cmd 0x04 0 (5 * 2 ^ 32 + 2 ^ 16)) (grouped .open)).stage (grp .open) tab .delete { id := 5, rank := 0, dref := 0, rsvd := 0, info := 0, value := 0, care := 0, wide := false }) with | .ok _ v_ => v_ | _ => grp .open),
      .delete, { id := 5, rank := 0, dref := 0, rsvd := 0, info := 0, value := 0, care := 0, wide := false },
      ⟨by decide +kernel, by decide +kernel, by decide +kernel, by decide +kernel, by decide +kernel, by decide +kernel, (by set_option maxRecDepth 20000 in rfl), by decide +kernel, by decide +kernel, by decide +kernel, by decide +kernel, by decide +kernel⟩⟩,
   ⟨eng (cmd 0x04 0 (5 * 2 ^ 32)) tabbed,
      (match ((eng (cmd 0x04 0 (5 * 2 ^ 32)) tabbed).stage (match (eng (cmd 0x04 0 (5 * 2 ^ 32)) tabbed).groupFor 0 0 0 (some (cmd 0x04 0 (5 * 2 ^ 32)).own) with | .ok v_ => v_ | _ => grp .open) tab .delete { id := 5, rank := 0, dref := 0, rsvd := 0, info := 0, value := 0, care := 0, wide := false }) with | .ok v_ _ => v_ | _ => svc),
      cmd 0x04 0 (5 * 2 ^ 32), tab,
      (match (eng (cmd 0x04 0 (5 * 2 ^ 32)) tabbed).groupFor 0 0 0 (some (cmd 0x04 0 (5 * 2 ^ 32)).own) with | .ok v_ => v_ | _ => grp .open),
      (match ((eng (cmd 0x04 0 (5 * 2 ^ 32)) tabbed).stage (match (eng (cmd 0x04 0 (5 * 2 ^ 32)) tabbed).groupFor 0 0 0 (some (cmd 0x04 0 (5 * 2 ^ 32)).own) with | .ok v_ => v_ | _ => grp .open) tab .delete { id := 5, rank := 0, dref := 0, rsvd := 0, info := 0, value := 0, care := 0, wide := false }) with | .ok _ v_ => v_ | _ => grp .open),
      .delete, { id := 5, rank := 0, dref := 0, rsvd := 0, info := 0, value := 0, care := 0, wide := false },
      ⟨by decide +kernel, by decide +kernel, by decide +kernel, by decide +kernel, by decide +kernel, by decide +kernel, (by set_option maxRecDepth 20000 in rfl), by decide +kernel, by decide +kernel, by decide +kernel, by decide +kernel, by decide +kernel⟩⟩,
   ⟨grouped .open, grp .open, tab, .modify, entryOfBytes (leBytes 80 5) tab.width,
      (match ((grouped .open).stage (grp .open) tab .modify (entryOfBytes (leBytes 80 5) tab.width)) with | .ok v_ _ => v_ | _ => svc),
      (match ((grouped .open).stage (grp .open) tab .modify (entryOfBytes (leBytes 80 5) tab.width)) with | .ok _ v_ => v_ | _ => grp .open),
      ⟨(by set_option maxRecDepth 20000 in rfl), by decide⟩⟩,
   ⟨grouped .open, grp .open, tab, .delete, { id := 5, rank := 0, dref := 0, rsvd := 0, info := 0, value := 0, care := 0, wide := false },
      (match ((grouped .open).stage (grp .open) tab .delete { id := 5, rank := 0, dref := 0, rsvd := 0, info := 0, value := 0, care := 0, wide := false }) with | .ok v_ _ => v_ | _ => svc),
      (match ((grouped .open).stage (grp .open) tab .delete { id := 5, rank := 0, dref := 0, rsvd := 0, info := 0, value := 0, care := 0, wide := false }) with | .ok _ v_ => v_ | _ => grp .open),
      ⟨(by set_option maxRecDepth 20000 in rfl), by decide, by decide +kernel⟩⟩,
   ⟨grouped .open, grp .open, .insert, entryOfBytes (leBytes 80 5) tab.width, by decide⟩,
   ⟨grouped .open, grp .open, .modify, entryOfBytes (leBytes 80 6) tab.width, by decide⟩,
   ⟨grouped .open, grp .open, { tab with attr := 0x140, learn := 16 + 16 * 2 ^ 32 }, .insert, entryOfBytes (leBytes 80 16) tab.width, by decide⟩,
   ⟨grouped .open, tab, .insert, { grp .open with edits := (List.range 4096).map fun j => ({ op := .insert, id := j + 100 } : Edit) }, entryOfBytes
      (leBytes 80 6) tab.width, by decide +kernel⟩,
   ⟨grouped .open, .modify, { grp .open with edits := (List.range 4096).map fun j => ({ op := .insert, id := j + 100 } : Edit) }, entryOfBytes
      (leBytes 80 5) tab.width, by decide +kernel⟩,
   ⟨{ grouped .open with tables := [(0, { tab with limit := 1 })] }, grp .open, tab, .insert, entryOfBytes (leBytes 80 6) tab.width, by decide⟩⟩

theorem wit_GroupsEndAndCommit :
    (∃ (s : State) (c : Cmd) (g : Group), s.engineOp 0x0A = some c ∧ s.host.mirror = none ∧ s.seam.pair ≠ .paired ∧ badParams c.slot = false ∧ s.groupByNum c.group c.func false = some g ∧ s.reqFenced 0 = false ∧ s.editDenied c.func g.tbl = false) ∧
    (∃ (s : State) (c : Cmd) (g : Group), s.engineOp 0x0B = some c ∧ s.host.mirror = none ∧ badParams c.slot = false ∧ s.abortable c.group c.func = some g) ∧
    (∃ (s : State) (n : Fin 64) (g : Group), s.groupOf n.val = some g ∧ g.st = .open ∧ g.ungrouped = false ∧ g.fromPeer = false ∧ g.leaseAt + g.lease * cyclesPerMs ≤ s.clock) ∧
    (∃ (s : State) (n : Fin 64) (g : Group), s.groupOf n.val = some g ∧ g.st = .open ∧ g.ungrouped = false ∧ g.fromPeer = false ∧ s.clock < g.leaseAt + g.lease * cyclesPerMs) ∧
    (∃ (s : State) (c : Cmd) (at_ : Nat), s.host.engine = some c ∧ s.host.waitFrom = some at_ ∧ c.slot.opcode ≠ 0x07 ∧ at_ + s.get Reg.TBLG_CTRL_VEST_WAIT * cyclesPerMs ≤ s.clock) ∧
    (∃ (s : State) (c : Cmd) (at_ : Nat), s.host.engine = some c ∧ s.host.waitFrom = some at_ ∧ (c.slot.opcode = 0x07 ∨ s.clock < at_ + s.get Reg.TBLG_CTRL_VEST_WAIT * cyclesPerMs)) ∧
    (∃ (s : State) (n : Fin 64) (g : Group), s.groupOf n.val = some g ∧ g.due s.tick.now = true ∧ (¬ (s.governed g = true ∧ g.st = .ready))) ∧
    (∃ (s : State) (n : Fin 64) (g : Group), s.groupOf n.val = some g ∧ g.due s.tick.now = true ∧ s.governed g = true ∧ g.st = .ready) ∧
    (∃ (s : State) (n : Fin 64), (∀ g, s.groupOf n.val = some g → g.due s.tick.now = false)) ∧
    (∃ (s : State) (n : Fin 64) (g : Group), s.groupOf n.val = some g ∧ g.st = .deferred ∧ s.firstDeferred g = true ∧ 2 ^ 35 ≤ s.releaseBalance) ∧
    (∃ (s : State) (n : Fin 64) (g : Group), s.groupOf n.val = some g ∧ g.st = .deferred ∧ (s.firstDeferred g = false ∨ s.releaseBalance < 2 ^ 35)) :=
  ⟨⟨eng (cmd 0x0A 0 (2 ^ 16)) (grouped .open), cmd 0x0A 0 (2 ^ 16), grp .open, by decide⟩,
   ⟨eng (cmd 0x0B 0 (2 ^ 16)) (grouped .ready), cmd 0x0B 0 (2 ^ 16), grp .ready, by decide⟩,
   ⟨{ grouped .open with clock := 0 }, 0, grp .open, by decide⟩,
   ⟨{ tabbed with groups := [{ grp .open with lease := 1 }] }, 0, { grp .open with lease := 1 }, by decide⟩,
   ⟨{ svc with clock := 2 ^ 40, host := { engine := some (cmd 0x03 0 0), waitFrom := some 0 } }, cmd 0x03 0 0, 0, by decide⟩,
   ⟨{ svc with host := { engine := some (cmd 0x07 0 0), waitFrom := some 0 } }, cmd 0x07 0 0, 0, by decide⟩,
   ⟨{ tabbed with groups := [{ grp .ready with edits := [{ op := .delete, id := 5, existed := true }] }] }, 0,
      { grp .ready with edits := [{ op := .delete, id := 5, existed := true }] }, by decide⟩,
   ⟨{ grouped .ready with cur := { stage := 2 } }, 0, grp .ready, by decide⟩,
   ⟨svc, 0, by decide⟩,
   ⟨grouped .deferred, 0, grp .deferred, by decide⟩,
   ⟨{ grouped .deferred with cur := { balance := 0 } }, 0, grp .deferred, by decide⟩⟩

theorem wit_RowsAdvancePersistAndClear :
    (∃ (s : State) (l : Loc), s.curating 6 = true ∧ s.mayWork 6 = true ∧ (s.cur.clearQ.find? fun m => s.clearable m && !s.shut m.phys) = some l) ∧
    (∃ (s : State), (s.curating 6 = false ∨ s.mayWork 6 = false ∨ (s.cur.clearQ.find? fun m => s.clearable m && !s.shut m.phys) = none)) ∧
    (∃ (s : State) (n : Fin 64) (id : BitVec 24) (r : Row), (let own := s.rows.find? fun r => r.tbl == n.val && r.id == id.toNat && r.loc.isVest && !r.persisted && tickLe r.on s.tick.now && !s.journalFull r.loc.gal r.loc.cabinet; s.curating 4 = true ∧ s.mayWork 4 = true ∧ own = some r)) ∧
    (∃ (s : State) (n : Fin 64) (id : BitVec 24), (let own := s.rows.find? fun r => r.tbl == n.val && r.id == id.toNat && r.loc.isVest && !r.persisted && tickLe r.on s.tick.now && !s.journalFull r.loc.gal r.loc.cabinet; (s.curating 4 = false ∨ s.mayWork 4 = false ∨ own = none))) :=
  ⟨⟨{ tabbed with cur := { clearQ := [.drawer 0 0 0 9 0] }, cells := [] }, .drawer 0 0 0 9 0, by decide⟩,
   ⟨svc, by decide⟩,
   ⟨{ tabbed with rows := [{ row with loc := .vest 0 0 0, persisted := false }] }, 0, 5, { row with loc := .vest 0 0 0, persisted := false }, by decide +kernel⟩,
   ⟨svc, 0, 0, by decide⟩⟩

theorem wit_EntriesMoveAndBaysReshape :
    (∃ (s : State) (n : Fin 64) (id : BitVec 24) (r : Row) (k : Nat) (x : Nat), s.liveRow n.val id.toNat = some r ∧ r.target = some k ∧ x = k - drawerKey r.loc.gal 0 ∧ r.loc.isVest = true ∧ s.mode = .service ∧ s.mayWork 5 = true ∧ s.shut r.loc.phys = false ∧ s.moving r.tbl r.id = false ∧ s.openDrawer r.loc.gal x = true ∧ s.mayMigrate r = true ∧ s.places r.loc.gal x (s.rowHalves r) (s.rowKey r) r.id ≠ []) ∧
    (∃ (s : State) (n : Fin 64) (id : BitVec 24), (∀ r, s.liveRow n.val id.toNat = some r → r.loc.isVest = false ∨ r.target = none ∨ s.mode ≠ .service ∨ s.mayWork 5 = false ∨ s.shut r.loc.phys = true ∨ s.moving r.tbl r.id = true ∨ s.mayMigrate r = false ∨ (∀ x, r.target = some (drawerKey r.loc.gal x) → s.openDrawer r.loc.gal x = false ∨ s.places r.loc.gal x (s.rowHalves r) (s.rowKey r) r.id = []))) ∧
    (∃ (s : State) (n : Fin 64) (id : BitVec 24) (r : Row), s.curating 6 = true ∧ s.mayWork 6 = true ∧ s.liveRow n.val id.toNat = some r ∧ s.movable r = true ∧ s.movesOf r ≠ []) ∧
    (∃ (s : State) (n : Fin 64) (id : BitVec 24), (s.curating 6 = false ∨ s.mayWork 6 = false ∨ ∀ r, s.liveRow n.val id.toNat = some r → s.movable r = false ∨ s.movesOf r = [])) ∧
    (∃ (s : State) (k : Nat), s.curating 7 = true ∧ s.mayWork 7 = true ∧ (s.cur.refreshQ.find? fun k => !s.shut k) = some k ∧ 2 ^ 26 ≤ k) ∧
    (∃ (s : State) (k : Nat) (n : Nat) (a : Nat), s.curating 7 = true ∧ s.mayWork 7 = true ∧ (s.cur.refreshQ.find? fun k => !s.shut k) = some k ∧ k < 2 ^ 26 ∧ s.journalRowAt k = some (n, a)) ∧
    (∃ (s : State) (w : WriteRes) (k : Nat) (r : Row), s.curating 7 = true ∧ s.mayWork 7 = true ∧ (s.cur.refreshQ.find? fun k => !s.shut k) = some k ∧ k < 2 ^ 26 ∧ s.journalRowAt k = none ∧ s.rowsAt k = [r] ∧ s.movable r = true ∧ s.movesOf r ≠ [] ∧ (∀ y ∈ w.rows, (s.failsOf y).length ≤ 3)) ∧
    (∃ (s : State) (k : Nat), s.curating 7 = true ∧ s.mayWork 7 = true ∧ (s.cur.refreshQ.find? fun k => !s.shut k) = some k ∧ k < 2 ^ 26 ∧ s.journalRowAt k = none ∧ s.rowsAt k = []) ∧
    (∃ (s : State), (s.curating 7 = false ∨ s.mayWork 7 = false ∨ (s.cur.refreshQ.find? fun k => !s.shut k) = none)) ∧
    (∃ (s : State), s.cur.swaps = [] ∧ s.cur.reshape = []) ∧
    (∃ (s : State) (g : Fin 8) (n : Nat) (b : Bay) (d : Table), s.curating 6 = true ∧ s.mayWork 6 = true ∧ (s.bays.find? fun x => x.g == g.val && x.num == n) = some b ∧ s.table b.tbl = some d ∧ (let span := s.keyOrder ((s.straddling d b).filter fun r => r.loc.isDrawer); (let halves := [false, true].filter fun hi => (s.halfRows b d hi).all s.movable; 8 ≤ b.units.length ∧ s.bayWanted b d = true ∧ s.canSplit d b = true ∧ s.unsettled b.tbl b.g = false ∧ span.all s.movable = true ∧ halves ≠ []))) ∧
    (∃ (s : State) (g : Fin 8) (n : Nat) (b : Bay) (d : Table), s.curating 6 = true ∧ s.mayWork 6 = true ∧ (s.bays.find? fun x => x.g == g.val && x.num == n) = some b ∧ s.table b.tbl = some d ∧ (let span := s.keyOrder ((s.straddling d b).filter fun r => r.loc.isDrawer); (let halves := [false, true].filter fun hi => (s.halfRows b d hi).all s.movable; (b.units.length < 8 ∨ s.bayWanted b d = false ∨ s.canSplit d b = false ∨ s.unsettled b.tbl b.g = true ∨ span.all s.movable = false ∨ halves = [])))) ∧
    (∃ (s : State) (g : Fin 8) (n : Nat) (m : Nat) (a : Bay) (b : Bay) (d : Table), s.curating 6 = true ∧ s.mayWork 6 = true ∧ (s.bays.find? fun x => x.g == g.val && x.num == n) = some a ∧ (s.bays.find? fun x => x.g == g.val && x.num == m) = some b ∧ s.table a.tbl = some d ∧ (let lo := min a.first b.first; (let room := 4 * (4096 / halvesOf d.width); (let k := State.pickMany 4 ((a.units ++ b.units).filter (s.openDrawer a.g)) s; (let out := (s.bayRows a lo (lo + 2 ^ (a.s + 1)) d).filter fun r => !k.1.any fun x => r.loc.inDrawer a.g x; siblings a b = true ∧ d.transient = false ∧ s.unsettled a.tbl a.g = false ∧ s.blockCount a.tbl a.g d lo (lo + 2 ^ (a.s + 1)) ≤ room ∧ out.all s.movable = true))))) ∧
    (∃ (s : State) (g : Fin 8) (n : Nat) (m : Nat) (a : Bay) (b : Bay) (d : Table), s.curating 6 = true ∧ s.mayWork 6 = true ∧ (s.bays.find? fun x => x.g == g.val && x.num == n) = some a ∧ (s.bays.find? fun x => x.g == g.val && x.num == m) = some b ∧ s.table a.tbl = some d ∧ (let lo := min a.first b.first; (let room := 4 * (4096 / halvesOf d.width); (let k := State.pickMany 4 ((a.units ++ b.units).filter (s.openDrawer a.g)) s; (let out := (s.bayRows a lo (lo + 2 ^ (a.s + 1)) d).filter fun r => !k.1.any fun x => r.loc.inDrawer a.g x; (siblings a b = false ∨ d.transient = true ∨ s.unsettled a.tbl a.g = true ∨ room < s.blockCount a.tbl a.g d lo (lo + 2 ^ (a.s + 1)) ∨ out.all s.movable = false)))))) ∧
    (∃ (s : State) (g : Fin 8) (n : Nat), (s.curating 6 = false ∨ s.mayWork 6 = false ∨ (s.bays.find? fun x => x.g == g.val && x.num == n) = none)) :=
  ⟨⟨{ tabbed with rows := [{ row with loc := .vest 0 0 0, target := some 0 }], clock := 2 ^ 50 }, 0, 5,
      { row with loc := .vest 0 0 0, target := some 0 }, 0, 0, by decide +kernel⟩,
   ⟨svc, 63, -1, fun _ h => nomatch h⟩,
   ⟨{ tabbed with drawers := [(0, { st := .assigned }), (1, { st := .assigned })], bays := [{ g := 0, num := 0, tbl := 0, first := 0, s := 0, units := [0, 1] }] },
      0, 5, row, by decide +kernel⟩,
   ⟨{ tabbed with drawers := [(0, { st := .assigned }), (1, { st := .assigned })], bays := [{ g := 0, num := 0, tbl := 0, first := 0, s := 0, units := [0, 1] }] },
      0, 6, by decide⟩,
   ⟨{ svc with cur := { refreshQ := [2 ^ 26] }, faults := [(2 ^ 26, { cells := [(0, -1)] })] }, 2 ^ 26, by decide⟩,
   ⟨{ svc with cur := { refreshQ := [journalKey 0 (16 * 2048)] }, journal := [{ g := 0, c := 0, at_ := some (16 * 2048), tomb := true, tbl := 0, id := 5, covers := [] }] },
      journalKey 0 (16 * 2048), 0, 16 * 2048, by decide⟩,
   ⟨{ ({ tabbed with drawers := [(0, { st := .assigned }), (1, { st := .assigned })], bays := [{ g := 0, num := 0, tbl := 0, first := 0, s := 0, units := [0, 1] }] } : State) with cur := { refreshQ := [row.loc.phys] } },
      {}, row.loc.phys, row, by decide +kernel⟩,
   ⟨{ svc with cur := { refreshQ := [5] } }, 5, by decide⟩,
   ⟨svc, by decide⟩,
   ⟨{ tabbed with rows := [{ row with st := .set }] }, by decide⟩,
   ⟨splitting2, 0, 0, wide, { tab with sel0 := 1 }, by decide +kernel⟩,
   ⟨{ splitting with rows := [] }, 0, 0, wide, { tab with sel0 := 1 }, by decide +kernel⟩,
   ⟨merging, 0, 0, 1, sib0, sib1, { tab with sel0 := 1 }, by decide +kernel⟩,
   ⟨merging, 0, 0, 0, sib0, sib0, { tab with sel0 := 1 }, by decide +kernel⟩,
   ⟨svc, 0, 0, by decide⟩⟩

theorem wit_BalanceCalibrationAndFences :
    (∃ (s : State), s.arrayOn = true) ∧
    (∃ (s : State), s.arrayOn = false) ∧
    (∃ (s : State), s.mode ≠ .dormant) ∧
    (∃ (s : State), s.mode = .dormant) ∧
    (∃ (s : State) (cal : List CabCal) (n : Nat) (c : CabCal) (i : Instr), (i = .calibrationRound cal ∨ i = .curCalGo cal) ∧ s.mode = .service ∧ s.mayWork 9 = true ∧ n < 256 ∧ (cal.find? fun x => x.cab == n) = some c ∧ (s.cab n).fenced = false) ∧
    (∃ (s : State), s.mode ≠ .service) ∧
    (∃ (s : State), s.mayWork 9 = false) ∧
    (∃ (s : State), s.mode = .service) ∧
    (∃ (s : State), s.mode ≠ .service) ∧
    (∃ (s : State), s.mode = .service) ∧
    (∃ (s : State), s.mode ≠ .service) ∧
    (∃ (s : State) (c : CabCal), (s.cab c.cab).checking = true ∧ s.mayWork 9 = true ∧ s.mayWork 11 = true) ∧
    (∃ (s : State) (c : CabCal), ((s.cab c.cab).checking = false ∨ s.mayWork 9 = false ∨ s.mayWork 11 = false)) :=
  ⟨⟨svc, by decide⟩,
   ⟨{ mode := .dormant }, by decide⟩,
   ⟨{ svc with clock := 2 ^ 33, cur := { balance := 5 } }, by decide⟩,
   ⟨{ mode := .dormant, clock := 7 }, by decide⟩,
   ⟨(svc.put Reg.TCK_MEAS_PMEAS 64), [{ cab := 255, mref := some (0, 255), rref := some (255, 0) }], 255,
      { cab := 255, mref := some (0, 255), rref := some (255, 0) }, .curCalGo [{ cab := 255, mref := some (0, 255), rref := some (255, 0) }], by decide⟩,
   ⟨{}, by decide⟩,
   ⟨{ svc with mnt := { reqs := [(9, { st := .fenced })] } }, by decide⟩,
   ⟨svc, by decide⟩,
   ⟨{ mode := .recovery }, by decide⟩,
   ⟨svc, by decide⟩,
   ⟨{}, by decide⟩,
   ⟨{ svc with cabs := [(255, { fenced := true, checking := true })] }, { cab := 255, mref := some (0, 255), rref := some (255, 0) }, by decide⟩,
   ⟨svc, { cab := 255, mref := some (0, 255), rref := some (255, 0) }, by decide⟩⟩

theorem wit_ScrubSweepAndDigest :
    (∃ (s : State), s.mode = .service ∧ s.mayWork 8 = true) ∧
    (∃ (s : State), (s.mode ≠ .service ∨ s.mayWork 8 = false)) ∧
    (∃ (s : State) (d : ScrubRead) (k : Nat) (u : State), s.curating 8 = true ∧ s.mayWork 8 = true ∧ (s.cur.scrubQ.find? fun k => !s.shut k) = some k ∧ u = s.setFault k { s.fault k with cells := d.cells, held := d.held }) ∧
    (∃ (s : State), (s.curating 8 = false ∨ s.mayWork 8 = false ∨ (s.cur.scrubQ.find? fun k => !s.shut k) = none)) ∧
    (∃ (s : State) (n : Fin 64) (id : BitVec 24) (r : Row), (let own := s.sweepable.find? fun r => r.tbl == n.val && r.id == id.toNat && !s.cur.swept.contains (n.val, id.toNat); s.curating 8 = true ∧ s.mayWork 8 = true ∧ own = some r ∧ s.sweepSlot (s.entrySlots r) r.loc.gal = true)) ∧
    (∃ (s : State) (n : Fin 64) (id : BitVec 24), (let own := s.sweepable.find? fun r => r.tbl == n.val && r.id == id.toNat && !s.cur.swept.contains (n.val, id.toNat); (s.curating 8 = false ∨ s.mayWork 8 = false ∨ (∀ r, own = some r → s.sweepSlot (s.entrySlots r) r.loc.gal = false)))) ∧
    (∃ (s : State), s.curating 8 = true ∧ s.cur.sweepFrom + s.sweepPeriod ≤ s.clock) ∧
    (∃ (s : State), (s.curating 8 = false ∨ s.clock < s.cur.sweepFrom + s.sweepPeriod)) ∧
    (∃ (s : State) (g : Fin 8) (x : Nat), s.arrayOn = true ∧ s.digestDue g x = true) ∧
    (∃ (s : State) (g : Fin 8) (x : Nat), (s.arrayOn = false ∨ s.digestDue g x = false)) :=
  ⟨⟨tabbed, by decide⟩,
   ⟨{}, by decide⟩,
   ⟨{ tabbed with cur := { scrubQ := [row.loc.phys] } }, { cells := [(0, -1), (1, -1), (2, -1)] }, row.loc.phys, _,
      ⟨by decide +kernel, by decide +kernel, by decide +kernel, rfl⟩⟩,
   ⟨svc, by decide⟩,
   ⟨(tabbed.put Reg.TCK_MEAS_PMEAS 64), 0, 5, row, by decide +kernel⟩,
   ⟨svc, 0, 0, by decide⟩,
   ⟨{ tabbed with clock := 2 ^ 50 }, by decide⟩,
   ⟨svc, by decide⟩,
   ⟨{ svc with clock := 2 ^ 40, drawers := [(543, { st := .free, dirty := true })] }, 0, 543, by decide⟩,
   ⟨svc, 0, 0, by decide⟩⟩

theorem wit_DrawersAreTestedAndRetired :
    (∃ (s : State), s.mode = .service) ∧
    (∃ (s : State), s.mode = .recovery) ∧
    (∃ (s : State), (s.mode = .startUp ∨ s.mode = .dormant)) ∧
    (∃ (s : State) (g : Fin 8), (let may := (List.range 544).filter fun x => !s.testRefused g.val (x / 17) (x % 17); s.get Reg.CUR_CTRL_ROTATE_H ≠ 0 ∧ s.cur.stage = 0 ∧ may ≠ [])) ∧
    (∃ (s : State) (g : Fin 8), (let may := (List.range 544).filter fun x => !s.testRefused g.val (x / 17) (x % 17); (s.get Reg.CUR_CTRL_ROTATE_H = 0 ∨ s.cur.stage ≠ 0 ∨ may = []))) ∧
    (∃ (g : Fin 8) (s : State) (w : Swap) (x : Nat), s.testReady g.val = some w ∧ x = 17 * w.c + w.d ∧ s.mayWork 10 = true ∧ (s.cab (32 * w.g + w.c)).fenced = false ∧ 4096 ≤ w.made ∧ s.journalIn (32 * w.g + w.c) [w.d] = false) ∧
    (∃ (s : State) (g : Fin 8), ((∀ w, s.testReady g.val = some w → w.made < 4096) ∨ s.mayWork 10 = false)) ∧
    (∃ (s : State), (let g := s.get Reg.CUR_RETIRE_GAL; (let c := s.get Reg.CUR_RETIRE_CAB; (let d := s.get Reg.CUR_RETIRE_POS; s.mode = .service ∧ d ≤ 16 ∧ s.cur.retire = none ∧ (s.drawer g (17 * c + d)).st = .assigned)))) ∧
    (∃ (s : State), (let g := s.get Reg.CUR_RETIRE_GAL; (let c := s.get Reg.CUR_RETIRE_CAB; (let d := s.get Reg.CUR_RETIRE_POS; s.mode = .service ∧ (16 < d ∨ s.cur.retire ≠ none ∨ (s.drawer g (17 * c + d)).st ≠ .assigned))))) ∧
    (∃ (s : State), s.mode ≠ .service) ∧
    (∃ (s : State) (g : Fin 8) (c : Nat) (d : Nat), s.cur.retire = some (g.val, c, d) ∧ s.drawerRows g (17 * c + d) = [] ∧ s.targeting g (17 * c + d) = [] ∧ s.journalIn (32 * g.val + c) [d] = false) ∧
    (∃ (s : State) (g : Fin 8) (c : Nat) (d : Nat), s.cur.retire = some (g.val, c, d) ∧ (s.drawerRows g (17 * c + d) ≠ [] ∨ s.targeting g (17 * c + d) ≠ [])) ∧
    (∃ (s : State), s.mode = .recovery ∧ s.cur.fullTest = false) ∧
    (∃ (s : State), s.mode = .recovery ∧ s.cur.fullTest = true) ∧
    (∃ (s : State), s.mode = .service) ∧
    (∃ (s : State), (s.mode = .startUp ∨ s.mode = .dormant)) ∧
    (∃ (s : State), s.cur.fullTest = true ∧ s.mayWork 10 = true) ∧
    (∃ (s : State), (s.cur.fullTest = false ∨ s.mayWork 10 = false)) :=
  ⟨⟨svc, by decide⟩,
   ⟨{ mode := .recovery }, by decide⟩,
   ⟨{}, by decide⟩,
   ⟨svc.put Reg.CUR_CTRL_ROTATE_H 1, 7, by decide +kernel⟩,
   ⟨svc, 0, by decide⟩,
   ⟨0,
      { svc with drawers := [(0, { st := .selftest })], cur := { swaps := [{ g := 0, c := 0, d := 0, s := 31, inPlace := true, flipAt := some 0, made := 4096 }] }, cabs := [(0, { spare := 31 })] },
      { g := 0, c := 0, d := 0, s := 31, inPlace := true, flipAt := some 0, made := 4096 }, 0, by decide⟩,
   ⟨svc, 0, by decide⟩,
   ⟨{ svc with drawers := [(0, { st := .assigned })] }, by decide⟩,
   ⟨svc.put Reg.CUR_RETIRE_POS 17, by decide⟩,
   ⟨{}, by decide⟩,
   ⟨{ svc with cur := { retire := some (0, 0, 0) }, drawers := [(0, { st := .assigned })] }, 0, 0, 0, by decide +kernel⟩,
   ⟨{ tabbed with cur := { retire := some (0, 0, 0) } }, 0, 0, 0, by decide⟩,
   ⟨{ mode := .recovery }, by decide⟩,
   ⟨{ mode := .recovery, cur := { fullTest := true } }, by decide⟩,
   ⟨svc, by decide⟩,
   ⟨{}, by decide⟩,
   ⟨{ mode := .recovery, cur := { fullTest := true } }, by decide⟩,
   ⟨svc, by decide⟩⟩

theorem wit_RestoreFromTheTwin :
    (∃ (s : State), s.seam.pair = .paired) ∧
    (∃ (s : State), s.seam.pair ≠ .paired) ∧
    (∃ (s : State) (n : Fin 64) (id : BitVec 24), (n.val, id.toNat) ∈ s.cur.restorePend) ∧
    (∃ (s : State) (n : Fin 64) (id : BitVec 24) (d : Table), (n.val, id.toNat) ∈ s.cur.restorePend ∧ s.liveTable n.val = some d ∧ s.tableLocked n.val = true) ∧
    (∃ (s : State) (n : Fin 64) (id : BitVec 24) (b : List Byte) (d : Table) (u : State) (g : Group) (v : State) (g' : Group), (n.val, id.toNat) ∈ s.cur.restorePend ∧ s.liveTable n.val = some d ∧ s.tableLocked n.val = false ∧ u = (s.seamGot (SeamOut.restoreAns 0 0 (some b) 0).flits).setCur { s.cur with restorePend := s.cur.restorePend.erase (n.val, id.toNat) } ∧ g = { num := 0, tbl := n.val, func := 0, lease := 0, ungrouped := true, st := .ready, local_ := true, order := s.cur.deferOrder } ∧ u.stage g d .modify { entryOfBytes b d.width with id := id.toNat } = .ok v g') ∧
    (∃ (s : State) (n : Fin 64) (id : BitVec 24), (n.val, id.toNat) ∉ s.cur.restorePend) :=
  ⟨⟨{ tabbed with seam := { pair := .paired } }, by decide⟩,
   ⟨svc, by decide⟩,
   ⟨{ svc with cur := { restorePend := [(63, 5)] } }, 63, 5, by decide⟩,
   ⟨{ grouped .open with cur := { restorePend := [(0, 5)] } }, 0, 5, tab, by decide +kernel⟩,
   ⟨{ tabbed with cur := { restorePend := [(0, 5)] }, lost := [(0, 5)] }, 0, 5, leBytes 80 5, tab, _, _,
      (match (((({ tabbed with cur := { restorePend := [(0, 5)] }, lost := [(0, 5)] } : State).seamGot (SeamOut.restoreAns 0 0 (some (leBytes 80 5 : List Byte)) 0).flits).setCur { ({ tabbed with cur := { restorePend := [(0, 5)] }, lost := [(0, 5)] } : State).cur with restorePend := ({ tabbed with cur := { restorePend := [(0, 5)] }, lost := [(0, 5)] } : State).cur.restorePend.erase ((0 : Fin 64).val, (5 : BitVec 24).toNat) }) : State).stage (({ num := 0, tbl := (0 : Fin 64).val, func := 0, lease := 0, ungrouped := true, st := .ready, local_ := true, order := ({ tabbed with cur := { restorePend := [(0, 5)] }, lost := [(0, 5)] } : State).cur.deferOrder }) : Group) tab .modify { entryOfBytes (leBytes 80 5 : List Byte) tab.width with id := (5 : BitVec 24).toNat } with | .ok v_ _ => v_ | _ => svc),
      (match (((({ tabbed with cur := { restorePend := [(0, 5)] }, lost := [(0, 5)] } : State).seamGot (SeamOut.restoreAns 0 0 (some (leBytes 80 5 : List Byte)) 0).flits).setCur { ({ tabbed with cur := { restorePend := [(0, 5)] }, lost := [(0, 5)] } : State).cur with restorePend := ({ tabbed with cur := { restorePend := [(0, 5)] }, lost := [(0, 5)] } : State).cur.restorePend.erase ((0 : Fin 64).val, (5 : BitVec 24).toNat) }) : State).stage (({ num := 0, tbl := (0 : Fin 64).val, func := 0, lease := 0, ungrouped := true, st := .ready, local_ := true, order := ({ tabbed with cur := { restorePend := [(0, 5)] }, lost := [(0, 5)] } : State).cur.deferOrder }) : Group) tab .modify { entryOfBytes (leBytes 80 5 : List Byte) tab.width with id := (5 : BitVec 24).toNat } with | .ok _ v_ => v_ | _ => grp .open),
      ⟨by decide +kernel, by decide +kernel, by decide +kernel, rfl, rfl, (by set_option maxRecDepth 20000 in rfl)⟩⟩,
   ⟨svc, 0, 0, by decide⟩⟩

theorem wit_AssociatedDataCommands :
    (∃ (s : State) (c : Cmd) (d : Dma) (b : List Byte), s.engineOp 0x20 = some c ∧ s.host.mirror = none ∧ s.seam.pair ≠ .paired ∧ c.func = 0 ∧ badParams c.slot = false ∧ s.reqFenced 0 = false ∧ d.rd = some b) ∧
    (∃ (s : State) (c : Cmd) (d : Dma), s.engineOp 0x21 = some c ∧ s.host.mirror = none ∧ c.func = 0 ∧ badParams c.slot = false ∧ s.reqFenced 0 = false ∧ d.wrOk = true) ∧
    (∃ (s : State) (c : Cmd), s.host.mirror = none ∧ c.func ≠ 0 ∧ s.engineOp 0x20 = some c) ∧
    (∃ (s : State) (c : Cmd), s.host.mirror = none ∧ c.func ≠ 0 ∧ s.engineOp 0x21 = some c) ∧
    (∃ (s : State) (c : Cmd) (i : Instr) (kind : Nat) (n : Nat), (i, kind) ∈ [(Instr.wrdOpInval, 0), (.wrdOpClean, 1), (.wrdOpFlush, 2)] ∧ s.engineOp 0x22 = some c ∧ s.host.mirror = none ∧ n = (if bitOf c.slot.p1 3 then bits c.slot.p1 48 28 else 1) ∧ bits c.slot.p1 2 0 = kind ∧ s.seam.pair ≠ .paired ∧ badParams c.slot = false ∧ s.reqFenced 0 = false ∧ n ≠ 0 ∧ n ≤ 2 ^ 20 ∧ bits c.slot.p1 27 8 + n ≤ 2 ^ 20) ∧
    (∃ (s : State) (c : Cmd) (i : Instr) (kind : Nat) (n : Nat), (i, kind) ∈ [(Instr.wrdOpInval, 0), (.wrdOpClean, 1), (.wrdOpFlush, 2)] ∧ s.engineOp 0x22 = some c ∧ s.host.mirror = none ∧ n = (if bitOf c.slot.p1 3 then bits c.slot.p1 48 28 else 1) ∧ ((bits c.slot.p1 2 0 = kind ∧ s.reqFenced 0 = false ∧ (n = 0 ∨ 2 ^ 20 < bits c.slot.p1 27 8 + n)) ∨ 3 ≤ bits c.slot.p1 2 0)) :=
  ⟨⟨eng (cmd 0x20 0 0xF), cmd 0x20 0 0xF, { rd := some (leBytes 64 7) }, leBytes 64 7, by decide⟩,
   ⟨{ eng (cmd 0x21 64 0) with wrd := { store := [(0, 7)] } }, cmd 0x21 64 0, {}, by decide⟩,
   ⟨eng (cmd 0x20 0 0 15), cmd 0x20 0 0 15, by decide⟩,
   ⟨eng (cmd 0x21 0 0 15), cmd 0x21 0 0 15, by decide⟩,
   ⟨eng (cmd 0x22 0 (2 ^ 28 - 2 ^ 8 + 2)), cmd 0x22 0 (2 ^ 28 - 2 ^ 8 + 2), .wrdOpFlush, 2, _,
      ⟨by decide, by decide, by decide, rfl, by decide, by decide, by decide, by decide, by decide, by decide, by decide⟩⟩,
   ⟨eng (cmd 0x22 0 (2 ^ 28 - 2 ^ 8 + 2 + 8 + 2 ^ 29)), cmd 0x22 0 (2 ^ 28 - 2 ^ 8 + 2 + 8 + 2 ^ 29), .wrdOpFlush, 2, _,
      ⟨by decide, by decide, by decide, rfl, by decide⟩⟩⟩

theorem wit_WardrobeOperationsAtTheBoundary :
    (∃ (s : State) (kind : Nat) (first : Nat) (n : Nat), kind ≤ 2 ∧ (s.wrd.retention.length + (s.wrd.held_ first n).length ≤ 1024 ∨ kind = 1)) ∧
    (∃ (s : State) (kind : Nat) (first : Nat) (n : Nat), kind ≤ 2 ∧ s.wrd.retention.length ≤ 1024 ∧ 1024 < s.wrd.retention.length + (s.wrd.held_ first n).length ∧ kind ≠ 1) :=
  ⟨⟨{ svc with wrd := { ways := [{ set := 3, way := 0, line := 3, data := 5, dirty := true }], store := [(3, 4)] } }, 2, 0, 5, by decide +kernel⟩,
   ⟨{ svc with wrd := { ways := [{ set := 3, way := 0, line := 3, data := 5, dirty := true }], retention := List.replicate 1024 { line := 9, data := 5, at_ := 0, until_ := 9 } } },
      2, 0, 2 ^ 20, by decide +kernel⟩⟩

theorem wit_PinsLockAndStore :
    (∃ (s : State) (i : Fin 16) (p : Pin), s.mode = .service ∧ ((s.pin i).st = .off ∨ (s.pin i).st = .conflict) ∧ p = { st := .loading, base := s.get Reg.WRD_PIN_BASE i, count := s.get Reg.WRD_PIN_COUNT i, tbl := s.get Reg.WRD_PIN_TABLE i }) ∧
    (∃ (s : State), s.mode = .service) ∧
    (∃ (s : State) (i : Fin 16), s.mode = .service ∧ ((s.pin i).st = .loading ∨ (s.pin i).st = .held)) ∧
    (∃ (s : State) (i : Fin 16), (s.pin i).st = .loading ∧ (s.pin i).loaded = false ∧ s.mayWork 12 = true ∧ s.mode = .service) ∧
    (∃ (s : State) (i : Fin 16), ((s.pin i).st ≠ .loading ∨ (s.pin i).loaded = true ∨ s.mayWork 12 = false ∨ s.mode ≠ .service)) ∧
    (∃ (s : State), s.mode = .service) ∧
    (∃ (s : State), s.mode ≠ .service) ∧
    (∃ (s : State), s.mode ≠ .service) ∧
    (∃ (s : State) (w : WriteRes) (l : Nat) (v : BitVec 512) (q : List (Nat × BitVec 512)), s.wrd.staging = (l, v) :: q ∧ s.mayWork 12 = true ∧ (s.failsOf (w.rows.headD [])).length ≤ 3) ∧
    (∃ (s : State) (w : WriteRes) (l : Nat) (v : BitVec 512) (q : List (Nat × BitVec 512)), s.wrd.staging = (l, v) :: q ∧ s.mayWork 12 = true ∧ 3 < (s.failsOf (w.rows.headD [])).length) ∧
    (∃ (s : State), (s.wrd.staging = [] ∨ s.mayWork 12 = false)) :=
  ⟨⟨svc.put Reg.WRD_PIN_COUNT 1 15, 15, _, ⟨by decide, by decide, rfl⟩⟩,
   ⟨{ svc with wrd := { pins := [(15, { st := .held })] } }, by decide⟩,
   ⟨{ svc with wrd := { pins := [(15, { st := .held })] } }, 15, by decide⟩,
   ⟨{ tabbed with wrd := { lock := 1, pins := [(15, { st := .loading, count := 2 })] } }, 15, by decide⟩,
   ⟨svc, 15, by decide⟩,
   ⟨svc, by decide⟩,
   ⟨{}, by decide⟩,
   ⟨{}, by decide⟩,
   ⟨{ svc with wrd := { staging := [(3, 1)], bad := [3] } }, {}, 3, 1, [], by decide +kernel⟩,
   ⟨{ svc with wrd := { staging := [(3, 1)], bad := [3] } }, { rows := [[[0], [0], [0], [0]]] }, 3, 1, [], by decide +kernel⟩,
   ⟨svc, by decide⟩⟩

theorem wit_PortArbitration :
    (∃ (s : State) (r : Fin 16), (s.req r).st = .idle ∧ s.mayRequest r = true) ∧
    (∃ (s : State) (r : Fin 16), ((s.req r).st ≠ .idle ∨ s.mayRequest r = false)) ∧
    (∃ (s : State), s.owner = none) ∧
    (∃ (s : State) (o : Nat), s.owner = some o) ∧
    (∃ (s : State) (r : Fin 16), s.mode = .service ∧ r.val < 14) ∧
    (∃ (s : State) (r : Fin 16), s.mode = .service ∧ 14 ≤ r.val) ∧
    (∃ (s : State), s.mode ≠ .service) :=
  ⟨⟨svc, 13, by decide⟩,
   ⟨{ svc with mnt := { reqs := [(0, { st := .owner })] } }, 0, by decide⟩,
   ⟨svc, by decide⟩,
   ⟨{ svc with mnt := { reqs := [(0, { st := .owner }), (4, { st := .waiting })] } }, 0, by decide⟩,
   ⟨svc, 13, by decide⟩,
   ⟨svc, 14, by decide⟩,
   ⟨{}, by decide⟩⟩

theorem wit_FencesOfTheMaintenancePort :
    (∃ (s : State) (r : Fin 16), (let late := (s.req r).st = .waiting ∧ s.get Reg.MNT_REQ_STARVE_US r ≠ 0 ∧ s.get Reg.MNT_REQ_STARVE_US r * cyclesPerUs < s.clock - (s.req r).since; late ∧ s.flag Reg.MNT_REQ_STARVED r = false)) ∧
    (∃ (s : State) (r : Fin 16), (let late := (s.req r).st = .waiting ∧ s.get Reg.MNT_REQ_STARVE_US r ≠ 0 ∧ s.get Reg.MNT_REQ_STARVE_US r * cyclesPerUs < s.clock - (s.req r).since; (¬ late ∨ s.flag Reg.MNT_REQ_STARVED r = true))) ∧
    (∃ (s : State) (r : Nat), s.owner = some r ∧ s.mnt.mark + s.get Reg.MNT_CTRL_WD_TIMEOUT * cyclesPerUs ≤ s.clock ∧ s.mode ≠ .dormant) ∧
    (∃ (s : State), (s.owner = none ∨ s.clock < s.mnt.mark + s.get Reg.MNT_CTRL_WD_TIMEOUT * cyclesPerUs ∨ s.mode = .dormant)) ∧
    (∃ (s : State) (r : Fin 16), s.mode = .service ∧ r.val < 14 ∧ s.reqFenced r = false) ∧
    (∃ (s : State) (r : Fin 16), s.mode = .service ∧ (14 ≤ r.val ∨ s.reqFenced r = true)) ∧
    (∃ (s : State) (r : Fin 16), s.mode = .service ∧ s.reqFenced r = true) ∧
    (∃ (s : State) (r : Fin 16), s.mode = .service ∧ s.reqFenced r = false) ∧
    (∃ (s : State), s.mode ≠ .service) :=
  ⟨⟨{ svc.put Reg.MNT_REQ_STARVE_US 1 13 with clock := 1251, mnt := { reqs := [(13, { st := .waiting })] } }, 13, by decide⟩,
   ⟨svc, 0, by decide⟩,
   ⟨{ tabbed with rows := [{ row with st := .set, maker := 0 }], clock := 2 ^ 50, mnt := { reqs := [(0, { st := .owner })] } }, 0, by decide⟩,
   ⟨svc, by decide⟩,
   ⟨{ tabbed with rows := [{ row with st := .set, maker := 13 }], mnt := { reqs := [(13, { st := .owner }), (4, { st := .waiting })] } }, 13, by decide⟩,
   ⟨svc, 14, by decide⟩,
   ⟨{ svc with mnt := { reqs := [(13, { st := .fenced })] } }, 13, by decide⟩,
   ⟨svc, 13, by decide⟩,
   ⟨{}, by decide⟩⟩

theorem wit_AttachSyncAndJoin :
    (∃ (s : State), s.seam.link.st = .up ∧ s.mode = .service ∧ s.seam.pair = .attaching) ∧
    (∃ (s : State), s.seam.link.st = .up ∧ (s.mode ≠ .service ∨ s.seam.pair ≠ .attaching)) ∧
    (∃ (s : State), s.seam.link.st ≠ .up) ∧
    (∃ (s : State), s.seam.pair = .target) ∧
    (∃ (s : State), s.seam.pair = .target) ∧
    (∃ (s : State) (j : BitVec 48) (i : Instr), i ∈ [Instr.syncBegin, .syncEnd, .join j] ∧ s.seam.pair ≠ .target) ∧
    (∃ (s : State), s.seam.pair = .target ∧ s.seam.syncing = true ∧ s.reqFenced 1 = false) ∧
    (∃ (s : State) (items : List SyncItem), s.seam.pair = .source ∧ s.reqFenced 1 = false ∧ s.seam.snap = some items) ∧
    (∃ (s : State), (s.reqFenced 1 = true ∨ (s.seam.pair ≠ .source ∧ (s.seam.pair ≠ .target ∨ s.seam.syncing = false)))) ∧
    (∃ (s : State) (j : Tick), s.seam.joinAt = some j ∧ (s.seam.pair = .source ∨ s.seam.pair = .target) ∧ tickLe j s.tick.now = true) ∧
    (∃ (s : State), (s.seam.joinAt = none ∨ (s.seam.pair ≠ .source ∧ s.seam.pair ≠ .target) ∨ (∀ j, s.seam.joinAt = some j → tickLe j s.tick.now = false))) :=
  ⟨⟨{ svc with seam := { pair := .attaching, link := { st := .up } } }, by decide⟩,
   ⟨{ mode := .recovery, seam := { link := { st := .up } } }, by decide⟩,
   ⟨svc, by decide⟩,
   ⟨twin .target, by decide⟩,
   ⟨twin .target, by decide⟩,
   ⟨svc, 0, .syncEnd, by decide⟩,
   ⟨{ svc with seam := { pair := .target, syncing := true } }, by decide⟩,
   ⟨{ svc with seam := { pair := .source, snap := some [] } }, [], by decide⟩,
   ⟨svc, by decide⟩,
   ⟨{ svc with seam := { pair := .target, joinAt := some 0 } }, 0, by decide⟩,
   ⟨svc, by decide⟩⟩

theorem wit_DigestsAreCompared :
    (∃ (s : State) (f : Flit) (stamp : Tick), stamp = stampOf s.tick.now (stampLo f) ∧ s.seam.pair = .paired) ∧
    (∃ (s : State) (f : Flit) (stamp : Tick), stamp = stampOf s.tick.now (stampLo f) ∧ s.seam.pair ≠ .paired) ∧
    (∃ (f : Flit) (s : State) (stamp : Tick) (c : Machine.Cmp), stamp = stampOf s.tick.now (stampLo f) ∧ (let found := s.seam.cmps.find? fun c => c.stamp == stamp && c.group == digestGroup f && !c.agreed; found = some c)) ∧
    (∃ (s : State) (f : Flit) (stamp : Tick), stamp = stampOf s.tick.now (stampLo f) ∧ (let found := s.seam.cmps.find? fun c => c.stamp == stamp && c.group == digestGroup f && !c.agreed; found = none)) :=
  ⟨⟨{ twin .paired with tick := { now := 100 } }, 0x20, _, ⟨rfl, by decide⟩⟩,
   ⟨svc, 0x20, _, ⟨rfl, by decide⟩⟩,
   ⟨0x21,
      { twin .paired with seam := { pair := .paired, cmps := [{ stamp := 0, group := 0, agreed := false, ownAnom := 0, peerAnom := 0 }], digs := [{ stamp := 0, slot := 16, count := 1 }] } },
      _, { stamp := 0, group := 0, agreed := false, ownAnom := 0, peerAnom := 0 }, ⟨rfl, by decide⟩⟩,
   ⟨svc, 0x21, _, ⟨rfl, by decide⟩⟩⟩

theorem wit_MirroredOperations :
    (∃ (s : State) (c : Cmd) (d : Dma) (e : Dma) (i : Instr) (op : Nat) (r : Ran), ((i, op, e) ∈ [(Instr.tblCreate d, 0x01, d), (.tblDestroy, 0x02, {}), (.tblInsert d, 0x03, d), (.tblDelete, 0x04, {}), (.tblModify d, 0x05, d), (.editCommit, 0x0A, {}), (.chnCreate d, 0x10, d), (.chnDestroy, 0x11, {}), (.adataWrite d, 0x20, d)] ∨ (∃ kind, (i, kind) ∈ [(Instr.wrdOpInval, 0), (.wrdOpClean, 1), (.wrdOpFlush, 2)] ∧ bits c.slot.p1 2 0 = kind ∧ op = 0x22 ∧ e = {})) ∧ s.engineOp op = some c ∧ s.host.mirror = none ∧ s.seam.pair = .paired ∧ r = coreOf 0 s (some c.own) c.func c.slot e ∧ r.wait = false ∧ r.status = Sts.SUCCESS) ∧
    (∃ (s : State) (c : Cmd) (d : Dma) (e : Dma) (i : Instr) (op : Nat) (r : Ran), ((i, op, e) ∈ [(Instr.tblCreate d, 0x01, d), (.tblDestroy, 0x02, {}), (.tblInsert d, 0x03, d), (.tblDelete, 0x04, {}), (.tblModify d, 0x05, d), (.editCommit, 0x0A, {}), (.chnCreate d, 0x10, d), (.chnDestroy, 0x11, {}), (.adataWrite d, 0x20, d)] ∨ (∃ kind, (i, kind) ∈ [(Instr.wrdOpInval, 0), (.wrdOpClean, 1), (.wrdOpFlush, 2)] ∧ bits c.slot.p1 2 0 = kind ∧ op = 0x22 ∧ e = {})) ∧ s.engineOp op = some c ∧ s.host.mirror = none ∧ s.seam.pair = .paired ∧ r = coreOf 0 s (some c.own) c.func c.slot e ∧ r.wait = false ∧ r.status ≠ Sts.SUCCESS ∧ r.later = false) ∧
    (∃ (s : State) (id : Nat) (op : MirrorOp), ((∃ n v, op = .site n v) ∨ ∃ rel v, op = .release rel v) ∧ s.seam.pair = .paired ∧ (∀ x ∈ s.seam.ops, x.key ≠ id % 2 ^ 16 + 65536)) ∧
    (∃ (s : State) (id : Nat) (f : Fin 16) (c : CmdSlot) (d : Dma) (h : BitVec 16) (m : Mirrored) (u : State) (r : Ran), s.seam.pair = .paired ∧ u = s.seamGot (mirrorFlits (.command f c d h)) ∧ m = { id := id % 2 ^ 16, mine := false, op := .command f c d h, target := mirrorTarget (.command f c d h) } ∧ r = coreOf h.toNat (u.setOps (u.seam.ops ++ [m])) none f.val c d) ∧
    (∃ (id : Nat) (s : State) (handle : BitVec 16) (m : Mirrored) (e : Cmd) (f : Fin 16) (c : CmdSlot) (d : Dma) (h : BitVec 16) (r : Ran), s.opOf true id = some m ∧ m.st = .staging ∧ m.op = .command f c d h ∧ s.host.engine = some e ∧ s.host.mirror = some id ∧ r = coreOf (if h = 0 then handle.toNat else h.toNat) (s.seamGot 1) (some e.own) f.val c d ∧ r.wait = false) ∧
    (∃ (id : Nat) (s : State) (m : Mirrored), s.opOf true id = some m ∧ m.st = .staging) ∧
    (∃ (s : State), s.seam.pair ≠ .paired ∧ s.seam.pair ≠ .target) ∧
    (∃ (s : State) (id : Nat), s.opOf true id = none) ∧
    (∃ (s : State) (id : Nat) (m : Mirrored), s.opOf true id = some m ∧ m.st = .staged) ∧
    (∃ (s : State) (id : Nat) (m : Mirrored), s.opOf false id = some m ∧ m.st = .staged) ∧
    (∃ (s : State) (id : Nat) (m : Mirrored), s.opOf true id = some m ∧ (m.st = .deferred ∨ ∃ p, m.st = .proposed p)) ∧
    (∃ (s : State) (id : Nat) (m : Mirrored) (k : Tick), s.opOf true id = some m ∧ m.st = .proposed k) ∧
    (∃ (s : State) (id : Nat) (k : BitVec 48) (i : Instr), s.opOf true id = none ∧ i ∈ [Instr.ready id, .agree id k, .defer id]) ∧
    (∃ (s : State) (id : Nat), s.opOf false id = none) ∧
    (∃ (s : State) (id : Nat) (m : Mirrored), id < 65536 ∧ s.opOf false id = some m ∧ m.isBound = false) ∧
    (∃ (s : State) (id : Nat) (m : Mirrored), id < 65536 ∧ s.opOf false id = some m ∧ m.isBound = true) ∧
    (∃ (s : State) (id : Nat) (g : Group), 65536 ≤ id ∧ (let own := s.groups.find? fun g => g.fromPeer && !g.isBound && g.num == id - 65536 && !g.ungrouped; own = some g)) ∧
    (∃ (s : State) (id : Nat), 65536 ≤ id ∧ (let own := s.groups.find? fun g => g.fromPeer && !g.isBound && g.num == id - 65536 && !g.ungrouped; own = none)) :=
  ⟨⟨{ eng (cmd 0x20 0 0xF) with seam := { pair := .paired } }, cmd 0x20 0 0xF, { rd := some (leBytes 64 7) }, { rd := some (leBytes 64 7) }, .adataWrite
      { rd := some (leBytes 64 7) }, 0x20, _, ⟨.inl (by decide), by decide, by decide, by decide, rfl, by decide, by decide⟩⟩,
   ⟨{ eng (cmd 0x02 0 63) with seam := { pair := .paired } }, cmd 0x02 0 63, {}, {}, .tblDestroy, 0x02, _,
      ⟨.inl (by decide), by decide, by decide, by decide, rfl, by decide, by decide, by decide⟩⟩,
   ⟨twin .paired, 3, .site 0 0, ⟨.inl ⟨_, _, rfl⟩, by decide, by decide⟩⟩,
   ⟨twin .paired, 3, 0, slot, {}, 0, _, _, _, ⟨by decide, rfl, rfl, rfl⟩⟩,
   ⟨3,
      { eng (cmd 0x20 0 0xF) with seam := { pair := .paired, ops := [{ id := 3, mine := true, op := .command 0 (cmd 0x20 0 0xF).slot { rd := some (leBytes 64 7) } 0 }] }, host := { engine := some (cmd 0x20 0 0xF), mirror := some 3 } },
      0, { id := 3, mine := true, op := .command 0 (cmd 0x20 0 0xF).slot { rd := some (leBytes 64 7) } 0 }, cmd 0x20 0 0xF, 0, (cmd 0x20 0 0xF).slot,
      { rd := some (leBytes 64 7) }, 0, _, ⟨by decide, by decide, by decide, by decide, by decide, rfl, by decide⟩⟩,
   ⟨3,
      { eng (cmd 0x20 0 0xF) with seam := { pair := .paired, ops := [{ id := 3, mine := true, op := .command 0 (cmd 0x20 0 0xF).slot { rd := some (leBytes 64 7) } 0 }] }, host := { engine := some (cmd 0x20 0 0xF), mirror := some 3 } },
      { id := 3, mine := true, op := .command 0 (cmd 0x20 0 0xF).slot { rd := some (leBytes 64 7) } 0 }, by decide⟩,
   ⟨svc, by decide⟩,
   ⟨twin .paired, 3, by decide⟩,
   ⟨twinOp true .staged, 3, mirrored true .staged, by decide⟩,
   ⟨twinOp false .staged, 3, mirrored false .staged, by decide⟩,
   ⟨twinOp true .deferred, 3, mirrored true .deferred, ⟨by decide, .inl rfl⟩⟩,
   ⟨twinOp true (.proposed 9), 3, mirrored true (.proposed 9), 9, by decide⟩,
   ⟨twin .paired, 7, 0, .defer (7 : Nat), by decide⟩,
   ⟨twin .paired, 7, by decide⟩,
   ⟨twinOp false .staged, 3, mirrored false .staged, by decide⟩,
   ⟨twinOp false (.bound 9), 3, mirrored false (.bound 9), by decide⟩,
   ⟨{ tabbed with groups := [{ grp .open with fromPeer := true, mirrored := true }], seam := { pair := .paired } }, 65537,
      { grp .open with fromPeer := true, mirrored := true }, by decide⟩,
   ⟨twin .paired, 65537, by decide⟩⟩

theorem wit_LocksDetachAndRelease :
    (∃ (s : State) (n : Fin 64) (g : BitVec 16) (f : Fin 16) (new : Group), new = { num := g.toNat, tbl := n.val, func := f.val, lease := 0, leaseAt := s.clock, mirrored := true, fromPeer := true } ∧ s.seam.pair = .paired ∧ (s.seam.lockWait.find? fun e => e.1 == n.val) = none) ∧
    (∃ (s : State) (n : Fin 64) (g : BitVec 16) (f : Fin 16) (new : Group) (e : Nat × Nat), new = { num := g.toNat, tbl := n.val, func := f.val, lease := 0, leaseAt := s.clock, mirrored := true, fromPeer := true } ∧ s.seam.pair = .paired ∧ (s.seam.lockWait.find? fun e => e.1 == n.val) = some e) ∧
    (∃ (s : State) (n : Fin 64) (g : BitVec 16) (f : Fin 16) (new : Group), new = { num := g.toNat, tbl := n.val, func := f.val, lease := 0, leaseAt := s.clock, mirrored := true, fromPeer := true } ∧ s.seam.pair ≠ .paired) ∧
    (∃ (s : State) (n : Fin 64) (e : Nat × Nat) (c : Cmd), (s.seam.lockWait.find? fun e => e.1 == n.val) = some e ∧ s.host.engine = some c ∧ s.host.mirror = some lockWaits) ∧
    (∃ (s : State) (n : Fin 64), (s.seam.lockWait.find? fun e => e.1 == n.val) = none) ∧
    (∃ (s : State), (s.seam.pair = .source ∨ s.seam.pair = .target ∨ s.seam.pair = .paired) ∧ s.seam.detachDue = none) ∧
    (∃ (s : State), (s.seam.pair = .source ∨ s.seam.pair = .target ∨ s.seam.pair = .paired) ∧ s.seam.detachDue = none ∧ max (s.get Reg.SEAM_CTRL_LOSS_TICKS) 1 ≤ s.seam.missed) ∧
    (∃ (s : State), (s.seam.pair = .source ∨ s.seam.pair = .target ∨ s.seam.pair = .paired) ∧ s.seam.detachDue = none ∧ s.mode = .service) ∧
    (∃ (s : State), s.seam.missed < max (s.get Reg.SEAM_CTRL_LOSS_TICKS) 1) ∧
    (∃ (s : State), s.mode ≠ .service) ∧
    (∃ (s : State), s.mode ≠ .service) ∧
    (∃ (s : State) (rel : Bool) (v : BitVec 5) (n : Nat), s.mode = .service ∧ n = (if 2 ≤ v.toNat ∧ v.toNat ≤ 16 then v.toNat else s.get Reg.SEAM_CTRL_S) ∧ (rel ≠ s.flag Reg.SEAM_CTRL_RELEASE ∨ n ≠ s.get Reg.SEAM_CTRL_S)) ∧
    (∃ (s : State) (rel : Bool) (v : BitVec 5) (n : Nat), s.mode = .service ∧ n = (if 2 ≤ v.toNat ∧ v.toNat ≤ 16 then v.toNat else s.get Reg.SEAM_CTRL_S) ∧ rel = s.flag Reg.SEAM_CTRL_RELEASE ∧ n = s.get Reg.SEAM_CTRL_S ∧ s.tick.retime = none) ∧
    (∃ (s : State) (f : Flit), seamKinds.contains (seamKind f) = false ∧ s.seam.link.st = .up) ∧
    (∃ (s : State) (f : Flit), (seamKinds.contains (seamKind f) = true ∨ s.seam.link.st ≠ .up)) :=
  ⟨⟨{ tabbed with seam := { pair := .paired } }, 0, 1, 0, _, ⟨rfl, by decide, by decide⟩⟩,
   ⟨{ tabbed with seam := { pair := .paired, lockWait := [(0, 1)], role := 2 }, host := { engine := some (cmd 0x09 0 0), mirror := some lockWaits }, groups := [{ num := 1, tbl := 0, func := 0, lease := 0, mirrored := true }] },
      0, 1, 0, _, (0, 1), ⟨rfl, by decide, by decide⟩⟩,
   ⟨svc, 0, 1, 0, _, ⟨rfl, by decide⟩⟩,
   ⟨{ tabbed with seam := { lockWait := [(0, 1)] }, host := { engine := some (cmd 0x09 0 0), mirror := some lockWaits }, groups := [{ num := 1, tbl := 0, func := 0, lease := 0, mirrored := true }] },
      0, (0, 1), cmd 0x09 0 0, by decide⟩,
   ⟨svc, 0, by decide⟩,
   ⟨twin .paired, by decide⟩,
   ⟨{ svc with seam := { pair := .paired, missed := 100 } }, by decide⟩,
   ⟨twin .paired, by decide⟩,
   ⟨svc, by decide⟩,
   ⟨{}, by decide⟩,
   ⟨{}, by decide⟩,
   ⟨svc, true, 16, _, ⟨by decide, rfl, by decide⟩⟩,
   ⟨svc, (svc.flag Reg.SEAM_CTRL_RELEASE), 0, _, ⟨by decide, rfl, by decide, by decide, by decide⟩⟩,
   ⟨{ svc with seam := { link := { st := .up } } }, 0x12, by decide⟩,
   ⟨svc, 0x12, by decide⟩⟩

theorem wit_CascadeTokens :
    (∃ (s : State) (flits : List Flit) (k : Token) (d : Table), tokenOf flits = k ∧ Tk.kind (flitsNat flits) = 0 ∧ s.inRing = true ∧ s.cascaded = true ∧ k.origin ≠ s.member ∧ s.liveSet.testBit k.origin = true ∧ tickLater (s.get Reg.CSC_LIVE_AGREED) (planTick s.tick.now k.ptick) = false ∧ k.visited.testBit s.member = false ∧ s.table k.tbl = some d ∧ d.cascaded = true) ∧
    (∃ (s : State) (flits : List Flit) (k : Token), tokenOf flits = k ∧ Tk.kind (flitsNat flits) = 0 ∧ s.inRing = true ∧ s.cascaded = false) ∧
    (∃ (s : State) (flits : List Flit) (k : Token), tokenOf flits = k ∧ Tk.kind (flitsNat flits) = 0 ∧ s.inRing = true ∧ s.cascaded = true ∧ k.origin ≠ s.member ∧ (s.liveSet.testBit k.origin = false ∨ tickLater (s.get Reg.CSC_LIVE_AGREED) (planTick s.tick.now k.ptick) = true)) ∧
    (∃ (s : State) (flits : List Flit) (k : Token), tokenOf flits = k ∧ Tk.kind (flitsNat flits) = 0 ∧ s.inRing = true ∧ s.cascaded = true ∧ k.origin ≠ s.member ∧ s.liveSet.testBit k.origin = true ∧ tickLater (s.get Reg.CSC_LIVE_AGREED) (planTick s.tick.now k.ptick) = false ∧ k.visited.testBit s.member = true) ∧
    (∃ (s : State) (flits : List Flit) (k : Token), tokenOf flits = k ∧ Tk.kind (flitsNat flits) = 0 ∧ s.inRing = true ∧ s.cascaded = true ∧ k.origin = s.member ∧ s.tokenHome k = true ∧ (s.csc.flight.any fun e => e.1 == k.tok) = true) ∧
    (∃ (s : State) (flits : List Flit), s.inRing = true ∧ Tk.kind (flitsNat flits) = 1 ∧ (s.cascaded = false ∨ Tk.target (flitsNat flits) ≠ s.member)) ∧
    (∃ (s : State) (flits : List Flit), s.inRing = true ∧ Tk.kind (flitsNat flits) = 2 ∧ (s.cascaded = false ∨ Tk.target (flitsNat flits) ≠ s.member)) ∧
    (∃ (s : State) (flits : List Flit), s.inRing = true ∧ Tk.kind (flitsNat flits) = 2 ∧ s.cascaded = true ∧ Tk.target (flitsNat flits) = s.member) ∧
    (∃ (flits : List Flit) (s : State) (d : Table) (n : Nat) (key : BitVec 640), s.inRing = true ∧ s.cascaded = true ∧ Tk.kind (flitsNat flits) = 1 ∧ Tk.target (flitsNat flits) = s.member ∧ Tk.table (flitsNat flits) = n ∧ s.liveSet.testBit (Tk.origin (flitsNat flits)) = true ∧ s.table n = some d ∧ d.cascaded = true ∧ d.learnEn = true ∧ d.destroyAt = none ∧ s.csc.learns = [] ∧ key = Tk.key (flitsNat flits) &&& d.mask &&& widthMask d.width ∧ s.unfinished (tickSub s.tick.plan 1) = true) ∧
    (∃ (flits : List Flit) (d : Table) (n : Nat) (key : BitVec 640) (s : State), s.inRing = true ∧ s.cascaded = true ∧ Tk.kind (flitsNat flits) = 1 ∧ Tk.target (flitsNat flits) = s.member ∧ Tk.table (flitsNat flits) = n ∧ s.liveSet.testBit (Tk.origin (flitsNat flits)) = true ∧ s.table n = some d ∧ d.cascaded = true ∧ d.learnEn = true ∧ d.destroyAt = none ∧ s.csc.learns = [] ∧ key = Tk.key (flitsNat flits) &&& d.mask &&& widthMask d.width ∧ s.unfinished (tickSub s.tick.plan 1) = false ∧ s.recentLearn n key = true) ∧
    (∃ (s : State) (flits : List Flit) (d : Table) (n : Nat) (key : BitVec 640), s.inRing = true ∧ s.cascaded = true ∧ Tk.kind (flitsNat flits) = 1 ∧ Tk.target (flitsNat flits) = s.member ∧ Tk.table (flitsNat flits) = n ∧ s.liveSet.testBit (Tk.origin (flitsNat flits)) = true ∧ s.table n = some d ∧ d.cascaded = true ∧ d.learnEn = true ∧ d.destroyAt = none ∧ s.csc.learns = [] ∧ key = Tk.key (flitsNat flits) &&& d.mask &&& widthMask d.width ∧ s.unfinished (tickSub s.tick.plan 1) = false ∧ s.recentLearn n key = false ∧ (s.learn n d key (tickSub s.tick.plan 1)).2.status = Vs.NEW) ∧
    (∃ (s : State) (tok : BitVec 12), s.lookupOf tok.toNat = none) ∧
    (∃ (s : State) (tok : BitVec 12) (i : Nat) (k : Nat) (pl : Planned) (l : LookupPlan), s.lookupOf tok.toNat = some (i, k) ∧ s.planned[i]? = some pl ∧ pl.lookups[k]? = some l) :=
  ⟨⟨ringed, tokFlits, (tokenOf tokFlits), ctab, by decide +kernel⟩,
   ⟨ring 0 1, tokFlits, (tokenOf tokFlits), by decide +kernel⟩,
   ⟨(member 0).put Reg.CSC_LIVE_LIVE 1, tokFlits, (tokenOf tokFlits), by decide +kernel⟩,
   ⟨member 0, tokenWire { origin := 1, tok := 0, tbl := 0, width := 0, ptick := 0, key := 0, visited := 1 }, _,
      ⟨rfl, by decide +kernel, by decide +kernel, by decide +kernel, by decide +kernel, by decide +kernel, by decide +kernel, by decide +kernel⟩⟩,
   ⟨inFlight, tokenWire { origin := 0, tok := 3, tbl := 0, width := 0, ptick := 0, key := 0 }, _,
      ⟨rfl, by decide +kernel, by decide +kernel, by decide +kernel, by decide +kernel, by decide +kernel, by decide +kernel⟩⟩,
   ⟨member 0, learnFlits 1 0 0 0 0, by decide +kernel⟩,
   ⟨member 0, tallyFlits 1 0 0 5, by decide⟩,
   ⟨{ member 0 with tallies := [{ tbl := 0, id := 5, idx := 0, count := 3 }] }, tallyFlits 0 1 0 5, by decide⟩,
   ⟨learnFlits 0 1 0 0 5, { ringed with planned := [{ port := 0, flits := [], handle := 0, lookups := [{ act := .search }] }], tick := { plan := 1 } },
      ctab, 0, _,
      ⟨by decide +kernel, by decide +kernel, by decide +kernel, by decide +kernel, by decide +kernel, by decide +kernel, by decide +kernel, by decide +kernel, by decide +kernel, by decide +kernel, by decide +kernel, rfl, by decide +kernel⟩⟩,
   ⟨learnFlits 0 1 0 0 5, ctab, 0, _, { ringed with learnLog := [{ tbl := 0, key := 0, tick := 0, id := some 5 }] },
      ⟨by decide +kernel, by decide +kernel, by decide +kernel, by decide +kernel, by decide +kernel, by decide +kernel, by decide +kernel, by decide +kernel, by decide +kernel, by decide +kernel, by decide +kernel, rfl, by decide +kernel, by decide +kernel⟩⟩,
   ⟨{ ringed with tables := [(0, { ctab with learn := 16 + 16 * 2 ^ 32, mask := -1, limit := 1000 })], drawers := [] }, learnFlits 0 1 0 0 5,
      { ctab with learn := 16 + 16 * 2 ^ 32, mask := -1, limit := 1000 }, 0, _,
      ⟨by decide +kernel, by decide +kernel, by decide +kernel, by decide +kernel, by decide +kernel, by decide +kernel, by decide +kernel, by decide +kernel, by decide +kernel, by decide +kernel, by decide +kernel, rfl, by decide +kernel, by decide +kernel, by decide +kernel⟩⟩,
   ⟨svc, 0, by decide⟩,
   ⟨inFlight, 3, 0, 0, (inFlight.planned.head?.getD { port := 0, flits := [], handle := 0 }),
      (((inFlight.planned.head?.getD { port := 0, flits := [], handle := 0 }) : Planned).lookups.head?.getD {}), by decide +kernel⟩⟩

theorem wit_CascadeMembership :
    (∃ (s : State) (j : JoinInfo) (i : Instr), i ∈ [Instr.joinReq j, .notice (.join j)] ∧ s.inRing = true) ∧
    (∃ (s : State) (m : Fin 16) (i : Instr), i ∈ [Instr.cscBye m, .notice (.bye m)] ∧ s.inRing = true) ∧
    (∃ (s : State) (m : Fin 16) (i : Instr), (i = .notice (.lost m) ∨ (s.cascaded = true ∧ ((i = .cscTicksMissed .up ∧ m.val = s.neighbour false % 16) ∨ (i = .cscTicksMissed .down ∧ m.val = s.neighbour true % 16)))) ∧ s.inRing = true) ∧
    (∃ (s : State), s.inRing = true ∧ s.cascaded = true) ∧
    (∃ (s : State), s.inRing = true ∧ s.isCoord = false) ∧
    (∃ (s : State), s.inRing = true ∧ s.isCoord = true) ∧
    (∃ (s : State) (i : Instr), s.inRing = false ∧ (i ∈ [Instr.cscLeave, .cscJoin, .commit, .membershipApply] ∨ (∃ l, i = .cscTicksMissed l) ∨ (∃ n, i = .notice n) ∨ (∃ j, i = .joinReq j) ∨ (∃ m, i = .cscBye m) ∨ (∃ m, i = .ack m) ∨ (∃ l k, i = .cscPropose l k) ∨ (∃ f, i = .learnToken f) ∨ (∃ f, i = .tallyToken f) ∨ ∃ d f, i = .lookupToken d f)) ∧
    (∃ (s : State), s.inRing = true) ∧
    (∃ (s : State), s.inRing = true) ∧
    (∃ (s : State) (c : CscChange), s.inRing = true ∧ s.csc.change = some c ∧ c.bound = false) ∧
    (∃ (s : State), s.inRing = true ∧ (∀ c, s.csc.change = some c → c.bound = true)) ∧
    (∃ (s : State), s.inRing = true ∧ (∀ c, s.csc.change = some c → tickLe c.k s.tick.now = false)) ∧
    (∃ (s : State) (c : CscChange), s.inRing = true ∧ s.csc.change = some c ∧ tickLe c.k s.tick.now = true) ∧
    (∃ (s : State), s.mode ≠ .service) ∧
    (∃ (s : State), s.mode = .service) :=
  ⟨⟨ring 0 1, { member := 1, ring := 3, req2Fenced := false }, .joinReq { member := 1, ring := 3, req2Fenced := false }, by decide⟩,
   ⟨member 0, 1, .cscBye 1, by decide⟩,
   ⟨member 0, 1, .cscTicksMissed .up, by decide⟩,
   ⟨member 1, by decide⟩,
   ⟨ring 1 1, by decide⟩,
   ⟨(ring 0 0), by decide⟩,
   ⟨svc, .commit, ⟨by decide, .inl (by decide)⟩⟩,
   ⟨member 1, by decide⟩,
   ⟨{ member 0 with csc := { change := some { live := 3, k := 9 } } }, by decide⟩,
   ⟨{ member 1 with csc := { change := some { live := 3, k := 0 } } }, { live := 3, k := 0 }, by decide⟩,
   ⟨member 0, by decide⟩,
   ⟨member 0, by decide⟩,
   ⟨{ member 0 with csc := { change := some { live := 1, k := 0, bound := true }, flight := [(3, 0)] } }, { live := 1, k := 0, bound := true }, by decide⟩,
   ⟨{}, by decide⟩,
   ⟨svc, by decide⟩⟩

theorem wit_DormancyAndWake :
    (∃ (s : State), s.idleOver = true) ∧
    (∃ (s : State), s.idleOver = false) ∧
    (∃ (s : State), s.mode = .service ∧ s.dorm.phase = .entering ∧ s.drained = true ∧ s.putAway.isPutAway = false) ∧
    (∃ (s : State), s.mode = .service ∧ s.dorm.phase = .entering ∧ s.drained = true ∧ s.putAway.isPutAway = true) ∧
    (∃ (s : State), (s.mode ≠ .service ∨ s.dorm.phase ≠ .entering ∨ s.drained = false)) ∧
    (∃ (s : State) (w : WakeSeen), s.mode = .dormant ∧ wakeFires (s.armed w) = true) ∧
    (∃ (s : State) (w : WakeSeen), s.mode ≠ .dormant ∧ s.dorm.phase ≠ .awake ∧ s.dorm.latched = none ∧ wakeFires (s.armed w) = true) ∧
    (∃ (s : State) (w : WakeSeen), (wakeFires (s.armed w) = false ∨ (s.mode ≠ .dormant ∧ (s.dorm.phase = .awake ∨ s.dorm.latched ≠ none)))) :=
  ⟨⟨{ svc.put Reg.PWR_IDLE_IDLE_MS 1 with clock := 1250000 }, by decide⟩,
   ⟨svc, by decide⟩,
   ⟨{ svc with dorm := { phase := .entering }, wrd := { ways := [{ set := 3, way := 0, line := 3, data := 5, dirty := true }] }, mnt := { reqs := [(12, { st := .fenced })] } },
      by decide⟩,
   ⟨{ svc with dorm := { phase := .entering } }, by decide⟩,
   ⟨svc, by decide⟩,
   ⟨{ State.put {} Reg.PWR_WAKE_EN_PCIE 1 with mode := .dormant }, { pcie := true }, by decide⟩,
   ⟨{ svc.put Reg.PWR_WAKE_EN_PCIE 1 with dorm := { phase := .expired } }, { pcie := true }, by decide⟩,
   ⟨svc, { seam := true }, by decide⟩⟩

theorem wit_ConfigurationMemory :
    (∃ (s : State), (s.mode = .service ∨ s.mode = .recovery) ∧ s.flag Reg.CFG_PT_CMD_BUSY = false ∧ s.readHeld = false ∧ s.ptLen ≤ 256) ∧
    (∃ (s : State), (s.mode = .service ∨ s.mode = .recovery) ∧ s.flag Reg.CFG_PT_CMD_BUSY = false ∧ s.readHeld = true) ∧
    (∃ (s : State), (s.mode = .service ∨ s.mode = .recovery) ∧ s.flag Reg.CFG_PT_CMD_BUSY = false ∧ s.masterBusy = false) ∧
    (∃ (s : State) (i : Instr), (s.mode = .service ∨ s.mode = .recovery) ∧ s.flag Reg.CFG_PT_CMD_BUSY = false ∧ i ∈ [Instr.ptWrite, .ptStatus] ∧ s.masterBusy = true) ∧
    (∃ (s : State), (s.mode = .service ∨ s.mode = .recovery) ∧ s.flag Reg.CFG_PT_CMD_BUSY = false) ∧
    (∃ (s : State) (i : Instr), i ∈ [Instr.ptRead, .ptWrite, .ptStatus, .ptInvalid] ∧ ((s.mode ≠ .service ∧ s.mode ≠ .recovery) ∨ s.flag Reg.CFG_PT_CMD_BUSY = true)) ∧
    (∃ (s : State) (h : ImageHdr) (e : LogOwed) (rest : List LogOwed) (u : State), s.boot.hdr = some h ∧ s.cfg.logs = e :: rest ∧ s.cfg.prog = none ∧ s.mode ≠ .dormant ∧ u = ({ s with cfg := { s.cfg with logs := rest } } : State).skipWritten h) ∧
    (∃ (s : State), (s.boot.hdr = none ∨ s.cfg.logs = [] ∨ s.cfg.prog ≠ none ∨ s.mode = .dormant)) ∧
    (∃ (s : State) (p : PageProg), s.cfg.prog = some p ∧ p.bytes.length ≤ s.memSize) ∧
    (∃ (s : State) (p : PageProg), s.cfg.prog = some p ∧ (p.who = 1 ∨ s.flag Reg.CFG_PT_CMD_BUSY = false)) ∧
    (∃ (s : State) (i : Instr), i ∈ [Instr.pageProgramDone, .spiWriteTimeout] ∧ s.cfg.prog = none) ∧
    (∃ (s : State), (s.mode = .service ∨ s.mode = .recovery) ∧ s.cfg.prog = none ∧ s.cfg.dev.present = true) ∧
    (∃ (s : State), ((s.mode ≠ .service ∧ s.mode ≠ .recovery) ∨ s.cfg.prog ≠ none ∨ s.cfg.dev.present = false)) :=
  ⟨⟨svc.put Reg.CFG_PT_CMD_LEN 255, by decide⟩,
   ⟨{ svc with cfg := { prog := some { addr := 0, bytes := [1], who := 1 } } }, by decide⟩,
   ⟨svc, by decide⟩,
   ⟨{ svc with cfg := { prog := some { addr := 0, bytes := [1], who := 1 } } }, .ptWrite, by decide⟩,
   ⟨svc, by decide⟩,
   ⟨{}, .ptStatus, by decide⟩,
   ⟨{ svc with boot := { hdr := some hdr0 }, cfg := { logs := [{ type := 2, tick := 5, data := 7 }] } }, hdr0, { type := 2, tick := 5, data := 7 }, [],
      _, ⟨by decide +kernel, by decide +kernel, by decide +kernel, by decide +kernel, rfl⟩⟩,
   ⟨svc, by decide⟩,
   ⟨{ svc.put Reg.CFG_PT_CMD_BUSY 1 with cfg := { prog := some { addr := 0, bytes := [1], who := 1 } } }, { addr := 0, bytes := [1], who := 1 }, by decide⟩,
   ⟨{ svc with cfg := { prog := some { addr := 0, bytes := [1], who := 1 } } }, { addr := 0, bytes := [1], who := 1 }, by decide⟩,
   ⟨svc, .pageProgramDone, by decide⟩,
   ⟨svc, by decide⟩,
   ⟨{}, by decide⟩⟩

theorem wit_CommandRings :
    (∃ (s : State), s.mode = .service) ∧
    (∃ (s : State), s.mode = .service) ∧
    (∃ (s : State), s.mode ≠ .service) ∧
    (∃ (s : State), s.mode ≠ .service) ∧
    (∃ (s : State) (f : Nat) (i : Nat) (c : CmdSlot) (rest : List (Nat × CmdSlot)), s.mode = .service ∧ s.host.engine = none ∧ s.nextCmd = some (f, (i, c), rest)) ∧
    (∃ (s : State), (s.mode ≠ .service ∨ s.host.engine.isSome = true)) ∧
    (∃ (s : State), s.mode = .service ∧ s.host.engine = none ∧ s.nextCmd = none) ∧
    (∃ (s : State) (c : Cmd), s.engineOp 0 = some c ∧ s.host.mirror = none) :=
  ⟨⟨posted.put Reg.QUE_CMD_CTRL_EN 1, by decide⟩,
   ⟨svc, by decide⟩,
   ⟨{}, by decide⟩,
   ⟨{}, by decide⟩,
   ⟨posted, 0, 0, slot, [], by decide⟩,
   ⟨{}, by decide⟩,
   ⟨svc, by decide⟩,
   ⟨eng (cmd 0 0 0), cmd 0 0 0, by decide⟩⟩

theorem wit_PopReadsAndNotices :
    (∃ (s : State) (f : Fin 16) (q : Fin 8), s.mode = .service ∧ s.capReader f q = true) ∧
    (∃ (s : State), s.mode = .service) ∧
    (∃ (s : State) (f : Fin 16) (q : Fin 8) (i : Instr), (i ∈ [Instr.capPop f q 4, .evqPop f 4] ∨ (s.capReader f q = false ∧ i = .capPop f q 8) ∨ (f ≠ 0 ∧ i = .evqPop f 8)) ∧ s.mode = .service) ∧
    (∃ (s : State), s.mode ≠ .service) ∧
    (∃ (s : State) (q : Fin 8), s.mode = .service ∧ (s.idle q).armed = true ∧ s.queueHolds q = true ∧ s.idleUs q ≠ 0 ∧ s.idleUs q * cyclesPerUs ≤ s.clock - (s.idle q).from_) ∧
    (∃ (s : State), s.mode = .service ∧ (s.idle 8).armed = true ∧ s.queueHolds 8 = true ∧ s.idleUs 8 ≠ 0 ∧ s.idleUs 8 * cyclesPerUs ≤ s.clock - (s.idle 8).from_) ∧
    (∃ (s : State) (q : Fin 8), (s.mode ≠ .service ∨ (s.idle q).armed = false ∨ s.queueHolds q = false ∨ s.idleUs q = 0 ∨ s.clock - (s.idle q).from_ < s.idleUs q * cyclesPerUs)) ∧
    (∃ (s : State), (s.mode ≠ .service ∨ (s.idle 8).armed = false ∨ s.queueHolds 8 = false ∨ s.idleUs 8 = 0 ∨ s.clock - (s.idle 8).from_ < s.idleUs 8 * cyclesPerUs)) ∧
    (∃ (s : State), s.mode = .service) ∧
    (∃ (s : State), s.mode = .service) ∧
    (∃ (s : State) (v : Fin 64), (∀ e, fget s.host.hold v = some e → s.clock < e.1)) ∧
    (∃ (s : State) (v : Fin 64) (c : Nat) (held : Bool), fget s.host.hold v = some (c, held) ∧ c ≤ s.clock) ∧
    (∃ (s : State), s.mode = .service) ∧
    (∃ (s : State), s.mode ≠ .service) :=
  ⟨⟨{ svc with host := { capq := [(7, [1, 2])] } }, 0, 7, by decide⟩,
   ⟨{ svc with host := { evq := [1, 2] } }, by decide⟩,
   ⟨svc, 0, 7, .evqPop 0 4, by decide⟩,
   ⟨{}, by decide⟩,
   ⟨{ svc.put Reg.QUE_CAP_CTRL_IDLE_US 1 7 with clock := 1250, host := { capq := [(7, [1])] } }, 7, by decide⟩,
   ⟨{ svc.put Reg.QUE_EVQ_CTRL_IDLE_US 1 with clock := 1250, host := { evq := [1] } }, by decide⟩,
   ⟨svc, 0, by decide⟩,
   ⟨svc, by decide⟩,
   ⟨svc, by decide⟩,
   ⟨svc, by decide⟩,
   ⟨svc, 0, by decide⟩,
   ⟨{ svc with host := { hold := [(63, (0, true))] } }, 63, 0, true, by decide⟩,
   ⟨svc.put Reg.EVT_SRC_PEND 1 1023, by decide⟩,
   ⟨{}, by decide⟩⟩

theorem wit_EndpointResets :
    (∃ (s : State) (f : Fin 16), s.mode ≠ .dormant ∧ f ≠ 0 ∧ (∀ g ∈ s.groups, g.tbl < 64)) ∧
    (∃ (s : State), s.mode ≠ .dormant) ∧
    (∃ (s : State), s.mode = .dormant) ∧
    (∃ (s : State) (l : Option (BitVec 3 × BitVec 3)), s.pins.pcieUp ≠ l.isSome ∧ s.mode ≠ .dormant) ∧
    (∃ (s : State) (l : Option (BitVec 3 × BitVec 3)), (s.pins.pcieUp = l.isSome ∨ s.mode = .dormant)) ∧
    (∃ (s : State) (f : Fin 16) (unc : Bool) (b : BitVec 5), (s.mode = .dormant ∨ (if unc then (s.pci f).aerUnc else (s.pci f).aerCor).testBit b.toNat = true)) ∧
    (∃ (s : State) (f : Fin 16) (unc : Bool) (b : BitVec 5), s.mode ≠ .dormant ∧ (if unc then (s.pci f).aerUnc else (s.pci f).aerCor).testBit b.toNat = false) :=
  ⟨⟨{ eng (cmd 0x09 0 0 15) with tables := [(0, tab)], groups := [{ num := 1, tbl := 0, func := 15, lease := 0 }] }, 15, by decide⟩,
   ⟨svc, by decide⟩,
   ⟨{ mode := .dormant }, by decide⟩,
   ⟨svc, some (5, 4), by decide⟩,
   ⟨svc, none, by decide⟩,
   ⟨{ mode := .dormant }, 0, true, 31, by decide⟩,
   ⟨svc, 0, true, 31, by decide⟩⟩

theorem wit_RegisterWritesFollowTheAccessCodes :
    (∃ (s : State), s.mode = .service ∧ s.barOpen 0 = true) ∧
    (∃ (s : State) (f : Fin 16) (off : BitVec 26) (size : Nat), s.mode = .service ∧ s.barOpen f = true ∧ ((size ≠ 4 ∧ size ≠ 8) ∨ off.toNat % size ≠ 0)) ∧
    (∃ (s : State) (f : Fin 16), s.barOpen f = false) ∧
    (∃ (s : State) (f : Fin 16), s.mode ≠ .dormant ∧ s.fnPresent f = true) ∧
    (∃ (s : State) (f : Fin 16) (v : BitVec 64), s.mode ≠ .dormant ∧ s.fnPresent f = true ∧ v.toNat % 4 = 3) ∧
    (∃ (s : State) (f : Fin 16) (v : BitVec 64), s.mode ≠ .dormant ∧ s.fnPresent f = true ∧ v.toNat % 4 = 0) ∧
    (∃ (s : State) (f : Fin 16) (r : CfgReg), s.mode ≠ .dormant ∧ s.fnPresent f = true ∧ r ∈ [CfgReg.vendorId, .deviceId, .maxPayload, .linkCap, .linkStatus, .totalVfs, .firstVfOffset, .vfStride]) ∧
    (∃ (s : State), s.mode ≠ .dormant ∧ s.host.sriov.en = false) ∧
    (∃ (s : State), s.mode ≠ .dormant) :=
  ⟨⟨opened, by decide⟩,
   ⟨opened, 0, 4, 8, by decide⟩,
   ⟨svc, 0, by decide⟩,
   ⟨svc, 0, by decide⟩,
   ⟨svc, 0, 3, by decide⟩,
   ⟨svc, 0, 4, by decide⟩,
   ⟨svc, 0, CfgReg.vfStride, by decide⟩,
   ⟨svc, by decide⟩,
   ⟨{ svc with host := { sriov := { num := 15 } } }, by decide⟩⟩

theorem wit_TapInstructions :
    (∃ (s : State) (e : Instr × TapIr), s.tapAlive = true ∧ e ∈ [(Instr.extest, TapIr.extest), (.samplePreload, .sample), (.extestPulse, .extestPulse), (.extestTrain, .extestTrain)]) ∧
    (∃ (s : State) (e : Instr × TapIr), s.tapAlive = true ∧ e ∈ [(Instr.highz, TapIr.highz), (.clamp, .clamp), (.tapReset, .idcode)]) ∧
    (∃ (s : State), s.tapAlive = true) ∧
    (∃ (s : State), s.tapAlive = true) ∧
    (∃ (s : State), s.tapAlive = true) ∧
    (∃ (s : State) (i : Instr), s.tapAlive = false ∧ (i ∈ [Instr.extest, .samplePreload, .extestPulse, .extestTrain, .highz, .clamp, .tapReset, .idcode, .fuseRead] ∨ (∃ c, i = .bypass c) ∨ ∃ v, i = .fuseProg v)) :=
  ⟨⟨svc, (Instr.extest, TapIr.extest), by decide⟩,
   ⟨svc, (Instr.highz, TapIr.highz), by decide⟩,
   ⟨svc, by decide⟩,
   ⟨svc, by decide⟩,
   ⟨{ svc with pins := { resetL := false } }, by decide⟩,
   ⟨{ mode := .dormant }, .idcode, by decide⟩⟩

theorem wit_CommandsChangeOnlyTheirParts : ∃ (c : Instr) (s : State) (t : State), exec c s = .next t :=
  ⟨.tapReset, svc, after .tapReset svc, rfl⟩

theorem wit_FusesAreProgrammedOnce :
    (∃ (s : State) (t : State), step s = .next t) ∧
    (∃ (s : State) (t : State), step s = .next t ∧ s.fuses.getLsbD 63 = true) :=
  ⟨⟨svc, (match step svc with | .next t => t | _ => svc), rfl⟩,
   ⟨{ svc with fuses := 2 ^ 63 }, (match step ({ svc with fuses := 2 ^ 63 } : State) with | .next t => t | _ => ({ svc with fuses := 2 ^ 63 } : State)),
      ⟨rfl, by decide +kernel⟩⟩⟩

theorem wit_MemoryStaysCanonical : ∃ (s : State) (t : State), step s = .next t ∧ Memory.wf s.cfg.mem = true :=
  ⟨svc, (match step svc with | .next t => t | _ => svc), ⟨rfl, by decide⟩⟩

end Sys2Proof.Tests
end

section
/-! PROOFS. Sealed fields (R8): a host write that touches one leaves the whole register, and raises EV_SEAL_VIOLATION. -/

namespace Sys2Proof.Machine

/-! ## What a raise does to the registers -/

@[simp] theorem State.get_bump_same (s : State) (F : Field) (n i j : Nat) :
    (s.bump F n i j).get F i j = min (s.get F i j + n) F.max := by
  have hpos : 0 < 2 ^ F.width := Nat.two_pow_pos _
  have hmax : min (s.get F i j + n) F.max < 2 ^ F.width := by
    unfold Field.max
    omega
  simp [State.bump, Nat.mod_eq_of_lt hmax]

theorem State.get_bump_ne (s : State) (F G : Field) (n i j i' j' : Nat) (h : F.key i j ≠ G.key i' j') :
    (s.bump F n i j).get G i' j' = s.get G i' j' := s.get_put_ne F G _ i j i' j' h

/-- A message changes outputs, pending bits and hold-offs, no register. -/
@[simp] theorem State.regs_msixOf (s : State) (n : Nat) : (s.msixOf n).regs = s.regs := by
  unfold State.msixOf State.msixTo State.msixPf State.msixSend State.setPba
  dsimp only
  repeat' split
  all_goals rfl

@[simp] theorem State.get_msixOf (s : State) (n : Nat) (F : Field) (i j : Nat) : (s.msixOf n).get F i j = s.get F i j := by
  unfold State.get
  rw [State.regs_msixOf]

/-- An event record that is queued or lost changes EVT_CNT_LOST and EVQ_OVERFLOW at most (R436). -/
theorem State.get_pushEvent (s : State) (n : Nat) (held : Bool) (F : Field) (i j : Nat)
    (hlost : Reg.EVT_CNT_LOST_COUNT.key ≠ F.key i j) (hover : Reg.EVT_STATUS_EVQ_OVERFLOW.key ≠ F.key i j) :
    (s.pushEvent n held).get F i j = s.get F i j := by
  unfold State.pushEvent
  split
  · dsimp only
    split <;> rfl
  · exact (State.get_put_ne _ _ F 1 0 0 i j hover).trans (s.get_bump_ne _ F 1 0 0 i j hlost)

/-- Delivery of source n counts it in COUNT; beyond that it writes PEND of n and the registers of the event queue alone (R433). -/
theorem State.get_deliver (s : State) (n : Nat) (held : Bool) (F : Field) (i j : Nat)
    (hpend : Reg.EVT_SRC_PEND.key n ≠ F.key i j) (hraised : Reg.EVT_CNT_RAISED_COUNT.key ≠ F.key i j)
    (hlost : Reg.EVT_CNT_LOST_COUNT.key ≠ F.key i j) (hover : Reg.EVT_STATUS_EVQ_OVERFLOW.key ≠ F.key i j) :
    (s.deliver n held).get F i j = (s.bump Reg.EVT_SRC_COUNT 1 n).get F i j := by
  have counted := State.get_bump_ne (s.bump Reg.EVT_SRC_COUNT 1 n) _ F 1 0 0 i j hraised
  have pended := (State.get_put_ne ((s.bump Reg.EVT_SRC_COUNT 1 n).bump Reg.EVT_CNT_RAISED_COUNT) _ F 1 n 0 i j hpend).trans counted
  unfold State.deliver
  dsimp only
  split
  · rw [State.get_msixOf]
    split
    · exact (State.get_pushEvent _ n held F i j hlost hover).trans pended
    · exact pended
  · exact counted

/-- A raise leaves every field below the event registers. -/
theorem State.get_raise_below_events (s : State) (n : Nat) (F : Field) (i j : Nat) (h : F.key i j < 8 * 0x150000) :
    (s.raise n).get F i j = s.get F i j := by
  have above : ∀ G : Field, 0x150000 ≤ G.base → ∀ k, G.key k ≠ F.key i j := fun G hG k => by
    have : 8 * G.base ≤ G.key k := by unfold Field.key; omega
    omega
  unfold State.raise
  split
  · rw [State.get_deliver s n false F i j (above _ (by decide) n) (above _ (by decide) 0) (above _ (by decide) 0)
      (above _ (by decide) 0)]
    exact s.get_bump_ne _ F 1 n 0 i j (above _ (by decide) n)
  all_goals rfl

/-- In service state a raise counts its source, up to 255 (R433). -/
theorem State.get_count_raise (s : State) (n : Nat) (hn : n < 1024) (hs : s.mode = .service) :
    (s.raise n).get Reg.EVT_SRC_COUNT n = min (s.get Reg.EVT_SRC_COUNT n + 1) 255 := by
  have key : Reg.EVT_SRC_COUNT.key n = 8 * 0x150000 + 32 + 64 * n := by simp [Field.key, Reg.EVT_SRC_COUNT]
  simp only [State.raise, hs]
  rw [State.get_deliver, State.get_bump_same]
  · rfl
  all_goals
    rw [key]
    simp only [Field.key, Reg.EVT_SRC_PEND, Reg.EVT_CNT_RAISED_COUNT, Reg.EVT_CNT_LOST_COUNT, Reg.EVT_STATUS_EVQ_OVERFLOW]
    omega

/-- In start-up a raise is held for delivery at entry to service state (R437). -/
theorem State.held_raise (s : State) (n : Nat) (hs : s.mode = .startUp) : (s.raise n).boot.held = s.boot.held ++ [n] := by
  simp only [State.raise, hs]

/-! ## The registers that hold sealed fields -/

theorem mem_fieldsAt (off : Nat) (e : Field × Nat × Nat) : e ∈ fieldsAt off ↔ e.1 ∈ Reg.all ∧ e.2 ∈ e.1.within off := by
  obtain ⟨F, i, j⟩ := e
  simp [fieldsAt]

theorem mem_index {d stride n k : Nat} (h : k ∈ index d stride n) : k < n ∧ d = stride * k := by
  unfold index at h
  split at h <;> split at h
  · simp_all
  · simp at h
  · rename_i hd
    obtain rfl : k = d / stride := by simpa using h
    exact ⟨hd.2, (Nat.mul_div_cancel' (Nat.dvd_of_mod_eq_zero hd.1)).symm⟩
  · simp at h

/-- What `Field.within` lists: nothing below the field's base; several indices in one register where the inner stride is less than
a register; and `Field.indices` else. -/
theorem Field.mem_within {F : Field} {off : Nat} {e : Nat × Nat} (he : e ∈ F.within off) :
    F.base ≤ off ∧ ((F.n1 ≠ 1 ∧ F.st1 < 64) ∧ (∃ j, j ∈ index (8 * (off - F.base)) F.st2 F.n2) ∨
      e ∈ F.indices (8 * (off - F.base))) := by
  unfold Field.within at he
  split at he
  · simp at he
  · rename_i hbase
    refine ⟨Nat.le_of_not_lt hbase, ?_⟩
    have hall : e ∈ (if F.n1 ≠ 1 ∧ F.st1 < 64 then
        (index (8 * (off - F.base)) F.st2 F.n2).flatMap fun j => (List.range F.n1).map fun i => (i, j)
      else F.indices (8 * (off - F.base))) := by
      dsimp only at he
      split at he
      · exact (List.mem_filter.mp he).1
      · exact he
    split at hall
    · rename_i hpart
      obtain ⟨j, hj, -⟩ := List.mem_flatMap.mp hall
      exact .inl ⟨hpart, j, hj⟩
    · exact .inr hall

/-- A field in one column of whole registers: an index stands in the register its stride leads to. -/
theorem Field.mem_within_column {F : Field} {off : Nat} {e : Nat × Nat} (hcol : F.n2 = 1) (hreg : F.n1 = 1 ∨ 64 ≤ F.st1)
    (he : e ∈ F.within off) : e.1 < F.n1 ∧ e.2 = 0 ∧ 8 * off = 8 * F.base + F.st1 * e.1 := by
  obtain ⟨hbase, ⟨hpart, -⟩ | hmem⟩ := Field.mem_within he
  · omega
  · simp only [Field.indices, if_pos hcol, List.mem_map] at hmem
    obtain ⟨i, hi, rfl⟩ := hmem
    obtain ⟨hlt, hd⟩ := mem_index hi
    exact ⟨hlt, rfl, by dsimp only; omega⟩

theorem index_span {d stride n k : Nat} (h : k ∈ index d stride n) : d ≤ stride * n := by
  obtain ⟨hlt, hd⟩ := mem_index h
  exact hd ▸ Nat.mul_le_mul_left stride hlt.le

theorem le_span_of_div_mod {d a n m : Nat} (hdiv : d / a < n) (hmod : d % a ≤ m) : d ≤ a * n + m :=
  calc d = a * (d / a) + d % a := (Nat.div_add_mod d a).symm
    _ ≤ a * n + m := Nat.add_le_add (Nat.mul_le_mul_left a hdiv.le) hmod

theorem Field.indices_span {F : Field} {d : Nat} {e : Nat × Nat} (he : e ∈ F.indices d) : d ≤ F.st1 * F.n1 + F.st2 * F.n2 := by
  unfold Field.indices at he
  split at he
  · obtain ⟨i, hi, -⟩ := List.mem_map.mp he
    exact Nat.le_add_right_of_le (index_span hi)
  split at he
  · obtain ⟨j, hj, -⟩ := List.mem_map.mp he
    exact Nat.le_add_left_of_le (index_span hj)
  split at he <;> split at he
  · rename_i hdiv
    obtain ⟨j, hj, -⟩ := List.mem_map.mp he
    exact le_span_of_div_mod hdiv (index_span hj)
  · simp at he
  · rename_i hdiv
    obtain ⟨i, hi, -⟩ := List.mem_map.mp he
    rw [Nat.add_comm]
    exact le_span_of_div_mod hdiv (index_span hi)
  · simp at he

/-- What a field lists stands between its base and its strides' reach. -/
theorem Field.within_span {F : Field} {off : Nat} {e : Nat × Nat} (he : e ∈ F.within off) :
    F.base ≤ off ∧ 8 * off ≤ 8 * F.base + F.st1 * F.n1 + F.st2 * F.n2 := by
  obtain ⟨hbase, ⟨-, j, hj⟩ | hmem⟩ := Field.mem_within he
  · have := index_span hj
    omega
  · have := Field.indices_span hmem
    omega

/-- The sealed fields: BOOT_LIMIT, BOOT_WLOCK and the columns of the protection map (R375). -/
theorem sealed_field_shape : ∀ F ∈ Reg.all, F.acc = .sl → F.n2 = 1 ∧ (F.n1 = 1 ∨ 64 ≤ F.st1) ∧
    (F.n1 = 1 ∧ (F.base = 0x120018 ∨ F.base = 0x120038) ∨ 0x120100 ≤ F.base) ∧
    8 * F.base + F.lo + F.st1 * F.n1 < 8 * 0x120400 := by decide +kernel

/-- The other fields end before BOOT_LIMIT, begin after the protection map, or are BOOT_TIME, BOOT_PROG and BOOT_GPIO (R375). -/
theorem unsealed_field_place : ∀ F ∈ Reg.all, F.acc ≠ .sl → 8 * F.base + F.st1 * F.n1 + F.st2 * F.n2 < 8 * 0x120018 ∨
    0x120400 ≤ F.base ∨ F.n1 = 1 ∧ F.n2 = 1 ∧ 0x120018 < F.base ∧ F.base < 0x120038 := by decide +kernel

/-- Every sealed field is in BOOT_LIMIT, BOOT_WLOCK or the protection map, below the event registers. -/
theorem sealed_field_bounds {off : Nat} {e : Field × Nat × Nat} (he : e ∈ fieldsAt off) (hs : e.1.acc = .sl) :
    (off = 0x120018 ∨ off = 0x120038 ∨ 0x120100 ≤ off) ∧ off < 0x120400 ∧ e.1.key e.2.1 e.2.2 < 8 * 0x120400 := by
  obtain ⟨hF, hw⟩ := (mem_fieldsAt off e).mp he
  obtain ⟨hcol, hreg, hbase, hend⟩ := sealed_field_shape e.1 hF hs
  obtain ⟨hi, hj, hoff⟩ := Field.mem_within_column hcol hreg hw
  have hspan : e.1.st1 * e.2.1 ≤ e.1.st1 * e.1.n1 := Nat.mul_le_mul_left _ hi.le
  have hsingle : e.1.n1 = 1 → e.1.st1 * e.2.1 = 0 := fun h => by
    have hzero : e.2.1 = 0 := by omega
    rw [hzero, Nat.mul_zero]
  simp only [Field.key, hj, Nat.mul_zero]
  omega

/-- A register with a sealed field has no field of another kind. -/
theorem fieldsAt_all_sealed {off : Nat} {e : Field × Nat × Nat} (he : e ∈ fieldsAt off) (hs : e.1.acc = .sl) :
    ∀ x ∈ fieldsAt off, x.1.acc = .sl := by
  intro x hx
  by_contra hne
  obtain ⟨hplace, hbelow, -⟩ := sealed_field_bounds he hs
  obtain ⟨hF, hw⟩ := (mem_fieldsAt off x).mp hx
  obtain ⟨hbase, hspan⟩ := Field.within_span hw
  obtain hbefore | hafter | ⟨h1, h2, hlo, hhi⟩ := unsealed_field_place x.1 hF hne
  · omega
  · omega
  · obtain ⟨hi, -, hoff⟩ := Field.mem_within_column h2 (.inl h1) hw
    have hzero : x.2.1 = 0 := by omega
    rw [hzero, Nat.mul_zero] at hoff
    omega

theorem touchesSealed_mem {mask off : Nat} (h : touchesSealed mask off = true) : ∃ e ∈ fieldsAt off, e.1.acc = .sl := by
  unfold touchesSealed at h
  obtain ⟨e, he, hs⟩ := List.any_eq_true.mp h
  simp only [Bool.and_eq_true, beq_iff_eq] at hs
  exact ⟨e, he, hs.1⟩

/-! ## A host write to such a register -/

/-- The host's write does not reach a sealed field (R8). -/
theorem State.writeField_sealed (s : State) (data mask off : Nat) (e : Field × Nat × Nat) (h : e.1.acc = .sl) :
    s.writeField false data mask off e = s := by
  simp [State.writeField, h]

theorem State.writeFields_sealed (s : State) (data mask off : Nat) (l : List (Field × Nat × Nat)) (h : ∀ e ∈ l, e.1.acc = .sl) :
    l.foldl (fun x e => x.writeField false data mask off e) s = s := by
  induction l with
  | nil => rfl
  | cons e l ih =>
    rw [List.foldl_cons, s.writeField_sealed data mask off e (h e List.mem_cons_self)]
    exact ih fun x hx => h x (List.mem_cons_of_mem _ hx)

@[simp] theorem State.linkEnable_self (s : State) : s.linkEnable s = s := by simp [State.linkEnable]

@[simp] theorem State.admitWrite_self (s : State) : s.admitWrite s = s := by simp [State.admitWrite]

theorem State.writeReg_sealed (s : State) (data : Nat) {mask off : Nat} (h : touchesSealed mask off = true) :
    s.writeReg false data mask off = s := by
  obtain ⟨e, he, hs⟩ := touchesSealed_mem h
  obtain ⟨-, hhi, -⟩ := sealed_field_bounds he hs
  have hring : s.ringRule data mask off = none := by
    unfold State.ringRule
    exact if_pos (Or.inl (by omega))
  unfold State.writeReg
  rw [hring]
  dsimp only
  rw [s.writeFields_sealed data mask off _ (fieldsAt_all_sealed he hs), State.linkEnable_self]

/-- The BOOT registers can be reached in every state but dormancy (R364, R373). -/
theorem State.reachable_boot (s : State) {off : Nat} (hlo : 0x120000 ≤ off) (hhi : off < 0x130000) (hm : s.mode ≠ .dormant) :
    s.reachable off = true := by
  cases hmode : s.mode <;> simp_all [State.reachable]

/-- After the seal step the PF's write to sealed fields is a raise of EV_SEAL_VIOLATION and nothing else. -/
theorem State.pfWrite_sealed (s : State) (off size : Nat) (v : BitVec 64) (hseal : s.flag Reg.BOOT_STATUS_SEALED = true)
    (hm : s.mode ≠ .dormant) (h : touchesSealed (busWord off size v).2 (off / 8 * 8) = true) :
    s.pfWrite off size v = s.raise Ev.SEAL_VIOLATION := by
  obtain ⟨e, he, hs⟩ := touchesSealed_mem h
  obtain ⟨hlo, hhi, -⟩ := sealed_field_bounds he hs
  have hreach : s.reachable off = true := s.reachable_boot (by omega) (by omega) hm
  have hmsix : msixIndex 0 off = none := if_neg fun hin => by
    have htable : 0x158000 ≤ off := hin.1
    omega
  have hunsealed : s.unsealed = false := by simp [State.unsealed, hseal]
  simp [State.pfWrite, hreach, hmsix, hunsealed, h, s.writeReg_sealed _ h]

/-- The state that a host access leaves behind by itself: in service state it restarts the idle timer (R377). -/
def State.accessed (s : State) : State := if s.mode = .service then s.touchIdle else s

theorem State.accessed_frame (s : State) : s.accessed.mode = s.mode ∧ s.accessed.regs = s.regs ∧ s.accessed.boot = s.boot := by
  unfold State.accessed
  split <;> exact ⟨rfl, rfl, rfl⟩

@[simp] theorem State.get_accessed (s : State) (F : Field) (i j : Nat) : s.accessed.get F i j = s.get F i j := by
  unfold State.get
  rw [s.accessed_frame.2.1]

theorem State.barWrite_sealed (s : State) (off : BitVec 26) (size : Nat) (v : BitVec 64) (hseal : s.flag Reg.BOOT_STATUS_SEALED = true)
    (hm : s.mode ≠ .dormant) (hsize : size = 4 ∨ size = 8) (halign : off.toNat % size = 0)
    (h : touchesSealed (busWord off.toNat size v).2 (off.toNat / 8 * 8) = true) :
    s.barWrite 0 off size v = s.accessed.raise Ev.SEAL_VIOLATION := by
  have hgood : ¬((size ≠ 8 ∧ size ≠ 4) ∨ off.toNat % size ≠ 0) := by omega
  have hsealed : s.accessed.flag Reg.BOOT_STATUS_SEALED = true := by simpa [State.flag] using hseal
  have hmode : s.accessed.mode ≠ .dormant := by rwa [s.accessed_frame.1]
  rw [← State.pfWrite_sealed s.accessed off.toNat size v hsealed hmode h]
  unfold State.barWrite
  rw [if_neg hgood, if_pos rfl]
  rfl

/-- Settles O10: a register with a sealed field holds sealed fields alone, so the write is the raise and nothing else. -/
theorem sealedFieldsStay : Obligations.SealedFieldsStay := by
  unfold Obligations.SealedFieldsStay
  intro s off size v hseal hm hopen hsize halign htouch
  obtain ⟨hmode, -, hboot⟩ := s.accessed_frame
  have hwrite := s.barWrite_sealed off size v hseal hm hsize halign htouch
  refine ⟨s.accessed.raise Ev.SEAL_VIOLATION, ?_, fun e he hs => ?_, fun hservice => ?_, fun hstart => ?_⟩
  · show execRegisterWrite 0 (.bar off) size v s = _
    exact congrArg Host.Outcome.next ((if_pos hopen).trans hwrite)
  · obtain ⟨-, -, hkey⟩ := sealed_field_bounds he hs
    rw [State.get_raise_below_events _ _ _ _ _ (by omega), State.get_accessed]
  · rw [State.get_count_raise _ _ (by decide) (hmode.trans hservice), State.get_accessed]
  · rw [State.held_raise _ _ (hmode.trans hstart), hboot]

end Sys2Proof.Machine
end

section
/-! PROOFS. The tick settings (R46): what a write of 0 to AHEAD_MAX leaves, by what the register held before. -/

namespace Sys2Proof.Machine

/-! ## A write of 0 over a field -/

/-- A merge of 0 over a field takes the bits of the field away and leaves those above. -/
theorem mergeBits_zero (old w : Nat) : mergeBits old 0 (2 ^ w - 1) = old ^^^ old % 2 ^ w := by
  simp [mergeBits, Nat.and_two_pow_sub_one_eq_mod]

theorem mergeBits_zero_eq_zero (old w : Nat) : mergeBits old 0 (2 ^ w - 1) = 0 ↔ old < 2 ^ w := by
  rw [mergeBits_zero, Nat.xor_eq_zero_iff, eq_comm]
  exact Nat.mod_eq_iff_lt (Nat.two_pow_pos w).ne'

theorem mergeBits_zero_mod (old w : Nat) : mergeBits old 0 (2 ^ w - 1) % 2 ^ w = 0 := by
  rw [mergeBits_zero, Nat.xor_mod_two_pow, Nat.mod_mod, Nat.xor_self]

/-! ## The register TCK_AHEAD -/

theorem fieldsAt_ahead : fieldsAt 0x10040 = [(Reg.TCK_AHEAD_AHEAD_MAX, 0, 0)] := by decide +kernel

/-- A write that changes no link's enable is followed by nothing (R68). -/
theorem State.linkEnable_of_flag_eq (old s : State) (hseam : s.flag Reg.SEAM_CTRL_EN = old.flag Reg.SEAM_CTRL_EN)
    (hcsc : s.flag Reg.CSC_CTRL_EN = old.flag Reg.CSC_CTRL_EN) : old.linkEnable s = s := by
  simp [State.linkEnable, hseam, hcsc]

/-- A store to AHEAD_MAX is refused with CFG_ERR where the merged value is 0, and is made otherwise. -/
theorem State.store_aheadMax (s : State) (v : Nat) :
    s.store Reg.TCK_AHEAD_AHEAD_MAX v 0 0 =
      if v = 0 then s.put Reg.TCK_STATUS_CFG_ERR 1 else s.put Reg.TCK_AHEAD_AHEAD_MAX v := by
  unfold State.store
  rw [if_neg fun h => absurd h.1 (by decide)]
  split <;> simp_all [evFixed, Reg.TCK_AHEAD_AHEAD_MAX, Reg.SEAM_CTRL_ROLE, Reg.CHN_CTRL_STALL_LIMIT, Reg.EVT_SRC_EN]

/-- A store to AHEAD_MAX changes that field or TCK_STATUS.CFG_ERR and no other. -/
theorem State.get_store_aheadMax (s : State) (v : Nat) (F : Field) (hahead : Reg.TCK_AHEAD_AHEAD_MAX.key ≠ F.key)
    (hcfg : Reg.TCK_STATUS_CFG_ERR.key ≠ F.key) : (s.store Reg.TCK_AHEAD_AHEAD_MAX v 0 0).get F = s.get F := by
  rw [State.store_aheadMax]
  split
  · exact s.get_put_ne _ F 1 0 0 0 0 hcfg
  · exact s.get_put_ne _ F v 0 0 0 0 hahead

/-- A write of the boot program to TCK_AHEAD stores AHEAD_MAX, merged with what the register held, and nothing else follows. -/
theorem State.writeReg_ahead (s : State) (v : Nat) :
    s.writeReg true v (2 ^ 64 - 1) 0x10040 =
      s.store Reg.TCK_AHEAD_AHEAD_MAX (mergeBits (s.get Reg.TCK_AHEAD_AHEAD_MAX) (v % 2 ^ 16) (2 ^ 16 - 1)) 0 0 := by
  have hfield : s.writeField true v (2 ^ 64 - 1) 0x10040 (Reg.TCK_AHEAD_AHEAD_MAX, 0, 0) =
      s.store Reg.TCK_AHEAD_AHEAD_MAX (mergeBits (s.get Reg.TCK_AHEAD_AHEAD_MAX) (v % 2 ^ 16) (2 ^ 16 - 1)) 0 0 := by
    simp [State.writeField, Field.pos, Field.key, State.present, Reg.TCK_AHEAD_AHEAD_MAX, Reg.CHN_CTRL_STALL_LIMIT]
  have hring : s.ringRule v (2 ^ 64 - 1) 0x10040 = none := rfl
  unfold State.writeReg
  rw [hring, fieldsAt_ahead]
  simp only [List.foldl_cons, List.foldl_nil, hfield]
  apply State.linkEnable_of_flag_eq
  · exact congrArg (· == 1) (s.get_store_aheadMax _ Reg.SEAM_CTRL_EN (by decide) (by decide))
  · exact congrArg (· == 1) (s.get_store_aheadMax _ Reg.CSC_CTRL_EN (by decide) (by decide))

/-- Beyond the register's own fields the boot engine's WRITE to TCK_AHEAD does nothing. -/
theorem State.bootReg_ahead (s : State) (cal : List CabCal) (v : Nat) :
    s.bootReg cal 0x10040 v = s.writeReg true v (2 ^ 64 - 1) 0x10040 := by
  have hunsealed (mask : Nat) : touchesSealed mask 0x10040 = false := by simp [touchesSealed, fieldsAt_ahead, Reg.TCK_AHEAD_AHEAD_MAX]
  simp [State.bootReg, hunsealed, State.bootTick, State.bootPort, State.bootChan, State.bootCurator, State.bootData, State.bootPair,
    State.bootHost, State.bootWindow]

/-- A WRITE of 0 to AHEAD_MAX leaves the value that it held where that fits the field, and clears it where it does not: the merge
keeps the bits above the field, so that the value to store is not 0 and passes the range check of R46. -/
theorem State.get_bootReg_aheadMax_zero (s : State) (cal : List CabCal) (v : Nat) (hv : v % 2 ^ 16 = 0) :
    (s.bootReg cal 0x10040 v).get Reg.TCK_AHEAD_AHEAD_MAX =
      if s.get Reg.TCK_AHEAD_AHEAD_MAX < 2 ^ 16 then s.get Reg.TCK_AHEAD_AHEAD_MAX else 0 := by
  rw [State.bootReg_ahead, State.writeReg_ahead, hv, State.store_aheadMax]
  simp only [mergeBits_zero_eq_zero]
  split
  · exact s.get_put_ne _ _ 1 0 0 0 0 (by decide)
  · exact (s.get_put_same _ _ 0 0).trans (mergeBits_zero_mod _ 16)

/-! ## The refutation -/

/-- A state that no reset leads to: AHEAD_MAX, of 16 bits, is held as 65,536. -/
def aheadMaxTooWide : State := { regs := [(Reg.TCK_AHEAD_AHEAD_MAX.key, 65536)] }

/-- Refutes O9: the statement takes every state, and `regs` bounds no field by its width. Where AHEAD_MAX is held as 65,536, the boot
program's WRITE of 0 merges to 65,536, which passes as not 0 and is stored cut to 16 bits: the field goes to 0. -/
theorem not_tickSettingOutOfRange : ¬ Obligations.TickSettingOutOfRange := by
  unfold Obligations.TickSettingOutOfRange
  rintro ⟨-, hboot⟩
  obtain ⟨-, -, -, hahead⟩ := hboot aheadMaxTooWide [] 0
  have hheld : aheadMaxTooWide.get Reg.TCK_AHEAD_AHEAD_MAX = 65536 := by decide
  have hkept := (hahead rfl).1
  rw [State.get_bootReg_aheadMax_zero _ _ _ rfl, hheld] at hkept
  exact absurd hkept (by decide)

end Sys2Proof.Machine
end

section
/-! PROOFS. Keys bit by bit: the ternary compare over the key width (R129, R130) and the catalogue code (R142). -/

namespace Sys2Proof.Machine

/-! ## The ternary compare -/

theorem widthBits_le (w : Nat) : widthBits w ≤ 640 := by
  unfold widthBits
  repeat' split
  all_goals decide

theorem bitOf_widthMask (w i : Nat) : bitOf (widthMask w) i = decide (i < widthBits w) := by
  have hin (hi : i < widthBits w) : i < 640 := Nat.lt_of_lt_of_le hi (widthBits_le w)
  rw [bitOf, widthMask, BitVec.getLsbD_ofNat, Nat.testBit_two_pow_sub_one]
  simpa using hin

/-- A word is 0 below the key width where its masked form is 0. -/
theorem and_widthMask_eq_zero_iff (x : BitVec 640) (w : Nat) :
    x &&& widthMask w = 0 ↔ ∀ i < widthBits w, bitOf x i = false := by
  have hmasked (i : Nat) : (x &&& widthMask w).getLsbD i = (bitOf x i && decide (i < widthBits w)) :=
    (BitVec.getLsbD_and ..).trans (congrArg (bitOf x i && ·) (bitOf_widthMask w i))
  constructor
  · intro hzero i hi
    simpa [hzero, hi] using (hmasked i).symm
  · intro hclear
    refine BitVec.eq_of_getLsbD_eq fun i _ => ?_
    by_cases hi : i < widthBits w
    · simp [hmasked, hclear i hi]
    · simp [hmasked, hi]

/-- Table 5-2 on one bit: a cared bit mismatches where value and key differ, an uncared one where its value is 1 (state N). -/
theorem ternaryBit_matches_iff (value care key : Bool) :
    (((value ^^ key) && care) || (value && !care)) = false ↔
      (care = true → value = key) ∧ (care = false → value = false) := by
  cases care <;> simp

/-- The compare of whole words is Table 5-2 on every bit below the key width. -/
theorem ternaryMatch_iff (w : Nat) (value care key : BitVec 640) :
    ternaryMatch w value care key = true ↔
      ∀ i < widthBits w, (bitOf care i = true → bitOf value i = bitOf key i) ∧ (bitOf care i = false → bitOf value i = false) := by
  have hword : ternaryMatch w value care key = true ↔
      (((value ^^^ key) &&& care) ||| (value &&& ~~~care)) &&& widthMask w = 0 := by simp [ternaryMatch]
  rw [hword, and_widthMask_eq_zero_iff]
  refine forall₂_congr fun i hi => ?_
  have hin : i < 640 := Nat.lt_of_lt_of_le hi (widthBits_le w)
  rw [← ternaryBit_matches_iff]
  simp [bitOf, hin]

/-- Settles O15: state N is value 1 without care, which the bitwise compare excludes at every position. -/
theorem ternaryMatchRule : Obligations.TernaryMatchRule := by
  unfold Obligations.TernaryMatchRule
  intro w value care key _
  refine ⟨ternaryMatch_iff w value care key, fun ⟨i, hi, hvalue, hcare⟩ => ?_⟩
  rw [Bool.eq_false_iff]
  intro hmatch
  have hclear : bitOf value i = false := ((ternaryMatch_iff w value care key).1 hmatch i hi).2 hcare
  exact absurd (hclear.symm.trans hvalue) Bool.false_ne_true

/-! ## The catalogue code -/

/-- Adding the powers of two at which `f` holds, below `n`, gives the number whose bits are `f`. -/
theorem foldl_twoPow_eq_ofBits (f : Nat → Bool) (n : Nat) :
    (List.range n).foldl (fun c k => c + if f k then 2 ^ k else 0) 0 = Nat.ofBits fun k : Fin n => f k := by
  induction n with
  | zero => rfl
  | succ n ih =>
    have hlow := Nat.ofBits_lt_two_pow fun k : Fin n => f k
    have htop : (Nat.ofBits fun k : Fin n => f k) + (if f n then 2 ^ n else 0) =
        2 ^ n * (f n).toNat + Nat.ofBits fun k : Fin n => f k := by cases f n <;> simp [Nat.add_comm]
    rw [List.range_succ, List.foldl_append, ih, List.foldl_cons, List.foldl_nil, htop]
    refine Nat.eq_of_testBit_eq fun i => ?_
    rw [Nat.testBit_two_pow_mul_add _ hlow]
    obtain hi | rfl | hi := lt_trichotomy i n
    · simp [hi, Nat.lt_succ_of_lt hi]
    · cases htopBit : f i <;> simp [htopBit]
    · simp [Nat.testBit_bool_toNat, hi.not_gt, hi, Nat.sub_ne_zero_of_lt hi]

theorem Table.code_eq_ofBits (t : Table) (key : BitVec 640) :
    t.code key = Nat.ofBits fun k : Fin t.ncat => bitOf key (t.pos k) :=
  foldl_twoPow_eq_ofBits (fun k => bitOf key (t.pos k)) t.ncat

/-- Settles O16: the code is the number whose bit k is key bit POS(k), for k below NCAT. -/
theorem catalogueCode : Obligations.CatalogueCode := by
  unfold Obligations.CatalogueCode
  intro t key
  have hbound : t.code key < 2 ^ t.ncat := by
    rw [t.code_eq_ofBits]
    exact Nat.ofBits_lt_two_pow _
  refine ⟨fun k hk => ?_, hbound, fun hncat => ?_⟩
  · rw [t.code_eq_ofBits, Nat.testBit_ofBits_lt _ _ hk]
  · rw [hncat] at hbound
    exact Nat.lt_one_iff.1 hbound

end Sys2Proof.Machine
end

section
/-! PROOFS. The step, and little-endian words in byte lists: entry records read back as they were written (R4, Table 6-3). -/

namespace Sys2Proof.Machine

/-! ## The step -/

/-- Settles O1: a step takes the command off the front of the queue and runs it. -/
theorem stepRunsTheFrontCommand : Obligations.StepRunsTheFrontCommand := by
  unfold Obligations.StepRunsTheFrontCommand
  intro s c rest hpending
  simp [step, hpending]

/-- Settles O2: on an empty queue the step is `idleCycle`. -/
theorem emptyQueueLetsOneCyclePass : Obligations.EmptyQueueLetsOneCyclePass := by
  unfold Obligations.EmptyQueueLetsOneCyclePass
  intro s hpending
  simp [step, hpending, State.idleCycle]

/-- Settles O59: the reset state lists no byte of the attached memory and no register, so that STEP has its reset value. -/
theorem resetIsCanonical : Obligations.ResetIsCanonical :=
  ⟨Memory.wf_nil, rfl, rfl, rfl, rfl⟩

/-- What VEST_WAIT's expiry answers is a next state, whichever command waits. -/
theorem execVestWaitExpiry_next (s : State) : ∃ t, execVestWaitExpiry s = .next t := by
  unfold execVestWaitExpiry
  repeat' split
  all_goals exact ⟨_, rfl⟩

/-- Settles O60: every arm of `exec` but VEST_WAIT's expiry is one next state as it stands. -/
theorem everyCommandAnswers : Obligations.EveryCommandAnswers := by
  unfold Obligations.EveryCommandAnswers
  intro c s
  cases c
  case vestWaitExpiry => exact execVestWaitExpiry_next s
  all_goals exact ⟨_, rfl⟩

/-! ## Little-endian words -/

@[simp] theorem length_leBytes (n v : Nat) : (leBytes n v).length = n := by
  induction n generalizing v with
  | zero => rfl
  | succ n ih => simp [leBytes, ih]

/-- The n bytes of a number give it back, cut to n bytes. -/
theorem leNat_leBytes (n v : Nat) : leNat (leBytes n v) = v % 256 ^ n := by
  induction n generalizing v with
  | zero => simp [leBytes, leNat, Nat.mod_one]
  | succ n ih => rw [leBytes, leNat, ih, Nat.pow_succ', Nat.mod_mul, BitVec.toNat_ofNat]

theorem leNat_leBytes_of_lt {n v : Nat} (h : v < 256 ^ n) : leNat (leBytes n v) = v := by
  rw [leNat_leBytes, Nat.mod_eq_of_lt h]

/-- A word that stands after `pre` in a list of bytes is read at the offset that `pre` ends at. -/
theorem leAt_append (pre rest : List Byte) {n v o : Nat} (ho : pre.length = o) (hv : v < 256 ^ n) :
    leAt (pre ++ (leBytes n v ++ rest)) o n = v := by
  have hword : ((pre ++ (leBytes n v ++ rest)).drop o).take n = leBytes n v := by
    rw [← ho, List.drop_left, List.take_left' (length_leBytes n v)]
  rw [leAt, hword, leNat_leBytes_of_lt hv]

/-! ## Entry records -/

/-- The bytes of VALUE hold every key of the width. -/
theorem twoPow_widthBits_le_entryV (w : Nat) : 2 ^ widthBits w ≤ 256 ^ entryV w := by
  have hbits : widthBits w ≤ 8 * entryV w := by
    unfold widthBits entryV
    repeat' split
    all_goals decide
  calc 2 ^ widthBits w ≤ 2 ^ (8 * entryV w) := Nat.pow_le_pow_right (by decide) hbits
    _ = 256 ^ entryV w := Nat.pow_mul 2 8 _

/-- The header word of a record holds ID, RANK and DREF side by side, its upper two bits 0. -/
theorem header_fields {id rank dref : Nat} (hid : id < 2 ^ 24) (hrank : rank < 2 ^ 16) (hdref : dref < 2 ^ 22) :
    id + rank * 2 ^ 24 + dref * 2 ^ 40 < 256 ^ 8 ∧ (id + rank * 2 ^ 24 + dref * 2 ^ 40) % 2 ^ 24 = id ∧
    (id + rank * 2 ^ 24 + dref * 2 ^ 40) >>> 24 % 2 ^ 16 = rank ∧ (id + rank * 2 ^ 24 + dref * 2 ^ 40) >>> 40 % 2 ^ 22 = dref ∧
    (id + rank * 2 ^ 24 + dref * 2 ^ 40) >>> 62 = 0 := by
  simp only [Nat.shiftRight_eq_div_pow]
  omega

/-- The four words of a record, one after the other. -/
theorem entryBytes_eq (w id rank dref info : Nat) (value care : BitVec 640) :
    entryBytes w id rank dref info value care = leBytes 8 (id + rank * 2 ^ 24 + dref * 2 ^ 40) ++ (leBytes 8 info ++
      (leBytes (entryV w) value.toNat ++ (leBytes (entryV w) care.toNat ++ []))) := by
  simp only [entryBytes, List.append_assoc, List.append_nil]

/-- The words of a record, read at their offsets. -/
theorem leAt_entryBytes {w id rank dref info : Nat} {value care : BitVec 640}
    (hhead : id + rank * 2 ^ 24 + dref * 2 ^ 40 < 256 ^ 8) (hinfo : info < 256 ^ 8)
    (hvalue : value.toNat < 256 ^ entryV w) (hcare : care.toNat < 256 ^ entryV w) :
    leAt (entryBytes w id rank dref info value care) 0 8 = id + rank * 2 ^ 24 + dref * 2 ^ 40 ∧
    leAt (entryBytes w id rank dref info value care) 8 8 = info ∧
    leAt (entryBytes w id rank dref info value care) 16 (entryV w) = value.toNat ∧
    leAt (entryBytes w id rank dref info value care) (16 + entryV w) (entryV w) = care.toNat := by
  rw [entryBytes_eq]
  refine ⟨?_, leAt_append _ _ (length_leBytes 8 _) hinfo, ?_, ?_⟩
  · rw [← List.nil_append (leBytes 8 _ ++ _)]
    exact leAt_append [] _ List.length_nil hhead
  · rw [← List.append_assoc]
    exact leAt_append _ _ (by simp only [List.length_append, length_leBytes]) hvalue
  · rw [← List.append_assoc, ← List.append_assoc]
    exact leAt_append _ _ (by simp only [List.length_append, length_leBytes]) hcare

/-- Settles O17: each word of the record stands behind those before it, and each is wide enough for its field. -/
theorem entryRecordRoundTrip : Obligations.EntryRecordRoundTrip := by
  unfold Obligations.EntryRecordRoundTrip
  intro w id rank dref info value care _ hid hrank hdref hinfo hvalue hcare
  obtain ⟨hfits, hidRead, hrankRead, hdrefRead, hrsvd⟩ := header_fields hid hrank hdref
  have hkey := twoPow_widthBits_le_entryV w
  obtain ⟨hhead, hinfoRead, hvalueRead, hcareRead⟩ :=
    leAt_entryBytes hfits (hinfo.trans_eq (by norm_num)) (hvalue.trans_le hkey) (hcare.trans_le hkey)
  have hnarrow : (decide (2 ^ widthBits w ≤ value.toNat) || decide (2 ^ widthBits w ≤ care.toNat)) = false := by
    simp [hvalue, hcare]
  simp only [entryOfBytes, hhead, hinfoRead, hvalueRead, hcareRead, hidRead, hrankRead, hdrefRead, hrsvd, hnarrow,
    BitVec.ofNat_toNat, BitVec.setWidth_eq]

end Sys2Proof.Machine
end

section
/-! PROOFS. The frame of the named operations: within a list of parts a state changes, and the attached memory keeps its canonical
form. How the relation composes; the operations follow in the order of the model. -/

namespace Sys2Proof.Machine

/-- From s to t nothing changes but the parts listed, and the attached memory keeps its canonical form. -/
def Within (w : List Part) (s t : State) : Prop :=
  Only w s t ∧ (Memory.wf s.cfg.mem = true → Memory.wf t.cfg.mem = true)

namespace Within

variable {v w : List Part} {s t u : State}

theorem refl : Within w s s := ⟨.refl w s, id⟩

theorem trans (h : Within w s t) (k : Within w t u) : Within w s u := ⟨h.1.trans k.1, k.2 ∘ h.2⟩

theorem mono (h : Within v s t) (hw : v ⊆ w) : Within w s t := ⟨h.1.mono hw, h.2⟩

/-- A part that is not among those listed is the same. -/
theorem same (h : Within w s t) (p : Part) (hp : p ∉ w := by decide) : Same p s t := h.1 p hp

/-- One operation more, whose parts are among those listed. -/
theorem step (h : Within w s t) (k : Within v t u) (hw : v ⊆ w := by decide) : Within w s u := h.trans (k.mono hw)

theorem ite {c : Prop} [Decidable c] (h : Within w s t) (k : Within w s u) : Within w s (if c then t else u) := by
  split
  · exact h
  · exact k

/-- Of a choice of results, by the state in each. -/
theorem apply_ite {α : Type} (f : α → State) {c : Prop} [Decidable c] {p q : α} (h : Within w s (f p)) (k : Within w s (f q)) :
    Within w s (f (if c then p else q)) := by
  split
  · exact h
  · exact k

theorem foldl {α : Type} {f : State → α → State} {l : List α} (hf : ∀ x e, Within w s x → Within w s (f x e)) (h : Within w s t) :
    Within w s (l.foldl f t) := by
  induction l generalizing t with
  | nil => exact h
  | cons a l ih => exact ih (hf t a h)

/-- A fold whose steps carry a state along. -/
theorem foldl_apply {α σ : Type} (g : σ → State) {f : σ → α → σ} {l : List α} {x : σ}
    (hf : ∀ x e, Within w s (g x) → Within w s (g (f x e))) (h : Within w s (g x)) : Within w s (g (l.foldl f x)) := by
  induction l generalizing x with
  | nil => exact h
  | cons a l ih => exact ih (hf x a h)

/-- A state that a match took out of a pair. -/
theorem of_fst_eq {α : Type} {p : State × α} {a : α} (h : Within w s p.1) (hp : p = (u, a)) : Within w s u := by
  rwa [hp] at h

/-- A record update within the parts listed that leaves the configuration memory alone. -/
theorem upd
    {a1 a2 a3 a4 a5 a6 a7 a8 a9 a10 a11 a12 a13 a14 a15 a16 a17 a18 a19 a20 a21 a22 a23 a24 a25 a26 a27 a28 a29 a30 a31 a32
    a33 a34 a35 a36 a37 a38 a39 a40 a41 a42 a43}
    (h : Within w s t)
    (k : (a1 = t.clock ∨ Part.clock ∈ w) ∧ (a2 = t.freeCtr ∨ Part.freeCtr ∈ w) ∧ (a3 = t.out ∨ Part.out ∈ w) ∧ (a4 = t.mode ∨
    Part.mode ∈ w) ∧ (a5 = t.pins ∨ Part.pins ∈ w) ∧ (a6 = t.fuses ∨ Part.fuses ∈ w) ∧ (a7 = t.tap ∨ Part.tap ∈ w) ∧ (a8 =
    t.regs ∨ Part.regs ∈ w) ∧ (a9 = t.boot ∨ Part.boot ∈ w) ∧ (a10 = t.ledgerA ∨ Part.ledgerA ∈ w) ∧ (a11 = t.ledgerB ∨
    Part.ledgerB ∈ w) ∧ (a12 = t.dorm ∨ Part.dorm ∈ w) ∧ (a13 = t.tick ∨ Part.tick ∈ w) ∧ (a14 = t.ports ∨ Part.ports ∈ w) ∧
    (a15 = t.planned ∨ Part.planned ∈ w) ∧ (a16 = t.chans ∨ Part.chans ∈ w) ∧ (a17 = t.sites ∨ Part.sites ∈ w) ∧ (a18 = t.rpt
    ∨ Part.rpt ∈ w) ∧ (a19 = t.rptPend ∨ Part.rptPend ∈ w) ∧ (a20 = t.shadow ∨ Part.shadow ∈ w) ∧ (a21 = t.tables ∨
    Part.tables ∈ w) ∧ (a22 = t.rows ∨ Part.rows ∈ w) ∧ (a23 = t.cells ∨ Part.cells ∈ w) ∧ (a24 = t.faults ∨ Part.faults ∈ w)
    ∧ (a25 = t.journal ∨ Part.journal ∈ w) ∧ (a26 = t.groups ∨ Part.groups ∈ w) ∧ (a27 = t.tallies ∨ Part.tallies ∈ w) ∧ (a28
    = t.learnLog ∨ Part.learnLog ∈ w) ∧ (a29 = t.lost ∨ Part.lost ∈ w) ∧ (a30 = t.lossList ∨ Part.lossList ∈ w) ∧ (a31 =
    t.bays ∨ Part.bays ∈ w) ∧ (a32 = t.broad ∨ Part.broad ∈ w) ∧ (a33 = t.baysBefore ∨ Part.baysBefore ∈ w) ∧ (a34 =
    t.broadBefore ∨ Part.broadBefore ∈ w) ∧ (a35 = t.drawers ∨ Part.drawers ∈ w) ∧ (a36 = t.cabs ∨ Part.cabs ∈ w) ∧ (a37 =
    t.acts ∨ Part.acts ∈ w) ∧ (a38 = t.cur ∨ Part.cur ∈ w) ∧ (a39 = t.wrd ∨ Part.wrd ∈ w) ∧ (a40 = t.mnt ∨ Part.mnt ∈ w) ∧
    (a41 = t.host ∨ Part.host ∈ w) ∧ (a42 = t.seam ∨ Part.seam ∈ w) ∧ (a43 = t.csc ∨ Part.csc ∈ w) := by simp) :
    Within w s
      ⟨t.pending, a1, a2, a3, a4, a5, a6, a7, a8, a9, a10, a11, a12, a13, a14, a15, a16, a17, a18, a19, a20, a21, a22, a23,
      a24, a25, a26, a27, a28, a29, a30, a31, a32, a33, a34, a35, a36, a37, a38, a39, a40, a41, a42, a43, t.cfg⟩ := by
  refine ⟨Only.upd ⟨rfl, ?_⟩ h.1, h.2⟩
  simpa [and_assoc] using k

/-- A record update that changes the configuration memory, its contents staying canonical. -/
theorem updCfg
    {a1 a2 a3 a4 a5 a6 a7 a8 a9 a10 a11 a12 a13 a14 a15 a16 a17 a18 a19 a20 a21 a22 a23 a24 a25 a26 a27 a28 a29 a30 a31 a32
    a33 a34 a35 a36 a37 a38 a39 a40 a41 a42 a43} {a44 : Cfg}
    (h : Within w s t)
    (k : (a1 = t.clock ∨ Part.clock ∈ w) ∧ (a2 = t.freeCtr ∨ Part.freeCtr ∈ w) ∧ (a3 = t.out ∨ Part.out ∈ w) ∧ (a4 = t.mode ∨
    Part.mode ∈ w) ∧ (a5 = t.pins ∨ Part.pins ∈ w) ∧ (a6 = t.fuses ∨ Part.fuses ∈ w) ∧ (a7 = t.tap ∨ Part.tap ∈ w) ∧ (a8 =
    t.regs ∨ Part.regs ∈ w) ∧ (a9 = t.boot ∨ Part.boot ∈ w) ∧ (a10 = t.ledgerA ∨ Part.ledgerA ∈ w) ∧ (a11 = t.ledgerB ∨
    Part.ledgerB ∈ w) ∧ (a12 = t.dorm ∨ Part.dorm ∈ w) ∧ (a13 = t.tick ∨ Part.tick ∈ w) ∧ (a14 = t.ports ∨ Part.ports ∈ w) ∧
    (a15 = t.planned ∨ Part.planned ∈ w) ∧ (a16 = t.chans ∨ Part.chans ∈ w) ∧ (a17 = t.sites ∨ Part.sites ∈ w) ∧ (a18 = t.rpt
    ∨ Part.rpt ∈ w) ∧ (a19 = t.rptPend ∨ Part.rptPend ∈ w) ∧ (a20 = t.shadow ∨ Part.shadow ∈ w) ∧ (a21 = t.tables ∨
    Part.tables ∈ w) ∧ (a22 = t.rows ∨ Part.rows ∈ w) ∧ (a23 = t.cells ∨ Part.cells ∈ w) ∧ (a24 = t.faults ∨ Part.faults ∈ w)
    ∧ (a25 = t.journal ∨ Part.journal ∈ w) ∧ (a26 = t.groups ∨ Part.groups ∈ w) ∧ (a27 = t.tallies ∨ Part.tallies ∈ w) ∧ (a28
    = t.learnLog ∨ Part.learnLog ∈ w) ∧ (a29 = t.lost ∨ Part.lost ∈ w) ∧ (a30 = t.lossList ∨ Part.lossList ∈ w) ∧ (a31 =
    t.bays ∨ Part.bays ∈ w) ∧ (a32 = t.broad ∨ Part.broad ∈ w) ∧ (a33 = t.baysBefore ∨ Part.baysBefore ∈ w) ∧ (a34 =
    t.broadBefore ∨ Part.broadBefore ∈ w) ∧ (a35 = t.drawers ∨ Part.drawers ∈ w) ∧ (a36 = t.cabs ∨ Part.cabs ∈ w) ∧ (a37 =
    t.acts ∨ Part.acts ∈ w) ∧ (a38 = t.cur ∨ Part.cur ∈ w) ∧ (a39 = t.wrd ∨ Part.wrd ∈ w) ∧ (a40 = t.mnt ∨ Part.mnt ∈ w) ∧
    (a41 = t.host ∨ Part.host ∈ w) ∧ (a42 = t.seam ∨ Part.seam ∈ w) ∧ (a43 = t.csc ∨ Part.csc ∈ w) ∧ Part.cfg ∈ w ∧
    (Memory.wf t.cfg.mem = true → Memory.wf a44.mem = true) := by simp) :
    Within w s
      ⟨t.pending, a1, a2, a3, a4, a5, a6, a7, a8, a9, a10, a11, a12, a13, a14, a15, a16, a17, a18, a19, a20, a21, a22, a23,
      a24, a25, a26, a27, a28, a29, a30, a31, a32, a33, a34, a35, a36, a37, a38, a39, a40, a41, a42, a43, a44⟩ := by
  obtain ⟨k1, k2, k3, k4, k5, k6, k7, k8, k9, k10, k11, k12, k13, k14, k15, k16, k17, k18, k19, k20, k21, k22, k23, k24, k25, k26, k27, k28, k29, k30, k31, k32, k33, k34, k35, k36, k37, k38, k39, k40, k41, k42, k43, kcfg, kmem⟩ := k
  exact ⟨Only.upd ⟨rfl, k1, k2, k3, k4, k5, k6, k7, k8, k9, k10, k11, k12, k13, k14, k15, k16, k17, k18, k19, k20, k21, k22, k23, k24, k25, k26, k27, k28, k29, k30, k31, k32, k33, k34, k35, k36, k37, k38, k39, k40, k41, k42, k43, .inr kcfg⟩ h.1, kmem ∘ h.2⟩

/-- A command that answers that state changes no more. -/
theorem of_next (h : Within w s u) (e : (.next u : Host.Outcome State Fault Refusal) = .next t) : Within w s t := by
  injection e with e
  exact e ▸ h

end Within

end Sys2Proof.Machine
end

section
/-! PROOFS. The frame of the operations of Sys2Proof.Machine.Ops, in the order of that file. -/

namespace Sys2Proof.Machine

set_option Elab.async false

theorem State.put_within {s : State} {F : Field} {v i j : Nat} : Within [.regs] s (s.put F v i j) := by
  unfold State.put
  exact Within.refl.upd

theorem State.putB_within {s : State} {F : Field} {b : Bool} {i j : Nat} : Within [.regs] s (s.putB F b i j) := by
  unfold State.putB
  exact Within.refl.step State.put_within

theorem State.bump_within {s : State} {F : Field} {n i j : Nat} : Within [.regs] s (s.bump F n i j) := by
  unfold State.bump
  exact Within.refl.step State.put_within

theorem State.drawn_within {s : State} : Within [.freeCtr] s (s.drawn) := by
  unfold State.drawn
  exact Within.refl.upd

theorem State.emit_within {s : State} {o : Output} : Within [.out] s (s.emit o) := by
  unfold State.emit
  exact Within.refl.upd

theorem State.setPort_within {s : State} {p : Nat} {v : PortSt} : Within [.ports] s (s.setPort p v) := by
  unfold State.setPort
  exact Within.refl.upd

theorem State.setChan_within {s : State} {c : Nat} {v : Chan} : Within [.chans] s (s.setChan c v) := by
  unfold State.setChan
  exact Within.refl.upd

theorem State.setSite_within {s : State} {n : Nat} {v : Site} : Within [.sites] s (s.setSite n v) := by
  unfold State.setSite
  exact Within.refl.upd

theorem State.setTable_within {s : State} {t : Nat} {v : Table} : Within [.tables] s (s.setTable t v) := by
  unfold State.setTable
  exact Within.refl.upd

theorem State.dropTable_within {s : State} {t : Nat} : Within [.tables] s (s.dropTable t) := by
  unfold State.dropTable
  exact Within.refl.upd

theorem State.setDrawer_within {s : State} {g x : Nat} {v : Drawer} : Within [.drawers] s (s.setDrawer g x v) := by
  unfold State.setDrawer
  exact Within.refl.upd

theorem State.setCab_within {s : State} {n : Nat} {v : Cab} : Within [.cabs] s (s.setCab n v) := by
  unfold State.setCab
  exact Within.refl.upd

theorem State.setPin_within {s : State} {i : Nat} {v : Pin} : Within [.wrd] s (s.setPin i v) := by
  unfold State.setPin
  exact Within.refl.upd

theorem State.setReq_within {s : State} {r : Nat} {v : Req} : Within [.mnt] s (s.setReq r v) := by
  unfold State.setReq
  exact Within.refl.upd

theorem State.setLink_within {s : State} {l : Link} {v : LinkSt} : Within [.ports, .seam, .csc] s (s.setLink l v) := by
  unfold State.setLink
  dsimp only
  split
  · exact Within.refl.step State.setPort_within
  · exact Within.refl.upd
  · exact Within.refl.upd
  · exact Within.refl.upd

theorem State.freeEngine_within {s : State} : Within [.host] s (s.freeEngine) := by
  unfold State.freeEngine
  exact Within.refl.upd

theorem State.finish_within {s : State} {c : Cmd} {status result : Nat} :
    Within [.host] s (s.finish c status result) := by
  unfold State.finish
  exact (Within.refl.step State.freeEngine_within).upd

theorem State.finishLater_within {s : State} {c : Cmd} {status result : Nat} :
    Within [.host] s (s.finishLater c status result) := by
  unfold State.finishLater
  exact (Within.refl.step State.freeEngine_within).upd

theorem State.owedReady_within {s : State} {func idx cid status result : Nat} :
    Within [.host] s (s.owedReady func idx cid status result) := by
  unfold State.owedReady
  exact Within.refl.upd

end Sys2Proof.Machine
end

section
/-! PROOFS. The frame of the operations of Sys2Proof.Machine.Pci, in the order of that file. -/

namespace Sys2Proof.Machine

set_option Elab.async false

theorem State.setPci_within {s : State} {f : Nat} {v : PciFn} : Within [.host] s (s.setPci f v) := by
  unfold State.setPci
  exact Within.refl.upd

theorem State.setPba_within {s : State} {f v : Nat} {b : Bool} : Within [.host] s (s.setPba f v b) := by
  unfold State.setPba
  exact Within.ite Within.refl (Within.refl.step State.setPci_within)

theorem State.msixSend_within {s : State} {f v : Nat} : Within [.out, .host] s (s.msixSend f v) := by
  unfold State.msixSend
  exact Within.ite Within.refl (Within.ite (Within.refl.step State.setPba_within) (Within.refl.step State.emit_within))

end Sys2Proof.Machine
end

section
/-! PROOFS. The frame of the operations of Sys2Proof.Machine.Events, in the order of that file. -/

namespace Sys2Proof.Machine

set_option Elab.async false

theorem State.setIdle_within {s : State} {q : Nat} {v : Idle} : Within [.host] s (s.setIdle q v) := by
  unfold State.setIdle
  exact Within.refl.upd

theorem State.pushEvent_within {s : State} {n : Nat} {held : Bool} : Within [.regs, .host] s (s.pushEvent n held) := by
  unfold State.pushEvent
  exact Within.ite ((Within.ite (Within.refl.step State.setIdle_within) Within.refl).upd) (((Within.refl.step
      State.bump_within).step State.put_within).upd)

theorem State.msixPf_within {s : State} {v : Nat} : Within [.out, .host] s (s.msixPf v) := by
  unfold State.msixPf
  exact Within.ite Within.refl (Within.ite Within.refl.upd (Within.ite (Within.refl.step State.msixSend_within)
      ((Within.refl.step State.msixSend_within).upd)))

theorem State.msixTo_within {s : State} {f v : Nat} : Within [.out, .host] s (s.msixTo f v) := by
  unfold State.msixTo
  exact Within.ite (Within.refl.step State.msixPf_within) (Within.refl.step State.msixSend_within)

theorem State.msixOf_within {s : State} {n : Nat} : Within [.out, .host] s (s.msixOf n) := by
  unfold State.msixOf
  exact Within.refl.step State.msixTo_within

theorem State.deliver_within {s : State} {n : Nat} {held : Bool} :
    Within [.out, .regs, .host] s (s.deliver n held) := by
  unfold State.deliver
  exact Within.ite ((Within.ite ((((Within.refl.step State.bump_within).step State.bump_within).step State.put_within).step
      State.pushEvent_within) (((Within.refl.step State.bump_within).step State.bump_within).step State.put_within)).step
      State.msixOf_within) ((Within.refl.step State.bump_within).step State.bump_within)

theorem State.raise_within {s : State} {n : Nat} : Within [.out, .regs, .boot, .host] s (s.raise n) := by
  unfold State.raise
  dsimp only
  split
  · exact Within.refl.step State.deliver_within
  · exact Within.refl.upd
  · exact Within.refl
  · exact Within.refl

theorem State.raiseEp_within {s : State} {n key : Nat} : Within [.out, .regs, .boot, .host] s (s.raiseEp n key) := by
  unfold State.raiseEp
  exact Within.ite Within.refl.upd (Within.refl.upd.step State.raise_within)

theorem State.raiseRate_within {s : State} {n : Nat} : Within [.out, .regs, .boot, .host] s (s.raiseRate n) := by
  unfold State.raiseRate
  dsimp only
  split
  · exact Within.ite Within.refl (Within.refl.upd.step State.raise_within)
  · exact Within.refl.upd.step State.raise_within

theorem State.chanCause_within {s : State} {F : Field} {slot : Nat} :
    Within [.out, .regs, .boot, .host] s (s.chanCause F slot) := by
  unfold State.chanCause
  exact Within.ite Within.refl ((Within.refl.step State.put_within).step State.raise_within)

theorem State.oweLog_within {s : State} {type data : Nat} : Within [.cfg] s (s.oweLog type data) := by
  unfold State.oweLog
  exact Within.refl.updCfg

theorem State.setRaise_within {s : State} {F : Field} {n : Nat} :
    Within [.out, .regs, .boot, .host] s (s.setRaise F n) := by
  unfold State.setRaise
  exact (Within.refl.step State.put_within).step State.raise_within

end Sys2Proof.Machine
end

section
/-! PROOFS. The frame of the operations of Sys2Proof.Machine.Flags, in the order of that file. -/

namespace Sys2Proof.Machine

set_option Elab.async false

theorem State.showLatency_within {s : State} : Within [.regs] s (s.showLatency) := by
  unfold State.showLatency
  exact (Within.refl.step State.put_within).step State.put_within

theorem State.setBlock_within {s : State} {c : Nat} {open_ : Bool} :
    Within [.out, .regs, .boot, .host] s (s.setBlock c open_) := by
  unfold State.setBlock
  exact Within.ite (((Within.refl.step State.put_within).step State.putB_within).step State.raise_within) ((Within.refl.step
      State.put_within).step State.putB_within)

theorem State.openAdmission_within {s : State} :
    Within [.out, .regs, .boot, .tick, .ports, .host] s (s.openAdmission) := by
  unfold State.openAdmission
  exact Within.refl.upd.step State.setBlock_within

theorem State.governor_within {s : State} {b : Boundary} : Within [.out, .regs, .boot, .host] s (s.governor b) := by
  unfold State.governor
  exact Within.foldl (fun _ _ h => Within.ite (h.step State.raiseEp_within) h) (Within.ite (((Within.ite ((((Within.refl.step
      State.put_within).step State.put_within).step State.put_within).step State.raise_within) (((Within.refl.step
      State.put_within).step State.put_within).step State.put_within)).step State.putB_within).step State.setRaise_within)
      ((Within.ite ((((Within.refl.step State.put_within).step State.put_within).step State.put_within).step
      State.raise_within) (((Within.refl.step State.put_within).step State.put_within).step State.put_within)).step
      State.putB_within))

theorem State.setBalance_within {s : State} {b : Int} :
    Within [.out, .regs, .boot, .cur, .host] s (s.setBalance b) := by
  unfold State.setBalance
  exact Within.ite Within.refl.upd (Within.refl.upd.step State.raise_within)

theorem State.spend_within {s : State} {cells : Nat} : Within [.out, .regs, .boot, .cur, .host] s (s.spend cells) := by
  unfold State.spend
  exact Within.refl.upd.step State.setBalance_within

theorem State.showDegraded_within {s : State} : Within [.out, .regs, .boot, .tables, .host] s (s.showDegraded) := by
  unfold State.showDegraded
  exact Within.foldl (fun _ _ h => Within.ite h (Within.ite (((h.step State.setTable_within).step State.put_within).step
      State.raise_within) (h.step State.setTable_within))) Within.refl

theorem State.ifCurating_within {w : List Part} {s : State} {r : Nat} {f : State → State} (hf : Within w s (f s)) :
    Within w s (s.ifCurating r f) := by
  unfold State.ifCurating
  exact Within.ite hf .refl

end Sys2Proof.Machine
end

section
/-! PROOFS. The frame of the operations of Sys2Proof.Machine.Links, in the order of that file. -/

namespace Sys2Proof.Machine

set_option Elab.async false

theorem State.sendLink_within {s : State} {l : Link} {f : LinkFlit} : Within [.out] s (s.sendLink l f) := by
  unfold State.sendLink
  exact Within.refl.step State.emit_within

theorem State.sendCredit_within {s : State} {l : Link} : Within [.out, .ports, .seam, .csc] s (s.sendCredit l) := by
  unfold State.sendCredit
  exact Within.ite Within.refl ((Within.refl.step State.setLink_within).step State.sendLink_within)

theorem State.returnCredits_within {s : State} {p n : Nat} :
    Within [.out, .regs, .ports, .seam, .csc] s (s.returnCredits p n) := by
  unfold State.returnCredits
  exact Within.ite Within.refl (Within.ite (((Within.refl.step State.setPort_within).step State.put_within).step
      State.sendCredit_within) ((Within.refl.step State.setPort_within).step State.put_within))

theorem State.grantCredits_within {s : State} {p : Nat} : Within [.out, .regs, .ports] s (s.grantCredits p) := by
  unfold State.grantCredits
  exact Within.ite (((Within.refl.step State.setPort_within).step State.put_within).step State.sendLink_within) Within.refl

theorem State.rewound_within {s : State} {p n : Nat} :
    Within [.out, .regs, .boot, .ports, .host, .seam, .csc] s (s.rewound p n) := by
  unfold State.rewound
  exact (((Within.refl.step State.setPort_within).step State.bump_within).step State.returnCredits_within).step
      State.raiseEp_within

theorem State.rewindPart_within {s : State} {p : Nat} :
    Within [.out, .regs, .boot, .ports, .host, .seam, .csc] s (s.rewindPart p) := by
  unfold State.rewindPart
  exact Within.ite Within.refl ((Within.refl.step State.setPort_within).step State.rewound_within)

theorem State.rewindComplete_within {s : State} {p : Nat} :
    Within [.out, .regs, .boot, .ports, .host, .seam, .csc] s (s.rewindComplete p) := by
  unfold State.rewindComplete
  exact Within.foldl (fun _ _ h => h.step State.rewound_within) (Within.refl.step State.setPort_within)

theorem State.flushPort_within {s : State} {p : Nat} :
    Within [.out, .regs, .boot, .ports, .host, .seam, .csc] s (s.flushPort p) := by
  unfold State.flushPort
  exact ((((Within.refl.step State.setPort_within).step State.bump_within).step State.returnCredits_within).step
      State.rewindComplete_within).step State.rewindPart_within

theorem State.dropControl_within {s : State} {p : Nat} : Within [.regs, .host] s (s.dropControl p) := by
  unfold State.dropControl
  exact Within.refl.upd.step State.bump_within

theorem State.settleControl_within {s : State} : Within [.host] s (s.settleControl) := by
  unfold State.settleControl
  dsimp only
  exact (Within.foldl (fun _ _ h => (by split; exacts [h.step State.owedReady_within, h])) Within.refl).upd

theorem State.dropCaptures_within {s : State} {p : Nat} : Within [.regs, .ports] s (s.dropCaptures p) := by
  unfold State.dropCaptures
  exact (Within.refl.step State.setPort_within).step State.bump_within

theorem State.dropVerdicts_within {s : State} {p : Nat} : Within [.regs, .planned] s (s.dropVerdicts p) := by
  unfold State.dropVerdicts
  exact Within.refl.upd.step State.bump_within

theorem State.leaveUp_within {s : State} {p : Nat} :
    Within [.out, .regs, .boot, .ports, .planned, .host, .seam, .csc] s (s.leaveUp p) := by
  unfold State.leaveUp
  exact ((((((((Within.refl.step State.rewindPart_within).step State.dropVerdicts_within).step State.dropCaptures_within).step
      State.dropControl_within).step State.settleControl_within).step State.put_within).step State.put_within).step
      State.put_within).step State.setPort_within

theorem State.startTraining_within {s : State} {l : Link} : Within [.ports, .seam, .csc] s (s.startTraining l) := by
  unfold State.startTraining
  exact Within.ite (Within.refl.step State.setLink_within) Within.refl

theorem State.grantSeam_within {s : State} : Within [.out, .ports, .seam, .csc] s (s.grantSeam) := by
  unfold State.grantSeam
  exact Within.ite ((Within.refl.step State.setLink_within).step State.sendCredit_within) Within.refl

theorem State.linkUp_within {s : State} {l : Link} : Within [.out, .regs, .ports, .seam, .csc] s (s.linkUp l) := by
  unfold State.linkUp
  dsimp only
  split
  · exact (((Within.refl.step State.setLink_within).step State.put_within).step State.put_within).step State.grantCredits_within
  · exact ((Within.refl.step State.setLink_within).upd).step State.grantSeam_within
  · exact Within.refl.step State.setLink_within

end Sys2Proof.Machine
end

section
/-! PROOFS. The frame of the operations of Sys2Proof.Machine.Wire, in the order of that file. -/

namespace Sys2Proof.Machine

set_option Elab.async false

theorem State.putSeam_within {s : State} {m : SeamOut} : Within [.out, .seam] s (s.putSeam m) := by
  unfold State.putSeam
  exact Within.refl.upd

theorem State.sendSeam_within {s : State} {m : SeamOut} : Within [.out, .seam] s (s.sendSeam m) := by
  unfold State.sendSeam
  exact Within.ite (Within.refl.step State.putSeam_within) Within.refl.upd

theorem State.sendSeams_within {s : State} {l : List SeamOut} : Within [.out, .seam] s (s.sendSeams l) := by
  unfold State.sendSeams
  exact Within.foldl (fun _ _ h => h.step State.sendSeam_within) Within.refl

theorem State.seamCredit_within {s : State} {d : Nat} : Within [.out, .seam] s (s.seamCredit d) := by
  unfold State.seamCredit
  exact Within.refl.upd.step State.sendSeams_within

theorem State.seamGot_within {s : State} {n : Nat} : Within [.out, .ports, .seam, .csc] s (s.seamGot n) := by
  unfold State.seamGot
  exact Within.ite Within.refl (Within.ite ((Within.refl.step State.setLink_within).step State.sendCredit_within)
      (Within.refl.step State.setLink_within))

end Sys2Proof.Machine
end

section
/-! PROOFS. The frame of the operations of Sys2Proof.Machine.Cmds, in the order of that file. -/

namespace Sys2Proof.Machine

set_option Elab.async false

theorem State.deny_within {s : State} {status : Nat} : Within [] s ((s.deny status).s) := by
  unfold State.deny
  exact Within.refl

theorem State.dmaFail_within {s : State} {f : Nat} : Within [.out, .regs, .boot, .host] s (s.dmaFail f) := by
  unfold State.dmaFail
  exact (Within.refl.step State.put_within).step State.raise_within

theorem State.dmaDeny_within {s : State} {f : Nat} : Within [.out, .regs, .boot, .host] s ((s.dmaDeny f).s) := by
  unfold State.dmaDeny
  exact Within.refl.step State.dmaFail_within

theorem State.hostPut_within {s : State} {f addr : Nat} {bytes : List Byte} {d : Dma} {result : Nat} :
    Within [.out, .regs, .boot, .host] s ((s.hostPut f addr bytes d result).s) := by
  unfold State.hostPut
  exact Within.apply_ite Ran.s (Within.refl.step State.emit_within) (Within.refl.step State.dmaFail_within)

theorem State.complete_within {c : Cmd} {r : Ran} : Within [.host] r.s (State.complete c r) := by
  unfold State.complete
  exact Within.ite Within.refl.upd (Within.ite (Within.refl.step State.finishLater_within) (Within.refl.step
      State.finish_within))

theorem State.startMirror_within {s : State} {op : MirrorOp} {target : Nat} {cmd : Option (Nat × Nat × Nat)} :
    Within [.out, .seam] s (s.startMirror op target cmd) := by
  unfold State.startMirror
  exact Within.refl.upd.step State.sendSeam_within

/-- What a command's meaning may change, with the seam and the host's side of the command, its issue may. -/
theorem State.issue_within {w : List Part} {s : State} {c : Cmd} {d : Dma}
    {core : State → Option (Nat × Nat × Nat) → Nat → CmdSlot → Dma → Ran}
    (hcore : ∀ own f c d, Within w s (core s own f c d).s) (hw : [.out, .host, .seam] ⊆ w := by decide) :
    Within w s (s.issue c d core) := by
  unfold State.issue
  have hmirror : [Part.out, .seam] ⊆ w := fun p hp => hw (by revert hp; cases p <;> decide)
  have hhost : Part.host ∈ w := hw (by decide)
  split
  · exact .refl
  · dsimp only
    split
    · exact (Within.refl.step State.startMirror_within hmirror).upd (by simp [hhost])
    · exact (hcore _ _ _ _).step State.complete_within (by simpa using hhost)

theorem State.runOp_within {w : List Part} {s : State} {op : Nat} {d : Dma}
    {core : State → Option (Nat × Nat × Nat) → Nat → CmdSlot → Dma → Ran}
    (hcore : ∀ own f c d, Within w s (core s own f c d).s) (hw : [.out, .host, .seam] ⊆ w := by decide) :
    Within w s (s.runOp op d core) := by
  unfold State.runOp
  split
  · exact .refl
  · exact State.issue_within hcore hw

theorem State.touchIdle_within {s : State} : Within [.dorm] s (s.touchIdle) := by
  unfold State.touchIdle
  exact Within.refl.upd

theorem State.onService_within {w : List Part} {s : State} {f : State → State} (hf : Within w s.touchIdle (f s.touchIdle))
    (hw : [.dorm] ⊆ w := by decide) : Within w s (s.onService f) := by
  unfold State.onService
  exact Within.ite ((State.touchIdle_within.mono hw).trans hf) .refl

end Sys2Proof.Machine
end

section
/-! PROOFS. The frame of the operations of Sys2Proof.Machine.Complete, in the order of that file. -/

namespace Sys2Proof.Machine

set_option Elab.async false

theorem State.postOne_within {s : State} {o : Owed} {fail : Bool} :
    Within [.out, .regs, .boot, .host] s (s.postOne o fail) := by
  unfold State.postOne
  exact Within.ite Within.refl (Within.ite (Within.refl.step State.dmaFail_within) ((Within.refl.step State.emit_within).step
      State.put_within))

theorem State.cplMessage_within {s : State} {f : Nat} : Within [.out, .host] s (s.cplMessage f) := by
  unfold State.cplMessage
  exact Within.refl.step State.msixTo_within

theorem State.postReady_within {s : State} {fails : List (Fin 16)} :
    Within [.out, .regs, .boot, .host] s (s.postReady fails) := by
  unfold State.postReady
  exact Within.foldl (fun _ _ h => h.step State.cplMessage_within) (Within.foldl (fun _ _ h => h.step State.postOne_within)
      Within.refl.upd)

theorem State.completeNow_within {s : State} {own : Option (Nat × Nat × Nat)} {status result : Nat} :
    Within [.out, .regs, .boot, .host] s (s.completeNow own status result) := by
  unfold State.completeNow
  dsimp only
  split
  · exact Within.refl
  · split
    · exact Within.refl
    · exact Within.ite (Within.refl.upd.step State.postOne_within) ((Within.refl.upd.step State.postOne_within).step
          State.cplMessage_within)

end Sys2Proof.Machine
end

section
/-! PROOFS. The frame of the operations of Sys2Proof.Machine.Channels, in the order of that file. -/

namespace Sys2Proof.Machine

set_option Elab.async false

theorem coreChnCreate_within {handle : Nat} {s : State} {_own : Option (Nat × Nat × Nat)} {f : Nat} {c : CmdSlot} {d : Dma} :
    Within [.out, .regs, .boot, .chans, .host] s ((coreChnCreate handle s _own f c d).s) := by
  unfold coreChnCreate
  dsimp only
  exact Within.apply_ite Ran.s (Within.refl.step State.deny_within) (by
      split
      exacts [Within.refl.step State.dmaDeny_within, Within.apply_ite Ran.s (Within.refl.step State.deny_within)
          (Within.apply_ite Ran.s (Within.refl.step State.deny_within) (by
          split
          exacts [Within.refl.step State.deny_within, Within.apply_ite Ran.s (Within.refl.step State.deny_within)
              (Within.refl.step State.setChan_within)]))])

theorem coreChnDestroy_within {s : State} {own : Option (Nat × Nat × Nat)} {f : Nat} {c : CmdSlot} {_d : Dma} :
    Within [.chans] s ((coreChnDestroy s own f c _d).s) := by
  unfold coreChnDestroy
  exact Within.apply_ite Ran.s (Within.refl.step State.deny_within) (Within.apply_ite Ran.s (Within.refl.step
      State.deny_within) (Within.apply_ite Ran.s (Within.refl.step State.deny_within) (Within.apply_ite Ran.s
      (Within.refl.step State.deny_within) (Within.refl.step State.setChan_within))))

theorem State.clearChan_within {s : State} {c : Nat} : Within [.regs] s (s.clearChan c) := by
  unfold State.clearChan
  exact Within.foldl (fun _ _ h => (h.step State.put_within).step State.put_within) (Within.foldl (fun _ _ h => h.step
      State.put_within) Within.refl)

theorem State.channelsBoundary_within {s : State} {k : Tick} : Within [.regs, .chans] s (s.channelsBoundary k) := by
  unfold State.channelsBoundary
  dsimp only
  exact Within.foldl (fun _ _ h => (by
      split
      exacts [Within.ite h ((h.step State.setChan_within).step State.clearChan_within), Within.ite h (h.step
          State.setChan_within), h])) Within.refl

theorem doChannelSlotFree_within {slot : BitVec 8} {s : State} :
    Within [.out, .regs, .boot, .chans, .host] s (doChannelSlotFree slot s) := by
  unfold doChannelSlotFree
  dsimp only
  split
  · exact Within.refl
  · exact Within.ite (((Within.refl.step State.setChan_within).step State.chanCause_within).step State.completeNow_within)
        Within.refl

theorem State.applyQuota_within {s : State} {n : Nat} {hi : Bool} {v : BitVec 64} :
    Within [.out, .regs, .boot, .chans, .host] s (s.applyQuota n hi v) := by
  unfold State.applyQuota
  exact Within.ite Within.refl (Within.ite (Within.refl.step State.setChan_within) (Within.refl.step State.chanCause_within))

theorem doChnQuotaWrite_within {f : Fin 16} {slot : BitVec 8} {hi : Bool} {v : BitVec 64} {s : State} :
    Within [.out, .regs, .boot, .chans, .host, .seam] s (doChnQuotaWrite f slot hi v s) := by
  unfold doChnQuotaWrite
  exact Within.ite Within.refl (Within.ite (Within.ite (Within.refl.step State.startMirror_within) (Within.refl.step
      State.applyQuota_within)) (Within.refl.step State.applyQuota_within))

theorem doChannelStall_within {slot : BitVec 8} {s : State} :
    Within [.out, .regs, .boot, .host] s (doChannelStall slot s) := by
  unfold doChannelStall
  exact Within.ite (Within.refl.step State.chanCause_within) Within.refl

end Sys2Proof.Machine
end

section
/-! PROOFS. The frame of the operations of Sys2Proof.Machine.Medium, in the order of that file. -/

namespace Sys2Proof.Machine

set_option Elab.async false

theorem State.setRows_within {s : State} {l : List Row} : Within [.rows] s (s.setRows l) := by
  unfold State.setRows
  exact Within.refl.upd

theorem State.setFault_within {s : State} {k : Nat} {f : RowFault} : Within [.faults] s (s.setFault k f) := by
  unfold State.setFault
  exact Within.refl.upd

theorem State.wearRow_within {s : State} {g x row cells : Nat} :
    Within [.drawers, .cur] s (s.wearRow g x row cells) := by
  unfold State.wearRow
  exact Within.refl.upd.step State.setDrawer_within

theorem State.dirtyDrawer_within {s : State} {g x : Nat} : Within [.drawers] s (s.dirtyDrawer g x) := by
  unfold State.dirtyDrawer
  exact Within.refl.step State.setDrawer_within

theorem State.makeSuspect_within {s : State} {g x : Nat} :
    Within [.out, .regs, .boot, .drawers, .host] s (s.makeSuspect g x) := by
  unfold State.makeSuspect
  exact Within.ite Within.refl (((Within.refl.step State.setDrawer_within).step State.put_within).step State.raise_within)

theorem State.defectRow_within {s : State} {g x row : Nat} :
    Within [.out, .regs, .boot, .drawers, .host] s (s.defectRow g x row) := by
  unfold State.defectRow
  exact Within.ite Within.refl (Within.ite (((Within.refl.step State.setDrawer_within).step State.bump_within).step
      State.makeSuspect_within) ((Within.refl.step State.setDrawer_within).step State.bump_within))

theorem State.freeFails_within {s : State} : Within [.freeCtr] s (s.freeFails.2) := by
  unfold State.freeFails
  exact Within.refl.upd

theorem State.program_within {s : State} {k : Nat} {new : RowCells} {fails : List Nat} :
    Within [.out, .regs, .boot, .cells, .faults, .drawers, .cur, .host] s ((s.program k new fails).1) := by
  unfold State.program
  exact Within.apply_ite Prod.fst ((((Within.ite ((Within.refl.step State.spend_within).step State.bump_within)
      (((Within.refl.step State.spend_within).step State.bump_within).step State.bump_within)).step State.wearRow_within).step
      State.dirtyDrawer_within).upd) (((((Within.ite ((Within.refl.step State.spend_within).step State.bump_within)
      (((Within.refl.step State.spend_within).step State.bump_within).step State.bump_within)).step State.wearRow_within).step
      State.dirtyDrawer_within).upd).step State.defectRow_within)

theorem State.overwritten_within {s : State} {l : Loc} : Within [.journal, .cur] s (s.overwritten l) := by
  unfold State.overwritten
  exact Within.refl.upd

theorem State.programRows_within {s : State} {r : Row} {w p n : Nat} {fails : List (List Nat)} :
    Within [.out, .regs, .boot, .cells, .faults, .drawers, .cur, .host] s (s.programRows r w fails p n).1 := by
  induction n generalizing s fails p with
  | zero => exact .refl
  | succ n ih => exact (Within.refl.step State.program_within).step ih

theorem State.writeEntry_within {s : State} {r : Row} {w : WriteRes} :
    Within [.out, .regs, .boot, .cells, .faults, .journal, .drawers, .cur, .host] s ((s.writeEntry r w).1) := by
  unfold State.writeEntry
  exact (Within.refl.step State.overwritten_within).step State.programRows_within

theorem State.writeFree_within {s : State} {r : Row} :
    Within [.freeCtr, .out, .regs, .boot, .cells, .faults, .journal, .drawers, .cur, .host] s (s.writeFree r).1 := by
  unfold State.writeFree
  dsimp only
  have hfails : Within [.freeCtr, .out, .regs, .boot, .cells, .faults, .journal, .drawers, .cur, .host] s
      ((List.range (rowsOf (s.widthOf r.tbl))).foldl
        (fun (x : List (List Nat) × State) _ => (x.1 ++ [x.2.freeFails.1], x.2.freeFails.2)) ([], s)).2 :=
    Within.foldl_apply Prod.snd (fun _ _ h => h.step State.freeFails_within) .refl
  exact (hfails.step State.overwritten_within).step State.programRows_within

theorem State.rewriteOlder_within {s : State} {k : Nat} : Within [.faults, .cur] s (s.rewriteOlder k) := by
  unfold State.rewriteOlder
  exact Within.refl.upd

end Sys2Proof.Machine
end

section
/-! PROOFS. The frame of the operations of Sys2Proof.Machine.Place, in the order of that file. -/

namespace Sys2Proof.Machine

set_option Elab.async false

theorem State.addBay_within {s : State} {g t first sz : Nat} {units : List Nat} :
    Within [.freeCtr, .bays] s (s.addBay g t first sz units) := by
  unfold State.addBay
  dsimp only
  split
  · exact Within.refl
  · exact (Within.refl.step State.drawn_within).upd

theorem State.assignUnit_within {s : State} {t : Nat} {d : Table} {g u : Nat} {value care : BitVec 640} :
    Within [.bays, .broad, .drawers] s (s.assignUnit t d g u value care) := by
  unfold State.assignUnit
  dsimp only
  split
  · exact Within.ite Within.refl (Within.ite (Within.ite Within.refl.upd (Within.refl.upd.step State.setDrawer_within))
        (Within.ite Within.refl.upd (Within.refl.upd.step State.setDrawer_within)))
  · exact Within.ite Within.refl (Within.ite Within.refl.upd (Within.refl.upd.step State.setDrawer_within))

theorem State.assignFor_within {s : State} {r : Row} : Within [.bays, .broad, .drawers] s (s.assignFor r) := by
  unfold State.assignFor
  split
  · exact Within.refl.step State.assignUnit_within
  · exact Within.refl

theorem State.noteBroad_within {s : State} {r : Row} : Within [.regs] s (s.noteBroad r) := by
  unfold State.noteBroad
  exact Within.ite (Within.refl.step State.bump_within) Within.refl

theorem State.giveTally_within {s : State} {t id : Nat} : Within [.regs, .tallies] s (s.giveTally t id) := by
  unfold State.giveTally
  split
  · exact Within.refl
  · exact Within.ite Within.refl (by
        split
        exacts [Within.refl.upd, (Within.refl.step State.bump_within).step State.put_within])

theorem State.countTally_within {s : State} {t id : Nat} {n : Tick} : Within [.tallies] s (s.countTally t id n) := by
  unfold State.countTally
  split
  · exact Within.refl
  · exact Within.refl.upd

theorem State.endTally_within {s : State} {t id : Nat} : Within [.tallies] s (s.endTally t id) := by
  unfold State.endTally
  exact Within.refl.upd

theorem State.dropTally_within {s : State} {t id : Nat} : Within [.tallies] s (s.dropTally t id) := by
  unfold State.dropTally
  exact Within.refl.upd

theorem pickLeast_within {f : Nat → Nat} {n : Nat} {l : List Nat} {s : State} : Within [.freeCtr] s (pickLeast f n l s).2 := by
  induction n generalizing l s with
  | zero => exact .refl
  | succ n ih =>
    unfold pickLeast
    split
    · exact .refl
    · exact (Within.refl.step State.drawn_within).step ih

theorem State.freeCells_within {s : State} : Within [.freeCtr] s (s.freeCells.2) := by
  unfold State.freeCells
  exact ((Within.refl.step State.drawn_within).step State.drawn_within).step State.drawn_within

theorem State.replaceReserved_within {s : State} {n a : Nat} : Within [.freeCtr, .cabs] s (s.replaceReserved n a) := by
  unfold State.replaceReserved
  dsimp only
  exact Within.ite Within.refl (by
      split
      exacts [Within.refl.step State.setCab_within, (Within.refl.step State.drawn_within).step State.setCab_within])

theorem State.journalPut_within {f n : Nat} {c : RowCells} {s : State} :
    Within [.freeCtr, .out, .regs, .boot, .cells, .faults, .drawers, .cabs, .cur, .host] s (State.journalPut f n c s).1 := by
  induction f generalizing s with
  | zero => exact .refl
  | succ f ih =>
    unfold State.journalPut
    dsimp only
    split
    · exact .refl
    · have hprogram := ((Within.refl (s := s) (w := [.freeCtr, .out, .regs, .boot, .cells, .faults, .drawers, .cabs, .cur,
          .host])).step
        State.drawn_within).step State.freeFails_within
      split
      · exact hprogram.step State.program_within
      · exact ((hprogram.step State.program_within).step State.replaceReserved_within).step ih

theorem State.journalMove_within {s : State} {n a : Nat} :
    Within [.freeCtr, .out, .regs, .boot, .rows, .cells, .faults, .journal, .drawers, .cabs, .cur, .host] s (s.journalMove n
        a) := by
  unfold State.journalMove
  exact ((Within.refl.step State.journalPut_within).step State.setRows_within).upd

theorem State.moveReserve_within {s : State} {n : Nat} {avoid : List Nat} :
    Within [.freeCtr, .out, .regs, .boot, .rows, .cells, .faults, .journal, .drawers, .cabs, .cur, .host] s (s.moveReserve n
        avoid) := by
  unfold State.moveReserve
  exact Within.foldl (fun _ _ h => h.step State.journalMove_within) ((Within.refl.step pickLeast_within).step
      State.setCab_within)

theorem State.journalled_within {s : State} {n : Nat} {note : State → Option Nat → State}
    (hnote : ∀ t o, Within [.freeCtr, .out, .regs, .boot, .rows, .cells, .faults, .journal, .drawers, .cabs, .cur, .host] t
        (note t o)) :
    Within [.freeCtr, .out, .regs, .boot, .rows, .cells, .faults, .journal, .drawers, .cabs, .cur, .host] s (s.journalled n
        note) := by
  unfold State.journalled
  dsimp only
  have hput := ((Within.refl (s := s) (w := [.freeCtr, .out, .regs, .boot, .rows, .cells, .faults, .journal, .drawers, .cabs,
      .cur,
    .host])).step State.freeCells_within).step (State.journalPut_within (f := 16) (n := n) (c := s.freeCells.1))
  exact Within.ite ((hput.step (hnote _ _)).step State.moveReserve_within) (hput.step (hnote _ _))

theorem State.journalAt_within {s : State} {l : Loc} :
    Within [.freeCtr, .out, .regs, .boot, .rows, .cells, .faults, .journal, .drawers, .cabs, .cur, .host] s (s.journalAt l) :=
  State.journalled_within fun _ _ => Within.refl.step State.setRows_within

theorem State.journalRecord_within {s : State} {r : Row} {tomb committed : Bool} :
    Within [.freeCtr, .out, .regs, .boot, .rows, .cells, .faults, .journal, .drawers, .cabs, .cur, .host] s
      (s.journalRecord r tomb committed) :=
  State.journalled_within fun _ _ => Within.refl.upd

theorem State.journalMoves_within {s : State} {n : Nat} {rs : List Row} :
    Within [.freeCtr, .out, .regs, .boot, .rows, .cells, .faults, .journal, .drawers, .cabs, .cur, .host] s (s.journalMoves n
        rs) := by
  unfold State.journalMoves
  split
  · exact Within.refl
  · exact Within.refl.step (State.journalled_within (fun _ _ => Within.refl.upd))

theorem State.tombstone_within {s : State} {r : Row} {committed : Bool} :
    Within [.freeCtr, .out, .regs, .boot, .rows, .cells, .faults, .journal, .drawers, .cabs, .cur, .host] s (s.tombstone r
        committed) := by
  unfold State.tombstone
  exact Within.refl.step State.journalRecord_within

end Sys2Proof.Machine
end

section
/-! PROOFS. The frame of the operations of Sys2Proof.Machine.Records, in the order of that file. -/

namespace Sys2Proof.Machine

set_option Elab.async false

theorem State.discardFlit_within {s : State} {p : Nat} :
    Within [.out, .regs, .ports, .seam, .csc] s (s.discardFlit p) := by
  unfold State.discardFlit
  exact Within.ite Within.refl ((Within.refl.step State.put_within).step State.returnCredits_within)

theorem State.countViolation_within {s : State} {p : Nat} :
    Within [.out, .regs, .boot, .ports, .host] s (s.countViolation p) := by
  unfold State.countViolation
  exact Within.ite Within.refl (((Within.refl.step State.setPort_within).step State.bump_within).step State.raiseEp_within)

theorem State.creditViolation_within {s : State} {p : Nat} {f : Flit} :
    Within [.out, .regs, .boot, .ports, .host, .seam, .csc] s (s.creditViolation p f) := by
  unfold State.creditViolation
  exact ((Within.refl.step State.setPort_within).step State.returnCredits_within).step State.countViolation_within

theorem State.dropFlit_within {s : State} {p : Nat} :
    Within [.out, .regs, .boot, .ports, .host, .seam, .csc] s (s.dropFlit p) := by
  unfold State.dropFlit
  exact Within.ite (Within.refl.step State.countViolation_within) (Within.refl.step State.discardFlit_within)

theorem State.storeFlit_within {s : State} {p : Nat} {f : Flit} : Within [.regs, .ports] s (s.storeFlit p f) := by
  unfold State.storeFlit
  exact (Within.refl.step State.put_within).step State.setPort_within

theorem doDataFlit_within {p : Fin 16} {f : Flit} {s : State} :
    Within [.out, .regs, .boot, .ports, .host, .seam, .csc] s (doDataFlit p f s) := by
  unfold doDataFlit
  exact Within.ite Within.refl (Within.ite ((Within.refl.step State.setPort_within).step State.dropFlit_within) (Within.ite
      (((Within.refl.step State.setPort_within).step State.dropFlit_within).step State.setPort_within) (Within.ite
      ((Within.refl.step State.setPort_within).step State.creditViolation_within) ((Within.refl.step
      State.setPort_within).step State.storeFlit_within))))

theorem State.countGap_within {s : State} {p seq : Nat} : Within [.regs, .ports] s (s.countGap p seq) := by
  unfold State.countGap
  dsimp only
  split
  · exact Within.refl.step State.setPort_within
  · exact (Within.refl.step State.setPort_within).step State.bump_within

theorem State.admitRecord_within {s : State} {p : Nat} {fl : List QFlit} :
    Within [.out, .regs, .boot, .ports, .host] s (s.admitRecord p fl) := by
  unfold State.admitRecord
  exact Within.ite (((Within.refl.step State.setPort_within).step State.bump_within).step State.raiseRate_within)
      (Within.refl.step State.setPort_within)

theorem State.dropRecord_within {s : State} {p n : Nat} :
    Within [.out, .regs, .ports, .seam, .csc] s (s.dropRecord p n) := by
  unfold State.dropRecord
  exact Within.refl.step State.returnCredits_within

theorem State.commitRecord_within {s : State} {p : Nat} {fl : List QFlit} {crcOk : Bool} :
    Within [.out, .regs, .boot, .ports, .host, .seam, .csc] s (s.commitRecord p fl crcOk) := by
  unfold State.commitRecord
  exact Within.ite (Within.refl.step State.rewound_within) (Within.ite ((((Within.refl.step State.bump_within).step
      State.dropRecord_within).step State.bump_within).step State.raiseEp_within) (Within.ite ((Within.refl.step
      State.bump_within).step State.countGap_within) (Within.ite ((((Within.refl.step State.bump_within).step
      State.countGap_within).step State.dropRecord_within).step State.bump_within) (((Within.refl.step State.bump_within).step
      State.countGap_within).step State.admitRecord_within))))

theorem doRecordCommit_within {p : Fin 16} {s : State} :
    Within [.out, .regs, .boot, .ports, .host, .seam, .csc] s (doRecordCommit p s) := by
  unfold doRecordCommit
  dsimp only
  split
  · exact Within.refl
  · exact (Within.refl.step State.setPort_within).step State.commitRecord_within

theorem doCredit_within {l : Link} {f : Flit} {s : State} : Within [.out, .ports, .seam, .csc] s (doCredit l f s) := by
  unfold doCredit
  dsimp only
  split
  · exact Within.refl
  · exact Within.refl
  · exact Within.ite Within.refl (Within.refl.step State.setLink_within)
  · exact Within.ite Within.refl ((Within.refl.step State.setLink_within).step State.seamCredit_within)

theorem doSync_within {l : Link} {f : Flit} {s : State} :
    Within [.out, .regs, .ports, .seam, .csc] s (doSync l f s) := by
  unfold doSync
  dsimp only
  split
  · exact Within.refl
  · exact Within.refl
  · exact Within.ite Within.refl (Within.ite (((Within.ite ((Within.refl.step State.setLink_within).step
        State.sendCredit_within) (Within.refl.step State.setLink_within)).step State.put_within).step State.setPort_within)
        (Within.ite ((Within.refl.step State.setLink_within).step State.sendCredit_within) (Within.refl.step
        State.setLink_within)))
  · exact Within.ite Within.refl (Within.ite ((Within.refl.step State.setLink_within).step State.sendCredit_within)
        (Within.refl.step State.setLink_within))

theorem doAlign_within {l : Link} {lane : Nat} {f : Flit} {s : State} :
    Within [.ports, .seam, .csc] s (doAlign l lane f s) := by
  unfold doAlign
  exact Within.ite Within.refl (Within.refl.step State.setLink_within)

theorem doAlignTransmit_within {l : Link} {lane : Nat} {s : State} :
    Within [.out, .ports, .seam, .csc] s (doAlignTransmit l lane s) := by
  unfold doAlignTransmit
  exact Within.ite Within.refl ((Within.refl.step State.emit_within).step State.setLink_within)

theorem doReservedLinkFlit_within {l : Link} {f : Flit} {s : State} : Within [.regs] s (doReservedLinkFlit l f s) := by
  unfold doReservedLinkFlit
  split
  · exact Within.ite Within.refl (Within.refl.step State.bump_within)
  · exact Within.refl
  · exact Within.refl
  · exact Within.refl

theorem doUncorrectableCodeword_within {l : Link} {lane ordinal : Nat} {s : State} :
    Within [.out, .regs, .boot, .ports, .host, .seam, .csc] s (doUncorrectableCodeword l lane ordinal s) := by
  unfold doUncorrectableCodeword
  dsimp only
  exact Within.ite Within.refl (by
      split
      exacts [((((Within.refl.step State.setLink_within).step State.bump_within).step State.rewindPart_within).step
          State.put_within).step State.sendLink_within, (Within.refl.step State.setLink_within).step State.sendLink_within,
          Within.refl.step State.setLink_within, Within.refl.step State.setLink_within])

end Sys2Proof.Machine
end

section
/-! PROOFS. The frame of the operations of Sys2Proof.Machine.Rpt, in the order of that file. -/

namespace Sys2Proof.Machine

set_option Elab.async false

theorem State.setRpt_within {s : State} {l : List RptEntry} : Within [.rpt] s (s.setRpt l) := by
  unfold State.setRpt
  exact Within.refl.upd

theorem State.rptScrub_within {s : State} {tag : Nat} :
    Within [.out, .regs, .boot, .rpt, .host] s (s.rptScrub tag) := by
  unfold State.rptScrub
  exact Within.ite Within.refl (((Within.refl.step State.setRpt_within).step State.bump_within).step State.raise_within)

theorem State.rptLearn_within {s : State} {tag port : Nat} {n : Tick} :
    Within [.out, .regs, .boot, .rpt, .host] s (s.rptLearn tag port n) := by
  unfold State.rptLearn
  dsimp only
  split
  · exact Within.ite ((Within.refl.step State.rptScrub_within).step State.setRpt_within) (Within.ite ((Within.refl.step
        State.rptScrub_within).step State.bump_within) (((Within.refl.step State.rptScrub_within).step
        State.setRpt_within).step State.bump_within))
  · split
    · exact ((Within.refl.step State.rptScrub_within).step State.setRpt_within).step State.bump_within
    · exact (((Within.refl.step State.rptScrub_within).step State.bump_within).step State.put_within).step State.raiseEp_within

theorem State.rptStaticPut_within {s : State} {tag port : Nat} :
    Within [.freeCtr, .out, .regs, .boot, .rpt, .host] s ((s.rptStaticPut tag port).1) := by
  unfold State.rptStaticPut
  dsimp only
  split
  · exact (Within.refl.step State.rptScrub_within).step State.setRpt_within
  · split
    · exact ((Within.refl.step State.rptScrub_within).step State.setRpt_within).step State.drawn_within
    · split
      · exact (((Within.refl.step State.rptScrub_within).step State.setRpt_within).step State.drawn_within).step
            State.bump_within
      · exact Within.refl.step State.rptScrub_within

theorem State.fixSite_within {s : State} {n : Nat} : Within [.regs, .sites] s (s.fixSite n) := by
  unfold State.fixSite
  exact Within.ite ((Within.refl.step State.setSite_within).step State.bump_within) Within.refl

end Sys2Proof.Machine
end

section
/-! PROOFS. The frame of the operations of Sys2Proof.Machine.Verdicts, in the order of that file. -/

namespace Sys2Proof.Machine

set_option Elab.async false

theorem State.queueCapture_within {s : State} {q : Nat} {c : Capture} :
    Within [.out, .regs, .boot, .host] s ((s.queueCapture q c).1) := by
  unfold State.queueCapture
  exact Within.apply_ite Prod.fst ((Within.ite (Within.refl.step State.setIdle_within) Within.refl).upd) ((Within.refl.step
      State.bump_within).step State.raiseEp_within)

theorem State.bufferCapture_within {s : State} {p : Nat} {c : Capture} :
    Within [.regs, .ports] s ((s.bufferCapture p c).1) := by
  unfold State.bufferCapture
  exact Within.apply_ite Prod.fst (Within.refl.step State.setPort_within) (Within.refl.step State.bump_within)

theorem State.requestCapture_within {s : State} {p : Nat} {c : Capture} :
    Within [.out, .regs, .boot, .ports, .host] s (s.requestCapture p c) := by
  unfold State.requestCapture
  dsimp only
  exact Within.ite (Within.refl.step State.bump_within) (by
      split
      exacts [Within.refl.step State.bufferCapture_within, Within.ite (Within.ite (Within.refl.step State.queueCapture_within)
          ((Within.refl.step State.queueCapture_within).step State.bump_within)) (Within.ite ((Within.refl.step
          State.bufferCapture_within).step State.queueCapture_within) (Within.refl.step State.bufferCapture_within))])

theorem State.formVerdict_within {s : State} {pl : Planned} :
    Within [.out, .regs, .boot, .ports, .host, .seam] s ((s.formVerdict pl).1) := by
  unfold State.formVerdict
  exact Within.ite ((Within.ite (Within.refl.step State.requestCapture_within) Within.refl).upd) (Within.ite (Within.refl.step
      State.requestCapture_within) Within.refl)

theorem State.countVerdict_within {s : State} {pl : Planned} {closed marked unchecked : Bool} :
    Within [.regs] s (s.countVerdict pl closed marked unchecked) := by
  unfold State.countVerdict
  exact Within.ite (Within.ite (Within.refl.step State.bump_within) Within.refl) (Within.ite ((Within.ite ((Within.ite
      ((Within.ite ((Within.ite (Within.refl.step State.bump_within) Within.refl).step State.bump_within) (Within.ite
      (Within.refl.step State.bump_within) Within.refl)).step State.bump_within) (Within.foldl (fun _ _ h => Within.ite h
      (Within.ite (h.step State.bump_within) (Within.ite (h.step State.bump_within) h))) (Within.ite ((Within.ite
      (Within.refl.step State.bump_within) Within.refl).step State.bump_within) (Within.ite (Within.refl.step
      State.bump_within) Within.refl)))).step State.bump_within) (Within.ite ((Within.ite ((Within.ite (Within.refl.step
      State.bump_within) Within.refl).step State.bump_within) (Within.ite (Within.refl.step State.bump_within)
      Within.refl)).step State.bump_within) (Within.foldl (fun _ _ h => Within.ite h (Within.ite (h.step State.bump_within)
      (Within.ite (h.step State.bump_within) h))) (Within.ite ((Within.ite (Within.refl.step State.bump_within)
      Within.refl).step State.bump_within) (Within.ite (Within.refl.step State.bump_within) Within.refl))))).step
      State.bump_within) (Within.ite ((Within.ite ((Within.ite ((Within.ite (Within.refl.step State.bump_within)
      Within.refl).step State.bump_within) (Within.ite (Within.refl.step State.bump_within) Within.refl)).step
      State.bump_within) (Within.foldl (fun _ _ h => Within.ite h (Within.ite (h.step State.bump_within) (Within.ite (h.step
      State.bump_within) h))) (Within.ite ((Within.ite (Within.refl.step State.bump_within) Within.refl).step
      State.bump_within) (Within.ite (Within.refl.step State.bump_within) Within.refl)))).step State.bump_within) (Within.ite
      ((Within.ite ((Within.ite (Within.refl.step State.bump_within) Within.refl).step State.bump_within) (Within.ite
      (Within.refl.step State.bump_within) Within.refl)).step State.bump_within) (Within.foldl (fun _ _ h => Within.ite h
      (Within.ite (h.step State.bump_within) (Within.ite (h.step State.bump_within) h))) (Within.ite ((Within.ite
      (Within.refl.step State.bump_within) Within.refl).step State.bump_within) (Within.ite (Within.refl.step
      State.bump_within) Within.refl))))))

theorem State.sendVerdict_within {s : State} {p : Nat} {pl : Planned} :
    Within [.out, .regs] s (s.sendVerdict p pl) := by
  unfold State.sendVerdict
  exact Within.ite ((Within.refl.step State.emit_within).step State.bump_within) (((Within.refl.step State.emit_within).step
      State.bump_within).step State.countVerdict_within)

theorem doVerdictRelease_within {p : Fin 16} {s : State} : Within [.out, .regs, .planned] s (doVerdictRelease p s) := by
  unfold doVerdictRelease
  dsimp only
  split
  · exact Within.refl
  · split
    · exact Within.refl
    · exact Within.ite Within.refl ((Within.refl.step State.sendVerdict_within).upd)

theorem doCaptureTransmit_within {p : Fin 16} {s : State} : Within [.out, .regs, .ports] s (doCaptureTransmit p s) := by
  unfold doCaptureTransmit
  dsimp only
  split
  · exact Within.refl
  · exact Within.ite Within.refl (((Within.refl.step State.setPort_within).step State.put_within).step State.emit_within)

theorem doControlCopySend_within {p : Fin 16} {s : State} : Within [.out, .regs, .host] s (doControlCopySend p s) := by
  unfold doControlCopySend
  dsimp only
  split
  · exact Within.refl
  · exact Within.ite Within.refl ((((Within.refl.step State.put_within).step State.sendLink_within).upd).step
        State.settleControl_within)

end Sys2Proof.Machine
end

section
/-! PROOFS. The frame of the operations of Sys2Proof.Machine.Wrd, in the order of that file. -/

namespace Sys2Proof.Machine

set_option Elab.async false

theorem State.setWrd_within {s : State} {w : Wardrobe} : Within [.wrd] s (s.setWrd w) := by
  unfold State.setWrd
  exact Within.refl.upd

theorem State.evictWay_within {s : State} {set way : Nat} : Within [.regs, .wrd] s (s.evictWay set way) := by
  unfold State.evictWay
  dsimp only
  split
  · exact Within.refl
  · exact Within.ite ((Within.refl.step State.setWrd_within).step State.bump_within) (Within.refl.step State.setWrd_within)

theorem State.install_within {s : State} {way l : Nat} {v : BitVec 512} {dirty : Bool} :
    Within [.regs, .wrd] s (s.install way l v dirty) := by
  unfold State.install
  exact (Within.refl.step State.evictWay_within).step State.setWrd_within

theorem State.fill_within {s : State} {slot l : Nat} {v : BitVec 512} {dirty : Bool} :
    Within [.out, .regs, .boot, .wrd, .host] s ((s.fill slot l v dirty).1) := by
  unfold State.fill
  dsimp only
  split
  · exact Within.refl.step State.install_within
  · exact Within.apply_ite Prod.fst (((Within.refl.step State.bump_within).step State.put_within).step State.raiseEp_within)
        (Within.refl.step State.bump_within)

theorem State.settleFills_within {s : State} : Within [.out, .regs, .boot, .wrd, .host] s (s.settleFills) := by
  unfold State.settleFills
  exact Within.foldl (fun _ _ h => Within.ite h (h.step State.fill_within)) (Within.refl.step State.setWrd_within)

theorem State.startFill_within {s : State} {slot l : Nat} {v : BitVec 512} {cycles : Nat} :
    Within [.wrd] s (s.startFill slot l v cycles) := by
  unfold State.startFill
  exact Within.refl.step State.setWrd_within

theorem State.discardFills_within {s : State} {reached : Nat → Bool} :
    Within [.regs, .wrd] s (s.discardFills reached) := by
  unfold State.discardFills
  exact (Within.refl.step State.setWrd_within).step State.bump_within

theorem State.noteMarred_within {s : State} {l : Nat} : Within [.regs] s (s.noteMarred l) := by
  unfold State.noteMarred
  exact Within.ite (Within.refl.step State.bump_within) Within.refl

theorem State.storeUncorr_within {s : State} : Within [.out, .regs, .boot, .host] s (s.storeUncorr) := by
  unfold State.storeUncorr
  exact ((Within.refl.step State.bump_within).step State.put_within).step State.raise_within

theorem State.noteFetch_within {s : State} {hit : Bool} : Within [.regs, .wrd] s (s.noteFetch hit) := by
  unfold State.noteFetch
  exact Within.ite (((Within.refl.step State.setWrd_within).step State.bump_within).step State.bump_within) ((Within.refl.step
      State.setWrd_within).step State.bump_within)

theorem State.fetchLine_within {u : State} {slot l : Nat} {n : Tick} {cycles : Nat} :
    Within [.out, .regs, .boot, .wrd, .host] u ((u.fetchLine slot l n cycles).1) := by
  unfold State.fetchLine
  dsimp only
  split
  · exact Within.apply_ite Prod.fst (((Within.refl.step State.settleFills_within).step State.noteFetch_within).step
        State.storeUncorr_within) ((Within.refl.step State.settleFills_within).step State.noteFetch_within)
  · split
    · exact ((Within.refl.step State.settleFills_within).step State.setWrd_within).step State.noteFetch_within
    · split
      · exact (((Within.refl.step State.settleFills_within).step State.noteFetch_within).step State.bump_within).step
            State.startFill_within
      · exact Within.apply_ite Prod.fst (((Within.refl.step State.settleFills_within).step State.noteFetch_within).step
            State.storeUncorr_within) ((((Within.refl.step State.settleFills_within).step State.noteFetch_within).step
            State.noteMarred_within).step State.startFill_within)

theorem State.pinConflict_within {s : State} {i : Nat} {p : Pin} {sets : List Nat} :
    Within [.out, .regs, .boot, .wrd, .host] s (s.pinConflict i p sets) := by
  unfold State.pinConflict
  exact ((((Within.refl.step State.setPin_within).step State.put_within).step State.put_within).step State.put_within).step
      State.raise_within

theorem State.pinLoad_within {s : State} {i : Nat} : Within [.out, .regs, .boot, .wrd, .host] s (s.pinLoad i) := by
  unfold State.pinLoad
  exact Within.ite (((Within.refl.step State.setPin_within).step State.put_within).step State.put_within) (Within.ite
      (Within.refl.step State.setPin_within) (Within.refl.step State.pinConflict_within))

theorem State.pinLine_within {s : State} {l : Nat} : Within [.regs, .wrd] s (s.pinLine l) := by
  unfold State.pinLine
  dsimp only
  exact Within.ite Within.refl (by
      split
      exacts [Within.refl, (by
          split
          exacts [(Within.refl.step State.setWrd_within).step State.install_within, (Within.refl.step
              State.noteMarred_within).step State.install_within])])

theorem State.pinInstall_within {s : State} {p : Pin} {upto : Nat} : Within [.regs, .wrd] s (s.pinInstall p upto) := by
  unfold State.pinInstall
  exact Within.foldl (fun _ _ h => h.step State.pinLine_within) Within.refl

theorem State.pinProgress_within {s : State} : Within [.freeCtr, .regs, .wrd] s (s.pinProgress) := by
  unfold State.pinProgress
  exact Within.ite (Within.foldl (fun _ _ h => ((h.step State.drawn_within).step State.pinInstall_within).step
      State.setPin_within) Within.refl) Within.refl

theorem State.showOutside_within {s : State} : Within [.regs] s (s.showOutside) := by
  unfold State.showOutside
  exact Within.foldl (fun _ _ h => h.step State.put_within) Within.refl

theorem State.showHeld_within {s : State} : Within [.regs, .wrd] s (s.showHeld) := by
  unfold State.showHeld
  exact (Within.refl.step State.setWrd_within).step State.showOutside_within

theorem State.retain_within {s : State} {l : Nat} {k : Tick} : Within [.wrd] s (s.retain l k) := by
  unfold State.retain
  exact Within.refl.step State.setWrd_within

theorem State.writeLine_within {s : State} {l : Nat} {v : BitVec 512} {durable : Bool} :
    Within [.out, .regs, .boot, .wrd, .host] s (s.writeLine l v durable) := by
  unfold State.writeLine
  dsimp only
  exact Within.ite (Within.step (by
      split
      exacts [Within.refl.step State.setWrd_within, Within.ite (Within.refl.step State.fill_within) ((Within.refl.step
          State.fill_within).step State.setWrd_within)]) State.setWrd_within) (by
      split
      exacts [Within.refl.step State.setWrd_within, Within.ite (Within.refl.step State.fill_within) ((Within.refl.step
          State.fill_within).step State.setWrd_within)])

theorem State.waitStore_within {s : State} {own : Option (Nat × Nat × Nat)} {lines : List Nat} :
    Within [.wrd, .host] s (s.waitStore own lines) := by
  unfold State.waitStore
  dsimp only
  split
  · exact Within.refl
  · exact Within.ite (Within.refl.step State.owedReady_within) (Within.refl.step State.setWrd_within)

theorem State.storeDone_within {s : State} {gone : List Nat} : Within [.wrd, .host] s (s.storeDone gone) := by
  unfold State.storeDone
  exact Within.foldl (fun _ _ h => h.step State.owedReady_within) (Within.refl.step State.setWrd_within)

theorem State.dropPins_within {s : State} {lines : List Nat} :
    Within [.out, .regs, .boot, .wrd, .host] s (s.dropPins lines) := by
  unfold State.dropPins
  exact Within.foldl (fun _ _ h => Within.ite ((h.step State.setPin_within).step State.raise_within) (h.step
      State.setPin_within)) Within.refl

theorem State.invalidate_within {s : State} {ls : List Nat} :
    Within [.out, .regs, .boot, .wrd, .host] s (s.invalidate ls) := by
  unfold State.invalidate
  exact (Within.refl.step State.setWrd_within).step State.dropPins_within

theorem State.opInval_within {s : State} {ls : List Nat} :
    Within [.out, .regs, .boot, .wrd, .host] s (s.opInval ls) := by
  unfold State.opInval
  exact (((Within.refl.step State.invalidate_within).step State.bump_within).step State.setWrd_within).step
      State.storeDone_within

theorem State.opClean_within {s : State} {ls : List Nat} : Within [.wrd] s (s.opClean ls) := by
  unfold State.opClean
  exact Within.refl.step State.setWrd_within

theorem State.opFlush_within {s : State} {ls : List Nat} :
    Within [.out, .regs, .boot, .wrd, .host] s (s.opFlush ls) := by
  unfold State.opFlush
  exact ((Within.refl.step State.opClean_within).step State.invalidate_within).step State.setWrd_within

theorem State.dropCurrent_within {s : State} {first count : Nat} : Within [.wrd] s (s.dropCurrent first count) := by
  unfold State.dropCurrent
  exact Within.refl.step State.setWrd_within

theorem State.applyOp_within {s : State} {k : Tick} {kind first count : Nat} {lines : List Nat} :
    Within [.out, .regs, .boot, .wrd, .host] s (s.applyOp k kind first count lines).1 := by
  unfold State.applyOp
  extract_lets ls now t owed next u
  have ht : Within [.out, .regs, .boot, .wrd, .host] s t :=
    Within.ite .refl (Within.foldl (fun _ _ h => h.step State.retain_within) .refl)
  have hu : Within [.out, .regs, .boot, .wrd, .host] s u :=
    (Within.ite (ht.step State.opInval_within) (Within.ite (ht.step State.opClean_within) (ht.step State.opFlush_within))).step
      State.discardFills_within
  exact Within.apply_ite Prod.fst (Within.ite hu (hu.step State.dropCurrent_within)) hu

theorem State.applyChange_within {s : State} {k : Tick} {c : WrdChange} {own : Option (Nat × Nat × Nat)} :
    Within [.out, .regs, .boot, .wrd, .host] s ((s.applyChange k c own).1) := by
  unfold State.applyChange
  dsimp only
  split
  · exact Within.apply_ite Prod.fst ((((Within.refl.step State.retain_within).step State.writeLine_within).step
        State.discardFills_within).step State.waitStore_within) Within.refl
  · split
    · exact Within.refl.step State.applyOp_within
    · exact (Within.refl.step State.applyOp_within).step State.waitStore_within
  · exact Within.apply_ite Prod.fst Within.refl (Within.apply_ite Prod.fst ((Within.refl.step State.retain_within).step
        State.invalidate_within) Within.refl)

theorem State.applyChanges_within {s : State} {k : Tick} :
    Within [.out, .regs, .boot, .wrd, .host] s (s.applyChanges k) := by
  unfold State.applyChanges
  dsimp only
  exact Within.foldl (fun _ _ h => Within.ite (h.step State.setWrd_within) (by
      split
      exacts [h.step State.applyChange_within, (h.step State.applyChange_within).step State.setWrd_within])) (Within.refl.step
      State.setWrd_within)

theorem State.applyLock_within {s : State} : Within [.out, .regs, .boot, .wrd, .host] s (s.applyLock) := by
  unfold State.applyLock
  exact Within.ite Within.refl (Within.foldl_apply Prod.fst (fun _ _ h => Within.apply_ite Prod.fst h (h.step
      State.pinConflict_within)) (Within.refl.step State.setWrd_within))

theorem State.applyPins_within {s : State} : Within [.wrd] s (s.applyPins) := by
  unfold State.applyPins
  exact Within.foldl (fun _ _ h => Within.ite (h.step State.setPin_within) (Within.ite (h.step State.setPin_within) h))
      Within.refl

theorem State.wardrobeBoundary_within {s : State} {k : Tick} :
    Within [.freeCtr, .out, .regs, .boot, .wrd, .host] s (s.wardrobeBoundary k) := by
  unfold State.wardrobeBoundary
  exact ((((((Within.refl.step State.settleFills_within).step State.applyChanges_within).step State.applyPins_within).step
      State.applyLock_within).step State.setWrd_within).step State.pinProgress_within).step State.showHeld_within

theorem State.hitWindow_within {s : State} : Within [.out, .regs, .boot, .wrd, .host] s (s.hitWindow) := by
  unfold State.hitWindow
  exact Within.ite ((((((Within.refl.step State.setWrd_within).step State.put_within).step State.put_within).step
      State.put_within).step State.put_within).step State.raiseEp_within) ((((Within.refl.step State.setWrd_within).step
      State.put_within).step State.put_within).step State.put_within)

theorem State.queueChange_within {s : State} {c : WrdChange} {own : Option (Nat × Nat × Nat)} :
    Within [.wrd] s (s.queueChange c own) := by
  unfold State.queueChange
  exact Within.refl.step State.setWrd_within

theorem coreAdataWrite_within {s : State} {own : Option (Nat × Nat × Nat)} {f : Nat} {c : CmdSlot} {d : Dma} :
    Within [.out, .regs, .boot, .wrd, .host] s ((coreAdataWrite s own f c d).s) := by
  unfold coreAdataWrite
  exact Within.apply_ite Ran.s (Within.refl.step State.deny_within) (Within.apply_ite Ran.s (Within.refl.step
      State.deny_within) (Within.apply_ite Ran.s (Within.refl.step State.deny_within) (by
      split
      exacts [Within.refl.step State.dmaDeny_within, Within.refl.step State.queueChange_within])))

theorem coreAdataRead_within {s : State} {_own : Option (Nat × Nat × Nat)} {f : Nat} {c : CmdSlot} {d : Dma} :
    Within [.freeCtr, .out, .regs, .boot, .wrd, .host] s ((coreAdataRead s _own f c d).s) := by
  unfold coreAdataRead
  dsimp only
  exact Within.apply_ite Ran.s (Within.refl.step State.deny_within) (Within.apply_ite Ran.s (Within.refl.step
      State.deny_within) (Within.apply_ite Ran.s (Within.refl.step State.deny_within) (Within.step (by
      split
      exacts [(Within.refl.step State.settleFills_within).step State.setWrd_within, ((Within.ite ((Within.refl.step
          State.settleFills_within).step State.noteMarred_within) (Within.refl.step State.settleFills_within)).step
          State.drawn_within).step State.startFill_within]) State.hostPut_within)))

theorem coreWrdOp_within {kind : Nat} {s : State} {own : Option (Nat × Nat × Nat)} {_f : Nat} {c : CmdSlot} {_d : Dma} :
    Within [.wrd] s ((coreWrdOp kind s own _f c _d).s) := by
  unfold coreWrdOp
  exact Within.apply_ite Ran.s (Within.refl.step State.deny_within) (Within.apply_ite Ran.s (Within.refl.step
      State.deny_within) (Within.refl.step State.queueChange_within))

theorem State.runWrdOp_within {s : State} {kind : Nat} : Within [.out, .wrd, .host, .seam] s (s.runWrdOp kind) := by
  unfold State.runWrdOp
  split
  · exact .refl
  · exact Within.ite (Within.refl.step State.finish_within)
      (Within.ite (State.issue_within fun _ _ _ _ => Within.refl.step coreWrdOp_within) .refl)

theorem doWrdPinEn_within {i : Fin 16} {en : Bool} {s : State} :
    Within [.out, .regs, .boot, .wrd, .host] s (doWrdPinEn i en s) := by
  unfold doWrdPinEn
  exact Within.ite (Within.ite (((Within.refl.step State.putB_within).step State.pinLoad_within).step
      State.showOutside_within) (Within.refl.step State.putB_within)) (Within.ite (Within.refl.step State.putB_within)
      ((Within.refl.step State.putB_within).step State.setPin_within))

theorem doPinLoadDone_within {i : Fin 16} {s : State} :
    Within [.out, .regs, .boot, .wrd, .host] s (doPinLoadDone i s) := by
  unfold doPinLoadDone
  exact Within.ite (((Within.refl.step State.settleFills_within).step State.pinInstall_within).step State.setPin_within)
      Within.refl

theorem doWrdLockWrite_within {v : BitVec 16} {s : State} : Within [.regs] s (doWrdLockWrite v s) := by
  unfold doWrdLockWrite
  exact Within.refl.step State.put_within

theorem State.lineStored_within {s : State} {l : Nat} {v : BitVec 512} : Within [.wrd, .host] s (s.lineStored l v) := by
  unfold State.lineStored
  exact (Within.refl.step State.setWrd_within).step State.storeDone_within

theorem doStagingWriteback_within {w : WriteRes} {s : State} :
    Within [.out, .regs, .boot, .cur, .wrd, .host] s (doStagingWriteback w s) := by
  unfold doStagingWriteback
  dsimp only
  split
  · exact Within.refl
  · exact Within.ite Within.refl (Within.ite (Within.refl.step State.spend_within) ((((Within.refl.step
        State.spend_within).step State.setWrd_within).step State.lineStored_within).step State.setWrd_within))

end Sys2Proof.Machine
end

section
/-! PROOFS. The frame of the operations of Sys2Proof.Machine.Plan, in the order of that file. -/

namespace Sys2Proof.Machine

set_option Elab.async false

theorem State.notePlanned_within {s : State} {a : Prep} :
    Within [.out, .regs, .boot, .ports, .host, .seam, .csc] s (s.notePlanned a) := by
  unfold State.notePlanned
  dsimp only
  split
  · exact ((Within.ite ((Within.foldl (fun _ _ h => h.step State.bump_within) (Within.ite (((Within.refl.step
        State.returnCredits_within).step State.bump_within).step State.raiseEp_within) (Within.refl.step
        State.returnCredits_within))).step State.bump_within) (Within.foldl (fun _ _ h => h.step State.bump_within)
        (Within.ite (((Within.refl.step State.returnCredits_within).step State.bump_within).step State.raiseEp_within)
        (Within.refl.step State.returnCredits_within)))).step State.bump_within).step State.raiseEp_within
  · exact ((((Within.ite ((Within.foldl (fun _ _ h => h.step State.bump_within) (Within.ite (((Within.refl.step
        State.returnCredits_within).step State.bump_within).step State.raiseEp_within) (Within.refl.step
        State.returnCredits_within))).step State.bump_within) (Within.foldl (fun _ _ h => h.step State.bump_within)
        (Within.ite (((Within.refl.step State.returnCredits_within).step State.bump_within).step State.raiseEp_within)
        (Within.refl.step State.returnCredits_within)))).step State.bump_within).step State.raiseEp_within).step
        State.bump_within).step State.raise_within
  · exact Within.ite ((Within.ite ((Within.foldl (fun _ _ h => h.step State.bump_within) (Within.ite (((Within.refl.step
        State.returnCredits_within).step State.bump_within).step State.raiseEp_within) (Within.refl.step
        State.returnCredits_within))).step State.bump_within) (Within.foldl (fun _ _ h => h.step State.bump_within)
        (Within.ite (((Within.refl.step State.returnCredits_within).step State.bump_within).step State.raiseEp_within)
        (Within.refl.step State.returnCredits_within)))).step State.bump_within) (((Within.ite ((Within.foldl (fun _ _ h =>
        h.step State.bump_within) (Within.ite (((Within.refl.step State.returnCredits_within).step State.bump_within).step
        State.raiseEp_within) (Within.refl.step State.returnCredits_within))).step State.bump_within) (Within.foldl (fun _ _ h
        => h.step State.bump_within) (Within.ite (((Within.refl.step State.returnCredits_within).step State.bump_within).step
        State.raiseEp_within) (Within.refl.step State.returnCredits_within)))).step State.bump_within).step
        State.chanCause_within)
  · exact Within.ite (((Within.ite ((Within.foldl (fun _ _ h => h.step State.bump_within) (Within.ite (((Within.refl.step
        State.returnCredits_within).step State.bump_within).step State.raiseEp_within) (Within.refl.step
        State.returnCredits_within))).step State.bump_within) (Within.foldl (fun _ _ h => h.step State.bump_within)
        (Within.ite (((Within.refl.step State.returnCredits_within).step State.bump_within).step State.raiseEp_within)
        (Within.refl.step State.returnCredits_within)))).step State.bump_within).step State.bump_within) ((Within.ite
        ((Within.foldl (fun _ _ h => h.step State.bump_within) (Within.ite (((Within.refl.step
        State.returnCredits_within).step State.bump_within).step State.raiseEp_within) (Within.refl.step
        State.returnCredits_within))).step State.bump_within) (Within.foldl (fun _ _ h => h.step State.bump_within)
        (Within.ite (((Within.refl.step State.returnCredits_within).step State.bump_within).step State.raiseEp_within)
        (Within.refl.step State.returnCredits_within)))).step State.bump_within)
  · exact Within.ite ((Within.ite (((Within.ite (((Within.ite ((Within.foldl (fun _ _ h => h.step State.bump_within)
        (Within.ite (((Within.refl.step State.returnCredits_within).step State.bump_within).step State.raiseEp_within)
        (Within.refl.step State.returnCredits_within))).step State.bump_within) (Within.foldl (fun _ _ h => h.step
        State.bump_within) (Within.ite (((Within.refl.step State.returnCredits_within).step State.bump_within).step
        State.raiseEp_within) (Within.refl.step State.returnCredits_within)))).step State.bump_within).step State.bump_within)
        ((Within.ite ((Within.foldl (fun _ _ h => h.step State.bump_within) (Within.ite (((Within.refl.step
        State.returnCredits_within).step State.bump_within).step State.raiseEp_within) (Within.refl.step
        State.returnCredits_within))).step State.bump_within) (Within.foldl (fun _ _ h => h.step State.bump_within)
        (Within.ite (((Within.refl.step State.returnCredits_within).step State.bump_within).step State.raiseEp_within)
        (Within.refl.step State.returnCredits_within)))).step State.bump_within)).step State.bump_within).step
        State.chanCause_within) (Within.ite (((Within.ite ((Within.foldl (fun _ _ h => h.step State.bump_within) (Within.ite
        (((Within.refl.step State.returnCredits_within).step State.bump_within).step State.raiseEp_within) (Within.refl.step
        State.returnCredits_within))).step State.bump_within) (Within.foldl (fun _ _ h => h.step State.bump_within)
        (Within.ite (((Within.refl.step State.returnCredits_within).step State.bump_within).step State.raiseEp_within)
        (Within.refl.step State.returnCredits_within)))).step State.bump_within).step State.bump_within) ((Within.ite
        ((Within.foldl (fun _ _ h => h.step State.bump_within) (Within.ite (((Within.refl.step
        State.returnCredits_within).step State.bump_within).step State.raiseEp_within) (Within.refl.step
        State.returnCredits_within))).step State.bump_within) (Within.foldl (fun _ _ h => h.step State.bump_within)
        (Within.ite (((Within.refl.step State.returnCredits_within).step State.bump_within).step State.raiseEp_within)
        (Within.refl.step State.returnCredits_within)))).step State.bump_within))).step State.chanCause_within) (Within.ite
        (((Within.ite (((Within.ite ((Within.foldl (fun _ _ h => h.step State.bump_within) (Within.ite (((Within.refl.step
        State.returnCredits_within).step State.bump_within).step State.raiseEp_within) (Within.refl.step
        State.returnCredits_within))).step State.bump_within) (Within.foldl (fun _ _ h => h.step State.bump_within)
        (Within.ite (((Within.refl.step State.returnCredits_within).step State.bump_within).step State.raiseEp_within)
        (Within.refl.step State.returnCredits_within)))).step State.bump_within).step State.bump_within) ((Within.ite
        ((Within.foldl (fun _ _ h => h.step State.bump_within) (Within.ite (((Within.refl.step
        State.returnCredits_within).step State.bump_within).step State.raiseEp_within) (Within.refl.step
        State.returnCredits_within))).step State.bump_within) (Within.foldl (fun _ _ h => h.step State.bump_within)
        (Within.ite (((Within.refl.step State.returnCredits_within).step State.bump_within).step State.raiseEp_within)
        (Within.refl.step State.returnCredits_within)))).step State.bump_within)).step State.bump_within).step
        State.chanCause_within) (Within.ite (((Within.ite ((Within.foldl (fun _ _ h => h.step State.bump_within) (Within.ite
        (((Within.refl.step State.returnCredits_within).step State.bump_within).step State.raiseEp_within) (Within.refl.step
        State.returnCredits_within))).step State.bump_within) (Within.foldl (fun _ _ h => h.step State.bump_within)
        (Within.ite (((Within.refl.step State.returnCredits_within).step State.bump_within).step State.raiseEp_within)
        (Within.refl.step State.returnCredits_within)))).step State.bump_within).step State.bump_within) ((Within.ite
        ((Within.foldl (fun _ _ h => h.step State.bump_within) (Within.ite (((Within.refl.step
        State.returnCredits_within).step State.bump_within).step State.raiseEp_within) (Within.refl.step
        State.returnCredits_within))).step State.bump_within) (Within.foldl (fun _ _ h => h.step State.bump_within)
        (Within.ite (((Within.refl.step State.returnCredits_within).step State.bump_within).step State.raiseEp_within)
        (Within.refl.step State.returnCredits_within)))).step State.bump_within)))

theorem State.noteTag_within {s : State} {w : PlanW} {a : Prep} :
    Within [.out, .regs, .boot, .rptPend, .host] s ((s.noteTag w a).1) := by
  unfold State.noteTag
  dsimp only
  exact Within.apply_ite Prod.fst Within.refl (by
      split
      exacts [Within.refl.upd, Within.apply_ite Prod.fst Within.refl ((Within.refl.step State.bump_within).step
          State.raiseEp_within)])

theorem State.noteUndigested_within {s : State} {a : Prep} : Within [.regs] s (s.noteUndigested a) := by
  unfold State.noteUndigested
  exact Within.ite (Within.refl.step State.bump_within) Within.refl

theorem State.offer_within {s : State} {w : PlanW} {p : Nat} {n : Tick} {r : QRec} :
    Within [.freeCtr, .out, .regs, .boot, .ports, .sites, .rpt, .rptPend, .host, .seam, .csc] s ((s.offer w p n r).1) := by
  unfold State.offer
  dsimp only
  exact Within.apply_ite Prod.fst ((Within.refl.step State.fixSite_within).step State.rptScrub_within) (Within.apply_ite
      Prod.fst (((Within.refl.step State.fixSite_within).step State.rptScrub_within).step State.bump_within) (by
      split
      exacts [(Within.refl.step State.fixSite_within).step State.rptScrub_within, Within.apply_ite Prod.fst (Within.foldl (fun
          _ _ h => h.step State.bump_within) ((Within.refl.step State.fixSite_within).step State.rptScrub_within))
          ((((((Within.refl.step State.fixSite_within).step State.rptScrub_within).upd).step State.noteTag_within).step
          State.notePlanned_within).step State.noteUndigested_within)]))

theorem State.admitOf_within {s : State} {n : Tick} {r : QRec} :
    Within [.out, .regs, .boot, .host] s ((s.admitOf n r).1) := by
  unfold State.admitOf
  exact Within.apply_ite Prod.fst Within.refl (Within.ite ((Within.refl.step State.bump_within).step State.raiseRate_within)
      Within.refl)

theorem State.admitQueue_within {n : Tick} {l : List QRec} {s : State} :
    Within [.out, .regs, .boot, .host] s (State.admitQueue n l s).1 := by
  induction l generalizing s with
  | nil => exact .refl
  | cons r t ih => exact (Within.refl.step State.admitOf_within).step ih

theorem State.admitPort_within {n : Tick} {s : State} {p : Nat} :
    Within [.out, .regs, .boot, .ports, .host] s (State.admitPort n s p) := by
  unfold State.admitPort
  exact (Within.refl.step State.admitQueue_within).step State.setPort_within

theorem State.planQueue_within {p : Nat} {n : Tick} {l : List QRec} {s : State} {w : PlanW} :
    Within [.freeCtr, .out, .regs, .boot, .ports, .sites, .rpt, .rptPend, .host, .seam, .csc] s (State.planQueue p n l s w).1
        := by
  induction l generalizing s w with
  | nil => exact .refl
  | cons r t ih =>
    unfold State.planQueue
    split
    · exact .refl
    · dsimp only
      split
      · exact (Within.refl.step State.offer_within).step ih
      · exact Within.refl.step State.offer_within

theorem State.planPort_within {n : Tick} {sw : State × PlanW} {p : Nat} :
    Within [.freeCtr, .out, .regs, .boot, .ports, .sites, .rpt, .rptPend, .host, .seam, .csc] sw.1 ((State.planPort n sw p).1)
        := by
  unfold State.planPort
  exact (Within.refl.step State.planQueue_within).step State.setPort_within

theorem State.formReady_within {s : State} {l : List Planned} :
    Within [.out, .regs, .boot, .ports, .host, .seam] s (s.formReady l).1 := by
  induction l generalizing s with
  | nil => exact .refl
  | cons pl t ih =>
    unfold State.formReady
    split
    · exact ih
    · exact (Within.refl.step State.formVerdict_within).step ih

theorem State.showPlan_within {s : State} {w : PlanW} : Within [.out, .regs, .boot, .host] s (s.showPlan w) := by
  unfold State.showPlan
  exact Within.foldl (fun _ _ h => h.step State.put_within) (Within.foldl (fun _ _ h => ((h.step State.bump_within).step
      State.put_within).step State.raiseEp_within) (Within.foldl (fun _ _ h => ((h.step State.put_within).step
      State.put_within).step State.put_within) Within.refl))

theorem State.makePlan_within {s : State} {n : Tick} :
    Within [.freeCtr, .out, .regs, .boot, .dorm, .ports, .planned, .sites, .rpt, .rptPend, .host, .seam, .csc] s (s.makePlan
        n) := by
  unfold State.makePlan
  dsimp only
  have hplan : Within [.freeCtr, .out, .regs, .boot, .dorm, .ports, .planned, .sites, .rpt, .rptPend, .host, .seam, .csc] s
      ((List.range 16).foldl (State.planPort n) ((List.range 16).foldl (State.admitPort n) s,
        ((List.range 16).foldl (State.admitPort n) s).budgets)).1 :=
    Within.foldl_apply Prod.fst (fun _ _ h => h.step State.planPort_within)
      (Within.foldl (fun _ _ h => h.step State.admitPort_within) .refl)
  generalize List.foldl (State.planPort n) _ _ = r at hplan ⊢
  have hformed := (hplan.step (State.showPlan_within (w := r.2))).step (State.formReady_within (l := r.2.slots s.period))
  generalize State.formReady _ _ = f at hformed ⊢
  exact Within.ite hformed.upd (hformed.upd.upd)

theorem doAdmissionClose_within {s : State} :
    Within [.freeCtr, .out, .regs, .boot, .dorm, .tick, .ports, .planned, .sites, .rpt, .rptPend, .host, .seam, .csc] s
        (doAdmissionClose s) := by
  unfold doAdmissionClose
  exact Within.ite Within.refl ((Within.ite (Within.refl.step State.makePlan_within) Within.refl).upd)

end Sys2Proof.Machine
end

section
/-! PROOFS. The frame of the operations of Sys2Proof.Machine.Search, in the order of that file. -/

namespace Sys2Proof.Machine

set_option Elab.async false

theorem State.queueScrub_within {s : State} {ks : List Nat} : Within [.cur] s (s.queueScrub ks) := by
  unfold State.queueScrub
  exact Within.refl.upd

theorem State.queueRefresh_within {s : State} {k : Nat} : Within [.cur] s (s.queueRefresh k) := by
  unfold State.queueRefresh
  exact Within.ite Within.refl Within.refl.upd

theorem State.countReject_within {s : State} {g x : Nat} :
    Within [.out, .regs, .boot, .drawers, .host] s (s.countReject g x) := by
  unfold State.countReject
  exact Within.ite ((Within.refl.step State.setDrawer_within).step State.makeSuspect_within) (Within.refl.step
      State.setDrawer_within)

theorem State.noteCandidate_within {s : State} {g w : Nat} {r : Row} {o : Confirm} :
    Within [.out, .regs, .boot, .drawers, .cur, .host] s (s.noteCandidate g w r o) := by
  unfold State.noteCandidate
  dsimp only
  split
  · exact Within.ite ((Within.ite (Within.foldl (fun _ _ h => h.step State.queueRefresh_within) Within.refl) Within.refl).step
        State.bump_within) (((Within.ite (Within.foldl (fun _ _ h => h.step State.queueRefresh_within) Within.refl)
        Within.refl).step State.bump_within).step State.bump_within)
  · split
    · exact (((Within.ite ((((Within.ite (Within.foldl (fun _ _ h => h.step State.queueRefresh_within) Within.refl)
          Within.refl).step State.bump_within).step State.put_within).step State.bump_within) (((Within.ite (Within.foldl (fun
          _ _ h => h.step State.queueRefresh_within) Within.refl) Within.refl).step State.bump_within).step
          State.put_within)).step State.queueScrub_within).step State.raiseEp_within).step State.countReject_within
    · exact ((Within.ite ((((Within.ite (Within.foldl (fun _ _ h => h.step State.queueRefresh_within) Within.refl)
          Within.refl).step State.bump_within).step State.put_within).step State.bump_within) (((Within.ite (Within.foldl (fun
          _ _ h => h.step State.queueRefresh_within) Within.refl) Within.refl).step State.bump_within).step
          State.put_within)).step State.queueScrub_within).step State.raiseEp_within

theorem Scan.area_within {a : Scan} {t rmode w : Nat} {key : BitVec 640} {g : Nat} {rows : List Row} {whole : List Nat} :
    Within [.out, .regs, .boot, .drawers, .cur, .host] a.s ((a.area t rmode w key g rows whole).s) := by
  unfold Scan.area
  exact Within.ite ((Within.foldl (fun _ _ h => h.step State.noteCandidate_within) Within.refl).step State.queueScrub_within)
      (Within.foldl (fun _ _ h => h.step State.noteCandidate_within) Within.refl)

theorem Scan.gallery_within {a : Scan} {t : Nat} {d : Table} {key : BitVec 640} {n : Tick} {g : Nat} {units : List Nat} :
    Within [.out, .regs, .boot, .drawers, .cur, .host] a.s ((a.gallery t d key n g units).s) := by
  unfold Scan.gallery
  exact Within.apply_ite Scan.s (Within.foldl_apply Scan.s (fun _ _ h => h.step Scan.area_within) Within.refl)
      (Within.foldl_apply Scan.s (fun _ _ h => h.step Scan.area_within) (Within.foldl_apply Scan.s (fun _ _ h => h.step
      Scan.area_within) Within.refl))

theorem State.scan_within {s : State} {t : Nat} {d : Table} {key : BitVec 640} {n : Tick} {sel : List (Nat × List Nat)} {skip
    : List Nat} :
    Within [.out, .regs, .boot, .drawers, .cur, .host] s (s.scan t d key n sel skip).s := by
  unfold State.scan
  dsimp only
  have hscan : Within [.out, .regs, .boot, .drawers, .cur, .host] s
      (sel.foldl (fun (x : Scan) e => x.gallery t d key n e.1 e.2) { s := s }).s :=
    Within.foldl_apply Scan.s (fun _ _ h => h.step Scan.gallery_within) .refl
  generalize List.foldl _ _ sel = a at hscan ⊢
  have hmarked : Within [.out, .regs, .boot, .drawers, .cur, .host] s ((a.uncGals ++ skip).eraseDups.foldl
      (fun x g => (x.bump Reg.GAL_CNT_UNCERTAIN_COUNT 1 g).put Reg.GAL_STATUS_UNCERTAIN 1 g) a.s) :=
    Within.foldl (fun _ _ h => (h.step State.bump_within).step State.put_within) hscan
  exact Within.foldl (fun _ _ h => h.step State.bump_within) (Within.ite hmarked (hmarked.step State.raiseEp_within))

theorem State.dataOf_within {s : State} {slot : Nat} {n : Tick} {rfmt dsel cycles : Nat} {c : Cand} :
    Within [.out, .regs, .boot, .wrd, .host] s ((s.dataOf slot n rfmt dsel cycles c).1) := by
  unfold State.dataOf
  exact Within.apply_ite Prod.fst Within.refl (Within.apply_ite Prod.fst (Within.refl.step State.fetchLine_within) Within.refl)

theorem State.resultOf_within {s : State} {slot : Nat} {n : Tick} {rmode rfmt dsel cycles : Nat} {v : Verdict} :
    Within [.out, .regs, .boot, .wrd, .host] s ((s.resultOf slot n rmode rfmt dsel cycles v).1) := by
  unfold State.resultOf
  dsimp only
  exact Within.apply_ite Prod.fst Within.refl (by split; exacts [Within.refl, Within.refl.step State.dataOf_within])

theorem State.learnFull_within {s : State} {t : Nat} : Within [.out, .regs, .boot, .host] s (s.learnFull t) := by
  unfold State.learnFull
  exact ((Within.refl.step State.bump_within).step State.put_within).step State.raiseEp_within

theorem State.noteLearned_within {s : State} {t : Nat} {k : BitVec 640} {n : Tick} {id : Option Nat} :
    Within [.learnLog] s (s.noteLearned t k n id) := by
  unfold State.noteLearned
  exact Within.refl.upd

theorem State.accede_within {s : State} {t : Nat} {d : Table} {k : BitVec 640} {n : Tick} :
    Within [.freeCtr, .out, .regs, .boot, .tables, .rows, .tallies, .learnLog, .host] s ((s.accede t d k n).1) := by
  unfold State.accede
  dsimp only
  split
  · exact (Within.refl.step State.learnFull_within).step State.noteLearned_within
  · split
    · exact (((Within.ite ((((Within.refl.step State.drawn_within).upd).step State.setTable_within).step State.bump_within)
          (((Within.refl.step State.drawn_within).upd).step State.setTable_within)).step State.giveTally_within).step
          State.bump_within).step State.noteLearned_within
    · exact (Within.refl.step State.learnFull_within).step State.noteLearned_within

theorem State.learn_within {s : State} {t : Nat} {d : Table} {key : BitVec 640} {n : Tick} :
    Within [.freeCtr, .out, .regs, .boot, .tables, .rows, .tallies, .learnLog, .host] s ((s.learn t d key n).1) := by
  unfold State.learn
  dsimp only
  split
  · exact Within.refl
  · exact Within.refl.step State.learnFull_within
  · split
    · exact Within.of_fst_eq (Within.refl.step State.accede_within) ‹_›
    · exact Within.of_fst_eq (Within.refl.step State.accede_within) ‹_›

theorem State.tallyResult_within {s : State} {t : Nat} {n : Tick} {cands : List Cand} {r : Result} :
    Within [.out, .regs, .tallies] s (s.tallyResult t n cands r) := by
  unfold State.tallyResult
  exact Within.ite (by
      split
      exacts [(by
          split
          exacts [(Within.refl.step State.bump_within).step State.emit_within, Within.refl.step State.countTally_within]),
          Within.refl]) (Within.ite (Within.refl.step State.countTally_within) Within.refl)

theorem State.learnResult_within {s : State} {pl : Planned} {l : LookupPlan} {d : Table} {r : Result} :
    Within [.freeCtr, .out, .regs, .boot, .tables, .rows, .tallies, .learnLog, .host] s ((s.learnResult pl l d r).1) := by
  unfold State.learnResult
  exact Within.apply_ite Prod.fst Within.refl (Within.apply_ite Prod.fst (Within.apply_ite Prod.fst (Within.refl.step
      State.emit_within) Within.refl) (Within.refl.step State.learn_within))

theorem State.conclude_within {s : State} {pl : Planned} {i : Nat} {l : LookupPlan} {d : Table} {v : Verdict} :
    Within [.freeCtr, .out, .regs, .boot, .tables, .rows, .tallies, .learnLog, .wrd, .host] s ((s.conclude pl i l d v).1) := by
  unfold State.conclude
  exact Within.ite (Within.foldl (fun _ _ h => h.step State.bump_within) ((Within.refl.step State.resultOf_within).step
      State.learnResult_within)) (Within.foldl (fun _ _ h => h.step State.tallyResult_within) (Within.foldl (fun _ _ h =>
      h.step State.bump_within) ((Within.refl.step State.resultOf_within).step State.learnResult_within)))

theorem State.putPlanned_within {s : State} {i : Nat} {pl : Planned} :
    Within [.out, .regs, .boot, .ports, .planned, .host, .seam] s (s.putPlanned i pl) := by
  unfold State.putPlanned
  exact Within.ite ((Within.refl.step State.formVerdict_within).upd) Within.refl.upd

theorem State.countSearch_within {s : State} {n : Tick} {l : LookupPlan} :
    Within [.regs, .acts] s (s.countSearch n l) := by
  unfold State.countSearch
  exact Within.foldl (fun _ _ h => ((h.step State.bump_within).step State.bump_within).upd) Within.refl

theorem State.sendOn_within {s : State} {down : Bool} {t : Token} : Within [.out, .regs] s ((s.sendOn down t).1) := by
  unfold State.sendOn
  exact Within.apply_ite Prod.fst (Within.ite (Within.refl.step State.emit_within) Within.refl) (Within.apply_ite Prod.fst
      (Within.ite Within.refl (Within.refl.step State.bump_within)) (Within.apply_ite Prod.fst Within.refl (Within.apply_ite
      Prod.fst Within.refl (Within.refl.step State.emit_within))))

theorem State.sendToken_within {s : State} {n : Tick} {l : LookupPlan} :
    Within [.out, .regs, .csc] s ((s.sendToken n l).1) := by
  unfold State.sendToken
  exact (Within.refl.upd.step State.bump_within).step State.sendOn_within

theorem State.setLookup_within {s : State} {i k : Nat} {f : LookupPlan → LookupPlan} :
    Within [.planned] s (s.setLookup i k f) := by
  unfold State.setLookup
  exact Within.refl.upd

theorem State.concludeAt_within {s : State} {i k : Nat} {v : Verdict} :
    Within [.freeCtr, .out, .regs, .boot, .ports, .planned, .tables, .rows, .tallies, .learnLog, .wrd, .host, .seam] s
        (s.concludeAt i k v) := by
  unfold State.concludeAt
  dsimp only
  split
  · exact Within.refl
  · split
    · exact Within.refl
    · split
      · exact Within.refl.step State.putPlanned_within
      · exact (Within.refl.step State.conclude_within).step State.putPlanned_within

theorem State.concludeDue_within {s : State} {l : List (Nat × Nat)} :
    Within [.freeCtr, .out, .regs, .boot, .ports, .planned, .tables, .rows, .tallies, .learnLog, .wrd, .host, .seam] s
        (s.concludeDue l) := by
  induction l generalizing s with
  | nil => exact .refl
  | cons e t ih =>
    unfold State.concludeDue
    split
    · exact ih
    · split
      · exact ih
      · split
        · exact .refl
        · exact (Within.refl.step State.concludeAt_within).step ih

theorem State.learnHere_within {s : State} {n : Tick} {t : Nat} {key : BitVec 640} :
    Within [.freeCtr, .out, .regs, .boot, .tables, .rows, .tallies, .learnLog, .host] s (s.learnHere n t key) := by
  unfold State.learnHere
  dsimp only
  split
  · exact Within.refl
  · exact Within.ite Within.refl (Within.ite (Within.refl.step State.bump_within) (Within.ite ((Within.refl.step
        State.learn_within).step State.countTally_within) (Within.refl.step State.learn_within)))

theorem State.settleLearns_within {s : State} :
    Within [.freeCtr, .out, .regs, .boot, .tables, .rows, .tallies, .learnLog, .host, .csc] s (s.settleLearns) := by
  unfold State.settleLearns
  exact Within.foldl (fun _ _ h => h.step State.learnHere_within) Within.refl.upd

theorem State.settleResults_within {s : State} :
    Within [.freeCtr, .out, .regs, .boot, .ports, .planned, .tables, .rows, .tallies, .learnLog, .wrd, .host, .seam, .csc] s
        (s.settleResults) := by
  unfold State.settleResults
  exact (Within.refl.step State.concludeDue_within).step State.settleLearns_within

theorem State.searchLookup_within {s : State} {i k : Nat} :
    Within [.freeCtr, .out, .regs, .boot, .ports, .planned, .tables, .rows, .tallies, .learnLog, .drawers, .acts, .cur, .wrd,
        .host, .seam, .csc] s (s.searchLookup i k) := by
  unfold State.searchLookup
  dsimp only
  split
  · exact Within.refl
  · split
    · exact Within.refl
    · split
      · exact Within.refl.step State.putPlanned_within
      · exact Within.ite ((((Within.refl.step State.countSearch_within).step State.scan_within).step
            State.sendToken_within).step State.setLookup_within) ((((Within.refl.step State.countSearch_within).step
            State.scan_within).step State.setLookup_within).step State.settleResults_within)

theorem doSearchSlot_within {s : State} :
    Within [.freeCtr, .out, .regs, .boot, .ports, .planned, .tables, .rows, .tallies, .learnLog, .drawers, .acts, .cur, .wrd,
        .host, .seam, .csc] s (doSearchSlot s) := by
  unfold doSearchSlot
  split
  · exact Within.refl
  · exact Within.refl.step State.searchLookup_within

end Sys2Proof.Machine
end

section
/-! PROOFS. The frame of the operations of Sys2Proof.Machine.Rows, in the order of that file. -/

namespace Sys2Proof.Machine

set_option Elab.async false

theorem State.mapRow_within {s : State} {l : Loc} {f : Row → Row} : Within [.rows] s (s.mapRow l f) := by
  unfold State.mapRow
  exact Within.refl.step State.setRows_within

theorem State.covered_within {s : State} {l : Loc} : Within [.journal] s (s.covered l) := by
  unfold State.covered
  exact Within.refl.upd

theorem State.toClear_within {s : State} {l : Loc} : Within [.cur] s (s.toClear l) := by
  unfold State.toClear
  exact Within.ite Within.refl.upd Within.refl

theorem State.freeRow_within {s : State} {r : Row} : Within [.rows, .tallies, .cur] s (s.freeRow r) := by
  unfold State.freeRow
  exact ((Within.refl.step State.setRows_within).step State.toClear_within).step State.dropTally_within

theorem State.advanceRows_within {s : State} : Within [.rows, .tallies, .cur] s (s.advanceRows) := by
  unfold State.advanceRows
  exact Within.foldl (fun _ _ h => h.step State.freeRow_within) (Within.refl.step State.setRows_within)

theorem State.clearRows_within {s : State} {l : List Nat} {f : List (List Nat)} :
    Within [.out, .regs, .boot, .cells, .faults, .drawers, .cur, .host] s (s.clearRows l f) := by
  induction l generalizing s f with
  | nil => exact .refl
  | cons k t ih => exact (Within.refl.step State.program_within).step ih

theorem doRowClear_within {w : WriteRes} {s : State} :
    Within [.out, .regs, .boot, .cells, .faults, .journal, .drawers, .cur, .host] s (doRowClear w s) := by
  unfold doRowClear
  dsimp only
  split
  · exact Within.refl
  · exact Within.ite Within.refl ((Within.foldl (fun _ _ h => h.step State.covered_within) (Within.refl.step
        State.clearRows_within)).upd)

theorem State.cancelSet_within {s : State} {r : Row} : Within [.rows, .cur] s (s.cancelSet r) := by
  unfold State.cancelSet
  exact (Within.refl.step State.setRows_within).step State.toClear_within

theorem State.cancelSets_within {s : State} {t id : Nat} : Within [.rows, .cur] s (s.cancelSets t id) := by
  unfold State.cancelSets
  exact Within.foldl (fun _ _ h => h.step State.cancelSet_within) Within.refl

theorem State.retarget_within {s : State} {r : Row} : Within [.freeCtr, .rows] s (s.retarget r) := by
  unfold State.retarget
  split
  · exact Within.refl
  · split
    · exact (Within.refl.step State.drawn_within).step State.mapRow_within
    · exact Within.refl

theorem State.flipEntry_within {s : State} {b : Tick} {new : Row} :
    Within [.regs, .rows, .bays, .broad, .drawers, .cur] s (s.flipEntry b new) := by
  unfold State.flipEntry
  exact Within.ite (Within.refl.step State.cancelSet_within) (Within.ite ((Within.ite ((Within.refl.step
      State.setRows_within).step State.assignFor_within) (((Within.refl.step State.setRows_within).step
      State.assignFor_within).step State.noteBroad_within)).step State.bump_within) ((Within.ite ((Within.refl.step
      State.setRows_within).step State.assignFor_within) (((Within.refl.step State.setRows_within).step
      State.assignFor_within).step State.noteBroad_within)).step State.bump_within))

theorem State.loseEntry_within {s : State} {t id cause : Nat} {k : Tick} :
    Within [.out, .regs, .boot, .tables, .rows, .lost, .lossList, .cur, .host] s (s.loseEntry t id cause k) := by
  unfold State.loseEntry
  exact Within.ite Within.refl ((Within.ite ((((((Within.refl.step State.cancelSets_within).step
      State.setRows_within).upd).step State.bump_within).step State.bump_within).upd) ((((((Within.refl.step
      State.cancelSets_within).step State.setRows_within).upd).step State.bump_within).step State.bump_within).step
      State.put_within)).step State.showDegraded_within)

theorem State.recordBlock_within {s : State} {g : Nat} {us : List Nat} {bay : Nat} {block : Nat × Nat} :
    Within [.drawers] s (s.recordBlock g us bay block) := by
  unfold State.recordBlock
  exact Within.foldl (fun _ _ h => h.step State.setDrawer_within) Within.refl

theorem State.flipSplit_within {s : State} {r : Reshape} :
    Within [.freeCtr, .regs, .bays, .drawers] s (s.flipSplit r) := by
  unfold State.flipSplit
  dsimp only
  split
  · exact Within.refl
  · exact ((Within.refl.upd.step State.addBay_within).step State.recordBlock_within).step State.bump_within

theorem State.flipMerge_within {s : State} {r : Reshape} {sib : Nat} :
    Within [.bays, .drawers] s (s.flipMerge r sib) := by
  unfold State.flipMerge
  dsimp only
  split
  · exact Within.refl.upd.step State.recordBlock_within
  · exact Within.refl

theorem State.flipReshape_within {s : State} {r : Reshape} :
    Within [.freeCtr, .regs, .bays, .drawers] s (s.flipReshape r) := by
  unfold State.flipReshape
  split
  · exact Within.refl.step State.flipSplit_within
  · exact Within.refl.step State.flipMerge_within

theorem State.retargetAll_within {s : State} : Within [.freeCtr, .rows] s (s.retargetAll) := by
  unfold State.retargetAll
  exact Within.foldl (fun _ _ h => h.step State.retarget_within) Within.refl

theorem State.replaceUnit_within {s : State} {g dx sx : Nat} :
    Within [.rows, .bays, .broad, .drawers] s (s.replaceUnit g dx sx) := by
  unfold State.replaceUnit
  exact (Within.refl.upd.step State.setRows_within).step State.setDrawer_within

theorem State.flipSwap_within {s : State} {w : Swap} :
    Within [.out, .regs, .boot, .tables, .rows, .lost, .lossList, .bays, .broad, .drawers, .cabs, .cur, .host] s (s.flipSwap
        w) := by
  unfold State.flipSwap
  exact (((((Within.foldl (fun _ _ h => h.step State.loseEntry_within) Within.refl).step State.replaceUnit_within).step
      State.setDrawer_within).step State.setCab_within).step State.bump_within).upd

end Sys2Proof.Machine
end

section
/-! PROOFS. The frame of the operations of Sys2Proof.Machine.Slots, in the order of that file. -/

namespace Sys2Proof.Machine

set_option Elab.async false

theorem State.takeSlots_within {s : State} {g n : Nat} : Within [.cur] s (s.takeSlots g n) := by
  unfold State.takeSlots
  exact Within.refl.upd

theorem State.takeSweep_within {s : State} {g n : Nat} : Within [.cur] s (s.takeSweep g n) := by
  unfold State.takeSweep
  exact (Within.refl.step State.takeSlots_within).upd

theorem State.slotsTurn_within {s : State} {g : Nat} : Within [.cur] s (s.slotsTurn g) := by
  unfold State.slotsTurn
  exact Within.refl.upd

theorem State.slotsBoundary_within {s : State} : Within [.cur] s (s.slotsBoundary) := by
  unfold State.slotsBoundary
  exact Within.foldl (fun _ _ h => h.step State.slotsTurn_within) Within.refl

end Sys2Proof.Machine
end

section
/-! PROOFS. The frame of the operations of Sys2Proof.Machine.Tables, in the order of that file. -/

namespace Sys2Proof.Machine

set_option Elab.async false

theorem State.giveBlocks_within {n t : Nat} {s : State} : Within [.freeCtr, .tables] s (State.giveBlocks n t s) := by
  induction n generalizing s with
  | zero => exact .refl
  | succ n ih =>
    unfold State.giveBlocks
    split
    · exact ((Within.refl.step State.drawn_within).step State.setTable_within).step ih
    · exact .refl

theorem State.allot_within {s : State} {t : Nat} {d : Table} : Within [.freeCtr, .tables, .bays] s (s.allot t d) := by
  unfold State.allot
  exact (Within.foldl (fun _ _ h => h.step State.addBay_within) (Within.refl.step State.setTable_within)).step
      State.giveBlocks_within

theorem coreTblCreate_within {s : State} {_own : Option (Nat × Nat × Nat)} {f : Nat} {c : CmdSlot} {d : Dma} :
    Within [.freeCtr, .out, .regs, .boot, .tables, .bays, .host] s ((coreTblCreate s _own f c d).s) := by
  unfold coreTblCreate
  dsimp only
  exact Within.apply_ite Ran.s (Within.refl.step State.deny_within) (by
      split
      exacts [Within.refl.step State.dmaDeny_within, Within.apply_ite Ran.s (Within.refl.step State.deny_within)
          (Within.apply_ite Ran.s (Within.refl.step State.deny_within) (Within.apply_ite Ran.s (Within.refl.step
          State.deny_within) (Within.refl.step State.allot_within)))])

theorem State.clearTable_within {s : State} {t : Nat} : Within [.regs] s (s.clearTable t) := by
  unfold State.clearTable
  exact Within.foldl (fun _ _ h => h.step State.put_within) Within.refl

theorem coreTblDestroy_within {s : State} {own : Option (Nat × Nat × Nat)} {f : Nat} {c : CmdSlot} {_d : Dma} :
    Within [.tables] s ((coreTblDestroy s own f c _d).s) := by
  unfold coreTblDestroy
  dsimp only
  exact Within.apply_ite Ran.s (Within.refl.step State.deny_within) (Within.apply_ite Ran.s (Within.refl.step
      State.deny_within) (by
      split
      exacts [Within.refl.step State.deny_within, Within.apply_ite Ran.s (Within.refl.step State.deny_within)
          (Within.apply_ite Ran.s (Within.refl.step State.deny_within) (Within.refl.step State.setTable_within))]))

theorem State.tablesBoundary_within {s : State} {k : Tick} : Within [.regs, .tables, .rows] s (s.tablesBoundary k) := by
  unfold State.tablesBoundary
  dsimp only
  exact Within.foldl (fun _ _ h => (by
      split
      exacts [Within.ite ((h.step State.setTable_within).step State.clearTable_within) h, Within.ite (Within.ite ((h.step
          State.setTable_within).step State.clearTable_within) h) (((Within.ite ((h.step State.setTable_within).step
          State.clearTable_within) h).step State.setTable_within).step State.setRows_within)])) Within.refl

theorem doTableDestroyComplete_within {t : Fin 64} {s : State} :
    Within [.out, .regs, .boot, .tables, .rows, .tallies, .learnLog, .lost, .bays, .broad, .cur, .host] s
        (doTableDestroyComplete t s) := by
  unfold doTableDestroyComplete
  dsimp only
  split
  · exact Within.refl
  · split
    · exact Within.refl
    · exact Within.ite Within.refl ((((Within.refl.step State.advanceRows_within).step State.dropTable_within).upd).step
          State.completeNow_within)

theorem coreTblRead_within {s : State} {_own : Option (Nat × Nat × Nat)} {f : Nat} {c : CmdSlot} {d : Dma} :
    Within [.out, .regs, .boot, .host] s ((coreTblRead s _own f c d).s) := by
  unfold coreTblRead
  dsimp only
  exact Within.apply_ite Ran.s (Within.refl.step State.deny_within) (Within.apply_ite Ran.s (Within.refl.step
      State.deny_within) (Within.apply_ite Ran.s (Within.refl.step State.deny_within) (by
      split
      exacts [Within.refl.step State.deny_within, (by
          split
          exacts [Within.refl.step State.deny_within, Within.apply_ite Ran.s (Within.refl.step State.deny_within)
              (Within.refl.step State.hostPut_within)])])))

theorem coreTblNext_within {s : State} {_own : Option (Nat × Nat × Nat)} {f : Nat} {c : CmdSlot} {d : Dma} :
    Within [.out, .regs, .boot, .host] s ((coreTblNext s _own f c d).s) := by
  unfold coreTblNext
  dsimp only
  exact Within.apply_ite Ran.s (Within.refl.step State.deny_within) (Within.apply_ite Ran.s (Within.refl.step
      State.deny_within) (Within.apply_ite Ran.s (Within.refl.step State.deny_within) (by
      split
      exacts [Within.refl.step State.deny_within, (by
          split
          exacts [Within.refl.step State.deny_within, (by
              split
              exacts [Within.refl.step State.deny_within, Within.apply_ite Ran.s (Within.refl.step State.deny_within)
                  (Within.refl.step State.hostPut_within)])])])))

theorem State.find_within {s : State} {t : Nat} {d : Table} {key : BitVec 640} :
    Within [.out, .regs, .boot, .drawers, .cur, .wrd, .host] s ((s.find t d key).1) := by
  unfold State.find
  exact Within.foldl (fun _ _ h => h.step State.bump_within) ((Within.refl.step State.scan_within).step State.resultOf_within)

theorem coreTblFind_within {s : State} {_own : Option (Nat × Nat × Nat)} {f : Nat} {c : CmdSlot} {d : Dma} :
    Within [.out, .regs, .boot, .drawers, .cur, .wrd, .host] s ((coreTblFind s _own f c d).s) := by
  unfold coreTblFind
  dsimp only
  exact Within.apply_ite Ran.s (Within.refl.step State.deny_within) (Within.apply_ite Ran.s (Within.refl.step
      State.deny_within) (Within.apply_ite Ran.s (Within.refl.step State.deny_within) (by
      split
      exacts [Within.refl.step State.deny_within, Within.apply_ite Ran.s (Within.refl.step State.deny_within) (by
          split
          exacts [Within.refl.step State.dmaDeny_within, Within.apply_ite Ran.s Within.refl (((Within.foldl (fun _ _ h =>
              h.step State.takeSlots_within) Within.refl).step State.find_within).step State.hostPut_within)])])))

theorem coreTallyRead_within {s : State} {_own : Option (Nat × Nat × Nat)} {f : Nat} {c : CmdSlot} {_d : Dma} :
    Within [] s ((coreTallyRead s _own f c _d).s) := by
  unfold coreTallyRead
  dsimp only
  exact Within.apply_ite Ran.s (Within.refl.step State.deny_within) (by
      split
      exacts [Within.refl, Within.refl.step State.deny_within])

theorem State.setTally_within {s : State} {idx v : Nat} : Within [.tallies] s (s.setTally idx v) := by
  unfold State.setTally
  exact Within.refl.upd

theorem coreTallyWrite_within {s : State} {_own : Option (Nat × Nat × Nat)} {f : Nat} {c : CmdSlot} {_d : Dma} :
    Within [.tallies] s ((coreTallyWrite s _own f c _d).s) := by
  unfold coreTallyWrite
  dsimp only
  exact Within.apply_ite Ran.s (Within.refl.step State.deny_within) (by
      split
      exacts [Within.refl.step State.setTally_within, Within.refl.step State.deny_within])

end Sys2Proof.Machine
end

section
/-! PROOFS. The frame of the operations of Sys2Proof.Machine.Edits, in the order of that file. -/

namespace Sys2Proof.Machine

set_option Elab.async false

theorem State.setGroups_within {s : State} {l : List Group} : Within [.groups] s (s.setGroups l) := by
  unfold State.setGroups
  exact Within.refl.upd

theorem State.setGroup_within {s : State} {g : Group} : Within [.groups] s (s.setGroup g) := by
  unfold State.setGroup
  exact Within.refl.step State.setGroups_within

theorem State.dropStaged_within {s : State} {g : Group} {id : Nat} :
    Within [.rows, .journal] s (s.dropStaged g id) := by
  unfold State.dropStaged
  exact (Within.refl.step State.setRows_within).upd

theorem State.stageDelete_within {s u : State} {g g' : Group} {id : Nat} (h : s.stageDelete g id = .ok u g') :
    Within [.freeCtr, .out, .regs, .boot, .rows, .cells, .faults, .journal, .drawers, .cabs, .cur, .host] s u := by
  have hdrop : Within [.freeCtr, .out, .regs, .boot, .rows, .cells, .faults, .journal, .drawers, .cabs, .cur, .host] s
    (s.dropStaged g id) := Within.refl.step State.dropStaged_within
  unfold State.stageDelete at h
  dsimp only at h
  split at h
  · injection h with hu
    exact hu ▸ hdrop
  · split at h
    · injection h with hu
      exact hu ▸ hdrop
    · split at h
      · injection h with hu
        exact hu ▸ hdrop
      · split at h
        · exact nomatch h
        · injection h with hu
          exact hu ▸ hdrop.step State.tombstone_within

theorem State.stagePut_within {s u : State} {g g' : Group} {d : Table} {op : EditOp} {r : EntryRec}
    (h : s.stagePut g d op r = .ok u g') :
    Within [.freeCtr, .out, .regs, .boot, .rows, .cells, .faults, .journal, .drawers, .cabs, .cur, .host] s u := by
  unfold State.stagePut at h
  dsimp only at h
  split at h
  · exact nomatch h
  · exact nomatch h
  · injection h with hu
    subst hu
    exact Within.ite (((Within.refl.step State.dropStaged_within).step State.drawn_within).step State.setRows_within)
      ((((Within.refl.step State.dropStaged_within).step State.drawn_within).step State.setRows_within).step
          State.journalAt_within)

theorem State.stage_within {s u : State} {g g' : Group} {d : Table} {op : EditOp} {r : EntryRec} (h : s.stage g d op r = .ok u
    g') :
    Within [.freeCtr, .out, .regs, .boot, .rows, .cells, .faults, .journal, .drawers, .cabs, .cur, .host] s u := by
  unfold State.stage at h
  dsimp only at h
  iterate 4
    split at h
    · exact nomatch h
  split at h
  · exact State.stageDelete_within h
  · split at h
    · exact nomatch h
    · exact State.stagePut_within h
  · exact State.stagePut_within h

theorem State.relet_within {s : State} {g : Group} : Within [.groups] s (s.relet g) := by
  unfold State.relet
  exact Within.ite Within.refl (Within.refl.step State.setGroup_within)

theorem State.staged_within {s : State} {num : Nat} {g : Group} : Within [.groups, .cur] s ((s.staged num g).s) := by
  unfold State.staged
  exact Within.apply_ite Ran.s (Within.refl.step State.setGroup_within) Within.refl.upd

theorem State.vestFull_within {s : State} {t : Nat} : Within [.out, .regs, .boot, .host] s (s.vestFull t) := by
  unfold State.vestFull
  exact (Within.refl.step State.put_within).step State.raiseRate_within

theorem State.runEdit_within {s : State} {own : Option (Nat × Nat × Nat)} {f t num : Nat} {op : EditOp} {r : EntryRec} :
    Within [.freeCtr, .out, .regs, .boot, .rows, .cells, .faults, .journal, .groups, .drawers, .cabs, .cur, .host] s
      (s.runEdit own f t num op r).s := by
  unfold State.runEdit
  split
  · exact Within.refl.step State.deny_within
  · split
    · exact Within.refl.step State.deny_within
    · split
      · exact Within.refl.step State.deny_within
      · split
        · exact Within.refl.step State.deny_within
        · split
          case _ _ u g' hu => exact (Within.refl.step (State.stage_within hu)).step State.staged_within
          · exact (Within.refl.step State.relet_within).step State.deny_within
          · exact Within.apply_ite Ran.s (((Within.refl.step State.relet_within).step State.vestFull_within).step
                State.deny_within)
              (Within.refl.step State.relet_within)

theorem coreEdit_within {op : EditOp} {s : State} {own : Option (Nat × Nat × Nat)} {f : Nat} {c : CmdSlot} {d : Dma} :
    Within [.freeCtr, .out, .regs, .boot, .rows, .cells, .faults, .journal, .groups, .drawers, .cabs, .cur, .host] s
        ((coreEdit op s own f c d).s) := by
  unfold coreEdit
  dsimp only
  exact Within.apply_ite Ran.s (Within.refl.step State.deny_within) (by
      split
      exacts [Within.refl.step State.dmaDeny_within, Within.apply_ite Ran.s (Within.refl.step State.deny_within)
          (Within.refl.step State.runEdit_within)])

theorem coreTblDelete_within {s : State} {own : Option (Nat × Nat × Nat)} {f : Nat} {c : CmdSlot} {_d : Dma} :
    Within [.freeCtr, .out, .regs, .boot, .rows, .cells, .faults, .journal, .groups, .drawers, .cabs, .cur, .host] s
        ((coreTblDelete s own f c _d).s) := by
  unfold coreTblDelete
  exact Within.apply_ite Ran.s (Within.refl.step State.deny_within) (Within.apply_ite Ran.s (Within.refl.step
      State.deny_within) (Within.refl.step State.runEdit_within))

theorem coreEditBegin_within {s : State} {_own : Option (Nat × Nat × Nat)} {f : Nat} {c : CmdSlot} {_d : Dma} :
    Within [.freeCtr, .groups] s ((coreEditBegin s _own f c _d).s) := by
  unfold coreEditBegin
  dsimp only
  exact Within.apply_ite Ran.s (Within.refl.step State.deny_within) (Within.apply_ite Ran.s (Within.refl.step
      State.deny_within) (by
      split
      exacts [Within.refl.step State.deny_within, Within.apply_ite Ran.s (Within.refl.step State.deny_within)
          ((Within.refl.step State.drawn_within).step State.setGroups_within)]))

theorem doEditBegin_within {s : State} : Within [.freeCtr, .out, .groups, .host, .seam] s (doEditBegin s) := by
  unfold doEditBegin
  dsimp only
  split
  · exact Within.refl
  · exact Within.ite Within.refl (Within.ite (((Within.refl.step coreEditBegin_within).step State.sendSeam_within).upd)
        ((Within.refl.step coreEditBegin_within).step State.complete_within))

theorem coreEditCommit_within {s : State} {own : Option (Nat × Nat × Nat)} {f : Nat} {c : CmdSlot} {_d : Dma} :
    Within [.groups, .cur] s ((coreEditCommit s own f c _d).s) := by
  unfold coreEditCommit
  dsimp only
  exact Within.apply_ite Ran.s (Within.refl.step State.deny_within) (by
      split
      exacts [Within.refl.step State.deny_within, Within.apply_ite Ran.s ((Within.refl.step State.relet_within).step
          State.deny_within) (Within.apply_ite Ran.s ((Within.refl.step State.relet_within).step State.deny_within)
          ((Within.refl.step State.setGroup_within).upd))])

theorem State.abortGroup_within {s : State} {g : Group} {cause : Option Field} :
    Within [.out, .regs, .boot, .rows, .journal, .groups, .host, .seam] s (s.abortGroup g cause) := by
  unfold State.abortGroup
  dsimp only
  exact Within.ite (Within.step (by
      split
      exacts [(Within.step (by
          split
          exacts [(((Within.foldl (fun _ _ h => h.step State.dropStaged_within) Within.refl).step State.setGroups_within).step
              State.bump_within).step State.put_within, ((Within.foldl (fun _ _ h => h.step State.dropStaged_within)
              Within.refl).step State.setGroups_within).step State.bump_within]) State.raise_within).step
          State.owedReady_within, Within.step (by
          split
          exacts [(((Within.foldl (fun _ _ h => h.step State.dropStaged_within) Within.refl).step State.setGroups_within).step
              State.bump_within).step State.put_within, ((Within.foldl (fun _ _ h => h.step State.dropStaged_within)
              Within.refl).step State.setGroups_within).step State.bump_within]) State.raise_within]) State.sendSeam_within)
      (by
      split
      exacts [(Within.step (by
          split
          exacts [(((Within.foldl (fun _ _ h => h.step State.dropStaged_within) Within.refl).step State.setGroups_within).step
              State.bump_within).step State.put_within, ((Within.foldl (fun _ _ h => h.step State.dropStaged_within)
              Within.refl).step State.setGroups_within).step State.bump_within]) State.raise_within).step
          State.owedReady_within, Within.step (by
          split
          exacts [(((Within.foldl (fun _ _ h => h.step State.dropStaged_within) Within.refl).step State.setGroups_within).step
              State.bump_within).step State.put_within, ((Within.foldl (fun _ _ h => h.step State.dropStaged_within)
              Within.refl).step State.setGroups_within).step State.bump_within]) State.raise_within])

theorem coreEditAbort_within {s : State} {_own : Option (Nat × Nat × Nat)} {f : Nat} {c : CmdSlot} {_d : Dma} :
    Within [.out, .regs, .boot, .rows, .journal, .groups, .host, .seam] s ((coreEditAbort s _own f c _d).s) := by
  unfold coreEditAbort
  exact Within.apply_ite Ran.s (Within.refl.step State.deny_within) (by
      split
      exacts [Within.refl.step State.deny_within, Within.refl.step State.abortGroup_within])

theorem doEditLeaseExpiry_within {t : Fin 64} {s : State} :
    Within [.out, .regs, .boot, .rows, .journal, .groups, .host, .seam] s (doEditLeaseExpiry t s) := by
  unfold doEditLeaseExpiry
  split
  · exact Within.refl
  · exact Within.ite (Within.refl.step State.abortGroup_within) Within.refl

theorem State.commitEdit_within {s : State} {g : Group} {k : Tick} {e : Edit} :
    Within [.regs, .rows, .journal, .tallies, .lost, .bays, .broad, .drawers, .cur] s (s.commitEdit g k e) := by
  unfold State.commitEdit
  dsimp only
  exact Within.step (by
      split
      exacts [(Within.ite (Within.step (by
          split
          exacts [((((Within.refl.step State.cancelSets_within).step State.setRows_within).upd).step
              State.assignFor_within).step State.noteBroad_within, ((Within.refl.step State.cancelSets_within).step
              State.setRows_within).upd]) State.endTally_within) (by
          split
          exacts [((((Within.refl.step State.cancelSets_within).step State.setRows_within).upd).step
              State.assignFor_within).step State.noteBroad_within, ((Within.refl.step State.cancelSets_within).step
              State.setRows_within).upd])).step State.giveTally_within, Within.step (by
          split
          exacts [((((Within.refl.step State.cancelSets_within).step State.setRows_within).upd).step
              State.assignFor_within).step State.noteBroad_within, ((Within.refl.step State.cancelSets_within).step
              State.setRows_within).upd]) State.endTally_within, Within.ite (Within.step (by
          split
          exacts [((((Within.refl.step State.cancelSets_within).step State.setRows_within).upd).step
              State.assignFor_within).step State.noteBroad_within, ((Within.refl.step State.cancelSets_within).step
              State.setRows_within).upd]) State.giveTally_within) (by
          split
          exacts [((((Within.refl.step State.cancelSets_within).step State.setRows_within).upd).step
              State.assignFor_within).step State.noteBroad_within, ((Within.refl.step State.cancelSets_within).step
              State.setRows_within).upd])]) State.bump_within

theorem State.sendLater_within {s : State} {g : Group} {k : Tick} : Within [.out, .seam] s (s.sendLater g k) := by
  unfold State.sendLater
  exact Within.ite (Within.foldl (fun _ _ h => (h.step State.sendSeam_within).upd) Within.refl) Within.refl

theorem State.commitGroup_within {s : State} {g : Group} {k : Tick} :
    Within [.out, .regs, .boot, .tables, .rows, .journal, .groups, .tallies, .lost, .bays, .broad, .drawers, .cur, .wrd,
        .host, .seam] s (s.commitGroup g k) := by
  unfold State.commitGroup
  dsimp only
  exact ((((Within.step (by
      split
      exacts [(Within.foldl (fun _ _ h => h.step State.commitEdit_within) (Within.refl.step State.sendLater_within)).step
          State.setTable_within, Within.foldl (fun _ _ h => h.step State.commitEdit_within) (Within.refl.step
          State.sendLater_within)]) State.setGroups_within).step State.bump_within).step State.showDegraded_within).step
      State.completeNow_within).step State.showHeld_within

theorem doGroupCommit_within {t : Fin 64} {s : State} :
    Within [.out, .regs, .boot, .tables, .rows, .journal, .groups, .tallies, .lost, .bays, .broad, .drawers, .cur, .wrd,
        .host, .seam] s (doGroupCommit t s) := by
  unfold doGroupCommit
  split
  · exact Within.refl
  · exact Within.ite Within.refl (Within.ite ((Within.refl.step State.setGroup_within).step State.bump_within)
        (Within.refl.step State.commitGroup_within))

theorem doCommitRelease_within {t : Fin 64} {s : State} : Within [.groups] s (doCommitRelease t s) := by
  unfold doCommitRelease
  split
  · exact Within.refl
  · exact Within.ite (Within.refl.step State.setGroup_within) Within.refl

end Sys2Proof.Machine
end

section
/-! PROOFS. The frame of the operations of Sys2Proof.Machine.Move, in the order of that file. -/

namespace Sys2Proof.Machine

set_option Elab.async false

theorem State.enterCopy_within {n : Row} {o : State × Bool} : Within [.rows] o.1 ((State.enterCopy n o).1) := by
  unfold State.enterCopy
  exact Within.apply_ite Prod.fst (Within.refl.step State.setRows_within) Within.refl

theorem State.writeCopy_within {s : State} {m : Nat} {r : Row} {g x p : Nat} {w : WriteRes} :
    Within [.out, .regs, .boot, .rows, .cells, .faults, .journal, .drawers, .cur, .host] s ((s.writeCopy m r g x p w).1) := by
  unfold State.writeCopy
  exact (Within.refl.step State.writeEntry_within).step State.enterCopy_within

theorem doMigration_within {t : Fin 64} {id : BitVec 24} {w : WriteRes} {s : State} :
    Within [.freeCtr, .out, .regs, .boot, .rows, .cells, .faults, .journal, .drawers, .cur, .host] s (doMigration t id w s) :=
        by
  unfold doMigration
  dsimp only
  split
  · exact Within.refl
  · split
    · exact Within.refl
    · exact Within.ite Within.refl (by
          split
          exacts [Within.refl, (Within.refl.step State.drawn_within).step State.writeCopy_within])

theorem State.moveRow_within {s : State} {m : Nat} {r : Row} {w : WriteRes} :
    Within [.freeCtr, .out, .regs, .boot, .rows, .cells, .faults, .journal, .drawers, .cabs, .cur, .host] s (s.moveRow m r w)
        := by
  unfold State.moveRow
  dsimp only
  exact Within.ite Within.refl (by
      split
      exacts [Within.refl, Within.ite (((Within.refl.step State.drawn_within).step State.writeCopy_within).step
          State.journalRecord_within) ((Within.refl.step State.drawn_within).step State.writeCopy_within)])

theorem doRelocation_within {t : Fin 64} {id : BitVec 24} {w : WriteRes} {s : State} :
    Within [.freeCtr, .out, .regs, .boot, .rows, .cells, .faults, .journal, .drawers, .cabs, .cur, .host] s (doRelocation t id
        w s) := by
  unfold doRelocation
  split
  · exact Within.refl
  · exact Within.ite (Within.refl.step State.moveRow_within) Within.refl

theorem State.refreshed_within {s : State} {k : Nat} : Within [.cur] s (s.refreshed k) := by
  unfold State.refreshed
  exact Within.refl.upd

theorem State.refreshJournal_within {s : State} {n a : Nat} :
    Within [.freeCtr, .out, .regs, .boot, .rows, .cells, .faults, .journal, .drawers, .cabs, .cur, .host] s (s.refreshJournal
        n a) := by
  unfold State.refreshJournal
  exact ((Within.refl.step State.journalMove_within).step State.refreshed_within).step State.bump_within

theorem doRefresh_within {w : WriteRes} {s : State} :
    Within [.freeCtr, .out, .regs, .boot, .rows, .cells, .faults, .journal, .drawers, .cabs, .cur, .host] s (doRefresh w s) :=
        by
  unfold doRefresh
  dsimp only
  split
  · exact Within.refl
  · exact Within.ite Within.refl (Within.ite (((Within.refl.step State.rewriteOlder_within).step State.refreshed_within).step
        State.bump_within) (by
        split
        exacts [Within.refl.step State.refreshJournal_within, (by
            split
            exacts [Within.refl.step State.refreshed_within, Within.ite (((Within.refl.step State.moveRow_within).step
                State.refreshed_within).step State.bump_within) (Within.refl.step State.moveRow_within)])]))

theorem State.loadDrawer_within {f g u : Nat} {r : Row} {s : State} :
    Within [.freeCtr, .out, .regs, .boot, .rows, .cells, .faults, .journal, .bays, .broad, .drawers, .cur, .host] s
      (State.loadDrawer f g u r s).1 := by
  induction f generalizing s with
  | zero => exact .refl
  | succ f ih =>
    unfold State.loadDrawer
    split
    · exact .refl
    · dsimp only
      split
      · exact (((Within.refl.step State.writeFree_within).step State.setRows_within).step State.assignFor_within).step
          State.noteBroad_within
      · exact (Within.refl.step State.writeFree_within).step ih

theorem State.loadSram_within {s : State} {t : Nat} {d : Table} {r : Row} :
    Within [.freeCtr, .out, .regs, .boot, .rows, .cells, .faults, .journal, .bays, .broad, .drawers, .cabs, .cur, .host] s
        (s.loadSram t d r) := by
  unfold State.loadSram
  dsimp only
  split
  · exact Within.ite ((((Within.refl.step State.drawn_within).step State.setRows_within).step State.assignFor_within).step
        State.noteBroad_within) (((((Within.refl.step State.drawn_within).step State.setRows_within).step
        State.assignFor_within).step State.noteBroad_within).step State.journalAt_within)
  · exact Within.refl

theorem State.loadRow_within {s : State} {t id rank dref : Nat} {value care : BitVec 640} :
    Within [.freeCtr, .out, .regs, .boot, .rows, .cells, .faults, .journal, .bays, .broad, .drawers, .cabs, .cur, .host] s
        (s.loadRow t id rank dref value care) := by
  unfold State.loadRow
  dsimp only
  split
  · exact Within.refl
  · split
    · exact Within.ite ((Within.refl.step State.drawn_within).step State.loadDrawer_within) (((Within.refl.step
          State.drawn_within).step State.loadDrawer_within).step State.loadSram_within)
    · exact Within.refl.step State.loadSram_within

theorem State.loadEntry_within {s : State} {t id rank dref : Nat} {value care : BitVec 640} :
    Within [.freeCtr, .out, .regs, .boot, .rows, .cells, .faults, .journal, .tallies, .bays, .broad, .drawers, .cabs, .cur,
        .host] s (s.loadEntry t id rank dref value care) := by
  unfold State.loadEntry
  exact Within.ite ((Within.refl.step State.loadRow_within).step State.giveTally_within) (Within.refl.step State.loadRow_within)

theorem State.pickMany_within {n : Nat} {l : List Nat} {s : State} : Within [.freeCtr] s (State.pickMany n l s).2 := by
  induction n generalizing l s with
  | zero => exact .refl
  | succ n ih =>
    unfold State.pickMany
    split
    · exact .refl
    · exact (Within.refl.step State.drawn_within).step ih

theorem State.copyOne_within {f g : Nat} {us : List Nat} {left : Nat} {r : Row} {s : State} :
    Within [.freeCtr, .out, .regs, .boot, .rows, .cells, .faults, .journal, .drawers, .cur, .host] s (State.copyOne f g us
        left r s).1 := by
  induction f generalizing s with
  | zero => exact .refl
  | succ f ih =>
    unfold State.copyOne
    dsimp only
    split
    · exact .refl
    · exact Within.apply_ite Prod.fst (((Within.refl.step State.drawn_within).step State.writeFree_within).step
          State.enterCopy_within)
        ((((Within.refl.step State.drawn_within).step State.writeFree_within).step State.enterCopy_within).step ih)

theorem State.copyAll_within {g : Nat} {us : List Nat} {l : List Row} {s : State} :
    Within [.freeCtr, .out, .regs, .boot, .rows, .cells, .faults, .journal, .drawers, .cur, .host] s (State.copyAll g us l
        s).1 := by
  induction l generalizing s with
  | nil => exact .refl
  | cons r t ih =>
    unfold State.copyAll
    exact Within.apply_ite Prod.fst ((Within.refl.step State.copyOne_within).step ih) (Within.refl.step State.copyOne_within)

theorem State.copySome_within {g : Nat} {us : List Nat} {l : List Row} {s : State} :
    Within [.freeCtr, .out, .regs, .boot, .rows, .cells, .faults, .journal, .drawers, .cur, .host] s (State.copySome g us l
        s).2 := by
  induction l generalizing s with
  | nil => exact .refl
  | cons r t ih => exact (Within.refl.step State.copyOne_within).step ih

theorem State.giveUp_within {s : State} {l : List Row} : Within [.rows, .cur] s (s.giveUp l) := by
  unfold State.giveUp
  exact Within.foldl (fun _ _ h => h.step State.cancelSets_within) Within.refl

theorem State.recordMoves_within {s : State} {l : List Row} :
    Within [.freeCtr, .out, .regs, .boot, .rows, .cells, .faults, .journal, .drawers, .cabs, .cur, .host] s (s.recordMoves l)
        := by
  unfold State.recordMoves
  exact Within.foldl (fun _ _ h => h.step State.journalMoves_within) Within.refl

theorem doBaySplit_within {g : Fin 8} {n : Nat} {s : State} :
    Within [.freeCtr, .out, .regs, .boot, .rows, .cells, .faults, .journal, .drawers, .cabs, .cur, .host] s (doBaySplit g n s)
        := by
  unfold doBaySplit
  dsimp only
  split
  · exact Within.refl
  · split
    · exact Within.refl
    · exact Within.ite Within.refl (by
          split
          exacts [Within.refl, Within.ite (((Within.apply_ite Prod.fst (((((Within.refl.step State.drawn_within).step
              State.pickMany_within).step State.pickMany_within).step State.copyAll_within).step State.copyAll_within)
              ((((Within.refl.step State.drawn_within).step State.pickMany_within).step State.pickMany_within).step
              State.copyAll_within)).step State.recordMoves_within).upd) ((Within.apply_ite Prod.fst (((((Within.refl.step
              State.drawn_within).step State.pickMany_within).step State.pickMany_within).step State.copyAll_within).step
              State.copyAll_within) ((((Within.refl.step State.drawn_within).step State.pickMany_within).step
              State.pickMany_within).step State.copyAll_within)).step State.giveUp_within)])

theorem doBayMerge_within {g : Fin 8} {n m : Nat} {s : State} :
    Within [.freeCtr, .out, .regs, .boot, .rows, .cells, .faults, .journal, .drawers, .cabs, .cur, .host] s (doBayMerge g n m
        s) := by
  unfold doBayMerge
  dsimp only
  split
  · split
    · exact Within.refl
    · exact Within.ite Within.refl (Within.ite (((((Within.refl.step State.pickMany_within).step State.copyAll_within).step
          State.copySome_within).step State.recordMoves_within).upd) (((Within.refl.step State.pickMany_within).step
          State.copyAll_within).step State.giveUp_within))
  · exact Within.refl

theorem doLearnPersist_within {t : Fin 64} {id : BitVec 24} {s : State} :
    Within [.freeCtr, .out, .regs, .boot, .rows, .cells, .faults, .journal, .drawers, .cabs, .cur, .host] s (doLearnPersist t
        id s) := by
  unfold doLearnPersist
  exact Within.ite Within.refl (by
      split
      exacts [Within.refl, (Within.refl.step State.journalAt_within).step State.mapRow_within])

theorem doRowFlip_within {s : State} :
    Within [.freeCtr, .out, .regs, .boot, .tables, .rows, .lost, .lossList, .bays, .broad, .drawers, .cabs, .cur, .wrd, .host]
        s (doRowFlip s) := by
  unfold doRowFlip
  exact (Within.ite ((Within.foldl (fun _ _ h => h.step State.flipEntry_within) (Within.foldl (fun _ _ h => h.step
      State.flipReshape_within) (Within.foldl (fun _ _ h => h.step State.flipSwap_within) (Within.foldl (fun _ _ h => h.step
      State.cancelSets_within) Within.refl)))).upd) (((Within.foldl (fun _ _ h => h.step State.flipEntry_within) (Within.foldl
      (fun _ _ h => h.step State.flipReshape_within) (Within.foldl (fun _ _ h => h.step State.flipSwap_within) (Within.foldl
      (fun _ _ h => h.step State.cancelSets_within) Within.refl)))).upd).step State.retargetAll_within)).step
      State.showHeld_within

end Sys2Proof.Machine
end

section
/-! PROOFS. The frame of the operations of Sys2Proof.Machine.Curator, in the order of that file. -/

namespace Sys2Proof.Machine

set_option Elab.async false

theorem State.setCur_within {s : State} {c : Curator} : Within [.cur] s (s.setCur c) := by
  unfold State.setCur
  exact Within.refl.upd

theorem doWearBalanceEarn_within {s : State} : Within [.out, .regs, .boot, .cur, .host] s (doWearBalanceEarn s) := by
  unfold doWearBalanceEarn
  exact (Within.refl.step State.setBalance_within).step State.setCur_within

theorem State.checkDrift_within {s : State} {n : Nat} :
    Within [.out, .regs, .boot, .cabs, .cur, .host] s (s.checkDrift n) := by
  unfold State.checkDrift
  exact Within.ite (Within.ite ((Within.refl.step State.setCab_within).step State.queueScrub_within) (((Within.refl.step
      State.setCab_within).step State.queueScrub_within).step State.raise_within)) (Within.refl.step State.setCab_within)

theorem State.calibrate_within {s : State} {c : CabCal} {now : Bool} :
    Within [.out, .regs, .boot, .cabs, .cur, .host] s (s.calibrate c now) := by
  unfold State.calibrate
  dsimp only
  exact Within.ite Within.refl (by
      split
      exacts [(Within.refl.step State.setCab_within).step State.checkDrift_within, (Within.refl.step State.setCab_within).step
          State.raise_within])

theorem State.calibrateIn_within {s : State} {cal : List CabCal} {now : Bool} {n : Nat} :
    Within [.out, .regs, .boot, .cabs, .cur, .host] s (s.calibrateIn cal now n) := by
  unfold State.calibrateIn
  split
  · exact Within.refl.step State.calibrate_within
  · exact Within.ite Within.refl (Within.refl.step State.checkDrift_within)

theorem State.calibrateAll_within {s : State} {cal : List CabCal} {now : Bool} :
    Within [.out, .regs, .boot, .cabs, .cur, .host] s (s.calibrateAll cal now) := by
  unfold State.calibrateAll
  exact Within.foldl (fun _ _ h => h.step State.calibrateIn_within) Within.refl

theorem State.dropHistory_within {s : State} : Within [.cur] s (s.dropHistory) := by
  unfold State.dropHistory
  exact Within.refl.step State.setCur_within

theorem State.countRound_within {s : State} : Within [.cabs, .cur] s (s.countRound) := by
  unfold State.countRound
  exact Within.ite Within.refl (Within.ite (Within.foldl (fun _ _ h => h.step State.setCab_within) (Within.refl.step
      State.setCur_within)) (Within.refl.step State.setCur_within))

theorem State.owesSearches_within {s : State} {g : Nat} : Within [.cur] s (s.owesSearches g) := by
  unfold State.owesSearches
  exact Within.refl.step State.setCur_within

theorem State.calRound_within {s : State} {cal : List CabCal} :
    Within [.out, .regs, .boot, .cabs, .cur, .host] s (s.calRound cal) := by
  unfold State.calRound
  exact Within.ite (Within.foldl (fun _ _ h => h.step State.owesSearches_within) ((Within.refl.step
      State.calibrateAll_within).step State.countRound_within)) Within.refl

theorem State.noteUnread_within {s : State} {k : Nat} :
    Within [.out, .regs, .boot, .drawers, .host] s (s.noteUnread k) := by
  unfold State.noteUnread
  exact Within.ite Within.refl (Within.ite ((Within.refl.step State.setDrawer_within).step State.makeSuspect_within)
      (Within.refl.step State.setDrawer_within))

theorem State.suspectRow_within {s : State} {k : Nat} :
    Within [.out, .regs, .boot, .drawers, .host] s (s.suspectRow k) := by
  unfold State.suspectRow
  exact Within.ite (Within.refl.step State.makeSuspect_within) Within.refl

theorem State.freeJournalRow_within {s : State} {k : Nat} : Within [.rows] s (s.freeJournalRow k) := by
  unfold State.freeJournalRow
  split
  · exact Within.refl
  · exact Within.refl.step State.setRows_within

theorem State.treatUnread_within {s : State} {k : Nat} :
    Within [.out, .regs, .boot, .rows, .drawers, .cur, .host] s (s.treatUnread k) := by
  unfold State.treatUnread
  exact Within.ite (((Within.refl.step State.noteUnread_within).step State.bump_within).step State.queueRefresh_within)
      (Within.ite ((Within.refl.step State.noteUnread_within).step State.queueRefresh_within) (((Within.refl.step
      State.noteUnread_within).step State.suspectRow_within).step State.freeJournalRow_within))

theorem State.dropEntry_within {s : State} {r : Row} : Within [.out, .regs, .boot, .rows, .host] s (s.dropEntry r) := by
  unfold State.dropEntry
  exact ((Within.refl.step State.setRows_within).step State.bump_within).step State.raise_within

theorem State.scrubSram_within {s : State} {k : Nat} :
    Within [.out, .regs, .boot, .rows, .faults, .host] s (s.scrubSram k) := by
  unfold State.scrubSram
  exact Within.ite (Within.refl.step State.setFault_within) (Within.foldl (fun _ _ h => h.step State.dropEntry_within)
      (Within.refl.step State.setFault_within))

theorem State.scrubPk_within {s : State} {k : Nat} :
    Within [.out, .regs, .boot, .rows, .drawers, .cur, .host] s (s.scrubPk k) := by
  unfold State.scrubPk
  exact Within.ite (Within.ite (Within.refl.step State.queueRefresh_within) Within.refl) (Within.refl.step
      State.treatUnread_within)

theorem State.scrubRow_within {s : State} {k : Nat} {d : Option ScrubRead} :
    Within [.out, .regs, .boot, .rows, .faults, .drawers, .cur, .host] s (s.scrubRow k d) := by
  unfold State.scrubRow
  dsimp only
  exact Within.ite (Within.step (by
      split
      exacts [Within.refl.step State.setFault_within, Within.refl]) State.scrubSram_within) (Within.step (by
      split
      exacts [Within.refl.step State.setFault_within, Within.refl]) State.scrubPk_within)

theorem State.proveRow_within {s : State} {k : Nat} :
    Within [.out, .regs, .boot, .rows, .drawers, .cur, .host] s (s.proveRow k) := by
  unfold State.proveRow
  exact Within.ite (Within.ite Within.refl (Within.refl.step State.queueRefresh_within)) (Within.refl.step
      State.treatUnread_within)

theorem State.marginRow_within {s : State} {k : Nat} :
    Within [.out, .regs, .boot, .rows, .drawers, .cur, .host] s (s.marginRow k) := by
  unfold State.marginRow
  exact Within.ite (Within.refl.step State.treatUnread_within) Within.refl

theorem State.proveDrawer_within {s : State} {g x : Nat} :
    Within [.out, .regs, .boot, .rows, .drawers, .cur, .host] s (s.proveDrawer g x) := by
  unfold State.proveDrawer
  exact Within.ite (Within.foldl (fun _ _ h => h.step State.proveRow_within) Within.refl) (Within.ite (((Within.foldl (fun _ _
      h => h.step State.marginRow_within) (Within.foldl (fun _ _ h => h.step State.proveRow_within) Within.refl)).step
      State.setRaise_within).step State.makeSuspect_within) ((Within.foldl (fun _ _ h => h.step State.marginRow_within)
      (Within.foldl (fun _ _ h => h.step State.proveRow_within) Within.refl)).step State.makeSuspect_within))

theorem State.saveDigest_within {s : State} {g x : Nat} : Within [.drawers] s (s.saveDigest g x) := by
  unfold State.saveDigest
  exact Within.refl.step State.setDrawer_within

theorem State.proveCabinet_within {s : State} {n : Nat} :
    Within [.out, .regs, .boot, .rows, .drawers, .cur, .host] s (s.proveCabinet n) := by
  unfold State.proveCabinet
  exact Within.foldl (fun _ _ h => h.step State.proveDrawer_within) Within.refl

theorem doCabinetCheckDone_within {c : CabCal} {s : State} :
    Within [.out, .regs, .boot, .rows, .drawers, .cabs, .cur, .host] s (doCabinetCheckDone c s) := by
  unfold doCabinetCheckDone
  exact Within.ite Within.refl (Within.ite (Within.refl.step State.setCab_within) ((Within.refl.step State.setCab_within).step
      State.proveCabinet_within))

theorem State.cabsBoundary_within {s : State} :
    Within [.out, .regs, .boot, .tables, .cabs, .host] s (s.cabsBoundary) := by
  unfold State.cabsBoundary
  exact (Within.foldl (fun _ _ h => h.step State.setCab_within) Within.refl).step State.showDegraded_within

theorem State.endSweep_within {s : State} : Within [.regs, .cur] s (s.endSweep) := by
  unfold State.endSweep
  exact ((Within.refl.step State.put_within).step State.put_within).step State.setCur_within

theorem State.sweepBoundary_within {s : State} : Within [.regs, .cur] s (s.sweepBoundary) := by
  unfold State.sweepBoundary
  exact Within.ite (Within.refl.step State.endSweep_within) Within.refl

theorem State.falseMiss_within {s : State} {r : Row} {ks : List Nat} :
    Within [.out, .regs, .boot, .rows, .drawers, .cur, .host] s (s.falseMiss r ks) := by
  unfold State.falseMiss
  exact Within.ite (Within.foldl (fun _ _ h => (h.step State.defectRow_within).step State.queueRefresh_within)
      ((Within.refl.step State.bump_within).step State.raiseEp_within)) ((((Within.refl.step State.bump_within).step
      State.raiseEp_within).step State.mapRow_within).step State.setCur_within)

theorem State.searchSelf_within {s : State} {r : Row} {stuck : Bool} :
    Within [.out, .regs, .boot, .rows, .faults, .drawers, .cur, .host] s (s.searchSelf r stuck) := by
  unfold State.searchSelf
  exact Within.ite ((Within.ite (Within.refl.step State.setFault_within) Within.refl).step State.mapRow_within) ((Within.ite
      (Within.refl.step State.setFault_within) Within.refl).step State.falseMiss_within)

theorem doSelfSearch_within {t : Fin 64} {id : BitVec 24} {stuck : Bool} {s : State} :
    Within [.out, .regs, .boot, .rows, .faults, .drawers, .cur, .host] s (doSelfSearch t id stuck s) := by
  unfold doSelfSearch
  dsimp only
  exact Within.ite Within.refl (by
      split
      exacts [Within.refl, Within.ite Within.refl (Within.ite ((((Within.refl.step State.takeSweep_within).step
          State.setCur_within).step State.searchSelf_within).step State.endSweep_within) (((Within.refl.step
          State.takeSweep_within).step State.setCur_within).step State.searchSelf_within))])

theorem doSweepPeriodEnd_within {s : State} : Within [.out, .regs, .boot, .cur, .host] s (doSweepPeriodEnd s) := by
  unfold doSweepPeriodEnd
  exact Within.ite (Within.ite (Within.refl.step State.endSweep_within) (Within.refl.step State.setRaise_within)) Within.refl

end Sys2Proof.Machine
end

section
/-! PROOFS. The frame of the operations of Sys2Proof.Machine.Drawers, in the order of that file. -/

namespace Sys2Proof.Machine

set_option Elab.async false

theorem State.swapCopy_within {f g sx : Nat} {s : State} {r : Row} :
    Within [.freeCtr, .out, .regs, .boot, .rows, .cells, .faults, .journal, .drawers, .cur, .host] s (State.swapCopy f g sx s
        r) := by
  induction f generalizing s with
  | zero => exact .refl
  | succ f ih =>
    unfold State.swapCopy
    split
    · exact .refl
    · exact Within.ite ((Within.refl.step State.writeFree_within).step State.enterCopy_within)
        (((Within.refl.step State.writeFree_within).step State.enterCopy_within).step ih)

theorem State.stepSwap_within {s : State} {w : Swap} :
    Within [.freeCtr, .out, .regs, .boot, .rows, .cells, .faults, .journal, .drawers, .cabs, .cur, .host] s (s.stepSwap w) := by
  unfold State.stepSwap
  exact Within.ite (Within.ite (Within.refl.step State.moveReserve_within) Within.refl) (Within.foldl (fun _ _ h => h.step
      State.swapCopy_within) (Within.ite (Within.refl.step State.moveReserve_within) Within.refl))

theorem State.stepSwaps_within {s : State} :
    Within [.freeCtr, .out, .regs, .boot, .rows, .cells, .faults, .journal, .drawers, .cabs, .cur, .host] s (s.stepSwaps) := by
  unfold State.stepSwaps
  exact Within.foldl (fun _ _ h => h.step State.stepSwap_within) Within.refl

theorem State.startTest_within {s : State} {g c d : Nat} :
    Within [.freeCtr, .out, .regs, .boot, .rows, .cells, .faults, .journal, .drawers, .cabs, .cur, .host] s (s.startTest g c
        d) := by
  unfold State.startTest
  exact Within.ite (Within.ite (((((Within.foldl (fun _ _ h => h.step State.cancelSet_within) (Within.refl.step
      State.put_within)).step State.setCur_within).step State.stepSwap_within).step State.setDrawer_within).step
      State.setCab_within) ((((Within.foldl (fun _ _ h => h.step State.cancelSet_within) (Within.refl.step
      State.put_within)).step State.setCur_within).step State.stepSwap_within).step State.setDrawer_within)) (((Within.foldl
      (fun _ _ h => h.step State.cancelSet_within) (Within.refl.step State.put_within)).step State.setCur_within).step
      State.stepSwap_within)

theorem doCurSelftestGo_within {s : State} :
    Within [.freeCtr, .out, .regs, .boot, .rows, .cells, .faults, .journal, .drawers, .cabs, .cur, .host] s (doCurSelftestGo
        s) := by
  unfold doCurSelftestGo
  exact Within.ite ((Within.refl.step State.put_within).step State.put_within) ((Within.refl.step State.put_within).step
      State.startTest_within)

theorem doSelftestRotation_within {g : Fin 8} {s : State} :
    Within [.freeCtr, .out, .regs, .boot, .rows, .cells, .faults, .journal, .drawers, .cabs, .cur, .host] s
        (doSelftestRotation g s) := by
  unfold doSelftestRotation
  exact Within.ite Within.refl (by
      split
      exacts [Within.refl, (Within.refl.step State.drawn_within).step State.startTest_within])

theorem State.retireDrawer_within {s : State} {g x : Nat} :
    Within [.out, .regs, .boot, .bays, .broad, .drawers, .host] s (s.retireDrawer g x) := by
  unfold State.retireDrawer
  exact ((Within.refl.step State.setDrawer_within).upd).step State.raise_within

theorem State.addDefects_within {s : State} {g x : Nat} {rows : List Nat} :
    Within [.regs, .drawers] s (s.addDefects g x rows) := by
  unfold State.addDefects
  exact (Within.refl.step State.setDrawer_within).step State.bump_within

theorem State.coverNone_within {s : State} {g x : Nat} : Within [.journal, .cur] s (s.coverNone g x) := by
  unfold State.coverNone
  exact Within.refl.upd

theorem State.marchWrites_within {s : State} {g x : Nat} :
    Within [.out, .regs, .boot, .cells, .faults, .journal, .drawers, .cur, .host] s (s.marchWrites g x) := by
  unfold State.marchWrites
  exact (((Within.refl.upd.step State.spend_within).step State.bump_within).step State.coverNone_within).step
      State.setDrawer_within

theorem State.tested_within {s : State} {g x : Nat} {bad : List Nat} :
    Within [.out, .regs, .boot, .cells, .faults, .journal, .drawers, .cur, .host] s (s.tested g x bad) := by
  unfold State.tested
  exact ((Within.refl.step State.marchWrites_within).step State.addDefects_within).step State.setDrawer_within

theorem State.testPass_within {s : State} {w : Swap} :
    Within [.freeCtr, .out, .regs, .boot, .rows, .cells, .faults, .journal, .drawers, .cabs, .cur, .host] s (s.testPass w) := by
  unfold State.testPass
  exact Within.ite ((Within.refl.step State.put_within).step State.setDrawer_within) ((((Within.refl.step
      State.put_within).step State.setDrawer_within).step State.setCab_within).step State.moveReserve_within)

theorem State.testFail_within {s : State} {w : Swap} :
    Within [.out, .regs, .boot, .bays, .broad, .drawers, .host] s (s.testFail w) := by
  unfold State.testFail
  exact Within.ite ((((Within.refl.step State.put_within).step State.raise_within).step State.retireDrawer_within).step
      State.raise_within) (((Within.refl.step State.put_within).step State.raise_within).step State.retireDrawer_within)

theorem doDrawerSelftest_within {g : Fin 8} {bad : List (BitVec 11)} {ok : Bool} {s : State} :
    Within [.freeCtr, .out, .regs, .boot, .rows, .cells, .faults, .journal, .bays, .broad, .drawers, .cabs, .cur, .host] s
        (doDrawerSelftest g bad ok s) := by
  unfold doDrawerSelftest
  dsimp only
  split
  · exact Within.refl
  · exact Within.ite Within.refl (Within.ite (((Within.refl.step State.tested_within).step State.setCur_within).step
        State.testPass_within) (((Within.refl.step State.tested_within).step State.setCur_within).step State.testFail_within))

theorem State.retireRow_within {k : Tick} {s : State} {r : Row} :
    Within [.freeCtr, .out, .regs, .boot, .tables, .rows, .cells, .faults, .journal, .lost, .lossList, .drawers, .cabs, .cur,
        .host] s (State.retireRow k s r) := by
  unfold State.retireRow
  exact Within.ite Within.refl (Within.ite (Within.refl.step State.loseEntry_within) (Within.ite Within.refl (Within.ite
      ((Within.refl.step State.copyOne_within).step State.journalRecord_within) (Within.refl.step State.copyOne_within))))

theorem State.retireMore_within {s : State} {k : Tick} :
    Within [.freeCtr, .out, .regs, .boot, .tables, .rows, .cells, .faults, .journal, .lost, .lossList, .drawers, .cabs, .cur,
        .host] s (s.retireMore k) := by
  unfold State.retireMore
  split
  · exact Within.refl
  · exact Within.ite (Within.foldl (fun _ _ h => h.step State.retireRow_within) (Within.refl.step State.retargetAll_within))
        Within.refl

theorem State.startRetire_within {s : State} {g c d : Nat} :
    Within [.freeCtr, .out, .regs, .boot, .tables, .rows, .cells, .faults, .journal, .lost, .lossList, .drawers, .cabs, .cur,
        .host] s (s.startRetire g c d) := by
  unfold State.startRetire
  exact ((Within.refl.step State.put_within).step State.setCur_within).step State.retireMore_within

theorem doCurRetireGo_within {s : State} :
    Within [.freeCtr, .out, .regs, .boot, .tables, .rows, .cells, .faults, .journal, .lost, .lossList, .drawers, .cabs, .cur,
        .host] s (doCurRetireGo s) := by
  unfold doCurRetireGo
  exact Within.ite ((Within.refl.step State.put_within).step State.put_within) ((Within.refl.step State.put_within).step
      State.startRetire_within)

theorem doDrawerRetirementDone_within {g : Fin 8} {s : State} :
    Within [.freeCtr, .out, .regs, .boot, .rows, .cells, .faults, .journal, .bays, .broad, .drawers, .cabs, .cur, .host] s
        (doDrawerRetirementDone g s) := by
  unfold doDrawerRetirementDone
  dsimp only
  split
  · exact Within.refl
  · exact Within.ite (Within.ite (Within.ite (Within.refl.step State.moveReserve_within) Within.refl) ((((Within.ite
        (Within.refl.step State.moveReserve_within) Within.refl).step State.retireDrawer_within).step State.put_within).step
        State.setCur_within)) Within.refl

theorem State.testSuspects_within {s : State} :
    Within [.freeCtr, .out, .regs, .boot, .rows, .cells, .faults, .journal, .drawers, .cabs, .cur, .host] s (s.testSuspects)
        := by
  unfold State.testSuspects
  exact Within.ite (Within.foldl (fun _ _ h => Within.ite h (h.step State.startTest_within)) Within.refl) Within.refl

theorem State.retireSuspects_within {s : State} :
    Within [.freeCtr, .out, .regs, .boot, .tables, .rows, .cells, .faults, .journal, .lost, .lossList, .drawers, .cabs, .cur,
        .host] s (s.retireSuspects) := by
  unfold State.retireSuspects
  exact Within.ite Within.refl (by split; exacts [Within.refl, Within.refl.step State.startRetire_within])

theorem State.level_within {s : State} {g : Nat} :
    Within [.freeCtr, .out, .regs, .boot, .rows, .cells, .faults, .journal, .drawers, .cabs, .cur, .host] s (s.level g) := by
  unfold State.level
  exact Within.ite Within.refl (by
      split
      exacts [Within.refl, (Within.refl.step State.drawn_within).step State.startTest_within])

theorem State.care_within {s : State} :
    Within [.freeCtr, .out, .regs, .boot, .tables, .rows, .cells, .faults, .journal, .lost, .lossList, .drawers, .cabs, .cur,
        .host] s (s.care) := by
  unfold State.care
  exact Within.ite (Within.foldl (fun _ _ h => h.step State.level_within) ((Within.refl.step State.testSuspects_within).step
      State.retireSuspects_within)) Within.refl

theorem State.rewriteLine_within {s : State} :
    Within [.freeCtr, .out, .regs, .boot, .cur, .host] s (s.rewriteLine) := by
  unfold State.rewriteLine
  exact ((Within.refl.step State.drawn_within).step State.spend_within).step State.bump_within

theorem State.scrubStore_within {s : State} {l : BitVec 20} {d : LineRead} :
    Within [.freeCtr, .out, .regs, .boot, .cur, .wrd, .host] s (s.scrubStore l d) := by
  unfold State.scrubStore
  exact Within.ite (Within.ite ((Within.ite (Within.refl.step State.setWrd_within) ((Within.refl.step
      State.setWrd_within).step State.bump_within)).step State.rewriteLine_within) (Within.ite (Within.refl.step
      State.setWrd_within) ((Within.refl.step State.setWrd_within).step State.bump_within))) (Within.ite (Within.ite
      (((Within.refl.step State.setWrd_within).step State.bump_within).step State.rewriteLine_within) ((Within.refl.step
      State.setWrd_within).step State.bump_within)) ((Within.refl.step State.setWrd_within).step State.setRaise_within))

theorem State.startRejects_within {s : State} : Within [.drawers] s (s.startRejects) := by
  unfold State.startRejects
  exact Within.foldl (fun _ _ h => h.upd) Within.refl

theorem doScrubPass_within {reads : List (Nat × ScrubRead)} {store : List (BitVec 20 × LineRead)} {s : State} :
    Within [.freeCtr, .out, .regs, .boot, .tables, .rows, .cells, .faults, .journal, .lost, .lossList, .drawers, .cabs, .cur,
        .wrd, .host] s (doScrubPass reads store s) := by
  unfold doScrubPass
  exact Within.ite Within.refl (((Within.foldl (fun _ _ h => h.step State.scrubStore_within) ((Within.foldl (fun _ _ h =>
      h.step State.scrubRow_within) Within.refl).step State.bump_within)).step State.startRejects_within).step
      State.care_within)

theorem doScrubQueueRead_within {d : ScrubRead} {s : State} :
    Within [.freeCtr, .out, .regs, .boot, .tables, .rows, .cells, .faults, .journal, .lost, .lossList, .drawers, .cabs, .cur,
        .host] s (doScrubQueueRead d s) := by
  unfold doScrubQueueRead
  dsimp only
  split
  · exact Within.refl
  · exact Within.ite ((((Within.refl.step State.setCur_within).step State.scrubRow_within).step State.bump_within).step
        State.care_within) Within.refl

theorem State.eraseArray_within {s : State} :
    Within [.tables, .rows, .journal, .tallies, .lost, .bays, .broad, .drawers] s (s.eraseArray) := by
  unfold State.eraseArray
  exact Within.refl.upd

theorem doCurFulltestGo_within {s : State} :
    Within [.regs, .tables, .rows, .journal, .tallies, .lost, .bays, .broad, .drawers, .cur] s (doCurFulltestGo s) := by
  unfold doCurFulltestGo
  exact Within.ite (Within.ite (Within.refl.step State.put_within) Within.refl) (Within.ite Within.refl (Within.ite
      (((((Within.refl.step State.put_within).step State.put_within).step State.put_within).step State.setCur_within).step
      State.eraseArray_within) ((((Within.refl.step State.put_within).step State.put_within).step State.put_within).step
      State.setCur_within)))

theorem State.showProgress_within {s : State} : Within [.freeCtr, .regs] s (s.showProgress) := by
  unfold State.showProgress
  exact Within.ite ((Within.refl.step State.drawn_within).step State.put_within) Within.refl

theorem State.swapRow_within {f g sx : Nat} {s : State} {r : Row} :
    Within [.freeCtr, .out, .regs, .boot, .rows, .cells, .faults, .journal, .drawers, .cur, .host] s (State.swapRow f g sx s
        r) := by
  induction f generalizing s with
  | zero => exact .refl
  | succ f ih =>
    unfold State.swapRow
    split
    · exact .refl
    · dsimp only
      split
      · exact (Within.refl.step State.writeFree_within).step State.setRows_within
      · exact (Within.refl.step State.writeFree_within).step ih

theorem State.swapNow_within {s : State} {n p : Nat} :
    Within [.freeCtr, .out, .regs, .boot, .tables, .rows, .cells, .faults, .journal, .lost, .lossList, .bays, .broad,
        .drawers, .cabs, .cur, .host] s (s.swapNow n p) := by
  unfold State.swapNow
  exact (((((((Within.foldl (fun _ _ h => h.step State.loseEntry_within) (Within.foldl (fun _ _ h => h.step
      State.swapRow_within) Within.refl)).step State.setRows_within).step State.replaceUnit_within).step
      State.setDrawer_within).step State.setDrawer_within).step State.coverNone_within).step State.setCab_within).step
      State.bump_within

theorem State.fullTestRetire_within {s : State} {n : Nat} :
    Within [.freeCtr, .out, .regs, .boot, .rows, .cells, .faults, .journal, .drawers, .cabs, .cur, .host] s (s.fullTestRetire
        n) := by
  unfold State.fullTestRetire
  exact Within.ite ((((((Within.refl.step State.moveReserve_within).step State.setDrawer_within).step
      State.setCab_within).step State.raise_within).step State.raise_within).step State.raise_within) (((((Within.refl.step
      State.moveReserve_within).step State.setDrawer_within).step State.setCab_within).step State.raise_within).step
      State.raise_within)

theorem State.testSpare_within {found : List (Nat × List (BitVec 11) × Bool)} {s : State} {n : Nat} :
    Within [.freeCtr, .out, .regs, .boot, .rows, .cells, .faults, .journal, .drawers, .cabs, .cur, .host] s (State.testSpare
        found s n) := by
  unfold State.testSpare
  exact Within.ite ((Within.ite (Within.refl.step State.moveReserve_within) Within.refl).step State.tested_within)
      (((Within.ite (Within.refl.step State.moveReserve_within) Within.refl).step State.tested_within).step
      State.fullTestRetire_within)

theorem State.fullTestCab_within {found : List (Nat × List (BitVec 11) × Bool)} {s : State} {n : Nat} :
    Within [.freeCtr, .out, .regs, .boot, .tables, .rows, .cells, .faults, .journal, .lost, .lossList, .bays, .broad,
        .drawers, .cabs, .cur, .host] s (State.fullTestCab found s n) := by
  unfold State.fullTestCab
  exact Within.ite Within.refl (Within.ite (Within.foldl (fun _ _ h => Within.ite h ((h.step State.swapNow_within).step
      State.testSpare_within)) (Within.refl.step State.testSpare_within)) ((Within.foldl (fun _ _ h => Within.ite h ((h.step
      State.swapNow_within).step State.testSpare_within)) (Within.refl.step State.testSpare_within)).step
      State.moveReserve_within))

theorem State.eraseTest_within {found : List (Nat × List (BitVec 11) × Bool)} {s : State} {k : Nat} :
    Within [.freeCtr, .out, .regs, .boot, .rows, .cells, .faults, .journal, .drawers, .cabs, .cur, .host] s (State.eraseTest
        found s k) := by
  unfold State.eraseTest
  exact Within.ite Within.refl (Within.ite (Within.refl.step State.tested_within) (Within.ite ((Within.refl.step
      State.tested_within).step State.fullTestRetire_within) ((((Within.refl.step State.tested_within).step
      State.setDrawer_within).step State.raise_within).step State.raise_within)))

theorem State.fullSweep_within {s : State} {stuck : List (Fin 64 × BitVec 24)} :
    Within [.out, .regs, .boot, .rows, .faults, .drawers, .cur, .host] s (s.fullSweep stuck) := by
  unfold State.fullSweep
  exact (Within.foldl (fun _ _ h => h.step State.searchSelf_within) Within.refl).step State.endSweep_within

theorem doFulltestComplete_within {found : List (Nat × List (BitVec 11) × Bool)} {stuck : List (Fin 64 × BitVec 24)} {cal :
    List CabCal} {s : State} :
    Within [.freeCtr, .out, .regs, .boot, .tables, .rows, .cells, .faults, .journal, .lost, .lossList, .bays, .broad,
        .drawers, .cabs, .cur, .host] s (doFulltestComplete found stuck cal s) := by
  unfold doFulltestComplete
  exact Within.ite Within.refl (((((((((Within.ite (Within.foldl (fun _ _ h => h.step State.eraseTest_within) Within.refl)
      (Within.foldl (fun _ _ h => h.step State.fullTestCab_within) Within.refl)).step State.calibrateAll_within).step
      State.fullSweep_within).step State.dropHistory_within).step State.setCur_within).step State.put_within).step
      State.putB_within).step State.put_within).step State.raise_within)

end Sys2Proof.Machine
end

section
/-! PROOFS. The frame of the operations of Sys2Proof.Machine.Restore, in the order of that file. -/

namespace Sys2Proof.Machine

set_option Elab.async false

theorem doRestoreReq_within {t : Fin 64} {id : BitVec 24} {same : Bool} {s : State} :
    Within [.freeCtr, .out, .seam] s (doRestoreReq t id same s) := by
  unfold doRestoreReq
  dsimp only
  exact Within.ite Within.refl (Within.ite ((Within.refl.step State.drawn_within).step State.sendSeam_within) (by
      split
      exacts [Within.refl.step State.sendSeam_within, Within.ite (Within.refl.step State.sendSeam_within) (Within.ite
          (Within.refl.step State.sendSeam_within) (by
          split
          exacts [Within.refl.step State.sendSeam_within, Within.refl.step State.sendSeam_within]))]))

theorem State.askRestore_within {s : State} : Within [.out, .cur, .seam] s (s.askRestore) := by
  unfold State.askRestore
  exact Within.ite Within.refl ((Within.refl.step State.setCur_within).step State.sendSeams_within)

theorem State.restoreOver_within {s : State} : Within [.out, .regs, .boot, .host] s (s.restoreOver) := by
  unfold State.restoreOver
  exact Within.ite ((Within.ite Within.refl (Within.refl.step State.put_within)).step State.raise_within) Within.refl

theorem State.applyRestore_within {s : State} {t id : Nat} {b : List Byte} :
    Within [.freeCtr, .out, .regs, .boot, .rows, .cells, .faults, .journal, .groups, .drawers, .cabs, .cur, .host] s
      (s.applyRestore t id b).1 := by
  unfold State.applyRestore
  split
  · exact .refl
  · split
    · exact .refl
    · dsimp only
      split
      case _ hu => exact ((Within.refl.step (State.stage_within hu)).upd).step State.bump_within
      · exact .refl
      · exact .refl

theorem doRestoreAns_within {t : Fin 64} {id : BitVec 24} {r : Option (List Byte)} {s : State} :
    Within [.freeCtr, .out, .regs, .boot, .rows, .cells, .faults, .journal, .groups, .drawers, .cabs, .cur, .host] s
        (doRestoreAns t id r s) := by
  unfold doRestoreAns
  dsimp only
  exact Within.ite Within.refl (by
      split
      exacts [((Within.refl.step State.setCur_within).step State.bump_within).step State.restoreOver_within, Within.ite
          (((Within.refl.step State.setCur_within).step State.applyRestore_within).step State.restoreOver_within)
          (Within.refl.step State.setCur_within)])

theorem State.retryRestore_within {s : State} :
    Within [.freeCtr, .out, .regs, .boot, .rows, .cells, .faults, .journal, .groups, .drawers, .cabs, .cur, .host] s
        (s.retryRestore) := by
  unfold State.retryRestore
  exact Within.foldl (fun _ _ h => Within.ite (((h.step State.applyRestore_within).upd).step State.restoreOver_within) h)
      Within.refl

end Sys2Proof.Machine
end

section
/-! PROOFS. The frame of the operations of Sys2Proof.Machine.Maintenance, in the order of that file. -/

namespace Sys2Proof.Machine

set_option Elab.async false

theorem State.haltStart_within {s : State} {cause : Nat} : Within [.regs] s (s.haltStart cause) := by
  unfold State.haltStart
  exact (Within.refl.step State.put_within).step State.put_within

theorem State.countWait_within {s : State} {r : Nat} : Within [.regs, .mnt] s (s.countWait r) := by
  unfold State.countWait
  exact Within.ite (((Within.refl.step State.bump_within).step State.put_within).step State.setReq_within) Within.refl

theorem State.startWait_within {s : State} {r : Nat} : Within [.mnt] s (s.startWait r) := by
  unfold State.startWait
  exact Within.refl.step State.setReq_within

theorem State.markPort_within {s : State} {last : Nat} : Within [.mnt] s (s.markPort last) := by
  unfold State.markPort
  exact Within.refl.upd

theorem State.grant_within {s : State} {r : Nat} : Within [.regs, .mnt] s (s.grant r) := by
  unfold State.grant
  exact (((Within.refl.step State.countWait_within).step State.bump_within).step State.setReq_within).step State.markPort_within

theorem State.arbitrate_within {s : State} : Within [.regs, .mnt] s (s.arbitrate) := by
  unfold State.arbitrate
  split
  · exact Within.refl.step State.grant_within
  · exact Within.refl

theorem doMaintenanceRequest_within {r : Fin 16} {s : State} : Within [.regs, .mnt] s (doMaintenanceRequest r s) := by
  unfold doMaintenanceRequest
  exact Within.ite ((Within.refl.step State.startWait_within).step State.arbitrate_within) Within.refl

theorem doBreakPoint_within {drop : Bool} {s : State} : Within [.regs, .mnt] s (doBreakPoint drop s) := by
  unfold doBreakPoint
  split
  · exact Within.refl
  · exact Within.ite ((Within.refl.step State.setReq_within).step State.arbitrate_within) (by
        split
        exacts [Within.ite ((Within.refl.step State.startWait_within).step State.grant_within) (Within.refl.step
            State.markPort_within), Within.refl.step State.markPort_within])

theorem doStarvation_within {r : Fin 16} {s : State} : Within [.out, .regs, .boot, .host] s (doStarvation r s) := by
  unfold doStarvation
  exact Within.ite ((Within.refl.step State.put_within).step State.raise_within) Within.refl

theorem State.cancelPrepared_within {s : State} {r : Nat} : Within [.rows, .cur] s (s.cancelPrepared r) := by
  unfold State.cancelPrepared
  exact Within.ite ((Within.foldl (fun _ _ h => h.step State.cancelSet_within) Within.refl).upd) (Within.foldl (fun _ _ h =>
      h.step State.cancelSet_within) Within.refl)

theorem State.fenceEngine_within {s : State} : Within [.host] s (s.fenceEngine) := by
  unfold State.fenceEngine
  split
  · exact Within.refl.step State.finish_within
  · exact Within.refl

theorem State.fenceReq_within {s : State} {r : Nat} : Within [.regs, .rows, .cur, .mnt, .host] s (s.fenceReq r) := by
  unfold State.fenceReq
  exact Within.ite ((Within.ite (Within.ite ((Within.ite ((((Within.refl.step State.countWait_within).step
      State.setReq_within).step State.cancelPrepared_within).step State.fenceEngine_within) (((Within.refl.step
      State.countWait_within).step State.setReq_within).step State.cancelPrepared_within)).step State.haltStart_within)
      (Within.ite ((Within.ite ((((Within.refl.step State.countWait_within).step State.setReq_within).step
      State.cancelPrepared_within).step State.fenceEngine_within) (((Within.refl.step State.countWait_within).step
      State.setReq_within).step State.cancelPrepared_within)).step State.haltStart_within) (Within.ite ((((Within.refl.step
      State.countWait_within).step State.setReq_within).step State.cancelPrepared_within).step State.fenceEngine_within)
      (((Within.refl.step State.countWait_within).step State.setReq_within).step State.cancelPrepared_within)))) (Within.ite
      ((((Within.refl.step State.countWait_within).step State.setReq_within).step State.cancelPrepared_within).step
      State.fenceEngine_within) (((Within.refl.step State.countWait_within).step State.setReq_within).step
      State.cancelPrepared_within))).step State.arbitrate_within) (Within.ite (Within.ite ((Within.ite ((((Within.refl.step
      State.countWait_within).step State.setReq_within).step State.cancelPrepared_within).step State.fenceEngine_within)
      (((Within.refl.step State.countWait_within).step State.setReq_within).step State.cancelPrepared_within)).step
      State.haltStart_within) (Within.ite ((Within.ite ((((Within.refl.step State.countWait_within).step
      State.setReq_within).step State.cancelPrepared_within).step State.fenceEngine_within) (((Within.refl.step
      State.countWait_within).step State.setReq_within).step State.cancelPrepared_within)).step State.haltStart_within)
      (Within.ite ((((Within.refl.step State.countWait_within).step State.setReq_within).step
      State.cancelPrepared_within).step State.fenceEngine_within) (((Within.refl.step State.countWait_within).step
      State.setReq_within).step State.cancelPrepared_within)))) (Within.ite ((((Within.refl.step State.countWait_within).step
      State.setReq_within).step State.cancelPrepared_within).step State.fenceEngine_within) (((Within.refl.step
      State.countWait_within).step State.setReq_within).step State.cancelPrepared_within)))

theorem doWatchdogExpiry_within {s : State} :
    Within [.out, .regs, .boot, .rows, .cur, .mnt, .host, .cfg] s (doWatchdogExpiry s) := by
  unfold doWatchdogExpiry
  split
  · exact Within.refl
  · exact Within.ite ((((Within.refl.step State.fenceReq_within).step State.bump_within).step State.raise_within).step
        State.oweLog_within) Within.refl

theorem doMntUnfence_within {r : Fin 16} {s : State} :
    Within [.freeCtr, .out, .regs, .boot, .rows, .cells, .faults, .journal, .drawers, .cabs, .cur, .mnt, .host] s
        (doMntUnfence r s) := by
  unfold doMntUnfence
  exact Within.ite Within.refl (Within.ite ((Within.refl.step State.setReq_within).step State.stepSwaps_within)
      (Within.refl.step State.setReq_within))

end Sys2Proof.Machine
end

section
/-! PROOFS. The frame of the operations of Sys2Proof.Machine.PortCmds, in the order of that file. -/

namespace Sys2Proof.Machine

set_option Elab.async false

theorem State.toState_within {s : State} {l : Link} {st : LState} :
    Within [.ports, .seam, .csc] s (s.toState l st) := by
  unfold State.toState
  exact Within.refl.step State.setLink_within

theorem State.portDown_within {s : State} {p : Nat} :
    Within [.out, .regs, .boot, .ports, .planned, .rptPend, .host, .seam, .csc] s (s.portDown p) := by
  unfold State.portDown
  exact ((((Within.refl.step State.leaveUp_within).step State.setPort_within).upd).step State.bump_within).step
      State.raise_within

theorem State.fencePort_within {s : State} {p : Nat} {st : LState} :
    Within [.out, .regs, .boot, .ports, .planned, .host, .seam, .csc] s (s.fencePort p st) := by
  unfold State.fencePort
  exact ((Within.refl.step State.flushPort_within).step State.leaveUp_within).step State.setPort_within

theorem doPrtEnWrite_within {p : Fin 16} {en : Bool} {s : State} :
    Within [.out, .regs, .boot, .ports, .planned, .host, .seam, .csc] s (doPrtEnWrite p en s) := by
  unfold doPrtEnWrite
  exact Within.ite (Within.ite ((Within.refl.step State.putB_within).step State.startTraining_within) (Within.refl.step
      State.putB_within)) (Within.ite (Within.refl.step State.putB_within) ((Within.refl.step State.putB_within).step
      State.fencePort_within))

theorem doPrtSelftestStart_within {p : Fin 16} {s : State} :
    Within [.out, .regs, .boot, .ports, .planned, .host, .seam, .csc] s (doPrtSelftestStart p s) := by
  unfold doPrtSelftestStart
  exact Within.ite Within.refl ((((Within.refl.step State.put_within).step State.put_within).step State.put_within).step
      State.fencePort_within)

theorem doPrtSelftestDone_within {p : Fin 16} {corrected doubles : Nat} {s : State} :
    Within [.regs] s (doPrtSelftestDone p corrected doubles s) := by
  unfold doPrtSelftestDone
  exact Within.ite ((((Within.refl.step State.bump_within).step State.bump_within).step State.put_within).step
      State.putB_within) Within.refl

theorem doPrtSelftestEnd_within {p : Fin 16} {s : State} :
    Within [.regs, .ports, .seam, .csc] s (doPrtSelftestEnd p s) := by
  unfold doPrtSelftestEnd
  exact Within.ite ((Within.refl.step State.put_within).step State.toState_within) (Within.refl.step State.put_within)

theorem State.trainStep_within {s : State} {l : Link} {a b : LState} :
    Within [.ports, .seam, .csc] s (s.trainStep l a b) := by
  unfold State.trainStep
  exact Within.ite (Within.refl.step State.setLink_within) Within.refl

theorem doLaneAlignment_within {l : Link} {skewNs : Nat} {s : State} :
    Within [.out, .ports, .seam, .csc] s (doLaneAlignment l skewNs s) := by
  unfold doLaneAlignment
  exact Within.ite ((Within.refl.step State.setLink_within).step State.sendLink_within) Within.refl

theorem doHelloTimeout_within {l : Link} {s : State} : Within [.regs, .ports, .seam, .csc] s (doHelloTimeout l s) := by
  unfold doHelloTimeout
  dsimp only
  exact Within.ite Within.refl (by
      split
      exacts [(Within.refl.step State.toState_within).step State.bump_within, Within.refl.step State.toState_within])

end Sys2Proof.Machine
end

section
/-! PROOFS. The frame of the operations of Sys2Proof.Machine.Sites, in the order of that file. -/

namespace Sys2Proof.Machine

set_option Elab.async false

theorem State.storeSite_within {s : State} {n : Nat} {v : BitVec 64} : Within [.sites] s (s.storeSite n v) := by
  unfold State.storeSite
  exact Within.refl.step State.setSite_within

theorem doSiteWrite_within {n : BitVec 12} {v : BitVec 64} {size : Nat} {upper : Bool} {s : State} :
    Within [.out, .sites, .seam] s (doSiteWrite n v size upper s) := by
  unfold doSiteWrite
  exact Within.ite Within.refl (Within.ite (Within.refl.step State.startMirror_within) (Within.refl.step
      State.storeSite_within))

theorem State.sitesBoundary_within {s : State} : Within [.sites] s (s.sitesBoundary) := by
  unfold State.sitesBoundary
  exact Within.foldl (fun _ _ h => h.step State.setSite_within) Within.refl

theorem doRptAgeing_within {s : State} : Within [.rptPend] s (doRptAgeing s) := by
  unfold doRptAgeing
  exact Within.ite Within.refl Within.refl.upd

theorem State.staticFields_within {s : State} {tag port op : Nat} : Within [.regs] s (s.staticFields tag port op) := by
  unfold State.staticFields
  exact ((Within.refl.step State.put_within).step State.put_within).step State.put_within

theorem State.staticGo_within {s : State} {write : Bool} {tag port : Nat} :
    Within [.regs, .rptPend] s (s.staticGo write tag port) := by
  unfold State.staticGo
  exact Within.ite Within.refl ((Within.refl.step State.put_within).upd)

theorem doRptStaticInvalid_within {op : BitVec 2} {s : State} : Within [.regs] s (doRptStaticInvalid op s) := by
  unfold doRptStaticInvalid
  exact Within.ite (Within.refl.step State.put_within) ((Within.refl.step State.put_within).step State.put_within)

theorem State.applyStatic_within {s : State} {e : Bool × Nat × Nat} :
    Within [.freeCtr, .out, .regs, .boot, .rpt, .host] s (s.applyStatic e) := by
  unfold State.applyStatic
  exact Within.ite ((Within.refl.step State.rptStaticPut_within).step State.put_within) (Within.ite (((Within.refl.step
      State.rptScrub_within).step State.setRpt_within).step State.put_within) ((Within.refl.step State.rptScrub_within).step
      State.put_within))

theorem State.applyFlush_within {s : State} {f : RptFlush} :
    Within [.out, .regs, .boot, .rpt, .host] s (s.applyFlush f) := by
  unfold State.applyFlush
  dsimp only
  split
  · exact Within.refl.step State.setRpt_within
  · exact Within.ite (((Within.refl.step State.setRpt_within).step State.emit_within).step State.owedReady_within)
        (((Within.refl.step State.setRpt_within).step State.dmaFail_within).step State.owedReady_within)

theorem State.rptBoundary_within {s : State} :
    Within [.freeCtr, .out, .regs, .boot, .rpt, .rptPend, .host] s (s.rptBoundary) := by
  unfold State.rptBoundary
  exact (Within.ite (Within.foldl (fun _ _ h => h.step State.applyStatic_within) (Within.foldl (fun _ _ h => h.step
      State.applyFlush_within) (Within.foldl (fun _ _ h => h.step State.rptLearn_within) (((Within.refl.step
      State.setRpt_within).step State.bump_within).step State.setRpt_within)))) ((Within.foldl (fun _ _ h => h.step
      State.applyStatic_within) (Within.foldl (fun _ _ h => h.step State.applyFlush_within) (Within.foldl (fun _ _ h => h.step
      State.rptLearn_within) (((Within.refl.step State.setRpt_within).step State.bump_within).step
      State.setRpt_within)))).step State.put_within)).upd

theorem doShadowPass_within {s : State} : Within [.out, .regs, .boot, .rpt, .host] s (doShadowPass s) := by
  unfold doShadowPass
  dsimp only
  exact Within.ite Within.refl (by
      split
      exacts [Within.foldl (fun _ _ h => h.step State.rptScrub_within) Within.refl, ((((Within.foldl (fun _ _ h => h.step
          State.rptScrub_within) Within.refl).step State.bump_within).step State.put_within).step State.put_within).step
          State.raise_within])

theorem coreRptSearch_within {s : State} {_own : Option (Nat × Nat × Nat)} {f : Nat} {c : CmdSlot} {d : Dma} :
    Within [.out, .regs, .boot, .rpt, .host] s ((coreRptSearch s _own f c d).s) := by
  unfold coreRptSearch
  dsimp only
  exact Within.apply_ite Ran.s (Within.refl.step State.deny_within) (Within.apply_ite Ran.s (Within.refl.step
      State.deny_within) (by
      split
      exacts [(Within.refl.step State.rptScrub_within).step State.deny_within, (Within.refl.step State.rptScrub_within).step
          State.hostPut_within]))

theorem State.rptFound_within {s : State} {cursor : Nat} {e : Option RptEntry} :
    Within [.out, .regs, .boot, .rpt, .host] s (s.rptFound cursor e) := by
  unfold State.rptFound
  exact Within.foldl (fun _ _ h => h.step State.rptScrub_within) Within.refl

theorem coreRptNext_within {s : State} {_own : Option (Nat × Nat × Nat)} {f : Nat} {c : CmdSlot} {d : Dma} :
    Within [.out, .regs, .boot, .rpt, .host] s ((coreRptNext s _own f c d).s) := by
  unfold coreRptNext
  dsimp only
  exact Within.apply_ite Ran.s (Within.refl.step State.deny_within) (Within.apply_ite Ran.s (Within.refl.step
      State.deny_within) (by
      split
      exacts [(Within.refl.step State.rptFound_within).step State.deny_within, (Within.refl.step State.rptFound_within).step
          State.hostPut_within]))

theorem coreRptFlush_within {s : State} {own : Option (Nat × Nat × Nat)} {f : Nat} {c : CmdSlot} {d : Dma} :
    Within [.rptPend] s ((coreRptFlush s own f c d).s) := by
  unfold coreRptFlush
  exact Within.apply_ite Ran.s (Within.refl.step State.deny_within) (Within.apply_ite Ran.s (Within.refl.step
      State.deny_within) Within.refl.upd)

theorem State.addControl_within {s : State} {c : CtlOp} : Within [.host] s (s.addControl c) := by
  unfold State.addControl
  exact Within.refl.upd

theorem coreCtlSend_within {s : State} {own : Option (Nat × Nat × Nat)} {f : Nat} {c : CmdSlot} {d : Dma} :
    Within [.out, .regs, .boot, .rpt, .host] s ((coreCtlSend s own f c d).s) := by
  unfold coreCtlSend
  dsimp only
  exact Within.apply_ite Ran.s (Within.refl.step State.deny_within) (Within.apply_ite Ran.s (Within.refl.step
      State.deny_within) (by
      split
      exacts [Within.refl.step State.dmaDeny_within, (by
          split
          exacts [Within.apply_ite Ran.s ((Within.refl.step State.rptScrub_within).step State.addControl_within)
              ((Within.refl.step State.rptScrub_within).step State.bump_within), ((Within.refl.step
              State.rptScrub_within).step State.addControl_within).step State.bump_within])]))

end Sys2Proof.Machine
end

section
/-! PROOFS. The frame of the operations of Sys2Proof.Machine.TickSrc, in the order of that file. -/

namespace Sys2Proof.Machine

set_option Elab.async false

theorem State.setTick_within {s : State} {t : TickUnit} : Within [.tick] s (s.setTick t) := by
  unfold State.setTick
  exact Within.refl.upd

theorem State.lockSource_within {s : State} {e0 p : Nat} : Within [.regs, .tick] s (s.lockSource e0 p) := by
  unfold State.lockSource
  exact (((((Within.refl.step State.setTick_within).step State.put_within).step State.put_within).step State.put_within).step
      State.put_within).step State.showLatency_within

theorem State.measureEdge_within {s : State} : Within [.regs, .tick] s (s.measureEdge) := by
  unfold State.measureEdge
  dsimp only
  split
  · exact Within.ite (Within.refl.step State.lockSource_within) (Within.refl.step State.setTick_within)
  · exact Within.refl.step State.setTick_within

theorem State.earlyEdge_within {s : State} : Within [.out, .regs, .boot, .host] s (s.earlyEdge) := by
  unfold State.earlyEdge
  exact (Within.refl.step State.bump_within).step State.raiseRate_within

theorem State.showOffset_within {s : State} : Within [.regs] s (s.showOffset) := by
  unfold State.showOffset
  exact Within.refl.step State.put_within

theorem State.refine_within {s : State} : Within [.regs, .tick] s (s.refine) := by
  unfold State.refine
  exact Within.ite (((Within.refl.step State.setTick_within).step State.put_within).step State.showLatency_within) Within.refl

theorem State.landEdge_within {s : State} : Within [.tick] s (s.landEdge) := by
  unfold State.landEdge
  exact Within.ite (Within.refl.step State.setTick_within) Within.refl

theorem State.trackEdge_within {s : State} : Within [.out, .regs, .boot, .tick, .host] s (s.trackEdge) := by
  unfold State.trackEdge
  exact Within.ite (((((Within.refl.step State.setTick_within).step State.refine_within).step State.setTick_within).step
      State.showOffset_within).step State.landEdge_within) (Within.refl.step State.earlyEdge_within)

theorem State.reblock_within {s : State} : Within [.out, .regs, .boot, .host] s (s.reblock) := by
  unfold State.reblock
  exact Within.ite Within.refl (Within.refl.step State.setBlock_within)

theorem State.reacquire_within {s : State} {e0 : Nat} :
    Within [.out, .regs, .boot, .tick, .host] s (s.reacquire e0) := by
  unfold State.reacquire
  exact ((((Within.refl.step State.setTick_within).step State.bump_within).step State.put_within).step State.put_within).step
      State.reblock_within

theorem State.addRetime_within {s : State} {f : Retime → Retime} :
    Within [.out, .regs, .boot, .tick, .host] s (s.addRetime f) := by
  unfold State.addRetime
  exact (Within.refl.step State.setTick_within).step State.reblock_within

theorem State.watchEdge_within {s : State} : Within [.out, .regs, .boot, .tick, .host] s (s.watchEdge) := by
  unfold State.watchEdge
  dsimp only
  split
  · exact Within.ite (Within.refl.step State.reacquire_within) (Within.ite ((Within.refl.step State.setTick_within).step
        State.addRetime_within) (Within.refl.step State.setTick_within))
  · exact Within.refl.step State.setTick_within

theorem doTickReferenceEdge_within {s : State} :
    Within [.out, .regs, .boot, .tick, .host] s (doTickReferenceEdge s) := by
  unfold doTickReferenceEdge
  exact Within.ite Within.refl ((Within.ite ((Within.ite (Within.refl.step State.earlyEdge_within) Within.refl).step
      State.measureEdge_within) (Within.ite ((Within.ite (Within.refl.step State.earlyEdge_within) Within.refl).step
      State.watchEdge_within) (Within.ite (Within.ite (Within.refl.step State.earlyEdge_within) Within.refl) (Within.refl.step
      State.trackEdge_within)))).step State.setTick_within)

theorem State.loseSource_within {s : State} : Within [.out, .regs, .boot, .tick, .host] s (s.loseSource) := by
  unfold State.loseSource
  exact (((Within.refl.step State.put_within).step State.raise_within).step State.setTick_within).step State.reblock_within

theorem State.missSeam_within {s : State} : Within [.seam] s (s.missSeam) := by
  unfold State.missSeam
  exact Within.ite Within.refl.upd Within.refl

theorem doMissedEdge_within {s : State} : Within [.out, .regs, .boot, .tick, .host, .seam] s (doMissedEdge s) := by
  unfold doMissedEdge
  exact Within.ite Within.refl (Within.ite ((Within.ite ((((Within.refl.step State.bump_within).step
      State.setTick_within).step State.setTick_within).step State.missSeam_within) ((Within.refl.step State.bump_within).step
      State.setTick_within)).step State.loseSource_within) (Within.ite ((((Within.refl.step State.bump_within).step
      State.setTick_within).step State.setTick_within).step State.missSeam_within) ((Within.refl.step State.bump_within).step
      State.setTick_within)))

theorem doTickSourceMissing_within {s : State} : Within [.regs, .tick] s (doTickSourceMissing s) := by
  unfold doTickSourceMissing
  exact Within.ite ((Within.refl.step State.setTick_within).step State.put_within) Within.refl

theorem doTickMarker_within {l : Link} {f : Flit} {p : Nat} {s : State} :
    Within [.out, .regs, .boot, .tick, .host, .seam] s (doTickMarker l f p s) := by
  unfold doTickMarker
  exact Within.ite Within.refl (((((((Within.refl.step State.setTick_within).step State.put_within).step
      State.put_within).step State.put_within).step State.showLatency_within).step State.reblock_within).upd)

theorem doTickSettingWrite_within {t : TickSetting} {s : State} :
    Within [.out, .regs, .boot, .tick, .host] s (doTickSettingWrite t s) := by
  unfold doTickSettingWrite
  exact Within.ite (Within.refl.step State.put_within) (Within.ite Within.refl (Within.refl.step State.addRetime_within))

theorem State.checkSettle_within {s : State} : Within [.out, .regs, .boot, .host] s (s.checkSettle) := by
  unfold State.checkSettle
  exact Within.ite Within.refl (Within.ite ((Within.refl.step State.put_within).step State.setRaise_within) (Within.refl.step
      State.put_within))

theorem State.retimeFields_within {s : State} {r : Retime} : Within [.regs] s (s.retimeFields r) := by
  unfold State.retimeFields
  dsimp only
  split
  · exact Within.step (by
        split
        exacts [Within.step (by
            split
            exacts [Within.step (by
                split
                exacts [Within.step (by
                    split
                    exacts [Within.refl.step State.put_within, Within.refl]) State.put_within, (by
                    split
                    exacts [Within.refl.step State.put_within, Within.refl])]) State.put_within, (by
                split
                exacts [Within.step (by
                    split
                    exacts [Within.refl.step State.put_within, Within.refl]) State.put_within, (by
                    split
                    exacts [Within.refl.step State.put_within, Within.refl])])]) State.putB_within, (by
            split
            exacts [Within.step (by
                split
                exacts [Within.step (by
                    split
                    exacts [Within.refl.step State.put_within, Within.refl]) State.put_within, (by
                    split
                    exacts [Within.refl.step State.put_within, Within.refl])]) State.put_within, (by
                split
                exacts [Within.step (by
                    split
                    exacts [Within.refl.step State.put_within, Within.refl]) State.put_within, (by
                    split
                    exacts [Within.refl.step State.put_within, Within.refl])])])]) State.put_within
  · split
    · exact Within.step (by
          split
          exacts [Within.step (by
              split
              exacts [Within.step (by
                  split
                  exacts [Within.refl.step State.put_within, Within.refl]) State.put_within, (by
                  split
                  exacts [Within.refl.step State.put_within, Within.refl])]) State.put_within, (by
              split
              exacts [Within.step (by
                  split
                  exacts [Within.refl.step State.put_within, Within.refl]) State.put_within, (by
                  split
                  exacts [Within.refl.step State.put_within, Within.refl])])]) State.putB_within
    · split
      · exact Within.step (by
            split
            exacts [Within.step (by
                split
                exacts [Within.refl.step State.put_within, Within.refl]) State.put_within, (by
                split
                exacts [Within.refl.step State.put_within, Within.refl])]) State.put_within
      · split
        · exact Within.step (by split; exacts [Within.refl.step State.put_within, Within.refl]) State.put_within
        · split
          · exact Within.refl.step State.put_within
          · exact Within.refl

theorem State.retimeSource_within {s : State} {src : Option Nat} : Within [.regs, .tick] s (s.retimeSource src) := by
  unfold State.retimeSource
  dsimp only
  split
  · exact Within.ite (Within.refl.step State.put_within) Within.refl
  · exact Within.ite (((((Within.refl.step State.put_within).step State.put_within).step State.putB_within).step
        State.setTick_within).step State.put_within) ((((Within.refl.step State.put_within).step State.put_within).step
        State.putB_within).step State.setTick_within)

theorem doRetimingApply_within {s : State} : Within [.out, .regs, .boot, .tick, .host] s (doRetimingApply s) := by
  unfold doRetimingApply
  dsimp only
  split
  · exact Within.refl
  · exact Within.ite Within.refl ((((((Within.refl.step State.retimeFields_within).step State.retimeSource_within).step
        State.setTick_within).step State.showLatency_within).step State.checkSettle_within).step State.reblock_within)

theorem State.endRetime_within {s : State} : Within [.tick] s (s.endRetime) := by
  unfold State.endRetime
  dsimp only
  split
  · exact Within.refl
  · exact Within.ite (Within.refl.step State.setTick_within) Within.refl

theorem State.leaveFollower_within {s : State} {ext : Bool} : Within [.regs, .tick] s (s.leaveFollower ext) := by
  unfold State.leaveFollower
  exact Within.ite (Within.refl.step State.setTick_within) (Within.ite (((Within.refl.step State.setTick_within).step
      State.put_within).step State.put_within) ((((Within.refl.step State.setTick_within).step State.put_within).step
      State.put_within).step State.put_within))

end Sys2Proof.Machine
end

section
/-! PROOFS. The frame of the operations of Sys2Proof.Machine.Seam, in the order of that file. -/

namespace Sys2Proof.Machine

set_option Elab.async false

theorem State.setSeam_within {s : State} {x : Seam} : Within [.seam] s (s.setSeam x) := by
  unfold State.setSeam
  exact Within.refl.upd

theorem State.greet_within {s : State} : Within [.out, .seam] s (s.greet) := by
  unfold State.greet
  exact Within.ite (Within.refl.step State.sendSeam_within) Within.refl

theorem State.decideAttach_within {s : State} :
    Within [.out, .regs, .boot, .tick, .host, .seam] s (s.decideAttach) := by
  unfold State.decideAttach
  dsimp only
  split
  · exact Within.refl
  · exact Within.ite Within.refl (Within.ite (((Within.refl.step State.setSeam_within).step State.setSeam_within).step
        State.setRaise_within) (Within.ite ((((Within.refl.step State.setSeam_within).step State.put_within).step
        State.setSeam_within).step State.checkSettle_within) (((((Within.refl.step State.setSeam_within).step
        State.put_within).step State.setSeam_within).step State.addRetime_within).step State.checkSettle_within)))

theorem State.compareRec_within {s : State} {stamp group : Nat} {r : GroupRec} :
    Within [.out, .regs, .seam] s (s.compareRec stamp group r) := by
  unfold State.compareRec
  exact Within.ite ((Within.refl.step State.setSeam_within).step State.bump_within) ((((Within.refl.step
      State.setSeam_within).step State.bump_within).step State.bump_within).step State.sendSeams_within)

theorem doDigest_within {f : Flit} {s : State} : Within [.out, .regs, .seam] s (doDigest f s) := by
  unfold doDigest
  exact Within.ite Within.refl (Within.foldl (fun _ _ h => Within.ite (h.step State.compareRec_within) (h.step
      State.setSeam_within)) Within.refl)

theorem doChdigest_within {f : Flit} {s : State} : Within [.out, .regs, .boot, .host, .seam] s (doChdigest f s) := by
  unfold doChdigest
  dsimp only
  split
  · exact Within.refl
  · exact ((((((Within.refl.step State.setSeam_within).step State.put_within).step State.put_within).step
        State.put_within).step State.put_within).step State.put_within).step State.raiseEp_within

theorem State.digestBoundary_within {s : State} : Within [.out, .regs, .seam] s (s.digestBoundary) := by
  unfold State.digestBoundary
  exact Within.ite Within.refl ((Within.foldl (fun _ _ h => h.step State.compareRec_within) ((Within.ite (Within.refl.step
      State.sendSeams_within) Within.refl).step State.setSeam_within)).step State.setSeam_within)

theorem State.setOps_within {s : State} {l : List Mirrored} : Within [.seam] s (s.setOps l) := by
  unfold State.setOps
  exact Within.refl.step State.setSeam_within

theorem State.setOp_within {s : State} {m : Mirrored} : Within [.seam] s (s.setOp m) := by
  unfold State.setOp
  exact Within.refl.step State.setOps_within

theorem State.dropOp_within {s : State} {m : Mirrored} : Within [.seam] s (s.dropOp m) := by
  unfold State.dropOp
  exact Within.refl.step State.setOps_within

theorem coreOf_within {handle : Nat} {s : State} {own : Option (Nat × Nat × Nat)} {f : Nat} {c : CmdSlot} {d : Dma} :
    Within [.freeCtr, .out, .regs, .boot, .chans, .tables, .rows, .cells, .faults, .journal, .groups, .bays, .drawers, .cabs,
        .cur, .wrd, .host] s ((coreOf handle s own f c d).s) := by
  unfold coreOf
  split
  · exact Within.refl.step coreTblCreate_within
  · exact Within.refl.step coreTblDestroy_within
  · exact Within.refl.step coreEdit_within
  · exact Within.refl.step coreTblDelete_within
  · exact Within.refl.step coreEdit_within
  · exact Within.refl.step coreEditCommit_within
  · exact Within.refl.step coreChnCreate_within
  · exact Within.refl.step coreChnDestroy_within
  · exact Within.refl.step coreAdataWrite_within
  · exact Within.refl.step coreWrdOp_within
  · exact Within.refl.step State.deny_within

theorem State.deferOp_within {s : State} {m : Mirrored} : Within [.regs, .groups] s (s.deferOp m) := by
  unfold State.deferOp
  split
  · exact Within.ite ((Within.refl.step State.setGroup_within).step State.bump_within) Within.refl
  · exact Within.refl

theorem State.bindOp_within {s : State} {m : Mirrored} {k : Tick} : Within [.groups, .seam] s (s.bindOp m k) := by
  unfold State.bindOp
  dsimp only
  split
  · exact (Within.refl.step State.setOp_within).step State.setGroup_within
  · exact Within.refl.step State.setOp_within

theorem State.holdChange_within {s : State} {m : Mirrored} : Within [.wrd] s (s.holdChange m) := by
  unfold State.holdChange
  dsimp only
  split
  · exact Within.ite (by split; exacts [Within.refl.step State.setWrd_within, Within.refl]) Within.refl
  · exact Within.refl

theorem State.sendReady_within {s : State} {m : Mirrored} : Within [.out, .regs, .groups, .seam] s (s.sendReady m) := by
  unfold State.sendReady
  exact Within.ite (Within.refl.step State.sendSeam_within) (Within.refl.step State.deferOp_within)

theorem State.stagePeer_within {s : State} {m : Mirrored} :
    Within [.freeCtr, .out, .regs, .boot, .chans, .tables, .rows, .cells, .faults, .journal, .groups, .bays, .drawers, .cabs,
        .cur, .wrd, .host, .seam] s (s.stagePeer m) := by
  unfold State.stagePeer
  dsimp only
  split
  · exact Within.ite Within.refl (Within.ite (((Within.refl.step coreOf_within).step State.dropOp_within).step
        State.sendSeam_within) (Within.ite (((Within.refl.step coreOf_within).step State.dropOp_within).step
        State.sendSeam_within) (((((Within.refl.step coreOf_within).step State.setOp_within).step
        State.holdChange_within).step State.sendSeam_within).step State.sendReady_within)))
  · exact Within.ite (((Within.refl.step State.setOp_within).step State.sendSeam_within).step State.sendReady_within)
        (((Within.refl.step State.applyQuota_within).step State.dropOp_within).step State.sendSeam_within)
  · exact ((Within.refl.step State.setOp_within).step State.sendSeam_within).step State.sendReady_within
  · exact ((Within.refl.step State.setOp_within).step State.sendSeam_within).step State.sendReady_within

theorem State.laterGroup_within {s : State} {c : CmdSlot} {d : Dma} {k : Tick} :
    Within [.freeCtr, .out, .regs, .boot, .rows, .cells, .faults, .journal, .groups, .drawers, .cabs, .cur, .host] s
      (s.laterGroup c d k) := by
  unfold State.laterGroup
  dsimp only
  split
  · exact .refl
  · split
    case _ hu =>
      exact ((Within.ite .refl (Within.refl.step State.setGroups_within)).step (State.stage_within hu)).step
          State.setGroup_within
    · exact .refl

theorem doMirror_within {id : Nat} {op : MirrorOp} {k : Option Tick} {s : State} :
    Within [.freeCtr, .out, .regs, .boot, .chans, .tables, .rows, .cells, .faults, .journal, .groups, .bays, .drawers, .cabs,
        .cur, .wrd, .host, .seam] s (doMirror id op k s) := by
  unfold doMirror
  dsimp only
  split
  · exact (Within.refl.step State.setOps_within).step State.stagePeer_within
  · split
    · exact Within.ite (Within.refl.step State.laterGroup_within) Within.refl
    · exact Within.refl
  · exact Within.refl

theorem State.enterOp_within {s : State} {m : Mirrored} {e : Cmd} {f : Nat} {c : CmdSlot} {d : Dma} {h : Nat} :
    Within [.freeCtr, .out, .regs, .boot, .chans, .tables, .rows, .cells, .faults, .journal, .groups, .bays, .drawers, .cabs,
        .cur, .wrd, .host, .seam] s (s.enterOp m e f c d h) := by
  unfold State.enterOp
  exact Within.ite ((((Within.refl.step State.vestFull_within).step State.finish_within).step State.dropOp_within).step
      State.sendSeam_within) (Within.ite ((((Within.refl.step coreOf_within).step State.complete_within).step
      State.dropOp_within).step State.sendSeam_within) (Within.ite (((Within.refl.step coreOf_within).step
      State.complete_within).step State.dropOp_within) ((((Within.refl.step coreOf_within).step State.finishLater_within).step
      State.setOp_within).step State.holdChange_within)))

theorem doStaged_within {id : Nat} {handle : BitVec 16} {s : State} :
    Within [.freeCtr, .out, .regs, .boot, .chans, .tables, .rows, .cells, .faults, .journal, .groups, .bays, .drawers, .cabs,
        .cur, .wrd, .host, .seam] s (doStaged id handle s) := by
  unfold doStaged
  split
  · exact Within.refl
  · exact Within.ite Within.refl (by
        split
        exacts [(by
            split
            exacts [Within.refl, Within.ite (Within.refl.step State.enterOp_within) Within.refl]), Within.refl.step
            State.setOp_within])

theorem doRefuse_within {id : Nat} {status : BitVec 8} {s : State} :
    Within [.out, .regs, .boot, .host, .seam] s (doRefuse id status s) := by
  unfold doRefuse
  dsimp only
  split
  · exact Within.refl
  · exact Within.ite Within.refl (by
        split
        exacts [(by
            split
            exacts [Within.ite ((Within.refl.step State.dropOp_within).step State.finish_within) (Within.refl.step
                State.dropOp_within), Within.refl.step State.dropOp_within]), (Within.refl.step State.dropOp_within).step
            State.chanCause_within, Within.refl.step State.dropOp_within])

theorem State.tryPropose_within {s : State} {m : Mirrored} :
    Within [.out, .regs, .groups, .seam] s (s.tryPropose m) := by
  unfold State.tryPropose
  exact Within.ite (Within.ite ((Within.refl.step State.setOp_within).step State.sendSeam_within) (Within.refl.step
      State.deferOp_within)) Within.refl

theorem doReady_within {id : Nat} {s : State} : Within [.out, .regs, .groups, .seam] s (doReady id s) := by
  unfold doReady
  split
  · exact Within.refl
  · exact (Within.refl.step State.setOp_within).step State.tryPropose_within

theorem State.answer_within {s : State} {m : Mirrored} {k : Tick} :
    Within [.out, .regs, .groups, .seam] s (s.answer m k) := by
  unfold State.answer
  exact Within.ite ((Within.refl.step State.bindOp_within).step State.sendSeam_within) (((Within.refl.step
      State.setOp_within).step State.deferOp_within).step State.sendSeam_within)

theorem doPropose_within {id : Nat} {k : BitVec 48} {s : State} :
    Within [.out, .regs, .groups, .seam] s (doPropose id k s) := by
  unfold doPropose
  split
  · exact Within.refl
  · exact Within.ite (Within.refl.step State.answer_within) Within.refl

theorem doAgree_within {id : Nat} {k : BitVec 48} {s : State} : Within [.groups, .seam] s (doAgree id k s) := by
  unfold doAgree
  split
  · exact Within.refl
  · split
    · exact Within.refl.step State.bindOp_within
    · exact Within.refl.step State.bindOp_within
    · exact Within.refl

theorem State.agreeReleased_within {s : State} {t : Nat} :
    Within [.out, .regs, .groups, .seam] s (s.agreeReleased t) := by
  unfold State.agreeReleased
  split
  · exact Within.refl
  · exact Within.ite (Within.refl.step State.tryPropose_within) (by
        split
        exacts [Within.refl.step State.sendReady_within, Within.refl.step State.answer_within, Within.refl])

theorem State.fenceCmd_within {s : State} {c : Option (Nat × Nat × Nat)} : Within [.host] s (s.fenceCmd c) := by
  unfold State.fenceCmd
  split
  · exact Within.refl.step State.owedReady_within
  · exact Within.refl

theorem State.undoOp_within {s : State} {m : Mirrored} :
    Within [.chans, .tables, .bays, .broad, .wrd, .host, .seam] s (s.undoOp m) := by
  unfold State.undoOp
  dsimp only
  split
  · split
    · split
      · exact Within.ite ((((Within.refl.step State.dropOp_within).step State.fenceCmd_within).step
            State.dropTable_within).upd) ((Within.refl.step State.dropOp_within).step State.fenceCmd_within)
      · exact (Within.refl.step State.dropOp_within).step State.fenceCmd_within
    · split
      · exact Within.ite ((((Within.refl.step State.dropOp_within).step State.fenceCmd_within).step
            State.setTable_within).step State.fenceCmd_within) ((Within.refl.step State.dropOp_within).step
            State.fenceCmd_within)
      · exact (Within.refl.step State.dropOp_within).step State.fenceCmd_within
    · exact Within.ite (((Within.refl.step State.dropOp_within).step State.fenceCmd_within).step State.setChan_within)
          ((Within.refl.step State.dropOp_within).step State.fenceCmd_within)
    · exact Within.ite ((((Within.refl.step State.dropOp_within).step State.fenceCmd_within).step State.setChan_within).step
          State.fenceCmd_within) ((Within.refl.step State.dropOp_within).step State.fenceCmd_within)
    · exact Within.foldl (fun _ _ h => h.step State.fenceCmd_within) (((Within.refl.step State.dropOp_within).step
          State.fenceCmd_within).step State.setWrd_within)
    · exact Within.foldl (fun _ _ h => h.step State.fenceCmd_within) (((Within.refl.step State.dropOp_within).step
          State.fenceCmd_within).step State.setWrd_within)
    · exact (Within.refl.step State.dropOp_within).step State.fenceCmd_within
  · exact (Within.refl.step State.dropOp_within).step State.fenceCmd_within

theorem doAbort_within {id : Nat} {s : State} :
    Within [.out, .regs, .boot, .chans, .tables, .rows, .journal, .groups, .bays, .broad, .wrd, .host, .seam] s (doAbort id s)
        := by
  unfold doAbort
  exact Within.ite (by
      split
      exacts [Within.refl.step State.abortGroup_within, Within.refl]) (by
      split
      exacts [Within.refl, Within.ite Within.refl (by
          split
          exacts [(Within.refl.step State.abortGroup_within).step State.undoOp_within, Within.refl.step
              State.undoOp_within])])

theorem State.ripen_within {s : State} {c : Option (Nat × Nat × Nat)} : Within [.host] s (s.ripen c) := by
  unfold State.ripen
  dsimp only
  split
  · exact Within.refl
  · exact Within.refl.upd

theorem State.applyMirrored_within {s : State} {m : Mirrored} :
    Within [.out, .regs, .boot, .tick, .chans, .sites, .host, .seam] s (s.applyMirrored m) := by
  unfold State.applyMirrored
  dsimp only
  split
  · exact (((Within.refl.step State.dropOp_within).step State.bump_within).step State.ripen_within).step State.applyQuota_within
  · exact (((Within.refl.step State.dropOp_within).step State.bump_within).step State.ripen_within).step State.storeSite_within
  · exact (((Within.refl.step State.dropOp_within).step State.bump_within).step State.ripen_within).step State.addRetime_within
  · exact ((Within.refl.step State.dropOp_within).step State.bump_within).step State.ripen_within

theorem State.opsBoundary_within {s : State} :
    Within [.freeCtr, .out, .regs, .boot, .tick, .chans, .sites, .tables, .rows, .cells, .faults, .journal, .groups, .bays,
        .drawers, .cabs, .cur, .wrd, .host, .seam] s (s.opsBoundary) := by
  unfold State.opsBoundary
  exact Within.foldl (fun _ _ h => h.step State.stagePeer_within) (Within.foldl (fun _ _ h => h.step
      State.applyMirrored_within) Within.refl)

theorem State.lockRefused_within {s : State} {t num : Nat} :
    Within [.groups, .host, .seam] s (s.lockRefused t num) := by
  unfold State.lockRefused
  dsimp only
  split
  · exact Within.ite (((Within.refl.step State.setGroups_within).step State.setSeam_within).step State.finish_within)
        ((Within.refl.step State.setGroups_within).step State.setSeam_within)
  · exact (Within.refl.step State.setGroups_within).step State.setSeam_within

theorem State.peerGroup_within {s : State} {t num f : Nat} : Within [.groups] s (s.peerGroup t num f) := by
  unfold State.peerGroup
  exact Within.refl.step State.setGroups_within

theorem doLockReq_within {t : Fin 64} {group : BitVec 16} {f : Fin 16} {s : State} :
    Within [.out, .groups, .host, .seam] s (doLockReq t group f s) := by
  unfold doLockReq
  exact Within.ite Within.refl (by
      split
      exacts [Within.ite (Within.refl.step State.sendSeam_within) (((Within.refl.step State.lockRefused_within).step
          State.peerGroup_within).step State.sendSeam_within), Within.ite (Within.refl.step State.sendSeam_within)
          ((Within.refl.step State.peerGroup_within).step State.sendSeam_within)])

theorem doLockAns_within {t : Fin 64} {grant : Bool} {s : State} :
    Within [.groups, .host, .seam] s (doLockAns t grant s) := by
  unfold doLockAns
  dsimp only
  split
  · exact Within.refl
  · exact Within.ite (Within.refl.step State.lockRefused_within) (by
        split
        exacts [Within.ite ((Within.refl.step State.setSeam_within).step State.finish_within) (Within.refl.step
            State.setSeam_within), Within.refl.step State.setSeam_within])

theorem State.syncBoundary_within {s : State} : Within [.out, .regs, .seam] s (s.syncBoundary) := by
  unfold State.syncBoundary
  exact Within.ite Within.refl (Within.ite ((Within.refl.step State.setSeam_within).step State.sendSeam_within) (Within.ite
      Within.refl ((((Within.refl.step State.setSeam_within).step State.put_within).step State.put_within).step
      State.sendSeams_within)))

theorem State.removeRows_within {s : State} {t : Nat} {p : Row → Bool} :
    Within [.rows, .tallies, .cur] s (s.removeRows t p) := by
  unfold State.removeRows
  exact Within.foldl (fun _ _ h => h.step State.freeRow_within) Within.refl

theorem State.wipeTable_within {s : State} {t : Nat} :
    Within [.tables, .rows, .tallies, .lost, .bays, .broad, .cur] s (s.wipeTable t) := by
  unfold State.wipeTable
  exact ((Within.refl.step State.removeRows_within).step State.dropTable_within).upd

theorem State.syncTable_within {s : State} {t : Nat} {w : List (BitVec 64)} {mask : BitVec 640} :
    Within [.freeCtr, .regs, .tables, .rows, .tallies, .lost, .bays, .broad, .cur] s (s.syncTable t w mask) := by
  unfold State.syncTable
  dsimp only
  split
  · exact Within.ite Within.refl (((Within.refl.step State.wipeTable_within).step State.allot_within).step
        State.clearTable_within)
  · exact (Within.refl.step State.allot_within).step State.clearTable_within

theorem State.clearLines_within {s : State} {b : Nat} :
    Within [.out, .regs, .boot, .wrd, .host] s (s.clearLines b) := by
  unfold State.clearLines
  exact (((Within.refl.step State.invalidate_within).step State.storeDone_within).step State.discardFills_within).step
      State.setWrd_within

theorem State.syncLine_within {s : State} {l : Nat} {v : BitVec 512} :
    Within [.out, .regs, .boot, .cur, .wrd, .host] s (s.syncLine l v) := by
  unfold State.syncLine
  exact (((Within.refl.step State.invalidate_within).step State.discardFills_within).step State.spend_within).step
      State.setWrd_within

theorem State.syncItem_within {s : State} {i : SyncItem} :
    Within [.freeCtr, .out, .regs, .boot, .chans, .sites, .tables, .rows, .cells, .faults, .journal, .tallies, .lost, .bays,
        .broad,
      .drawers, .cabs, .cur, .wrd, .host] s (s.syncItem i) := by
  unfold State.syncItem
  split
  · exact Within.refl.step State.syncTable_within
  · exact Within.ite (Within.refl.step State.wipeTable_within) .refl
  · exact (Within.refl.step State.removeRows_within).upd
  · exact Within.refl.step State.loadEntry_within
  · exact Within.refl.step State.clearLines_within
  · exact Within.refl.step State.syncLine_within
  · exact Within.refl.upd
  · exact (Within.refl.step State.setChan_within).step State.clearChan_within
  · exact Within.refl.step State.setSite_within
  · exact .refl

theorem State.streamSnap_within {s : State} {i : SyncItem} : Within [.out, .seam] s (s.streamSnap i) := by
  unfold State.streamSnap
  dsimp only
  split
  · exact (Within.refl.step State.setSeam_within).step State.sendSeams_within
  · exact Within.refl

theorem doSyncData_within {i : SyncItem} {s : State} :
    Within [.freeCtr, .out, .regs, .boot, .chans, .sites, .tables, .rows, .cells, .faults, .journal, .tallies, .lost, .bays,
        .broad, .drawers, .cabs, .cur, .wrd, .host, .seam] s (doSyncData i s) := by
  unfold doSyncData
  exact Within.ite Within.refl (Within.ite (Within.refl.step State.syncItem_within) (Within.ite (Within.refl.step
      State.streamSnap_within) Within.refl))

theorem doSeamJoin_within {s : State} : Within [.out, .regs, .boot, .tick, .cur, .host, .seam] s (doSeamJoin s) := by
  unfold doSeamJoin
  dsimp only
  split
  · exact Within.refl
  · exact Within.ite ((((((Within.refl.step State.setSeam_within).step State.setTick_within).step State.setCur_within).step
        State.raise_within).step State.checkSettle_within).step State.askRestore_within) Within.refl

theorem State.detachSoon_within {s : State} {cause : Nat} : Within [.seam] s (s.detachSoon cause) := by
  unfold State.detachSoon
  dsimp only
  split
  · exact Within.refl
  · exact Within.refl.step State.setSeam_within
  · exact Within.ite Within.refl (Within.refl.step State.setSeam_within)

theorem State.seamEngine_within {s : State} : Within [.host] s (s.seamEngine) := by
  unfold State.seamEngine
  split
  · exact Within.refl.step State.finish_within
  · exact Within.refl

theorem State.survive_within {s : State} : Within [.regs, .tick] s (s.survive) := by
  unfold State.survive
  exact Within.ite (Within.refl.step State.leaveFollower_within) (Within.refl.step State.setTick_within)

theorem State.detachBoundary_within {s : State} :
    Within [.out, .regs, .boot, .tick, .chans, .tables, .rows, .journal, .groups, .bays, .broad, .cur, .wrd, .host, .seam] s
        (s.detachBoundary) := by
  unfold State.detachBoundary
  dsimp only
  split
  · exact Within.refl
  · exact ((((Within.foldl (fun _ _ h => h.step State.undoOp_within) ((Within.foldl (fun _ _ h => h.step
        State.abortGroup_within) ((Within.refl.step State.survive_within).step State.setSeam_within)).step
        State.seamEngine_within)).step State.setCur_within).step State.put_within).step State.bump_within).step
        State.raise_within

theorem State.sayBye_within {s : State} : Within [.out, .seam] s (s.sayBye) := by
  unfold State.sayBye
  exact Within.ite Within.refl (Within.refl.step State.sendSeam_within)

theorem doSeamReleaseWrite_within {rel : Bool} {v : BitVec 5} {s : State} :
    Within [.out, .regs, .boot, .tick, .host, .seam] s (doSeamReleaseWrite rel v s) := by
  unfold doSeamReleaseWrite
  exact Within.ite Within.refl (Within.ite (Within.refl.step State.startMirror_within) (Within.refl.step
      State.addRetime_within))

end Sys2Proof.Machine
end

section
/-! PROOFS. The frame of the operations of Sys2Proof.Machine.Cascade, in the order of that file. -/

namespace Sys2Proof.Machine

set_option Elab.async false

theorem State.setCsc_within {s : State} {x : Csc} : Within [.csc] s (s.setCsc x) := by
  unfold State.setCsc
  exact Within.refl.upd

theorem State.sendCsc_within {s : State} {m : CscOut} : Within [.out] s (s.sendCsc m) := by
  unfold State.sendCsc
  exact Within.refl.step State.emit_within

theorem State.searchToken_within {s : State} {t : Token} :
    Within [.out, .regs, .boot, .drawers, .acts, .cur, .host] s ((s.searchToken t).1) := by
  unfold State.searchToken
  dsimp only
  split
  · exact Within.refl
  · exact Within.apply_ite Prod.fst Within.refl (((Within.refl.step State.countSearch_within).step State.scan_within).step
        State.bump_within)

theorem State.discardToken_within {s : State} : Within [.regs] s (s.discardToken) := by
  unfold State.discardToken
  exact Within.refl.step State.bump_within

theorem State.forwardToken_within {s : State} {down : Bool} {t : Token} :
    Within [.out, .regs] s (s.forwardToken down t) := by
  unfold State.forwardToken
  dsimp only
  split
  · exact Within.ite (Within.refl.step State.sendOn_within) ((Within.refl.step State.sendOn_within).step
        State.discardToken_within)
  · exact Within.refl.step State.sendOn_within

theorem State.takeToken_within {s : State} {t : Token} :
    Within [.out, .regs, .boot, .planned, .host, .csc] s (s.takeToken t) := by
  unfold State.takeToken
  dsimp only
  exact Within.ite Within.refl (by
      split
      exacts [(Within.refl.step State.setCsc_within).step State.setLookup_within, ((Within.refl.step State.setCsc_within).step
          State.bump_within).step State.raiseEp_within])

theorem State.ownToken_within {s : State} {down : Bool} {t : Token} :
    Within [.out, .regs, .boot, .planned, .host, .csc] s (s.ownToken down t) := by
  unfold State.ownToken
  dsimp only
  exact Within.ite (Within.refl.step State.takeToken_within) (by
      split
      exacts [(Within.refl.step State.sendOn_within).step State.takeToken_within, Within.refl.step State.sendOn_within])

theorem doLookupToken_within {down : Bool} {t : Token} {s : State} :
    Within [.out, .regs, .boot, .planned, .drawers, .acts, .cur, .host, .csc] s (doLookupToken down t s) := by
  unfold doLookupToken
  exact Within.ite Within.refl (Within.ite (Within.refl.step State.forwardToken_within) (Within.ite (Within.refl.step
      State.ownToken_within) (Within.ite (Within.refl.step State.discardToken_within) (Within.ite (Within.refl.step
      State.discardToken_within) (Within.ite (Within.refl.step State.forwardToken_within) ((Within.refl.step
      State.searchToken_within).step State.forwardToken_within))))))

theorem doLearnToken_within {flits : List Flit} {s : State} :
    Within [.freeCtr, .out, .regs, .boot, .tables, .rows, .tallies, .learnLog, .host, .csc] s (doLearnToken flits s) := by
  unfold doLearnToken
  exact Within.ite Within.refl (Within.ite (Within.refl.step State.sendCsc_within) (Within.ite (Within.refl.step
      State.discardToken_within) ((Within.refl.step State.setCsc_within).step State.settleLearns_within)))

theorem doTallyToken_within {flits : List Flit} {s : State} : Within [.out, .tallies] s (doTallyToken flits s) := by
  unfold doTallyToken
  exact Within.ite Within.refl (Within.ite (Within.refl.step State.sendCsc_within) (Within.refl.step State.countTally_within))

theorem State.mergeLookup_within {s : State} {i k : Nat} {pl : Planned} {l : LookupPlan} {own : Token} :
    Within [.freeCtr, .out, .regs, .boot, .ports, .planned, .tables, .rows, .tallies, .learnLog, .wrd, .host, .seam, .csc] s
        (s.mergeLookup i k pl l own) := by
  unfold State.mergeLookup
  dsimp only
  split
  · exact Within.refl.step State.putPlanned_within
  · exact ((Within.ite ((Within.refl.step State.bump_within).step State.raiseEp_within) Within.refl).step
        State.setLookup_within).step State.settleResults_within

theorem doCascadeMerge_within {tok : BitVec 12} {s : State} :
    Within [.freeCtr, .out, .regs, .boot, .ports, .planned, .tables, .rows, .tallies, .learnLog, .wrd, .host, .seam, .csc] s
        (doCascadeMerge tok s) := by
  unfold doCascadeMerge
  split
  · exact Within.refl
  · split
    · exact Within.refl
    · split
      · exact Within.refl
      · split
        · exact Within.refl
        · exact Within.refl.step State.mergeLookup_within

theorem State.takeJoin_within {s : State} {j : JoinInfo} :
    Within [.out, .regs, .boot, .host, .csc] s (s.takeJoin j) := by
  unfold State.takeJoin
  exact Within.ite ((Within.refl.step State.put_within).step State.raise_within) (Within.refl.step State.setCsc_within)

theorem State.takeLeave_within {s : State} {m : Nat} : Within [.csc] s (s.takeLeave m) := by
  unfold State.takeLeave
  exact Within.ite (Within.refl.step State.setCsc_within) Within.refl

theorem State.takeNotice_within {s : State} {n : Notice} :
    Within [.out, .regs, .boot, .host, .csc] s (s.takeNotice n) := by
  unfold State.takeNotice
  dsimp only
  split
  · exact Within.ite ((Within.refl.step State.setCsc_within).step State.takeLeave_within) ((Within.refl.step
        State.setCsc_within).step State.sendCsc_within)
  · exact Within.ite (Within.refl.step State.takeLeave_within) (Within.refl.step State.sendCsc_within)
  · exact Within.ite (Within.refl.step State.takeJoin_within) (Within.refl.step State.sendCsc_within)

theorem State.cscLost_within {s : State} {down : Bool} :
    Within [.out, .regs, .boot, .host, .csc] s (s.cscLost down) := by
  unfold State.cscLost
  exact Within.ite (Within.refl.step State.takeNotice_within) Within.refl

theorem doCscLeave_within {s : State} : Within [.out, .csc] s (doCscLeave s) := by
  unfold doCscLeave
  exact Within.ite (Within.ite ((Within.refl.step State.sendCsc_within).step State.takeLeave_within) (Within.refl.step
      State.sendCsc_within)) Within.refl

theorem State.proposeBoundary_within {s : State} : Within [.out, .csc] s (s.proposeBoundary) := by
  unfold State.proposeBoundary
  dsimp only
  split
  · exact Within.refl
  · exact Within.ite Within.refl (Within.ite (Within.refl.step State.setCsc_within) (Within.ite (((Within.refl.step
        State.setCsc_within).step State.sendCsc_within).step State.sendCsc_within) ((Within.refl.step
        State.setCsc_within).step State.sendCsc_within)))

theorem doCscPropose_within {live : BitVec 16} {k : BitVec 48} {s : State} :
    Within [.out, .csc] s (doCscPropose live k s) := by
  unfold doCscPropose
  exact Within.ite Within.refl (Within.ite (((Within.refl.step State.setCsc_within).step State.sendCsc_within).step
      State.sendCsc_within) ((Within.refl.step State.setCsc_within).step State.sendCsc_within))

theorem doAck_within {m : Fin 16} {s : State} : Within [.out, .csc] s (doAck m s) := by
  unfold doAck
  dsimp only
  exact Within.ite Within.refl (Within.ite (Within.refl.step State.sendCsc_within) (by
      split
      exacts [Within.refl, Within.ite ((Within.refl.step State.setCsc_within).step State.sendCsc_within) (Within.refl.step
          State.setCsc_within)]))

theorem doCommit_within {s : State} : Within [.out, .csc] s (doCommit s) := by
  unfold doCommit
  dsimp only
  split
  · exact Within.ite ((Within.refl.step State.setCsc_within).step State.sendCsc_within) Within.refl
  · exact Within.refl

theorem State.applyLive_within {s : State} {new : Nat} {k : Tick} :
    Within [.out, .regs, .boot, .tick, .host, .csc] s (s.applyLive new k) := by
  unfold State.applyLive
  exact (Within.ite ((((((((((((Within.refl.step State.setCsc_within).step State.put_within).step State.put_within).step
      State.put_within).step State.put_within).step State.put_within).step State.putB_within).step State.putB_within).step
      State.putB_within).step State.bump_within).step State.raise_within).step State.leaveFollower_within)
      (((((((((((Within.refl.step State.setCsc_within).step State.put_within).step State.put_within).step
      State.put_within).step State.put_within).step State.put_within).step State.putB_within).step State.putB_within).step
      State.putB_within).step State.bump_within).step State.raise_within)).step State.showLatency_within

theorem State.missCommit_within {s : State} : Within [.out, .regs, .csc] s (s.missCommit) := by
  unfold State.missCommit
  exact Within.ite (((((Within.refl.step State.setCsc_within).step State.put_within).step State.put_within).step
      State.sendCsc_within).step State.showLatency_within) ((Within.refl.step State.setCsc_within).step State.sendCsc_within)

theorem doMembershipApply_within {s : State} :
    Within [.out, .regs, .boot, .tick, .host, .csc] s (doMembershipApply s) := by
  unfold doMembershipApply
  split
  · exact Within.refl
  · exact Within.ite Within.refl (Within.ite (Within.refl.step State.applyLive_within) (Within.refl.step
        State.missCommit_within))

theorem State.cscGoodbye_within {s : State} : Within [.out] s (s.cscGoodbye) := by
  unfold State.cscGoodbye
  exact Within.ite (Within.refl.step State.sendCsc_within) Within.refl

theorem State.cscRefresh_within {s : State} : Within [.regs, .csc] s (s.cscRefresh) := by
  unfold State.cscRefresh
  exact Within.ite (Within.ite Within.refl (((((Within.refl.step State.put_within).step State.put_within).step
      State.put_within).step State.put_within).step State.setCsc_within)) (Within.ite ((Within.refl.step
      State.put_within).step State.put_within) Within.refl)

theorem doCscSliceWrite_within {t : Fin 64} {lo hi : BitVec 24} {s : State} :
    Within [.regs] s (doCscSliceWrite t lo hi s) := by
  unfold doCscSliceWrite
  exact Within.ite (Within.refl.step State.put_within) ((Within.refl.step State.put_within).step State.put_within)

end Sys2Proof.Machine
end

section
/-! PROOFS. The frame of the operations of Sys2Proof.Machine.CfgMem, in the order of that file. -/

namespace Sys2Proof.Machine

set_option Elab.async false

theorem State.setCfg_within {s : State} {c : Cfg}
    (hc : Memory.wf s.cfg.mem = true → Memory.wf c.mem = true := by exact id) : Within [.cfg] s (s.setCfg c) := by
  unfold State.setCfg
  exact Within.refl.updCfg (by simp; exact hc)

theorem State.memPut_within {s : State} {a : Nat} {l : List Byte} : Within [.cfg] s (s.memPut a l) :=
  State.setCfg_within (State.memPut_wf s a l)

theorem State.readLogHead_within {s : State} {h : ImageHdr} : Within [.regs, .cfg] s (s.readLogHead h) := by
  unfold State.readLogHead
  dsimp only
  split
  · exact ((Within.refl.step State.setCfg_within).step State.put_within).step State.put_within
  · exact ((Within.refl.step State.setCfg_within).step State.put_within).step State.put_within

theorem State.showMem_within {s : State} : Within [.regs] s (s.showMem) := by
  unfold State.showMem
  exact (((Within.refl.step State.put_within).step State.putB_within).step State.put_within).step State.put_within

theorem State.noteFallback_within {s : State} : Within [.out, .regs, .boot, .host] s (s.noteFallback) := by
  unfold State.noteFallback
  exact Within.ite (Within.refl.step State.setRaise_within) Within.refl

theorem State.showCopy_within {s : State} {c : Nat} {h : ImageHdr} : Within [.regs] s (s.showCopy c h) := by
  unfold State.showCopy
  exact (((((Within.refl.step State.put_within).step State.put_within).step State.put_within).step State.put_within).step
      State.put_within).step State.putB_within

theorem State.selectImage_within {s : State} : Within [.out, .regs, .boot, .host, .cfg] s s.selectImage.1 := by
  unfold State.selectImage
  refine Within.apply_ite Prod.fst .refl ?_
  extract_lets t
  have ht : Within [.out, .regs, .boot, .host, .cfg] s t :=
    (((Within.refl.step State.showMem_within).step State.putB_within).step State.putB_within).step State.noteFallback_within
  clear_value t
  cases s.copyOrder.find? s.copyValid with
  | none => exact ht
  | some c =>
    dsimp only
    cases s.header c with
    | none => exact ht
    | some h =>
      have hu := (ht.step (State.showCopy_within (c := c) (h := h))).step (State.readLogHead_within (h := h))
      exact (Within.ite ((hu.step State.setRaise_within).step State.oweLog_within) hu).upd

theorem State.programPage_within {s : State} {a : Nat} {l : List Byte} {who : Nat} :
    Within [.out, .regs, .cfg] s (s.programPage a l who) := by
  unfold State.programPage
  exact ((Within.refl.step State.put_within).step State.setCfg_within).step State.emit_within

theorem State.cutProgram_within {s : State} : Within [.freeCtr, .cfg] s (s.cutProgram) := by
  unfold State.cutProgram
  dsimp only
  split
  · exact Within.refl
  · exact (Within.ite ((((Within.refl.step State.drawn_within).step State.memPut_within).step State.drawn_within).step
        State.memPut_within) ((Within.refl.step State.drawn_within).step State.memPut_within)).step State.setCfg_within

theorem State.fillPtBuf_within {s : State} {l : List Byte} : Within [.regs] s (s.fillPtBuf l) := by
  unfold State.fillPtBuf
  exact Within.foldl (fun _ _ h => h.step State.put_within) Within.refl

theorem State.ptDone_within {s : State} {result : Nat} : Within [.regs] s (s.ptDone result) := by
  unfold State.ptDone
  exact (Within.refl.step State.put_within).step State.put_within

theorem State.ptRun_within {s : State} : Within [.freeCtr, .out, .regs, .cfg] s (s.ptRun) := by
  unfold State.ptRun
  dsimp only
  split
  · exact Within.ite (Within.refl.step State.put_within) (((Within.refl.step State.put_within).step
        State.fillPtBuf_within).step State.ptDone_within)
  · exact Within.ite (Within.refl.step State.put_within) (Within.ite (((Within.refl.step State.put_within).step
        State.put_within).step State.ptDone_within) ((Within.refl.step State.put_within).step State.programPage_within))
  · exact Within.ite (Within.refl.step State.put_within) ((((Within.refl.step State.put_within).step State.drawn_within).step
        State.fillPtBuf_within).step State.ptDone_within)
  · exact (Within.refl.step State.put_within).step State.ptDone_within

theorem State.ptGo_within {s : State} {op : Nat} : Within [.freeCtr, .out, .regs, .dorm, .cfg] s (s.ptGo op) := by
  unfold State.ptGo
  exact Within.ite Within.refl (((Within.refl.step State.touchIdle_within).step State.put_within).step State.ptRun_within)

theorem State.skipWritten_within {s : State} {h : ImageHdr} : Within [.regs] s (s.skipWritten h) := by
  unfold State.skipWritten
  exact Within.ite ((Within.refl.step State.put_within).step State.put_within) Within.refl

theorem State.writeHead_within {s : State} {h : ImageHdr} : Within [.out, .regs, .cfg] s (s.writeHead h) := by
  unfold State.writeHead
  exact Within.ite (((Within.refl.step State.put_within).step State.put_within).step State.bump_within) ((((Within.refl.step
      State.put_within).step State.put_within).step State.setCfg_within).step State.programPage_within)

theorem State.masterFree_within {s : State} : Within [.freeCtr, .out, .regs, .cfg] s (s.masterFree) := by
  unfold State.masterFree
  exact Within.ite (Within.refl.step State.ptRun_within) Within.refl

theorem doLogWrite_within {s : State} : Within [.freeCtr, .out, .regs, .cfg] s (doLogWrite s) := by
  unfold doLogWrite
  dsimp only
  split
  · exact Within.ite Within.refl (Within.ite (((((Within.refl.step State.setCfg_within).step State.skipWritten_within).step
        State.put_within).step State.bump_within).step State.masterFree_within) (((Within.refl.step State.setCfg_within).step
        State.skipWritten_within).step State.programPage_within))
  · exact Within.refl

theorem doPageProgramDone_within {s : State} : Within [.freeCtr, .out, .regs, .cfg] s (doPageProgramDone s) := by
  unfold doPageProgramDone
  dsimp only
  split
  · exact Within.refl
  · exact Within.ite (((Within.refl.step State.memPut_within).step State.setCfg_within).step State.ptDone_within) (Within.ite
        (by
        split
        exacts [Within.ite (((Within.refl.step State.memPut_within).step State.setCfg_within).step State.writeHead_within)
            ((((Within.refl.step State.memPut_within).step State.setCfg_within).step State.writeHead_within).step
            State.masterFree_within), ((Within.refl.step State.memPut_within).step State.setCfg_within).step
            State.masterFree_within]) (((Within.refl.step State.memPut_within).step State.setCfg_within).step
        State.masterFree_within))

theorem State.scrambled_within {n a : Nat} {s : State} : Within [.freeCtr, .cfg] s (State.scrambled n s a) := by
  induction n generalizing s a with
  | zero => exact .refl
  | succ n ih => exact ((Within.refl.step State.drawn_within).step State.memPut_within).step ih

theorem doSpiWriteTimeout_within {s : State} :
    Within [.freeCtr, .out, .regs, .boot, .host, .cfg] s (doSpiWriteTimeout s) := by
  unfold doSpiWriteTimeout
  dsimp only
  split
  · exact Within.refl
  · exact Within.ite ((((Within.refl.step State.scrambled_within).step State.setCfg_within).step State.setRaise_within).step
        State.ptDone_within) ((((Within.refl.step State.scrambled_within).step State.setCfg_within).step
        State.setRaise_within).step State.masterFree_within)

theorem State.rewrite_within {s : State} {a : Nat} {l : List Byte} : Within [.out, .regs, .cfg] s (s.rewrite a l) := by
  unfold State.rewrite
  exact Within.ite (Within.refl.step State.bump_within) (((Within.refl.step State.memPut_within).step State.emit_within).step
      State.bump_within)

theorem State.careGroup_within {data check : Nat} {x : State × Option Nat} {j : Nat} :
    Within [.out, .regs, .cfg] x.1 ((State.careGroup data check x j).1) := by
  unfold State.careGroup
  dsimp only
  split
  · exact Within.refl
  · exact Within.ite (Within.refl.step State.rewrite_within) (Within.refl.step State.rewrite_within)
  · exact Within.refl.step State.bump_within

theorem State.careCopy_within {s : State} {c : Nat} : Within [.out, .regs, .boot, .host, .cfg] s (s.careCopy c) := by
  unfold State.careCopy
  split
  · exact .refl
  case _ h _ =>
    extract_lets b x y
    have hx : Within [.out, .regs, .boot, .host, .cfg] s x.1 := Within.foldl_apply Prod.fst (fun _ _ h => h.step
        State.careGroup_within) .refl
    have hy : Within [.out, .regs, .boot, .host, .cfg] s y.1 := Within.foldl_apply Prod.fst (fun _ _ h => h.step
        State.careGroup_within) hx
    split
    · exact .refl
    · split
      · exact hy
      · exact (hy.step State.setRaise_within).step State.oweLog_within

theorem doCarePass_within {diff : List Nat} {s : State} :
    Within [.out, .regs, .boot, .host, .cfg] s (doCarePass diff s) := by
  unfold doCarePass
  exact Within.ite Within.refl (((Within.foldl (fun _ _ h => ((h.step State.bump_within).step State.emit_within).step
      State.oweLog_within) (Within.refl.step State.put_within)).step State.careCopy_within).step State.careCopy_within)

end Sys2Proof.Machine
end

section
/-! PROOFS. The frame of the operations of Sys2Proof.Machine.Host, in the order of that file. -/

namespace Sys2Proof.Machine

set_option Elab.async false

theorem State.setHost_within {s : State} {h : HostIf} : Within [.host] s (s.setHost h) := by
  unfold State.setHost
  exact Within.refl.upd

theorem State.setFetched_within {s : State} {f : Nat} {l : List (Nat × CmdSlot)} :
    Within [.host] s (s.setFetched f l) := by
  unfold State.setFetched
  exact Within.refl.step State.setHost_within

theorem State.fetchSlots_within {s : State} {f : Nat} {l : List CmdSlot} : Within [.regs, .host] s (s.fetchSlots f l) := by
  induction l generalizing s with
  | nil => exact .refl
  | cons c rest ih => exact ((Within.refl.step State.setFetched_within).step State.put_within).step ih

theorem doCmdTailWrite_within {f : Fin 16} {v : BitVec 64} {slots : List (List Byte)} {s : State} :
    Within [.regs, .host] s (doCmdTailWrite f v slots s) := by
  unfold doCmdTailWrite
  exact Within.ite (Within.refl.step State.put_within) (Within.ite ((Within.refl.step State.put_within).step
      State.fetchSlots_within) (Within.refl.step State.put_within))

theorem doQueEnWrite_within {f : Fin 16} {cpl en : Bool} {s : State} : Within [.regs] s (doQueEnWrite f cpl en s) := by
  unfold doQueEnWrite
  exact Within.ite (Within.ite (((Within.refl.step State.putB_within).step State.put_within).step State.put_within)
      (Within.refl.step State.putB_within)) (Within.ite (((Within.refl.step State.putB_within).step State.put_within).step
      State.put_within) (Within.refl.step State.putB_within))

theorem State.showGates_within {s : State} : Within [.out, .regs, .boot, .host] s (s.showGates) := by
  unfold State.showGates
  exact Within.foldl (fun _ _ h => Within.ite ((h.step State.putB_within).step State.raiseEp_within) (h.step
      State.putB_within)) Within.refl

theorem doCommandDispatch_within {s : State} : Within [.out, .regs, .boot, .dorm, .host] s (doCommandDispatch s) := by
  unfold doCommandDispatch
  split
  · exact .refl
  · dsimp only
    have hgates : Within [.out, .regs, .boot, .dorm, .host] s s.showGates := Within.refl.step State.showGates_within
    generalize s.showGates = t at hgates ⊢
    split
    · exact hgates
    · split
      · exact (((hgates.step State.setFetched_within).step State.touchIdle_within).step State.setHost_within).step
            State.finish_within
      · exact ((hgates.step State.setFetched_within).step State.touchIdle_within).step State.setHost_within

theorem coreNop_within {s : State} {_own : Option (Nat × Nat × Nat)} {_f : Nat} {_c : CmdSlot} {_d : Dma} :
    Within [] s ((coreNop s _own _f _c _d).s) := by
  unfold coreNop
  exact Within.refl

theorem doCapPop_within {f : Fin 16} {q : Fin 8} {size : Nat} {s : State} :
    Within [.out, .host] s (doCapPop f q size s) := by
  unfold doCapPop
  dsimp only
  exact Within.ite (Within.refl.step State.emit_within) (by
      split
      exacts [(Within.refl.step State.setIdle_within).step State.emit_within, ((Within.refl.step State.setIdle_within).step
          State.setHost_within).step State.emit_within])

theorem doEvqPop_within {f : Fin 16} {size : Nat} {s : State} : Within [.out, .host] s (doEvqPop f size s) := by
  unfold doEvqPop
  dsimp only
  exact Within.ite (Within.refl.step State.emit_within) (by
      split
      exacts [(Within.refl.step State.setIdle_within).step State.emit_within, ((Within.refl.step State.setIdle_within).step
          State.setHost_within).step State.emit_within])

theorem State.idleNotice_within {s : State} {q : Nat} : Within [.out, .regs, .boot, .host] s (s.idleNotice q) := by
  unfold State.idleNotice
  exact Within.ite ((Within.refl.step State.setIdle_within).step State.raise_within) Within.refl

theorem doIdleUsWrite_within {q : Option (Fin 8)} {v : BitVec 16} {s : State} :
    Within [.out, .regs, .boot, .host] s (doIdleUsWrite q v s) := by
  unfold doIdleUsWrite
  split
  · exact (Within.refl.step State.put_within).step State.idleNotice_within
  · exact (Within.refl.step State.put_within).step State.idleNotice_within

theorem doHoldoffExpiry_within {v : Fin 64} {s : State} : Within [.out, .host] s (doHoldoffExpiry v s) := by
  unfold doHoldoffExpiry
  dsimp only
  split
  · exact Within.refl
  · exact Within.ite Within.refl (Within.ite ((Within.refl.step State.setHost_within).step State.msixPf_within)
        (Within.refl.step State.setHost_within))

theorem State.clearPend_within {s : State} {n : Nat} : Within [.regs] s (s.clearPend n) := by
  unfold State.clearPend
  exact (Within.refl.step State.put_within).step State.put_within

theorem State.muteFunc_within {s : State} {f : Nat} : Within [.host] s (s.muteFunc f) := by
  unfold State.muteFunc
  exact Within.refl.step State.setHost_within

theorem State.clearRings_within {s : State} {f : Nat} : Within [.regs] s (s.clearRings f) := by
  unfold State.clearRings
  exact Within.foldl (fun _ _ h => h.step State.put_within) Within.refl

theorem State.clearQueues_within {s : State} {f : Nat} : Within [.host] s (s.clearQueues f) := by
  unfold State.clearQueues
  exact Within.ite ((Within.foldl (fun _ _ h => Within.ite (h.step State.setHost_within) h) Within.refl).step
      State.setHost_within) (Within.foldl (fun _ _ h => Within.ite (h.step State.setHost_within) h) Within.refl)

theorem State.flrOne_within {s : State} {f : Nat} :
    Within [.out, .regs, .boot, .rows, .journal, .groups, .host, .seam] s (s.flrOne f) := by
  unfold State.flrOne
  exact (Within.foldl (fun _ _ h => h.step State.abortGroup_within) (((((Within.refl.step State.setPci_within).step
      State.muteFunc_within).step State.setFetched_within).step State.clearRings_within).step State.clearQueues_within)).step
      State.raise_within

theorem doFlr_within {f : Fin 16} {s : State} :
    Within [.out, .regs, .boot, .rows, .journal, .groups, .host, .seam] s (doFlr f s) := by
  unfold doFlr
  exact Within.ite ((Within.foldl (fun _ _ h => h.step State.flrOne_within) Within.refl).step State.setHost_within)
      (Within.refl.step State.flrOne_within)

theorem doPerstL_within {low : Bool} {s : State} :
    Within [.out, .pins, .regs, .boot, .rows, .journal, .groups, .host, .seam] s (doPerstL low s) := by
  unfold doPerstL
  exact Within.ite ((Within.refl.upd.step doFlr_within).step State.setHost_within) Within.refl.upd

theorem doPcieLinkChange_within {l : Option (BitVec 3 × BitVec 3)} {s : State} :
    Within [.out, .pins, .regs, .boot, .host] s (doPcieLinkChange l s) := by
  unfold doPcieLinkChange
  exact Within.ite Within.refl (Within.refl.upd.step State.raise_within)

theorem doAerError_within {f : Fin 16} {unc : Bool} {bit : BitVec 5} {s : State} :
    Within [.out, .regs, .boot, .host] s (doAerError f unc bit s) := by
  unfold doAerError
  exact Within.ite Within.refl (Within.ite (Within.refl.step State.setPci_within) ((Within.refl.step State.setPci_within).step
      State.raiseEp_within))

end Sys2Proof.Machine
end

section
/-! PROOFS. The frame of the operations of Sys2Proof.Machine.RegWrite, in the order of that file. -/

namespace Sys2Proof.Machine

set_option Elab.async false

theorem State.store_within {s : State} {F : Field} {v i j : Nat} : Within [.regs, .chans] s (s.store F v i j) := by
  unfold State.store
  exact Within.ite (Within.refl.step State.put_within) (Within.ite (Within.refl.step State.put_within) (Within.ite Within.refl
      (Within.ite Within.refl (Within.ite (Within.refl.step State.setChan_within) (Within.refl.step State.put_within)))))

theorem State.writeField_within {s : State} {boot : Bool} {data mask off : Nat} {e : Field × Nat × Nat} :
    Within [.regs, .chans] s (s.writeField boot data mask off e) := by
  unfold State.writeField
  dsimp only
  exact Within.ite Within.refl (by
      split
      exacts [Within.refl.step State.store_within, Within.ite (Within.refl.step State.put_within) Within.refl, Within.ite
          (Within.refl.step State.put_within) Within.refl, Within.refl])

theorem State.linkEnable_within {old s : State} : Within [.ports, .seam, .csc] s (old.linkEnable s) := by
  unfold State.linkEnable
  exact Within.ite (Within.ite Within.refl (Within.ite (Within.ite (Within.refl.step State.startTraining_within) Within.refl)
      ((Within.refl.step State.detachSoon_within).step State.toState_within))) (Within.ite (Within.ite (((Within.ite
      Within.refl (Within.ite (Within.ite (Within.refl.step State.startTraining_within) Within.refl) ((Within.refl.step
      State.detachSoon_within).step State.toState_within))).step State.startTraining_within).step State.startTraining_within)
      (Within.ite Within.refl (Within.ite (Within.ite (Within.refl.step State.startTraining_within) Within.refl)
      ((Within.refl.step State.detachSoon_within).step State.toState_within)))) (((Within.ite Within.refl (Within.ite
      (Within.ite (Within.refl.step State.startTraining_within) Within.refl) ((Within.refl.step State.detachSoon_within).step
      State.toState_within))).step State.toState_within).step State.toState_within))

theorem State.writeReg_within {s : State} {boot : Bool} {data mask off : Nat} :
    Within [.regs, .ports, .chans, .seam, .csc] s (s.writeReg boot data mask off) := by
  unfold State.writeReg
  split
  · exact Within.refl.step State.put_within
  · exact (Within.foldl (fun _ _ h => h.step State.writeField_within) Within.refl).step State.linkEnable_within

theorem State.admitWrite_within {old s : State} :
    Within [.out, .regs, .boot, .tick, .ports, .host] s (old.admitWrite s) := by
  unfold State.admitWrite
  exact Within.ite Within.refl (Within.ite (Within.refl.step State.openAdmission_within) (Within.refl.step
      State.reblock_within))

theorem State.sendPending_within {s : State} {f : Nat} : Within [.out, .host] s (s.sendPending f) := by
  unfold State.sendPending
  exact Within.foldl (fun _ _ h => Within.ite ((h.step State.setPba_within).step State.msixTo_within) h) Within.refl

theorem State.msixWrite_within {s : State} {f i off size : Nat} {v : BitVec 64} :
    Within [.out, .host] s (s.msixWrite f i off size v) := by
  unfold State.msixWrite
  exact (Within.refl.step State.setPci_within).step State.sendPending_within

theorem State.configWrite_within {s : State} {f : Nat} {r : CfgReg} {v : Nat} :
    Within [.out, .regs, .boot, .rows, .journal, .groups, .host, .seam] s (s.configWrite f r v) := by
  unfold State.configWrite
  dsimp only
  split
  · exact Within.refl.step State.setPci_within
  · exact Within.ite (Within.refl.step State.setPci_within) (Within.ite (Within.refl.step State.setPci_within) Within.refl)
  · exact (Within.refl.step State.setPci_within).step State.sendPending_within
  · exact Within.refl.step State.setPci_within
  · exact Within.refl.step State.setPci_within
  · exact Within.refl.step State.setPci_within
  · exact Within.refl.step State.setPci_within
  · exact Within.ite Within.refl ((Within.ite (Within.foldl (fun _ _ h => h.step State.flrOne_within) Within.refl)
        Within.refl).step State.setHost_within)
  · exact Within.ite Within.refl (Within.refl.step State.setHost_within)
  · exact Within.refl
  · exact Within.refl
  · exact Within.refl
  · exact Within.refl
  · exact Within.refl
  · exact Within.refl
  · exact Within.refl
  · exact Within.refl

theorem State.pfWrite_within {s : State} {off size : Nat} {v : BitVec 64} :
    Within [.out, .regs, .boot, .tick, .ports, .chans, .host, .seam, .csc] s (s.pfWrite off size v) := by
  unfold State.pfWrite
  dsimp only
  exact Within.ite Within.refl (by
      split
      exacts [Within.refl.step State.msixWrite_within, Within.ite (((Within.refl.step State.writeReg_within).step
          State.admitWrite_within).step State.raise_within) ((Within.refl.step State.writeReg_within).step
          State.admitWrite_within)])

theorem State.barWrite_within {s : State} {f : Fin 16} {off : BitVec 26} {size : Nat} {v : BitVec 64} :
    Within [.out, .regs, .boot, .dorm, .tick, .ports, .chans, .host, .seam, .csc] s (s.barWrite f off size v) := by
  unfold State.barWrite
  dsimp only
  exact Within.ite (Within.ite ((Within.ite (Within.refl.step State.touchIdle_within) Within.refl).step State.put_within)
      Within.refl) (Within.ite ((Within.ite (Within.refl.step State.touchIdle_within) Within.refl).step State.pfWrite_within)
      (Within.ite (by
      split
      exacts [(Within.ite (Within.refl.step State.touchIdle_within) Within.refl).step State.msixWrite_within, (Within.ite
          (Within.refl.step State.touchIdle_within) Within.refl).step State.writeReg_within, Within.ite (Within.refl.step
          State.touchIdle_within) Within.refl]) (Within.ite (Within.refl.step State.touchIdle_within) Within.refl)))

theorem doRegisterWrite_within {f : Fin 16} {a : BusAddr} {size : Nat} {v : BitVec 64} {s : State} :
    Within [.out, .regs, .boot, .dorm, .tick, .ports, .chans, .rows, .journal, .groups, .host, .seam, .csc] s (doRegisterWrite
        f a size v s) := by
  unfold doRegisterWrite
  split
  · exact Within.ite (Within.refl.step State.barWrite_within) Within.refl
  · exact Within.ite (Within.refl.step State.configWrite_within) Within.refl

end Sys2Proof.Machine
end

section
/-! PROOFS. The frame of the operations of Sys2Proof.Machine.Reset, in the order of that file. -/

namespace Sys2Proof.Machine

set_option Elab.async false

theorem State.settleGroups_within {s : State} :
    Within [.out, .mode, .regs, .boot, .tables, .rows, .journal, .groups, .tallies, .lost, .bays, .broad, .drawers, .cur,
        .wrd, .host, .seam] s (s.settleGroups) := by
  unfold State.settleGroups
  exact Within.foldl (fun _ _ h => h.step State.commitGroup_within) Within.refl.upd

theorem State.wiped_within {s : State} {aon : Bool} :
    Within [.freeCtr, .out, .mode, .pins, .regs, .boot, .dorm, .tick, .ports, .planned, .chans, .sites, .rpt, .rptPend,
        .shadow, .tables, .rows, .faults, .journal, .groups, .tallies, .learnLog, .lost, .lossList, .bays, .broad,
        .baysBefore, .broadBefore, .drawers, .cabs, .acts, .cur, .wrd, .mnt, .host, .seam, .csc, .cfg] s (s.wiped aon) := by
  unfold State.wiped
  exact ((Within.refl.step State.settleGroups_within).step State.cutProgram_within).updCfg

theorem State.rebuildDrawer_within {s : State} {g x : Nat} : Within [.drawers] s (s.rebuildDrawer g x) := by
  unfold State.rebuildDrawer
  dsimp only
  split
  · exact Within.refl.step State.setDrawer_within
  · exact Within.refl.step State.setDrawer_within

theorem State.rebuildCabinet_within {s : State} {n : Nat} : Within [.drawers, .cur] s (s.rebuildCabinet n) := by
  unfold State.rebuildCabinet
  exact (Within.foldl (fun _ _ h => h.step State.rebuildDrawer_within) Within.refl).step State.dropHistory_within

theorem State.inventoryDrawer_within {s : State} {k : Nat} :
    Within [.out, .regs, .boot, .rows, .drawers, .cur, .host] s (s.inventoryDrawer k) := by
  unfold State.inventoryDrawer
  exact Within.ite ((Within.refl.step State.proveDrawer_within).step State.saveDigest_within) Within.refl

theorem State.declareLosses_within {s : State} {l : List (Nat × Nat)} :
    Within [.out, .regs, .boot, .tables, .rows, .lost, .lossList, .cur, .host, .cfg] s (s.declareLosses l) := by
  unfold State.declareLosses
  exact Within.ite (Within.foldl (fun _ _ h => h.step State.loseEntry_within) Within.refl.upd) (((Within.foldl (fun _ _ h =>
      h.step State.loseEntry_within) Within.refl.upd).step State.raise_within).step State.oweLog_within)

theorem State.startLearning_within {s : State} {t : Nat} : Within [.tables] s (s.startLearning t) := by
  unfold State.startLearning
  split
  · exact Within.refl.step State.setTable_within
  · exact Within.refl

theorem State.inventory_within {s : State} :
    Within [.out, .regs, .boot, .tables, .rows, .lost, .lossList, .drawers, .cur, .host, .cfg] s (s.inventory) := by
  unfold State.inventory
  exact Within.foldl (fun _ _ h => h.step State.startLearning_within) ((Within.foldl (fun _ _ h => h.step
      State.inventoryDrawer_within) (Within.foldl (fun _ _ h => h.step State.rebuildCabinet_within) Within.refl)).step
      State.declareLosses_within)

end Sys2Proof.Machine
end

section
/-! PROOFS. The frame of the operations of Sys2Proof.Machine.Boot, in the order of that file. -/

namespace Sys2Proof.Machine

set_option Elab.async false

theorem State.writeLedger_within {s : State} {l : Ledger} : Within [.ledgerA, .ledgerB] s (s.writeLedger l) := by
  unfold State.writeLedger
  exact Within.ite Within.refl.upd Within.refl.upd

theorem State.setBoot_within {s : State} {b : Boot} : Within [.boot] s (s.setBoot b) := by
  unfold State.setBoot
  exact Within.refl.upd

theorem State.toStep_within {s : State} {n : Nat} : Within [.regs] s (s.toStep n) := by
  unfold State.toStep
  exact Within.refl.step State.put_within

theorem State.enterRecovery_within {s : State} {why : Nat} :
    Within [.out, .mode, .regs, .boot, .ports, .host, .seam, .csc, .cfg] s (s.enterRecovery why) := by
  unfold State.enterRecovery
  exact (((((Within.foldl (fun _ _ h => h.step State.setLink_within) Within.refl).step State.put_within).step
      State.put_within).step State.oweLog_within).upd).step State.setBlock_within

theorem State.takeEpoch_within {s : State} : Within [.regs] s (s.takeEpoch) := by
  unfold State.takeEpoch
  exact Within.refl.step State.put_within

theorem State.ledgerStep_within {s : State} :
    Within [.out, .mode, .regs, .boot, .ledgerA, .ledgerB, .ports, .host, .seam, .csc, .cfg] s (s.ledgerStep) := by
  unfold State.ledgerStep
  exact Within.ite ((((Within.ite ((Within.refl.step State.toStep_within).step State.setRaise_within) (Within.refl.step
      State.toStep_within)).step State.setBoot_within).step State.enterRecovery_within).step State.takeEpoch_within)
      ((((Within.ite ((Within.refl.step State.toStep_within).step State.setRaise_within) (Within.refl.step
      State.toStep_within)).step State.setBoot_within).step State.writeLedger_within).step State.takeEpoch_within)

theorem State.failStart_within {s : State} :
    Within [.out, .mode, .regs, .boot, .ledgerA, .ledgerB, .ports, .host, .seam, .csc, .cfg] s (s.failStart) := by
  unfold State.failStart
  exact (Within.refl.step State.writeLedger_within).step State.enterRecovery_within

theorem doBootLedgerClear_within {v : BitVec 64} {s : State} :
    Within [.ledgerA, .ledgerB] s (doBootLedgerClear v s) := by
  unfold doBootLedgerClear
  exact Within.ite (Within.refl.step State.writeLedger_within) Within.refl

theorem State.haltProgram_within {s : State} : Within [.regs] s (s.haltProgram) := by
  unfold State.haltProgram
  exact (Within.refl.step State.haltStart_within).step State.put_within

theorem State.lookAhead_within {s : State} : Within [.regs] s (s.lookAhead) := by
  unfold State.lookAhead
  split
  · exact Within.refl.step State.haltProgram_within
  · exact Within.ite (Within.refl.step State.haltProgram_within) Within.refl

theorem State.bootNext_within {s : State} : Within [.regs, .boot] s (s.bootNext) := by
  unfold State.bootNext
  exact Within.ite (((Within.refl.step State.put_within).step State.setBoot_within).step State.lookAhead_within)
      ((Within.refl.step State.put_within).step State.setBoot_within)

theorem State.bootTick_within {s : State} {off v : Nat} : Within [.regs] s (s.bootTick off v) := by
  unfold State.bootTick
  exact Within.ite (Within.ite (Within.refl.step State.put_within) (Within.refl.step State.put_within)) (Within.ite
      (Within.ite (Within.refl.step State.put_within) (Within.refl.step State.put_within)) (Within.ite (Within.ite
      (Within.refl.step State.put_within) (Within.refl.step State.put_within)) (Within.ite (Within.ite (Within.refl.step
      State.put_within) (Within.refl.step State.put_within)) Within.refl)))

theorem State.bootPort_within {s : State} {off v : Nat} :
    Within [.out, .regs, .boot, .ports, .planned, .host, .seam, .csc] s (s.bootPort off v) := by
  unfold State.bootPort
  exact Within.ite (Within.ite ((Within.refl.step State.putB_within).step doPrtSelftestStart_within) ((Within.refl.step
      State.putB_within).step doPrtSelftestEnd_within)) Within.refl

theorem State.bootChan_within {s : State} {off v : Nat} :
    Within [.out, .regs, .boot, .chans, .lossList, .host] s (s.bootChan off v) := by
  unfold State.bootChan
  exact Within.ite (Within.refl.step State.applyQuota_within) (Within.ite Within.refl.upd Within.refl)

theorem State.bootCurator_within {s : State} {cal : List CabCal} {off v : Nat} :
    Within [.freeCtr, .out, .regs, .boot, .tables, .rows, .cells, .faults, .journal, .lost, .lossList, .drawers, .cabs, .cur,
        .host] s (s.bootCurator cal off v) := by
  unfold State.bootCurator
  exact Within.ite (Within.refl.step State.dropHistory_within) (Within.ite (Within.refl.step State.calRound_within)
      (Within.ite (Within.refl.step doCurSelftestGo_within) (Within.ite (Within.refl.step doCurRetireGo_within) (Within.ite
      (Within.refl.step State.put_within) (Within.ite (Within.ite ((Within.ite (Within.refl.step State.setCab_within)
      Within.refl).step State.setCab_within) (Within.ite (Within.refl.step State.setCab_within) Within.refl)) Within.refl)))))

theorem State.bootData_within {s : State} {off v : Nat} :
    Within [.out, .regs, .boot, .rptPend, .shadow, .wrd, .host] s (s.bootData off v) := by
  unfold State.bootData
  exact Within.ite ((Within.refl.step State.put_within).step State.applyLock_within) (Within.ite (Within.refl.step
      doWrdPinEn_within) (Within.ite (Within.ite (Within.refl.step State.staticGo_within) (Within.refl.step
      doRptStaticInvalid_within)) (Within.ite Within.refl.upd (Within.ite (Within.foldl (fun _ _ h => h.upd) Within.refl)
      Within.refl))))

theorem State.bootPair_within {s : State} {off v : Nat} :
    Within [.freeCtr, .out, .regs, .boot, .ledgerA, .ledgerB, .rows, .cells, .faults, .journal, .drawers, .cabs, .cur, .mnt,
        .host] s (s.bootPair off v) := by
  unfold State.bootPair
  exact Within.ite (Within.ite ((Within.ite ((Within.refl.step State.put_within).step State.fenceReq_within) (Within.refl.step
      State.put_within)).step doMntUnfence_within) (Within.ite ((Within.refl.step State.put_within).step
      State.fenceReq_within) (Within.refl.step State.put_within))) (Within.ite (Within.ite ((Within.refl.step
      State.putB_within).step State.put_within) (Within.refl.step State.putB_within)) (Within.ite (Within.refl.step
      doBootLedgerClear_within) (Within.ite (Within.refl.step doCscSliceWrite_within) Within.refl)))

theorem State.bootHost_within {s : State} {off v : Nat} : Within [.out, .regs, .boot, .host] s (s.bootHost off v) := by
  unfold State.bootHost
  exact Within.ite (Within.ite (Within.refl.step doQueEnWrite_within) (Within.ite (Within.refl.step doCmdTailWrite_within)
      (Within.ite (Within.refl.step doQueEnWrite_within) (Within.ite (Within.foldl (fun _ _ h => Within.ite (h.step
      State.clearPend_within) h) Within.refl) (Within.ite (Within.refl.step doIdleUsWrite_within) (Within.ite
      (Within.refl.step doIdleUsWrite_within) Within.refl)))))) (Within.ite (Within.refl.step State.clearPend_within)
      Within.refl)

theorem State.bootWindow_within {s : State} {off v : Nat} : Within [.sites, .tallies] s (s.bootWindow off v) := by
  unfold State.bootWindow
  exact Within.ite (Within.refl.step State.setSite_within) (Within.ite ((Within.refl.step State.setTally_within).step
      State.setTally_within) Within.refl)

theorem State.bootReg_within {s : State} {cal : List CabCal} {off v : Nat} :
    Within [.freeCtr, .out, .regs, .boot, .ledgerA, .ledgerB, .ports, .planned, .chans, .sites, .rptPend, .shadow, .tables,
        .rows, .cells, .faults, .journal, .tallies, .lost, .lossList, .drawers, .cabs, .cur, .wrd, .mnt, .host, .seam, .csc] s
        (s.bootReg cal off v) := by
  unfold State.bootReg
  exact Within.ite Within.refl (Within.ite ((((((((((Within.refl.step State.writeReg_within).step State.bootTick_within).step
      State.bootPort_within).step State.bootChan_within).step State.bootCurator_within).step State.bootData_within).step
      State.bootPair_within).step State.bootHost_within).step State.bootWindow_within).step State.put_within)
      (((((((((Within.refl.step State.writeReg_within).step State.bootTick_within).step State.bootPort_within).step
      State.bootChan_within).step State.bootCurator_within).step State.bootData_within).step State.bootPair_within).step
      State.bootHost_within).step State.bootWindow_within))

theorem doBootWrite_within {cal : List CabCal} {s : State} :
    Within [.freeCtr, .out, .mode, .regs, .boot, .ledgerA, .ledgerB, .ports, .planned, .chans, .sites, .rptPend, .shadow,
        .tables, .rows, .cells, .faults, .journal, .tallies, .lost, .lossList, .drawers, .cabs, .cur, .wrd, .mnt, .host,
        .seam, .csc, .cfg] s (doBootWrite cal s) := by
  unfold doBootWrite
  dsimp only
  split
  · exact Within.refl
  · exact Within.ite (((Within.refl.step State.bootReg_within).step State.bootNext_within).step State.failStart_within)
        ((Within.refl.step State.bootReg_within).step State.bootNext_within)

theorem doBootWait_within {s : State} : Within [.boot] s (doBootWait s) := by
  unfold doBootWait
  dsimp only
  split
  · exact Within.refl
  · exact Within.refl.step State.setBoot_within

theorem doBootWaitExpiry_within {s : State} : Within [.regs, .boot] s (doBootWaitExpiry s) := by
  unfold doBootWaitExpiry
  dsimp only
  split
  · exact Within.refl
  · exact Within.ite Within.refl ((Within.refl.step State.setBoot_within).step State.bootNext_within)

theorem State.enterBay_within {s : State} {t g : Nat} {b : Nat × Nat × List Nat} :
    Within [.freeCtr, .bays, .drawers] s (s.enterBay t g b) := by
  unfold State.enterBay
  exact (Within.refl.step State.addBay_within).step State.recordBlock_within

theorem State.enterBroad_within {s : State} {t g : Nat} : Within [.broad] s (s.enterBroad t g) := by
  unfold State.enterBroad
  exact Within.refl.upd

theorem State.allotStart_within {s : State} {t : Nat} {d : Table} :
    Within [.freeCtr, .tables, .bays, .broad, .drawers] s (s.allotStart t d) := by
  unfold State.allotStart
  exact (Within.foldl (fun _ _ h => (Within.foldl (fun _ _ h1 => h1.step State.enterBay_within) h).step
      State.enterBroad_within) Within.refl).step State.giveBlocks_within

theorem State.recount_within {s : State} {t : Nat} : Within [.regs, .tallies] s (s.recount t) := by
  unfold State.recount
  exact Within.foldl (fun _ _ h => h.step State.giveTally_within) Within.refl

theorem State.checkTable_within {s : State} {t : Nat} :
    Within [.freeCtr, .regs, .tables, .tallies, .bays, .broad, .drawers] s (s.checkTable t) := by
  unfold State.checkTable
  split
  · exact Within.refl
  · exact Within.ite Within.refl (((Within.refl.step State.setTable_within).step State.allotStart_within).step
        State.recount_within)

theorem State.imageTable_within {s : State} {i : ImageTable} :
    Within [.freeCtr, .out, .regs, .boot, .tables, .rows, .cells, .faults, .journal, .tallies, .bays, .broad, .drawers, .cabs,
        .cur, .host] s (s.imageTable i) := by
  unfold State.imageTable
  dsimp only
  split
  · exact Within.ite Within.refl (Within.refl.step State.put_within)
  · exact Within.ite (Within.refl.step State.put_within) (Within.ite (Within.refl.step State.haltStart_within) (((Within.foldl
        (fun _ _ h => Within.ite h (h.step State.loadRow_within)) ((Within.refl.step State.setTable_within).step
        State.allotStart_within)).step State.recount_within).step State.startLearning_within))

theorem State.startTables_within {s : State} {img : List ImageTable} :
    Within [.freeCtr, .out, .regs, .boot, .tables, .rows, .cells, .faults, .journal, .tallies, .bays, .broad, .drawers, .cabs,
        .cur, .host] s (s.startTables img) := by
  unfold State.startTables
  exact (Within.foldl (fun _ _ h => Within.foldl (fun _ _ h1 => h1.step State.imageTable_within) (Within.ite (h.step
      State.checkTable_within) h)) (Within.ite Within.refl.upd Within.refl)).step State.showDegraded_within

theorem State.applySites_within {n : Nat} {b : List Byte} {s : State} : Within [.sites] s (State.applySites n b s) := by
  induction n generalizing b s with
  | zero => exact .refl
  | succ n ih => exact Within.ite .refl ((Within.refl.step State.setSite_within).step ih)

theorem State.standingChannel_within {s : State} {i f : Nat} {b : List Byte} :
    Within [.out, .regs, .boot, .chans, .host] s (s.standingChannel i f b) := by
  unfold State.standingChannel
  exact Within.ite (Within.refl.step State.chanCause_within) (Within.refl.step State.setChan_within)

theorem State.applyChannels_within {s : State} {b : List Byte} :
    Within [.out, .regs, .boot, .chans, .host] s (s.applyChannels b) := by
  unfold State.applyChannels
  exact Within.ite (Within.refl.step State.haltStart_within) (Within.foldl (fun _ _ h => h.step State.standingChannel_within)
      Within.refl)

theorem State.applyStatics_within {n : Nat} {b : List Byte} {s : State} : Within [.freeCtr, .out, .regs, .boot, .rpt, .host] s
    (State.applyStatics n b s) := by
  induction n generalizing b s with
  | zero => exact .refl
  | succ n ih => exact Within.ite .refl ((Within.refl.step State.rptStaticPut_within).step ih)

theorem State.applyPinWords_within {s : State} {b : List Byte} :
    Within [.out, .regs, .boot, .wrd, .host] s (s.applyPinWords b) := by
  unfold State.applyPinWords
  exact Within.foldl (fun _ _ h => Within.ite h ((((h.step State.put_within).step State.put_within).step
      State.put_within).step doWrdPinEn_within)) Within.refl

theorem State.applySection_within {s : State} {n : Nat} :
    Within [.freeCtr, .out, .regs, .boot, .chans, .sites, .rpt, .tables, .rows, .cells, .faults, .journal, .tallies, .bays,
        .broad, .drawers, .cabs, .cur, .wrd, .host] s (s.applySection n) := by
  unfold State.applySection
  dsimp only
  exact Within.ite (Within.refl.step State.haltProgram_within) (by
      split
      exacts [Within.refl.step State.startTables_within, Within.ite ((Within.refl.step State.startTables_within).step
          State.applySites_within) (Within.ite ((Within.refl.step State.startTables_within).step State.applyChannels_within)
          (Within.ite ((Within.refl.step State.startTables_within).step State.applyStatics_within) (Within.ite
          ((Within.refl.step State.startTables_within).step State.applyPinWords_within) (Within.refl.step
          State.startTables_within))))])

theorem doBootApply_within {s : State} :
    Within [.freeCtr, .out, .regs, .boot, .chans, .sites, .rpt, .tables, .rows, .cells, .faults, .journal, .tallies, .bays,
        .broad, .drawers, .cabs, .cur, .wrd, .host] s (doBootApply s) := by
  unfold doBootApply
  split
  · exact Within.refl
  · exact (Within.refl.step State.applySection_within).step State.bootNext_within

theorem State.seal_within {s : State} : Within [.regs] s (s.seal) := by
  unfold State.seal
  exact Within.ite (Within.refl.step State.put_within) (Within.refl.step State.haltStart_within)

theorem doBootSeal_within {s : State} : Within [.regs, .boot] s (doBootSeal s) := by
  unfold doBootSeal
  split
  · exact Within.refl
  · exact (Within.refl.step State.seal_within).step State.bootNext_within

theorem State.startSource_within {s : State} : Within [.out, .regs, .boot, .tick, .host] s (s.startSource) := by
  unfold State.startSource
  exact (((Within.ite ((Within.refl.step State.put_within).step State.put_within) Within.refl).step State.setTick_within).step
      State.showLatency_within).step State.reblock_within

theorem State.deliverHeld_within {s : State} : Within [.out, .regs, .boot, .host] s (s.deliverHeld) := by
  unfold State.deliverHeld
  exact Within.foldl (fun _ _ h => h.step State.deliver_within) (Within.refl.step State.setBoot_within)

theorem State.serviceEntry_within {s : State} :
    Within [.out, .mode, .regs, .boot, .ledgerA, .ledgerB, .dorm, .tick, .ports, .cur, .host, .seam, .csc, .cfg] s
        (s.serviceEntry) := by
  unfold State.serviceEntry
  exact ((((Within.foldl (fun _ _ h => h.step State.grantCredits_within) ((Within.ite ((Within.ite (((((((Within.refl.step
      State.toStep_within).step State.writeLedger_within).step State.put_within).upd).step State.deliverHeld_within).step
      State.raise_within).step State.raise_within) ((((((Within.refl.step State.toStep_within).step
      State.writeLedger_within).step State.put_within).upd).step State.deliverHeld_within).step State.raise_within)).step
      State.raise_within) (Within.ite (((((((Within.refl.step State.toStep_within).step State.writeLedger_within).step
      State.put_within).upd).step State.deliverHeld_within).step State.raise_within).step State.raise_within)
      ((((((Within.refl.step State.toStep_within).step State.writeLedger_within).step State.put_within).upd).step
      State.deliverHeld_within).step State.raise_within))).step State.startSource_within)).step State.oweLog_within).step
      State.grantSeam_within).step State.greet_within).step State.decideAttach_within

theorem State.endTraining_within {s : State} :
    Within [.out, .mode, .regs, .boot, .ledgerA, .ledgerB, .dorm, .tick, .ports, .cur, .host, .seam, .csc, .cfg] s
        (s.endTraining) := by
  unfold State.endTraining
  exact Within.ite (Within.refl.step State.serviceEntry_within) Within.refl

theorem State.beginTraining_within {s : State} :
    Within [.out, .mode, .regs, .boot, .ledgerA, .ledgerB, .dorm, .tick, .ports, .cur, .host, .seam, .csc, .cfg] s
        (s.beginTraining) := by
  unfold State.beginTraining
  exact (Within.foldl (fun _ _ h => h.step State.startTraining_within) ((Within.refl.step State.toStep_within).step
      State.setBoot_within)).step State.endTraining_within

theorem doBootEnd_within {s : State} :
    Within [.freeCtr, .out, .mode, .regs, .boot, .ledgerA, .ledgerB, .dorm, .tick, .ports, .tables, .rows, .cells, .faults,
        .journal, .tallies, .bays, .broad, .drawers, .cabs, .cur, .host, .seam, .csc, .cfg] s (doBootEnd s) := by
  unfold doBootEnd
  dsimp only
  split
  · exact Within.refl
  · exact Within.ite (Within.ite (((Within.refl.step State.startTables_within).step State.put_within).step State.seal_within)
        ((Within.refl.step State.startTables_within).step State.put_within)) ((Within.ite (((Within.refl.step
        State.startTables_within).step State.put_within).step State.seal_within) ((Within.refl.step
        State.startTables_within).step State.put_within)).step State.beginTraining_within)

theorem doLinkTrainingTimeout_within {s : State} :
    Within [.out, .mode, .regs, .boot, .ledgerA, .ledgerB, .dorm, .tick, .ports, .cur, .host, .seam, .csc, .cfg] s
        (doLinkTrainingTimeout s) := by
  unfold doLinkTrainingTimeout
  exact Within.ite (Within.refl.step State.serviceEntry_within) Within.refl

theorem State.calibrateStart_within {s : State} {cal : List CabCal} :
    Within [.out, .regs, .boot, .cabs, .cur, .host] s (s.calibrateStart cal) := by
  unfold State.calibrateStart
  exact Within.ite (((Within.refl.step State.toStep_within).step State.calibrateAll_within).step State.dropHistory_within)
      ((Within.refl.step State.toStep_within).step State.calibrateAll_within)

theorem State.logFailed_within {s : State} : Within [.cfg] s (s.logFailed) := by
  unfold State.logFailed
  exact Within.ite (Within.refl.step State.oweLog_within) Within.refl

theorem State.startOn_within {s : State} {cal : List CabCal} :
    Within [.out, .mode, .regs, .boot, .ledgerA, .ledgerB, .ports, .tables, .rows, .lost, .lossList, .drawers, .cabs, .cur,
        .host, .seam, .csc, .cfg] s (s.startOn cal) := by
  unfold State.startOn
  exact Within.ite ((Within.refl.step State.setBoot_within).step State.ledgerStep_within) (Within.ite ((((((Within.refl.step
      State.setBoot_within).step State.ledgerStep_within).step State.calibrateStart_within).step State.toStep_within).step
      State.selectImage_within).step State.haltStart_within) (((((((((((Within.refl.step State.setBoot_within).step
      State.ledgerStep_within).step State.calibrateStart_within).step State.toStep_within).step State.selectImage_within).step
      State.logFailed_within).step State.toStep_within).step State.inventory_within).step State.toStep_within).step
      State.setBoot_within).step State.lookAhead_within))

theorem State.startSeq_within {s : State} {cal : List CabCal} :
    Within [.out, .mode, .regs, .boot, .ledgerA, .ledgerB, .ports, .tables, .rows, .lost, .lossList, .drawers, .cabs, .cur,
        .host, .seam, .csc, .cfg] s (s.startSeq cal) := by
  unfold State.startSeq
  exact Within.ite ((Within.refl.step State.toStep_within).step State.startOn_within) (Within.refl.step State.toStep_within)

theorem State.setPins_within {s : State} {p : Pins} : Within [.pins] s (s.setPins p) := by
  unfold State.setPins
  exact Within.refl.upd

theorem doResetLAssert_within {lowNs : Nat} {s : State} :
    Within [.freeCtr, .out, .mode, .pins, .regs, .boot, .dorm, .tick, .ports, .planned, .chans, .sites, .rpt, .rptPend,
        .shadow, .tables, .rows, .faults, .journal, .groups, .tallies, .learnLog, .lost, .lossList, .bays, .broad,
        .baysBefore, .broadBefore, .drawers, .cabs, .acts, .cur, .wrd, .mnt, .host, .seam, .csc, .cfg] s (doResetLAssert lowNs
        s) := by
  unfold doResetLAssert
  exact Within.ite Within.refl ((Within.refl.step State.wiped_within).step State.setPins_within)

theorem doResetLRelease_within {cal : List CabCal} {s : State} :
    Within [.out, .mode, .pins, .regs, .boot, .ledgerA, .ledgerB, .ports, .tables, .rows, .lost, .lossList, .drawers, .cabs,
        .cur, .host, .seam, .csc, .cfg] s (doResetLRelease cal s) := by
  unfold doResetLRelease
  exact Within.ite Within.refl (Within.ite ((Within.refl.step State.setPins_within).step State.startSeq_within)
      (Within.refl.step State.setPins_within))

theorem doPowerDetectorTrip_within {r : Rail} {lowNs : Nat} {s : State} :
    Within [.freeCtr, .out, .mode, .pins, .tap, .regs, .boot, .dorm, .tick, .ports, .planned, .chans, .sites, .rpt, .rptPend,
        .shadow, .tables, .rows, .faults, .journal, .groups, .tallies, .learnLog, .lost, .lossList, .bays, .broad,
        .baysBefore, .broadBefore, .drawers, .cabs, .acts, .cur, .wrd, .mnt, .host, .seam, .csc, .cfg] s (doPowerDetectorTrip
        r lowNs s) := by
  unfold doPowerDetectorTrip
  exact Within.ite Within.refl (Within.ite (((Within.refl.step State.wiped_within).step State.setPins_within).upd)
      ((Within.refl.step State.wiped_within).step State.setPins_within))

theorem doRailsInRange_within {cal : List CabCal} {s : State} :
    Within [.out, .mode, .pins, .regs, .boot, .ledgerA, .ledgerB, .ports, .tables, .rows, .lost, .lossList, .drawers, .cabs,
        .cur, .host, .seam, .csc, .cfg] s (doRailsInRange cal s) := by
  unfold doRailsInRange
  exact Within.ite Within.refl (Within.ite ((Within.refl.step State.setPins_within).step State.startSeq_within)
      (Within.refl.step State.setPins_within))

theorem doUnwatchedRail_within {cal : List CabCal} {s : State} :
    Within [.out, .mode, .pins, .regs, .boot, .ledgerA, .ledgerB, .ports, .tables, .rows, .lost, .lossList, .drawers, .cabs,
        .cur, .host, .seam, .csc, .cfg] s (doUnwatchedRail cal s) := by
  unfold doUnwatchedRail
  exact Within.ite Within.refl (Within.ite ((Within.refl.step State.setPins_within).step State.startOn_within)
      (Within.refl.step State.setPins_within))

end Sys2Proof.Machine
end

section
/-! PROOFS. The frame of the operations of Sys2Proof.Machine.LinkTrain, in the order of that file. -/

namespace Sys2Proof.Machine

set_option Elab.async false

theorem State.afterUp_within {s : State} {l : Link} :
    Within [.out, .mode, .regs, .boot, .ledgerA, .ledgerB, .dorm, .tick, .ports, .cur, .host, .seam, .csc, .cfg] s (s.afterUp
        l) := by
  unfold State.afterUp
  exact (Within.ite ((Within.refl.step State.greet_within).step State.decideAttach_within) Within.refl).step
      State.endTraining_within

theorem State.takeGrant_within {s : State} {l : Link} {grant : Nat} : Within [.regs] s (s.takeGrant l grant) := by
  unfold State.takeGrant
  split
  · exact Within.refl.step State.put_within
  · exact Within.refl
  · exact Within.refl
  · exact Within.refl

theorem doHello_within {l : Link} {f : Flit} {s : State} :
    Within [.out, .mode, .regs, .boot, .ledgerA, .ledgerB, .dorm, .tick, .ports, .cur, .host, .seam, .csc, .cfg] s (doHello l
        f s) := by
  unfold doHello
  exact Within.ite (Within.ite (((((Within.refl.step State.setLink_within).step State.sendLink_within).step
      State.takeGrant_within).step State.linkUp_within).step State.afterUp_within) (((Within.refl.step
      State.setLink_within).step State.sendLink_within).step State.takeGrant_within)) Within.refl

theorem State.linkDown_within {s : State} {l : Link} :
    Within [.out, .regs, .boot, .ports, .planned, .rptPend, .host, .seam, .csc] s (s.linkDown l) := by
  unfold State.linkDown
  split
  · exact Within.refl.step State.portDown_within
  · exact (Within.refl.step State.toState_within).step State.detachSoon_within
  · exact (Within.refl.step State.toState_within).step State.cscLost_within
  · exact (Within.refl.step State.toState_within).step State.cscLost_within

theorem doLinkDown_within {l : Link} {why : DownCause} {s : State} :
    Within [.out, .regs, .boot, .ports, .planned, .rptPend, .host, .seam, .csc] s (doLinkDown l why s) := by
  unfold doLinkDown
  exact Within.ite (Within.refl.step State.linkDown_within) Within.refl

end Sys2Proof.Machine
end

section
/-! PROOFS. The frame of the operations of Sys2Proof.Machine.Tap, in the order of that file. -/

namespace Sys2Proof.Machine

set_option Elab.async false

theorem State.tapLoad_within {s : State} {i : TapIr} {dr : BitVec 128} : Within [.tap] s (s.tapLoad i dr) := by
  unfold State.tapLoad
  exact Within.ite Within.refl.upd Within.refl

theorem State.tapScan_within {s : State} {i : TapIr} : Within [.freeCtr, .tap] s (s.tapScan i) := by
  unfold State.tapScan
  exact Within.ite ((Within.refl.step State.tapLoad_within).step State.drawn_within) Within.refl

theorem doTapReset_within {s : State} : Within [.tap] s (doTapReset s) := by
  unfold doTapReset
  exact Within.refl.step State.tapLoad_within

theorem doFuseProg_within {v : BitVec 64} {s : State} : Within [.fuses, .tap] s (doFuseProg v s) := by
  unfold doFuseProg
  exact Within.ite (Within.ite ((Within.refl.step State.tapLoad_within).upd) (Within.refl.step State.tapLoad_within))
      Within.refl

end Sys2Proof.Machine
end

section
/-! PROOFS. The frame of the operations of Sys2Proof.Machine.Dormancy, in the order of that file. -/

namespace Sys2Proof.Machine

set_option Elab.async false

theorem State.setDorm_within {s : State} {d : Dorm} : Within [.dorm] s (s.setDorm d) := by
  unfold State.setDorm
  exact Within.refl.upd

theorem doIdleTimerExpiry_within {s : State} : Within [.dorm] s (doIdleTimerExpiry s) := by
  unfold doIdleTimerExpiry
  exact Within.ite (Within.refl.step State.setDorm_within) Within.refl

theorem State.idleBoundary_within {s : State} : Within [.dorm] s (s.idleBoundary) := by
  unfold State.idleBoundary
  exact Within.ite (Within.refl.step State.setDorm_within) Within.refl

theorem State.storeAll_within {s : State} : Within [.wrd] s (s.storeAll) := by
  unfold State.storeAll
  exact Within.refl.step State.setWrd_within

theorem State.entryBoundary_within {s : State} :
    Within [.out, .regs, .boot, .dorm, .wrd, .host, .cfg] s (s.entryBoundary) := by
  unfold State.entryBoundary
  exact Within.ite ((((Within.refl.step State.setDorm_within).step State.raise_within).step State.oweLog_within).step
      State.storeAll_within) Within.refl

theorem State.persistAll_within {s : State} :
    Within [.freeCtr, .out, .regs, .boot, .rows, .cells, .faults, .journal, .drawers, .cabs, .cur, .host] s (s.persistAll) := by
  unfold State.persistAll
  exact Within.foldl (fun _ _ h => h.step doLearnPersist_within) Within.refl

theorem State.saveDigests_within {s : State} : Within [.drawers] s (s.saveDigests) := by
  unfold State.saveDigests
  exact Within.foldl (fun _ _ h => h.step State.saveDigest_within) Within.refl

theorem State.putAway_within {s : State} :
    Within [.freeCtr, .out, .regs, .boot, .rows, .cells, .faults, .journal, .drawers, .cabs, .cur, .wrd, .host] s (s.putAway)
        := by
  unfold State.putAway
  exact (Within.refl.step State.storeAll_within).step State.persistAll_within

theorem State.sayGoodbye_within {s : State} : Within [.out, .drawers, .cur, .seam] s (s.sayGoodbye) := by
  unfold State.sayGoodbye
  exact (((Within.ite (Within.refl.step State.sayBye_within) Within.refl).step State.cscGoodbye_within).step
      State.saveDigests_within).step State.setCur_within

theorem State.keepArmed_within {s t : State} : Within [.regs] t (s.keepArmed t) := by
  unfold State.keepArmed
  exact Within.foldl (fun _ _ h => h.step State.put_within) Within.refl

theorem State.gated_within {s : State} :
    Within [.freeCtr, .out, .mode, .pins, .regs, .boot, .dorm, .tick, .ports, .planned, .chans, .sites, .rpt, .rptPend,
        .shadow, .tables, .rows, .faults, .journal, .groups, .tallies, .learnLog, .lost, .lossList, .bays, .broad,
        .baysBefore, .broadBefore, .drawers, .cabs, .acts, .cur, .wrd, .mnt, .host, .seam, .csc, .cfg] s (s.gated) := by
  unfold State.gated
  exact (((Within.refl.step State.wiped_within).step State.keepArmed_within).upd).step State.setDorm_within

theorem State.wake_within {s : State} {w : WakeSeen} {race : Bool} {dormantS : Nat} {cal : List CabCal} :
    Within [.freeCtr, .out, .mode, .pins, .tap, .regs, .boot, .ledgerA, .ledgerB, .dorm, .tick, .ports, .planned, .chans,
        .sites, .rpt, .rptPend, .shadow, .tables, .rows, .faults, .journal, .groups, .tallies, .learnLog, .lost, .lossList,
        .bays, .broad, .baysBefore, .broadBefore, .drawers, .cabs, .acts, .cur, .wrd, .mnt, .host, .seam, .csc, .cfg] s
        (s.wake w race dormantS cal) := by
  unfold State.wake
  exact ((((Within.refl.step State.setDorm_within).step State.wiped_within).upd).step State.put_within).step
      State.startSeq_within

theorem doDormancyGating_within {cal : List CabCal} {s : State} :
    Within [.freeCtr, .out, .mode, .pins, .tap, .regs, .boot, .ledgerA, .ledgerB, .dorm, .tick, .ports, .planned, .chans,
        .sites, .rpt, .rptPend, .shadow, .tables, .rows, .cells, .faults, .journal, .groups, .tallies, .learnLog, .lost,
        .lossList, .bays, .broad, .baysBefore, .broadBefore, .drawers, .cabs, .acts, .cur, .wrd, .mnt, .host, .seam, .csc,
        .cfg] s (doDormancyGating cal s) := by
  unfold doDormancyGating
  dsimp only
  exact Within.ite (Within.ite (by
      split
      exacts [((Within.refl.step State.putAway_within).step State.sayGoodbye_within).step State.gated_within,
          (((Within.refl.step State.putAway_within).step State.sayGoodbye_within).step State.gated_within).step
          State.wake_within]) (Within.refl.step State.putAway_within)) Within.refl

theorem doWakeDetect_within {w : WakeSeen} {dormantS : Nat} {cal : List CabCal} {s : State} :
    Within [.freeCtr, .out, .mode, .pins, .tap, .regs, .boot, .ledgerA, .ledgerB, .dorm, .tick, .ports, .planned, .chans,
        .sites, .rpt, .rptPend, .shadow, .tables, .rows, .faults, .journal, .groups, .tallies, .learnLog, .lost, .lossList,
        .bays, .broad, .baysBefore, .broadBefore, .drawers, .cabs, .acts, .cur, .wrd, .mnt, .host, .seam, .csc, .cfg] s
        (doWakeDetect w dormantS cal s) := by
  unfold doWakeDetect
  exact Within.ite Within.refl (Within.ite (Within.refl.step State.wake_within) (Within.ite (Within.refl.step
      State.setDorm_within) Within.refl))

end Sys2Proof.Machine
end

section
/-! PROOFS. The frame of the operations of Sys2Proof.Machine.Tick, in the order of that file. -/

namespace Sys2Proof.Machine

set_option Elab.async false

theorem State.openTick_within {s : State} : Within [.tick] s (s.openTick) := by
  unfold State.openTick
  exact Within.refl.step State.setTick_within

theorem State.stretch_within {s : State} : Within [.regs, .tick] s (s.stretch) := by
  unfold State.stretch
  exact Within.ite (((Within.refl.step State.setTick_within).step State.bump_within).step State.showOffset_within) Within.refl

theorem State.useCredits_within {s : State} : Within [.regs, .ports] s (s.useCredits) := by
  unfold State.useCredits
  exact Within.foldl (fun _ _ h => Within.ite h ((h.step State.setPort_within).step State.put_within)) Within.refl

theorem State.sendTicks_within {s old : State} : Within [.out] s (s.sendTicks old) := by
  unfold State.sendTicks
  exact Within.refl.upd

theorem State.countFec_within {s : State} {b : Boundary} : Within [.regs] s (s.countFec b) := by
  unfold State.countFec
  exact Within.foldl (fun _ _ h => Within.ite (h.step State.bump_within) h) Within.refl

theorem State.releaseDrawer_within {s : State} {g x : Nat} :
    Within [.bays, .broad, .drawers] s (s.releaseDrawer g x) := by
  unfold State.releaseDrawer
  exact (Within.refl.step State.setDrawer_within).upd

theorem State.releaseDrawers_within {s : State} : Within [.bays, .broad, .drawers] s (s.releaseDrawers) := by
  unfold State.releaseDrawers
  exact Within.foldl (fun _ _ h => Within.ite (h.step State.releaseDrawer_within) h) Within.refl

theorem State.actWindow_within {s : State} : Within [.acts] s (s.actWindow) := by
  unfold State.actWindow
  exact Within.refl.upd

theorem State.galleries_within {s : State} : Within [.out, .regs, .boot, .acts, .host] s (s.galleries) := by
  unfold State.galleries
  exact Within.foldl (fun _ _ h => Within.ite (((h.step State.put_within).step State.put_within).step State.raiseEp_within)
      (h.step State.put_within)) (Within.refl.step State.actWindow_within)

theorem State.wearRate_within {s : State} : Within [.regs, .cur] s (s.wearRate) := by
  unfold State.wearRate
  exact Within.ite ((Within.refl.step State.put_within).step State.setCur_within) Within.refl

theorem State.admission_within {s : State} : Within [.out, .regs, .boot, .tick, .ports, .host] s (s.admission) := by
  unfold State.admission
  exact Within.ite (Within.refl.step State.openAdmission_within) ((Within.refl.step State.setTick_within).step
      State.setBlock_within)

theorem State.purge_within {s : State} : Within [.planned] s (s.purge) := by
  unfold State.purge
  exact Within.refl.upd

theorem State.snapshot_within {s : State} : Within [.baysBefore, .broadBefore, .csc] s (s.snapshot) := by
  unfold State.snapshot
  exact Within.refl.upd

theorem State.assignLearned_within {s : State} : Within [.bays, .broad, .drawers] s (s.assignLearned) := by
  unfold State.assignLearned
  exact Within.foldl (fun _ _ h => h.step State.assignFor_within) Within.refl

theorem State.seamBoundary_within {s : State} :
    Within [.freeCtr, .out, .regs, .boot, .tick, .chans, .sites, .tables, .rows, .cells, .faults, .journal, .groups, .bays,
        .broad, .drawers, .cabs, .cur, .wrd, .host, .seam] s (s.seamBoundary) := by
  unfold State.seamBoundary
  exact ((Within.refl.step State.detachBoundary_within).step State.digestBoundary_within).step State.opsBoundary_within

theorem State.objectsBoundary_within {s : State} :
    Within [.freeCtr, .out, .regs, .boot, .chans, .sites, .rpt, .rptPend, .tables, .rows, .wrd, .host] s (s.objectsBoundary)
        := by
  unfold State.objectsBoundary
  exact (((((Within.refl.step State.tablesBoundary_within).step State.channelsBoundary_within).step
      State.wardrobeBoundary_within).step State.hitWindow_within).step State.sitesBoundary_within).step State.rptBoundary_within

theorem State.arrayBoundary_within {s : State} :
    Within [.freeCtr, .out, .regs, .boot, .tables, .rows, .cells, .faults, .journal, .groups, .lost, .lossList, .bays, .broad,
        .drawers, .cabs, .acts, .cur, .host, .seam] s (s.arrayBoundary) := by
  unfold State.arrayBoundary
  exact (((((((((Within.refl.step State.slotsBoundary_within).step State.cabsBoundary_within).step
      State.stepSwaps_within).step State.retireMore_within).step State.releaseDrawers_within).step
      State.sweepBoundary_within).step State.galleries_within).step State.wearRate_within).step State.askRestore_within).step
      State.retryRestore_within

theorem State.ringBoundary_within {s : State} : Within [.out, .regs, .seam, .csc] s (s.ringBoundary) := by
  unfold State.ringBoundary
  exact ((Within.refl.step State.syncBoundary_within).step State.cscRefresh_within).step State.proposeBoundary_within

theorem State.closeBoundary_within {s : State} {b : Boundary} :
    Within [.out, .regs, .boot, .dorm, .tick, .ports, .wrd, .host, .cfg] s (s.closeBoundary b) := by
  unfold State.closeBoundary
  exact ((((((((Within.refl.step State.settleControl_within).step State.postReady_within).step State.showGates_within).step
      State.showLatency_within).step State.governor_within).step State.endRetime_within).step State.idleBoundary_within).step
      State.entryBoundary_within).step State.admission_within

theorem State.serviceBoundary_within {s : State} {b : Boundary} :
    Within [.freeCtr, .out, .regs, .boot, .dorm, .tick, .ports, .planned, .chans, .sites, .rpt, .rptPend, .tables, .rows,
        .cells, .faults, .journal, .groups, .lost, .lossList, .bays, .broad, .baysBefore, .broadBefore, .drawers, .cabs,
        .acts, .cur, .wrd, .host, .seam, .csc, .cfg] s (s.serviceBoundary b) := by
  unfold State.serviceBoundary
  exact Within.foldl (fun _ _ h => h.step State.sendCredit_within) (((((((((((((Within.refl.upd.step State.purge_within).step
      State.snapshot_within).step State.assignLearned_within).step State.openTick_within).step State.stretch_within).step
      State.useCredits_within).step State.seamBoundary_within).step State.objectsBoundary_within).step
      State.arrayBoundary_within).step State.ringBoundary_within).step State.closeBoundary_within).step
      State.countFec_within).step State.sendTicks_within)

theorem doTickBoundary_within {b : Boundary} {s : State} :
    Within [.freeCtr, .out, .regs, .boot, .dorm, .tick, .ports, .planned, .chans, .sites, .rpt, .rptPend, .tables, .rows,
        .cells, .faults, .journal, .groups, .lost, .lossList, .bays, .broad, .baysBefore, .broadBefore, .drawers, .cabs,
        .acts, .cur, .wrd, .host, .seam, .csc, .cfg] s (doTickBoundary b s) := by
  unfold doTickBoundary
  exact Within.ite Within.refl (Within.ite ((Within.refl.step State.showProgress_within).step State.setTick_within)
      (Within.refl.step State.serviceBoundary_within))

end Sys2Proof.Machine
end

section
/-! PROOFS. The frame of every command (O56), and from it two invariants: the fuses (O57) and the canonical memory (O58). -/

namespace Sys2Proof.Machine

set_option Elab.async false

/-! ## Each command, in the order of the table -/

theorem execResetLAssert_within {lowNs : Nat} {s u : State} (h : execResetLAssert lowNs s = .next u) :
    Within [.freeCtr, .out, .mode, .pins, .regs, .boot, .dorm, .tick, .ports, .planned, .chans, .sites, .rpt, .rptPend,
        .shadow, .tables, .rows, .faults, .journal, .groups, .tallies, .learnLog, .lost, .lossList, .bays, .broad,
        .baysBefore, .broadBefore, .drawers, .cabs, .acts, .cur, .wrd, .mnt, .host, .seam, .csc, .cfg] s u :=
  Within.of_next (Within.refl.step doResetLAssert_within) h

theorem execResetLRelease_within {cal : List CabCal} {s u : State} (h : execResetLRelease cal s = .next u) :
    Within [.out, .mode, .pins, .regs, .boot, .ledgerA, .ledgerB, .ports, .tables, .rows, .lost, .lossList, .drawers, .cabs,
        .cur, .host, .seam, .csc, .cfg] s u :=
  Within.of_next (Within.refl.step doResetLRelease_within) h

theorem execPowerDetectorTrip_within {r : Rail} {lowNs : Nat} {s u : State} (h : execPowerDetectorTrip r lowNs s = .next u) :
    Within [.freeCtr, .out, .mode, .pins, .tap, .regs, .boot, .dorm, .tick, .ports, .planned, .chans, .sites, .rpt, .rptPend,
        .shadow, .tables, .rows, .faults, .journal, .groups, .tallies, .learnLog, .lost, .lossList, .bays, .broad,
        .baysBefore, .broadBefore, .drawers, .cabs, .acts, .cur, .wrd, .mnt, .host, .seam, .csc, .cfg] s u :=
  Within.of_next (Within.refl.step doPowerDetectorTrip_within) h

theorem execRailsInRange_within {cal : List CabCal} {s u : State} (h : execRailsInRange cal s = .next u) :
    Within [.out, .mode, .pins, .regs, .boot, .ledgerA, .ledgerB, .ports, .tables, .rows, .lost, .lossList, .drawers, .cabs,
        .cur, .host, .seam, .csc, .cfg] s u :=
  Within.of_next (Within.refl.step doRailsInRange_within) h

theorem execStartLimitExpiry_within {s u : State} (h : execStartLimitExpiry s = .next u) :
    Within [.out, .mode, .regs, .boot, .ledgerA, .ledgerB, .ports, .host, .seam, .csc, .cfg] s u :=
  Within.of_next (Within.ite (Within.refl.step State.failStart_within) Within.refl) h

theorem execBootEnd_within {s u : State} (h : execBootEnd s = .next u) :
    Within [.freeCtr, .out, .mode, .regs, .boot, .ledgerA, .ledgerB, .dorm, .tick, .ports, .tables, .rows, .cells, .faults,
        .journal, .tallies, .bays, .broad, .drawers, .cabs, .cur, .host, .seam, .csc, .cfg] s u :=
  Within.of_next (Within.refl.step doBootEnd_within) h

theorem execBootWrite_within {cal : List CabCal} {s u : State} (h : execBootWrite cal s = .next u) :
    Within [.freeCtr, .out, .mode, .regs, .boot, .ledgerA, .ledgerB, .ports, .planned, .chans, .sites, .rptPend, .shadow,
        .tables, .rows, .cells, .faults, .journal, .tallies, .lost, .lossList, .drawers, .cabs, .cur, .wrd, .mnt, .host,
        .seam, .csc, .cfg] s u :=
  Within.of_next (Within.refl.step doBootWrite_within) h

theorem execBootWait_within {s u : State} (h : execBootWait s = .next u) : Within [.boot] s u :=
  Within.of_next (Within.refl.step doBootWait_within) h

theorem execBootWaitExpiry_within {s u : State} (h : execBootWaitExpiry s = .next u) :
    Within [.regs, .boot] s u :=
  Within.of_next (Within.refl.step doBootWaitExpiry_within) h

theorem execBootApply_within {s u : State} (h : execBootApply s = .next u) :
    Within [.freeCtr, .out, .regs, .boot, .chans, .sites, .rpt, .tables, .rows, .cells, .faults, .journal, .tallies, .bays,
        .broad, .drawers, .cabs, .cur, .wrd, .host] s u :=
  Within.of_next (Within.refl.step doBootApply_within) h

theorem execBootSeal_within {s u : State} (h : execBootSeal s = .next u) : Within [.regs, .boot] s u :=
  Within.of_next (Within.refl.step doBootSeal_within) h

theorem execBootLedgerClear_within {v : BitVec 64} {s u : State} (h : execBootLedgerClear v s = .next u) :
    Within [.ledgerA, .ledgerB] s u :=
  Within.of_next (Within.refl.step doBootLedgerClear_within) h

theorem execTickBoundary_within {b : Boundary} {s u : State} (h : execTickBoundary b s = .next u) :
    Within [.freeCtr, .out, .regs, .boot, .dorm, .tick, .ports, .planned, .chans, .sites, .rpt, .rptPend, .tables, .rows,
        .cells, .faults, .journal, .groups, .lost, .lossList, .bays, .broad, .baysBefore, .broadBefore, .drawers, .cabs,
        .acts, .cur, .wrd, .host, .seam, .csc, .cfg] s u :=
  Within.of_next (Within.refl.step doTickBoundary_within) h

theorem execAdmissionClose_within {s u : State} (h : execAdmissionClose s = .next u) :
    Within [.freeCtr, .out, .regs, .boot, .dorm, .tick, .ports, .planned, .sites, .rpt, .rptPend, .host, .seam, .csc] s u :=
  Within.of_next (Within.refl.step doAdmissionClose_within) h

theorem execTickReferenceEdge_within {s u : State} (h : execTickReferenceEdge s = .next u) :
    Within [.out, .regs, .boot, .tick, .host] s u :=
  Within.of_next (Within.refl.step doTickReferenceEdge_within) h

theorem execMissedEdge_within {s u : State} (h : execMissedEdge s = .next u) :
    Within [.out, .regs, .boot, .tick, .host, .seam] s u :=
  Within.of_next (Within.refl.step doMissedEdge_within) h

theorem execTickSourceMissing_within {s u : State} (h : execTickSourceMissing s = .next u) :
    Within [.regs, .tick] s u :=
  Within.of_next (Within.refl.step doTickSourceMissing_within) h

theorem execTickMarker_within {l : Link} {f : Flit} {p : Nat} {s u : State} (h : execTickMarker l f p s = .next u) :
    Within [.out, .regs, .boot, .tick, .host, .seam] s u :=
  Within.of_next (Within.refl.step doTickMarker_within) h

theorem execTickSettingWrite_within {t : TickSetting} {s u : State} (h : execTickSettingWrite t s = .next u) :
    Within [.out, .regs, .boot, .dorm, .tick, .host] s u := by
  refine Within.of_next ?_ h
  exact State.onService_within (Within.refl.step doTickSettingWrite_within)

theorem execRetimingApply_within {s u : State} (h : execRetimingApply s = .next u) :
    Within [.out, .regs, .boot, .tick, .host] s u :=
  Within.of_next (Within.refl.step doRetimingApply_within) h

theorem execDataFlit_within {p : Fin 16} {f : Flit} {s u : State} (h : execDataFlit p f s = .next u) :
    Within [.out, .regs, .boot, .ports, .host, .seam, .csc] s u :=
  Within.of_next (Within.refl.step doDataFlit_within) h

theorem execRecordCommit_within {p : Fin 16} {s u : State} (h : execRecordCommit p s = .next u) :
    Within [.out, .regs, .boot, .ports, .host, .seam, .csc] s u :=
  Within.of_next (Within.refl.step doRecordCommit_within) h

theorem execHello_within {l : Link} {f : Flit} {s u : State} (h : execHello l f s = .next u) :
    Within [.out, .mode, .regs, .boot, .ledgerA, .ledgerB, .dorm, .tick, .ports, .cur, .host, .seam, .csc, .cfg] s u :=
  Within.of_next (Within.refl.step doHello_within) h

theorem execCredit_within {l : Link} {f : Flit} {s u : State} (h : execCredit l f s = .next u) :
    Within [.out, .ports, .seam, .csc] s u :=
  Within.of_next (Within.refl.step doCredit_within) h

theorem execSync_within {l : Link} {f : Flit} {s u : State} (h : execSync l f s = .next u) :
    Within [.out, .regs, .ports, .seam, .csc] s u :=
  Within.of_next (Within.refl.step doSync_within) h

theorem execAlign_within {l : Link} {lane : Nat} {f : Flit} {s u : State} (h : execAlign l lane f s = .next u) :
    Within [.ports, .seam, .csc] s u :=
  Within.of_next (Within.refl.step doAlign_within) h

theorem execReservedLinkFlit_within {l : Link} {f : Flit} {s u : State} (h : execReservedLinkFlit l f s = .next u) :
    Within [.regs] s u :=
  Within.of_next (Within.refl.step doReservedLinkFlit_within) h

theorem execUncorrectableCodeword_within {l : Link} {lane : Nat} {ordinal : Nat} {s u : State} (h : execUncorrectableCodeword
    l lane ordinal s = .next u) :
    Within [.out, .regs, .boot, .ports, .host, .seam, .csc] s u :=
  Within.of_next (Within.refl.step doUncorrectableCodeword_within) h

theorem execLinkSignalDetect_within {l : Link} {s u : State} (h : execLinkSignalDetect l s = .next u) :
    Within [.ports, .seam, .csc] s u :=
  Within.of_next (Within.refl.step State.trainStep_within) h

theorem execCodewordLock_within {l : Link} {s u : State} (h : execCodewordLock l s = .next u) :
    Within [.ports, .seam, .csc] s u :=
  Within.of_next (Within.refl.step State.trainStep_within) h

theorem execLaneAlignment_within {l : Link} {skewNs : Nat} {s u : State} (h : execLaneAlignment l skewNs s = .next u) :
    Within [.out, .ports, .seam, .csc] s u :=
  Within.of_next (Within.refl.step doLaneAlignment_within) h

theorem execHelloTimeout_within {l : Link} {s u : State} (h : execHelloTimeout l s = .next u) :
    Within [.regs, .ports, .seam, .csc] s u :=
  Within.of_next (Within.refl.step doHelloTimeout_within) h

theorem execLinkDown_within {l : Link} {why : DownCause} {s u : State} (h : execLinkDown l why s = .next u) :
    Within [.out, .regs, .boot, .ports, .planned, .rptPend, .host, .seam, .csc] s u :=
  Within.of_next (Within.refl.step doLinkDown_within) h

theorem execPrtRetrain_within {p : Fin 16} {s u : State} (h : execPrtRetrain p s = .next u) :
    Within [.out, .regs, .boot, .dorm, .ports, .planned, .rptPend, .host, .seam, .csc] s u := by
  refine Within.of_next ?_ h
  exact State.onService_within (Within.ite (Within.refl.step State.portDown_within) Within.refl)

theorem execPrtFlush_within {p : Fin 16} {s u : State} (h : execPrtFlush p s = .next u) :
    Within [.out, .regs, .boot, .dorm, .ports, .host, .seam, .csc] s u := by
  refine Within.of_next ?_ h
  exact State.onService_within (Within.refl.step State.flushPort_within)

theorem execPrtEnWrite_within {p : Fin 16} {en : Bool} {s u : State} (h : execPrtEnWrite p en s = .next u) :
    Within [.out, .regs, .boot, .dorm, .ports, .planned, .host, .seam, .csc] s u := by
  refine Within.of_next ?_ h
  exact State.onService_within (Within.refl.step doPrtEnWrite_within)

theorem execPrtSelftestStart_within {p : Fin 16} {s u : State} (h : execPrtSelftestStart p s = .next u) :
    Within [.out, .regs, .boot, .dorm, .ports, .planned, .host, .seam, .csc] s u := by
  refine Within.of_next ?_ h
  exact State.onService_within (Within.refl.step doPrtSelftestStart_within)

theorem execPrtSelftestDone_within {p : Fin 16} {corrected : Nat} {doubles : Nat} {s u : State} (h : execPrtSelftestDone p
    corrected doubles s = .next u) :
    Within [.regs] s u :=
  Within.of_next (Within.refl.step doPrtSelftestDone_within) h

theorem execPrtSelftestEnd_within {p : Fin 16} {s u : State} (h : execPrtSelftestEnd p s = .next u) :
    Within [.regs, .dorm, .ports, .seam, .csc] s u := by
  refine Within.of_next ?_ h
  exact State.onService_within (Within.refl.step doPrtSelftestEnd_within)

theorem execSearchSlot_within {s u : State} (h : execSearchSlot s = .next u) :
    Within [.freeCtr, .out, .regs, .boot, .ports, .planned, .tables, .rows, .tallies, .learnLog, .drawers, .acts, .cur, .wrd,
        .host, .seam, .csc] s u :=
  Within.of_next (Within.refl.step doSearchSlot_within) h

theorem execVerdictRelease_within {p : Fin 16} {s u : State} (h : execVerdictRelease p s = .next u) :
    Within [.out, .regs, .planned] s u :=
  Within.of_next (Within.refl.step doVerdictRelease_within) h

theorem execCaptureTransmit_within {p : Fin 16} {s u : State} (h : execCaptureTransmit p s = .next u) :
    Within [.out, .regs, .ports] s u :=
  Within.of_next (Within.refl.step doCaptureTransmit_within) h

theorem execControlCopySend_within {p : Fin 16} {s u : State} (h : execControlCopySend p s = .next u) :
    Within [.out, .regs, .host] s u :=
  Within.of_next (Within.refl.step doControlCopySend_within) h

theorem execChnCreate_within {d : Dma} {s u : State} (h : execChnCreate d s = .next u) :
    Within [.out, .regs, .boot, .chans, .host, .seam] s u := by
  refine Within.of_next ?_ h
  exact State.runOp_within fun _ _ _ _ => Within.refl.step coreChnCreate_within

theorem execChnDestroy_within {s u : State} (h : execChnDestroy s = .next u) :
    Within [.out, .chans, .host, .seam] s u := by
  refine Within.of_next ?_ h
  exact State.runOp_within fun _ _ _ _ => Within.refl.step coreChnDestroy_within

theorem execChannelSlotFree_within {slot : BitVec 8} {s u : State} (h : execChannelSlotFree slot s = .next u) :
    Within [.out, .regs, .boot, .chans, .host] s u :=
  Within.of_next (Within.refl.step doChannelSlotFree_within) h

theorem execChnQuotaWrite_within {f : Fin 16} {slot : BitVec 8} {hi : Bool} {v : BitVec 64} {s u : State} (h :
    execChnQuotaWrite f slot hi v s = .next u) :
    Within [.out, .regs, .boot, .dorm, .chans, .host, .seam] s u := by
  refine Within.of_next ?_ h
  exact State.onService_within (Within.refl.step doChnQuotaWrite_within)

theorem execChannelStall_within {slot : BitVec 8} {s u : State} (h : execChannelStall slot s = .next u) :
    Within [.out, .regs, .boot, .host] s u :=
  Within.of_next (Within.refl.step doChannelStall_within) h

theorem execTblCreate_within {d : Dma} {s u : State} (h : execTblCreate d s = .next u) :
    Within [.freeCtr, .out, .regs, .boot, .tables, .bays, .host, .seam] s u := by
  refine Within.of_next ?_ h
  exact State.runOp_within fun _ _ _ _ => Within.refl.step coreTblCreate_within

theorem execTblDestroy_within {s u : State} (h : execTblDestroy s = .next u) :
    Within [.out, .tables, .host, .seam] s u := by
  refine Within.of_next ?_ h
  exact State.runOp_within fun _ _ _ _ => Within.refl.step coreTblDestroy_within

theorem execTableDestroyComplete_within {t : Fin 64} {s u : State} (h : execTableDestroyComplete t s = .next u) :
    Within [.out, .regs, .boot, .tables, .rows, .tallies, .learnLog, .lost, .bays, .broad, .cur, .host] s u :=
  Within.of_next (Within.refl.step doTableDestroyComplete_within) h

theorem execEditBegin_within {s u : State} (h : execEditBegin s = .next u) :
    Within [.freeCtr, .out, .groups, .host, .seam] s u :=
  Within.of_next (Within.refl.step doEditBegin_within) h

theorem execEditCommit_within {s u : State} (h : execEditCommit s = .next u) :
    Within [.out, .groups, .cur, .host, .seam] s u := by
  refine Within.of_next ?_ h
  exact State.runOp_within fun _ _ _ _ => Within.refl.step coreEditCommit_within

theorem execGroupCommit_within {t : Fin 64} {s u : State} (h : execGroupCommit t s = .next u) :
    Within [.out, .regs, .boot, .tables, .rows, .journal, .groups, .tallies, .lost, .bays, .broad, .drawers, .cur, .wrd,
        .host, .seam] s u :=
  Within.of_next (Within.refl.step doGroupCommit_within) h

theorem execCommitRelease_within {t : Fin 64} {s u : State} (h : execCommitRelease t s = .next u) :
    Within [.out, .regs, .groups, .seam] s u :=
  Within.of_next (Within.ite (Within.refl.step doCommitRelease_within) ((Within.refl.step doCommitRelease_within).step
      State.agreeReleased_within)) h

theorem execEditAbort_within {s u : State} (h : execEditAbort s = .next u) :
    Within [.out, .regs, .boot, .rows, .journal, .groups, .host, .seam] s u := by
  refine Within.of_next ?_ h
  exact State.runOp_within fun _ _ _ _ => Within.refl.step coreEditAbort_within

theorem execEditLeaseExpiry_within {t : Fin 64} {s u : State} (h : execEditLeaseExpiry t s = .next u) :
    Within [.out, .regs, .boot, .rows, .journal, .groups, .host, .seam] s u :=
  Within.of_next (Within.refl.step doEditLeaseExpiry_within) h

theorem execTblInsert_within {d : Dma} {s u : State} (h : execTblInsert d s = .next u) :
    Within [.freeCtr, .out, .regs, .boot, .rows, .cells, .faults, .journal, .groups, .drawers, .cabs, .cur, .host, .seam] s u
        := by
  refine Within.of_next ?_ h
  exact State.runOp_within fun _ _ _ _ => Within.refl.step coreEdit_within

theorem execTblDelete_within {s u : State} (h : execTblDelete s = .next u) :
    Within [.freeCtr, .out, .regs, .boot, .rows, .cells, .faults, .journal, .groups, .drawers, .cabs, .cur, .host, .seam] s u
        := by
  refine Within.of_next ?_ h
  exact State.runOp_within fun _ _ _ _ => Within.refl.step coreTblDelete_within

-- FAIL execVestWaitExpiry not next
theorem execTblModify_within {d : Dma} {s u : State} (h : execTblModify d s = .next u) :
    Within [.freeCtr, .out, .regs, .boot, .rows, .cells, .faults, .journal, .groups, .drawers, .cabs, .cur, .host, .seam] s u
        := by
  refine Within.of_next ?_ h
  exact State.runOp_within fun _ _ _ _ => Within.refl.step coreEdit_within

theorem execVestWaitExpiry_within {s u : State} (h : execVestWaitExpiry s = .next u) : Within [.out, .regs, .boot, .host] s u := by
  unfold execVestWaitExpiry at h
  split at h
  · split at h
    · exact Within.of_next .refl h
    · split at h
      · exact Within.of_next ((Within.refl.step State.vestFull_within).step State.finish_within) h
      · exact Within.of_next .refl h
  · exact Within.of_next .refl h

theorem execTblRead_within {d : Dma} {s u : State} (h : execTblRead d s = .next u) :
    Within [.out, .regs, .boot, .host, .seam] s u := by
  refine Within.of_next ?_ h
  exact State.runOp_within fun _ _ _ _ => Within.refl.step coreTblRead_within

theorem execTblFind_within {d : Dma} {s u : State} (h : execTblFind d s = .next u) :
    Within [.out, .regs, .boot, .drawers, .cur, .wrd, .host, .seam] s u := by
  refine Within.of_next ?_ h
  exact State.runOp_within fun _ _ _ _ => Within.refl.step coreTblFind_within

theorem execTblNext_within {d : Dma} {s u : State} (h : execTblNext d s = .next u) :
    Within [.out, .regs, .boot, .host, .seam] s u := by
  refine Within.of_next ?_ h
  exact State.runOp_within fun _ _ _ _ => Within.refl.step coreTblNext_within

theorem execRowStateAdvance_within {s u : State} (h : execRowStateAdvance s = .next u) :
    Within [.rows, .tallies, .cur] s u :=
  Within.of_next (Within.refl.step State.advanceRows_within) h

theorem execMigration_within {t : Fin 64} {id : BitVec 24} {w : WriteRes} {s u : State} (h : execMigration t id w s = .next u) :
    Within [.freeCtr, .out, .regs, .boot, .rows, .cells, .faults, .journal, .drawers, .cur, .host] s u :=
  Within.of_next (Within.refl.step doMigration_within) h

theorem execRelocation_within {t : Fin 64} {id : BitVec 24} {w : WriteRes} {s u : State} (h : execRelocation t id w s = .next
    u) :
    Within [.freeCtr, .out, .regs, .boot, .rows, .cells, .faults, .journal, .drawers, .cabs, .cur, .host] s u := by
  refine Within.of_next ?_ h
  exact State.ifCurating_within (Within.refl.step doRelocation_within)

theorem execRowFlip_within {s u : State} (h : execRowFlip s = .next u) :
    Within [.freeCtr, .out, .regs, .boot, .tables, .rows, .lost, .lossList, .bays, .broad, .drawers, .cabs, .cur, .wrd, .host]
        s u :=
  Within.of_next (Within.refl.step doRowFlip_within) h

theorem execRowClear_within {w : WriteRes} {s u : State} (h : execRowClear w s = .next u) :
    Within [.out, .regs, .boot, .cells, .faults, .journal, .drawers, .cur, .host] s u := by
  refine Within.of_next ?_ h
  exact State.ifCurating_within (Within.refl.step doRowClear_within)

theorem execBaySplit_within {g : Fin 8} {bay : Nat} {s u : State} (h : execBaySplit g bay s = .next u) :
    Within [.freeCtr, .out, .regs, .boot, .rows, .cells, .faults, .journal, .drawers, .cabs, .cur, .host] s u := by
  refine Within.of_next ?_ h
  exact State.ifCurating_within (Within.refl.step doBaySplit_within)

theorem execBayMerge_within {g : Fin 8} {bay : Nat} {sibling : Nat} {s u : State} (h : execBayMerge g bay sibling s = .next u) :
    Within [.freeCtr, .out, .regs, .boot, .rows, .cells, .faults, .journal, .drawers, .cabs, .cur, .host] s u := by
  refine Within.of_next ?_ h
  exact State.ifCurating_within (Within.refl.step doBayMerge_within)

theorem execLearnPersist_within {t : Fin 64} {id : BitVec 24} {s u : State} (h : execLearnPersist t id s = .next u) :
    Within [.freeCtr, .out, .regs, .boot, .rows, .cells, .faults, .journal, .drawers, .cabs, .cur, .host] s u := by
  refine Within.of_next ?_ h
  exact State.ifCurating_within (Within.refl.step doLearnPersist_within)

theorem execTallyWindowWrite_within {counter : BitVec 20} {v : BitVec 32} {s u : State} (h : execTallyWindowWrite counter v s
    = .next u) :
    Within [.dorm, .tallies] s u := by
  refine Within.of_next ?_ h
  exact State.onService_within (Within.refl.step State.setTally_within)

theorem execTallyRead_within {s u : State} (h : execTallyRead s = .next u) : Within [.out, .host, .seam] s u := by
  refine Within.of_next ?_ h
  exact State.runOp_within fun _ _ _ _ => Within.refl.step coreTallyRead_within

theorem execTallyWrite_within {s u : State} (h : execTallyWrite s = .next u) :
    Within [.out, .tallies, .host, .seam] s u := by
  refine Within.of_next ?_ h
  exact State.runOp_within fun _ _ _ _ => Within.refl.step coreTallyWrite_within

theorem execTblgLossNext_within {s u : State} (h : execTblgLossNext s = .next u) :
    Within [.dorm, .lossList] s u := by
  refine Within.of_next ?_ h
  exact State.onService_within Within.refl.upd

theorem execWearBalanceSave_within {s u : State} (h : execWearBalanceSave s = .next u) : Within [.cur] s u :=
  Within.of_next (Within.ite (Within.refl.step State.setCur_within) Within.refl) h

theorem execCalibrationRound_within {cal : List CabCal} {s u : State} (h : execCalibrationRound cal s = .next u) :
    Within [.out, .regs, .boot, .cabs, .cur, .host] s u :=
  Within.of_next (Within.ite (Within.refl.step State.calRound_within) Within.refl) h

theorem execCurCalGo_within {cal : List CabCal} {s u : State} (h : execCurCalGo cal s = .next u) :
    Within [.out, .regs, .boot, .dorm, .cabs, .cur, .host] s u := by
  refine Within.of_next ?_ h
  exact State.onService_within (Within.refl.step State.calRound_within)

theorem execHistClear_within {s u : State} (h : execHistClear s = .next u) : Within [.dorm, .cur] s u := by
  refine Within.of_next ?_ h
  exact State.onService_within (Within.refl.step State.dropHistory_within)

theorem execCurCabFence_within {cab : BitVec 8} {s u : State} (h : execCurCabFence cab s = .next u) :
    Within [.dorm, .cabs] s u := by
  refine Within.of_next ?_ h
  exact State.onService_within (Within.refl.step State.setCab_within)

theorem execCurCabUnfence_within {cab : BitVec 8} {s u : State} (h : execCurCabUnfence cab s = .next u) :
    Within [.dorm, .cabs] s u := by
  refine Within.of_next ?_ h
  exact State.onService_within (Within.ite (Within.refl.step State.setCab_within) Within.refl)

theorem execCabinetCheckDone_within {cal : CabCal} {s u : State} (h : execCabinetCheckDone cal s = .next u) :
    Within [.out, .regs, .boot, .rows, .drawers, .cabs, .cur, .host] s u :=
  Within.of_next (Within.refl.step doCabinetCheckDone_within) h

theorem execScrubPass_within {reads : List (Nat × ScrubRead)} {store : List (BitVec 20 × LineRead)} {s u : State} (h :
    execScrubPass reads store s = .next u) :
    Within [.freeCtr, .out, .regs, .boot, .tables, .rows, .cells, .faults, .journal, .lost, .lossList, .drawers, .cabs, .cur,
        .wrd, .host] s u :=
  Within.of_next (Within.refl.step doScrubPass_within) h

theorem execScrubQueueRead_within {r : ScrubRead} {s u : State} (h : execScrubQueueRead r s = .next u) :
    Within [.freeCtr, .out, .regs, .boot, .tables, .rows, .cells, .faults, .journal, .lost, .lossList, .drawers, .cabs, .cur,
        .host] s u := by
  refine Within.of_next ?_ h
  exact State.ifCurating_within (Within.refl.step doScrubQueueRead_within)

theorem execRefresh_within {w : WriteRes} {s u : State} (h : execRefresh w s = .next u) :
    Within [.freeCtr, .out, .regs, .boot, .rows, .cells, .faults, .journal, .drawers, .cabs, .cur, .host] s u := by
  refine Within.of_next ?_ h
  exact State.ifCurating_within (Within.refl.step doRefresh_within)

theorem execSelfSearch_within {t : Fin 64} {id : BitVec 24} {falseMiss : Bool} {s u : State} (h : execSelfSearch t id
    falseMiss s = .next u) :
    Within [.out, .regs, .boot, .rows, .faults, .drawers, .cur, .host] s u := by
  refine Within.of_next ?_ h
  exact State.ifCurating_within (Within.refl.step doSelfSearch_within)

theorem execSweepPeriodEnd_within {s u : State} (h : execSweepPeriodEnd s = .next u) :
    Within [.out, .regs, .boot, .cur, .host] s u := by
  refine Within.of_next ?_ h
  exact State.ifCurating_within (Within.refl.step doSweepPeriodEnd_within)

theorem execDigestSave_within {g : Fin 8} {x : Nat} {s u : State} (h : execDigestSave g x s = .next u) :
    Within [.drawers] s u :=
  Within.of_next (Within.ite (Within.refl.step State.saveDigest_within) Within.refl) h

theorem execCurSelftestGo_within {s u : State} (h : execCurSelftestGo s = .next u) :
    Within [.freeCtr, .out, .regs, .boot, .dorm, .rows, .cells, .faults, .journal, .drawers, .cabs, .cur, .host] s u :=
  Within.of_next (Within.ite ((Within.refl.step State.touchIdle_within).step doCurSelftestGo_within) (Within.ite
      (Within.refl.step doCurSelftestGo_within) Within.refl)) h

theorem execSelftestRotation_within {g : Fin 8} {s u : State} (h : execSelftestRotation g s = .next u) :
    Within [.freeCtr, .out, .regs, .boot, .rows, .cells, .faults, .journal, .drawers, .cabs, .cur, .host] s u :=
  Within.of_next (Within.refl.step doSelftestRotation_within) h

theorem execDrawerSelftest_within {g : Fin 8} {bad : List (BitVec 11)} {searchesOk : Bool} {s u : State} (h :
    execDrawerSelftest g bad searchesOk s = .next u) :
    Within [.freeCtr, .out, .regs, .boot, .rows, .cells, .faults, .journal, .bays, .broad, .drawers, .cabs, .cur, .host] s u :=
  Within.of_next (Within.refl.step doDrawerSelftest_within) h

theorem execCurRetireGo_within {s u : State} (h : execCurRetireGo s = .next u) :
    Within [.freeCtr, .out, .regs, .boot, .dorm, .tables, .rows, .cells, .faults, .journal, .lost, .lossList, .drawers, .cabs,
        .cur, .host] s u := by
  refine Within.of_next ?_ h
  exact State.onService_within (Within.refl.step doCurRetireGo_within)

theorem execDrawerRetirementDone_within {g : Fin 8} {s u : State} (h : execDrawerRetirementDone g s = .next u) :
    Within [.freeCtr, .out, .regs, .boot, .rows, .cells, .faults, .journal, .bays, .broad, .drawers, .cabs, .cur, .host] s u :=
  Within.of_next (Within.refl.step doDrawerRetirementDone_within) h

theorem execCurFulltestGo_within {s u : State} (h : execCurFulltestGo s = .next u) :
    Within [.regs, .tables, .rows, .journal, .tallies, .lost, .bays, .broad, .drawers, .cur] s u :=
  Within.of_next (Within.refl.step doCurFulltestGo_within) h

theorem execFulltestComplete_within {found : List (Nat × List (BitVec 11) × Bool)} {missed : List (Fin 64 × BitVec 24)} {cal :
    List CabCal} {s u : State} (h : execFulltestComplete found missed cal s = .next u) :
    Within [.freeCtr, .out, .regs, .boot, .tables, .rows, .cells, .faults, .journal, .lost, .lossList, .bays, .broad,
        .drawers, .cabs, .cur, .host] s u :=
  Within.of_next (Within.refl.step doFulltestComplete_within) h

theorem execRestoreReq_within {t : Fin 64} {id : BitVec 24} {sameDesc : Bool} {s u : State} (h : execRestoreReq t id sameDesc
    s = .next u) :
    Within [.freeCtr, .out, .ports, .seam, .csc] s u :=
  Within.of_next ((Within.refl.step State.seamGot_within).step doRestoreReq_within) h

theorem execRestoreAns_within {t : Fin 64} {id : BitVec 24} {rec : Option (List Byte)} {s u : State} (h : execRestoreAns t id
    rec s = .next u) :
    Within [.freeCtr, .out, .regs, .boot, .ports, .rows, .cells, .faults, .journal, .groups, .drawers, .cabs, .cur, .host,
        .seam, .csc] s u :=
  Within.of_next ((Within.refl.step State.seamGot_within).step doRestoreAns_within) h

theorem execAdataWrite_within {d : Dma} {s u : State} (h : execAdataWrite d s = .next u) :
    Within [.out, .regs, .boot, .wrd, .host, .seam] s u := by
  refine Within.of_next ?_ h
  exact State.runOp_within fun _ _ _ _ => Within.refl.step coreAdataWrite_within

theorem execAdataRead_within {d : Dma} {s u : State} (h : execAdataRead d s = .next u) :
    Within [.freeCtr, .out, .regs, .boot, .wrd, .host, .seam] s u := by
  refine Within.of_next ?_ h
  exact State.runOp_within fun _ _ _ _ => Within.refl.step coreAdataRead_within

theorem execWrdOpInval_within {s u : State} (h : execWrdOpInval s = .next u) :
    Within [.out, .wrd, .host, .seam] s u :=
  Within.of_next (Within.refl.step State.runWrdOp_within) h

theorem execWrdOpClean_within {s u : State} (h : execWrdOpClean s = .next u) :
    Within [.out, .wrd, .host, .seam] s u :=
  Within.of_next (Within.refl.step State.runWrdOp_within) h

theorem execWrdOpFlush_within {s u : State} (h : execWrdOpFlush s = .next u) :
    Within [.out, .wrd, .host, .seam] s u :=
  Within.of_next (Within.refl.step State.runWrdOp_within) h

theorem execWrdPinEn_within {i : Fin 16} {en : Bool} {s u : State} (h : execWrdPinEn i en s = .next u) :
    Within [.out, .regs, .boot, .dorm, .wrd, .host] s u := by
  refine Within.of_next ?_ h
  exact State.onService_within (Within.refl.step doWrdPinEn_within)

theorem execPinLoadDone_within {i : Fin 16} {s u : State} (h : execPinLoadDone i s = .next u) :
    Within [.out, .regs, .boot, .wrd, .host] s u :=
  Within.of_next (Within.refl.step doPinLoadDone_within) h

theorem execWrdLockWrite_within {v : BitVec 16} {s u : State} (h : execWrdLockWrite v s = .next u) :
    Within [.regs, .dorm] s u := by
  refine Within.of_next ?_ h
  exact State.onService_within (Within.refl.step doWrdLockWrite_within)

theorem execStagingWriteback_within {w : WriteRes} {s u : State} (h : execStagingWriteback w s = .next u) :
    Within [.out, .regs, .boot, .cur, .wrd, .host] s u :=
  Within.of_next (Within.refl.step doStagingWriteback_within) h

theorem execSiteWrite_within {n : BitVec 12} {v : BitVec 64} {size : Nat} {upper : Bool} {s u : State} (h : execSiteWrite n v
    size upper s = .next u) :
    Within [.out, .dorm, .sites, .seam] s u := by
  refine Within.of_next ?_ h
  exact State.onService_within (Within.refl.step doSiteWrite_within)

theorem execRptAgeing_within {s u : State} (h : execRptAgeing s = .next u) : Within [.dorm, .rptPend] s u := by
  refine Within.of_next ?_ h
  exact State.onService_within (Within.refl.step doRptAgeing_within)

theorem execRptStaticWrite_within {tag : BitVec 24} {port : BitVec 4} {s u : State} (h : execRptStaticWrite tag port s = .next
    u) :
    Within [.regs, .dorm, .rptPend] s u := by
  refine Within.of_next ?_ h
  exact State.onService_within ((Within.refl.step State.staticFields_within).step State.staticGo_within)

theorem execRptStaticRemove_within {tag : BitVec 24} {s u : State} (h : execRptStaticRemove tag s = .next u) :
    Within [.regs, .dorm, .rptPend] s u := by
  refine Within.of_next ?_ h
  exact State.onService_within (((Within.refl.step State.put_within).step State.put_within).step State.staticGo_within)

theorem execRptStaticInvalid_within {op : BitVec 2} {s u : State} (h : execRptStaticInvalid op s = .next u) :
    Within [.regs, .dorm] s u := by
  refine Within.of_next ?_ h
  exact State.onService_within (Within.refl.step doRptStaticInvalid_within)

theorem execRptShadowWrite_within {w : BitVec 12} {v : BitVec 64} {s u : State} (h : execRptShadowWrite w v s = .next u) :
    Within [.dorm, .shadow] s u := by
  refine Within.of_next ?_ h
  exact State.onService_within (Within.foldl (fun _ _ h => h.upd) Within.refl)

theorem execRptShadowSet_within {bucket : BitVec 14} {digest : BitVec 16} {s u : State} (h : execRptShadowSet bucket digest s
    = .next u) :
    Within [.dorm, .shadow] s u := by
  refine Within.of_next ?_ h
  exact State.onService_within Within.refl.upd

theorem execShadowPass_within {s u : State} (h : execShadowPass s = .next u) :
    Within [.out, .regs, .boot, .rpt, .host] s u :=
  Within.of_next (Within.refl.step doShadowPass_within) h

theorem execRptSearch_within {d : Dma} {s u : State} (h : execRptSearch d s = .next u) :
    Within [.out, .regs, .boot, .rpt, .host, .seam] s u := by
  refine Within.of_next ?_ h
  exact State.runOp_within fun _ _ _ _ => Within.refl.step coreRptSearch_within

theorem execRptNext_within {d : Dma} {s u : State} (h : execRptNext d s = .next u) :
    Within [.out, .regs, .boot, .rpt, .host, .seam] s u := by
  refine Within.of_next ?_ h
  exact State.runOp_within fun _ _ _ _ => Within.refl.step coreRptNext_within

theorem execRptFlushByPort_within {d : Dma} {s u : State} (h : execRptFlushByPort d s = .next u) :
    Within [.out, .rptPend, .host, .seam] s u := by
  refine Within.of_next ?_ h
  exact State.runOp_within fun _ _ _ _ => Within.refl.step coreRptFlush_within

theorem execCtlSend_within {d : Dma} {s u : State} (h : execCtlSend d s = .next u) :
    Within [.out, .regs, .boot, .rpt, .host, .seam] s u := by
  refine Within.of_next ?_ h
  exact State.runOp_within fun _ _ _ _ => Within.refl.step coreCtlSend_within

theorem execMaintenanceRequest_within {r : Fin 16} {s u : State} (h : execMaintenanceRequest r s = .next u) :
    Within [.regs, .mnt] s u :=
  Within.of_next (Within.refl.step doMaintenanceRequest_within) h

theorem execBreakPoint_within {drop : Bool} {s u : State} (h : execBreakPoint drop s = .next u) :
    Within [.regs, .mnt] s u :=
  Within.of_next (Within.refl.step doBreakPoint_within) h

theorem execMntPrioWrite_within {r : Fin 16} {v : BitVec 3} {s u : State} (h : execMntPrioWrite r v s = .next u) :
    Within [.regs, .dorm] s u := by
  refine Within.of_next ?_ h
  exact State.onService_within (Within.ite (Within.refl.step State.put_within) Within.refl)

theorem execStarvation_within {r : Fin 16} {s u : State} (h : execStarvation r s = .next u) :
    Within [.out, .regs, .boot, .host] s u :=
  Within.of_next (Within.refl.step doStarvation_within) h

theorem execWatchdogExpiry_within {s u : State} (h : execWatchdogExpiry s = .next u) :
    Within [.out, .regs, .boot, .rows, .cur, .mnt, .host, .cfg] s u :=
  Within.of_next (Within.refl.step doWatchdogExpiry_within) h

theorem execMntFence_within {r : Fin 16} {s u : State} (h : execMntFence r s = .next u) :
    Within [.regs, .dorm, .rows, .cur, .mnt, .host] s u := by
  refine Within.of_next ?_ h
  exact State.onService_within (Within.ite (Within.refl.step State.fenceReq_within) Within.refl)

theorem execMntUnfence_within {r : Fin 16} {s u : State} (h : execMntUnfence r s = .next u) :
    Within [.freeCtr, .out, .regs, .boot, .dorm, .rows, .cells, .faults, .journal, .drawers, .cabs, .cur, .mnt, .host] s u := by
  refine Within.of_next ?_ h
  exact State.onService_within (Within.refl.step doMntUnfence_within)

theorem execPairHello_within {h : PairHello} {s u : State} (h : execPairHello h s = .next u) :
    Within [.out, .regs, .boot, .tick, .ports, .host, .seam, .csc] s u :=
  Within.of_next (Within.ite (((Within.refl.step State.seamGot_within).step State.setSeam_within).step
      State.decideAttach_within) Within.refl) h

theorem execBye_within {s u : State} (h : execBye s = .next u) : Within [.out, .ports, .seam, .csc] s u :=
  Within.of_next ((Within.refl.step State.seamGot_within).step State.detachSoon_within) h

theorem execDigest_within {f : Flit} {s u : State} (h : execDigest f s = .next u) :
    Within [.out, .regs, .seam] s u :=
  Within.of_next (Within.refl.step doDigest_within) h

theorem execChdigest_within {f : Flit} {s u : State} (h : execChdigest f s = .next u) :
    Within [.out, .regs, .boot, .ports, .host, .seam, .csc] s u :=
  Within.of_next ((Within.refl.step State.seamGot_within).step doChdigest_within) h

theorem execLockReq_within {t : Fin 64} {group : BitVec 16} {f : Fin 16} {s u : State} (h : execLockReq t group f s = .next u) :
    Within [.out, .ports, .groups, .host, .seam, .csc] s u :=
  Within.of_next ((Within.refl.step State.seamGot_within).step doLockReq_within) h

theorem execLockAns_within {t : Fin 64} {grant : Bool} {s u : State} (h : execLockAns t grant s = .next u) :
    Within [.out, .ports, .groups, .host, .seam, .csc] s u :=
  Within.of_next ((Within.refl.step State.seamGot_within).step doLockAns_within) h

theorem execMirror_within {id : Nat} {op : MirrorOp} {commitTick : Option Tick} {s u : State} (h : execMirror id op commitTick
    s = .next u) :
    Within [.freeCtr, .out, .regs, .boot, .ports, .chans, .tables, .rows, .cells, .faults, .journal, .groups, .bays, .drawers,
        .cabs, .cur, .wrd, .host, .seam, .csc] s u :=
  Within.of_next ((Within.refl.step State.seamGot_within).step doMirror_within) h

theorem execStaged_within {id : Nat} {handle : BitVec 16} {s u : State} (h : execStaged id handle s = .next u) :
    Within [.freeCtr, .out, .regs, .boot, .ports, .chans, .tables, .rows, .cells, .faults, .journal, .groups, .bays, .drawers,
        .cabs, .cur, .wrd, .host, .seam, .csc] s u :=
  Within.of_next ((Within.refl.step State.seamGot_within).step doStaged_within) h

theorem execReady_within {id : Nat} {s u : State} (h : execReady id s = .next u) :
    Within [.out, .regs, .ports, .groups, .seam, .csc] s u :=
  Within.of_next ((Within.refl.step State.seamGot_within).step doReady_within) h

theorem execRefuse_within {id : Nat} {status : BitVec 8} {s u : State} (h : execRefuse id status s = .next u) :
    Within [.out, .regs, .boot, .ports, .host, .seam, .csc] s u :=
  Within.of_next ((Within.refl.step State.seamGot_within).step doRefuse_within) h

theorem execPropose_within {id : Nat} {k : BitVec 48} {s u : State} (h : execPropose id k s = .next u) :
    Within [.out, .regs, .ports, .groups, .seam, .csc] s u :=
  Within.of_next ((Within.refl.step State.seamGot_within).step doPropose_within) h

theorem execAgree_within {id : Nat} {k : BitVec 48} {s u : State} (h : execAgree id k s = .next u) :
    Within [.out, .ports, .groups, .seam, .csc] s u :=
  Within.of_next ((Within.refl.step State.seamGot_within).step doAgree_within) h

theorem execDefer_within {id : Nat} {s u : State} (h : execDefer id s = .next u) :
    Within [.out, .ports, .seam, .csc] s u := by
  refine Within.of_next ?_ h
  split
  · exact Within.refl.step State.seamGot_within
  · split
    · exact (Within.refl.step State.seamGot_within).step State.setOp_within
    · exact Within.refl.step State.seamGot_within

theorem execAbort_within {id : Nat} {s u : State} (h : execAbort id s = .next u) :
    Within [.out, .regs, .boot, .ports, .chans, .tables, .rows, .journal, .groups, .bays, .broad, .wrd, .host, .seam, .csc] s
        u :=
  Within.of_next ((Within.refl.step State.seamGot_within).step doAbort_within) h

theorem execSyncBegin_within {s u : State} (h : execSyncBegin s = .next u) :
    Within [.out, .regs, .ports, .seam, .csc] s u :=
  Within.of_next (Within.ite ((((Within.refl.step State.seamGot_within).step State.setSeam_within).step State.put_within).step
      State.sendSeam_within) (Within.refl.step State.seamGot_within)) h

theorem execSyncData_within {i : SyncItem} {s u : State} (h : execSyncData i s = .next u) :
    Within [.freeCtr, .out, .regs, .boot, .ports, .chans, .sites, .tables, .rows, .cells, .faults, .journal, .tallies, .lost,
        .bays, .broad, .drawers, .cabs, .cur, .wrd, .host, .seam, .csc] s u :=
  Within.of_next ((Within.refl.step State.seamGot_within).step doSyncData_within) h

theorem execSyncEnd_within {s u : State} (h : execSyncEnd s = .next u) :
    Within [.out, .regs, .ports, .seam, .csc] s u :=
  Within.of_next (Within.ite (((Within.refl.step State.seamGot_within).step State.setSeam_within).step State.put_within)
      (Within.refl.step State.seamGot_within)) h

theorem execJoin_within {j : BitVec 48} {s u : State} (h : execJoin j s = .next u) :
    Within [.out, .regs, .ports, .seam, .csc] s u :=
  Within.of_next (Within.ite (((Within.refl.step State.seamGot_within).step State.setSeam_within).step State.put_within)
      (Within.refl.step State.seamGot_within)) h

theorem execSeamJoin_within {s u : State} (h : execSeamJoin s = .next u) :
    Within [.out, .regs, .boot, .tick, .cur, .host, .seam] s u :=
  Within.of_next (Within.refl.step doSeamJoin_within) h

theorem execSeamTicksMissed_within {s u : State} (h : execSeamTicksMissed s = .next u) : Within [.seam] s u :=
  Within.of_next (Within.ite (Within.refl.step State.detachSoon_within) Within.refl) h

theorem execSeamDetachWrite_within {s u : State} (h : execSeamDetachWrite s = .next u) :
    Within [.out, .dorm, .seam] s u := by
  refine Within.of_next ?_ h
  exact State.onService_within ((Within.refl.step State.sayBye_within).step State.detachSoon_within)

theorem execSeamReleaseWrite_within {rel : Bool} {v : BitVec 5} {s u : State} (h : execSeamReleaseWrite rel v s = .next u) :
    Within [.out, .regs, .boot, .dorm, .tick, .host, .seam] s u := by
  refine Within.of_next ?_ h
  exact State.onService_within (Within.refl.step doSeamReleaseWrite_within)

theorem execLookupToken_within {down : Bool} {flits : List Flit} {s u : State} (h : execLookupToken down flits s = .next u) :
    Within [.out, .regs, .boot, .planned, .drawers, .acts, .cur, .host, .csc] s u :=
  Within.of_next (Within.ite (Within.refl.step doLookupToken_within) Within.refl) h

theorem execLearnToken_within {flits : List Flit} {s u : State} (h : execLearnToken flits s = .next u) :
    Within [.freeCtr, .out, .regs, .boot, .tables, .rows, .tallies, .learnLog, .host, .csc] s u :=
  Within.of_next (Within.refl.step doLearnToken_within) h

theorem execTallyToken_within {flits : List Flit} {s u : State} (h : execTallyToken flits s = .next u) :
    Within [.out, .tallies] s u :=
  Within.of_next (Within.refl.step doTallyToken_within) h

theorem execCascadeMerge_within {tok : BitVec 12} {s u : State} (h : execCascadeMerge tok s = .next u) :
    Within [.freeCtr, .out, .regs, .boot, .ports, .planned, .tables, .rows, .tallies, .learnLog, .wrd, .host, .seam, .csc] s u
        :=
  Within.of_next (Within.refl.step doCascadeMerge_within) h

theorem execNotice_within {n : Notice} {s u : State} (h : execNotice n s = .next u) :
    Within [.out, .regs, .boot, .host, .csc] s u :=
  Within.of_next (Within.ite (Within.refl.step State.takeNotice_within) Within.refl) h

theorem execCscPropose_within {live : BitVec 16} {k : BitVec 48} {s u : State} (h : execCscPropose live k s = .next u) :
    Within [.out, .csc] s u :=
  Within.of_next (Within.refl.step doCscPropose_within) h

theorem execAck_within {m : Fin 16} {s u : State} (h : execAck m s = .next u) : Within [.out, .csc] s u :=
  Within.of_next (Within.refl.step doAck_within) h

theorem execCommit_within {s u : State} (h : execCommit s = .next u) : Within [.out, .csc] s u :=
  Within.of_next (Within.refl.step doCommit_within) h

theorem execJoinReq_within {j : JoinInfo} {s u : State} (h : execJoinReq j s = .next u) :
    Within [.out, .regs, .boot, .host, .csc] s u :=
  Within.of_next (Within.ite (Within.refl.step State.takeNotice_within) Within.refl) h

theorem execCscBye_within {m : Fin 16} {s u : State} (h : execCscBye m s = .next u) :
    Within [.out, .regs, .boot, .host, .csc] s u :=
  Within.of_next (Within.ite (Within.refl.step State.takeNotice_within) Within.refl) h

theorem execCscLeave_within {s u : State} (h : execCscLeave s = .next u) : Within [.out, .csc] s u :=
  Within.of_next (Within.refl.step doCscLeave_within) h

theorem execCscJoin_within {s u : State} (h : execCscJoin s = .next u) :
    Within [.out, .regs, .boot, .host, .csc] s u :=
  Within.of_next (Within.ite (Within.ite (Within.refl.step State.takeJoin_within) (Within.refl.step State.sendCsc_within))
      Within.refl) h

theorem execCscTicksMissed_within {l : Link} {s u : State} (h : execCscTicksMissed l s = .next u) :
    Within [.out, .regs, .boot, .host, .csc] s u := by
  refine Within.of_next ?_ h
  split
  · exact Within.refl.step State.cscLost_within
  · exact Within.refl.step State.cscLost_within
  · exact Within.refl

theorem execMembershipApply_within {s u : State} (h : execMembershipApply s = .next u) :
    Within [.out, .regs, .boot, .tick, .host, .csc] s u :=
  Within.of_next (Within.refl.step doMembershipApply_within) h

theorem execCscSliceWrite_within {t : Fin 64} {lo : BitVec 24} {hi : BitVec 24} {s u : State} (h : execCscSliceWrite t lo hi s
    = .next u) :
    Within [.regs, .dorm] s u := by
  refine Within.of_next ?_ h
  exact State.onService_within (Within.refl.step doCscSliceWrite_within)

theorem execIdleTimerExpiry_within {s u : State} (h : execIdleTimerExpiry s = .next u) : Within [.dorm] s u :=
  Within.of_next (Within.refl.step doIdleTimerExpiry_within) h

theorem execDormancyGating_within {cal : List CabCal} {s u : State} (h : execDormancyGating cal s = .next u) :
    Within [.freeCtr, .out, .mode, .pins, .tap, .regs, .boot, .ledgerA, .ledgerB, .dorm, .tick, .ports, .planned, .chans,
        .sites, .rpt, .rptPend, .shadow, .tables, .rows, .cells, .faults, .journal, .groups, .tallies, .learnLog, .lost,
        .lossList, .bays, .broad, .baysBefore, .broadBefore, .drawers, .cabs, .acts, .cur, .wrd, .mnt, .host, .seam, .csc,
        .cfg] s u :=
  Within.of_next (Within.refl.step doDormancyGating_within) h

theorem execWakeDetect_within {w : WakeSeen} {dormantS : Nat} {cal : List CabCal} {s u : State} (h : execWakeDetect w dormantS
    cal s = .next u) :
    Within [.freeCtr, .out, .mode, .pins, .tap, .regs, .boot, .ledgerA, .ledgerB, .dorm, .tick, .ports, .planned, .chans,
        .sites, .rpt, .rptPend, .shadow, .tables, .rows, .faults, .journal, .groups, .tallies, .learnLog, .lost, .lossList,
        .bays, .broad, .baysBefore, .broadBefore, .drawers, .cabs, .acts, .cur, .wrd, .mnt, .host, .seam, .csc, .cfg] s u :=
  Within.of_next (Within.refl.step doWakeDetect_within) h

theorem execPtRead_within {s u : State} (h : execPtRead s = .next u) :
    Within [.freeCtr, .out, .regs, .dorm, .cfg] s u :=
  Within.of_next (Within.refl.step State.ptGo_within) h

theorem execPtWrite_within {s u : State} (h : execPtWrite s = .next u) :
    Within [.freeCtr, .out, .regs, .dorm, .cfg] s u :=
  Within.of_next (Within.refl.step State.ptGo_within) h

theorem execPtStatus_within {s u : State} (h : execPtStatus s = .next u) :
    Within [.freeCtr, .out, .regs, .dorm, .cfg] s u :=
  Within.of_next (Within.refl.step State.ptGo_within) h

theorem execPtInvalid_within {s u : State} (h : execPtInvalid s = .next u) :
    Within [.freeCtr, .out, .regs, .dorm, .cfg] s u :=
  Within.of_next (Within.refl.step State.ptGo_within) h

theorem execCarePass_within {marginDiff : List Nat} {s u : State} (h : execCarePass marginDiff s = .next u) :
    Within [.out, .regs, .boot, .host, .cfg] s u :=
  Within.of_next (Within.refl.step doCarePass_within) h

theorem execLogWrite_within {s u : State} (h : execLogWrite s = .next u) :
    Within [.freeCtr, .out, .regs, .cfg] s u :=
  Within.of_next (Within.refl.step doLogWrite_within) h

theorem execSpiWriteTimeout_within {s u : State} (h : execSpiWriteTimeout s = .next u) :
    Within [.freeCtr, .out, .regs, .boot, .host, .cfg] s u :=
  Within.of_next (Within.refl.step doSpiWriteTimeout_within) h

theorem execFlr_within {f : Fin 16} {s u : State} (h : execFlr f s = .next u) :
    Within [.out, .regs, .boot, .rows, .journal, .groups, .host, .seam] s u :=
  Within.of_next (Within.ite Within.refl (Within.refl.step doFlr_within)) h

theorem execPerstL_within {low : Bool} {s u : State} (h : execPerstL low s = .next u) :
    Within [.out, .pins, .regs, .boot, .rows, .journal, .groups, .host, .seam] s u :=
  Within.of_next (Within.refl.step doPerstL_within) h

theorem execPcieLinkChange_within {l : Option (BitVec 3 × BitVec 3)} {s u : State} (h : execPcieLinkChange l s = .next u) :
    Within [.out, .pins, .regs, .boot, .host] s u :=
  Within.of_next (Within.refl.step doPcieLinkChange_within) h

theorem execAerError_within {f : Fin 16} {unc : Bool} {bit : BitVec 5} {s u : State} (h : execAerError f unc bit s = .next u) :
    Within [.out, .regs, .boot, .host] s u :=
  Within.of_next (Within.refl.step doAerError_within) h

theorem execCmdTailWrite_within {f : Fin 16} {v : BitVec 64} {slots : List (List Byte)} {s u : State} (h : execCmdTailWrite f
    v slots s = .next u) :
    Within [.regs, .dorm, .host] s u := by
  refine Within.of_next ?_ h
  exact State.onService_within (Within.refl.step doCmdTailWrite_within)

theorem execQueEnWrite_within {f : Fin 16} {cpl : Bool} {en : Bool} {s u : State} (h : execQueEnWrite f cpl en s = .next u) :
    Within [.regs, .dorm] s u := by
  refine Within.of_next ?_ h
  exact State.onService_within (Within.refl.step doQueEnWrite_within)

theorem execCommandDispatch_within {s u : State} (h : execCommandDispatch s = .next u) :
    Within [.out, .regs, .boot, .dorm, .host] s u :=
  Within.of_next (Within.refl.step doCommandDispatch_within) h

theorem execNop_within {s u : State} (h : execNop s = .next u) : Within [.out, .host, .seam] s u := by
  refine Within.of_next ?_ h
  exact State.runOp_within fun _ _ _ _ => Within.refl.step coreNop_within

theorem execCapPop_within {f : Fin 16} {q : Fin 8} {size : Nat} {s u : State} (h : execCapPop f q size s = .next u) :
    Within [.out, .dorm, .host] s u := by
  refine Within.of_next ?_ h
  exact State.onService_within (Within.refl.step doCapPop_within)

theorem execEvqPop_within {f : Fin 16} {size : Nat} {s u : State} (h : execEvqPop f size s = .next u) :
    Within [.out, .dorm, .host] s u := by
  refine Within.of_next ?_ h
  exact State.onService_within (Within.refl.step doEvqPop_within)

theorem execCapqIdleExpiry_within {q : Fin 8} {s u : State} (h : execCapqIdleExpiry q s = .next u) :
    Within [.out, .regs, .boot, .host] s u :=
  Within.of_next (Within.ite (Within.refl.step State.idleNotice_within) Within.refl) h

theorem execEvqIdleExpiry_within {s u : State} (h : execEvqIdleExpiry s = .next u) :
    Within [.out, .regs, .boot, .host] s u :=
  Within.of_next (Within.ite (Within.refl.step State.idleNotice_within) Within.refl) h

theorem execIdleUsWrite_within {q : Option (Fin 8)} {v : BitVec 16} {s u : State} (h : execIdleUsWrite q v s = .next u) :
    Within [.out, .regs, .boot, .dorm, .host] s u := by
  refine Within.of_next ?_ h
  exact State.onService_within (Within.refl.step doIdleUsWrite_within)

theorem execHoldoffExpiry_within {v : Fin 64} {s u : State} (h : execHoldoffExpiry v s = .next u) :
    Within [.out, .host] s u :=
  Within.of_next (Within.refl.step doHoldoffExpiry_within) h

theorem execEvtPendClear_within {n : BitVec 10} {s u : State} (h : execEvtPendClear n s = .next u) :
    Within [.regs, .dorm] s u := by
  refine Within.of_next ?_ h
  exact State.onService_within (Within.refl.step State.clearPend_within)

theorem execRegisterWrite_within {f : Fin 16} {a : BusAddr} {size : Nat} {v : BitVec 64} {s u : State} (h : execRegisterWrite
    f a size v s = .next u) :
    Within [.out, .regs, .boot, .dorm, .tick, .ports, .chans, .rows, .journal, .groups, .host, .seam, .csc] s u :=
  Within.of_next (Within.refl.step doRegisterWrite_within) h

theorem execExtest_within {s u : State} (h : execExtest s = .next u) : Within [.freeCtr, .tap] s u :=
  Within.of_next (Within.refl.step State.tapScan_within) h

theorem execIdcode_within {s u : State} (h : execIdcode s = .next u) : Within [.tap] s u :=
  Within.of_next (Within.refl.step State.tapLoad_within) h

theorem execSamplePreload_within {s u : State} (h : execSamplePreload s = .next u) :
    Within [.freeCtr, .tap] s u :=
  Within.of_next (Within.refl.step State.tapScan_within) h

theorem execHighz_within {s u : State} (h : execHighz s = .next u) : Within [.tap] s u :=
  Within.of_next (Within.refl.step State.tapLoad_within) h

theorem execClamp_within {s u : State} (h : execClamp s = .next u) : Within [.tap] s u :=
  Within.of_next (Within.refl.step State.tapLoad_within) h

theorem execExtestPulse_within {s u : State} (h : execExtestPulse s = .next u) : Within [.freeCtr, .tap] s u :=
  Within.of_next (Within.refl.step State.tapScan_within) h

theorem execExtestTrain_within {s u : State} (h : execExtestTrain s = .next u) : Within [.freeCtr, .tap] s u :=
  Within.of_next (Within.refl.step State.tapScan_within) h

theorem execFuseRead_within {s u : State} (h : execFuseRead s = .next u) : Within [.tap] s u :=
  Within.of_next (Within.refl.step State.tapLoad_within) h

theorem execFuseProg_within {v : BitVec 64} {s u : State} (h : execFuseProg v s = .next u) :
    Within [.fuses, .tap] s u :=
  Within.of_next (Within.refl.step doFuseProg_within) h

theorem execBypass_within {_code : BitVec 8} {s u : State} (h : execBypass _code s = .next u) :
    Within [.tap] s u :=
  Within.of_next (Within.refl.step State.tapLoad_within) h

theorem execLinkTrainingTimeout_within {s u : State} (h : execLinkTrainingTimeout s = .next u) :
    Within [.out, .mode, .regs, .boot, .ledgerA, .ledgerB, .dorm, .tick, .ports, .cur, .host, .seam, .csc, .cfg] s u :=
  Within.of_next (Within.refl.step doLinkTrainingTimeout_within) h

theorem execUnwatchedRailInRange_within {cal : List CabCal} {s u : State} (h : execUnwatchedRailInRange cal s = .next u) :
    Within [.out, .mode, .pins, .regs, .boot, .ledgerA, .ledgerB, .ports, .tables, .rows, .lost, .lossList, .drawers, .cabs,
        .cur, .host, .seam, .csc, .cfg] s u :=
  Within.of_next (Within.refl.step doUnwatchedRail_within) h

theorem execPageProgramDone_within {s u : State} (h : execPageProgramDone s = .next u) :
    Within [.freeCtr, .out, .regs, .cfg] s u :=
  Within.of_next (Within.refl.step doPageProgramDone_within) h

theorem execAlignTransmit_within {l : Link} {lane : Nat} {s u : State} (h : execAlignTransmit l lane s = .next u) :
    Within [.out, .ports, .seam, .csc] s u :=
  Within.of_next (Within.refl.step doAlignTransmit_within) h

theorem execWearBalanceEarn_within {s u : State} (h : execWearBalanceEarn s = .next u) :
    Within [.out, .regs, .boot, .cur, .host] s u :=
  Within.of_next (Within.ite (Within.refl.step State.setCur_within) (Within.refl.step doWearBalanceEarn_within)) h

theorem execReservedSeamMessage_within {f : Flit} {s u : State} (h : execReservedSeamMessage f s = .next u) :
    Within [.out, .regs, .ports, .seam, .csc] s u :=
  Within.of_next (Within.ite Within.refl ((Within.refl.step State.seamGot_within).step State.bump_within)) h

theorem execTapReset_within {s u : State} (h : execTapReset s = .next u) : Within [.tap] s u :=
  Within.of_next (Within.refl.step doTapReset_within) h

/-- A command that stays within some parts stays within more. -/
theorem Within.widen {v w : List Part} {s t : State} (h : Within v s t) (hw : v ⊆ w := by simp [mayChange]) : Within w s t :=
  h.mono hw

/-- What every command may change, and that the attached memory stays canonical. -/
theorem exec_within {c : Instr} {s t : State} (h : exec c s = .next t) : Within (mayChange c) s t :=
  match c, h with
  | .resetLAssert .., h => (execResetLAssert_within h).widen
  | .resetLRelease .., h => (execResetLRelease_within h).widen
  | .powerDetectorTrip .., h => (execPowerDetectorTrip_within h).widen
  | .railsInRange .., h => (execRailsInRange_within h).widen
  | .startLimitExpiry, h => (execStartLimitExpiry_within h).widen
  | .bootEnd, h => (execBootEnd_within h).widen
  | .bootWrite .., h => (execBootWrite_within h).widen
  | .bootWait, h => (execBootWait_within h).widen
  | .bootWaitExpiry, h => (execBootWaitExpiry_within h).widen
  | .bootApply, h => (execBootApply_within h).widen
  | .bootSeal, h => (execBootSeal_within h).widen
  | .bootLedgerClear .., h => (execBootLedgerClear_within h).widen
  | .tickBoundary .., h => (execTickBoundary_within h).widen
  | .admissionClose, h => (execAdmissionClose_within h).widen
  | .tickReferenceEdge, h => (execTickReferenceEdge_within h).widen
  | .missedEdge, h => (execMissedEdge_within h).widen
  | .tickSourceMissing, h => (execTickSourceMissing_within h).widen
  | .tickMarker .., h => (execTickMarker_within h).widen
  | .tickSettingWrite .., h => (execTickSettingWrite_within h).widen
  | .retimingApply, h => (execRetimingApply_within h).widen
  | .dataFlit .., h => (execDataFlit_within h).widen
  | .recordCommit .., h => (execRecordCommit_within h).widen
  | .hello .., h => (execHello_within h).widen
  | .credit .., h => (execCredit_within h).widen
  | .sync .., h => (execSync_within h).widen
  | .align .., h => (execAlign_within h).widen
  | .reservedLinkFlit .., h => (execReservedLinkFlit_within h).widen
  | .uncorrectableCodeword .., h => (execUncorrectableCodeword_within h).widen
  | .linkSignalDetect .., h => (execLinkSignalDetect_within h).widen
  | .codewordLock .., h => (execCodewordLock_within h).widen
  | .laneAlignment .., h => (execLaneAlignment_within h).widen
  | .helloTimeout .., h => (execHelloTimeout_within h).widen
  | .linkDown .., h => (execLinkDown_within h).widen
  | .prtRetrain .., h => (execPrtRetrain_within h).widen
  | .prtFlush .., h => (execPrtFlush_within h).widen
  | .prtEnWrite .., h => (execPrtEnWrite_within h).widen
  | .prtSelftestStart .., h => (execPrtSelftestStart_within h).widen
  | .prtSelftestDone .., h => (execPrtSelftestDone_within h).widen
  | .prtSelftestEnd .., h => (execPrtSelftestEnd_within h).widen
  | .searchSlot, h => (execSearchSlot_within h).widen
  | .verdictRelease .., h => (execVerdictRelease_within h).widen
  | .captureTransmit .., h => (execCaptureTransmit_within h).widen
  | .controlCopySend .., h => (execControlCopySend_within h).widen
  | .chnCreate .., h => (execChnCreate_within h).widen
  | .chnDestroy, h => (execChnDestroy_within h).widen
  | .channelSlotFree .., h => (execChannelSlotFree_within h).widen
  | .chnQuotaWrite .., h => (execChnQuotaWrite_within h).widen
  | .channelStall .., h => (execChannelStall_within h).widen
  | .tblCreate .., h => (execTblCreate_within h).widen
  | .tblDestroy, h => (execTblDestroy_within h).widen
  | .tableDestroyComplete .., h => (execTableDestroyComplete_within h).widen
  | .editBegin, h => (execEditBegin_within h).widen
  | .editCommit, h => (execEditCommit_within h).widen
  | .groupCommit .., h => (execGroupCommit_within h).widen
  | .commitRelease .., h => (execCommitRelease_within h).widen
  | .editAbort, h => (execEditAbort_within h).widen
  | .editLeaseExpiry .., h => (execEditLeaseExpiry_within h).widen
  | .tblInsert .., h => (execTblInsert_within h).widen
  | .tblDelete, h => (execTblDelete_within h).widen
  | .tblModify .., h => (execTblModify_within h).widen
  | .vestWaitExpiry, h => (execVestWaitExpiry_within h).widen
  | .tblRead .., h => (execTblRead_within h).widen
  | .tblFind .., h => (execTblFind_within h).widen
  | .tblNext .., h => (execTblNext_within h).widen
  | .rowStateAdvance, h => (execRowStateAdvance_within h).widen
  | .migration .., h => (execMigration_within h).widen
  | .relocation .., h => (execRelocation_within h).widen
  | .rowFlip, h => (execRowFlip_within h).widen
  | .rowClear .., h => (execRowClear_within h).widen
  | .baySplit .., h => (execBaySplit_within h).widen
  | .bayMerge .., h => (execBayMerge_within h).widen
  | .learnPersist .., h => (execLearnPersist_within h).widen
  | .tallyWindowWrite .., h => (execTallyWindowWrite_within h).widen
  | .tallyRead, h => (execTallyRead_within h).widen
  | .tallyWrite, h => (execTallyWrite_within h).widen
  | .tblgLossNext, h => (execTblgLossNext_within h).widen
  | .wearBalanceSave, h => (execWearBalanceSave_within h).widen
  | .calibrationRound .., h => (execCalibrationRound_within h).widen
  | .curCalGo .., h => (execCurCalGo_within h).widen
  | .histClear, h => (execHistClear_within h).widen
  | .curCabFence .., h => (execCurCabFence_within h).widen
  | .curCabUnfence .., h => (execCurCabUnfence_within h).widen
  | .cabinetCheckDone .., h => (execCabinetCheckDone_within h).widen
  | .scrubPass .., h => (execScrubPass_within h).widen
  | .scrubQueueRead .., h => (execScrubQueueRead_within h).widen
  | .refresh .., h => (execRefresh_within h).widen
  | .selfSearch .., h => (execSelfSearch_within h).widen
  | .sweepPeriodEnd, h => (execSweepPeriodEnd_within h).widen
  | .digestSave .., h => (execDigestSave_within h).widen
  | .curSelftestGo, h => (execCurSelftestGo_within h).widen
  | .selftestRotation .., h => (execSelftestRotation_within h).widen
  | .drawerSelftest .., h => (execDrawerSelftest_within h).widen
  | .curRetireGo, h => (execCurRetireGo_within h).widen
  | .drawerRetirementDone .., h => (execDrawerRetirementDone_within h).widen
  | .curFulltestGo, h => (execCurFulltestGo_within h).widen
  | .fulltestComplete .., h => (execFulltestComplete_within h).widen
  | .restoreReq .., h => (execRestoreReq_within h).widen
  | .restoreAns .., h => (execRestoreAns_within h).widen
  | .adataWrite .., h => (execAdataWrite_within h).widen
  | .adataRead .., h => (execAdataRead_within h).widen
  | .wrdOpInval, h => (execWrdOpInval_within h).widen
  | .wrdOpClean, h => (execWrdOpClean_within h).widen
  | .wrdOpFlush, h => (execWrdOpFlush_within h).widen
  | .wrdPinEn .., h => (execWrdPinEn_within h).widen
  | .pinLoadDone .., h => (execPinLoadDone_within h).widen
  | .wrdLockWrite .., h => (execWrdLockWrite_within h).widen
  | .stagingWriteback .., h => (execStagingWriteback_within h).widen
  | .siteWrite .., h => (execSiteWrite_within h).widen
  | .rptAgeing, h => (execRptAgeing_within h).widen
  | .rptStaticWrite .., h => (execRptStaticWrite_within h).widen
  | .rptStaticRemove .., h => (execRptStaticRemove_within h).widen
  | .rptStaticInvalid .., h => (execRptStaticInvalid_within h).widen
  | .rptShadowWrite .., h => (execRptShadowWrite_within h).widen
  | .rptShadowSet .., h => (execRptShadowSet_within h).widen
  | .shadowPass, h => (execShadowPass_within h).widen
  | .rptSearch .., h => (execRptSearch_within h).widen
  | .rptNext .., h => (execRptNext_within h).widen
  | .rptFlushByPort .., h => (execRptFlushByPort_within h).widen
  | .ctlSend .., h => (execCtlSend_within h).widen
  | .maintenanceRequest .., h => (execMaintenanceRequest_within h).widen
  | .breakPoint .., h => (execBreakPoint_within h).widen
  | .mntPrioWrite .., h => (execMntPrioWrite_within h).widen
  | .starvation .., h => (execStarvation_within h).widen
  | .watchdogExpiry, h => (execWatchdogExpiry_within h).widen
  | .mntFence .., h => (execMntFence_within h).widen
  | .mntUnfence .., h => (execMntUnfence_within h).widen
  | .pairHello .., h => (execPairHello_within h).widen
  | .bye, h => (execBye_within h).widen
  | .digest .., h => (execDigest_within h).widen
  | .chdigest .., h => (execChdigest_within h).widen
  | .lockReq .., h => (execLockReq_within h).widen
  | .lockAns .., h => (execLockAns_within h).widen
  | .mirror .., h => (execMirror_within h).widen
  | .staged .., h => (execStaged_within h).widen
  | .ready .., h => (execReady_within h).widen
  | .refuse .., h => (execRefuse_within h).widen
  | .propose .., h => (execPropose_within h).widen
  | .agree .., h => (execAgree_within h).widen
  | .defer .., h => (execDefer_within h).widen
  | .abort .., h => (execAbort_within h).widen
  | .syncBegin, h => (execSyncBegin_within h).widen
  | .syncData .., h => (execSyncData_within h).widen
  | .syncEnd, h => (execSyncEnd_within h).widen
  | .join .., h => (execJoin_within h).widen
  | .seamJoin, h => (execSeamJoin_within h).widen
  | .seamTicksMissed, h => (execSeamTicksMissed_within h).widen
  | .seamDetachWrite, h => (execSeamDetachWrite_within h).widen
  | .seamReleaseWrite .., h => (execSeamReleaseWrite_within h).widen
  | .lookupToken .., h => (execLookupToken_within h).widen
  | .learnToken .., h => (execLearnToken_within h).widen
  | .tallyToken .., h => (execTallyToken_within h).widen
  | .cascadeMerge .., h => (execCascadeMerge_within h).widen
  | .notice .., h => (execNotice_within h).widen
  | .cscPropose .., h => (execCscPropose_within h).widen
  | .ack .., h => (execAck_within h).widen
  | .commit, h => (execCommit_within h).widen
  | .joinReq .., h => (execJoinReq_within h).widen
  | .cscBye .., h => (execCscBye_within h).widen
  | .cscLeave, h => (execCscLeave_within h).widen
  | .cscJoin, h => (execCscJoin_within h).widen
  | .cscTicksMissed .., h => (execCscTicksMissed_within h).widen
  | .membershipApply, h => (execMembershipApply_within h).widen
  | .cscSliceWrite .., h => (execCscSliceWrite_within h).widen
  | .idleTimerExpiry, h => (execIdleTimerExpiry_within h).widen
  | .dormancyGating .., h => (execDormancyGating_within h).widen
  | .wakeDetect .., h => (execWakeDetect_within h).widen
  | .ptRead, h => (execPtRead_within h).widen
  | .ptWrite, h => (execPtWrite_within h).widen
  | .ptStatus, h => (execPtStatus_within h).widen
  | .ptInvalid, h => (execPtInvalid_within h).widen
  | .carePass .., h => (execCarePass_within h).widen
  | .logWrite, h => (execLogWrite_within h).widen
  | .spiWriteTimeout, h => (execSpiWriteTimeout_within h).widen
  | .flr .., h => (execFlr_within h).widen
  | .perstL .., h => (execPerstL_within h).widen
  | .pcieLinkChange .., h => (execPcieLinkChange_within h).widen
  | .aerError .., h => (execAerError_within h).widen
  | .cmdTailWrite .., h => (execCmdTailWrite_within h).widen
  | .queEnWrite .., h => (execQueEnWrite_within h).widen
  | .commandDispatch, h => (execCommandDispatch_within h).widen
  | .nop, h => (execNop_within h).widen
  | .capPop .., h => (execCapPop_within h).widen
  | .evqPop .., h => (execEvqPop_within h).widen
  | .capqIdleExpiry .., h => (execCapqIdleExpiry_within h).widen
  | .evqIdleExpiry, h => (execEvqIdleExpiry_within h).widen
  | .idleUsWrite .., h => (execIdleUsWrite_within h).widen
  | .holdoffExpiry .., h => (execHoldoffExpiry_within h).widen
  | .evtPendClear .., h => (execEvtPendClear_within h).widen
  | .registerWrite .., h => (execRegisterWrite_within h).widen
  | .extest, h => (execExtest_within h).widen
  | .idcode, h => (execIdcode_within h).widen
  | .samplePreload, h => (execSamplePreload_within h).widen
  | .highz, h => (execHighz_within h).widen
  | .clamp, h => (execClamp_within h).widen
  | .extestPulse, h => (execExtestPulse_within h).widen
  | .extestTrain, h => (execExtestTrain_within h).widen
  | .fuseRead, h => (execFuseRead_within h).widen
  | .fuseProg .., h => (execFuseProg_within h).widen
  | .bypass code, h => (execBypass_within (_code := code) h).widen
  | .linkTrainingTimeout, h => (execLinkTrainingTimeout_within h).widen
  | .unwatchedRailInRange .., h => (execUnwatchedRailInRange_within h).widen
  | .pageProgramDone, h => (execPageProgramDone_within h).widen
  | .alignTransmit .., h => (execAlignTransmit_within h).widen
  | .wearBalanceEarn, h => (execWearBalanceEarn_within h).widen
  | .reservedSeamMessage .., h => (execReservedSeamMessage_within h).widen
  | .tapReset, h => (execTapReset_within h).widen

/-- Settles O56, command by command from the parts that its operations touch. -/
theorem commandsChangeOnlyTheirParts : Obligations.CommandsChangeOnlyTheirParts := by
  unfold Obligations.CommandsChangeOnlyTheirParts
  exact fun _ _ _ h => (exec_within h).1

/-! ## The memory stays canonical -/

/-- A step is the passing of a core cycle or a command on the queue's rest. -/
theorem step_cases {s t : State} (h : step s = .next t) :
    t = s.idleCycle ∨ ∃ c rest, s.pending = c :: rest ∧ exec c { s with pending := rest } = .next t := by
  unfold step at h
  split at h
  · injection h with h
    exact .inl h.symm
  case _ c rest hpending => exact .inr ⟨c, rest, hpending, h⟩

/-- Settles O58: each command keeps the form, and a core cycle that passes leaves the memory. -/
theorem memoryStaysCanonical : Obligations.MemoryStaysCanonical := by
  unfold Obligations.MemoryStaysCanonical
  intro s t h
  obtain rfl | ⟨c, rest, -, hc⟩ := step_cases h
  · exact id
  · exact (exec_within hc).2

/-! ## The fuses (R451, R453) -/


theorem fuses_notMem_mayChange {c : Instr} (h : ∀ v, c ≠ .fuseProg v) : Part.fuses ∉ mayChange c := by
  cases c
  case fuseProg v => exact absurd rfl (h v)
  all_goals simp [mayChange]

/-- The programmed fields lie below bit 57. -/
theorem fuseFields_lt (f : BitVec 128) (v : BitVec 64) (n : Nat) :
    (List.range n).foldl (fun a k => if fuseField f k = 0 then a + bits v (3 * k + 2) (3 * k) * 2 ^ (3 * k) else a) 0 < 8 ^ n := by
  induction n with
  | zero => simp
  | succ n ih =>
    rw [List.range_succ, List.foldl_append]
    generalize List.foldl _ 0 (List.range n) = a at ih ⊢
    have hfield : bits v (3 * n + 2) (3 * n) < 8 := by
      unfold bits
      exact (Nat.mod_lt _ (by positivity)).trans_eq (by rw [show 3 * n + 2 + 1 - 3 * n = 3 by omega]; norm_num)
    have hpow : (2 : Nat) ^ (3 * n) = 8 ^ n := by rw [pow_mul]; norm_num
    simp only [List.foldl_cons, List.foldl_nil, hpow, pow_succ]
    split <;> nlinarith

/-- FUSE_PROG sets bits of the user area alone. -/
theorem fuseGain_lt (f : BitVec 128) (v : BitVec 64) : (fuseGain f v).toNat < 2 ^ 64 := by
  have hfields := fuseFields_lt f v 19
  unfold fuseGain
  dsimp only
  generalize List.foldl _ 0 (List.range 19) = a at hfields ⊢
  rw [BitVec.toNat_ofNat]
  refine (Nat.mod_le _ _).trans_lt ?_
  split <;> omega

theorem or_keeps_high {n k : Nat} (f g : BitVec n) (hg : g.toNat < 2 ^ k) : (f ||| g).toNat / 2 ^ k = f.toNat / 2 ^ k := by
  rw [BitVec.toNat_or, Nat.or_div_two_pow, Nat.div_eq_of_lt hg, Nat.or_zero]

/-- From the fuses f to the fuses g no bit is cleared, the factory area stays, and after LOCK every bit does. -/
def KeepsProgram (f g : BitVec 128) : Prop :=
  f &&& g = f ∧ g.toNat / 2 ^ 64 = f.toNat / 2 ^ 64 ∧ (f.getLsbD 63 = true → g = f)

theorem keepsProgram_of_eq {f g : BitVec 128} (h : f = g) : KeepsProgram f g := by
  subst h
  exact ⟨BitVec.and_self, rfl, fun _ => rfl⟩

theorem keepsProgram_or {f g : BitVec 128} (hopen : bitOf f 63 = false) (hg : g.toNat < 2 ^ 64) : KeepsProgram f (f ||| g) := by
  refine ⟨?_, or_keeps_high f g hg, fun hlock => absurd (hlock.symm.trans hopen) (by decide)⟩
  apply BitVec.eq_of_getLsbD_eq
  intro i _
  simp only [BitVec.getLsbD_and, BitVec.getLsbD_or]
  cases f.getLsbD i <;> simp

/-- What FUSE_PROG does to the fuses. -/
theorem fuses_doFuseProg (v : BitVec 64) (s : State) :
    (doFuseProg v s).fuses = s.fuses ∨
      (bitOf s.fuses 63 = false ∧ (doFuseProg v s).fuses = s.fuses ||| fuseGain s.fuses v) := by
  have hload : (s.tapLoad .fuseProg (v.setWidth 128)).fuses = s.fuses := by
    unfold State.tapLoad
    split <;> rfl
  unfold doFuseProg
  split
  · dsimp only
    split
    case isTrue h => exact .inr ⟨h.2.2, rfl⟩
    · exact .inl hload
  · exact .inl rfl

/-- Settles O57: only FUSE_PROG may change the fuses, and it sets bits of the user area while LOCK is 0. -/
theorem fusesAreProgrammedOnce : Obligations.FusesAreProgrammedOnce := by
  unfold Obligations.FusesAreProgrammedOnce
  intro s t h
  obtain rfl | ⟨c, rest, -, hc⟩ := step_cases h
  · exact keepsProgram_of_eq rfl
  · by_cases hprog : ∃ v, c = .fuseProg v
    · obtain ⟨v, rfl⟩ := hprog
      have ht : doFuseProg v { s with pending := rest } = t := by injection hc
      obtain hkept | ⟨hopen, hset⟩ := fuses_doFuseProg v { s with pending := rest }
      · exact keepsProgram_of_eq (ht ▸ hkept.symm)
      · exact ht ▸ hset ▸ keepsProgram_or hopen (fuseGain_lt _ _)
    · exact keepsProgram_of_eq ((exec_within hc).1 _ (fuses_notMem_mayChange fun v hv => hprog ⟨v, hv⟩))

end Sys2Proof.Machine
end

section
/-! PROOFS. The TAP and the fuses (O55). -/

namespace Sys2Proof.Machine

/-! ## The fuse map (R451, R453) -/

/-- What FUSE_PROG adds to field k: the shifted value where the field is blank. -/
def fuseDigit (f : BitVec 128) (v : BitVec 64) (k : Nat) : Nat := if fuseField f k = 0 then bits v (3 * k + 2) (3 * k) else 0

theorem bits_three_lt {n : Nat} (w : BitVec n) (k : Nat) : bits w (3 * k + 2) (3 * k) < 8 :=
  (Nat.mod_lt _ (by positivity)).trans_eq (by rw [show 3 * k + 2 + 1 - 3 * k = 3 by omega]; norm_num)

theorem bits_three {n : Nat} (w : BitVec n) (k : Nat) : bits w (3 * k + 2) (3 * k) = w.toNat / 8 ^ k % 8 := by
  unfold bits
  rw [show 3 * k + 2 + 1 - 3 * k = 3 by omega, Nat.shiftRight_eq_div_pow, pow_mul]
  norm_num

theorem fuseDigit_lt (f : BitVec 128) (v : BitVec 64) (k : Nat) : fuseDigit f v k < 8 := by
  unfold fuseDigit
  split
  · exact bits_three_lt v k
  · exact Nat.zero_lt_succ _

/-- The digits of a sum of octal digits. -/
theorem octal_digit {d : Nat → Nat} (hd : ∀ k, d k < 8) (n : Nat) :
    (∑ i ∈ Finset.range n, d i * 8 ^ i) < 8 ^ n ∧ ∀ k < n, (∑ i ∈ Finset.range n, d i * 8 ^ i) / 8 ^ k % 8 = d k := by
  induction n with
  | zero => simp
  | succ n ih =>
    obtain ⟨hlt, hdigit⟩ := ih
    rw [Finset.sum_range_succ]
    generalize ∑ i ∈ Finset.range n, d i * 8 ^ i = a at hlt hdigit ⊢
    have htop : d n * 8 ^ n ≤ 7 * 8 ^ n := Nat.mul_le_mul_right _ (Nat.le_of_lt_succ (hd n))
    refine ⟨by rw [pow_succ]; omega, fun k hk => ?_⟩
    obtain rfl | hkn := (Nat.lt_succ_iff_lt_or_eq.1 hk).symm
    · rw [Nat.add_mul_div_right _ _ (by positivity), Nat.div_eq_of_lt hlt, Nat.zero_add, Nat.mod_eq_of_lt (hd k)]
    · have hpow : d n * 8 ^ n = 8 ^ k * (8 * (d n * 8 ^ (n - k - 1))) := by
        rw [show n = k + 1 + (n - k - 1) by omega, pow_add, pow_succ, show k + 1 + (n - k - 1) - k - 1 = n - k - 1 by omega]
        ring
      rw [hpow, Nat.add_mul_div_left _ _ (by positivity), Nat.add_mul_mod_self_left, hdigit k hkn]

theorem fuseFields_eq (f : BitVec 128) (v : BitVec 64) (n : Nat) :
    (List.range n).foldl (fun a k => if fuseField f k = 0 then a + bits v (3 * k + 2) (3 * k) * 2 ^ (3 * k) else a) 0 =
      ∑ i ∈ Finset.range n, fuseDigit f v i * 8 ^ i := by
  induction n with
  | zero => rfl
  | succ n ih =>
    have hpow : (2 : Nat) ^ (3 * n) = 8 ^ n := by rw [pow_mul]; norm_num
    rw [List.range_succ, List.foldl_append, ih, Finset.sum_range_succ]
    simp only [List.foldl_cons, List.foldl_nil, fuseDigit, hpow]
    split <;> simp

/-- The fields that FUSE_PROG adds, as octal digits. -/
theorem digit_fuseGain (f : BitVec 128) (v : BitVec 64) {k : Nat} (hk : k < 19) :
    (fuseGain f v).toNat / 8 ^ k % 8 = fuseDigit f v k := by
  obtain ⟨hlt, hdigit⟩ := octal_digit (fuseDigit_lt f v) 19
  have hlock : (if bitOf v 63 then 2 ^ 63 else 0) = 8 ^ k * (8 * (if bitOf v 63 then 8 ^ (20 - k) else 0)) := by
    split
    · rw [← pow_succ', ← pow_add, show k + (20 - k + 1) = 21 by omega]
      norm_num
    · rfl
  have hfit : (∑ i ∈ Finset.range 19, fuseDigit f v i * 8 ^ i) + (if bitOf v 63 then 2 ^ 63 else 0) < 2 ^ 128 := by split <;> omega
  unfold fuseGain
  rw [fuseFields_eq, BitVec.toNat_ofNat, Nat.mod_eq_of_lt hfit, hlock, Nat.add_mul_div_left _ _ (by positivity),
    Nat.add_mul_mod_self_left, hdigit k hk]

theorem lock_fuseGain (f : BitVec 128) (v : BitVec 64) : (fuseGain f v).getLsbD 63 = v.getLsbD 63 := by
  have hlt := (octal_digit (fuseDigit_lt f v) 19).1
  unfold fuseGain bitOf
  rw [fuseFields_eq, BitVec.getLsbD_ofNat]
  generalize (∑ i ∈ Finset.range 19, fuseDigit f v i * 8 ^ i) = a at hlt ⊢
  cases v.getLsbD 63
  · simp [Nat.testBit_lt_two_pow (show a < 2 ^ 63 by omega)]
  · rw [if_pos rfl, Nat.add_comm, Nat.testBit_two_pow_add_eq, Nat.testBit_lt_two_pow (show a < 2 ^ 63 by omega)]
    rfl

theorem fuseField_or_fuseGain (f : BitVec 128) (v : BitVec 64) {k : Nat} (hk : k < 19) :
    fuseField (f ||| fuseGain f v) k = if fuseField f k = 0 then bits v (3 * k + 2) (3 * k) else fuseField f k := by
  have hor : fuseField (f ||| fuseGain f v) k = fuseField f k ||| fuseDigit f v k := by
    unfold fuseField
    rw [bits_three, bits_three, ← digit_fuseGain f v hk, BitVec.toNat_or, show (8 : Nat) ^ k = 2 ^ (3 * k) by rw [pow_mul]; norm_num,
      Nat.or_div_two_pow, show 8 = 2 ^ 3 by norm_num, Nat.or_mod_two_pow]
  rw [hor]
  unfold fuseDigit
  split
  case isTrue h => rw [h, Nat.zero_or]
  · rw [Nat.or_zero]

/-! ## The TAP (R380, R452) -/

theorem State.tapLoad_of_alive {s : State} (h : s.tapAlive = true) (i : TapIr) (dr : BitVec 128) :
    s.tapLoad i dr = { s with tap := { ir := i, dr := dr } } := if_pos h

theorem State.tapLoad_of_dead {s : State} (h : s.tapAlive = false) (i : TapIr) (dr : BitVec 128) : s.tapLoad i dr = s :=
  if_neg (by simp [h])

theorem State.tapScan_of_dead {s : State} (h : s.tapAlive = false) (i : TapIr) : s.tapScan i = s := if_neg (by simp [h])

theorem State.tapScan_of_alive {s : State} (h : s.tapAlive = true) (i : TapIr) :
    ∃ t, s.tapScan i = t ∧ t.tap.ir = i ∧ t = { s with tap := t.tap, freeCtr := t.freeCtr } := by
  refine ⟨_, if_pos h, ?_⟩
  rw [State.tapLoad_of_alive h]
  exact ⟨rfl, rfl⟩

/-- The IDCODE of every manufacturer: its part number and the fixed low bit. -/
theorem idcodeWord_fields :
    (BitVec.ofNat 128 idcodeWord).toNat / 4096 = 0x18640 ∧ (BitVec.ofNat 128 idcodeWord).getLsbD 0 = true := by
  have hcode := Config.jep106.isLt
  have hword : (BitVec.ofNat 128 idcodeWord).toNat = 0x18640001 + 2 * Config.jep106.toNat := by
    unfold idcodeWord
    rw [BitVec.toNat_ofNat, Nat.mod_eq_of_lt (by omega)]
  refine ⟨by omega, ?_⟩
  rw [BitVec.getLsbD, hword, Nat.testBit_zero, decide_eq_true_iff]
  omega

theorem doFuseProg_of_alive {s : State} (h : s.tapAlive = true) (v : BitVec 64) :
    ∃ t, doFuseProg v s = t ∧ t.tap.ir = .fuseProg ∧ t = { s with tap := t.tap, fuses := t.fuses } ∧
      t.fuses = if s.pins.resetL = false ∧ s.pins.unwatched = true ∧ bitOf s.fuses 63 = false then s.fuses ||| fuseGain s.fuses v
        else s.fuses := by
  refine ⟨_, if_pos h, ?_⟩
  rw [State.tapLoad_of_alive h]
  dsimp only
  split
  · exact ⟨rfl, rfl, rfl⟩
  · exact ⟨rfl, rfl, rfl⟩

/-- Settles O55: an instruction loads the TAP where it is alive, and FUSE_PROG adds the octal digits of the blank fields. -/
theorem tapInstructions : Obligations.TapInstructions := by
  unfold Obligations.TapInstructions
  refine ⟨fun s h => ⟨?_, ?_, ?_, ?_, ?_⟩, fun s v h => ?_, fun s i h hi => ?_⟩
  · intro e he
    obtain ⟨t, ht, hrest⟩ := State.tapScan_of_alive h e.2
    refine ⟨t, ?_, hrest⟩
    simp only [List.mem_cons, List.not_mem_nil, or_false] at he
    rcases he with rfl | rfl | rfl | rfl <;> exact congrArg Host.Outcome.next ht
  · intro e he
    simp only [List.mem_cons, List.not_mem_nil, or_false] at he
    rcases he with rfl | rfl | rfl <;> exact congrArg Host.Outcome.next (State.tapLoad_of_alive h _ _)
  · exact fun _ => congrArg Host.Outcome.next (State.tapLoad_of_alive h _ _)
  · exact ⟨_, congrArg Host.Outcome.next (State.tapLoad_of_alive h _ _), rfl, idcodeWord_fields.1, idcodeWord_fields.2, rfl⟩
  · exact congrArg Host.Outcome.next (State.tapLoad_of_alive h _ _)
  · obtain ⟨t, ht, hir, hframe, hfuses⟩ := doFuseProg_of_alive h v
    refine ⟨t, congrArg Host.Outcome.next ht, hir, hframe, fun hshut => ?_, fun hreset hrail hlock => ?_⟩
    · rw [hfuses, if_neg]
      rintro ⟨hreset, hrail, hlock⟩
      rcases hshut with h' | h' | h'
      · exact Bool.noConfusion (h'.symm.trans hreset)
      · exact Bool.noConfusion (h'.symm.trans hrail)
      · exact Bool.noConfusion (h'.symm.trans hlock)
    · rw [hfuses, if_pos ⟨hreset, hrail, hlock⟩]
      refine ⟨fun k hk => fuseField_or_fuseGain _ _ hk, ?_, or_keeps_high _ _ (fuseGain_lt _ _)⟩
      rw [BitVec.getLsbD_or, hlock, lock_fuseGain, Bool.false_or]
  · simp only [List.mem_cons, List.not_mem_nil, or_false] at hi
    rcases hi with (rfl | rfl | rfl | rfl | rfl | rfl | rfl | rfl | rfl) | ⟨c, rfl⟩ | ⟨v, rfl⟩
    iterate 4 exact congrArg Host.Outcome.next (State.tapScan_of_dead h _)
    iterate 6 exact congrArg Host.Outcome.next (State.tapLoad_of_dead h _ _)
    exact congrArg Host.Outcome.next (if_neg (by simp [h]))

end Sys2Proof.Machine
end

section
/-! PROOFS. The maintenance port: its arbitration (O41), starvation, the watchdog and the fences (O42). -/

namespace Sys2Proof.Machine

/-! ## Requesters after an update -/

theorem State.owner_congr {s t : State} (h : ∀ q, ((t.req q).st == .owner) = ((s.req q).st == .owner)) : t.owner = s.owner := by
  unfold State.owner
  exact congrArg (fun f => (List.range 16).find? f) (funext h)

theorem State.st_of_owner {s : State} {o : Nat} (h : s.owner = some o) : (s.req o).st = .owner := by
  simpa using List.find?_some h

theorem State.ne_owner_of_st {s : State} {r : Nat} (h : (s.req r).st ≠ .owner) : s.owner ≠ some r :=
  fun ho => h (State.st_of_owner ho)

theorem State.mem_waiters {s : State} {r : Nat} : r ∈ s.waiters ↔ r < 16 ∧ (s.req r).st = .waiting := by
  simp [State.waiters]

/-- One requester more in the search for the best waiter (R293). -/
def State.better (s : State) (b : Option Nat) (r : Nat) : Option Nat :=
  if s.waiters.contains r then
    match b with
    | none => some r
    | some x => if s.prio x < s.prio r then some r else some x
  else b

theorem State.bestWaiter_eq_foldl (s : State) :
    s.bestWaiter = ((List.range 16).map fun i => (s.mnt.last + 1 + i) % 16).foldl s.better none := rfl

theorem State.better_cases (s : State) (b : Option Nat) (r : Nat) : s.better b r = b ∨ s.better b r = some r ∧ r ∈ s.waiters := by
  unfold State.better
  split
  case isTrue hmem =>
    have hr := List.contains_iff_mem.1 hmem
    split
    · exact .inr ⟨rfl, hr⟩
    · split
      · exact .inr ⟨rfl, hr⟩
      · exact .inl rfl
  · exact .inl rfl

/-- Whoever is chosen waits. -/
theorem State.bestWaiter_waits {s : State} {r : Nat} (h : s.bestWaiter = some r) : (s.req r).st = .waiting := by
  have hfold (l : List Nat) : ∀ b, (∀ q, b = some q → q ∈ s.waiters) → ∀ q, l.foldl s.better b = some q → q ∈ s.waiters := by
    induction l with
    | nil => exact fun b hb => hb
    | cons a l ih =>
      refine fun b hb => ih _ fun q hq => ?_
      obtain hkeep | ⟨htake, ha⟩ := s.better_cases b a
      · exact hb q (hkeep ▸ hq)
      · exact Option.some.inj (htake.symm.trans hq) ▸ ha
  rw [State.bestWaiter_eq_foldl] at h
  exact (State.mem_waiters.1 (hfold _ none (fun _ h => nomatch h) r h)).2

/-- A sole waiter is chosen. -/
theorem State.bestWaiter_sole {s : State} {r : Nat} (hr : r < 16) (h : ∀ q, q ∈ s.waiters ↔ q = r) : s.bestWaiter = some r := by
  have hfold (l : List Nat) : ∀ b, (b = none ∨ b = some r) → (b = some r ∨ r ∈ l) → l.foldl s.better b = some r := by
    induction l with
    | nil => exact fun b _ hb => hb.resolve_right List.not_mem_nil
    | cons a l ih =>
      intro b hb hmem
      rw [List.foldl_cons]
      by_cases ha : a = r
      · subst ha
        have htaken : s.better b a = some a := by
          unfold State.better
          rw [if_pos (List.contains_iff_mem.2 ((h a).2 rfl))]
          rcases hb with rfl | rfl
          · rfl
          · exact if_neg (lt_irrefl _)
        exact ih _ (.inr htaken) (.inl htaken)
      · have hkept : s.better b a = b := if_neg fun hc => ha ((h a).1 (List.contains_iff_mem.1 hc))
        rw [hkept]
        exact ih b hb (hmem.imp_right fun hm => (List.mem_cons.1 hm).resolve_left (Ne.symm ha))
  rw [State.bestWaiter_eq_foldl]
  refine hfold _ none (.inl rfl) (.inr (List.mem_map.2 ⟨(r + 16 - (s.mnt.last + 1) % 16) % 16, ?_, ?_⟩))
  · exact List.mem_range.2 (Nat.mod_lt _ (by decide))
  · omega

theorem State.arbitrate_of_owner {s : State} (h : s.owner ≠ none) : s.arbitrate = s := by
  unfold State.arbitrate
  split
  · contradiction
  · rfl

theorem State.arbitrate_grant {s : State} {r : Nat} (ho : s.owner = none) (hb : s.bestWaiter = some r) : s.arbitrate = s.grant r := by
  simp only [State.arbitrate, ho, hb]

/-- What an arbitration can do: nothing, or a grant to a requester that waits. -/
theorem State.arbitrate_cases (s : State) :
    s.arbitrate = s ∨ ∃ r, s.owner = none ∧ (s.req r).st = .waiting ∧ s.arbitrate = s.grant r := by
  unfold State.arbitrate
  split
  case _ r ho hb => exact .inr ⟨r, ho, State.bestWaiter_waits hb, rfl⟩
  · exact .inl rfl

theorem State.req_countWait_ne {s : State} {r q : Nat} (h : r ≠ q) : (s.countWait r).req q = s.req q := by
  unfold State.countWait
  dsimp only
  split
  · rw [State.req_setReq_ne _ _ h]
    simp
  · rfl

@[simp] theorem State.req_markPort (s : State) (l q : Nat) : (s.markPort l).req q = s.req q := rfl

@[simp] theorem State.get_markPort (s : State) (l : Nat) (F : Field) (i j : Nat) : (s.markPort l).get F i j = s.get F i j := rfl

theorem State.req_grant_same (s : State) (r : Nat) : (s.grant r).req r = { st := .owner } := by simp [State.grant]

theorem State.req_grant_ne {s : State} {r q : Nat} (h : r ≠ q) : (s.grant r).req q = s.req q := by
  rw [State.grant, State.req_markPort, State.req_setReq_ne _ _ h]
  simpa using State.req_countWait_ne h

/-- A wait that is counted changes the two registers of the wait alone. -/
theorem State.get_countWait {s : State} {r : Nat} {F : Field} {i j : Nat} (hcount : Reg.MNT_CNT_WAIT_COUNT.key r ≠ F.key i j)
    (hmax : Reg.MNT_MAX_WAIT_CYCLES.key r ≠ F.key i j) : (s.countWait r).get F i j = s.get F i j := by
  unfold State.countWait
  dsimp only
  split
  · exact (State.get_put_ne _ _ F _ r 0 i j hmax).trans (State.get_bump_ne s _ F _ r 0 i j hcount)
  · rfl

/-- A grant is counted. -/
theorem State.count_grant (s : State) (r : Nat) :
    (s.grant r).get Reg.MNT_CNT_GRANT_COUNT r = min (s.get Reg.MNT_CNT_GRANT_COUNT r + 1) Reg.MNT_CNT_GRANT_COUNT.max := by
  have hwait : (s.countWait r).get Reg.MNT_CNT_GRANT_COUNT r = s.get Reg.MNT_CNT_GRANT_COUNT r := by
    apply State.get_countWait
    all_goals
      simp only [Field.key, Reg.MNT_CNT_WAIT_COUNT, Reg.MNT_CNT_GRANT_COUNT, Reg.MNT_MAX_WAIT_CYCLES]
      omega
  simp [State.grant, hwait]

/-! ## Requests and break points (R293 to R296) -/

theorem State.req_startWait_same (s : State) (r : Nat) :
    (s.startWait r).req r = { st := .waiting, since := s.clock, counted := s.clock } := State.req_setReq_same _ _ _

theorem State.owner_startWait {s : State} {r : Nat} (h : (s.req r).st = .idle) : (s.startWait r).owner = s.owner := by
  apply State.owner_congr
  intro q
  by_cases hq : r = q
  · subst hq
    rw [State.req_startWait_same, h]
    rfl
  · rw [State.startWait, State.req_setReq_ne _ _ hq]

theorem State.mem_waiters_startWait {s : State} {r : Nat} (hr : r < 16) (q : Nat) :
    q ∈ (s.startWait r).waiters ↔ q = r ∨ q ∈ s.waiters := by
  rw [State.mem_waiters, State.mem_waiters]
  by_cases hq : r = q
  · subst hq
    rw [State.req_startWait_same]
    simp [hr]
  · rw [State.startWait, State.req_setReq_ne _ _ hq]
    simp [Ne.symm hq]

/-- A request for a free port that nobody waits for is granted. -/
theorem State.request_granted {s : State} {r : Nat} (hr : r < 16) (hidle : (s.req r).st = .idle) (ho : s.owner = none)
    (hw : s.waiters = []) : (s.startWait r).arbitrate = (s.startWait r).grant r := by
  apply State.arbitrate_grant
  · rw [State.owner_startWait hidle, ho]
  · exact State.bestWaiter_sole hr fun q => by rw [State.mem_waiters_startWait hr, hw]; simp

/-- A request behind an owner waits. -/
theorem State.request_waits {s : State} {r : Nat} (hidle : (s.req r).st = .idle) (ho : s.owner ≠ none) :
    (s.startWait r).arbitrate = s.startWait r :=
  State.arbitrate_of_owner (by rwa [State.owner_startWait hidle])

/-- A requester that drops the port is idle, whoever has it then. -/
theorem State.req_dropped (s : State) (o : Nat) : (((s.setReq o {}).arbitrate).req o).st = .idle := by
  have hidle : ((s.setReq o {}).req o).st = .idle := by rw [State.req_setReq_same]
  obtain hsame | ⟨r, -, hr, hgrant⟩ := (s.setReq o {}).arbitrate_cases
  · rw [hsame, hidle]
  · have hne : r ≠ o := by
      rintro rfl
      exact absurd (hidle.symm.trans hr) (by decide)
    rw [hgrant, State.req_grant_ne hne, hidle]

/-- A break point at which the owner keeps its request. -/
theorem doBreakPoint_of_owner {s : State} {o : Nat} (h : s.owner = some o) :
    (∀ r, s.bestWaiter = some r → s.prio o < s.prio r → doBreakPoint false s = (s.startWait o).grant r) ∧
    ((∀ r, s.bestWaiter = some r → s.prio r ≤ s.prio o) → doBreakPoint false s = s.markPort s.mnt.last) := by
  unfold doBreakPoint
  rw [h]
  refine ⟨fun r hr hlt => ?_, fun hkeep => ?_⟩
  · simp only [hr, hlt, if_true]
    rfl
  · cases hr : s.bestWaiter with
    | none => rfl
    | some r => simp only [Nat.not_lt.2 (hkeep r hr), if_false]; rfl

/-- Settles O41, by what a request, a break point and a priority write do to the states of the requesters. -/
theorem portArbitration : Obligations.PortArbitration := by
  unfold Obligations.PortArbitration
  refine ⟨fun s r => ⟨fun hidle hmay => ?_, fun hnot => ?_⟩, fun s ho drop => ?_, fun s o ho => ⟨?_, ?_⟩, fun s r v => ⟨?_, ?_, ?_⟩⟩
  · refine ⟨_, congrArg Host.Outcome.next (if_pos ⟨hidle, hmay⟩), fun ho hw => ?_, fun ho => ?_⟩
    · rw [State.request_granted r.isLt hidle ho hw, State.req_grant_same, State.count_grant]
      exact ⟨rfl, rfl, rfl⟩
    · rw [State.request_waits hidle ho, State.req_startWait_same, State.owner_startWait hidle]
      exact ⟨rfl, rfl⟩
  · exact congrArg Host.Outcome.next (if_neg fun h => hnot.elim (fun hn => hn h.1) fun hn => by simp [hn] at h)
  · exact congrArg Host.Outcome.next (by unfold doBreakPoint; rw [ho])
  · refine ⟨_, congrArg Host.Outcome.next (a₂ := (s.setReq o {}).arbitrate) (by unfold doBreakPoint; rw [ho]; rfl), s.req_dropped o⟩
  · obtain ⟨hlose, hkeep⟩ := doBreakPoint_of_owner ho
    refine ⟨_, rfl, fun r hr hlt => ?_, fun h => hkeep h⟩
    have hne : r ≠ o := by
      rintro rfl
      exact lt_irrefl _ hlt
    rw [hlose r hr hlt, State.req_grant_same, State.req_grant_ne hne, State.req_startWait_same]
    exact ⟨rfl, rfl⟩
  · intro hs hr
    refine ⟨s.touchIdle.put Reg.MNT_REQ_PRIO v.toNat r, congrArg Host.Outcome.next ((if_pos hs).trans (if_pos hr)), ?_, ?_, rfl⟩
    · exact (State.get_put_same _ _ _ _ _).trans (Nat.mod_eq_of_lt v.isLt)
    · intro q hq hne
      refine State.get_put_ne _ _ _ _ _ _ _ _ ?_
      simp only [Field.key, Reg.MNT_REQ_PRIO]
      omega
  · exact fun hs hr => congrArg Host.Outcome.next ((if_pos hs).trans (if_neg (Nat.not_lt.2 hr)))
  · exact fun hs => congrArg Host.Outcome.next (if_neg hs)

/-! ## Fences (R301, R302) -/

/-- Taking out every member with a property leaves none. -/
theorem not_mem_diff_filter {α : Type} [DecidableEq α] {p : α → Bool} {l : List α} {x : α} (hx : x ∈ l.diff (l.filter p)) :
    p x = false := by
  by_contra hp
  have hcount := List.count_pos_iff.2 hx
  rw [List.count_diff, List.count_filter (by simpa using hp), Nat.sub_self] at hcount
  exact lt_irrefl _ hcount

theorem State.rows_cancelSet (s : State) (r : Row) : (s.cancelSet r).rows = s.rows.erase r :=
  (State.toClear_within.same .rows : (s.setRows (s.rows.erase r)).rows = _).symm

theorem State.rows_foldl_cancelSet (s : State) (l : List Row) : (l.foldl State.cancelSet s).rows = s.rows.diff l := by
  induction l generalizing s with
  | nil => simp
  | cons r l ih => rw [List.foldl_cons, ih, State.rows_cancelSet, List.diff_cons]

/-- No prepared flip of the requester is left. -/
theorem State.rows_cancelPrepared (s : State) (r : Nat) : ∀ x ∈ (s.cancelPrepared r).rows, ¬(x.st = .set ∧ x.maker = r) := by
  have hrows : (s.cancelPrepared r).rows = s.rows.diff (s.rows.filter fun x => x.st == .set && x.maker == r) := by
    rw [← State.rows_foldl_cancelSet]
    unfold State.cancelPrepared
    dsimp only
    split <;> rfl
  intro x hx
  rintro ⟨hset, hmaker⟩
  have hnot := not_mem_diff_filter (hrows ▸ hx)
  simp [hset, hmaker] at hnot

/-- A requester that does not wait stays as it is while the port is arbitrated. -/
theorem State.req_arbitrate_of_not_waiting {s : State} {r : Nat} (h : (s.req r).st ≠ .waiting) : s.arbitrate.req r = s.req r := by
  obtain hsame | ⟨q, -, hq, hgrant⟩ := s.arbitrate_cases
  · rw [hsame]
  · have hne : q ≠ r := by
      rintro rfl
      exact h hq
    rw [hgrant, State.req_grant_ne hne]

theorem State.req_eq_of_mnt {s t : State} (h : s.mnt = t.mnt) (r : Nat) : t.req r = s.req r :=
  congrArg (fun m : Mnt => fgetD m.reqs r {}) h.symm

/-- The part of a fence before the port is arbitrated. -/
def State.fenced (s : State) (r : Nat) : State :=
  let u := ((s.countWait r).setReq r { st := .fenced }).cancelPrepared r
  let v := if r = 0 then u.fenceEngine else u
  if v.mode = .startUp then
    (if r = 3 ∧ v.get Reg.BOOT_STATUS_STEP = 8 then v.haltStart 6
     else if r = 11 ∧ v.get Reg.BOOT_STATUS_STEP = 7 then v.haltStart 7 else v)
  else v

theorem State.fenceReq_eq (s : State) (r : Nat) :
    s.fenceReq r = if s.owner == some r then (s.fenced r).arbitrate else s.fenced r := rfl

/-- The fence of requester 0 alone touches the command engine. -/
theorem State.fenced_within_host (s : State) (r : Nat) :
    Within [.regs] (let u := ((s.countWait r).setReq r { st := .fenced }).cancelPrepared r; if r = 0 then u.fenceEngine else u)
      (s.fenced r) := by
  unfold State.fenced
  exact Within.ite (Within.ite (Within.refl.step State.haltStart_within) (Within.ite (Within.refl.step State.haltStart_within) .refl)) .refl

theorem State.rows_fenced (s : State) (r : Nat) : ∀ x ∈ (s.fenced r).rows, ¬(x.st = .set ∧ x.maker = r) := by
  have hrows : (((s.countWait r).setReq r { st := .fenced }).cancelPrepared r).rows = (s.fenced r).rows := by
    refine Eq.trans ?_ ((s.fenced_within_host r).same .rows)
    split
    · exact State.fenceEngine_within.same .rows
    · rfl
  exact hrows ▸ State.rows_cancelPrepared _ r

theorem State.req_fenced (s : State) (r : Nat) : ((s.fenced r).req r).st = .fenced := by
  have hmnt : (((s.countWait r).setReq r { st := .fenced }).cancelPrepared r).mnt = (s.fenced r).mnt := by
    refine Eq.trans ?_ ((s.fenced_within_host r).same .mnt)
    split
    · exact State.fenceEngine_within.same .mnt
    · rfl
  have hreq : ((s.countWait r).setReq r { st := .fenced }).mnt = (s.fenced r).mnt :=
    (State.cancelPrepared_within.same .mnt).trans hmnt
  rw [State.req_eq_of_mnt hreq, State.req_setReq_same]

/-- A fenced requester owns nothing and has prepared nothing (R301). -/
theorem State.fenceReq_fences (s : State) (r : Nat) :
    ((s.fenceReq r).req r).st = .fenced ∧ ∀ x ∈ (s.fenceReq r).rows, ¬(x.st = .set ∧ x.maker = r) := by
  rw [State.fenceReq_eq]
  split
  · refine ⟨?_, ?_⟩
    · rw [State.req_arbitrate_of_not_waiting (by rw [s.req_fenced r]; decide), s.req_fenced]
    · exact (State.arbitrate_within.same .rows : (s.fenced r).rows = _) ▸ s.rows_fenced r
  · exact ⟨s.req_fenced r, s.rows_fenced r⟩

/-- A command that waits while requester 0 is fenced completes FENCED (R302). -/
theorem State.fenceReq_owes {s : State} {c : Cmd} {k : Nat} (he : s.host.engine = some c) (hk : s.host.waitFrom = some k) :
    (s.fenceReq 0).owes c Sts.FENCED 0 true := by
  have hbefore : (((s.countWait 0).setReq 0 { st := .fenced }).cancelPrepared 0).host = s.host := by
    have hwithin : Within [.regs, .rows, .cur, .mnt] s (((s.countWait 0).setReq 0 { st := .fenced }).cancelPrepared 0) :=
      ((Within.refl.step State.countWait_within).step State.setReq_within).step State.cancelPrepared_within
    exact (hwithin.same .host).symm
  generalize hu : ((s.countWait 0).setReq 0 { st := .fenced }).cancelPrepared 0 = u at hbefore
  have hengine : u.fenceEngine = u.finish c Sts.FENCED := by
    unfold State.fenceEngine
    rw [hbefore, he, hk]
  have hafter : (s.fenceReq 0).host = (u.finish c Sts.FENCED).host := by
    have hfenced : (u.finish c Sts.FENCED).host = (s.fenced 0).host := by
      have hwithin := s.fenced_within_host 0
      rw [hu] at hwithin
      exact hengine ▸ hwithin.same .host
    rw [State.fenceReq_eq, hfenced]
    split
    · exact (State.arbitrate_within.same .host).symm
    · rfl
  unfold State.owes
  rw [hafter]
  exact ⟨rfl, rfl, u.host.owed, u.host.muted, rfl⟩

/-- The end of a watchdog's fence: the count, the event and the log entry leave the port and the rows. -/
theorem doWatchdogExpiry_of_owner {s : State} {r : Nat} (ho : s.owner = some r)
    (hlate : s.mnt.mark + s.get Reg.MNT_CTRL_WD_TIMEOUT * cyclesPerUs ≤ s.clock) (hm : s.mode ≠ .dormant) :
    Within [.out, .regs, .boot, .host, .cfg] (s.fenceReq r) (doWatchdogExpiry s) := by
  unfold doWatchdogExpiry
  rw [ho]
  dsimp only
  rw [if_pos ⟨hlate, hm⟩]
  exact ((Within.refl.step State.bump_within).step State.raise_within).step State.oweLog_within

theorem doStarvation_cases (s : State) (r : Fin 16) :
    let late := (s.req r).st = .waiting ∧ s.get Reg.MNT_REQ_STARVE_US r ≠ 0 ∧
      s.get Reg.MNT_REQ_STARVE_US r * cyclesPerUs < s.clock - (s.req r).since
    (late → s.flag Reg.MNT_REQ_STARVED r = false → doStarvation r s = (s.put Reg.MNT_REQ_STARVED 1 r).raise (Ev.STARVE r)) ∧
    (¬ late ∨ s.flag Reg.MNT_REQ_STARVED r = true → doStarvation r s = s) := by
  refine ⟨fun ⟨hw, hus, hlate⟩ hflag => if_pos ⟨hw, hus, hlate, hflag⟩, fun hnot => if_neg ?_⟩
  rintro ⟨hw, hus, hlate, hflag⟩
  exact hnot.elim (fun hn => hn ⟨hw, hus, hlate⟩) fun hset => Bool.noConfusion (hset.symm.trans hflag)

/-- Settles O42, by the case where each one fires and, apart from it, the case where nothing does. -/
theorem fencesOfTheMaintenancePort : Obligations.FencesOfTheMaintenancePort := by
  unfold Obligations.FencesOfTheMaintenancePort
  refine ⟨fun s r => ⟨fun hlate hflag => ?_, fun hnot => ?_⟩, fun s => ⟨fun r ho hlate hm => ?_, fun hnot => ?_⟩,
    fun s r hs => ⟨fun hr hopen => ?_, fun hnot => ?_, fun hf => ?_, fun hf => ?_⟩, fun s r hs => ⟨?_, ?_⟩⟩
  · refine ⟨_, congrArg Host.Outcome.next ((doStarvation_cases s r).1 hlate hflag), ?_, ?_⟩
    · unfold State.flag
      rw [State.get_raise_below_events, State.get_put_same]
      · rfl
      · simp only [Field.key, Reg.MNT_REQ_STARVED]
        omega
    · exact (State.raise_within.same .mnt).symm
  · exact congrArg Host.Outcome.next ((doStarvation_cases s r).2 hnot)
  · have hafter := doWatchdogExpiry_of_owner ho hlate hm
    obtain ⟨hreq, hrows⟩ := s.fenceReq_fences r
    have hst : ((doWatchdogExpiry s).req r).st = .fenced := by rw [State.req_eq_of_mnt (hafter.same .mnt), hreq]
    exact ⟨_, rfl, hst, State.ne_owner_of_st (by rw [hst]; decide), (hafter.same .rows : (s.fenceReq r).rows = _) ▸ hrows⟩
  · refine congrArg Host.Outcome.next ?_
    unfold doWatchdogExpiry
    split
    · rfl
    case _ r ho =>
      refine if_neg fun h => ?_
      obtain hn | hlate | hm := hnot
      · exact nomatch hn.symm.trans ho
      · exact absurd h.1 (Nat.not_le.2 hlate)
      · exact h.2 hm
  · have hopen' : s.touchIdle.reqFenced r = false := hopen
    have hexec : exec (.mntFence r) s = .next (s.touchIdle.fenceReq r) :=
      congrArg Host.Outcome.next ((if_pos hs).trans (if_pos ⟨hr, hopen'⟩))
    obtain ⟨hreq, hrows⟩ := s.touchIdle.fenceReq_fences r
    refine ⟨_, hexec, hreq, State.ne_owner_of_st (by rw [hreq]; decide), hrows, ?_⟩
    rintro c k rfl he hk
    exact State.fenceReq_owes he hk
  · refine congrArg Host.Outcome.next ((if_pos hs).trans (if_neg fun h => ?_))
    exact hnot.elim (fun hr => absurd h.1 (Nat.not_lt.2 hr)) fun hf => Bool.noConfusion (hf.symm.trans h.2)
  · refine ⟨_, congrArg Host.Outcome.next ((if_pos hs).trans (if_neg fun h => Bool.noConfusion (hf.symm.trans h))), ?_⟩
    dsimp only
    split
    · rw [State.req_eq_of_mnt (State.stepSwaps_within.same .mnt), State.req_setReq_same]
    · rw [State.req_setReq_same]
  · exact congrArg Host.Outcome.next ((if_pos hs).trans (if_pos hf))
  · exact congrArg Host.Outcome.next (if_neg hs)
  · exact congrArg Host.Outcome.next (if_neg hs)

end Sys2Proof.Machine
end

section
/-! PROOFS. What a reset leaves (O3). -/

namespace Sys2Proof.Machine

set_option Elab.async false

/-! ## The associated-data store and the attached memory's settings through a reset -/

theorem State.store_showHeld (s : State) : s.showHeld.wrd.store = s.wrd.store := by
  unfold State.showHeld
  exact (congrArg Wardrobe.store (State.showOutside_within.same .wrd)).symm.trans rfl

theorem State.store_commitGroup (s : State) (g : Group) (k : Tick) : (s.commitGroup g k).wrd.store = s.wrd.store := by
  unfold State.commitGroup
  dsimp only
  rw [State.store_showHeld]
  refine congrArg Wardrobe.store (Eq.symm (Within.same (w := [.out, .regs, .boot, .tables, .rows, .journal, .groups, .tallies, .lost,
    .bays, .broad, .drawers, .cur, .host, .seam]) ?_ .wrd))
  have hedits : Within [.out, .regs, .boot, .tables, .rows, .journal, .groups, .tallies, .lost, .bays, .broad, .drawers, .cur,
      .host, .seam] s (g.edits.foldl (fun (x : State) e => x.commitEdit g k e) (s.sendLater g k)) :=
    Within.foldl (fun _ _ h => h.step State.commitEdit_within) (Within.refl.step State.sendLater_within)
  refine (((Within.step ?_ State.setGroups_within).step State.bump_within).step State.showDegraded_within).step State.completeNow_within
  split
  · exact hedits.step State.setTable_within
  · exact hedits

theorem State.store_settleGroups (s : State) : s.settleGroups.wrd.store = s.wrd.store := by
  unfold State.settleGroups
  dsimp only
  generalize List.filter _ s.groups = l
  suffices h : ∀ x : State, x.wrd.store = s.wrd.store →
      (l.foldl (fun (x : State) g => x.commitGroup { g with cmd := none } s.tick.now) x).wrd.store = s.wrd.store from h _ rfl
  induction l with
  | nil => exact fun _ hx => hx
  | cons g l ih => exact fun x hx => ih _ ((State.store_commitGroup _ _ _).trans hx)

theorem State.dev_cutProgram (s : State) : s.cutProgram.cfg.dev = s.cfg.dev := by
  unfold State.cutProgram
  split
  · rfl
  · dsimp only
    split <;> rfl

/-- The state that a reset wipes keeps what is not volatile. -/
theorem State.settled_within (s : State) :
    Within [.freeCtr, .out, .mode, .regs, .boot, .tables, .rows, .journal, .groups, .tallies, .lost, .bays, .broad, .drawers, .cur,
      .wrd, .host, .seam, .cfg] s s.settleGroups.cutProgram :=
  (Within.refl.step State.settleGroups_within).step State.cutProgram_within

theorem State.wiped_left (s : State) (aon : Bool) : ResetLeft s (s.wiped aon) := by
  have hkept := s.settled_within
  have hstore : s.settleGroups.cutProgram.wrd.store = s.wrd.store :=
    (congrArg Wardrobe.store (State.cutProgram_within.same .wrd).symm).trans s.store_settleGroups
  have hdev : s.settleGroups.cutProgram.cfg.dev = s.cfg.dev :=
    s.settleGroups.dev_cutProgram.trans (congrArg Cfg.dev (State.settleGroups_within.same .cfg).symm)
  exact ⟨rfl, rfl, fun _ _ _ => rfl, rfl, rfl, rfl, rfl, rfl, rfl, rfl, rfl, rfl, rfl, rfl, rfl, rfl, rfl, rfl, rfl, rfl, rfl, rfl, rfl,
    rfl, rfl, rfl, rfl, rfl, rfl, rfl, (hkept.same .ledgerA).symm, (hkept.same .ledgerB).symm, (hkept.same .fuses).symm,
    (hkept.same .cells).symm, hdev, hstore, (hkept.same .pending).symm, (hkept.same .clock).symm⟩

theorem State.dorm_wiped (s : State) (aon : Bool) : (s.wiped aon).dorm = { aon := if aon then s.dorm.aon else {} } := by
  have hdorm : s.settleGroups.cutProgram.dorm = s.dorm := (s.settled_within.same .dorm).symm
  show ({ aon := if aon then s.settleGroups.cutProgram.dorm.aon else {} } : Dorm) = _
  rw [hdorm]

theorem Pins.watched_drop (p : Pins) (r : Rail) : (p.drop r).watched = false ∧ (p.drop r).unwatched = false := by
  cases r <;> simp [Pins.drop, Pins.watched]

/-- What a trip of the power detector leaves: the wiped state with the rails out, and without VDD_IO a reset TAP. -/
theorem doPowerDetectorTrip_eq {r : Rail} {lowNs : Nat} (h : 200 ≤ lowNs) (s : State) :
    doPowerDetectorTrip r lowNs s =
      if r = .io then { (s.wiped (r != .aon)).setPins (s.pins.drop r) with tap := {} } else (s.wiped (r != .aon)).setPins (s.pins.drop r) :=
  if_neg (Nat.not_lt.2 h)

/-- Settles O3: the state wiped by a reset has every volatile part at its reset value, by its definition. -/
theorem resetLeavesStep1AndShortPulsesAreIgnored : Obligations.ResetLeavesStep1AndShortPulsesAreIgnored := by
  unfold Obligations.ResetLeavesStep1AndShortPulsesAreIgnored
  refine ⟨⟨fun s lowNs hlong hhigh => ?_, fun s r lowNs hlong => ?_⟩, fun s r lowNs => ⟨fun hshort => ?_, fun hshort => ?_, fun hlow => ?_⟩⟩
  · have hexec : exec (.resetLAssert lowNs) s = .next ((s.wiped false).setPins { s.pins with resetL := false, pcieUp := false }) :=
      congrArg Host.Outcome.next (if_neg (by simp [hhigh, hlong]))
    exact ⟨_, hexec, s.wiped_left false, rfl, s.dorm_wiped false, (s.settled_within.same .tap).symm⟩
  · obtain ⟨hwatched, hunwatched⟩ := s.pins.watched_drop r
    refine ⟨_, congrArg Host.Outcome.next (doPowerDetectorTrip_eq hlong s), ?_⟩
    split
    case isTrue hio =>
      subst hio
      exact ⟨s.wiped_left true, rfl, hwatched, hunwatched, fun h => absurd h (by decide), fun _ => s.dorm_wiped true⟩
    case isFalse =>
      refine ⟨s.wiped_left (r != .aon), rfl, hwatched, hunwatched, ?_, fun hr => ?_⟩
      · rintro rfl
        exact s.dorm_wiped false
      · have hstay : (r != .aon) = true := by simpa using hr
        exact (s.dorm_wiped (r != .aon)).trans (by rw [hstay]; rfl)
  · exact congrArg Host.Outcome.next (if_pos (.inl hshort))
  · exact congrArg Host.Outcome.next (if_pos hshort)
  · exact congrArg Host.Outcome.next (if_pos (.inr hlow))

end Sys2Proof.Machine
end

section
/-! PROOFS. The fields that an operation may write: every other field below the event registers reads the same after it. -/

namespace Sys2Proof.Machine

set_option Elab.async false

/-- From s to t no field below the event registers changes but those at the places listed. -/
def Writes (ks : List Nat) (s t : State) : Prop :=
  ∀ (F : Field) (i j : Nat), F.key i j < 8 * 0x150000 → F.key i j ∉ ks → t.get F i j = s.get F i j

namespace Writes

variable {ks ls : List Nat} {s t u : State}

theorem refl : Writes ks s s := fun _ _ _ _ _ => rfl

theorem trans (h : Writes ks s t) (k : Writes ks t u) : Writes ks s u :=
  fun F i j hb hk => (k F i j hb hk).trans (h F i j hb hk)

theorem mono (h : Writes ls s t) (hl : ls ⊆ ks) : Writes ks s t := fun F i j hb hk => h F i j hb fun hm => hk (hl hm)

/-- One operation more, whose places are among those listed. -/
theorem step (h : Writes ks s t) (k : Writes ls t u) (hl : ls ⊆ ks := by simp) : Writes ks s u := h.trans (k.mono hl)

theorem ite {c : Prop} [Decidable c] (h : Writes ks s t) (k : Writes ks s u) : Writes ks s (if c then t else u) := by
  split
  · exact h
  · exact k

/-- A field at another place reads the same. -/
theorem get (h : Writes ks s t) (F : Field) (i : Nat := 0) (j : Nat := 0) (hb : F.key i j < 8 * 0x150000 := by decide)
    (hk : F.key i j ∉ ks := by decide) : t.get F i j = s.get F i j := h F i j hb hk

theorem flag (h : Writes ks s t) (F : Field) (i : Nat := 0) (j : Nat := 0) (hb : F.key i j < 8 * 0x150000 := by decide)
    (hk : F.key i j ∉ ks := by decide) : t.flag F i j = s.flag F i j := congrArg (· == 1) (h F i j hb hk)

/-- An operation that leaves the registers writes no field. -/
theorem of_regs (h : s.regs = t.regs) : Writes ks s t := fun F i j _ _ => by
  unfold State.get
  rw [h]

theorem of_within {w : List Part} (h : Within w s t) (hw : Part.regs ∉ w := by decide) : Writes ks s t := of_regs (h.same .regs hw)

theorem put (F : Field) (v i j : Nat) : Writes [F.key i j] s (s.put F v i j) := fun G a b _ hk =>
  State.get_put_ne s F G v i j a b fun h => hk (List.mem_singleton.2 h.symm)

theorem putB (F : Field) (v : Bool) (i j : Nat) : Writes [F.key i j] s (s.putB F v i j) := put F _ i j

theorem bump (F : Field) (n i j : Nat) : Writes [F.key i j] s (s.bump F n i j) := put F _ i j

theorem raise (n : Nat) : Writes [] s (s.raise n) := fun F i j hb _ => State.get_raise_below_events s n F i j hb

theorem raiseEp (n key : Nat) : Writes [] s (s.raiseEp n key) := by
  unfold State.raiseEp
  exact ite (of_regs rfl) ((of_regs rfl : Writes [] s _).trans (raise n))

theorem raiseRate (n : Nat) : Writes [] s (s.raiseRate n) := by
  unfold State.raiseRate
  split
  · exact ite .refl ((of_regs rfl : Writes [] s _).trans (raise n))
  · exact (of_regs rfl : Writes [] s _).trans (raise n)

theorem setRaise (F : Field) (n : Nat) : Writes [F.key] s (s.setRaise F n) := (put F 1 0 0).step (raise n)

end Writes

end Sys2Proof.Machine
end

section
/-! PROOFS. The tick: the settings of a re-timing (O8) and the sources (O7). -/

namespace Sys2Proof.Machine

set_option Elab.async false

/-! ## What the status operations of the tick unit write -/

theorem State.get_setBlock_same (s : State) (c : Nat) (o : Bool) (hc : c < 16) : (s.setBlock c o).get Reg.TCK_STATUS_BLOCK = c := by
  have hput : ((s.put Reg.TCK_STATUS_BLOCK c).putB Reg.TCK_STATUS_ADMIT_OPEN o).get Reg.TCK_STATUS_BLOCK = c := by
    rw [(Writes.putB Reg.TCK_STATUS_ADMIT_OPEN o 0 0).get Reg.TCK_STATUS_BLOCK, State.get_put_same]
    exact Nat.mod_eq_of_lt hc
  unfold State.setBlock
  dsimp only
  split
  · exact ((Writes.raise Ev.ADMIT_BLOCKED).get Reg.TCK_STATUS_BLOCK).trans hput
  · exact hput

theorem State.setBlock_writes (s : State) (c : Nat) (o : Bool) :
    Writes [Reg.TCK_STATUS_BLOCK.key, Reg.TCK_STATUS_ADMIT_OPEN.key] s (s.setBlock c o) := by
  have hput : Writes [Reg.TCK_STATUS_BLOCK.key, Reg.TCK_STATUS_ADMIT_OPEN.key] s
      ((s.put Reg.TCK_STATUS_BLOCK c).putB Reg.TCK_STATUS_ADMIT_OPEN o) :=
    (Writes.refl.step (Writes.put Reg.TCK_STATUS_BLOCK c 0 0)).step (Writes.putB Reg.TCK_STATUS_ADMIT_OPEN o 0 0)
  unfold State.setBlock
  exact Writes.ite (hput.step (Writes.raise _)) hput

theorem State.reblock_writes (s : State) : Writes [Reg.TCK_STATUS_BLOCK.key, Reg.TCK_STATUS_ADMIT_OPEN.key] s s.reblock := by
  unfold State.reblock
  exact Writes.ite .refl (s.setBlock_writes _ _)

theorem State.showLatency_writes (s : State) : Writes [Reg.TCK_LATENCY_SPAN.key, Reg.TCK_LATENCY_LMIN.key] s s.showLatency := by
  unfold State.showLatency
  exact (Writes.refl.step (Writes.put _ _ 0 0)).step (Writes.put _ _ 0 0)

theorem State.checkSettle_writes (s : State) : Writes [Reg.SEAM_STATUS_SMIN.key, Reg.SEAM_STATUS_S_SHORT.key] s s.checkSettle := by
  unfold State.checkSettle
  have hput := (Writes.refl (ks := [Reg.SEAM_STATUS_SMIN.key, Reg.SEAM_STATUS_S_SHORT.key]) (s := s)).step
    (Writes.put Reg.SEAM_STATUS_SMIN (min s.settleMin 31) 0 0)
  exact Writes.ite .refl (Writes.ite (hput.step (Writes.setRaise _ _)) hput)

theorem State.setTick_writes (s : State) (t : TickUnit) : Writes [] s (s.setTick t) := .of_regs rfl

theorem State.tick_reblock (s : State) : s.reblock.tick = s.tick := (State.reblock_within.same .tick).symm

/-! ## Setting writes (R45) -/

/-- While a re-timing is under way in service state, it is what keeps admission closed. -/
theorem State.blockCause_of_retime {s : State} (hm : s.mode = .service) (hr : s.tick.retime.isSome = true) : s.blockCause = 4 := by
  simp [State.blockCause, hm, hr]

theorem State.tick_addRetime (s : State) (f : Retime → Retime) :
    (s.addRetime f).tick = { s.tick with retime := some (f (s.tick.retime.getD {})), applied := false } := State.tick_reblock _

theorem State.addRetime_writes (s : State) (f : Retime → Retime) :
    Writes [Reg.TCK_STATUS_BLOCK.key, Reg.TCK_STATUS_ADMIT_OPEN.key] s (s.addRetime f) :=
  (Writes.refl.step (State.setTick_writes _ _)).step (State.reblock_writes _)

theorem State.blockCause_addRetime {s : State} (f : Retime → Retime) (hm : s.mode = .service) : (s.addRetime f).blockCause = 4 := by
  apply State.blockCause_of_retime
  · exact (State.addRetime_within.same .mode).symm.trans hm
  · rw [State.tick_addRetime]
    rfl

theorem State.get_block_addRetime {s : State} (f : Retime → Retime) (hm : s.mode = .service) (hopen : s.tick.open_ = false) :
    (s.addRetime f).get Reg.TCK_STATUS_BLOCK = 4 := by
  have hcause : (s.setTick { s.tick with retime := some (f (s.tick.retime.getD {})), applied := false }).blockCause = 4 :=
    State.blockCause_of_retime hm rfl
  unfold State.addRetime State.reblock
  rw [if_neg (by simp [State.setTick, hopen]), hcause, State.get_setBlock_same _ _ _ (by decide)]

theorem doTickSettingWrite_of_new {s : State} {t : TickSetting} (hok : s.settingOk t = true)
    (hnew : s.settingHeld t = false ∨ s.tick.retime.isSome = true) : doTickSettingWrite t s = s.addRetime (TickSetting.into t) := by
  unfold doTickSettingWrite
  rw [if_neg (by simp [hok]), if_neg]
  rintro ⟨hheld, hnone⟩
  rcases hnew with hfree | hsome
  · exact Bool.noConfusion (hfree.symm.trans hheld)
  · simp [Option.isNone_iff_eq_none.1 hnone] at hsome

theorem doTickSettingWrite_of_held {s : State} {t : TickSetting} (hok : s.settingOk t = true) (hheld : s.settingHeld t = true)
    (hnone : s.tick.retime = none) : doTickSettingWrite t s = s := by
  unfold doTickSettingWrite
  rw [if_neg (by simp [hok]), if_pos ⟨hheld, by rw [hnone]; rfl⟩]

/-! ## The settings of a re-timing -/

/-- A setting stored where the re-timing has it. -/
def State.putOpt (s : State) (F : Field) (o : Option Nat) : State := o.elim s (s.put F)

theorem State.get_putOpt (s : State) (F : Field) {o : Option Nat} {n : Nat} (ho : o = some n) (hn : n < 2 ^ F.width) :
    (s.putOpt F o).get F = n := by
  subst ho
  exact (State.get_put_same ..).trans (Nat.mod_eq_of_lt hn)

theorem State.putOpt_writes (s : State) (F : Field) (o : Option Nat) : Writes [F.key] s (s.putOpt F o) := by
  cases o with
  | none => exact .refl
  | some v => exact Writes.put F v 0 0

/-- A truth value as a setting of a one-bit field. -/
def bitOpt (o : Option Bool) : Option Nat := o.map fun b => if b then 1 else 0

theorem State.retimeFields_eq (s : State) (r : Retime) :
    s.retimeFields r = ((((s.putOpt Reg.TCK_PERIOD_PERIOD r.period).putOpt Reg.TCK_GUARD_GUARD r.guard).putOpt Reg.TCK_LATENCY_L
      r.latency).putOpt Reg.SEAM_CTRL_RELEASE (bitOpt r.release)).putOpt Reg.SEAM_CTRL_S r.settle := by
  obtain ⟨src, period, guard, latency, release, settle, join⟩ := r
  cases period <;> cases guard <;> cases latency <;> cases release <;> cases settle <;> rfl

theorem State.retimeSource_writes (s : State) (o : Option Nat) :
    Writes [Reg.TCK_CTRL_SRC.key, Reg.TCK_STATUS_LOST.key, Reg.TCK_STATUS_LOCKED.key, Reg.TCK_MEAS_PMEAS.key] s (s.retimeSource o) := by
  unfold State.retimeSource
  split
  · exact Writes.ite (Writes.refl.step (Writes.put _ _ 0 0)) .refl
  case _ v =>
    have hsource : Writes [Reg.TCK_CTRL_SRC.key, Reg.TCK_STATUS_LOST.key, Reg.TCK_STATUS_LOCKED.key, Reg.TCK_MEAS_PMEAS.key] s
        (((s.put Reg.TCK_CTRL_SRC v).put Reg.TCK_STATUS_LOST 0).putB Reg.TCK_STATUS_LOCKED (v == 0)) :=
      ((Writes.refl.step (Writes.put _ _ 0 0)).step (Writes.put _ _ 0 0)).step (Writes.putB _ _ 0 0)
    exact Writes.ite ((hsource.trans (Writes.of_regs rfl)).step (Writes.put _ _ 0 0)) (hsource.trans (Writes.of_regs rfl))

theorem State.get_src_retimeSource (s : State) {n : Nat} (hn : n < 4) : (s.retimeSource (some n)).get Reg.TCK_CTRL_SRC = n := by
  have hput : (s.put Reg.TCK_CTRL_SRC n).get Reg.TCK_CTRL_SRC = n := (State.get_put_same ..).trans (Nat.mod_eq_of_lt hn)
  have hsource : Writes [Reg.TCK_STATUS_LOST.key, Reg.TCK_STATUS_LOCKED.key, Reg.TCK_MEAS_PMEAS.key] (s.put Reg.TCK_CTRL_SRC n)
      (((s.put Reg.TCK_CTRL_SRC n).put Reg.TCK_STATUS_LOST 0).putB Reg.TCK_STATUS_LOCKED (n == 0)) :=
    (Writes.refl.step (Writes.put _ _ 0 0)).step (Writes.putB _ _ 0 0)
  refine Eq.trans (Writes.get (ks := [Reg.TCK_STATUS_LOST.key, Reg.TCK_STATUS_LOCKED.key, Reg.TCK_MEAS_PMEAS.key]) ?_
    Reg.TCK_CTRL_SRC) hput
  unfold State.retimeSource
  exact Writes.ite ((hsource.trans (Writes.of_regs rfl)).step (Writes.put _ _ 0 0)) (hsource.trans (Writes.of_regs rfl))

/-- The device once the settings of a re-timing have taken effect (R45 step 3). -/
def State.retimed (s : State) (r : Retime) : State :=
  let t := (s.retimeFields r).retimeSource r.src
  (t.setTick { t.tick with retime := some { join := r.join }, applied := true, full := 0,
                           len := s.tick.len + t.period - s.period }).showLatency.checkSettle.reblock

theorem doRetimingApply_eq {s : State} {r : Retime} (hr : s.tick.retime = some r) :
    doRetimingApply s = if s.tick.applied = true ∨ s.drained = false ∨ s.tick.last ≠ s.clock then s else s.retimed r := by
  unfold doRetimingApply
  rw [hr]
  rfl

/-- What the end of a re-timing writes beside its settings. -/
theorem State.retimed_writes (s : State) (r : Retime) :
    Writes [Reg.TCK_LATENCY_SPAN.key, Reg.TCK_LATENCY_LMIN.key, Reg.SEAM_STATUS_SMIN.key, Reg.SEAM_STATUS_S_SHORT.key,
      Reg.TCK_STATUS_BLOCK.key, Reg.TCK_STATUS_ADMIT_OPEN.key] ((s.retimeFields r).retimeSource r.src) (s.retimed r) := by
  unfold State.retimed
  exact (((Writes.refl.step (State.setTick_writes _ _)).step (State.showLatency_writes _)).step (State.checkSettle_writes _)).step
    (State.reblock_writes _)

theorem State.tick_shown (s : State) : s.showLatency.checkSettle.reblock.tick = s.tick := by
  have hwithin : Within [.out, .regs, .boot, .host] s s.showLatency.checkSettle.reblock :=
    ((Within.refl.step State.showLatency_within).step State.checkSettle_within).step State.reblock_within
  exact (hwithin.same .tick).symm

theorem State.tick_retimed (s : State) (r : Retime) :
    (s.retimed r).tick.applied = true ∧ (s.retimed r).tick.full = 0 ∧ (s.retimed r).tick.retime = some { join := r.join } := by
  unfold State.retimed
  rw [State.tick_shown]
  exact ⟨rfl, rfl, rfl⟩

/-- After the plain settings, what is written until the re-timing is over. -/
theorem State.retimed_writes_fields (s : State) (r : Retime) :
    Writes [Reg.TCK_CTRL_SRC.key, Reg.TCK_STATUS_LOST.key, Reg.TCK_STATUS_LOCKED.key, Reg.TCK_MEAS_PMEAS.key,
      Reg.TCK_LATENCY_SPAN.key, Reg.TCK_LATENCY_LMIN.key, Reg.SEAM_STATUS_SMIN.key, Reg.SEAM_STATUS_S_SHORT.key,
      Reg.TCK_STATUS_BLOCK.key, Reg.TCK_STATUS_ADMIT_OPEN.key] (s.retimeFields r) (s.retimed r) :=
  (Writes.refl.step (State.retimeSource_writes _ _)).step (State.retimed_writes s r)

theorem State.get_retimed_period {s : State} {r : Retime} {n : Nat} (h : r.period = some n) (hn : n < 2 ^ 21) :
    (s.retimed r).get Reg.TCK_PERIOD_PERIOD = n := by
  rw [(s.retimed_writes_fields r).get Reg.TCK_PERIOD_PERIOD, State.retimeFields_eq, (State.putOpt_writes _ _ _).get Reg.TCK_PERIOD_PERIOD, (State.putOpt_writes _ _ _).get Reg.TCK_PERIOD_PERIOD,
    (State.putOpt_writes _ _ _).get Reg.TCK_PERIOD_PERIOD, (State.putOpt_writes _ _ _).get Reg.TCK_PERIOD_PERIOD, State.get_putOpt _ _ h hn]

theorem State.get_retimed_guard {s : State} {r : Retime} {n : Nat} (h : r.guard = some n) (hn : n < 2 ^ 7) :
    (s.retimed r).get Reg.TCK_GUARD_GUARD = n := by
  rw [(s.retimed_writes_fields r).get Reg.TCK_GUARD_GUARD, State.retimeFields_eq, (State.putOpt_writes _ _ _).get Reg.TCK_GUARD_GUARD, (State.putOpt_writes _ _ _).get Reg.TCK_GUARD_GUARD,
    (State.putOpt_writes _ _ _).get Reg.TCK_GUARD_GUARD, State.get_putOpt _ _ h hn]

theorem State.get_retimed_latency {s : State} {r : Retime} {n : Nat} (h : r.latency = some n) (hn : n < 2 ^ 5) :
    (s.retimed r).get Reg.TCK_LATENCY_L = n := by
  rw [(s.retimed_writes_fields r).get Reg.TCK_LATENCY_L, State.retimeFields_eq, (State.putOpt_writes _ _ _).get Reg.TCK_LATENCY_L, (State.putOpt_writes _ _ _).get Reg.TCK_LATENCY_L,
    State.get_putOpt _ _ h hn]

theorem State.flag_retimed_release {s : State} {r : Retime} {b : Bool} (h : r.release = some b) :
    (s.retimed r).flag Reg.SEAM_CTRL_RELEASE = b := by
  have hopt : bitOpt r.release = some (if b then 1 else 0) := congrArg bitOpt h
  rw [(s.retimed_writes_fields r).flag Reg.SEAM_CTRL_RELEASE, State.retimeFields_eq,
    (State.putOpt_writes _ _ _).flag Reg.SEAM_CTRL_RELEASE, State.flag,
    State.get_putOpt _ _ hopt (by cases b <;> decide)]
  cases b <;> rfl

theorem State.get_retimed_settle {s : State} {r : Retime} {n : Nat} (h : r.settle = some n) (hn : n < 2 ^ 5) :
    (s.retimed r).get Reg.SEAM_CTRL_S = n := by
  rw [(s.retimed_writes_fields r).get Reg.SEAM_CTRL_S, State.retimeFields_eq, State.get_putOpt _ _ h hn]

theorem State.get_retimed_src {s : State} {r : Retime} {n : Nat} (h : r.src = some n) (hn : n < 4) :
    (s.retimed r).get Reg.TCK_CTRL_SRC = n := by
  rw [(s.retimed_writes r).get Reg.TCK_CTRL_SRC, h, State.get_src_retimeSource _ hn]

/-- Settles O8, by what a re-timing under way holds, and by the fields that its application writes. -/
theorem retimingTakesSettings : Obligations.RetimingTakesSettings := by
  unfold Obligations.RetimingTakesSettings
  refine ⟨fun s t hm hok => ⟨fun hnew => ?_, fun hheld hnone => ?_⟩, fun s r hr hopen => ⟨fun hdrained hlast => ?_, fun hnot => ?_⟩⟩
  · have hexec : exec (.tickSettingWrite t) s = .next (s.touchIdle.addRetime (TickSetting.into t)) :=
      congrArg Host.Outcome.next ((if_pos hm).trans (doTickSettingWrite_of_new hok hnew))
    refine ⟨_, hexec, ?_, ?_, State.blockCause_addRetime (s := s.touchIdle) _ hm,
      State.get_block_addRetime (s := s.touchIdle) _ hm, fun F hF => ?_⟩
    · rw [State.tick_addRetime]
      rfl
    · rw [State.tick_addRetime]
    · have hwrites := s.touchIdle.addRetime_writes (TickSetting.into t)
      simp only [List.mem_cons, List.not_mem_nil, or_false] at hF
      rcases hF with rfl | rfl | rfl | rfl
      · exact hwrites.get Reg.TCK_CTRL_SRC
      · exact hwrites.get Reg.TCK_PERIOD_PERIOD
      · exact hwrites.get Reg.TCK_GUARD_GUARD
      · exact hwrites.get Reg.TCK_LATENCY_L
  · have hexec : doTickSettingWrite t s.touchIdle = s.touchIdle := doTickSettingWrite_of_held hok hheld hnone
    exact congrArg Host.Outcome.next ((if_pos hm).trans hexec)
  · have hexec : exec .retimingApply s = .next (s.retimed r) :=
      congrArg Host.Outcome.next ((doRetimingApply_eq hr).trans (if_neg fun h => h.elim (fun h => Bool.noConfusion (hopen.symm.trans h))
        fun h => h.elim (fun h => Bool.noConfusion (hdrained.symm.trans h)) fun h => h hlast))
    obtain ⟨happlied, hfull, hretime⟩ := s.tick_retimed r
    exact ⟨_, hexec, happlied, hfull, hretime, fun _ h hn => State.get_retimed_period h hn, fun _ h hn => State.get_retimed_guard h hn,
      fun _ h hn => State.get_retimed_latency h hn, fun _ h hn => State.get_retimed_src h hn, fun _ h => State.flag_retimed_release h,
      fun _ h hn => State.get_retimed_settle h hn⟩
  · refine congrArg Host.Outcome.next ((doRetimingApply_eq hr).trans (if_pos (.inr ?_)))
    exact hnot

end Sys2Proof.Machine
end

section
/-! PROOFS. The sources of the tick: the external one (R38 to R43) and the markers of the follower (R44), for O7. -/

namespace Sys2Proof.Machine

set_option Elab.async false

theorem State.eq_of_same {s t : State} (h : ∀ p, Same p s t) : s = t := by
  cases s
  cases t
  simp only [State.mk.injEq]
  exact ⟨h .pending, h .clock, h .freeCtr, h .out, h .mode, h .pins, h .fuses, h .tap, h .regs, h .boot, h .ledgerA, h
    .ledgerB, h .dorm, h .tick, h .ports, h .planned, h .chans, h .sites, h .rpt, h .rptPend, h .shadow, h .tables, h
    .rows, h .cells, h .faults, h .journal, h .groups, h .tallies, h .learnLog, h .lost, h .lossList, h .bays, h .broad, h
    .baysBefore, h .broadBefore, h .drawers, h .cabs, h .acts, h .cur, h .wrd, h .mnt, h .host, h .seam, h .csc, h .cfg⟩

/-- A state is known by what stayed and by the parts that may have changed. -/
theorem Within.eq_update {w : List Part} {s t u : State} (h : Within w s t) (hu : Within w s u)
    (hw : ∀ p ∈ w, Same p t u := by simp [Same]) : t = u :=
  State.eq_of_same fun p => by
    by_cases hp : p ∈ w
    · exact hw p hp
    · have hst := h.same p hp
      have hsu := hu.same p hp
      cases p <;> exact hst.symm.trans hsu

theorem State.get_put_of_lt (s : State) (F : Field) (v i j : Nat) (hv : v < 2 ^ F.width) : (s.put F v i j).get F i j = v :=
  (State.get_put_same ..).trans (Nat.mod_eq_of_lt hv)

/-! ## The edge before it is measured, tracked or watched -/

/-- An edge too close to the last one is counted first (R43). -/
def State.edgeSeen (s : State) : State := if s.tick.lastEdge ≠ 0 ∧ s.clock - s.tick.lastEdge < 32 then s.earlyEdge else s

theorem State.earlyEdge_writes (s : State) : Writes [Reg.TCK_CNT_EARLY_COUNT.key] s s.earlyEdge :=
  (Writes.bump Reg.TCK_CNT_EARLY_COUNT 1 0 0).step (Writes.raiseRate _)

theorem State.edgeSeen_writes (s : State) : Writes [Reg.TCK_CNT_EARLY_COUNT.key] s s.edgeSeen := Writes.ite s.earlyEdge_writes .refl

theorem State.edgeSeen_within (s : State) : Within [.out, .regs, .boot, .host] s s.edgeSeen := by
  unfold State.edgeSeen
  exact Within.ite (Within.refl.step State.earlyEdge_within) .refl

theorem State.tick_edgeSeen (s : State) : s.edgeSeen.tick = s.tick := (s.edgeSeen_within.same .tick).symm

theorem State.clock_edgeSeen (s : State) : s.edgeSeen.clock = s.clock := (s.edgeSeen_within.same .clock).symm

/-- What an edge does in service state under the external source. -/
theorem doTickReferenceEdge_eq {s : State} (hm : s.mode = .service) (hsrc : s.get Reg.TCK_CTRL_SRC = 1) :
    ∃ u, doTickReferenceEdge s = u.setTick { u.tick with lastEdge := s.clock } ∧
      (s.flag Reg.TCK_STATUS_LOCKED = false → u = s.edgeSeen.measureEdge) ∧
      (s.flag Reg.TCK_STATUS_LOCKED = true → s.flag Reg.TCK_STATUS_LOST = true → u = s.edgeSeen.watchEdge) ∧
      (s.flag Reg.TCK_STATUS_LOCKED = true → s.flag Reg.TCK_STATUS_LOST = false →
        ((s.clock : Int) - s.tick.expected).natAbs ≤ 2 → u = s.trackEdge) := by
  refine ⟨_, if_neg (by simp [hm, hsrc]), fun h => if_pos h, fun h hlost => ?_, fun h hlost hnear => ?_⟩
  · exact (if_neg (by simp [h])).trans (if_pos hlost)
  · exact (if_neg (by simp [h])).trans ((if_neg (by simp [hlost])).trans (if_neg fun hfar => Nat.not_lt.2 hnear hfar.2.2))

/-! ## Measuring (R38) -/

theorem State.measureEdge_few {s : State} (h : s.tick.edges.length < 2) :
    s.measureEdge = s.setTick { s.tick with edges := s.tick.edges ++ [s.clock] } := by
  unfold State.measureEdge
  split
  case _ a b c habc =>
    have hlen := congrArg List.length habc
    simp only [List.length_append, List.length_cons, List.length_nil] at hlen
    omega
  · rfl

theorem State.measureEdge_third {s : State} {a b : Nat} (h : s.tick.edges = [a, b]) (hp : periodOk ((s.clock - a) / 2 - 2) = true) :
    s.measureEdge = s.lockSource a ((s.clock - a) / 2 - 2) := by
  unfold State.measureEdge
  rw [h]
  exact if_pos hp

theorem lt_of_periodOk {p : Nat} (h : periodOk p = true) : p < 2 ^ 21 := by
  simp only [periodOk, Bool.and_eq_true, decide_eq_true_eq] at h
  omega

/-- A source that has been measured is locked at the measured period. -/
theorem State.lockSource_locks (s : State) (e0 p : Nat) (hp : p < 2 ^ 21) :
    (s.lockSource e0 p).flag Reg.TCK_STATUS_LOCKED = true ∧ (s.lockSource e0 p).period = p ∧ (s.lockSource e0 p).tick.e0 = e0 ∧
      (s.lockSource e0 p).tick.expected = s.clock + p := by
  unfold State.lockSource State.period State.flag
  refine ⟨?_, ?_, rfl, rfl⟩
  · rw [(State.showLatency_writes _).get Reg.TCK_STATUS_LOCKED, (Writes.put Reg.TCK_STATUS_LOST 0 0 0).get Reg.TCK_STATUS_LOCKED,
      State.get_put_same]
    rfl
  · rw [(State.showLatency_writes _).get Reg.TCK_MEAS_PMEAS, (Writes.put Reg.TCK_STATUS_LOST 0 0 0).get Reg.TCK_MEAS_PMEAS,
      (Writes.put Reg.TCK_STATUS_LOCKED 1 0 0).get Reg.TCK_MEAS_PMEAS, (Writes.put Reg.TCK_MEAS_OFFSET 0 0 0).get Reg.TCK_MEAS_PMEAS,
      State.get_put_of_lt _ _ _ _ _ hp]

/-! ## Tracking (R38, R39) -/

theorem State.refine_frame (s : State) :
    s.refine = { s with tick := s.refine.tick, regs := s.refine.regs } ∧
      s.refine.tick.misses = s.tick.misses ∧ s.refine.tick.k = s.tick.k ∧ s.refine.tick.lastEdge = s.tick.lastEdge := by
  unfold State.refine
  split
  · exact ⟨rfl, rfl, rfl, rfl⟩
  · exact ⟨rfl, rfl, rfl, rfl⟩

theorem State.landEdge_frame (s : State) :
    s.landEdge = { s with tick := s.landEdge.tick } ∧ s.landEdge.tick.misses = s.tick.misses ∧ s.landEdge.tick.k = s.tick.k ∧
      s.landEdge.tick.expected = s.tick.expected := by
  unfold State.landEdge
  split
  · exact ⟨rfl, rfl, rfl, rfl⟩
  · exact ⟨rfl, rfl, rfl, rfl⟩

theorem State.trackEdge_near_within {s : State} (h : ((s.clock : Int) - s.tick.expected).natAbs ≤ 2) :
    Within [.regs, .tick] s s.trackEdge := by
  unfold State.trackEdge
  dsimp only
  rw [if_pos h]
  exact ((((Within.refl.step State.setTick_within).step State.refine_within).step State.setTick_within).step
    State.showOffset_within).step State.landEdge_within

/-- An edge near its expected place. -/
theorem State.trackEdge_near {s : State} (h : ((s.clock : Int) - s.tick.expected).natAbs ≤ 2) :
    s.trackEdge.tick.misses = 0 ∧ s.trackEdge.tick.k = s.tick.k + 1 ∧
      s.trackEdge.tick.expected = s.tick.expected + s.trackEdge.period := by
  unfold State.trackEdge
  extract_lets d _ t u
  rw [if_pos h]
  obtain ⟨hframe, hmisses, hk, -⟩ := t.refine_frame
  obtain ⟨lframe, lmisses, lk, lexpected⟩ := (u.setTick { u.tick with expected := s.tick.expected + u.period }).showOffset.landEdge_frame
  have hperiod : (u.setTick { u.tick with expected := s.tick.expected + u.period }).showOffset.landEdge.period = u.period := by
    have hregs := congrArg State.regs lframe
    have hput : (u.setTick { u.tick with expected := s.tick.expected + u.period }).showOffset.period = u.period :=
      (Writes.put Reg.TCK_MEAS_OFFSET _ 0 0).get Reg.TCK_MEAS_PMEAS
    exact ((Writes.of_regs hregs.symm : Writes [] _ _).get Reg.TCK_MEAS_PMEAS).trans hput
  exact ⟨lmisses.trans hmisses, lk.trans hk, lexpected.trans (by rw [hperiod]; rfl)⟩

/-! ## Watching a lost source (R42) -/

theorem State.watchEdge_third {s : State} {a b : Nat} (h : s.tick.watch = [a, b]) (hab : near (b - a) s.period = true)
    (hbc : near (s.clock - b) s.period = true) : s.watchEdge = s.reacquire a := by
  unfold State.watchEdge
  rw [h]
  exact if_pos (by rw [hab, hbc]; rfl)

/-- Reacquisition ends the loss. -/
theorem State.reacquire_ends (s : State) (e0 : Nat) :
    (s.reacquire e0).flag Reg.TCK_STATUS_LOST = false ∧ (s.reacquire e0).tick.lossClosed = false ∧ (s.reacquire e0).tick.watch = [] := by
  unfold State.reacquire
  extract_lets p n t
  rw [State.tick_reblock, State.flag, (State.reblock_writes _).get Reg.TCK_STATUS_LOST,
    (Writes.put Reg.TCK_MEAS_OFFSET 0 0 0).get Reg.TCK_STATUS_LOST, State.get_put_same]
  exact ⟨rfl, rfl, rfl⟩

/-! ## Missed edges and silence (R40, R41, R43) -/

/-- A miss that does not lose the source. -/
def State.missed (s : State) : State :=
  let t := (s.bump Reg.TCK_CNT_MISSED_COUNT).setTick { s.tick with misses := s.tick.misses + 1, k := s.tick.k + 1,
                                                                    expected := s.tick.expected + s.period }
  if s.get Reg.TCK_CTRL_SRC = 2 then (t.setTick { t.tick with await := false }).missSeam else t

theorem State.missed_regs (s : State) : s.missed.regs = (s.bump Reg.TCK_CNT_MISSED_COUNT).regs ∧
    s.missed.tick.misses = s.tick.misses + 1 ∧ s.missed.tick.expected = s.tick.expected + s.period := by
  unfold State.missed State.missSeam
  dsimp only
  split
  · split
    · exact ⟨rfl, rfl, rfl⟩
    · exact ⟨rfl, rfl, rfl⟩
  · exact ⟨rfl, rfl, rfl⟩

theorem doMissedEdge_eq {s : State} (hm : s.mode = .service) (hsrc : s.get Reg.TCK_CTRL_SRC ≠ 0)
    (hlocked : s.flag Reg.TCK_STATUS_LOCKED = true) :
    doMissedEdge s = if s.flag Reg.TCK_STATUS_LOST = false ∧ s.lossLimit ≤ s.tick.misses + 1 then s.missed.loseSource else s.missed := by
  rw [← (s.missed_regs).2.1]
  exact if_neg (by simp [hm, hsrc, hlocked])

theorem State.loseSource_writes (s : State) :
    Writes [Reg.TCK_STATUS_LOST.key, Reg.TCK_STATUS_BLOCK.key, Reg.TCK_STATUS_ADMIT_OPEN.key] s s.loseSource := by
  unfold State.loseSource
  exact (((Writes.refl.step (Writes.put _ _ 0 0)).step (Writes.raise _)).step (State.setTick_writes _ _)).step (State.reblock_writes _)

theorem State.loseSource_loses (s : State) : s.loseSource.flag Reg.TCK_STATUS_LOST = true := by
  unfold State.loseSource State.flag
  dsimp only
  rw [(State.reblock_writes _).get Reg.TCK_STATUS_LOST, (State.setTick_writes _ _).get Reg.TCK_STATUS_LOST,
    (Writes.raise _).get Reg.TCK_STATUS_LOST, State.get_put_same]
  rfl

theorem State.tick_loseSource (s : State) : s.loseSource.tick.misses = s.tick.misses ∧ s.loseSource.tick.expected = s.tick.expected := by
  have hraise : ((s.put Reg.TCK_STATUS_LOST 1).raise Ev.TICK_LOST).tick = s.tick :=
    (State.raise_within.same .tick : (s.put Reg.TCK_STATUS_LOST 1).tick = _).symm
  unfold State.loseSource
  dsimp only
  rw [State.tick_reblock, hraise]
  exact ⟨rfl, rfl⟩

/-! ## The markers of the follower source (R44) -/

/-- What a marker of the source does. -/
theorem doTickMarker_marks {s : State} {l : Link} {f : Flit} {p : Nat} (hl : s.markerLink = some l) (hf : Lf.kind f = kTick)
    (hp : p < 2 ^ 21) :
    (doTickMarker l f p s).flag Reg.TCK_STATUS_LOCKED = true ∧ (doTickMarker l f p s).flag Reg.TCK_STATUS_LOST = false ∧
      (doTickMarker l f p s).period = p ∧ (doTickMarker l f p s).seam.missed = 0 ∧
      (doTickMarker l f p s).get Reg.TCK_CTRL_SRC = s.get Reg.TCK_CTRL_SRC ∧
      (doTickMarker l f p s).tick =
        { s.tick.trackAgain with
          marker := if (!s.flag Reg.TCK_STATUS_LOCKED && s.midTick) then none else some (Lf.tick f),
          await := !s.flag Reg.TCK_STATUS_LOCKED && s.midTick,
          fresh := s.tick.trackAgain.fresh || !s.flag Reg.TCK_STATUS_LOCKED,
          full := if (!s.flag Reg.TCK_STATUS_LOCKED) then 0 else s.tick.trackAgain.full } := by
  have hcond : ¬(s.markerLink ≠ some l ∨ Lf.kind f ≠ kTick) := by simp [hl, hf]
  unfold doTickMarker
  rw [if_neg hcond]
  extract_lets first early k t u
  have hget (F : Field) (hb : F.key < 8 * 0x150000 := by decide) (hk : F.key ∉ [Reg.TCK_LATENCY_SPAN.key, Reg.TCK_LATENCY_LMIN.key,
      Reg.TCK_STATUS_BLOCK.key, Reg.TCK_STATUS_ADMIT_OPEN.key] := by decide) :
      u.get F = (((t.put Reg.TCK_MEAS_PMEAS p).put Reg.TCK_STATUS_LOCKED 1).put Reg.TCK_STATUS_LOST 0).get F :=
    ((Writes.refl.step (State.showLatency_writes _)).step (State.reblock_writes _)).get F 0 0 hb hk
  refine ⟨?_, ?_, ?_, rfl, ?_, ?_⟩
  · show (u.get Reg.TCK_STATUS_LOCKED == 1) = true
    rw [hget Reg.TCK_STATUS_LOCKED, (Writes.put Reg.TCK_STATUS_LOST 0 0 0).get Reg.TCK_STATUS_LOCKED, State.get_put_same]
    rfl
  · show (u.get Reg.TCK_STATUS_LOST == 1) = false
    rw [hget Reg.TCK_STATUS_LOST, State.get_put_same]
    rfl
  · show u.get Reg.TCK_MEAS_PMEAS = p
    rw [hget Reg.TCK_MEAS_PMEAS, (Writes.put Reg.TCK_STATUS_LOST 0 0 0).get Reg.TCK_MEAS_PMEAS,
      (Writes.put Reg.TCK_STATUS_LOCKED 1 0 0).get Reg.TCK_MEAS_PMEAS, State.get_put_of_lt _ _ _ _ _ hp]
  · show u.get Reg.TCK_CTRL_SRC = s.get Reg.TCK_CTRL_SRC
    rw [hget Reg.TCK_CTRL_SRC, (Writes.put Reg.TCK_STATUS_LOST 0 0 0).get Reg.TCK_CTRL_SRC,
      (Writes.put Reg.TCK_STATUS_LOCKED 1 0 0).get Reg.TCK_CTRL_SRC, (Writes.put Reg.TCK_MEAS_PMEAS p 0 0).get Reg.TCK_CTRL_SRC]
    rfl
  · exact State.tick_reblock _

theorem State.src_of_markerLink {s : State} {l : Link} (h : s.markerLink = some l) : s.get Reg.TCK_CTRL_SRC = 2 := by
  by_contra hne
  simp [State.markerLink, hne] at h

/-! ## The obligation -/

/-- Settles O7: the edges of the external source by what the device knows of it, then misses, silence and markers. -/
theorem tickSources : Obligations.TickSources := by
  unfold Obligations.TickSources
  refine ⟨fun s hm hsrc => ⟨fun hlocked hfew => ?_, fun a b hlocked hedges hp => ?_, fun hlocked hlost hnear => ?_,
    fun a b hlocked hlost hwatch hab hbc => ?_⟩, ⟨fun s hm hsrc hlocked => ?_, fun s hsrc hopen => ?_⟩,
    fun s l f p hl hf hp => ?_, fun s l f p hnot => ?_⟩
  · obtain ⟨u, hu, hmeasure, -, -⟩ := doTickReferenceEdge_eq hm hsrc
    have hstay : u = s.edgeSeen.setTick { s.edgeSeen.tick with edges := s.tick.edges ++ [s.clock] } := by
      rw [hmeasure hlocked, State.measureEdge_few (by rw [s.tick_edgeSeen]; exact hfew), s.tick_edgeSeen, s.clock_edgeSeen]
    refine ⟨_, congrArg Host.Outcome.next hu, ?_, rfl, ?_⟩
    · rw [hstay]
      rfl
    · rw [hstay]
      exact (s.edgeSeen_writes.flag Reg.TCK_STATUS_LOCKED).trans hlocked
  · obtain ⟨u, hu, hmeasure, -, -⟩ := doTickReferenceEdge_eq hm hsrc
    have hlock : u = s.edgeSeen.lockSource a ((s.clock - a) / 2 - 2) := by
      rw [hmeasure hlocked, State.measureEdge_third (by rw [s.tick_edgeSeen]; exact hedges) (by rw [s.clock_edgeSeen]; exact hp),
        s.clock_edgeSeen]
    obtain ⟨hset, hperiod, he0, hexpected⟩ := s.edgeSeen.lockSource_locks a _ (lt_of_periodOk hp)
    refine ⟨_, congrArg Host.Outcome.next hu, ?_, ?_, ?_, ?_⟩
    · exact hlock ▸ hset
    · exact hlock ▸ hperiod
    · exact hlock ▸ he0
    · have hend : u.tick.expected = s.clock + u.period := by rw [hlock, hexpected, hperiod, s.clock_edgeSeen]
      exact hend
  · obtain ⟨u, hu, -, -, htrack⟩ := doTickReferenceEdge_eq hm hsrc
    obtain ⟨hmisses, hk, hexpected⟩ := State.trackEdge_near hnear
    have hstep : Within [.regs, .tick] s (s.trackEdge.setTick { s.trackEdge.tick with lastEdge := s.clock }) :=
      (State.trackEdge_near_within hnear).step State.setTick_within
    obtain rfl := htrack hlocked hlost hnear
    refine ⟨_, congrArg Host.Outcome.next hu, hmisses, hk, rfl, hexpected, ?_⟩
    exact hstep.eq_update Within.refl.upd
  · obtain ⟨u, hu, -, hwatched, -⟩ := doTickReferenceEdge_eq hm hsrc
    have hperiod : s.edgeSeen.period = s.period := s.edgeSeen_writes.get Reg.TCK_MEAS_PMEAS
    have hagain : u = s.edgeSeen.reacquire a := by
      rw [hwatched hlocked hlost, State.watchEdge_third (by rw [s.tick_edgeSeen]; exact hwatch) (by rw [hperiod]; exact hab)
        (by rw [hperiod, s.clock_edgeSeen]; exact hbc)]
    obtain ⟨hfound, hopen, hseen⟩ := s.edgeSeen.reacquire_ends a
    subst hagain
    exact ⟨_, congrArg Host.Outcome.next hu, hfound, hopen, hseen⟩
  · obtain ⟨hregs, hmisses, hexpected⟩ := s.missed_regs
    have hbumped : Writes [Reg.TCK_CNT_MISSED_COUNT.key] s s.missed := (Writes.bump _ 1 0 0).trans (.of_regs hregs.symm)
    have hcount : s.missed.get Reg.TCK_CNT_MISSED_COUNT =
        min (s.get Reg.TCK_CNT_MISSED_COUNT + 1) Reg.TCK_CNT_MISSED_COUNT.max := by
      rw [(Writes.of_regs hregs.symm : Writes [] _ _).get Reg.TCK_CNT_MISSED_COUNT, State.get_bump_same]
    refine ⟨_, congrArg Host.Outcome.next (doMissedEdge_eq hm hsrc hlocked), ?_⟩
    split
    case isTrue hlose =>
      obtain ⟨lmisses, lexpected⟩ := s.missed.tick_loseSource
      exact ⟨(s.missed.loseSource_writes.get Reg.TCK_CNT_MISSED_COUNT).trans hcount, lmisses.trans hmisses, lexpected.trans hexpected,
        fun _ _ => s.missed.loseSource_loses, fun hfew => absurd hlose.2 (Nat.not_le.2 hfew)⟩
    case isFalse hkeep =>
      exact ⟨hcount, hmisses, hexpected, fun hfound hmany => absurd ⟨hfound, hmany⟩ hkeep, fun _ => hbumped.flag Reg.TCK_STATUS_LOST⟩
  · refine ⟨_, congrArg Host.Outcome.next (if_pos ⟨hsrc, hopen⟩), rfl, ?_, rfl⟩
    unfold State.flag
    rw [State.get_put_same]
    rfl
  · obtain ⟨hlocked, hfound, hperiod, hseam, hsource, htick⟩ := doTickMarker_marks (p := p) hl hf hp
    refine ⟨_, rfl, by rw [htick]; rfl, hlocked, hfound, hperiod, hseam, fun hon => ?_, fun hfirst hmid => ?_⟩
    · have hlate : (!s.flag Reg.TCK_STATUS_LOCKED && s.midTick) = false := by
        rcases hon with h | h <;> simp [h]
      rw [hlate] at htick
      have hmarker : (doTickMarker l f p s).tick.marker = some (Lf.tick f) := by rw [htick]; rfl
      refine ⟨hmarker, ?_, by rw [htick]⟩
      unfold State.tickOpened
      rw [hmarker]
      exact if_pos (hsource.trans (State.src_of_markerLink hl))
    · have hearly : (!s.flag Reg.TCK_STATUS_LOCKED && s.midTick) = true := by simp [hfirst, hmid]
      rw [htick, hearly]
      exact ⟨rfl, rfl⟩
  · exact congrArg Host.Outcome.next (if_pos hnot)

end Sys2Proof.Machine
end

section
/-! PROOFS. The tick boundary and the admission close (O6): the boundary opens its tick, and nothing after that moves the count. -/

namespace Sys2Proof.Machine

set_option Elab.async false

/-- The tick in progress is the same one. -/
def SameTick (s t : State) : Prop := t.tick.now = s.tick.now ∧ t.tick.started = s.tick.started ∧ t.tick.last = s.tick.last

namespace SameTick

variable {s t u : State}

theorem refl : SameTick s s := ⟨rfl, rfl, rfl⟩

theorem trans (h : SameTick s t) (k : SameTick t u) : SameTick s u :=
  ⟨k.1.trans h.1, k.2.1.trans h.2.1, k.2.2.trans h.2.2⟩

theorem of_within {w : List Part} (h : Within w s t) (hw : Part.tick ∉ w := by decide) : SameTick s t := by
  have htick : s.tick = t.tick := h.same .tick hw
  rw [SameTick, htick]
  exact ⟨rfl, rfl, rfl⟩

theorem within {w : List Part} (h : SameTick s t) (k : Within w t u) (hw : Part.tick ∉ w := by decide) : SameTick s u :=
  h.trans (of_within k hw)

theorem foldl {α : Type} {f : State → α → State} {l : List α} (hf : ∀ x e, SameTick x (f x e)) : SameTick s (l.foldl f s) := by
  induction l generalizing s with
  | nil => exact refl
  | cons a l ih => exact (hf s a).trans ih

theorem ite {c : Prop} [Decidable c] (h : SameTick s t) (k : SameTick s u) : SameTick s (if c then t else u) := by
  split
  · exact h
  · exact k

end SameTick

/-! ## The operations of a boundary that change the tick unit -/

theorem State.stretch_sameTick (s : State) : SameTick s s.stretch := by
  unfold State.stretch
  exact SameTick.ite ⟨rfl, rfl, rfl⟩ .refl

theorem State.leaveFollower_sameTick (s : State) (ext : Bool) : SameTick s (s.leaveFollower ext) := by
  unfold State.leaveFollower
  exact SameTick.ite ⟨rfl, rfl, rfl⟩ (SameTick.ite ⟨rfl, rfl, rfl⟩ ⟨rfl, rfl, rfl⟩)

theorem State.survive_sameTick (s : State) : SameTick s s.survive := by
  unfold State.survive
  exact SameTick.ite (s.leaveFollower_sameTick _) ⟨rfl, rfl, rfl⟩

theorem State.detachBoundary_sameTick (s : State) : SameTick s s.detachBoundary := by
  unfold State.detachBoundary
  split
  · exact .refl
  · extract_lets t _ u v w _ x
    have hsurvive : SameTick s u := s.survive_sameTick.within State.setSeam_within
    have hgroups : SameTick u v := SameTick.foldl fun _ _ => .of_within State.abortGroup_within
    have hops : SameTick v w := (SameTick.of_within State.seamEngine_within).trans
      (SameTick.foldl fun _ _ => .of_within State.undoOp_within)
    exact (((((hsurvive.trans hgroups).trans hops).within State.setCur_within).within State.put_within).within State.bump_within).within
      State.raise_within

theorem State.applyMirrored_sameTick (s : State) (m : Mirrored) : SameTick s (s.applyMirrored m) := by
  have hripe : SameTick s (((s.dropOp m).bump Reg.SEAM_CNT_MIRROR_COUNT).ripen m.cmd) :=
    ((SameTick.refl.within State.dropOp_within).within State.bump_within).within State.ripen_within
  unfold State.applyMirrored
  dsimp only
  split
  · exact hripe.within State.applyQuota_within
  · exact hripe.within State.storeSite_within
  · refine hripe.trans ?_
    rw [SameTick, State.tick_addRetime]
    exact ⟨rfl, rfl, rfl⟩
  · exact hripe

theorem State.opsBoundary_sameTick (s : State) : SameTick s s.opsBoundary := by
  unfold State.opsBoundary
  exact (SameTick.foldl State.applyMirrored_sameTick).trans (SameTick.foldl fun _ _ => .of_within State.stagePeer_within)

theorem State.seamBoundary_sameTick (s : State) : SameTick s s.seamBoundary :=
  (s.detachBoundary_sameTick.within State.digestBoundary_within).trans (State.opsBoundary_sameTick _)

theorem State.endRetime_sameTick (s : State) : SameTick s s.endRetime := by
  unfold State.endRetime
  split
  · exact .refl
  · exact SameTick.ite ⟨rfl, rfl, rfl⟩ .refl

theorem State.openAdmission_sameTick (s : State) : SameTick s s.openAdmission :=
  (show SameTick s { s with tick := { s.tick with open_ := true }, ports := _ } from ⟨rfl, rfl, rfl⟩).within State.setBlock_within

theorem State.admission_sameTick (s : State) : SameTick s s.admission := by
  unfold State.admission
  exact SameTick.ite s.openAdmission_sameTick
    ((show SameTick s (s.setTick { s.tick with open_ := false }) from ⟨rfl, rfl, rfl⟩).within State.setBlock_within)

theorem State.closeBoundary_sameTick (s : State) (b : Boundary) : SameTick s (s.closeBoundary b) := by
  unfold State.closeBoundary
  have hgovernor := ((((SameTick.refl (s := s)).within State.settleControl_within).within (State.postReady_within (fails := b.cplFail))).within
    State.showGates_within).within State.showLatency_within
  exact ((((hgovernor.within State.governor_within).trans (State.endRetime_sameTick _)).within State.idleBoundary_within).within
    State.entryBoundary_within).trans (State.admission_sameTick _)

/-! ## The boundary of service state -/

/-- What stands before the tick is opened. -/
def State.beforeTick (s : State) : State := ({ s with out := [] } : State).purge.snapshot.assignLearned

theorem State.beforeTick_within (s : State) : Within [.out, .planned, .baysBefore, .broadBefore, .csc, .bays, .broad, .drawers] s s.beforeTick :=
  ((Within.refl.upd.step State.purge_within).step State.snapshot_within).step State.assignLearned_within

theorem State.tickOpened_beforeTick (s : State) : s.beforeTick.tickOpened = s.tickOpened := by
  have htick : s.tick = s.beforeTick.tick := s.beforeTick_within.same .tick
  have hsrc : s.beforeTick.get Reg.TCK_CTRL_SRC = s.get Reg.TCK_CTRL_SRC :=
    (Writes.of_within s.beforeTick_within : Writes [] s _).get Reg.TCK_CTRL_SRC
  unfold State.tickOpened
  rw [← htick, hsrc]

/-- Nothing after the opening of the tick moves the count. -/
theorem State.serviceBoundary_sameTick (s : State) (b : Boundary) : SameTick s.beforeTick.openTick (s.serviceBoundary b) := by
  unfold State.serviceBoundary
  extract_lets t u v
  have hopen : SameTick s.beforeTick.openTick t := State.stretch_sameTick _
  have hbody : SameTick s.beforeTick.openTick u :=
    (((((hopen.within State.useCredits_within).trans (State.seamBoundary_sameTick _)).within State.objectsBoundary_within).within
      State.arrayBoundary_within).within State.ringBoundary_within).trans (State.closeBoundary_sameTick _ b)
  exact ((hbody.within State.countFec_within).within State.sendTicks_within).trans
    (SameTick.foldl fun _ _ => .of_within State.sendCredit_within)

theorem State.serviceBoundary_opens (s : State) (b : Boundary) :
    (s.serviceBoundary b).tick.now = s.tickOpened ∧ (s.serviceBoundary b).tick.started = true ∧
      (s.serviceBoundary b).tick.last = s.clock := by
  obtain ⟨hnow, hstarted, hlast⟩ := s.serviceBoundary_sameTick b
  have hclock : s.beforeTick.clock = s.clock := (s.beforeTick_within.same .clock).symm
  exact ⟨hnow.trans s.tickOpened_beforeTick, hstarted, hlast.trans hclock⟩

/-- The admission close that is due. -/
theorem doAdmissionClose_of_due {s : State} (hstarted : s.tick.started = true) (hplan : tickAdd s.tick.plan 1 = s.tick.now)
    (hclose : s.tick.last + s.guardCycles ≤ s.clock) :
    doAdmissionClose s =
      { (if s.tick.openPrev then s.makePlan s.tick.plan else s) with
        tick := { (if s.tick.openPrev then s.makePlan s.tick.plan else s).tick with plan := s.tick.now } } :=
  if_neg fun h => by
    rcases h with h | h | h
    · exact Bool.noConfusion (h.symm.trans hstarted)
    · exact h hplan
    · exact Nat.not_le.2 h hclose

/-- Settles O6: the frame of the boundary's later operations keeps the tick that it opened. -/
theorem tickBoundaryAndPlan : Obligations.TickBoundaryAndPlan := by
  unfold Obligations.TickBoundaryAndPlan
  refine ⟨⟨fun s b hdue => congrArg Host.Outcome.next (if_pos hdue), fun s b hm hdue => ?_, fun s b hm hdue => ?_,
    fun s hm => ⟨?_, fun hmarker => ?_, fun n hmarker hsrc => ?_⟩⟩, fun s => ⟨fun hstarted hplan hclose => ⟨fun hopen => ?_,
    fun hopen => ?_⟩, fun hnot => ?_⟩⟩
  · have hexec : doTickBoundary b s = s.showProgress.setTick
        { s.tick with now := if s.tick.started then tickAdd s.tick.now 1 else 0, started := true, last := s.clock } :=
      (if_neg (by rw [hdue]; decide)).trans (if_pos hm)
    refine ⟨_, congrArg Host.Outcome.next hexec, rfl, rfl, rfl, fun htest => ?_⟩
    have hshow : s.showProgress = s := if_neg (by rw [htest]; decide)
    rw [hshow]
    rfl
  · have hexec : doTickBoundary b s = s.serviceBoundary b := (if_neg (by rw [hdue]; decide)).trans (if_neg (by rw [hm]; decide))
    exact ⟨_, congrArg Host.Outcome.next hexec, rfl, s.serviceBoundary_opens b⟩
  · simp only [State.boundaryDue, hm, Bool.and_eq_true, Bool.or_eq_true, Bool.not_eq_true', bne_iff_ne, decide_eq_true_eq]
    cases s.tick.started <;> simp
  · unfold State.tickOpened
    rw [hmarker]
    rfl
  · unfold State.tickOpened
    rw [hmarker]
    exact if_pos hsrc
  · exact congrArg Host.Outcome.next ((doAdmissionClose_of_due hstarted hplan hclose).trans (by rw [hopen]; rfl))
  · exact ⟨_, congrArg Host.Outcome.next ((doAdmissionClose_of_due hstarted hplan hclose).trans (by rw [if_pos hopen])), rfl, rfl⟩
  · exact congrArg Host.Outcome.next (if_pos hnot)

end Sys2Proof.Machine
end

section
/-! PROOFS. Ports: what the shared operations of the ingress queues keep of a port and which registers they write; the host's port
control (O12). -/

namespace Sys2Proof.Machine

set_option Elab.async false

/-! ## The registers of a port -/

/-- The field has no place at a place of the first fields with the same index, or at one of the last ones. -/
def Field.apart (F : Field) (Fs Gs : List Field) : Bool :=
  decide (F.key F.n1 < 8 * 0x150000) && Fs.all (fun G => G.st1 == F.st1 && G.key != F.key) &&
    Gs.all fun G => decide (G.key < F.key) || decide (F.key F.n1 < G.key)

/-- The field is at none of the first n + 1 places of the first fields, and is none of the last ones. -/
def Field.clear (F : Field) (Fs Gs : List Field) (n : Nat) : Bool :=
  decide (F.key < 8 * 0x150000) && Fs.all (fun G => decide (F.key < G.key) || decide (G.key n < F.key)) && Gs.all fun G => G.key != F.key

/-- From s to t only place i of the first fields is written, and the last ones. -/
def WritesAt (Fs Gs : List Field) (i : Nat) (s t : State) : Prop :=
  Writes (Fs.map (fun F => F.key i) ++ Gs.map fun G => G.key) s t

namespace WritesAt

variable {Fs Gs : List Field} {i : Nat} {s t : State}

theorem get (h : WritesAt Fs Gs i s t) (F : Field) (hi : i < F.n1) (hF : F.apart Fs Gs = true := by decide) : t.get F i = s.get F i := by
  simp only [Field.apart, Bool.and_eq_true, Bool.or_eq_true, List.all_eq_true, decide_eq_true_eq, beq_iff_eq, bne_iff_ne] at hF
  obtain ⟨⟨hbelow, hsame⟩, hother⟩ := hF
  have hmono : F.st1 * i ≤ F.st1 * F.n1 := Nat.mul_le_mul_left _ hi.le
  refine h F i 0 (by simp only [Field.key] at hbelow ⊢; omega) fun hm => ?_
  rcases List.mem_append.1 hm with hm | hm
  · obtain ⟨G, hG, hkey⟩ := List.mem_map.1 hm
    obtain ⟨hst, hne⟩ := hsame G hG
    simp only [Field.key, hst] at hkey hne
    omega
  · obtain ⟨G, hG, hkey⟩ := List.mem_map.1 hm
    have hne := hother G hG
    simp only [Field.key] at hkey hne
    omega

theorem flag (h : WritesAt Fs Gs i s t) (F : Field) (hi : i < F.n1) (hF : F.apart Fs Gs = true := by decide) :
    t.flag F i = s.flag F i := congrArg (· == 1) (h.get F hi hF)

/-- A field with one place reads the same, where it lies outside the places written. -/
theorem fixed (h : WritesAt Fs Gs i s t) (F : Field) {n : Nat} (hi : i < n) (hF : F.clear Fs Gs n = true := by decide) :
    t.get F = s.get F := by
  simp only [Field.clear, Bool.and_eq_true, Bool.or_eq_true, List.all_eq_true, decide_eq_true_eq, bne_iff_ne] at hF
  obtain ⟨⟨hbelow, hranges⟩, hother⟩ := hF
  refine h F 0 0 hbelow fun hm => ?_
  rcases List.mem_append.1 hm with hm | hm
  · obtain ⟨G, hG, hkey⟩ := List.mem_map.1 hm
    have hrange := hranges G hG
    have hmono : G.st1 * i ≤ G.st1 * n := Nat.mul_le_mul_left _ hi.le
    simp only [Field.key] at hkey hrange
    omega
  · obtain ⟨G, hG, hkey⟩ := List.mem_map.1 hm
    exact hother G hG hkey

theorem put (F : Field) (v i : Nat) : WritesAt [F] [] i s (s.put F v i) := Writes.put F v i 0

theorem putB (F : Field) (v : Bool) (i : Nat) : WritesAt [F] [] i s (s.putB F v i) := Writes.putB F v i 0

theorem bump (F : Field) (n i : Nat) : WritesAt [F] [] i s (s.bump F n i) := Writes.bump F n i 0

theorem raise (n i : Nat) : WritesAt [] [] i s (s.raise n) := Writes.raise n

theorem raiseEp (n key i : Nat) : WritesAt [] [] i s (s.raiseEp n key) := Writes.raiseEp n key

theorem of_regs (i : Nat) (h : s.regs = t.regs) : WritesAt [] [] i s t := Writes.of_regs h

theorem of_within (i : Nat) {w : List Part} (h : Within w s t) (hw : Part.regs ∉ w := by decide) : WritesAt [] [] i s t :=
  Writes.of_within h hw

end WritesAt

theorem Writes.foldl {α : Type} {ks : List Nat} {f : State → α → State} (hf : ∀ t a, Writes ks t (f t a)) {l : List α} {s : State} :
    Writes ks s (l.foldl f s) := by
  induction l generalizing s with
  | nil => exact .refl
  | cons a l ih => exact (hf s a).trans ih

@[simp] theorem State.get_setPort (s : State) (p : Nat) (v : PortSt) (F : Field) (i j : Nat) : (s.setPort p v).get F i j = s.get F i j := rfl

@[simp] theorem State.flag_setPort (s : State) (p : Nat) (v : PortSt) (F : Field) (i j : Nat) :
    (s.setPort p v).flag F i j = s.flag F i j := rfl

theorem State.setPort_writes (s : State) (p : Nat) (v : PortSt) : Writes [] s (s.setPort p v) := .of_regs rfl

theorem State.returnCredits_writes (s : State) (p n : Nat) : WritesAt [Reg.PRT_CREDIT_IN_HELD] [] p s (s.returnCredits p n) := by
  unfold State.returnCredits
  extract_lets q _ k t
  have hput : WritesAt [Reg.PRT_CREDIT_IN_HELD] [] p s t :=
    (Writes.refl.step (State.setPort_writes s p _)).step (Writes.put _ _ p 0)
  exact .ite .refl (.ite (hput.trans (.of_within State.sendCredit_within)) hput)

theorem State.grantCredits_writes (s : State) (p : Nat) : WritesAt [Reg.PRT_CREDIT_IN_HELD] [] p s (s.grantCredits p) := by
  unfold State.grantCredits
  exact .ite (((Writes.refl.step (State.setPort_writes s p _)).step (Writes.put _ _ p 0)).trans (.of_within State.sendLink_within)) .refl

theorem State.rewound_writes (s : State) (p n : Nat) :
    WritesAt [Reg.PRT_CNT_REWIND_COUNT, Reg.PRT_CREDIT_IN_HELD] [] p s (s.rewound p n) := by
  unfold State.rewound
  exact (((Writes.refl.step (State.setPort_writes s p _)).step (Writes.bump _ _ p 0)).step (State.returnCredits_writes _ _ _)).step
    (Writes.raiseEp _ _)

theorem State.rewindPart_writes (s : State) (p : Nat) :
    WritesAt [Reg.PRT_CNT_REWIND_COUNT, Reg.PRT_CREDIT_IN_HELD] [] p s (s.rewindPart p) := by
  unfold State.rewindPart
  exact .ite .refl ((Writes.refl.step (State.setPort_writes s p _)).trans (State.rewound_writes _ _ _))

theorem State.rewindComplete_writes (s : State) (p : Nat) :
    WritesAt [Reg.PRT_CNT_REWIND_COUNT, Reg.PRT_CREDIT_IN_HELD] [] p s (s.rewindComplete p) := by
  unfold State.rewindComplete
  exact (Writes.refl.step (State.setPort_writes s p _)).trans (Writes.foldl fun _ _ => State.rewound_writes _ _ _)

theorem State.dropVerdicts_writes (s : State) (p : Nat) : WritesAt [Reg.PRT_CNT_VERDICT_DROP_COUNT] [] p s (s.dropVerdicts p) :=
  (Writes.of_regs rfl).trans (Writes.bump _ _ p 0)

theorem State.dropCaptures_writes (s : State) (p : Nat) : WritesAt [Reg.PRT_CNT_CAPDROP_COUNT] [] p s (s.dropCaptures p) :=
  (Writes.of_regs rfl).trans (Writes.bump _ _ p 0)

theorem State.dropControl_writes (s : State) (p : Nat) : WritesAt [] [Reg.RPT_CNT_UNROUTED_COUNT] p s (s.dropControl p) :=
  (Writes.of_regs rfl).trans (Writes.bump _ _ 0 0)

/-- The registers of a port that leaves UP. -/
def leaveUpFields : List Field :=
  [Reg.PRT_CNT_REWIND_COUNT, Reg.PRT_CREDIT_IN_HELD, Reg.PRT_CNT_VERDICT_DROP_COUNT, Reg.PRT_CNT_CAPDROP_COUNT,
    Reg.PRT_CREDIT_OUT_HELD, Reg.PRT_STATUS_RESYNC]

/-- A port that leaves UP, before its credits are taken. -/
def State.dropped (s : State) (p : Nat) : State := ((((s.rewindPart p).dropVerdicts p).dropCaptures p).dropControl p).settleControl

theorem State.dropped_writes (s : State) (p : Nat) : WritesAt leaveUpFields [Reg.RPT_CNT_UNROUTED_COUNT] p s (s.dropped p) :=
  ((((Writes.refl.step (State.rewindPart_writes s p) (by simp [leaveUpFields])).step (State.dropVerdicts_writes _ p)
    (by simp [leaveUpFields])).step (State.dropCaptures_writes _ p) (by simp [leaveUpFields])).step (State.dropControl_writes _ p)
    (by simp [leaveUpFields])).trans (.of_within State.settleControl_within)

/-- The credits of a port that leaves UP are gone. -/
def State.noCredits (s : State) (p : Nat) : State :=
  ((s.put Reg.PRT_CREDIT_IN_HELD 0 p).put Reg.PRT_CREDIT_OUT_HELD 0 p).put Reg.PRT_STATUS_RESYNC 0 p

theorem State.leaveUp_eq (s : State) (p : Nat) :
    s.leaveUp p = ((s.dropped p).noCredits p).setPort p { ((s.dropped p).noCredits p).port p with skip := 0, viol := false } := rfl

theorem State.noCredits_writes (s : State) (p : Nat) : WritesAt leaveUpFields [Reg.RPT_CNT_UNROUTED_COUNT] p s (s.noCredits p) :=
  ((Writes.refl.step (Writes.put _ _ p 0) (by simp [leaveUpFields])).step (Writes.put _ _ p 0) (by simp [leaveUpFields])).step
    (Writes.put _ _ p 0) (by simp [leaveUpFields])

theorem State.leaveUp_writes (s : State) (p : Nat) : WritesAt leaveUpFields [Reg.RPT_CNT_UNROUTED_COUNT] p s (s.leaveUp p) := by
  rw [State.leaveUp_eq]
  exact ((s.dropped_writes p).trans (State.noCredits_writes _ p)).trans ((State.setPort_writes _ p _).mono (List.nil_subset _))

theorem State.get_inHeld_leaveUp (s : State) (p : Fin 16) : (s.leaveUp p).get Reg.PRT_CREDIT_IN_HELD p = 0 := by
  have hlater : WritesAt [Reg.PRT_CREDIT_OUT_HELD, Reg.PRT_STATUS_RESYNC] [] p ((s.dropped p).put Reg.PRT_CREDIT_IN_HELD 0 p)
      ((s.dropped p).noCredits p) := (Writes.refl.step (Writes.put _ _ p 0)).step (Writes.put _ _ p 0)
  rw [State.leaveUp_eq, State.get_setPort, hlater.get Reg.PRT_CREDIT_IN_HELD p.isLt, State.get_put_same,
    Nat.zero_mod]

theorem State.get_outHeld_leaveUp (s : State) (p : Fin 16) : (s.leaveUp p).get Reg.PRT_CREDIT_OUT_HELD p = 0 := by
  rw [State.leaveUp_eq, State.get_setPort, State.noCredits,
    (WritesAt.put Reg.PRT_STATUS_RESYNC 0 p).get Reg.PRT_CREDIT_OUT_HELD p.isLt, State.get_put_same, Nat.zero_mod]

theorem State.flushPort_writes (s : State) (p : Nat) :
    WritesAt [Reg.PRT_CNT_FLUSHED_COUNT, Reg.PRT_CNT_REWIND_COUNT, Reg.PRT_CREDIT_IN_HELD] [] p s (s.flushPort p) := by
  unfold State.flushPort
  exact ((((Writes.refl.step (State.setPort_writes s p _)).step (Writes.bump _ _ p 0)).step (State.returnCredits_writes _ _ _)).step
    (State.rewindComplete_writes _ _)).step (State.rewindPart_writes _ _)

theorem State.get_flushed_flushPort (s : State) (p : Fin 16) : (s.flushPort p).get Reg.PRT_CNT_FLUSHED_COUNT p =
    min (s.get Reg.PRT_CNT_FLUSHED_COUNT p + (s.port p).queue.length) Reg.PRT_CNT_FLUSHED_COUNT.max := by
  unfold State.flushPort
  dsimp only
  rw [(State.rewindPart_writes _ _).get Reg.PRT_CNT_FLUSHED_COUNT p.isLt, (State.rewindComplete_writes _ _).get Reg.PRT_CNT_FLUSHED_COUNT p.isLt,
    (State.returnCredits_writes _ _ _).get Reg.PRT_CNT_FLUSHED_COUNT p.isLt, State.get_bump_same]
  rfl

/-! ## What of a port stays -/

theorem Within.port {w : List Part} {s t : State} (h : Within w s t) (p : Nat) (hw : Part.ports ∉ w := by decide) : t.port p = s.port p := by
  unfold State.port
  rw [show s.ports = t.ports from h.same .ports hw]

/-- Port p keeps its queue, its records that have arrived and its training state, and every other port is as it was. -/
structure KeepsPort (p : Nat) (s t : State) : Prop where
  queue : (t.port p).queue = (s.port p).queue
  complete : (t.port p).complete = (s.port p).complete
  part : (t.port p).part = (s.port p).part
  partLen : (t.port p).partLen = (s.port p).partLen
  st : (t.port p).link.st = (s.port p).link.st
  rxFlits : (t.port p).link.rxFlits = (s.port p).link.rxFlits
  prevSeq : (t.port p).prevSeq = (s.port p).prevSeq
  uncorr : (t.port p).link.uncorr = (s.port p).link.uncorr
  aligned : (t.port p).link.aligned = (s.port p).link.aligned
  others : ∀ q, q ≠ p → t.port q = s.port q

namespace KeepsPort

variable {p : Nat} {s t u : State}

theorem refl : KeepsPort p s s := ⟨rfl, rfl, rfl, rfl, rfl, rfl, rfl, rfl, rfl, fun _ _ => rfl⟩

theorem trans (h : KeepsPort p s t) (k : KeepsPort p t u) : KeepsPort p s u :=
  ⟨k.queue.trans h.queue, k.complete.trans h.complete, k.part.trans h.part, k.partLen.trans h.partLen, k.st.trans h.st,
    k.rxFlits.trans h.rxFlits, k.prevSeq.trans h.prevSeq, k.uncorr.trans h.uncorr, k.aligned.trans h.aligned, fun q hq => (k.others q hq).trans (h.others q hq)⟩

theorem ite {c : Prop} [Decidable c] (h : KeepsPort p s t) (k : KeepsPort p s u) : KeepsPort p s (if c then t else u) := by
  split
  · exact h
  · exact k

theorem of_ports (h : s.ports = t.ports) : KeepsPort p s t := by
  have hport : ∀ q, t.port q = s.port q := fun q => by unfold State.port; rw [h]
  exact ⟨by rw [hport], by rw [hport], by rw [hport], by rw [hport], by rw [hport], by rw [hport], by rw [hport], by rw [hport], by rw [hport], fun q _ => hport q⟩

theorem of_within {w : List Part} (h : Within w s t) (hw : Part.ports ∉ w := by decide) : KeepsPort p s t := of_ports (h.same .ports hw)

theorem setPort {v : PortSt} (hqueue : v.queue = (s.port p).queue := by rfl) (hcomplete : v.complete = (s.port p).complete := by rfl)
    (hpart : v.part = (s.port p).part := by rfl) (hlen : v.partLen = (s.port p).partLen := by rfl)
    (hst : v.link.st = (s.port p).link.st := by rfl) (hrx : v.link.rxFlits = (s.port p).link.rxFlits := by rfl)
    (hseq : v.prevSeq = (s.port p).prevSeq := by rfl) (huncorr : v.link.uncorr = (s.port p).link.uncorr := by rfl)
    (haligned : v.link.aligned = (s.port p).link.aligned := by rfl) : KeepsPort p s (s.setPort p v) := by
  refine ⟨?_, ?_, ?_, ?_, ?_, ?_, ?_, ?_, ?_, fun q hq => State.port_setPort_ne s v (Ne.symm hq)⟩ <;> rwa [State.port_setPort_same]

theorem foldl {α : Type} {f : State → α → State} (hf : ∀ t a, KeepsPort p t (f t a)) {l : List α} {s : State} :
    KeepsPort p s (l.foldl f s) := by
  induction l generalizing s with
  | nil => exact .refl
  | cons a l ih => exact (hf s a).trans ih

end KeepsPort

/-- Every port but p is as it was. -/
def OtherPorts (p : Nat) (s t : State) : Prop := ∀ q, q ≠ p → t.port q = s.port q

theorem OtherPorts.trans {p : Nat} {s t u : State} (h : OtherPorts p s t) (k : OtherPorts p t u) : OtherPorts p s u :=
  fun q hq => (k q hq).trans (h q hq)

theorem OtherPorts.setPort {p : Nat} {s : State} {v : PortSt} : OtherPorts p s (s.setPort p v) :=
  fun _ hq => State.port_setPort_ne s v (Ne.symm hq)

theorem Fin.ofNat_val_sixteen (p : Fin 16) : Fin.ofNat 16 p.val = p := Fin.ofNat_val_eq_self p

theorem State.sendCredit_keepsPort (s : State) (p : Fin 16) : KeepsPort p s (s.sendCredit (.port p)) := by
  unfold State.sendCredit
  exact .ite .refl ((KeepsPort.setPort (v := { s.port p with link := { (s.port p).link with sinceCredit := 0 } })).trans
    (.of_within State.sendLink_within))

theorem State.returnCredits_keepsPort (s : State) (p : Fin 16) (n : Nat) : KeepsPort p s (s.returnCredits p n) := by
  unfold State.returnCredits
  extract_lets q _ k t
  have hput : KeepsPort p s t := (KeepsPort.setPort (v := { s.port p with link := k })).trans (.of_within State.put_within)
  refine .ite .refl (.ite (hput.trans ?_) hput)
  rw [Fin.ofNat_val_sixteen]
  exact State.sendCredit_keepsPort _ p

theorem State.grantCredits_keepsPort (s : State) (p : Fin 16) : KeepsPort p s (s.grantCredits p) := by
  unfold State.grantCredits
  exact .ite (((KeepsPort.setPort (v := { s.port p with link := _ })).trans (.of_within State.put_within)).trans
    (.of_within State.sendLink_within)) .refl

theorem State.rewound_keepsPort (s : State) (p : Fin 16) (n : Nat) : KeepsPort p s (s.rewound p n) := by
  unfold State.rewound
  exact (((KeepsPort.setPort (v := { s.port p with rewinds := _ })).trans (.of_within State.bump_within)).trans
    (State.returnCredits_keepsPort _ p n)).trans (.of_within State.raiseEp_within)

/-- Rewinding the record in reception leaves none. -/
theorem State.part_rewindPart (s : State) (p : Fin 16) : ((s.rewindPart p).port p).part = [] := by
  unfold State.rewindPart
  dsimp only
  split
  case isTrue h => exact List.isEmpty_iff.1 h
  case isFalse => rw [(State.rewound_keepsPort _ p _).part, State.port_setPort_same]

/-- The port without the record in reception. -/
def State.noPart (s : State) (p : Nat) : State := s.setPort p { s.port p with part := [], partLen := 0 }

theorem State.rewindPart_keepsPort (s : State) (p : Fin 16) : s.rewindPart p = s ∨ KeepsPort p (s.noPart p) (s.rewindPart p) := by
  unfold State.rewindPart
  dsimp only
  split
  · exact .inl rfl
  · exact .inr (State.rewound_keepsPort _ p _)

theorem State.queue_rewindPart (s : State) (p : Fin 16) : ((s.rewindPart p).port p).queue = (s.port p).queue := by
  rcases s.rewindPart_keepsPort p with h | h
  · rw [h]
  · rw [h.queue, State.noPart, State.port_setPort_same]

theorem State.complete_rewindPart (s : State) (p : Fin 16) : ((s.rewindPart p).port p).complete = (s.port p).complete := by
  rcases s.rewindPart_keepsPort p with h | h
  · rw [h]
  · rw [h.complete, State.noPart, State.port_setPort_same]

theorem State.rewindComplete_keepsPort (s : State) (p : Fin 16) :
    KeepsPort p (s.setPort p { s.port p with complete := [] }) (s.rewindComplete p) := by
  unfold State.rewindComplete
  exact KeepsPort.foldl fun _ _ => State.rewound_keepsPort _ p _

/-- Flushing a port leaves nothing in it. -/
theorem State.port_flushPort (s : State) (p : Fin 16) :
    ((s.flushPort p).port p).queue = [] ∧ ((s.flushPort p).port p).complete = [] ∧ ((s.flushPort p).port p).part = [] := by
  unfold State.flushPort
  extract_lets q cut n t
  have hempty : ((t.returnCredits p n).port p).queue = [] := by
    rw [(t.returnCredits_keepsPort p n).queue]
    exact congrArg PortSt.queue (State.port_setPort_same s p _)
  refine ⟨?_, ?_, State.part_rewindPart ((t.returnCredits p n).rewindComplete p) p⟩
  · rw [State.queue_rewindPart, (State.rewindComplete_keepsPort _ p).queue, State.port_setPort_same, hempty]
  · rw [State.complete_rewindPart, (State.rewindComplete_keepsPort _ p).complete, State.port_setPort_same]

theorem State.dropped_keepsPort (s : State) (p : Fin 16) : KeepsPort p (s.rewindPart p) (s.dropped p) := by
  unfold State.dropped
  have hcaptures : KeepsPort p ((s.rewindPart p).dropVerdicts p) (((s.rewindPart p).dropVerdicts p).dropCaptures p) := by
    unfold State.dropCaptures
    exact (KeepsPort.setPort (v := { ((s.rewindPart p).dropVerdicts p).port p with capBuf := [] })).trans (.of_within State.bump_within)
  exact (((KeepsPort.of_within State.dropVerdicts_within).trans hcaptures).trans (.of_within State.dropControl_within)).trans
    (.of_within State.settleControl_within)

theorem State.leaveUp_keepsPort (s : State) (p : Fin 16) : KeepsPort p (s.rewindPart p) (s.leaveUp p) := by
  rw [State.leaveUp_eq]
  exact ((s.dropped_keepsPort p).trans (.of_within (((Within.refl (w := [.regs])).step State.put_within).step State.put_within |>.step
    State.put_within))).trans (KeepsPort.setPort (v := { ((s.dropped p).noCredits p).port p with skip := 0, viol := false }))

theorem State.queue_leaveUp (s : State) (p : Fin 16) : ((s.leaveUp p).port p).queue = (s.port p).queue := by
  rw [(s.leaveUp_keepsPort p).queue, s.queue_rewindPart]

/-- A fenced port is in the given state, with an empty queue. -/
theorem State.port_fencePort (s : State) (p : Fin 16) (st : LState) :
    ((s.fencePort p st).port p).link.st = st ∧ ((s.fencePort p st).port p).queue = [] := by
  unfold State.fencePort
  dsimp only
  rw [State.port_setPort_same]
  dsimp only
  exact ⟨rfl, (State.queue_leaveUp (s.flushPort p) p).trans (s.port_flushPort p).1⟩

theorem State.fencePort_writes (s : State) (p : Nat) (st : LState) :
    WritesAt (Reg.PRT_CNT_FLUSHED_COUNT :: leaveUpFields) [Reg.RPT_CNT_UNROUTED_COUNT] p s (s.fencePort p st) := by
  unfold State.fencePort
  exact (((s.flushPort_writes p).mono (by simp [leaveUpFields])).trans ((State.leaveUp_writes _ p).mono (by simp [leaveUpFields]))).trans
    ((State.setPort_writes _ p _).mono (List.nil_subset _))

/-! ## The host's port control -/

theorem doPrtEnWrite_true (p : Fin 16) (s : State) : doPrtEnWrite p true s =
    if (s.port p).link.st = .disabled then (s.putB Reg.PRT_CTRL_EN true p).startTraining (.port p) else s.putB Reg.PRT_CTRL_EN true p := rfl

theorem doPrtEnWrite_false (p : Fin 16) (s : State) : doPrtEnWrite p false s =
    if (s.port p).link.st = .disabled ∨ (s.port p).link.st = .selftest then s.putB Reg.PRT_CTRL_EN false p
    else (s.putB Reg.PRT_CTRL_EN false p).fencePort p .disabled := rfl

/-- Enabling a port sets EN, and trains it where it is disabled. -/
theorem doPrtEnWrite_true_spec {s : State} (p : Fin 16) (hm : s.mode = .service) :
    (doPrtEnWrite p true s).flag Reg.PRT_CTRL_EN p = true ∧
    ((s.port p).link.st = .disabled → ((doPrtEnWrite p true s).port p).link.st = .seek) ∧
    ((s.port p).link.st ≠ .disabled → (doPrtEnWrite p true s).port p = s.port p) := by
  have hflag : (s.putB Reg.PRT_CTRL_EN true p).flag Reg.PRT_CTRL_EN p = true := State.flag_putB_same s _ _ _ _ rfl
  rw [doPrtEnWrite_true]
  split
  case isTrue hst =>
    have htrain : (s.putB Reg.PRT_CTRL_EN true p).startTraining (.port p) =
        (s.putB Reg.PRT_CTRL_EN true p).setLink (.port p) (seekFrom s.clock) := by
      refine if_pos ?_
      have hmay : (s.putB Reg.PRT_CTRL_EN true p).mayTrain = true := by simp [State.mayTrain, State.putB, hm]
      rw [show (s.putB Reg.PRT_CTRL_EN true p).linkEn (.port p) = true from hflag, hmay]
      rfl
    rw [htrain]
    refine ⟨hflag, fun _ => ?_, fun h => absurd hst h⟩
    exact congrArg (fun q : PortSt => q.link.st) (State.port_setPort_same _ _ _)
  case isFalse hst => exact ⟨hflag, fun h => absurd h hst, fun _ => rfl⟩

/-- Disabling a port clears EN, and fences it unless it is disabled or in self-test. -/
theorem doPrtEnWrite_false_spec (s : State) (p : Fin 16) :
    (doPrtEnWrite p false s).flag Reg.PRT_CTRL_EN p = false ∧
    ((s.port p).link.st = .disabled ∨ (s.port p).link.st = .selftest → (doPrtEnWrite p false s).port p = s.port p) ∧
    ((s.port p).link.st ≠ .disabled → (s.port p).link.st ≠ .selftest →
      ((doPrtEnWrite p false s).port p).link.st = .disabled ∧ ((doPrtEnWrite p false s).port p).queue = []) := by
  have hflag : (s.putB Reg.PRT_CTRL_EN false p).flag Reg.PRT_CTRL_EN p = false := State.flag_putB_same s _ _ _ _ rfl
  rw [doPrtEnWrite_false]
  split
  case isTrue hst => exact ⟨hflag, fun _ => rfl, fun h1 h2 => (hst.elim h1 h2).elim⟩
  case isFalse hst =>
    exact ⟨((State.fencePort_writes _ _ _).flag Reg.PRT_CTRL_EN p.isLt).trans hflag, fun h => absurd h hst,
      fun _ _ => State.port_fencePort _ _ _⟩

/-- The status of a self-test that starts. -/
def State.selftestBegins (s : State) (p : Nat) : State :=
  ((s.put Reg.PRT_CTRL_SELFTEST 1 p).put Reg.PRT_STATUS_SELFTEST_DONE 0 p).put Reg.PRT_STATUS_SELFTEST_PASS 0 p

theorem State.selftestBegins_flags (s : State) (p : Fin 16) :
    (s.selftestBegins p).flag Reg.PRT_CTRL_SELFTEST p = true ∧ (s.selftestBegins p).flag Reg.PRT_STATUS_SELFTEST_DONE p = false ∧
    (s.selftestBegins p).flag Reg.PRT_STATUS_SELFTEST_PASS p = false := by
  unfold State.selftestBegins
  refine ⟨?_, ?_, ?_⟩
  · rw [(WritesAt.put Reg.PRT_STATUS_SELFTEST_PASS 0 p).flag Reg.PRT_CTRL_SELFTEST p.isLt,
      (WritesAt.put Reg.PRT_STATUS_SELFTEST_DONE 0 p).flag Reg.PRT_CTRL_SELFTEST p.isLt, State.flag, State.get_put_same]
    rfl
  · rw [(WritesAt.put Reg.PRT_STATUS_SELFTEST_PASS 0 p).flag Reg.PRT_STATUS_SELFTEST_DONE p.isLt, State.flag, State.get_put_same]
    rfl
  · rw [State.flag, State.get_put_same]
    rfl

theorem doPrtSelftestStart_of_ne {s : State} {p : Fin 16} (h : (s.port p).link.st ≠ .selftest) :
    doPrtSelftestStart p s = (s.selftestBegins p).fencePort p .selftest := if_neg h

/-- The counts and the status of a self-test that ends. -/
theorem doPrtSelftestDone_spec {s : State} {p : Fin 16} (corrected doubles : Nat) (hst : (s.port p).link.st = .selftest)
    (hdone : s.flag Reg.PRT_STATUS_SELFTEST_DONE p = false) :
    (doPrtSelftestDone p corrected doubles s).flag Reg.PRT_STATUS_SELFTEST_DONE p = true ∧
    (doPrtSelftestDone p corrected doubles s).flag Reg.PRT_STATUS_SELFTEST_PASS p = (doubles == 0) ∧
    (doPrtSelftestDone p corrected doubles s).get Reg.PRT_CNT_CORR_COUNT p =
      min (s.get Reg.PRT_CNT_CORR_COUNT p + corrected) Reg.PRT_CNT_CORR_COUNT.max ∧
    (doPrtSelftestDone p corrected doubles s).get Reg.PRT_CNT_UNCORR_COUNT p =
      min (s.get Reg.PRT_CNT_UNCORR_COUNT p + doubles) Reg.PRT_CNT_UNCORR_COUNT.max ∧
    doPrtSelftestDone p corrected doubles s = { s with regs := (doPrtSelftestDone p corrected doubles s).regs } := by
  rw [show doPrtSelftestDone p corrected doubles s = _ from if_pos ⟨hst, hdone⟩]
  have hwithin : Within [.regs] s ((((s.bump Reg.PRT_CNT_CORR_COUNT corrected p).bump Reg.PRT_CNT_UNCORR_COUNT doubles p).put
      Reg.PRT_STATUS_SELFTEST_DONE 1 p).putB Reg.PRT_STATUS_SELFTEST_PASS (doubles == 0) p) :=
    (((Within.refl.step State.bump_within).step State.bump_within).step State.put_within).step State.putB_within
  refine ⟨?_, State.flag_putB_same _ _ _ _ _ rfl, ?_, ?_, hwithin.eq_update Within.refl.upd⟩
  · rw [(WritesAt.putB Reg.PRT_STATUS_SELFTEST_PASS _ p).flag Reg.PRT_STATUS_SELFTEST_DONE p.isLt, State.flag, State.get_put_same]
    rfl
  · rw [(WritesAt.putB Reg.PRT_STATUS_SELFTEST_PASS _ p).get Reg.PRT_CNT_CORR_COUNT p.isLt,
      (WritesAt.put Reg.PRT_STATUS_SELFTEST_DONE 1 p).get Reg.PRT_CNT_CORR_COUNT p.isLt,
      (WritesAt.bump Reg.PRT_CNT_UNCORR_COUNT doubles p).get Reg.PRT_CNT_CORR_COUNT p.isLt, State.get_bump_same]
  · rw [(WritesAt.putB Reg.PRT_STATUS_SELFTEST_PASS _ p).get Reg.PRT_CNT_UNCORR_COUNT p.isLt,
      (WritesAt.put Reg.PRT_STATUS_SELFTEST_DONE 1 p).get Reg.PRT_CNT_UNCORR_COUNT p.isLt, State.get_bump_same,
      (WritesAt.bump Reg.PRT_CNT_CORR_COUNT corrected p).get Reg.PRT_CNT_UNCORR_COUNT p.isLt]

theorem doPrtSelftestEnd_spec {s : State} {p : Fin 16} (hst : (s.port p).link.st = .selftest) :
    (doPrtSelftestEnd p s).flag Reg.PRT_CTRL_SELFTEST p = false ∧
    ((doPrtSelftestEnd p s).port p).link.st = (if s.flag Reg.PRT_CTRL_EN p then .seek else .disabled) := by
  rw [show doPrtSelftestEnd p s = (s.put Reg.PRT_CTRL_SELFTEST 0 p).toState (.port p)
    (if (s.put Reg.PRT_CTRL_SELFTEST 0 p).flag Reg.PRT_CTRL_EN p then .seek else .disabled) from if_pos hst,
    (WritesAt.put Reg.PRT_CTRL_SELFTEST 0 p).flag Reg.PRT_CTRL_EN p.isLt]
  constructor
  · rw [State.toState, State.setLink, State.flag_setPort, State.flag, State.get_put_same]
    rfl
  · exact congrArg (fun q : PortSt => q.link.st) (State.port_setPort_same _ _ _)

/-- Settles O12, one port operation at a time, by the registers that each writes and the port state it leaves. -/
theorem portControl : Obligations.PortControl := by
  unfold Obligations.PortControl
  refine ⟨fun s p hm => ?_, fun s p hm => ?_, fun s p hm => ?_, fun s p hm hst => ?_, fun s p corrected doubles hst hdone => ?_,
    fun s p hm hst => ?_⟩
  · obtain ⟨hqueue, hcomplete, hpart⟩ := s.touchIdle.port_flushPort p
    exact ⟨_, congrArg Host.Outcome.next (if_pos hm), hqueue, hcomplete, hpart, s.touchIdle.get_flushed_flushPort p⟩
  · exact ⟨_, congrArg Host.Outcome.next (if_pos hm), doPrtEnWrite_true_spec (s := s.touchIdle) p hm⟩
  · exact ⟨_, congrArg Host.Outcome.next (if_pos hm), doPrtEnWrite_false_spec s.touchIdle p⟩
  · have hexec : doPrtSelftestStart p s.touchIdle = _ := doPrtSelftestStart_of_ne (s := s.touchIdle) hst
    have hwrites := (s.touchIdle.selftestBegins p).fencePort_writes p .selftest
    obtain ⟨hrun, hdone, hpass⟩ := s.touchIdle.selftestBegins_flags p
    obtain ⟨hstate, hqueue⟩ := (s.touchIdle.selftestBegins p).port_fencePort p .selftest
    exact ⟨_, congrArg Host.Outcome.next ((if_pos hm).trans hexec), (hwrites.flag Reg.PRT_CTRL_SELFTEST p.isLt).trans hrun,
      (hwrites.flag Reg.PRT_STATUS_SELFTEST_DONE p.isLt).trans hdone, (hwrites.flag Reg.PRT_STATUS_SELFTEST_PASS p.isLt).trans hpass, hstate, hqueue⟩
  · exact ⟨_, rfl, doPrtSelftestDone_spec corrected doubles hst hdone⟩
  · exact ⟨_, congrArg Host.Outcome.next (if_pos hm), doPrtSelftestEnd_spec (s := s.touchIdle) hst⟩

end Sys2Proof.Machine
end

section
/-! PROOFS. The receive side of a port: data flits and the commit of records (O13). -/

namespace Sys2Proof.Machine

set_option Elab.async false

/-! ## Credits of a port -/

/-- Returning credits changes of the port its link alone. -/
theorem State.port_returnCredits (s : State) (p : Fin 16) (n : Nat) :
    ∃ k, (s.returnCredits p n).port p = { s.port p with link := k } := by
  unfold State.returnCredits
  split
  · exact ⟨_, rfl⟩
  · extract_lets q _ k t
    have ht : t.port p = { s.port p with link := k } := State.port_setPort_same s p _
    split
    · rw [Fin.ofNat_val_sixteen]
      unfold State.sendCredit
      extract_lets k'
      split
      · exact ⟨_, ht⟩
      · refine ⟨{ k' with sinceCredit := 0 }, ?_⟩
        have hset : (t.setLink (.port p) { k' with sinceCredit := 0 }).port p = { t.port p with link := { k' with sinceCredit := 0 } } :=
          State.port_setPort_same t p _
        exact hset.trans (by rw [ht])
    · exact ⟨_, ht⟩

theorem State.get_inHeld_returnCredits {s : State} {p : Fin 16} (hup : s.portUp p = true) (n : Nat) :
    (s.returnCredits p n).get Reg.PRT_CREDIT_IN_HELD p = (s.get Reg.PRT_CREDIT_IN_HELD p + n) % 2 ^ 13 := by
  unfold State.returnCredits
  rw [if_neg (by simp [hup])]
  extract_lets q _ k t
  have ht : t.get Reg.PRT_CREDIT_IN_HELD p = (s.get Reg.PRT_CREDIT_IN_HELD p + n) % 2 ^ 13 := State.get_put_same _ _ _ _ _
  split
  · exact ((WritesAt.of_within p State.sendCredit_within).get Reg.PRT_CREDIT_IN_HELD p.isLt).trans ht
  · exact ht

/-- The credit of a flit that the device discards is spent and returned at once. -/
theorem State.get_inHeld_discardFlit {s : State} {p : Fin 16} (hup : s.portUp p = true) (hheld : s.get Reg.PRT_CREDIT_IN_HELD p < 2 ^ 13)
    (hne : s.get Reg.PRT_CREDIT_IN_HELD p ≠ 0) :
    (s.discardFlit p).get Reg.PRT_CREDIT_IN_HELD p = s.get Reg.PRT_CREDIT_IN_HELD p := by
  unfold State.discardFlit
  have hspent : (s.put Reg.PRT_CREDIT_IN_HELD (s.get Reg.PRT_CREDIT_IN_HELD p - 1) p).get Reg.PRT_CREDIT_IN_HELD p =
      s.get Reg.PRT_CREDIT_IN_HELD p - 1 := (State.get_put_same ..).trans (Nat.mod_eq_of_lt ((Nat.sub_le _ _).trans_lt hheld))
  rw [if_neg hne, State.get_inHeld_returnCredits (s := s.put _ _ _) hup, hspent, Nat.sub_add_cancel (Nat.one_le_iff_ne_zero.2 hne),
    Nat.mod_eq_of_lt hheld]

theorem State.discardFlit_keepsPort (s : State) (p : Fin 16) : KeepsPort p s (s.discardFlit p) := by
  unfold State.discardFlit
  exact .ite .refl ((KeepsPort.of_within State.put_within).trans (State.returnCredits_keepsPort _ p 1))

theorem State.countViolation_keepsPort (s : State) (p : Fin 16) : KeepsPort p s (s.countViolation p) := by
  unfold State.countViolation
  exact .ite .refl (((KeepsPort.setPort (v := { s.port p with viol := true })).trans (.of_within State.bump_within)).trans
    (.of_within State.raiseEp_within))

theorem State.get_violations_countViolation {s : State} {p : Fin 16} (h : (s.port p).viol = false) :
    (s.countViolation p).get Reg.PRT_CNT_CREDIT_VIOL_COUNT p =
      min (s.get Reg.PRT_CNT_CREDIT_VIOL_COUNT p + 1) Reg.PRT_CNT_CREDIT_VIOL_COUNT.max := by
  unfold State.countViolation
  rw [h, if_neg Bool.false_ne_true]
  refine ((WritesAt.raiseEp _ _ p).get Reg.PRT_CNT_CREDIT_VIOL_COUNT p.isLt).trans ?_
  exact State.get_bump_same _ _ _ _ _

theorem State.dropFlit_keepsPort (s : State) (p : Fin 16) : KeepsPort p s (s.dropFlit p) := by
  unfold State.dropFlit
  exact .ite (s.countViolation_keepsPort p) (s.discardFlit_keepsPort p)

/-! ## Data flits -/

/-- The port has counted a flit as received. -/
def State.received (s : State) (p : Nat) : State :=
  s.setPort p { s.port p with link := { (s.port p).link with rxFlits := ((s.port p).link.rxFlits + 1) % 2 ^ 32 } }

@[simp] theorem State.port_received (s : State) (p : Nat) : (s.received p).port p =
    { s.port p with link := { (s.port p).link with rxFlits := ((s.port p).link.rxFlits + 1) % 2 ^ 32 } } := State.port_setPort_same ..

theorem State.received_within (s : State) (p : Nat) : Within [.ports] s (s.received p) := State.setPort_within

theorem State.portUp_received (s : State) (p : Nat) : (s.received p).portUp p = s.portUp p := by
  unfold State.portUp
  rw [State.port_received]

theorem State.received_others (s : State) (p : Nat) : OtherPorts p s (s.received p) := OtherPorts.setPort

/-- A flit that is counted and then stored, discarded or counted as a violation. -/
theorem doDataFlit_of_up {s : State} {p : Fin 16} (f : Flit) (hup : s.portUp p = true) : doDataFlit p f s =
    if s.flag Reg.PRT_STATUS_RESYNC p then (s.received p).dropFlit p
    else if 0 < (s.port p).skip then
      ((s.received p).dropFlit p).setPort p { ((s.received p).dropFlit p).port p with skip := (s.port p).skip - 1 }
    else if s.get Reg.PRT_CREDIT_IN_HELD p = 0 then (s.received p).creditViolation p f
    else (s.received p).storeFlit p f := by
  unfold doDataFlit
  rw [if_neg (by simp [hup])]
  rfl

/-- A port that discards a flit, in resync or by framing, keeps its records. -/
structure FlitDropped (p : Fin 16) (s t : State) : Prop where
  kept : KeepsPort p (s.received p) t
  held : s.get Reg.PRT_CREDIT_IN_HELD p ≠ 0 → t.get Reg.PRT_CREDIT_IN_HELD p = s.get Reg.PRT_CREDIT_IN_HELD p

theorem State.dropFlit_received {s : State} {p : Fin 16} (hup : s.portUp p = true) (hheld : s.get Reg.PRT_CREDIT_IN_HELD p < 2 ^ 13) :
    FlitDropped p s ((s.received p).dropFlit p) := by
  refine ⟨(s.received p).dropFlit_keepsPort p, fun hne => ?_⟩
  unfold State.dropFlit
  rw [if_neg (show ¬ (s.received p).get Reg.PRT_CREDIT_IN_HELD p = 0 from hne)]
  exact State.get_inHeld_discardFlit (by rw [State.portUp_received]; exact hup) hheld hne

theorem doDataFlit_dropped {s : State} {p : Fin 16} (f : Flit) (hup : s.portUp p = true) (hheld : s.get Reg.PRT_CREDIT_IN_HELD p < 2 ^ 13)
    (hdrop : s.flag Reg.PRT_STATUS_RESYNC p = true ∨ 0 < (s.port p).skip) : FlitDropped p s (doDataFlit p f s) := by
  have hdropped := State.dropFlit_received hup hheld
  rw [doDataFlit_of_up f hup]
  split
  case isTrue => exact hdropped
  case isFalse hresync =>
    rw [if_pos (hdrop.resolve_left hresync)]
    exact ⟨hdropped.kept.trans (KeepsPort.setPort (v := { ((s.received p).dropFlit p).port p with skip := _ })), hdropped.held⟩

/-- A flit without credit leaves no record in reception, and is counted. -/
theorem doDataFlit_violation {s : State} {p : Fin 16} (f : Flit) (hup : s.portUp p = true) (hresync : s.flag Reg.PRT_STATUS_RESYNC p = false)
    (hskip : (s.port p).skip = 0) (hheld : s.get Reg.PRT_CREDIT_IN_HELD p = 0) :
    KeepsPort p ((s.received p).noPart p) (doDataFlit p f s) ∧
    (doDataFlit p f s).get Reg.PRT_CNT_CREDIT_VIOL_COUNT p =
      min (s.get Reg.PRT_CNT_CREDIT_VIOL_COUNT p + 1) Reg.PRT_CNT_CREDIT_VIOL_COUNT.max := by
  have hstep : doDataFlit p f s = (s.received p).creditViolation p f := by
    rw [doDataFlit_of_up f hup, hresync, hskip, if_neg Bool.false_ne_true, if_neg (Nat.lt_irrefl 0), if_pos hheld]
  rw [hstep]
  unfold State.creditViolation
  extract_lets q rest
  obtain ⟨k, hk⟩ := State.port_returnCredits ((s.received p).setPort p { q with part := [], partLen := 0, skip := rest, viol := false }) p
    q.part.length
  constructor
  · refine KeepsPort.trans ?_ ((State.returnCredits_keepsPort _ p _).trans (State.countViolation_keepsPort _ p))
    unfold State.noPart
    refine ⟨?_, ?_, ?_, ?_, ?_, ?_, ?_, ?_, ?_, fun q hq => ?_⟩
    case refine_10 => rw [State.port_setPort_ne _ _ (Ne.symm hq), State.port_setPort_ne _ _ (Ne.symm hq)]
    all_goals rw [State.port_setPort_same, State.port_setPort_same]
  · rw [State.get_violations_countViolation (by rw [hk, State.port_setPort_same]),
      (State.returnCredits_writes _ p _).get Reg.PRT_CNT_CREDIT_VIOL_COUNT p.isLt]
    rfl

/-- A port that stores a flit. -/
theorem doDataFlit_stored {s : State} {p : Fin 16} (f : Flit) (hup : s.portUp p = true) (hresync : s.flag Reg.PRT_STATUS_RESYNC p = false)
    (hskip : (s.port p).skip = 0) (hheld : s.get Reg.PRT_CREDIT_IN_HELD p ≠ 0) : doDataFlit p f s = (s.received p).storeFlit p f := by
  rw [doDataFlit_of_up f hup, hresync, hskip, if_neg Bool.false_ne_true, if_neg (Nat.lt_irrefl 0), if_neg hheld]

/-- The flits of the record in reception with one more. -/
def PortSt.longer (q : PortSt) (f : Flit) : List QFlit := q.part ++ [QFlit.ofFlit f]

/-- The flits that the record in reception is to have. -/
def PortSt.length (q : PortSt) (f : Flit) : Nat := if q.part.isEmpty then hdrFlits f else q.partLen

theorem State.port_storeFlit (s : State) (p : Nat) (f : Flit) : (s.storeFlit p f).port p =
    if ((s.port p).longer f).length = (s.port p).length f then
      { s.port p with part := [], partLen := 0, complete := (s.port p).complete ++ [((s.port p).longer f, recCrcOk (((s.port p).longer f).map QFlit.flit))] }
    else { s.port p with part := (s.port p).longer f, partLen := (s.port p).length f, viol := false } := State.port_setPort_same ..

/-- The record in reception once the port has stored a flit. -/
theorem State.port_storeFlit_received (s : State) (p : Nat) (f : Flit) :
    (((s.port p).longer f).length = (s.port p).length f → (((s.received p).storeFlit p f).port p).part = [] ∧
      (((s.received p).storeFlit p f).port p).complete =
        (s.port p).complete ++ [((s.port p).longer f, recCrcOk (((s.port p).longer f).map QFlit.flit))]) ∧
    (((s.port p).longer f).length ≠ (s.port p).length f → (((s.received p).storeFlit p f).port p).part = (s.port p).longer f ∧
      (((s.received p).storeFlit p f).port p).partLen = (s.port p).length f ∧
      (((s.received p).storeFlit p f).port p).complete = (s.port p).complete) := by
  have hlonger : ((s.received p).port p).longer f = (s.port p).longer f := by rw [State.port_received]; rfl
  have hlength : ((s.received p).port p).length f = (s.port p).length f := by rw [State.port_received]; rfl
  rw [State.port_storeFlit, hlonger, hlength, State.port_received]
  constructor
  · intro hlast
    rw [if_pos hlast]
    exact ⟨rfl, rfl⟩
  · intro hmore
    rw [if_neg hmore]
    exact ⟨rfl, rfl, rfl⟩

theorem State.storeFlit_others (s : State) (p : Nat) (f : Flit) : OtherPorts p s (s.storeFlit p f) := fun _ hq =>
  State.port_setPort_ne (s.put Reg.PRT_CREDIT_IN_HELD (s.get Reg.PRT_CREDIT_IN_HELD p - 1) p) _ (Ne.symm hq)

theorem State.get_inHeld_storeFlit {s : State} {p : Nat} (f : Flit) (h : s.get Reg.PRT_CREDIT_IN_HELD p < 2 ^ 13) :
    (s.storeFlit p f).get Reg.PRT_CREDIT_IN_HELD p = s.get Reg.PRT_CREDIT_IN_HELD p - 1 :=
  (State.get_put_same s Reg.PRT_CREDIT_IN_HELD _ p 0).trans (Nat.mod_eq_of_lt ((Nat.sub_le _ _).trans_lt h))

/-- What a flit does to a port that stores it, beside the record in reception. -/
theorem State.storeFlit_received (s : State) (p : Fin 16) (f : Flit) :
    (((s.received p).storeFlit p f).port p).link.rxFlits = ((s.port p).link.rxFlits + 1) % 2 ^ 32 ∧
    (((s.received p).storeFlit p f).port p).queue = (s.port p).queue := by
  rw [State.port_storeFlit, State.port_received]
  split <;> exact ⟨rfl, rfl⟩

/-- Every flit that a port in UP receives is counted, and leaves the queue and the other ports. -/
theorem doDataFlit_received {s : State} {p : Fin 16} (f : Flit) (hup : s.portUp p = true) (hheld : s.get Reg.PRT_CREDIT_IN_HELD p < 2 ^ 13) :
    ((doDataFlit p f s).port p).link.rxFlits = ((s.port p).link.rxFlits + 1) % 2 ^ 32 ∧
    ((doDataFlit p f s).port p).queue = (s.port p).queue ∧ ∀ q, q ≠ p.val → (doDataFlit p f s).port q = s.port q := by
  by_cases hdrop : s.flag Reg.PRT_STATUS_RESYNC p = true ∨ 0 < (s.port p).skip
  · obtain ⟨hkept, -⟩ := doDataFlit_dropped f hup hheld hdrop
    exact ⟨hkept.rxFlits.trans (by rw [State.port_received]), hkept.queue.trans (by rw [State.port_received]),
      fun q hq => (hkept.others q hq).trans (s.received_others p q hq)⟩
  · have hresync : s.flag Reg.PRT_STATUS_RESYNC p = false := Bool.eq_false_iff.2 fun h => hdrop (.inl h)
    have hskip : (s.port p).skip = 0 := Nat.eq_zero_of_not_pos fun h => hdrop (.inr h)
    by_cases hzero : s.get Reg.PRT_CREDIT_IN_HELD p = 0
    · obtain ⟨hkept, -⟩ := doDataFlit_violation f hup hresync hskip hzero
      refine ⟨hkept.rxFlits.trans ?_, hkept.queue.trans ?_, fun q hq => (hkept.others q hq).trans ?_⟩
      · rw [State.noPart, State.port_setPort_same, State.port_received]
      · rw [State.noPart, State.port_setPort_same, State.port_received]
      · exact (State.port_setPort_ne _ _ (Ne.symm hq)).trans (s.received_others p q hq)
    · rw [doDataFlit_stored f hup hresync hskip hzero]
      obtain ⟨hrx, hqueue⟩ := s.storeFlit_received p f
      exact ⟨hrx, hqueue, fun q hq => ((s.received p).storeFlit_others p f q hq).trans (s.received_others p q hq)⟩

/-! ## The commit of records -/

/-- The port without its oldest complete record. -/
def State.takeComplete (s : State) (p : Nat) (rest : List (List QFlit × Bool)) : State := s.setPort p { s.port p with complete := rest }

@[simp] theorem State.port_takeComplete (s : State) (p : Nat) (rest : List (List QFlit × Bool)) :
    (s.takeComplete p rest).port p = { s.port p with complete := rest } := State.port_setPort_same ..

theorem doRecordCommit_cons {s : State} {p : Fin 16} {fl : List QFlit} {ok : Bool} {rest : List (List QFlit × Bool)}
    (h : (s.port p).complete = (fl, ok) :: rest) : doRecordCommit p s = (s.takeComplete p rest).commitRecord p fl ok := by
  unfold doRecordCommit
  dsimp only
  rw [h]
  rfl

theorem doRecordCommit_nil {s : State} {p : Fin 16} (h : (s.port p).complete = []) : doRecordCommit p s = s := by
  unfold doRecordCommit
  dsimp only
  rw [h]

theorem State.get_inHeld_rewound {s : State} {p : Fin 16} (hup : s.portUp p = true) (n : Nat) :
    (s.rewound p n).get Reg.PRT_CREDIT_IN_HELD p = (s.get Reg.PRT_CREDIT_IN_HELD p + n) % 2 ^ 13 := by
  unfold State.rewound
  extract_lets q t
  have hupt : (t.bump Reg.PRT_CNT_REWIND_COUNT 1 p).portUp p = true := by
    rw [show (t.bump Reg.PRT_CNT_REWIND_COUNT 1 p).portUp p = t.portUp p from rfl, State.portUp, State.port_setPort_same]
    exact hup
  rw [(WritesAt.raiseEp _ _ p).get Reg.PRT_CREDIT_IN_HELD p.isLt, State.get_inHeld_returnCredits hupt,
    (WritesAt.bump Reg.PRT_CNT_REWIND_COUNT 1 p).get Reg.PRT_CREDIT_IN_HELD p.isLt]
  rfl

theorem State.get_rewinds_rewound (s : State) (p : Fin 16) (n : Nat) : (s.rewound p n).get Reg.PRT_CNT_REWIND_COUNT p =
    min (s.get Reg.PRT_CNT_REWIND_COUNT p + 1) Reg.PRT_CNT_REWIND_COUNT.max := by
  unfold State.rewound
  extract_lets q t
  rw [(WritesAt.raiseEp _ _ p).get Reg.PRT_CNT_REWIND_COUNT p.isLt,
    (State.returnCredits_writes _ p n).get Reg.PRT_CNT_REWIND_COUNT p.isLt, State.get_bump_same]
  rfl

/-- A record with bad header words is counted, as committed and as poisoned, and its credits go back. -/
theorem State.commitRecord_poisoned (s : State) (p : Fin 16) {fl : List QFlit} (hbad : headBad fl = true) :
    KeepsPort p s (s.commitRecord p fl true) ∧
    (s.commitRecord p fl true).get Reg.PRT_CNT_RECORDS_COUNT p = min (s.get Reg.PRT_CNT_RECORDS_COUNT p + 1) Reg.PRT_CNT_RECORDS_COUNT.max ∧
    (s.commitRecord p fl true).get Reg.PRT_CNT_POISON_COUNT p = min (s.get Reg.PRT_CNT_POISON_COUNT p + 1) Reg.PRT_CNT_POISON_COUNT.max := by
  have hcommit : s.commitRecord p fl true = (((s.bump Reg.PRT_CNT_RECORDS_COUNT 1 p).dropRecord p fl.length).bump
      Reg.PRT_CNT_POISON_COUNT 1 p).raiseEp (Ev.POISON p) := by
    unfold State.commitRecord
    dsimp only
    rw [if_neg (by decide), if_pos hbad]
  rw [hcommit]
  refine ⟨?_, ?_, ?_⟩
  · exact (((KeepsPort.of_within State.bump_within).trans (State.returnCredits_keepsPort _ p _)).trans (.of_within State.bump_within)).trans
      (.of_within State.raiseEp_within)
  · rw [(WritesAt.raiseEp _ _ p).get Reg.PRT_CNT_RECORDS_COUNT p.isLt,
      (WritesAt.bump Reg.PRT_CNT_POISON_COUNT 1 p).get Reg.PRT_CNT_RECORDS_COUNT p.isLt, State.dropRecord,
      (State.returnCredits_writes _ p _).get Reg.PRT_CNT_RECORDS_COUNT p.isLt, State.get_bump_same]
  · rw [(WritesAt.raiseEp _ _ p).get Reg.PRT_CNT_POISON_COUNT p.isLt, State.get_bump_same, State.dropRecord,
      (State.returnCredits_writes _ p _).get Reg.PRT_CNT_POISON_COUNT p.isLt,
      (WritesAt.bump Reg.PRT_CNT_RECORDS_COUNT 1 p).get Reg.PRT_CNT_POISON_COUNT p.isLt]

/-- A record committed: counted, its SEQ checked. -/
def State.counted (s : State) (p : Nat) (fl : List QFlit) : State :=
  (s.bump Reg.PRT_CNT_RECORDS_COUNT 1 p).countGap p (recSeq (fl.map QFlit.flit))

theorem State.countGap_writes (s : State) (p seq : Nat) : WritesAt [Reg.PRT_CNT_SEQGAP_COUNT] [] p s (s.countGap p seq) := by
  unfold State.countGap
  dsimp only
  split
  · exact Writes.of_regs rfl
  · exact Writes.trans (Writes.of_regs rfl) (Writes.bump _ _ p 0)

theorem State.port_countGap (s : State) (p seq : Nat) : (s.countGap p seq).port p = { s.port p with prevSeq := some seq } := by
  unfold State.countGap
  dsimp only
  split
  · exact State.port_setPort_same ..
  · exact (State.bump_within.port p).trans (State.port_setPort_same ..)

theorem State.counted_within (s : State) (p : Nat) (fl : List QFlit) : Within [.ports, .regs] s (s.counted p fl) :=
  (Within.refl.step State.bump_within).step State.countGap_within

/-- The queue's record of a committed record that is admitted, or waits for admission. -/
def State.admitted (s : State) (fl : List QFlit) : QRec :=
  { flits := fl, admitAt := if s.mode = .service ∧ s.tick.open_ = true then
      some (admitTick (recStamp (fl.map QFlit.flit)) s.openTickNo (s.get Reg.TCK_AHEAD_AHEAD_MAX)).1 else none }

theorem State.port_admitRecord (s : State) (p : Nat) (fl : List QFlit) :
    (s.admitRecord p fl).port p = { s.port p with queue := (s.port p).queue ++ [s.admitted fl] } := by
  have hadmitting : (s.admitting = true) = (s.mode = .service ∧ s.tick.open_ = true) := by simp [State.admitting]
  have hport := State.port_setPort_same s p { s.port p with queue := (s.port p).queue ++ [s.admitted fl] }
  unfold State.admitRecord
  dsimp only
  rw [if_congr (iff_of_eq hadmitting) rfl rfl]
  split
  · exact (State.raiseRate_within.port p).trans ((State.bump_within.port p).trans hport)
  · exact hport

theorem State.admitRecord_writes (s : State) (p : Nat) (fl : List QFlit) :
    WritesAt [] [Reg.TCK_CNT_AHEAD_COUNT] p s (s.admitRecord p fl) := by
  unfold State.admitRecord
  extract_lets st a adm _ t
  have hset : WritesAt [] [Reg.TCK_CNT_AHEAD_COUNT] p s t := (State.setPort_writes s p _).mono (List.nil_subset _)
  exact Writes.ite ((hset.step (Writes.bump _ _ 0 0)).step (Writes.raiseRate _)) hset

/-- Counting a record changes nothing that its admission depends on. -/
theorem State.admitted_counted (s : State) (p : Fin 16) (fl fl' : List QFlit) : (s.counted p fl').admitted fl = s.admitted fl := by
  have hwithin := s.counted_within p fl'
  have hclock : s.clock = (s.counted p fl').clock := hwithin.same .clock
  have hmode : s.mode = (s.counted p fl').mode := hwithin.same .mode
  have htick : s.tick = (s.counted p fl').tick := hwithin.same .tick
  have hwrites : WritesAt [Reg.PRT_CNT_RECORDS_COUNT, Reg.PRT_CNT_SEQGAP_COUNT] [] p s (s.counted p fl') :=
    (Writes.refl.step (Writes.bump _ _ p 0)).step (State.countGap_writes _ p _)
  have hperiod : (s.counted p fl').period = s.period := hwrites.fixed Reg.TCK_MEAS_PMEAS p.isLt
  have hguard : (s.counted p fl').guardCycles = s.guardCycles := by
    unfold State.guardCycles
    rw [hperiod, hwrites.fixed Reg.TCK_GUARD_GUARD p.isLt]
  have hopen : (s.counted p fl').openTickNo = s.openTickNo := by
    unfold State.openTickNo
    rw [← hclock, ← htick, hguard]
  unfold State.admitted
  rw [← hmode, ← htick, hopen, hwrites.fixed Reg.TCK_AHEAD_AHEAD_MAX p.isLt]

theorem State.commitRecord_badCrc (s : State) (p : Nat) (fl : List QFlit) : s.commitRecord p fl false = s.rewound p fl.length := by
  unfold State.commitRecord
  dsimp only
  rw [if_pos rfl]

/-- A good record is counted and admitted, outside entry to dormancy and before a joining target. -/
theorem State.commitRecord_good {s : State} (p : Fin 16) {fl : List QFlit} (hgood : headBad fl = false) (hphase : s.dorm.phase ≠ .entering)
    (hjoin : s.seam.pair = .target → ∃ j, s.seam.joinAt = some j ∧ tickLater j (recStamp (fl.map QFlit.flit)) = false) :
    s.commitRecord p fl true = (s.counted p fl).admitRecord p fl := by
  have hwithin := s.counted_within p fl
  have hdorm : s.dorm = (s.counted p fl).dorm := hwithin.same .dorm
  unfold State.commitRecord
  dsimp only
  rw [if_neg (by decide), if_neg (by simp [hgood]), if_neg hphase, if_neg]
  · rfl
  · rintro ⟨hpair, hlate⟩
    obtain ⟨j, hj, hstamp⟩ := hjoin hpair
    rw [hj] at hlate
    exact Bool.noConfusion (hstamp.symm.trans hlate)

theorem State.port_counted (s : State) (p : Nat) (fl : List QFlit) :
    (s.counted p fl).port p = { s.port p with prevSeq := some (recSeq (fl.map QFlit.flit)) } :=
  State.port_countGap (s.bump Reg.PRT_CNT_RECORDS_COUNT 1 p) p _

theorem State.get_records_admitRecord_counted (s : State) (p : Fin 16) (fl : List QFlit) :
    ((s.counted p fl).admitRecord p fl).get Reg.PRT_CNT_RECORDS_COUNT p =
      min (s.get Reg.PRT_CNT_RECORDS_COUNT p + 1) Reg.PRT_CNT_RECORDS_COUNT.max := by
  rw [(State.admitRecord_writes _ p fl).get Reg.PRT_CNT_RECORDS_COUNT p.isLt, State.counted,
    (State.countGap_writes _ p _).get Reg.PRT_CNT_RECORDS_COUNT p.isLt, State.get_bump_same]

theorem State.port_admitRecord_counted (s : State) (p : Fin 16) (fl : List QFlit) :
    ((s.counted p fl).admitRecord p fl).port p = { s.port p with
      prevSeq := some (recSeq (fl.map QFlit.flit)), queue := (s.port p).queue ++ [s.admitted fl] } := by
  rw [State.port_admitRecord, State.port_counted, State.admitted_counted]

/-- Settles O13, by the way a flit of a port in UP takes (stored, dropped or cut off), and by the outcome of the oldest complete record. -/
theorem recordsArriveAndCommit : Obligations.RecordsArriveAndCommit := by
  unfold Obligations.RecordsArriveAndCommit
  refine ⟨fun s p f hheld => ⟨fun hdown => congrArg Host.Outcome.next (if_pos hdown), fun hup => ?_⟩,
    fun s p fl rest hcomplete => ⟨fun hgood hphase hjoin => ?_, fun hbad => ?_⟩, fun s p fl rest hcomplete => ?_, fun s p hcomplete => ?_⟩
  · obtain ⟨hrx, hqueue, hothers⟩ := doDataFlit_received f hup hheld
    refine ⟨_, rfl, hrx, hqueue, hothers, fun fl len hresync hskip hne hfl hlen => ?_, fun hdrop hne => ?_, fun hresync hskip hzero => ?_⟩
    · obtain ⟨hlast, hmore⟩ := s.port_storeFlit_received p f
      subst hfl hlen
      rw [doDataFlit_stored f hup hresync hskip hne]
      refine ⟨State.get_inHeld_storeFlit (s := s.received p) f hheld, hlast, hmore,
        ((Within.refl (w := [.regs, .ports])).step (s.received_within p) |>.step State.storeFlit_within).eq_update Within.refl.upd⟩
    · obtain ⟨hkept, hsame⟩ := doDataFlit_dropped f hup hheld hdrop
      exact ⟨hsame hne, hkept.part.trans (by rw [State.port_received]), hkept.complete.trans (by rw [State.port_received])⟩
    · obtain ⟨hkept, hcount⟩ := doDataFlit_violation f hup hresync hskip hzero
      refine ⟨hkept.part.trans ?_, hkept.complete.trans ?_, hcount⟩
      · rw [State.noPart, State.port_setPort_same]
      · rw [State.noPart, State.port_setPort_same, State.port_received]
  · have hexec : doRecordCommit p s = _ := (doRecordCommit_cons hcomplete).trans
      (State.commitRecord_good (s := s.takeComplete p rest) p hgood hphase hjoin)
    have hport := (s.takeComplete p rest).port_admitRecord_counted p fl
    rw [State.port_takeComplete] at hport
    refine ⟨_, congrArg Host.Outcome.next hexec, ?_, (s.takeComplete p rest).get_records_admitRecord_counted p fl, ?_, ?_⟩
    · rw [hport]
    · rw [hport]
    · rw [hport]
      rfl
  · have hexec := doRecordCommit_cons hcomplete
    obtain ⟨hkept, hrecords, hpoison⟩ := (s.takeComplete p rest).commitRecord_poisoned p hbad
    exact ⟨_, congrArg Host.Outcome.next hexec, hkept.complete.trans (by rw [State.port_takeComplete]),
      hkept.queue.trans (by rw [State.port_takeComplete]), hrecords, hpoison⟩
  · have hexec : doRecordCommit p s = (s.takeComplete p rest).rewound p fl.length :=
      (doRecordCommit_cons hcomplete).trans (State.commitRecord_badCrc _ p fl)
    have hkept := (s.takeComplete p rest).rewound_keepsPort p fl.length
    refine ⟨_, congrArg Host.Outcome.next hexec, hkept.complete.trans (by rw [State.port_takeComplete]),
      hkept.queue.trans (by rw [State.port_takeComplete]), (s.takeComplete p rest).get_rewinds_rewound p fl.length, fun hup => ?_⟩
    refine State.get_inHeld_rewound (s := s.takeComplete p rest) ?_ fl.length
    rw [State.portUp, State.port_takeComplete]
    exact hup
  · exact congrArg Host.Outcome.next (doRecordCommit_nil hcomplete)

end Sys2Proof.Machine
end

section
/-! PROOFS. Link flits on every kind of link (O14). -/

namespace Sys2Proof.Machine

set_option Elab.async false

/-! ## The fields of a link flit on the wire -/

theorem LinkFlit.toNat_flit {f : LinkFlit} (h : f.word < 2 ^ 256) : f.flit.toNat = f.word := by
  rw [LinkFlit.flit, BitVec.toNat_ofNat, Nat.mod_eq_of_lt h]

theorem bits_eq_div {n : Nat} (w : BitVec n) (hi lo : Nat) : bits w hi lo = w.toNat / 2 ^ lo % 2 ^ (hi + 1 - lo) := by
  rw [bits, Nat.shiftRight_eq_div_pow]

theorem bitOf_eq_div {n : Nat} (w : BitVec n) (i : Nat) : bitOf w i = decide (w.toNat / 2 ^ i % 2 = 1) := by
  rw [bitOf, BitVec.getLsbD, Nat.testBit_eq_decide_div_mod_eq]

theorem hello_flit (port : Nat) (a : Bool) : Lf.kind (LinkFlit.hello port a).flit = 1 ∧ Lf.version (LinkFlit.hello port a).flit = 1 ∧
    Lf.port (LinkFlit.hello port a).flit = port % 16 ∧ Lf.ack (LinkFlit.hello port a).flit = a ∧
    Lf.grant (LinkFlit.hello port a).flit = 0 := by
  have hword : (LinkFlit.hello port a).flit.toNat = 257 + port % 16 * 65536 + (if a then 1048576 else 0) := by
    rw [LinkFlit.toNat_flit]
    · rfl
    · cases a <;> simp only [LinkFlit.word, Bool.false_eq_true, if_false, if_true] <;> omega
  simp only [Lf.kind, Lf.version, Lf.port, Lf.ack, Lf.grant, bits_eq_div, bitOf_eq_div, hword]
  cases a
  · simp only [Bool.false_eq_true, if_false, decide_eq_false_iff_not]
    omega
  · simp only [if_true, decide_eq_true_eq]
    omega

theorem credit_flit (cum : Nat) : Lf.kind (LinkFlit.credit cum).flit = 2 ∧ Lf.cum (LinkFlit.credit cum).flit = cum % 2 ^ 32 := by
  have hword : (LinkFlit.credit cum).flit.toNat = 2 + cum % 4294967296 * 256 := by
    rw [LinkFlit.toNat_flit]
    · rfl
    · simp only [LinkFlit.word]
      omega
  simp only [Lf.kind, Lf.cum, bits_eq_div, hword]
  omega

theorem tick_flit (n : Tick) (o : Bool) : Lf.kind (LinkFlit.tick n o).flit = 3 ∧ Lf.tick (LinkFlit.tick n o).flit = n % 2 ^ 48 ∧
    Lf.admitOpen (LinkFlit.tick n o).flit = o := by
  have hword : (LinkFlit.tick n o).flit.toNat = 3 + n % 281474976710656 * 256 + (if o then 72057594037927936 else 0) := by
    rw [LinkFlit.toNat_flit]
    · rfl
    · cases o <;> simp only [LinkFlit.word, Bool.false_eq_true, if_false, if_true] <;> omega
  simp only [Lf.kind, Lf.tick, Lf.admitOpen, bits_eq_div, bitOf_eq_div, hword]
  cases o
  · simp only [Bool.false_eq_true, if_false, decide_eq_false_iff_not]
    omega
  · simp only [if_true, decide_eq_true_eq]
    omega

theorem align_flit (lane n : Nat) : Lf.kind (LinkFlit.align lane n).flit = 4 ∧ Lf.lane (LinkFlit.align lane n).flit = lane % 2 ∧
    Lf.count (LinkFlit.align lane n).flit = n % 2 ^ 16 := by
  have hword : (LinkFlit.align lane n).flit.toNat = 4 + lane % 2 * 256 + n % 65536 * 65536 := by
    rw [LinkFlit.toNat_flit]
    · rfl
    · simp only [LinkFlit.word]
      omega
  simp only [Lf.kind, Lf.lane, Lf.count, bits_eq_div, hword]
  omega

/-- A 257-bit block gives back its flit and its type. -/
theorem block_flit (link : Bool) (f : Flit) : blockFlit (block link f) = f ∧ blockLink (block link f) = link := by
  have hbound : f.toNat < 2 ^ 256 := f.isLt
  have hword : (block link f).toNat = (if link then 1 else 0) + 2 * f.toNat := by
    rw [block, BitVec.toNat_ofNat, Nat.mod_eq_of_lt]
    cases link <;> simp only [Bool.false_eq_true, if_false, if_true] <;> omega
  constructor
  · apply BitVec.eq_of_toNat_eq
    rw [blockFlit, BitVec.toNat_ofNat, hword]
    cases link <;> simp only [Bool.false_eq_true, if_false, if_true] <;> omega
  · rw [blockLink, bitOf_eq_div, hword]
    cases link
    · simp only [Bool.false_eq_true, if_false, decide_eq_false_iff_not]
      omega
    · simp only [if_true, decide_eq_true_eq]
      omega

/-! ## Links -/

theorem State.setLink_regs (s : State) (l : Link) (k : LinkSt) : (s.setLink l k).regs = s.regs := by
  cases l <;> rfl

theorem State.setLink_out (s : State) (l : Link) (k : LinkSt) : (s.setLink l k).out = s.out := by
  cases l <;> rfl

theorem State.link_emit (s : State) (o : Output) : (s.emit o).link = s.link := by
  funext l
  cases l <;> rfl

theorem State.link_sendLink (s : State) (l : Link) (f : LinkFlit) : (s.sendLink l f).link = s.link := State.link_emit s _

/-- A CREDIT flit that goes out starts the count towards the next one, and changes nothing else of the link. -/
theorem State.link_sendCredit (s : State) (l : Link) :
    (s.sendCredit l).link l = s.link l ∨ (s.sendCredit l).link l = { s.link l with sinceCredit := 0 } := by
  unfold State.sendCredit
  extract_lets k
  split
  · exact .inl rfl
  · right
    rw [State.link_sendLink, State.link_setLink_same]

theorem State.txLane_eq {s t : State} (l : Link) (hclock : t.clock = s.clock) (haligned : (t.link l).aligned = (s.link l).aligned) :
    t.txLane l = s.txLane l := by
  unfold State.txLane
  rw [hclock, haligned]

/-- A port's link flit on its way out. -/
theorem State.out_sendLink (s : State) (l : Link) (f : LinkFlit) : (s.sendLink l f).out = .link l (s.txLane l) f.flit :: s.out := rfl

/-! ## CREDIT -/

theorem doCredit_port {s : State} {p : Fin 16} {f : Flit} (hup : s.portUp p = true) (hkind : Lf.kind f = kCredit) :
    doCredit (.port p) f s = s.setPort p { s.port p with
      link := { (s.port p).link with
        cumRx := Lf.cum f, newCredit := (s.port p).link.newCredit + (Lf.cum f + 2 ^ 32 - (s.port p).link.cumRx) % 2 ^ 32 } } := by
  refine if_neg ?_
  rintro (hst | hne)
  · exact hst (beq_iff_eq.1 hup)
  · exact hne hkind

theorem doCredit_seam {s : State} {f : Flit} (hup : s.seam.link.st = .up) (hkind : Lf.kind f = kCredit) :
    doCredit .seam f s = (s.setLink .seam { s.seam.link with cumRx := Lf.cum f }).seamCredit
      ((Lf.cum f + 2 ^ 32 - s.seam.link.cumRx) % 2 ^ 32) := by
  refine if_neg ?_
  rintro (hst | hne)
  · exact hst hup
  · exact hne hkind

/-- Sending to the twin takes nothing back, and leaves the seam's link. -/
theorem State.sendSeam_grows (s : State) (m : SeamOut) : (∀ o ∈ s.out, o ∈ (s.sendSeam m).out) ∧ (s.sendSeam m).seam.link = s.seam.link := by
  unfold State.sendSeam
  split
  · exact ⟨fun o ho => List.mem_cons_of_mem _ ho, rfl⟩
  · exact ⟨fun o ho => ho, rfl⟩

theorem State.sendSeams_grows (s : State) (l : List SeamOut) :
    (∀ o ∈ s.out, o ∈ (s.sendSeams l).out) ∧ (s.sendSeams l).seam.link = s.seam.link := by
  unfold State.sendSeams
  induction l generalizing s with
  | nil => exact ⟨fun _ ho => ho, rfl⟩
  | cons m l ih =>
    obtain ⟨hout, hlink⟩ := s.sendSeam_grows m
    obtain ⟨hrest, hkeep⟩ := ih (s.sendSeam m)
    exact ⟨fun o ho => hrest o (hout o ho), hkeep.trans hlink⟩

theorem State.sendSeam_of_credit {s : State} {m : SeamOut} (hcost : m.cost ≤ s.seam.credit) (hnone : s.seam.waiting = []) :
    s.sendSeam m = s.putSeam m := if_pos (.inr ⟨hcost, by rw [hnone]; rfl⟩)

/-- Credits that come back let the first message that waits leave, where they suffice for it. -/
theorem State.mem_out_seamCredit {s : State} {d : Nat} {m : SeamOut} {rest : List SeamOut} (hwaiting : s.seam.waiting = m :: rest)
    (hcost : m.cost ≤ s.seam.credit + d) : .seam (m.head s.seam.seq) m ∈ (s.seamCredit d).out := by
  unfold State.seamCredit
  rw [hwaiting]
  unfold State.sendSeams
  rw [List.foldl_cons, State.sendSeam_of_credit hcost rfl]
  exact (State.sendSeams_grows _ rest).1 _ List.mem_cons_self

/-! ## SYNC -/

/-- The link after a SYNC: lost flits are taken as spent and returned. -/
def LinkSt.synced (k : LinkSt) (f : Flit) : LinkSt :=
  { k with rxFlits := Lf.cumSent f, cumTx := (k.cumTx + syncLost (Lf.cumSent f) k.rxFlits) % 2 ^ 32,
           sinceCredit := k.sinceCredit + syncLost (Lf.cumSent f) k.rxFlits }

/-- A link that has taken a SYNC, its CREDIT flit sent when one is due. -/
def State.synced (s : State) (l : Link) (f : Flit) : State :=
  if 256 ≤ ((s.link l).synced f).sinceCredit then (s.setLink l ((s.link l).synced f)).sendCredit l else s.setLink l ((s.link l).synced f)

theorem State.link_synced (s : State) (l : Link) (f : Flit) : ((s.synced l f).link l).rxFlits = Lf.cumSent f ∧
    ((s.synced l f).link l).cumTx = ((s.link l).cumTx + syncLost (Lf.cumSent f) (s.link l).rxFlits) % 2 ^ 32 := by
  unfold State.synced
  split
  · rcases State.link_sendCredit (s.setLink l ((s.link l).synced f)) l with h | h <;> rw [h, State.link_setLink_same] <;> exact ⟨rfl, rfl⟩
  · rw [State.link_setLink_same]
    exact ⟨rfl, rfl⟩

theorem State.regs_synced (s : State) (l : Link) (f : Flit) : (s.synced l f).regs = s.regs := by
  unfold State.synced
  split
  · exact (State.sendCredit_within.same .regs : _ = ((s.setLink l ((s.link l).synced f)).sendCredit l).regs).symm.trans (s.setLink_regs l _)
  · exact s.setLink_regs l _

theorem State.queue_synced (s : State) (p : Fin 16) (f : Flit) : ((s.synced (.port p) f).port p).queue = (s.port p).queue := by
  have hset : ((s.setLink (.port p) ((s.link (.port p)).synced f)).port p).queue = (s.port p).queue :=
    (congrArg PortSt.queue (State.port_setPort_same s p _)).trans rfl
  unfold State.synced
  split
  · exact (State.sendCredit_keepsPort _ p).queue.trans hset
  · exact hset

theorem doSync_seam {s : State} {f : Flit} (hup : s.seam.link.st = .up) (hkind : Lf.kind f = kSync) : doSync .seam f s = s.synced .seam f := by
  refine if_neg ?_
  rintro (hst | hne)
  · exact hst hup
  · exact hne hkind

/-- A port that has left resync expects a header flit next. -/
def State.endResync (s : State) (p : Nat) : State :=
  if s.flag Reg.PRT_STATUS_RESYNC p then (s.put Reg.PRT_STATUS_RESYNC 0 p).setPort p { s.port p with skip := 0, viol := false } else s

theorem doSync_port {s : State} {p : Fin 16} {f : Flit} (hup : (s.link (.port p)).st = .up) (hkind : Lf.kind f = kSync) :
    doSync (.port p) f s = (s.synced (.port p) f).endResync p := by
  refine if_neg ?_
  rintro (hst | hne)
  · exact hst hup
  · exact hne hkind

theorem State.link_endResync (s : State) (p : Fin 16) : (s.endResync p).link (.port p) = s.link (.port p) := by
  unfold State.endResync
  split
  · exact (congrArg PortSt.link (State.port_setPort_same (s.put Reg.PRT_STATUS_RESYNC 0 p) p _)).trans rfl
  · rfl

theorem State.endResync_spec (s : State) (p : Fin 16) : (s.endResync p).flag Reg.PRT_STATUS_RESYNC p = false ∧
    (s.endResync p).get Reg.PRT_CREDIT_IN_HELD p = s.get Reg.PRT_CREDIT_IN_HELD p ∧
    (s.flag Reg.PRT_STATUS_RESYNC p = true → ((s.endResync p).port p).skip = 0) ∧ ((s.endResync p).port p).queue = (s.port p).queue := by
  unfold State.endResync
  split
  case isTrue h =>
    have hport := State.port_setPort_same (s.put Reg.PRT_STATUS_RESYNC 0 p) p { s.port p with skip := 0, viol := false }
    refine ⟨?_, (WritesAt.put Reg.PRT_STATUS_RESYNC 0 p).get Reg.PRT_CREDIT_IN_HELD p.isLt, fun _ => ?_, ?_⟩
    · rw [State.flag_setPort, State.flag, State.get_put_same]
      rfl
    · rw [hport]
    · rw [hport]
  case isFalse h => exact ⟨Bool.eq_false_iff.2 h, rfl, fun hr => absurd hr h, rfl⟩

/-! ## Uncorrectable codewords -/

/-- A link that keeps an uncorrectable codeword for the link-down rule. -/
def State.keepCodeword (s : State) (l : Link) (lane ordinal : Nat) : State :=
  s.setLink l { s.link l with
    uncorr := (lane, ordinal) :: (s.link l).uncorr.filter fun e => e.1 ≠ lane ∨ ordinal < e.2 + 10000 }

theorem State.link_keepCodeword (s : State) (l : Link) (lane ordinal : Nat) :
    (lane, ordinal) ∈ ((s.keepCodeword l lane ordinal).link l).uncorr ∧
    ((s.keepCodeword l lane ordinal).link l).aligned = (s.link l).aligned := by
  unfold State.keepCodeword
  rw [State.link_setLink_same]
  exact ⟨List.mem_cons_self, rfl⟩

theorem doUncorrectableCodeword_port {s : State} {p : Fin 16} (lane ordinal : Nat) (hup : (s.link (.port p)).st = .up) :
    doUncorrectableCodeword (.port p) lane ordinal s = ((((s.keepCodeword (.port p) lane ordinal).bump Reg.PRT_CNT_FEC_UNCORR_COUNT 1
      p).rewindPart p).put Reg.PRT_STATUS_RESYNC 1 p).sendLink (.port p) .resyncReq := if_neg (not_not_intro hup)

/-- Rewinding the record in reception keeps of the link what was kept of its codewords. -/
theorem State.link_rewindPart (s : State) (p : Fin 16) : ((s.rewindPart p).port p).link.uncorr = (s.port p).link.uncorr ∧
    ((s.rewindPart p).port p).link.aligned = (s.port p).link.aligned := by
  rcases s.rewindPart_keepsPort p with h | h
  · rw [h]
    exact ⟨rfl, rfl⟩
  · exact ⟨h.uncorr.trans (by rw [State.noPart, State.port_setPort_same]), h.aligned.trans (by rw [State.noPart, State.port_setPort_same])⟩

theorem doUncorrectableCodeword_port_spec {s : State} {p : Fin 16} (lane ordinal : Nat) (hup : (s.link (.port p)).st = .up) :
    (lane, ordinal) ∈ ((doUncorrectableCodeword (.port p) lane ordinal s).link (.port p)).uncorr ∧
    (doUncorrectableCodeword (.port p) lane ordinal s).get Reg.PRT_CNT_FEC_UNCORR_COUNT p =
      min (s.get Reg.PRT_CNT_FEC_UNCORR_COUNT p + 1) Reg.PRT_CNT_FEC_UNCORR_COUNT.max ∧
    (doUncorrectableCodeword (.port p) lane ordinal s).flag Reg.PRT_STATUS_RESYNC p = true ∧
    ((doUncorrectableCodeword (.port p) lane ordinal s).port p).part = [] ∧
    ((doUncorrectableCodeword (.port p) lane ordinal s).port p).queue = (s.port p).queue ∧
    (doUncorrectableCodeword (.port p) lane ordinal s).out.head? =
      some (.link (.port p) (s.txLane (.port p)) LinkFlit.resyncReq.flit) := by
  rw [doUncorrectableCodeword_port lane ordinal hup]
  set t := (s.keepCodeword (.port p) lane ordinal).bump Reg.PRT_CNT_FEC_UNCORR_COUNT 1 p with ht
  have hport : t.port p = (s.keepCodeword (.port p) lane ordinal).port p := State.bump_within.port p
  obtain ⟨hkept, haligned⟩ := s.link_keepCodeword (.port p) lane ordinal
  obtain ⟨huncorr, hlanes⟩ := t.link_rewindPart p
  refine ⟨?_, ?_, ?_, t.part_rewindPart p, (t.queue_rewindPart p).trans ?_, ?_⟩
  · rw [State.link_sendLink, show (((t.rewindPart p).put Reg.PRT_STATUS_RESYNC 1 p).link (.port p)).uncorr =
      ((t.rewindPart p).port p).link.uncorr from rfl, huncorr, hport]
    exact hkept
  · rw [(WritesAt.of_within p State.sendLink_within).get Reg.PRT_CNT_FEC_UNCORR_COUNT p.isLt,
      (WritesAt.put Reg.PRT_STATUS_RESYNC 1 p).get Reg.PRT_CNT_FEC_UNCORR_COUNT p.isLt,
      (t.rewindPart_writes p).get Reg.PRT_CNT_FEC_UNCORR_COUNT p.isLt, State.get_bump_same]
    rfl
  · rw [(WritesAt.of_within p State.sendLink_within).flag Reg.PRT_STATUS_RESYNC p.isLt, State.flag, State.get_put_same]
    rfl
  · rw [hport]
    exact (congrArg PortSt.queue (State.port_setPort_same s p _)).trans rfl
  · have hclock : ((t.rewindPart p).put Reg.PRT_STATUS_RESYNC 1 p).clock = s.clock :=
      (((Within.refl (w := [.regs, .out, .boot, .host, .ports, .seam, .csc])).step State.setLink_within |>.step State.bump_within |>.step
        State.rewindPart_within |>.step State.put_within).same .clock : s.clock = _).symm
    rw [State.out_sendLink, List.head?_cons, State.txLane_eq (.port p) hclock]
    exact hlanes.trans (by rw [hport]; exact haligned)

/-- Settles O14, flit kind by flit kind; the layouts by reading each packed field back. -/
theorem linkFlits : Obligations.LinkFlits := by
  unfold Obligations.LinkFlits
  refine ⟨⟨fun s p f hup hkind => ?_, fun s f hup hkind => ?_, fun s l f hup hkind hl => ?_, fun s f => ⟨rfl, rfl, rfl, rfl⟩⟩,
    ⟨fun s l lane f hkind hlane => ?_, fun s l lane n hsending hlane hn => ⟨fun hdue => ?_, fun hnot => ?_⟩, fun s p f hkind => ?_,
      fun s f l hl => ?_⟩,
    fun s l lane ordinal => ⟨fun hdown => congrArg Host.Outcome.next (if_pos hdown), fun hup => ?_⟩,
    hello_flit, credit_flit, tick_flit, align_flit, block_flit⟩
  · refine ⟨_, congrArg Host.Outcome.next (doCredit_port hup hkind), ?_, ?_, rfl⟩
    · rw [State.port_setPort_same]
    · rw [State.port_setPort_same]
  · refine ⟨_, congrArg Host.Outcome.next (doCredit_seam hup hkind), ?_, fun hnone => ?_, fun m rest hwaiting hcost => ?_⟩
    · exact congrArg LinkSt.cumRx (State.sendSeams_grows _ _).2
    · unfold State.seamCredit
      rw [show (s.setLink .seam { s.seam.link with cumRx := Lf.cum f }).seam.waiting = [] from hnone]
      exact ⟨rfl, rfl⟩
    · exact State.mem_out_seamCredit (s := s.setLink .seam { s.seam.link with cumRx := Lf.cum f }) hwaiting hcost
  · rcases hl with rfl | ⟨p, rfl⟩
    · obtain ⟨hrx, htx⟩ := s.link_synced .seam f
      exact ⟨_, congrArg Host.Outcome.next (doSync_seam hup hkind), hrx, htx, fun p hp => Link.noConfusion hp⟩
    · obtain ⟨hrx, htx⟩ := s.link_synced (.port p) f
      obtain ⟨hend, hheld, hskip, hqueue⟩ := (s.synced (.port p) f).endResync_spec p
      refine ⟨_, congrArg Host.Outcome.next (doSync_port hup hkind), ?_, ?_, fun q hq => ?_⟩
      · rw [State.link_endResync, hrx]
      · rw [State.link_endResync, htx]
      · obtain rfl : p = q := Link.port.inj hq
        have hsame := WritesAt.of_regs p (s.regs_synced (.port p) f).symm
        exact ⟨hend, hheld.trans (hsame.get Reg.PRT_CREDIT_IN_HELD p.isLt),
          fun h => hskip ((hsame.flag Reg.PRT_STATUS_RESYNC p.isLt).trans h), hqueue.trans (s.queue_synced p f)⟩
  · refine ⟨_, congrArg Host.Outcome.next (if_neg (not_not_intro hkind)), ?_, s.setLink_regs l _, s.setLink_out l _⟩
    rw [State.link_setLink_same, List.getElem?_set_self hlane]
  · subst hn
    have hexec : doAlignTransmit l lane s = _ := if_neg fun h => h.elim (fun h => Bool.noConfusion (hsending.symm.trans h)) (Nat.not_lt.2 hdue)
    refine ⟨_, congrArg Host.Outcome.next hexec, ?_, State.setLink_out _ l _, State.setLink_regs _ l _⟩
    rw [State.link_setLink_same, List.getElem?_set_self hlane]
  · subst hn
    exact congrArg Host.Outcome.next (if_pos (.inr hnot))
  · exact ⟨_, congrArg Host.Outcome.next (if_neg (by simp [hkind])), State.get_bump_same _ _ _ _ _, rfl⟩
  · fin_cases hl <;> rfl
  · cases l with
    | port p =>
      obtain ⟨hkept, hcount, hresync, hpart, hqueue, hout⟩ := doUncorrectableCodeword_port_spec lane ordinal hup
      refine ⟨_, rfl, hkept, fun q hq => ?_, fun h => Link.noConfusion h, fun h => h.elim (fun h => Link.noConfusion h) fun h => Link.noConfusion h⟩
      obtain rfl : p = q := Link.port.inj hq
      exact ⟨hcount, hresync, hpart, hqueue, hout⟩
    | seam =>
      obtain ⟨hkept, haligned⟩ := s.link_keepCodeword .seam lane ordinal
      have hexec : doUncorrectableCodeword .seam lane ordinal s = (s.keepCodeword .seam lane ordinal).sendLink .seam .resyncReq :=
        if_neg (not_not_intro hup)
      exact ⟨_, congrArg Host.Outcome.next hexec, hkept, fun q hq => Link.noConfusion hq, fun _ => ⟨rfl, rfl⟩,
        fun h => h.elim (fun h => Link.noConfusion h) fun h => Link.noConfusion h⟩
    | up =>
      obtain ⟨hkept, -⟩ := s.link_keepCodeword .up lane ordinal
      exact ⟨_, congrArg Host.Outcome.next (if_neg (not_not_intro hup)), hkept, fun q hq => Link.noConfusion hq,
        fun h => Link.noConfusion h, fun _ => ⟨rfl, rfl⟩⟩
    | down =>
      obtain ⟨hkept, -⟩ := s.link_keepCodeword .down lane ordinal
      exact ⟨_, congrArg Host.Outcome.next (if_neg (not_not_intro hup)), hkept, fun q hq => Link.noConfusion hq,
        fun h => Link.noConfusion h, fun _ => ⟨rfl, rfl⟩⟩

end Sys2Proof.Machine
end

section
/-! PROOFS. What leaves on a port: verdicts, captures and CONTROL copies (O19). -/

namespace Sys2Proof.Machine

set_option Elab.async false

/-! ## A range of fields that stays -/

/-- No field whose place is in the range from lo on and below hi is written. -/
def Spares (lo hi : Nat) (s t : State) : Prop := ∀ (F : Field) (i j : Nat), lo ≤ F.key i j → F.key i j < hi → t.get F i j = s.get F i j

namespace Spares

variable {lo hi : Nat} {s t u : State}

theorem refl : Spares lo hi s s := fun _ _ _ _ _ => rfl

theorem trans (h : Spares lo hi s t) (k : Spares lo hi t u) : Spares lo hi s u :=
  fun F i j hlo hhi => (k F i j hlo hhi).trans (h F i j hlo hhi)

theorem ite {c : Prop} [Decidable c] (h : Spares lo hi s t) (k : Spares lo hi s u) : Spares lo hi s (if c then t else u) := by
  split
  · exact h
  · exact k

theorem bump (F : Field) (n i j : Nat) (h : F.key i j < lo ∨ hi ≤ F.key i j) : Spares lo hi s (s.bump F n i j) := fun G a b hlo hhi =>
  State.get_bump_ne s F G n i j a b (by omega)

theorem foldl {α : Type} {f : State → α → State} (hf : ∀ x e, Spares lo hi x (f x e)) {l : List α} {s : State} :
    Spares lo hi s (l.foldl f s) := by
  induction l generalizing s with
  | nil => exact .refl
  | cons a l ih => exact (hf s a).trans ih

end Spares

/-- What a verdict counts, no field of a port. -/
theorem State.countVerdict_spares (s : State) (pl : Planned) (closed marked unchecked : Bool) :
    Spares (8 * 0x20000) (8 * 0x30000) s (s.countVerdict pl closed marked unchecked) := by
  have hlookup : ∀ (x : State) (e : Result × Nat), Spares (8 * 0x20000) (8 * 0x30000) x
      (if e.1.spill.isSome then x
        else if e.1.status = Vs.HIT ∨ e.1.status = Vs.MULTI then x.bump Reg.CHN_CNT_HIT_COUNT 1 pl.chan e.2
        else if e.1.status = Vs.MISS then x.bump Reg.CHN_CNT_MISS_COUNT 1 pl.chan e.2 else x) := fun x e =>
    .ite .refl (.ite (.bump _ _ _ _ (.inr (by simp only [Field.key, Reg.CHN_CNT_HIT_COUNT]; omega)))
      (.ite (.bump _ _ _ _ (.inr (by simp only [Field.key, Reg.CHN_CNT_MISS_COUNT]; omega))) .refl))
  unfold State.countVerdict
  extract_lets c t u v w
  have ht : Spares (8 * 0x20000) (8 * 0x30000) s t := .ite (.bump _ _ _ _ (.inl (by decide))) .refl
  have hu : Spares (8 * 0x20000) (8 * 0x30000) t u :=
    .ite (.bump _ _ _ _ (.inr (by simp only [Field.key, Reg.CHN_CNT_LATE_COUNT]; omega))) .refl
  have hv : Spares (8 * 0x20000) (8 * 0x30000) u v :=
    .ite (.bump _ _ _ _ (.inr (by simp only [Field.key, Reg.CHN_CNT_CLOSED_COUNT]; omega))) (.foldl hlookup)
  have hw : Spares (8 * 0x20000) (8 * 0x30000) v w := .ite (.bump _ _ _ _ (.inr (by decide))) .refl
  exact .ite ht ((((ht.trans hu).trans hv).trans hw).trans (.ite (.bump _ _ _ _ (.inr (by decide))) .refl))

/-! ## Verdicts -/

/-- The results with which the verdict of a planned record leaves. -/
def State.leaving (s : State) (pl : Planned) : List Result :=
  if (pl.allClosed || s.fencedRecord pl) = true then closedResults else (s.checkRelease pl).1

/-- The verdict flit of a planned record. -/
def State.leavingFlit (s : State) (pl : Planned) : Flit :=
  verdictFlit pl.handle (recSeq pl.flits) (recStamp pl.flits) pl.late pl.poison (s.leaving pl)

/-- The verdict that leaves on port p. -/
def State.verdictOut (s : State) (p : Fin 16) (pl : Planned) : State :=
  (s.emit (.verdict p (s.txLane (.port p)) (s.leavingFlit pl))).bump Reg.PRT_CNT_VERDICTS_COUNT 1 p

theorem State.sendVerdict_eq (s : State) (p : Fin 16) (pl : Planned) : s.sendVerdict p pl =
    if pl.counted then s.verdictOut p pl
    else (s.verdictOut p pl).countVerdict pl (pl.allClosed || s.fencedRecord pl) ((s.checkRelease pl).2.1 && !(pl.allClosed || s.fencedRecord pl))
      ((s.checkRelease pl).2.2 && !(pl.allClosed || s.fencedRecord pl)) := by
  unfold State.sendVerdict
  rw [Fin.ofNat_val_sixteen]
  rfl

/-- A verdict sent is on the wire and counted, whatever else it counts. -/
theorem State.sendVerdict_spec (s : State) (p : Fin 16) (pl : Planned) :
    (s.sendVerdict p pl).out = .verdict p (s.txLane (.port p)) (s.leavingFlit pl) :: s.out ∧
    (s.sendVerdict p pl).get Reg.PRT_CNT_VERDICTS_COUNT p =
      min (s.get Reg.PRT_CNT_VERDICTS_COUNT p + 1) Reg.PRT_CNT_VERDICTS_COUNT.max := by
  have hcount : (s.verdictOut p pl).get Reg.PRT_CNT_VERDICTS_COUNT p =
      min (s.get Reg.PRT_CNT_VERDICTS_COUNT p + 1) Reg.PRT_CNT_VERDICTS_COUNT.max := State.get_bump_same _ _ _ _ _
  rw [State.sendVerdict_eq]
  split
  · exact ⟨rfl, hcount⟩
  · refine ⟨(State.countVerdict_within.same .out : (s.verdictOut p pl).out = _).symm, Eq.trans ?_ hcount⟩
    have hp := p.isLt
    exact State.countVerdict_spares _ _ _ _ _ _ _ _ (by simp only [Field.key, Reg.PRT_CNT_VERDICTS_COUNT]; omega)
      (by simp only [Field.key, Reg.PRT_CNT_VERDICTS_COUNT]; omega)

theorem State.leaving_closed {s : State} {pl : Planned} (h : pl.allClosed = true ∨ (s.chan pl.chan).st = .fencing) :
    s.leaving pl = closedResults := by
  refine if_pos ?_
  rcases h with h | h
  · simp [h]
  · cases hclosed : pl.allClosed <;> simp [State.fencedRecord, h, hclosed]

theorem State.leaving_open {s : State} {pl : Planned} (hopen : pl.allClosed = false) (hst : (s.chan pl.chan).st ≠ .fencing)
    (hprompt : s.flag Reg.SEAM_CTRL_RELEASE = false) : s.leaving pl = pl.results := by
  unfold State.leaving
  rw [if_neg (by simp [State.fencedRecord, hopen, hst]), State.checkRelease, if_pos (by simp [hprompt])]

theorem doVerdictRelease_of_due {s : State} {p : Fin 16} {i : Nat} {pl : Planned} (hnext : s.nextVerdict p = some i)
    (hpl : s.planned[i]? = some pl) (hup : s.portUp p = true) :
    doVerdictRelease p s = { s.sendVerdict p pl with planned := s.planned.set i (pl.without p) } := by
  unfold doVerdictRelease
  rw [hnext]
  dsimp only
  rw [hpl]
  dsimp only
  rw [if_neg (by simp [hup])]

/-! ## Captures and CONTROL copies -/

theorem doCaptureTransmit_cons {s : State} {p : Fin 16} {c : Capture} {rest : List Capture} (h : (s.port p).capBuf = c :: rest) :
    doCaptureTransmit p s =
      if s.portUp p = false ∨ s.controlWaits p = true ∨ s.get Reg.PRT_CREDIT_OUT_HELD p < c.flits.length + 1 then s
      else ((s.setPort p { s.port p with capBuf := rest }).put Reg.PRT_CREDIT_OUT_HELD
        (s.get Reg.PRT_CREDIT_OUT_HELD p - (c.flits.length + 1)) p).emit (.capture p c) := by
  unfold doCaptureTransmit
  dsimp only
  rw [h]

theorem doControlCopySend_of_waiting {s : State} {p : Fin 16} {c : CtlOp}
    (h : (s.host.ctl.find? fun c => c.copies.contains p.val) = some c) : doControlCopySend p s =
      if s.portUp p = false ∨ s.get Reg.PRT_CREDIT_OUT_HELD p = 0 then s
      else
        let t := (s.put Reg.PRT_CREDIT_OUT_HELD (s.get Reg.PRT_CREDIT_OUT_HELD p - 1) p).sendLink (.port p) (.control c.msg c.tag c.body)
        { t with host := { t.host with ctl := takeCopy p t.host.ctl } }.settleControl := by
  unfold doControlCopySend
  rw [h]

/-- The completion of a CONTROL message whose last copy has left. -/
def State.ctlDone (s : State) (c : CtlOp) : State :=
  match c.owed with
  | some (f, i, cid) => s.owedReady f i cid (if c.failed then Sts.NO_ROUTE else Sts.SUCCESS)
  | none => s

theorem State.ctl_ctlDone (s : State) (c : CtlOp) : (s.ctlDone c).host.ctl = s.host.ctl := by
  unfold State.ctlDone
  split <;> rfl

theorem State.ctl_foldl_ctlDone (l : List CtlOp) (s : State) : (l.foldl State.ctlDone s).host.ctl = s.host.ctl := by
  induction l generalizing s with
  | nil => rfl
  | cons c l ih => exact (ih _).trans (s.ctl_ctlDone c)

/-- The CONTROL messages whose last copy has left are taken off the list. -/
theorem State.ctl_settleControl (s : State) : s.settleControl.host.ctl = s.host.ctl.filter fun c => !c.copies.isEmpty :=
  congrArg (List.filter fun c : CtlOp => !c.copies.isEmpty) (State.ctl_foldl_ctlDone (s.host.ctl.filter fun c => c.copies.isEmpty) s)

/-- The device that has sent a CONTROL copy to port p. -/
def State.copySent (s : State) (p : Fin 16) (c : CtlOp) : State :=
  let t := (s.put Reg.PRT_CREDIT_OUT_HELD (s.get Reg.PRT_CREDIT_OUT_HELD p - 1) p).sendLink (.port p) (.control c.msg c.tag c.body)
  { t with host := { t.host with ctl := takeCopy p t.host.ctl } }

theorem State.get_outHeld_put {s : State} {p : Fin 16} (n : Nat) (h : s.get Reg.PRT_CREDIT_OUT_HELD p < 2 ^ 16) :
    (s.put Reg.PRT_CREDIT_OUT_HELD (s.get Reg.PRT_CREDIT_OUT_HELD p - n) p).get Reg.PRT_CREDIT_OUT_HELD p =
      s.get Reg.PRT_CREDIT_OUT_HELD p - n :=
  (State.get_put_same ..).trans (Nat.mod_eq_of_lt ((Nat.sub_le _ _).trans_lt h))

/-- Settles O19, by what leaves first on a port, and whether its credits are there. -/
theorem verdictsCapturesAndControlLeave : Obligations.VerdictsCapturesAndControlLeave := by
  unfold Obligations.VerdictsCapturesAndControlLeave
  refine ⟨fun s p i pl hnext hpl hup => ?_, fun s p c rest hcap hheld => ⟨fun hup hfree hcredit => ?_, fun hnot => ?_⟩,
    fun s p c hfind hheld => ⟨fun hup hcredit => ?_, fun hnone => ?_⟩⟩
  · obtain ⟨hout, hcount⟩ := s.sendVerdict_spec p pl
    refine ⟨_, s.leavingFlit pl, congrArg Host.Outcome.next (doVerdictRelease_of_due hnext hpl hup), hout, rfl, fun d hd => ?_, hcount,
      fun hclosed => ?_, fun hopen hst hprompt => ?_⟩
    · exact of_decide_eq_true (List.mem_filter.1 hd).2
    · rw [State.leavingFlit, State.leaving_closed hclosed]
    · rw [State.leavingFlit, State.leaving_open hopen hst hprompt]
  · have hexec := (doCaptureTransmit_cons hcap).trans (if_neg fun h => h.elim (fun h => Bool.noConfusion (hup.symm.trans h)) fun h =>
      h.elim (fun h => Bool.noConfusion (hfree.symm.trans h)) (Nat.not_lt.2 hcredit))
    refine ⟨_, congrArg Host.Outcome.next hexec, rfl, ?_, State.get_outHeld_put (s := s.setPort p _) _ hheld⟩
    exact (congrArg PortSt.capBuf (State.port_setPort_same s p { s.port p with capBuf := rest })).trans rfl
  · refine congrArg Host.Outcome.next ((doCaptureTransmit_cons hcap).trans (if_pos ?_))
    exact .inr hnot
  · have hexec : doControlCopySend p s = (s.copySent p c).settleControl := (doControlCopySend_of_waiting hfind).trans
      (if_neg fun h => h.elim (fun h => Bool.noConfusion (hup.symm.trans h)) hcredit)
    refine ⟨_, congrArg Host.Outcome.next hexec, ?_, ?_, State.ctl_settleControl _⟩
    · exact ((State.settleControl_within.same .out : (s.copySent p c).out = _).symm)
    · exact ((WritesAt.of_within p State.settleControl_within).get Reg.PRT_CREDIT_OUT_HELD p.isLt).trans (State.get_outHeld_put 1 hheld)
  · exact congrArg Host.Outcome.next ((doControlCopySend_of_waiting hfind).trans (if_pos (.inr hnone)))

end Sys2Proof.Machine
end

section
/-! PROOFS. The training states of the links, and the outputs that stay: links train and go down (O11). -/

namespace Sys2Proof.Machine

set_option Elab.async false

/-! ## Outputs stay -/

/-- What has left the device by s has left it by t. -/
def Grows (s t : State) : Prop := ∀ o ∈ s.out, o ∈ t.out

namespace Grows

variable {s t u : State}

theorem refl : Grows s s := fun _ h => h

theorem trans (h : Grows s t) (k : Grows t u) : Grows s u := fun o ho => k o (h o ho)

theorem ite {c : Prop} [Decidable c] (h : Grows s t) (k : Grows s u) : Grows s (if c then t else u) := by
  split
  · exact h
  · exact k

theorem of_out (h : s.out = t.out) : Grows s t := fun _ ho => h ▸ ho

theorem of_within {w : List Part} (h : Within w s t) (hw : Part.out ∉ w := by decide) : Grows s t := of_out (h.same .out hw)

theorem emit (o : Output) : Grows s (s.emit o) := fun _ ho => List.mem_cons_of_mem _ ho

theorem foldl {α : Type} {f : State → α → State} (hf : ∀ t a, Grows t (f t a)) {l : List α} {s : State} : Grows s (l.foldl f s) := by
  induction l generalizing s with
  | nil => exact .refl
  | cons a l ih => exact (hf s a).trans ih

end Grows

theorem State.msixSend_grows (s : State) (f v : Nat) : Grows s (s.msixSend f v) := by
  unfold State.msixSend
  exact .ite .refl (.ite (.of_within State.setPba_within) (.emit _))

theorem State.msixPf_grows (s : State) (v : Nat) : Grows s (s.msixPf v) := by
  unfold State.msixPf
  exact .ite .refl (.ite (.of_out rfl) (.ite (s.msixSend_grows 0 v) (fun o ho => s.msixSend_grows 0 v o ho)))

theorem State.msixOf_grows (s : State) (n : Nat) : Grows s (s.msixOf n) := by
  unfold State.msixOf State.msixTo
  exact .ite (s.msixPf_grows _) (s.msixSend_grows _ _)

theorem State.deliver_grows (s : State) (n : Nat) (held : Bool) : Grows s (s.deliver n held) := by
  unfold State.deliver
  extract_lets t u v
  have ht : Grows s t := (Grows.of_within State.bump_within).trans (.of_within State.bump_within)
  have hu : Grows t u := .of_within State.put_within
  have hv : Grows u v := .ite (.of_within State.pushEvent_within) .refl
  exact .ite (((ht.trans hu).trans hv).trans (v.msixOf_grows n)) ht

theorem State.raise_grows (s : State) (n : Nat) : Grows s (s.raise n) := by
  unfold State.raise
  split
  · exact s.deliver_grows n false
  · exact .of_out rfl
  · exact .refl
  · exact .refl

theorem State.sendSeam_keeps (s : State) (m : SeamOut) : Grows s (s.sendSeam m) := (s.sendSeam_grows m).1

/-! ## The training states stay -/

/-- Every link is in the training state it was in, and what has left the device stays out. -/
structure Steady (s t : State) : Prop where
  st : ∀ l, (t.link l).st = (s.link l).st
  grows : Grows s t

namespace Steady

variable {s t u : State}

theorem refl : Steady s s := ⟨fun _ => rfl, .refl⟩

theorem trans (h : Steady s t) (k : Steady t u) : Steady s u := ⟨fun l => (k.st l).trans (h.st l), h.grows.trans k.grows⟩

theorem ite {c : Prop} [Decidable c] (h : Steady s t) (k : Steady s u) : Steady s (if c then t else u) := by
  split
  · exact h
  · exact k

/-- No link changes where the ports, the seam and the cascade stay. -/
theorem of_grows {w : List Part} (h : Within w s t) (hg : Grows s t) (hp : Part.ports ∉ w := by decide)
    (hs : Part.seam ∉ w := by decide) (hc : Part.csc ∉ w := by decide) : Steady s t := by
  refine ⟨fun l => ?_, hg⟩
  cases l with
  | port p => exact congrArg (fun q : PortSt => q.link.st) (h.port p hp)
  | seam => exact congrArg (fun q : Seam => q.link.st) (h.same .seam hs : s.seam = t.seam).symm
  | up => exact congrArg (fun q : Csc => q.up.st) (h.same .csc hc : s.csc = t.csc).symm
  | down => exact congrArg (fun q : Csc => q.dn.st) (h.same .csc hc : s.csc = t.csc).symm

theorem of_within {w : List Part} (h : Within w s t) (ho : Part.out ∉ w := by decide) (hp : Part.ports ∉ w := by decide)
    (hs : Part.seam ∉ w := by decide) (hc : Part.csc ∉ w := by decide) : Steady s t := of_grows h (.of_within h ho) hp hs hc

theorem raise (n : Nat) : Steady s (s.raise n) := of_grows State.raise_within (s.raise_grows n)

theorem setRaise (F : Field) (n : Nat) : Steady s (s.setRaise F n) := (of_within State.put_within).trans (raise n)

theorem setPort (p : Nat) {v : PortSt} (h : v.link.st = (s.port p).link.st) : Steady s (s.setPort p v) := by
  refine ⟨fun l => ?_, .of_out rfl⟩
  cases l with
  | port q =>
    by_cases hq : p = q.val
    · subst hq
      exact (congrArg (fun r : PortSt => r.link.st) (State.port_setPort_same s q.val v)).trans h
    · exact congrArg (fun r : PortSt => r.link.st) (State.port_setPort_ne s v hq)
  | seam => rfl
  | up => rfl
  | down => rfl

theorem setSeam {v : Seam} (h : v.link.st = s.seam.link.st) : Steady s (s.setSeam v) := by
  refine ⟨fun l => ?_, .of_out rfl⟩
  cases l with
  | port q => rfl
  | seam => exact h
  | up => rfl
  | down => rfl

theorem sendLink (l : Link) (f : LinkFlit) : Steady s (s.sendLink l f) := of_grows State.sendLink_within (.emit _)

theorem foldl {α : Type} {f : State → α → State} (hf : ∀ t a, Steady t (f t a)) {l : List α} {s : State} : Steady s (l.foldl f s) := by
  induction l generalizing s with
  | nil => exact .refl
  | cons a l ih => exact (hf s a).trans ih

end Steady

theorem State.grantCredits_steady (s : State) (p : Nat) : Steady s (s.grantCredits p) := by
  unfold State.grantCredits
  exact .ite (((Steady.setPort p (by rfl)).trans (.of_within State.put_within)).trans (.sendLink _ _)) .refl

theorem State.sendCredit_steady_seam (s : State) : Steady s (s.sendCredit .seam) := by
  have hset : Steady s (s.setLink .seam { s.link .seam with sinceCredit := 0 }) :=
    .setSeam (v := { s.seam with link := { s.seam.link with sinceCredit := 0 } }) rfl
  unfold State.sendCredit
  exact .ite .refl (hset.trans (.sendLink _ _))

/-- A grant to the twin changes counts of the seam's link. -/
theorem State.grantSeam_steady (s : State) : Steady s s.grantSeam := by
  have hset : Steady s (s.setLink .seam { s.seam.link with cumTx := 2048 }) :=
    .setSeam (v := { s.seam with link := { s.seam.link with cumTx := 2048 } }) rfl
  unfold State.grantSeam
  exact .ite (hset.trans (State.sendCredit_steady_seam _)) .refl

theorem State.sendSeam_steady (s : State) (m : SeamOut) : Steady s (s.sendSeam m) := by
  obtain ⟨hgrows, hlink⟩ := s.sendSeam_grows m
  have hwithin : Within [.out, .seam] s (s.sendSeam m) := State.sendSeam_within
  refine ⟨fun l => ?_, hgrows⟩
  cases l with
  | port p => exact congrArg (fun q : PortSt => q.link.st) (hwithin.port p)
  | seam => exact congrArg LinkSt.st hlink
  | up => exact congrArg (fun q : Csc => q.up.st) (hwithin.same .csc : s.csc = _).symm
  | down => exact congrArg (fun q : Csc => q.dn.st) (hwithin.same .csc : s.csc = _).symm

theorem State.greet_steady (s : State) : Steady s s.greet := by
  unfold State.greet
  exact .ite (s.sendSeam_steady _) .refl

theorem State.setBlock_steady (s : State) (c : Nat) (o : Bool) : Steady s (s.setBlock c o) := by
  unfold State.setBlock
  have hput : Steady s ((s.put Reg.TCK_STATUS_BLOCK c).putB Reg.TCK_STATUS_ADMIT_OPEN o) :=
    (Steady.of_within State.put_within).trans (.of_within State.putB_within)
  exact .ite (hput.trans (.raise _)) hput

theorem State.reblock_steady (s : State) : Steady s s.reblock := by
  unfold State.reblock
  exact .ite .refl (s.setBlock_steady _ _)

theorem State.addRetime_steady (s : State) (f : Retime → Retime) : Steady s (s.addRetime f) :=
  (Steady.of_within State.setTick_within).trans (State.reblock_steady _)

theorem State.checkSettle_steady (s : State) : Steady s s.checkSettle := by
  unfold State.checkSettle
  have hput : Steady s (s.put Reg.SEAM_STATUS_SMIN (min s.settleMin 31)) := .of_within State.put_within
  exact .ite .refl (.ite (hput.trans (.setRaise _ _)) hput)

theorem State.decideAttach_steady (s : State) : Steady s s.decideAttach := by
  unfold State.decideAttach
  split
  · exact .refl
  case _ h _ =>
    extract_lets _ t _ u _ v
    have ht : Steady s t := .setSeam rfl
    have hu : Steady s u := ht.trans (.of_within State.put_within)
    have hdetached : Steady t (t.setSeam { t.seam with pair := .detached }) := .setSeam rfl
    have hsource : Steady u (u.setSeam { v with pair := .source, role := 1 }) := .setSeam rfl
    have htarget : Steady u (u.setSeam { v with pair := .target, role := 2 }) := .setSeam rfl
    exact .ite .refl (.ite ((ht.trans hdetached).trans (.setRaise _ _)) (.ite ((hu.trans hsource).trans (State.checkSettle_steady _))
      (((hu.trans htarget).trans (State.addRetime_steady _ _)).trans (State.checkSettle_steady _))))

/-! ## Entry to service state -/

theorem State.deliverHeld_steady (s : State) : Steady s s.deliverHeld := by
  unfold State.deliverHeld
  exact (Steady.of_within State.setBoot_within).trans (.foldl fun x n => .of_grows State.deliver_within (x.deliver_grows n true))

theorem State.startSource_steady (s : State) : Steady s s.startSource := by
  unfold State.startSource
  extract_lets internal t
  have ht : Steady s t := .ite ((Steady.of_within State.put_within).trans (.of_within State.put_within)) .refl
  exact ((ht.trans (.of_within State.setTick_within)).trans (.of_within State.showLatency_within)).trans (State.reblock_steady _)

theorem State.serviceEntry_steady (s : State) : Steady s s.serviceEntry := by
  unfold State.serviceEntry
  extract_lets us _ t timed _ _ _ u v w x y
  have ht : Steady s t := (Steady.of_within State.toStep_within).trans (.of_within State.writeLedger_within)
  have htimed : Steady t timed := .of_within State.put_within
  have hu : Steady t u := htimed.trans (.of_within (w := [.mode, .boot, .dorm, .cur]) Within.refl.upd)
  have hv : Steady u v := u.deliverHeld_steady.trans (.raise _)
  have hw : Steady v w := .ite (.raise _) .refl
  have hx : Steady w x := .ite (.raise _) .refl
  have hy : Steady x y := x.startSource_steady.trans (.foldl State.grantCredits_steady)
  exact (((((((((ht.trans hu).trans hv).trans hw).trans hx).trans hy).trans (.of_within State.oweLog_within)).trans
    (State.grantSeam_steady _)).trans (State.greet_steady _)).trans (State.decideAttach_steady _))

theorem State.endTraining_steady (s : State) : Steady s s.endTraining := by
  unfold State.endTraining
  exact .ite s.serviceEntry_steady .refl

theorem State.afterUp_steady (s : State) (l : Link) : Steady s (s.afterUp l) := by
  unfold State.afterUp
  exact (Steady.ite (s.greet_steady.trans (State.decideAttach_steady _)) .refl).trans (State.endTraining_steady _)

/-! ## The handshake -/

/-- The link that has answered a HELLO. -/
def LinkSt.answered (k : LinkSt) (f : Flit) : LinkSt := { k with gotHello := true, gotAck := k.gotAck || Lf.ack f, sentAck := true }

/-- A link that has answered a HELLO, before it is UP. -/
def State.answered (s : State) (l : Link) (f : Flit) : State :=
  ((s.setLink l ((s.link l).answered f)).sendLink l (.hello (helloPort l) true)).takeGrant l (Lf.grant f)

theorem doHello_eq {s : State} {l : Link} {f : Flit} (hmay : s.mayTrain = true) (hst : (s.link l).st = .hello) (hkind : Lf.kind f = kHello) :
    doHello l f s = if ((s.link l).gotAck || Lf.ack f) = true then ((s.answered l f).linkUp l).afterUp l else s.answered l f :=
  if_pos ⟨hmay, hst, hkind⟩

theorem State.link_put (s : State) (F : Field) (v i j : Nat) : (s.put F v i j).link = s.link := by
  funext l
  cases l <;> rfl

theorem State.link_takeGrant (s : State) (l : Link) (g : Nat) : (s.takeGrant l g).link = s.link := by
  unfold State.takeGrant
  split
  · exact State.link_put ..
  all_goals rfl

theorem State.link_answered (s : State) (l : Link) (f : Flit) : (s.answered l f).link l = (s.link l).answered f := by
  unfold State.answered
  rw [State.link_takeGrant, State.link_sendLink, State.link_setLink_same]

theorem State.clock_setLink (s : State) (l : Link) (k : LinkSt) : (s.setLink l k).clock = s.clock := by
  cases l <;> rfl

/-- The answer is a HELLO with ACK. -/
theorem State.out_answered (s : State) (l : Link) (f : Flit) :
    (s.answered l f).out = .link l (s.txLane l) (LinkFlit.hello (helloPort l) true).flit :: s.out := by
  have hlane : (s.setLink l ((s.link l).answered f)).txLane l = s.txLane l := by
    refine State.txLane_eq l (s.clock_setLink l _) ?_
    rw [State.link_setLink_same]
    rfl
  have hgrant : (s.answered l f).out = ((s.setLink l ((s.link l).answered f)).sendLink l (.hello (helloPort l) true)).out := by
    unfold State.answered State.takeGrant
    split <;> rfl
  rw [hgrant, State.out_sendLink, hlane, State.setLink_out]

theorem grant_lt (f : Flit) : Lf.grant f < 2 ^ 16 := Nat.mod_lt _ (Nat.two_pow_pos _)

theorem State.get_grant_answered (s : State) (p : Fin 16) (f : Flit) :
    (s.answered (.port p) f).get Reg.PRT_CREDIT_OUT_GRANT p = Lf.grant f :=
  (State.get_put_same ..).trans (Nat.mod_eq_of_lt (grant_lt f))

/-- The link that enters UP: its counts start anew. -/
def LinkSt.entered (k : LinkSt) : LinkSt :=
  { k with st := .up, cumTx := 0, cumRx := 0, rxFlits := 0, sinceCredit := 0, newCredit := 0, uncorr := [] }

/-- A port that has entered UP holds its GRANT, and grants nothing yet. -/
def State.portEntered (s : State) (p : Fin 16) : State :=
  let t := s.setLink (.port p) (s.link (.port p)).entered
  (t.put Reg.PRT_CREDIT_OUT_HELD (t.get Reg.PRT_CREDIT_OUT_GRANT p.val) p.val).put Reg.PRT_CREDIT_IN_HELD 0 p.val

theorem State.linkUp_port (s : State) (p : Fin 16) : s.linkUp (.port p) = (s.portEntered p).grantCredits p := rfl

theorem State.port_portEntered (s : State) (p : Fin 16) : (s.portEntered p).port p = { s.port p with link := (s.port p).link.entered } :=
  State.port_setPort_same s p { s.port p with link := (s.port p).link.entered }

theorem State.get_outHeld_linkUp (s : State) (p : Fin 16) :
    (s.linkUp (.port p)).get Reg.PRT_CREDIT_OUT_HELD p = s.get Reg.PRT_CREDIT_OUT_GRANT p % 2 ^ 16 := by
  rw [State.linkUp_port, (State.grantCredits_writes _ p).get Reg.PRT_CREDIT_OUT_HELD p.isLt, State.portEntered,
    (WritesAt.put Reg.PRT_CREDIT_IN_HELD 0 p).get Reg.PRT_CREDIT_OUT_HELD p.isLt, State.get_put_same]
  rfl

/-- In service state a port in UP that holds no credit yet is granted every free flit of its queue. -/
theorem State.get_inHeld_grantCredits {s : State} {p : Fin 16} (hm : s.mode = .service) (hphase : s.dorm.phase ≠ .entering)
    (hup : s.portUp p = true) (hheld : s.get Reg.PRT_CREDIT_IN_HELD p = 0) :
    (s.grantCredits p).get Reg.PRT_CREDIT_IN_HELD p = 4096 - (s.port p).fill := by
  unfold State.grantCredits
  extract_lets free held q _ k
  by_cases hfree : held < free
  · rw [if_pos ⟨hm, hphase, hup, hfree⟩, (WritesAt.of_within p State.sendLink_within).get Reg.PRT_CREDIT_IN_HELD p.isLt, State.get_put_same]
    exact Nat.mod_eq_of_lt ((Nat.sub_le _ _).trans_lt (by decide))
  · rw [if_neg fun h => hfree h.2.2.2, hheld]
    change s.get Reg.PRT_CREDIT_IN_HELD p < _ → False at hfree
    rw [hheld] at hfree
    exact (Nat.eq_zero_of_not_pos hfree).symm

theorem State.get_inHeld_linkUp {s : State} {p : Fin 16} (hm : s.mode = .service) (hphase : s.dorm.phase ≠ .entering) :
    (s.linkUp (.port p)).get Reg.PRT_CREDIT_IN_HELD p = 4096 - (s.port p).fill := by
  have hport := s.port_portEntered p
  have hheld : (s.portEntered p).get Reg.PRT_CREDIT_IN_HELD p = 0 := State.get_put_same _ _ _ _ _
  rw [State.linkUp_port, State.get_inHeld_grantCredits (s := s.portEntered p) hm hphase (by rw [State.portUp, hport]; rfl) hheld, hport]
  rfl

/-- Entering UP leaves the link there, and takes back no output. -/
theorem State.linkUp_spec (s : State) (l : Link) : ((s.linkUp l).link l).st = .up ∧ Grows s (s.linkUp l) := by
  have hset : ((s.setLink l (s.link l).entered).link l).st = .up := by
    rw [State.link_setLink_same]
    rfl
  have hgrows : Grows s (s.setLink l (s.link l).entered) := .of_out (s.setLink_out l _).symm
  cases l with
  | port p =>
    rw [State.linkUp_port]
    have hsteady := (s.portEntered p).grantCredits_steady p
    exact ⟨(hsteady.st (.port p)).trans hset, hgrows.trans hsteady.grows⟩
  | seam =>
    have hattach : Steady (s.setLink .seam (s.link .seam).entered) { s.setLink .seam (s.link .seam).entered with
        seam := { s.seam with
          link := (s.link .seam).entered, pair := if s.seam.pair == .detached then .attaching else s.seam.pair, missed := 0, credit := 0,
          waiting := [] } } := .setSeam rfl
    have hseam : Steady (s.setLink .seam (s.link .seam).entered) (s.linkUp .seam) := hattach.trans (State.grantSeam_steady _)
    exact ⟨(hseam.st .seam).trans hset, hgrows.trans hseam.grows⟩
  | up => exact ⟨hset, hgrows⟩
  | down => exact ⟨hset, hgrows⟩

/-- In service state entry to UP of a port is all that there is. -/
theorem State.afterUp_port {s : State} {p : Fin 16} (hm : s.mode = .service) : s.afterUp (.port p) = s := by
  unfold State.afterUp
  rw [if_neg (by simp)]
  exact if_neg fun h => Mode.noConfusion (hm.symm.trans h.1)

theorem State.mode_answered (s : State) (p : Fin 16) (f : Flit) :
    (s.answered (.port p) f).mode = s.mode ∧ (s.answered (.port p) f).dorm = s.dorm ∧
    ((s.answered (.port p) f).port p).fill = (s.port p).fill := by
  have hport : (s.answered (.port p) f).port p = { s.port p with link := (s.port p).link.answered f } := State.port_setPort_same s p _
  exact ⟨rfl, rfl, by rw [hport]; rfl⟩

/-- What a port in service state has when its handshake has ended. -/
theorem doHello_port_up {s : State} {p : Fin 16} {f : Flit} (hm : s.mode = .service) :
    (((s.answered (.port p) f).linkUp (.port p)).afterUp (.port p)).get Reg.PRT_CREDIT_OUT_HELD p = Lf.grant f ∧
    (s.dorm.phase ≠ .entering →
      (((s.answered (.port p) f).linkUp (.port p)).afterUp (.port p)).get Reg.PRT_CREDIT_IN_HELD p = 4096 - (s.port p).fill) := by
  obtain ⟨hmode, hdorm, hfill⟩ := s.mode_answered p f
  have hup : ((s.answered (.port p) f).linkUp (.port p)).mode = .service :=
    ((State.linkUp_within.same .mode : (s.answered (.port p) f).mode = _).symm.trans hmode).trans hm
  rw [State.afterUp_port hup]
  constructor
  · rw [State.get_outHeld_linkUp, State.get_grant_answered, Nat.mod_eq_of_lt (grant_lt f)]
  · intro hphase
    rw [State.get_inHeld_linkUp (hmode.trans hm) (by rw [hdorm]; exact hphase), hfill]

/-! ## Link down -/

/-- Port p trains again, and its dynamic return-path entries are to go. -/
def State.sought (s : State) (p clock : Nat) : State :=
  let t := s.setPort p { s.port p with link := seekFrom clock }
  { t with rptPend := { t.rptPend with down := t.rptPend.down ++ [p] } }

theorem State.sought_writes (s : State) (p clock : Nat) : WritesAt [] [] p s (s.sought p clock) := Writes.of_regs rfl

theorem State.port_sought (s : State) (p clock : Nat) : (s.sought p clock).port p = { s.port p with link := seekFrom clock } :=
  State.port_setPort_same s p { s.port p with link := seekFrom clock }

theorem State.mem_down_sought (s : State) (p clock : Nat) : p ∈ (s.sought p clock).rptPend.down :=
  List.mem_append_right _ List.mem_cons_self

/-- The count and the event of a port that goes down. -/
def State.downCounted (s : State) (p : Nat) : State := (s.bump Reg.PRT_CNT_LINKDOWN_COUNT 1 p).raise (Ev.LINK_DOWN p)

theorem State.portDown_eq (s : State) (p : Nat) : s.portDown p = ((s.leaveUp p).sought p s.clock).downCounted p := rfl

theorem State.downCounted_within (s : State) (p : Nat) : Within [.out, .regs, .boot, .host] s (s.downCounted p) :=
  (Within.refl.step State.bump_within).step State.raise_within

theorem State.downCounted_writes (s : State) (p : Nat) : WritesAt [Reg.PRT_CNT_LINKDOWN_COUNT] [] p s (s.downCounted p) :=
  (Writes.bump Reg.PRT_CNT_LINKDOWN_COUNT 1 p 0).step (Writes.raise _)

theorem State.get_linkdown_downCounted (s : State) (p : Fin 16) : (s.downCounted p).get Reg.PRT_CNT_LINKDOWN_COUNT p =
    min (s.get Reg.PRT_CNT_LINKDOWN_COUNT p + 1) Reg.PRT_CNT_LINKDOWN_COUNT.max := by
  rw [State.downCounted, (WritesAt.raise _ p).get Reg.PRT_CNT_LINKDOWN_COUNT p.isLt, State.get_bump_same]

/-- What a port that goes down keeps, and what it loses: its credits. -/
theorem State.portDown_writes (s : State) (p : Nat) :
    WritesAt [Reg.PRT_CNT_LINKDOWN_COUNT] [] p (s.leaveUp p) (s.portDown p) := by
  rw [State.portDown_eq]
  exact (Writes.mono (State.sought_writes _ p _) (List.nil_subset _)).trans (State.downCounted_writes _ p)

/-- A port that goes down loses its credits and keeps its queue; its dynamic return-path entries go at the next boundary. -/
theorem State.portDown_spec (s : State) (p : Fin 16) :
    ((s.portDown p).link (.port p)).st = .seek ∧ (s.portDown p).get Reg.PRT_CREDIT_IN_HELD p = 0 ∧
    (s.portDown p).get Reg.PRT_CREDIT_OUT_HELD p = 0 ∧ ((s.portDown p).port p).queue = (s.port p).queue ∧
    p.val ∈ (s.portDown p).rptPend.down ∧ (s.portDown p).get Reg.PRT_CNT_LINKDOWN_COUNT p =
      min (s.get Reg.PRT_CNT_LINKDOWN_COUNT p + 1) Reg.PRT_CNT_LINKDOWN_COUNT.max := by
  have hwithin := State.downCounted_within ((s.leaveUp p).sought p s.clock) p
  have hport : (s.portDown p).port p = { (s.leaveUp p).port p with link := seekFrom s.clock } :=
    (hwithin.port p).trans (State.port_sought _ p _)
  refine ⟨?_, ((s.portDown_writes p).get Reg.PRT_CREDIT_IN_HELD p.isLt).trans (s.get_inHeld_leaveUp p),
    ((s.portDown_writes p).get Reg.PRT_CREDIT_OUT_HELD p.isLt).trans (s.get_outHeld_leaveUp p), ?_, ?_, ?_⟩
  · exact (congrArg (fun q : PortSt => q.link.st) hport).trans rfl
  · rw [hport]
    exact s.queue_leaveUp p
  · have hpend : ((s.leaveUp p).sought p s.clock).rptPend = (s.portDown p).rptPend := hwithin.same .rptPend
    rw [← hpend]
    exact State.mem_down_sought _ p _
  · rw [State.portDown_eq, State.get_linkdown_downCounted,
      (State.sought_writes _ p _).get Reg.PRT_CNT_LINKDOWN_COUNT p.isLt,
      (s.leaveUp_writes p).get Reg.PRT_CNT_LINKDOWN_COUNT p.isLt]

theorem State.detachSoon_link (s : State) (c : Nat) : (s.detachSoon c).seam.link = s.seam.link := by
  unfold State.detachSoon
  split
  · rfl
  · rfl
  · split <;> rfl

/-- The links of the cascade are no part of a membership change. -/
theorem State.cscLost_links (s : State) (down : Bool) :
    (s.cscLost down).csc.up = s.csc.up ∧ (s.cscLost down).csc.dn = s.csc.dn := by
  unfold State.cscLost
  split
  · unfold State.takeNotice
    dsimp only
    split
    · unfold State.takeLeave
      split <;> exact ⟨rfl, rfl⟩
    · exact ⟨rfl, rfl⟩
  · exact ⟨rfl, rfl⟩

theorem State.linkDown_seek (s : State) (l : Link) : ((s.linkDown l).link l).st = .seek := by
  cases l with
  | port p => exact (s.portDown_spec p).1
  | seam => exact congrArg LinkSt.st (State.detachSoon_link _ 1)
  | up => exact congrArg LinkSt.st (State.cscLost_links (s.toState .up .seek) false).1
  | down => exact congrArg LinkSt.st (State.cscLost_links (s.toState .down .seek) true).2

theorem doLinkDown_of_down {s : State} {l : Link} {why : DownCause} (hup : (s.link l).st = .up)
    (hdown : why = .uncorrectable → ∃ e ∈ (s.link l).uncorr, 8 < (s.link l).window e.1 e.2) : doLinkDown l why s = s.linkDown l := by
  refine if_pos ⟨hup, ?_⟩
  cases why with
  | clockLost => rfl
  | codewordLost => rfl
  | uncorrectable =>
    obtain ⟨e, he, hlt⟩ := hdown rfl
    exact List.any_eq_true.2 ⟨e, he, decide_eq_true hlt⟩

theorem doLinkDown_of_few {s : State} {l : Link} (hfew : ∀ e ∈ (s.link l).uncorr, (s.link l).window e.1 e.2 ≤ 8) :
    doLinkDown l .uncorrectable s = s := by
  refine if_neg fun h => ?_
  obtain ⟨e, he, hlt⟩ := List.any_eq_true.1 h.2
  exact absurd (of_decide_eq_true hlt) (Nat.not_lt.2 (hfew e he))

/-! ## Training before HELLO -/

theorem doLaneAlignment_spec {s : State} {l : Link} {skew : Nat} (hmay : s.mayTrain = true) (hst : (s.link l).st = .align) (hskew : skew ≤ 32) :
    ∃ t, exec (.laneAlignment l skew) s = .next t ∧ (t.link l).st = .hello ∧
      t.out = .link l 0 (LinkFlit.hello (helloPort l) false).flit :: s.out ∧ t.regs = s.regs := by
  have hlink : (s.setLink l { s.link l with st := .hello, aligned := s.clock }).link l = { s.link l with st := .hello, aligned := s.clock } :=
    State.link_setLink_same ..
  have hlane : (s.setLink l { s.link l with st := .hello, aligned := s.clock }).txLane l = 0 := by
    rw [State.txLane, hlink, State.clock_setLink, Nat.sub_self]
    simp [flitSlots]
  refine ⟨_, congrArg Host.Outcome.next (if_pos ⟨hmay, hst, hskew⟩), ?_, ?_, s.setLink_regs l _⟩
  · rw [State.link_sendLink, hlink]
  · rw [State.out_sendLink, hlane, State.setLink_out]

theorem doHelloTimeout_spec {s : State} {l : Link} (hst : (s.link l).st = .hello) :
    (doHelloTimeout l s).link l = { st := .seek, since := s.clock } ∧
    (∀ p, l = .port p → (doHelloTimeout l s).get Reg.PRT_CNT_LINKDOWN_COUNT p =
      min (s.get Reg.PRT_CNT_LINKDOWN_COUNT p + 1) Reg.PRT_CNT_LINKDOWN_COUNT.max) ∧ (doHelloTimeout l s).host = s.host := by
  unfold doHelloTimeout
  rw [if_neg (not_not_intro hst)]
  cases l with
  | port p =>
    refine ⟨?_, fun q hq => ?_, rfl⟩
    · exact congrArg PortSt.link (State.port_setPort_same s p { s.port p with link := { st := .seek, since := s.clock } })
    · obtain rfl : p = q := Link.port.inj hq
      exact State.get_bump_same _ _ _ _ _
  | seam => exact ⟨rfl, fun p hp => Link.noConfusion hp, rfl⟩
  | up => exact ⟨rfl, fun p hp => Link.noConfusion hp, rfl⟩
  | down => exact ⟨rfl, fun p hp => Link.noConfusion hp, rfl⟩

/-- Settles O11, state by state of the training sequence, and then by what a port that leaves UP gives up. -/
theorem linksTrainAndGoDown : Obligations.LinksTrainAndGoDown := by
  unfold Obligations.LinksTrainAndGoDown
  refine ⟨⟨fun s l hmay hst => ?_, fun s l hmay hst => ?_, fun s l skew hmay hst hskew => doLaneAlignment_spec hmay hst hskew,
      fun s l f hmay hst hkind => ⟨fun hack hgot => ?_, fun hack => ?_⟩⟩,
    fun s l hst => ⟨_, rfl, doHelloTimeout_spec hst⟩,
    fun s l why hup => ⟨fun hdown => ?_, fun hfew => congrArg Host.Outcome.next (doLinkDown_of_few hfew)⟩, fun s p hm hup => ?_⟩
  · exact congrArg Host.Outcome.next (if_pos ⟨hmay, hst⟩)
  · exact congrArg Host.Outcome.next (if_pos ⟨hmay, hst⟩)
  · have hexec : doHello l f s = s.answered l f := (doHello_eq hmay hst hkind).trans (if_neg (by simp [hack, hgot]))
    have hlink := s.link_answered l f
    refine ⟨_, congrArg Host.Outcome.next hexec, ?_, ?_, ?_, s.out_answered l f, fun p hp => ?_⟩
    · rw [hlink]
      exact hst
    · rw [hlink]
      rfl
    · rw [hlink]
      rfl
    · subst hp
      exact s.get_grant_answered p f
  · have hexec : doHello l f s = ((s.answered l f).linkUp l).afterUp l := (doHello_eq hmay hst hkind).trans
      (if_pos (by rcases hack with h | h <;> simp [h]))
    obtain ⟨hup, hgrows⟩ := (s.answered l f).linkUp_spec l
    have hafter := ((s.answered l f).linkUp l).afterUp_steady l
    refine ⟨_, congrArg Host.Outcome.next hexec, (hafter.st l).trans hup, (hgrows.trans hafter.grows) _ ?_, fun p hp hm => ?_⟩
    · rw [State.out_answered]
      exact List.mem_cons_self
    · subst hp
      exact doHello_port_up hm
  · refine ⟨_, congrArg Host.Outcome.next (doLinkDown_of_down hup hdown), s.linkDown_seek l, fun p hp => ?_⟩
    subst hp
    exact (s.portDown_spec p).2
  · have hexec : execPrtRetrain p s = .next (s.touchIdle.portDown p) :=
      congrArg Host.Outcome.next ((if_pos hm).trans (if_pos (show s.touchIdle.portUp p = true from hup)))
    exact ⟨_, hexec, s.touchIdle.portDown_spec p⟩

end Sys2Proof.Machine
end

section
/-! PROOFS. How a command of the engine runs and completes; the return path and its shadow (O21, O22). -/

namespace Sys2Proof.Machine

set_option Elab.async false

/-! ## Commands -/

theorem State.opcode_of_engineOp {s : State} {op : Nat} {c : Cmd} (h : s.engineOp op = some c) : c.slot.opcode.toNat = op := by
  unfold State.engineOp at h
  split at h
  · split at h
    · split at h
      case isTrue hop =>
        obtain rfl := Option.some.inj h
        exact hop
      · exact nomatch h
    · exact nomatch h
  · exact nomatch h

theorem State.mode_of_engineOp {s : State} {op : Nat} {c : Cmd} (h : s.engineOp op = some c) : s.mode = .service := by
  unfold State.engineOp at h
  split at h
  case isTrue hm => exact hm
  · exact nomatch h

/-- A command that is not mirrored is entered with the outcome of its execution. -/
theorem State.runOp_run {s : State} {op : Nat} {c : Cmd} {d : Dma} {core : State → Option (Nat × Nat × Nat) → Nat → CmdSlot → Dma → Ran}
    (hop : s.engineOp op = some c) (hmirror : s.host.mirror = none) (hplain : s.seam.pair ≠ .paired ∨ mirroredOpcode op = false) :
    s.runOp op d core = State.complete c (core s (some c.own) c.func c.slot d) := by
  unfold State.runOp
  rw [hop]
  dsimp only
  unfold State.issue
  rw [if_neg (by simp [hmirror]), if_neg]
  rintro ⟨hpair, hmirrored, -⟩
  rw [State.opcode_of_engineOp hop] at hmirrored
  rcases hplain with h | h
  · exact h hpair
  · exact Bool.noConfusion (h.symm.trans hmirrored)

theorem State.complete_finish {c : Cmd} {r : Ran} (hwait : r.wait = false) (hlater : r.later = false) :
    State.complete c r = r.s.finish c r.status r.result := by
  unfold State.complete
  rw [if_neg (by simp [hwait]), if_neg (by simp [hlater])]

theorem State.complete_finishLater {c : Cmd} {r : Ran} (hwait : r.wait = false) (hlater : r.later = true) :
    State.complete c r = r.s.finishLater c r.status r.result := by
  unfold State.complete
  rw [if_neg (by simp [hwait]), if_pos hlater]

/-- A command whose outcome is known and that is done completes at the next boundary. -/
theorem State.runOp_finish {s : State} {op : Nat} {c : Cmd} {d : Dma} {core : State → Option (Nat × Nat × Nat) → Nat → CmdSlot → Dma → Ran}
    {t : State} {status result : Nat} (hop : s.engineOp op = some c) (hmirror : s.host.mirror = none)
    (hplain : s.seam.pair ≠ .paired ∨ mirroredOpcode op = false)
    (hcore : core s (some c.own) c.func c.slot d = { s := t, status := status, result := result }) :
    s.runOp op d core = t.finish c status result := by
  rw [State.runOp_run hop hmirror hplain, hcore]
  exact State.complete_finish rfl rfl

/-- A command that a later step completes. -/
theorem State.runOp_finishLater {s : State} {op : Nat} {c : Cmd} {d : Dma}
    {core : State → Option (Nat × Nat × Nat) → Nat → CmdSlot → Dma → Ran} {t : State} {status result : Nat} (hop : s.engineOp op = some c)
    (hmirror : s.host.mirror = none) (hplain : s.seam.pair ≠ .paired ∨ mirroredOpcode op = false)
    (hcore : core s (some c.own) c.func c.slot d = { s := t, status := status, result := result, later := true }) :
    s.runOp op d core = t.finishLater c status result := by
  rw [State.runOp_run hop hmirror hplain, hcore]
  exact State.complete_finishLater rfl rfl

theorem State.owes_finish (s : State) (c : Cmd) (status result : Nat) : (s.finish c status result).owes c status result true :=
  ⟨rfl, rfl, _, _, rfl⟩

theorem State.owes_finishLater (s : State) (c : Cmd) (status result : Nat) : (s.finishLater c status result).owes c status result false :=
  ⟨rfl, rfl, _, _, rfl⟩

theorem State.hostPut_ok {s : State} {d : Dma} (f addr : Nat) (bytes : List Byte) (result : Nat) (h : d.wrOk = true) :
    s.hostPut f addr bytes d result = { s := s.emit (.hostWrite f addr bytes), result := result } := if_pos h

/-- A field above the event registers may be written without touching one below. -/
theorem Writes.high {s : State} (F : Field) (v i j : Nat) (h : 8 * 0x150000 ≤ F.key i j) : Writes [] s (s.put F v i j) :=
  fun G a b hb _ => State.get_put_ne s F G v i j a b (by omega)

/-! ## The return path -/

/-- No entry of the return-path table is uncorrectable. -/
def State.rptClean (s : State) : Prop := ∀ e ∈ s.rpt, e.bad = false

theorem State.rptScrub_clean {s : State} (h : s.rptClean) (tag : Nat) : s.rptScrub tag = s := by
  unfold State.rptScrub
  refine if_pos ?_
  rw [List.length_eq_zero_iff, List.filter_eq_nil_iff]
  intro e he
  simp [h e he]

theorem State.rptFound_clean {s : State} (h : s.rptClean) (cursor : Nat) (e : Option RptEntry) : s.rptFound cursor e = s := by
  unfold State.rptFound
  rw [List.filter_eq_nil_iff.2 fun x hx => by simp [h x hx]]
  rfl

theorem coreRptSearch_none {s : State} {own : Option (Nat × Nat × Nat)} {c : CmdSlot} {d : Dma} (hclean : s.rptClean)
    (hparams : badParams c = false) (hnone : s.rptEntry (bits c.p1 23 0) = none) :
    coreRptSearch s own 0 c d = { s := s, status := Sts.NOT_FOUND } := by
  unfold coreRptSearch
  rw [if_neg (not_not_intro rfl), if_neg (by simp [hparams])]
  dsimp only
  rw [State.rptScrub_clean hclean, hnone]
  rfl

theorem coreRptSearch_some {s : State} {own : Option (Nat × Nat × Nat)} {c : CmdSlot} {d : Dma} {e : RptEntry} (hclean : s.rptClean)
    (hparams : badParams c = false) (hsome : s.rptEntry (bits c.p1 23 0) = some e) (hok : d.wrOk = true) :
    coreRptSearch s own 0 c d = { s := s.emit (.hostWrite 0 c.p0.toNat e.record) } := by
  unfold coreRptSearch
  rw [if_neg (not_not_intro rfl), if_neg (by simp [hparams])]
  dsimp only
  rw [State.rptScrub_clean hclean, hsome]
  exact State.hostPut_ok _ _ _ _ hok

theorem coreRptNext_none {s : State} {own : Option (Nat × Nat × Nat)} {c : CmdSlot} {d : Dma} (hclean : s.rptClean)
    (hparams : badParams c = false) (hnone : s.rptFrom (bits c.p1 15 0) (bitOf c.p1 16) = none) :
    coreRptNext s own 0 c d = { s := s, status := Sts.NOT_FOUND } := by
  unfold coreRptNext
  rw [if_neg (not_not_intro rfl), if_neg (by simp [hparams])]
  dsimp only
  rw [State.rptFound_clean hclean, hnone]
  rfl

theorem coreRptNext_some {s : State} {own : Option (Nat × Nat × Nat)} {c : CmdSlot} {d : Dma} {e : RptEntry} (hclean : s.rptClean)
    (hparams : badParams c = false) (hsome : s.rptFrom (bits c.p1 15 0) (bitOf c.p1 16) = some e) (hok : d.wrOk = true) :
    coreRptNext s own 0 c d = { s := s.emit (.hostWrite 0 c.p0.toNat e.record) } := by
  unfold coreRptNext
  rw [if_neg (not_not_intro rfl), if_neg (by simp [hparams])]
  dsimp only
  rw [State.rptFound_clean hclean, hsome]
  exact State.hostPut_ok _ _ _ _ hok

/-- The flush that RPT_FLUSH_BY_PORT leaves for the boundary. -/
def flushOf (own : Option (Nat × Nat × Nat)) (c : CmdSlot) (d : Dma) : RptFlush :=
  { port := bits c.p1 3 0, static := bitOf c.p1 4, addr := c.p0.toNat, wrOk := d.wrOk, cmd := own }

theorem coreRptFlush_ok {s : State} {own : Option (Nat × Nat × Nat)} {c : CmdSlot} {d : Dma} (hparams : badParams c = false) :
    coreRptFlush s own 0 c d =
      { s := { s with rptPend := { s.rptPend with flush := s.rptPend.flush ++ [flushOf own c d] } }, later := true } := by
  unfold coreRptFlush
  rw [if_neg (not_not_intro rfl), if_neg (by simp [hparams])]
  rfl

/-- The message of CTL_SEND with its copies. -/
def ctlOf (own : Option (Nat × Nat × Nat)) (c : CmdSlot) (b : List Byte) (copies : List Nat) : CtlOp :=
  { msg := bits c.p1 15 8, tag := bits c.p1 39 16, body := (List.range 27).map fun i => b.getD i 0, copies := copies, owed := own }

theorem coreCtlSend_eq {s : State} {own : Option (Nat × Nat × Nat)} {c : CmdSlot} {d : Dma} {b : List Byte} (hclean : s.rptClean)
    (hparams : badParams c = false) (hread : d.rd = some b) : coreCtlSend s own 0 c d =
      match s.rptEntry (bits c.p1 39 16) with
      | some e => if s.portUp e.port then { s := s.addControl (ctlOf own c b [e.port]), later := true }
          else { s := s.bump Reg.RPT_CNT_UNROUTED_COUNT, status := Sts.NO_ROUTE }
      | none => { s := (s.addControl (ctlOf own c b ((List.range 16).filter s.portUp))).bump Reg.RPT_CNT_FLOOD_COUNT, later := true } := by
  unfold coreCtlSend
  rw [if_neg (not_not_intro rfl), if_neg (by simp [hparams]), hread]
  dsimp only
  rw [State.rptScrub_clean hclean]
  rfl

/-! ## Static entries -/

/-- GO with a change of a static entry: BUSY from then on, the change queued unless one waits. -/
theorem State.staticGo_spec (s : State) (write : Bool) (tag port : Nat) :
    (s.staticGo write tag port).flag Reg.RPT_STATIC_BUSY = true ∧ (s.staticGo write tag port).rpt = s.rpt ∧
    (s.staticGo write tag port).rptPend.static =
      (if s.flag Reg.RPT_STATIC_BUSY then s.rptPend.static else s.rptPend.static ++ [(write, tag, port)]) := by
  unfold State.staticGo
  split
  case isTrue h => exact ⟨h, rfl, rfl⟩
  case isFalse =>
    refine ⟨?_, rfl, rfl⟩
    exact congrArg (· == 1) (State.get_put_same s Reg.RPT_STATIC_BUSY 1 0 0)

theorem State.staticFields_writes (s : State) (tag port op : Nat) :
    Writes [Reg.RPT_STATIC_TAG.key, Reg.RPT_STATIC_PORT.key, Reg.RPT_STATIC_OP.key] s (s.staticFields tag port op) :=
  ((Writes.refl.step (Writes.put _ _ 0 0)).step (Writes.put _ _ 0 0)).step (Writes.put _ _ 0 0)

theorem doRptStaticInvalid_spec {s : State} {op : BitVec 2} (hbusy : s.flag Reg.RPT_STATIC_BUSY = false) (hop : op = 0 ∨ op = 3) :
    (doRptStaticInvalid op s).get Reg.RPT_STATIC_RESULT = 3 ∧ (doRptStaticInvalid op s).rptPend = s.rptPend ∧
    (doRptStaticInvalid op s).rpt = s.rpt := by
  have hstep : doRptStaticInvalid op s = (s.put Reg.RPT_STATIC_OP op.toNat).put Reg.RPT_STATIC_RESULT 3 := by
    refine if_neg ?_
    rintro (h | h | h)
    · exact Bool.noConfusion (hbusy.symm.trans h)
    · rcases hop with rfl | rfl <;> exact absurd h (by decide)
    · rcases hop with rfl | rfl <;> exact absurd h (by decide)
  rw [hstep]
  exact ⟨State.get_put_same _ _ _ _ _, rfl, rfl⟩

theorem State.mem_aged {s : State} {b w : Nat} : (b, w) ∈ (s.aged.map fun e => (e.bucket, e.way)) ↔
    ∃ x ∈ s.rpt, x.bucket = b ∧ x.way = w ∧ x.static = false ∧ s.ageTicks < tickSub s.tick.now x.last := by
  simp only [State.aged, List.mem_map, List.mem_filter, Bool.and_eq_true, Bool.not_eq_true', decide_eq_true_eq, Prod.mk.injEq]
  constructor
  · rintro ⟨x, ⟨hx, hstatic, hage⟩, hb, hw⟩
    exact ⟨x, hx, hb, hw, hstatic, hage⟩
  · rintro ⟨x, hx, hb, hw, hstatic, hage⟩
    exact ⟨x, ⟨hx, hstatic, hage⟩, hb, hw⟩

/-- Settles O21, by the pending change that each register write leaves, and by each command whose checks pass. -/
theorem returnPath : Obligations.ReturnPath := by
  unfold Obligations.ReturnPath
  refine ⟨⟨fun s tag port hm => ?_, fun s tag hm => ?_, fun s op hm hbusy hop => ?_, fun s hm hage => ?_⟩,
    fun s c d hop hmirror hfunc hparams hok hclean => ?_, fun s c d hop hmirror hfunc hparams hok hclean => ?_,
    fun s c d hop hmirror hfunc hparams => ?_, fun s c d b hop hmirror hfunc hparams hread hclean => ⟨fun hroute => ?_, fun e he hdown => ?_⟩⟩
  · have hwrites := s.touchIdle.staticFields_writes tag.toNat port.toNat 1
    obtain ⟨hset, hrpt, hpend⟩ := (s.touchIdle.staticFields tag.toNat port.toNat 1).staticGo_spec true tag.toNat port.toNat
    rw [hwrites.flag Reg.RPT_STATIC_BUSY] at hpend
    exact ⟨_, congrArg Host.Outcome.next (if_pos hm), hset, hrpt, hpend⟩
  · have hwrites : Writes [Reg.RPT_STATIC_TAG.key, Reg.RPT_STATIC_OP.key] s.touchIdle
        ((s.touchIdle.put Reg.RPT_STATIC_TAG tag.toNat).put Reg.RPT_STATIC_OP 2) :=
      (Writes.refl.step (Writes.put _ _ 0 0)).step (Writes.put _ _ 0 0)
    obtain ⟨hset, hrpt, hpend⟩ := ((s.touchIdle.put Reg.RPT_STATIC_TAG tag.toNat).put Reg.RPT_STATIC_OP 2).staticGo_spec false tag.toNat 0
    rw [hwrites.flag Reg.RPT_STATIC_BUSY] at hpend
    exact ⟨_, congrArg Host.Outcome.next (if_pos hm), hset, hrpt, hpend⟩
  · obtain ⟨hresult, hpend, hrpt⟩ := doRptStaticInvalid_spec (s := s.touchIdle) hbusy hop
    exact ⟨_, congrArg Host.Outcome.next (if_pos hm), hresult, hpend, hrpt⟩
  · have hexec : exec .rptAgeing s = _ := congrArg Host.Outcome.next ((if_pos hm).trans (if_neg hage))
    exact ⟨_, hexec, rfl, fun e _ => State.mem_aged (s := s.touchIdle)⟩
  · cases hentry : s.rptEntry (bits c.slot.p1 23 0) with
    | none =>
      have hexec : s.runOp 0x18 d coreRptSearch = s.finish c Sts.NOT_FOUND :=
        State.runOp_finish hop hmirror (.inr (by decide)) (by rw [hfunc]; exact coreRptSearch_none hclean hparams hentry)
      exact ⟨_, congrArg Host.Outcome.next hexec, rfl, fun e h => (nomatch h), fun _ => ⟨rfl, State.owes_finish ..⟩⟩
    | some x =>
      have hexec : s.runOp 0x18 d coreRptSearch = (s.emit (.hostWrite 0 c.slot.p0.toNat x.record)).finish c Sts.SUCCESS :=
        State.runOp_finish hop hmirror (.inr (by decide)) (by rw [hfunc]; exact coreRptSearch_some hclean hparams hentry hok)
      refine ⟨_, congrArg Host.Outcome.next hexec, rfl, fun e h => ?_, fun h => (nomatch h)⟩
      obtain rfl := Option.some.inj h
      exact ⟨rfl, State.owes_finish ..⟩
  · cases hentry : s.rptFrom (bits c.slot.p1 15 0) (bitOf c.slot.p1 16) with
    | none =>
      have hexec : s.runOp 0x19 d coreRptNext = s.finish c Sts.NOT_FOUND :=
        State.runOp_finish hop hmirror (.inr (by decide)) (by rw [hfunc]; exact coreRptNext_none hclean hparams hentry)
      exact ⟨_, congrArg Host.Outcome.next hexec, rfl, fun e h => (nomatch h), fun _ => ⟨rfl, State.owes_finish ..⟩⟩
    | some x =>
      have hexec : s.runOp 0x19 d coreRptNext = (s.emit (.hostWrite 0 c.slot.p0.toNat x.record)).finish c Sts.SUCCESS :=
        State.runOp_finish hop hmirror (.inr (by decide)) (by rw [hfunc]; exact coreRptNext_some hclean hparams hentry hok)
      refine ⟨_, congrArg Host.Outcome.next hexec, rfl, fun e h => ?_, fun h => (nomatch h)⟩
      obtain rfl := Option.some.inj h
      exact ⟨rfl, State.owes_finish ..⟩
  · have hexec := State.runOp_finishLater (d := d) (core := coreRptFlush) hop hmirror (.inr (by decide))
      (by rw [hfunc]; exact coreRptFlush_ok hparams)
    exact ⟨_, flushOf (some c.own) c.slot d, congrArg Host.Outcome.next hexec, rfl, rfl, rfl, rfl, State.owes_finishLater .., rfl⟩
  · have hcore := coreCtlSend_eq (own := some c.own) hclean hparams hread
    cases hentry : s.rptEntry (bits c.slot.p1 39 16) with
    | none =>
      rw [hentry] at hcore
      have hexec := State.runOp_finishLater (core := coreCtlSend) hop hmirror (.inr (by decide)) (by rw [hfunc]; exact hcore)
      exact ⟨_, ctlOf (some c.own) c.slot b ((List.range 16).filter s.portUp), congrArg Host.Outcome.next hexec, rfl, rfl, rfl, rfl,
        State.owes_finishLater .., fun e h => (nomatch h), fun _ => rfl⟩
    | some x =>
      rw [hentry] at hcore hroute
      obtain ⟨e, he, hup⟩ := hroute.resolve_right (Option.some_ne_none x)
      obtain rfl := Option.some.inj he
      dsimp only at hcore
      rw [if_pos hup] at hcore
      have hexec := State.runOp_finishLater (core := coreCtlSend) hop hmirror (.inr (by decide)) (by rw [hfunc]; exact hcore)
      refine ⟨_, ctlOf (some c.own) c.slot b [x.port], congrArg Host.Outcome.next hexec, rfl, rfl, rfl, rfl,
        State.owes_finishLater .., fun e h => ?_, fun h => (nomatch h)⟩
      obtain rfl := Option.some.inj h
      rfl
  · have hcore := coreCtlSend_eq (own := some c.own) hclean hparams hread
    rw [he] at hcore
    dsimp only at hcore
    rw [if_neg (by simp [hdown])] at hcore
    have hexec := State.runOp_finish (core := coreCtlSend) hop hmirror (.inr (by decide)) (by rw [hfunc]; exact hcore)
    exact ⟨_, congrArg Host.Outcome.next hexec, State.owes_finish .., rfl⟩

/-! ## The shadow -/

/-- The digests of four buckets, written one by one. -/
def State.writeDigest (w : BitVec 12) (v : BitVec 64) (s : State) (i : Nat) : State :=
  { s with shadow := fset s.shadow (4 * w.toNat + i) 0 (bits v (16 * i + 15) (16 * i)) }

theorem fgetD_writeDigest (w : BitVec 12) (v : BitVec 64) (s : State) (i b : Nat) : fgetD (s.writeDigest w v i).shadow b 0 =
    if b = 4 * w.toNat + i then bits v (16 * i + 15) (16 * i) else fgetD s.shadow b 0 := by
  split
  case isTrue h => rw [h]; exact fgetD_fset_same _ _ _ _
  case isFalse h => exact fgetD_fset_ne _ _ _ _ (Ne.symm h)

theorem fgetD_shadow_foldl (w : BitVec 12) (v : BitVec 64) (s : State) (b n : Nat) :
    fgetD ((List.range n).foldl (State.writeDigest w v) s).shadow b 0 =
      if 4 * w.toNat ≤ b ∧ b < 4 * w.toNat + n then bits v (16 * (b - 4 * w.toNat) + 15) (16 * (b - 4 * w.toNat)) else fgetD s.shadow b 0 := by
  induction n with
  | zero => rw [if_neg (by omega)]; rfl
  | succ n ih =>
    rw [List.range_succ, List.foldl_append, List.foldl_cons, List.foldl_nil, fgetD_writeDigest, ih]
    by_cases h : b = 4 * w.toNat + n
    · rw [if_pos h, if_pos (by omega), show b - 4 * w.toNat = n by omega]
    · rw [if_neg h]
      exact if_congr (by omega) rfl rfl

/-- The registers that a pass writes which finds n buckets wrong, the lowest among it. -/
def State.shadowMarked (s : State) (n low : Nat) : State :=
  ((s.bump Reg.RPT_CNT_SHADOW_MISMATCH_COUNT n).put Reg.RPT_MISMATCH_BUCKET low).put Reg.RPT_STATUS_SHADOW_MISMATCH 1

/-- What a pass that finds n buckets wrong records, with its event. -/
def State.shadowFound (s : State) (n low : Nat) : State := (s.shadowMarked n low).raise Ev.RPT_SHADOW

theorem doShadowPass_clean {s : State} (hm : s.mode = .service) (hen : s.flag Reg.RPT_CTRL_SHADOW_EN = true) (hfree : s.reqFenced 13 = false)
    (hclean : s.rptClean) : doShadowPass s =
      match s.shadowBuckets.filter fun b => s.bucketDigest b != fgetD s.shadow b 0 with
      | [] => s
      | b :: rest => s.shadowFound (rest.length + 1) (rest.foldl min b) := by
  have hfold : ((s.rpt.filter (·.bad)).map (·.tag)).foldl State.rptScrub s = s := by
    rw [List.filter_eq_nil_iff.2 fun e he => by simp [hclean e he]]
    rfl
  unfold doShadowPass
  rw [if_neg (by simp [hm, hen, hfree])]
  dsimp only
  rw [hfold]
  generalize (s.shadowBuckets.filter fun b => s.bucketDigest b != fgetD s.shadow b 0) = bad
  cases bad <;> rfl

theorem State.get_event_shadowFound {s : State} (hm : s.mode = .service) (n low : Nat) :
    (s.shadowFound n low).get Reg.EVT_SRC_COUNT Ev.RPT_SHADOW = min (s.get Reg.EVT_SRC_COUNT Ev.RPT_SHADOW + 1) 255 := by
  have hmode : (s.shadowMarked n low).mode = .service := hm
  rw [State.shadowFound, State.get_count_raise _ _ (by decide) hmode, State.shadowMarked, State.get_put_ne _ _ _ _ _ _ _ _ (by decide),
    State.get_put_ne _ _ _ _ _ _ _ _ (by decide), State.get_bump_ne _ _ _ _ _ _ _ _ (by decide)]

theorem State.shadowFound_spec (s : State) (n low : Nat) (hlow : low < 2 ^ 14) :
    (s.shadowFound n low).get Reg.RPT_MISMATCH_BUCKET = low ∧ (s.shadowFound n low).get Reg.RPT_CNT_SHADOW_MISMATCH_COUNT =
      min (s.get Reg.RPT_CNT_SHADOW_MISMATCH_COUNT + n) Reg.RPT_CNT_SHADOW_MISMATCH_COUNT.max ∧
    (s.shadowFound n low).flag Reg.RPT_STATUS_SHADOW_MISMATCH = true ∧ (s.shadowFound n low).rpt = s.rpt := by
  unfold State.shadowFound
  have hrpt : (s.shadowMarked n low).rpt = ((s.shadowMarked n low).raise Ev.RPT_SHADOW).rpt := State.raise_within.same .rpt
  refine ⟨?_, ?_, ?_, hrpt.symm⟩
  · rw [(Writes.raise Ev.RPT_SHADOW).get Reg.RPT_MISMATCH_BUCKET, State.shadowMarked,
      (Writes.put Reg.RPT_STATUS_SHADOW_MISMATCH 1 0 0).get Reg.RPT_MISMATCH_BUCKET, State.get_put_same]
    exact Nat.mod_eq_of_lt hlow
  · rw [(Writes.raise Ev.RPT_SHADOW).get Reg.RPT_CNT_SHADOW_MISMATCH_COUNT, State.shadowMarked,
      (Writes.put Reg.RPT_STATUS_SHADOW_MISMATCH 1 0 0).get Reg.RPT_CNT_SHADOW_MISMATCH_COUNT,
      (Writes.put Reg.RPT_MISMATCH_BUCKET low 0 0).get Reg.RPT_CNT_SHADOW_MISMATCH_COUNT, State.get_bump_same]
  · rw [(Writes.raise Ev.RPT_SHADOW).flag Reg.RPT_STATUS_SHADOW_MISMATCH, State.shadowMarked, State.flag, State.get_put_same]
    rfl

/-- Settles O22, by counting the buckets that disagree over one pass. -/
theorem shadowEngine : Obligations.ShadowEngine := by
  unfold Obligations.ShadowEngine
  refine ⟨fun s w v hm => ?_, fun s bucket digest hm => ?_, fun s bad hm hen hfree hclean hbad => ?_⟩
  · have hexec : exec (.rptShadowWrite w v) s = .next ((List.range 4).foldl (State.writeDigest w v) s.touchIdle) :=
      congrArg Host.Outcome.next (if_pos hm)
    refine ⟨_, hexec, fun i hi => ?_, fun b hb => ?_⟩
    · rw [fgetD_shadow_foldl, if_pos (by omega), Nat.add_sub_cancel_left]
    · rw [fgetD_shadow_foldl, if_neg (by omega)]
      rfl
  · exact ⟨_, congrArg Host.Outcome.next (if_pos hm), fgetD_fset_same _ _ _ _, fun b hb => fgetD_fset_ne _ _ _ _ (Ne.symm hb)⟩
  · have hpass := doShadowPass_clean hm hen hfree hclean
    rw [← hbad] at hpass
    refine ⟨fun hnone => ?_, fun b rest hcons hlow => ?_⟩
    · rw [hnone] at hpass
      exact congrArg Host.Outcome.next hpass
    · rw [hcons] at hpass
      obtain ⟨hlowest, hcount, hflag, hrpt⟩ := s.shadowFound_spec (rest.length + 1) _ hlow
      rw [hcons]
      exact ⟨_, congrArg Host.Outcome.next hpass, hlowest, hcount, hflag, hrpt, State.get_event_shadowFound hm _ _⟩

end Sys2Proof.Machine
end

section
/-! PROOFS. Channels: their creation, destruction and release (O23), quotas and stalls (O24). -/

namespace Sys2Proof.Machine

set_option Elab.async false

/-! ## Completions and causes -/

theorem State.postOne_writes (s : State) (o : Owed) : Writes [] s (s.postOne o false) := by
  unfold State.postOne
  exact .ite .refl ((Writes.of_regs rfl : Writes [] s _).trans (Writes.high _ _ _ _ (by simp only [Field.key, Reg.QUE_CPL_TAIL_TAIL]; omega)))

/-- A completion that is written now touches no field below the event registers. -/
theorem State.completeNow_writes (s : State) (own : Option (Nat × Nat × Nat)) (status result : Nat) :
    Writes [] s (s.completeNow own status result) := by
  unfold State.completeNow
  split
  · exact .refl
  · split
    · exact .refl
    · extract_lets _ t u
      have ht : Writes [] s t := .of_regs rfl
      have hpost : Writes [] s u := ht.trans (t.postOne_writes _)
      exact .ite hpost (hpost.trans (.of_within State.cplMessage_within))

theorem State.chan_of_within {w : List Part} {s t : State} (h : Within w s t) (n : Nat) (hw : Part.chans ∉ w := by decide) :
    t.chan n = s.chan n := by
  unfold State.chan
  rw [show s.chans = t.chans from h.same .chans hw]

/-- A cause of a channel that is one below the event registers is set from then on. -/
theorem State.flag_chanCause (s : State) (F : Field) (slot : Nat) (hF : F.width = 1) (hkey : F.key slot < 8 * 0x150000) :
    (s.chanCause F slot).flag F slot = true := by
  unfold State.chanCause
  split
  case isTrue h => exact h
  case isFalse =>
    have hput : (s.put F 1 slot).flag F slot = true := by
      rw [State.flag, State.get_put_same, hF]
      rfl
    exact (congrArg (· == 1) (Writes.raise _ F slot 0 hkey (List.not_mem_nil))).trans hput

theorem chnStatus_key (F : Field) (hF : F.base = 0x40008 ∧ F.lo < 64 ∧ F.st1 = 2048) (slot : BitVec 8) : F.key slot.toNat < 8 * 0x150000 := by
  obtain ⟨hbase, hlo, hst⟩ := hF
  have hslot := slot.isLt
  simp only [Field.key, hbase, hst]
  omega

/-! ## CHN_CREATE and CHN_DESTROY -/

theorem coreChnCreate_ok {s : State} {own : Option (Nat × Nat × Nat)} {f n : Nat} {c : CmdSlot} {d : Dma} {b : List Byte}
    (hparams : badParams c = false) (hread : d.rd = some b) (hgood : s.badTemplate (templateOf b) c.p0.toNat (bits c.p1 8 0) = false)
    (hright : s.mayReference f (templateOf b).lookups = true) (hfree : s.freeSlot f = some n) (hfits : s.quotaFits (templateOf b).qf = true) :
    coreChnCreate 0 s own f c d = { s := s.setChan n ((templateOf b).channel f (nextGen (s.chan n).gen) .creating),
                                    result := n + 256 * nextGen (s.chan n).gen } := by
  have hslot : s.chooseSlot f 0 = some (n, nextGen (s.chan n).gen) := by
    unfold State.chooseSlot
    rw [if_pos rfl, hfree]
    rfl
  unfold coreChnCreate
  rw [if_neg (by simp [hparams]), hread]
  dsimp only
  rw [if_neg (by simp [hgood]), if_neg (by simp [hright]), hslot]
  dsimp only
  rw [if_neg (by simp [hfits])]

theorem coreChnDestroy_ok {s : State} {own : Option (Nat × Nat × Nat)} {f n : Nat} {c : CmdSlot} {d : Dma} (hparams : badParams c = false)
    (hn : n = bits c.p0 15 0 % 256) (hne : n ≠ 0) (hrange : f = 0 ∨ s.slotRange f n = true) (hgen : (s.chan n).gen = bits c.p0 15 0 / 256)
    (hlive : (s.chan n).st = .live) :
    coreChnDestroy s own f c d = { s := s.setChan n { s.chan n with st := .destroying, cmd := own }, later := true } := by
  subst hn
  unfold coreChnDestroy
  dsimp only
  rw [if_neg (by simp [hparams]), if_neg, if_neg (by simp [hne, hlive, hgen]), if_neg (by simp [hlive])]
  rintro ⟨hf, -, hout⟩
  rcases hrange with h | h
  · exact hf h
  · exact Bool.noConfusion (hout.symm.trans h)

/-! ## The release of a slot -/

/-- A fenced slot that becomes free, before its command completes. -/
def State.slotFreed (s : State) (n : Nat) : State :=
  (s.setChan n { s.chan n with st := .free, fencedAt := none, cmd := none }).chanCause Reg.CHN_STATUS_CLOSED n

theorem doChannelSlotFree_eq {s : State} {slot : BitVec 8} {k : Tick} (hk : (s.chan slot.toNat).fencedAt = some k)
    (hst : (s.chan slot.toNat).st = .fencing) : doChannelSlotFree slot s =
      if tickLe (tickAdd k (s.lat + s.settle)) s.tick.now = true then
        (s.slotFreed slot.toNat).completeNow (s.chan slot.toNat).cmd Sts.SUCCESS else s := by
  unfold doChannelSlotFree
  dsimp only
  rw [hk]
  dsimp only
  exact if_congr (by simp [hst]) rfl rfl

theorem State.chan_slotFreed (s : State) (n m : Nat) (own : Option (Nat × Nat × Nat)) :
    ((s.slotFreed n).completeNow own Sts.SUCCESS).chan m =
      if m = n then { s.chan n with st := .free, fencedAt := none, cmd := none } else s.chan m := by
  rw [State.chan_of_within State.completeNow_within, State.slotFreed, State.chan_of_within State.chanCause_within]
  split
  case isTrue h => rw [h, State.chan_setChan_same]
  case isFalse h => rw [State.chan_setChan_ne _ _ (Ne.symm h)]

/-- Settles O23, by the core of each command once its checks pass, and by the boundary at which a fenced slot is freed. -/
theorem channelLifecycle : Obligations.ChannelLifecycle := by
  unfold Obligations.ChannelLifecycle
  refine ⟨⟨fun s c d b n hop hmirror hpair hparams hread hgood hright hfree hfits => ?_,
    fun s c n hop hmirror hpair hparams hn hne hrange hgen hlive => ?_⟩, fun s slot k hk hst => ⟨fun hdue => ?_, fun hearly => ?_⟩⟩
  · have hexec := State.runOp_finish (d := d) (core := coreChnCreate 0) hop hmirror (.inl hpair)
      (coreChnCreate_ok hparams hread hgood hright hfree hfits)
    have hchan : ∀ m, (State.finish (s.setChan n ((templateOf b).channel c.func (nextGen (s.chan n).gen) .creating)) c Sts.SUCCESS
        (n + 256 * nextGen (s.chan n).gen)).chan m = (s.setChan n ((templateOf b).channel c.func (nextGen (s.chan n).gen) .creating)).chan m :=
      fun m => State.chan_of_within State.finish_within m
    refine ⟨_, congrArg Host.Outcome.next hexec, ?_, ?_, ?_, ?_, ?_, ?_, ?_, fun m hm => ?_, State.owes_finish ..⟩
    · rw [hchan, State.chan_setChan_same]; rfl
    · rw [hchan, State.chan_setChan_same]; rfl
    · rw [hchan, State.chan_setChan_same]; rfl
    · rw [hchan, State.chan_setChan_same]; rfl
    · rw [hchan, State.chan_setChan_same]; rfl
    · rw [hchan, State.chan_setChan_same]; rfl
    · rw [hchan, State.chan_setChan_same]; rfl
    · rw [hchan, State.chan_setChan_ne _ _ (Ne.symm hm)]
  · have hexec := State.runOp_finishLater (d := {}) (core := coreChnDestroy) hop hmirror (.inl hpair)
      (coreChnDestroy_ok hparams hn hne hrange hgen hlive)
    refine ⟨_, congrArg Host.Outcome.next hexec, ?_, fun m hm => ?_, State.owes_finishLater ..⟩
    · rw [State.chan_of_within State.finishLater_within, State.chan_setChan_same]
    · rw [State.chan_of_within State.finishLater_within, State.chan_setChan_ne _ _ (Ne.symm hm)]
  · have hexec := (doChannelSlotFree_eq hk hst).trans (if_pos hdue)
    refine ⟨_, congrArg Host.Outcome.next hexec, ?_, ?_, fun m hm => ?_⟩
    · rw [State.chan_slotFreed, if_pos rfl]
    · have hkey := chnStatus_key Reg.CHN_STATUS_CLOSED (by decide) slot
      refine (congrArg (· == 1) (State.completeNow_writes _ _ _ _ Reg.CHN_STATUS_CLOSED slot.toNat 0 hkey List.not_mem_nil)).trans ?_
      exact State.flag_chanCause _ _ _ rfl hkey
    · rw [State.chan_slotFreed, if_neg hm]
  · exact congrArg Host.Outcome.next ((doChannelSlotFree_eq hk hst).trans (if_neg (by simp [hearly])))

/-! ## Quotas and stalls -/

theorem State.applyQuota_fits {s : State} {n : Nat} {hi : Bool} {v : BitVec 64} (hst : (s.chan n).st = .live ∨ (s.chan n).st = .destroying)
    (hfits : ∀ g < 8, s.qfSum g - (s.chan n).qf.getD g 0 + (newQuota (s.chan n).qf hi v).getD g 0 ≤ 1024) :
    s.applyQuota n hi v = s.setChan n { s.chan n with qf := newQuota (s.chan n).qf hi v } := by
  unfold State.applyQuota
  dsimp only
  rw [if_neg (by rcases hst with h | h <;> simp [h]), if_pos (List.all_eq_true.2 fun g hg => decide_eq_true (hfits g (List.mem_range.1 hg)))]

theorem State.applyQuota_over {s : State} {n : Nat} {hi : Bool} {v : BitVec 64} (hst : (s.chan n).st = .live ∨ (s.chan n).st = .destroying)
    (hover : ∃ g < 8, 1024 < s.qfSum g - (s.chan n).qf.getD g 0 + (newQuota (s.chan n).qf hi v).getD g 0) :
    s.applyQuota n hi v = s.chanCause Reg.CHN_STATUS_QUOTA_ERR n := by
  obtain ⟨g, hg, hlt⟩ := hover
  unfold State.applyQuota
  dsimp only
  rw [if_neg (by rcases hst with h | h <;> simp [h]), if_neg]
  intro hall
  exact Nat.not_lt.2 (of_decide_eq_true (List.all_eq_true.1 hall g (List.mem_range.2 hg))) hlt

/-- The write of a quota to a slot of the function's range that holds a channel not yet fenced. -/
theorem doChnQuotaWrite_own {s : State} {f : Fin 16} {slot : BitVec 8} (hi : Bool) (v : BitVec 64) (hrange : s.slotRange f slot.toNat = true)
    (hst : (s.chan slot.toNat).st = .live ∨ (s.chan slot.toNat).st = .destroying) : doChnQuotaWrite f slot hi v s =
      if s.seam.pair = .paired then
        if ((s.applyQuota slot.toNat hi v).chan slot.toNat).qf = newQuota (s.chan slot.toNat).qf hi v then
          s.startMirror (.quota slot hi v) slot.toNat none else s.applyQuota slot.toNat hi v
      else s.applyQuota slot.toNat hi v := by
  unfold doChnQuotaWrite
  dsimp only
  rw [if_neg]
  rintro (h | ⟨h1, h2⟩)
  · exact Bool.noConfusion (hrange.symm.trans h)
  · exact hst.elim h1 h2

theorem State.ops_sendSeam (s : State) (m : SeamOut) : (s.sendSeam m).seam.ops = s.seam.ops := by
  unfold State.sendSeam
  split <;> rfl

/-- A mirrored operation that starts joins the operations under way. -/
theorem State.ops_startMirror (s : State) (op : MirrorOp) (target : Nat) (cmd : Option (Nat × Nat × Nat)) :
    (s.startMirror op target cmd).seam.ops =
      s.seam.ops ++ [{ id := s.seam.nextId, mine := true, op := op, cmd := cmd, target := target }] :=
  State.ops_sendSeam _ _

theorem doChannelStall_eq {s : State} {slot : BitVec 8} (hfree : (s.chan slot.toNat).st ≠ .free) (hcreating : (s.chan slot.toNat).st ≠ .creating) :
    doChannelStall slot s = if (s.chan slot.toNat).limit ≤ s.waitAge slot.toNat then s.chanCause Reg.CHN_STATUS_STALL slot.toNat else s :=
  if_congr (by simp [hfree, hcreating]) rfl rfl

/-- Settles O24, by the sums that decide a quota write, and by the age that sets STALL. -/
theorem quotasAndStall : Obligations.QuotasAndStall := by
  unfold Obligations.QuotasAndStall
  refine ⟨fun s f slot hi v n q hm hn hq => ?_, fun s slot hfree hcreating => ⟨fun hage => ?_, fun hyoung => ?_⟩⟩
  · subst hn hq
    refine ⟨fun hrange hst => ⟨fun hfits hpair => ?_, fun hfits hpair => ?_, fun hover hpair => ?_⟩, fun hother => ?_⟩
    · have hexec := (doChnQuotaWrite_own (s := s.touchIdle) hi v hrange hst).trans ((if_neg hpair).trans (State.applyQuota_fits hst hfits))
      refine ⟨_, congrArg Host.Outcome.next ((if_pos hm).trans hexec), ?_, fun m hne => ?_⟩
      · rw [State.chan_setChan_same]
        rfl
      · rw [State.chan_setChan_ne _ _ (Ne.symm hne)]
        rfl
    · have happly := State.applyQuota_fits (s := s.touchIdle) (n := slot.toNat) (hi := hi) (v := v) hst hfits
      have hexec := (doChnQuotaWrite_own (s := s.touchIdle) hi v hrange hst).trans ((if_pos hpair).trans (if_pos (by
        rw [happly, State.chan_setChan_same])))
      refine ⟨_, congrArg Host.Outcome.next ((if_pos hm).trans hexec), ?_, State.ops_startMirror s.touchIdle _ _ _⟩
      exact (State.startMirror_within.same .chans : s.touchIdle.chans = _).symm
    · have hexec := (doChnQuotaWrite_own (s := s.touchIdle) hi v hrange hst).trans ((if_neg hpair).trans (State.applyQuota_over hst hover))
      refine ⟨_, congrArg Host.Outcome.next ((if_pos hm).trans hexec), ?_, ?_⟩
      · exact (State.chanCause_within.same .chans : s.touchIdle.chans = _).symm
      · exact State.flag_chanCause _ _ _ rfl (chnStatus_key Reg.CHN_STATUS_QUOTA_ERR (by decide) slot)
    · refine congrArg Host.Outcome.next ((if_pos hm).trans (if_pos ?_))
      rcases hother with h | h | h | h
      · exact .inl h
      · exact .inr (by simp [State.touchIdle, State.chan] at h ⊢; simp [h])
      · exact .inr (by simp [State.touchIdle, State.chan] at h ⊢; simp [h])
      · exact .inr (by simp [State.touchIdle, State.chan] at h ⊢; simp [h])
  · have hexec := (doChannelStall_eq hfree hcreating).trans (if_pos hage)
    exact ⟨_, congrArg Host.Outcome.next hexec, State.flag_chanCause _ _ _ rfl (chnStatus_key Reg.CHN_STATUS_STALL (by decide) slot),
      (State.chanCause_within.same .chans : s.chans = _).symm⟩
  · exact congrArg Host.Outcome.next ((doChannelStall_eq hfree hcreating).trans (if_neg (Nat.not_le.2 hyoung)))

end Sys2Proof.Machine
end

section
/-! PROOFS. Tables: their life (O26), reads (O27), tallies and the loss list (O28), and the opening of an edit group (O29). -/

namespace Sys2Proof.Machine

set_option Elab.async false

/-- A command that a check refuses completes with its status, changing nothing else. -/
theorem State.runOp_deny {s : State} {op : Nat} {c : Cmd} {d : Dma} {core : State → Option (Nat × Nat × Nat) → Nat → CmdSlot → Dma → Ran}
    {status : Nat} (hop : s.engineOp op = some c) (hmirror : s.host.mirror = none)
    (hcore : core s (some c.own) c.func c.slot d = s.deny status) (hstatus : status ≠ Sts.SUCCESS) :
    s.runOp op d core = s.finish c status := by
  unfold State.runOp
  rw [hop]
  dsimp only
  unfold State.issue
  rw [if_neg (by simp [hmirror]), hcore]
  dsimp only
  rw [if_neg]
  · exact State.complete_finish rfl rfl
  · rintro ⟨-, -, hsuccess, -⟩
    exact hstatus hsuccess

theorem Within.table {w : List Part} {s t : State} (h : Within w s t) (n : Nat) (hw : Part.tables ∉ w := by decide) :
    t.table n = s.table n := by
  unfold State.table
  rw [show s.tables = t.tables from h.same .tables hw]

/-! ## TBL_CREATE -/

/-- Giving blocks to a table changes its list of blocks alone. -/
theorem State.table_giveBlocks (n t : Nat) (s : State) :
    (∀ k, s.table t = some k → ∃ l, (State.giveBlocks n t s).table t = some { k with blocks := l }) ∧
    ∀ u, u ≠ t → (State.giveBlocks n t s).table u = s.table u := by
  induction n generalizing s with
  | zero => exact ⟨fun k hk => ⟨k.blocks, hk⟩, fun u _ => rfl⟩
  | succ n ih =>
    unfold State.giveBlocks
    split
    case h_1 b d hpick hd =>
      obtain ⟨hown, hothers⟩ := ih (s.drawn.setTable t { d with blocks := d.blocks ++ [b] })
      refine ⟨fun k hk => ?_, fun u hu => ?_⟩
      · obtain rfl := Option.some.inj (hd.symm.trans hk)
        exact hown { d with blocks := d.blocks ++ [b] } (State.table_setTable_same _ _ _)
      · exact (hothers u hu).trans (State.table_setTable_ne _ _ (Ne.symm hu))
    case h_2 => exact ⟨fun k hk => ⟨k.blocks, hk⟩, fun u _ => rfl⟩

theorem State.table_allot (s : State) (t : Nat) (d : Table) : (∃ l, (s.allot t d).table t = some { d with blocks := l }) ∧
    ∀ u, u ≠ t → (s.allot t d).table u = s.table u := by
  have hbays : Within [.freeCtr, .bays] (s.setTable t { d with blocks := [] })
      (d.galList.foldl (fun (x : State) g => x.addBay g t 0 d.ncat []) (s.setTable t { d with blocks := [] })) :=
    Within.foldl (fun _ _ h => h.step State.addBay_within) .refl
  unfold State.allot
  extract_lets u
  obtain ⟨hown, hothers⟩ := State.table_giveBlocks d.tallyNblk t u
  constructor
  · exact hown { d with blocks := [] } ((hbays.table t).trans (State.table_setTable_same _ _ _))
  · intro n hn
    exact (hothers n hn).trans ((hbays.table n).trans (State.table_setTable_ne _ _ (Ne.symm hn)))

theorem coreTblCreate_vf {s : State} {own : Option (Nat × Nat × Nat)} {f : Nat} {c : CmdSlot} {d : Dma} (h : f ≠ 0) :
    coreTblCreate s own f c d = s.deny Sts.DENIED := if_pos h

theorem coreTblDestroy_vf {s : State} {own : Option (Nat × Nat × Nat)} {f : Nat} {c : CmdSlot} {d : Dma} (h : f ≠ 0) :
    coreTblDestroy s own f c d = s.deny Sts.DENIED := if_pos (.inl h)

/-- The table that TBL_CREATE makes of a descriptor. -/
def newTable (k : Table) : Table := { k with creating := true, learnLast := k.learnBase + k.learnCount - 1 }

theorem coreTblCreate_ok {s : State} {own : Option (Nat × Nat × Nat)} {c : CmdSlot} {d : Dma} {b : List Byte} (hread : d.rd = some b)
    (hparams : badParams c = false) (hgood : s.badTable (tableOfBytes b) = false) (hnone : s.table (bits c.p1 5 0) = none)
    (hfits : s.tableFits (tableOfBytes b) = true) :
    coreTblCreate s own 0 c d = { s := s.allot (bits c.p1 5 0) (newTable (tableOfBytes b)) } := by
  unfold coreTblCreate
  dsimp only
  rw [if_neg (not_not_intro rfl), hread]
  dsimp only
  rw [if_neg (by simp [hparams, hgood]), if_neg (by simp [hnone]), if_neg (by simp [hfits])]
  rfl

theorem coreTblDestroy_ok {s : State} {own : Option (Nat × Nat × Nat)} {c : CmdSlot} {d : Dma} {k : Table}
    (hlock : s.writeLocked (bits c.p1 5 0) = false) (hparams : badParams c = false) (hlive : s.liveTable (bits c.p1 5 0) = some k)
    (hrefs : s.referenced (bits c.p1 5 0) = false) (hlocked : s.tableLocked (bits c.p1 5 0) = false) :
    coreTblDestroy s own 0 c d = { s := s.setTable (bits c.p1 5 0) { k with destroying := true, cmd := own }, later := true } := by
  unfold coreTblDestroy
  dsimp only
  rw [if_neg (by simp [hlock]), if_neg (by simp [hparams]), hlive]
  dsimp only
  rw [if_neg (by simp [hrefs]), if_neg (by simp [hlocked])]

theorem sameDesc_newTable (k : Table) (l : List Nat) : sameDesc { newTable k with blocks := l } k = true := by
  simp [sameDesc, newTable]

theorem destroying_tableOfBytes (b : List Byte) : (tableOfBytes b).destroying = false := rfl

/-! ## The end of a table -/

/-- The device without what belongs to a table, once the rows have advanced. -/
def State.tableGone (s : State) (t : Nat) : State :=
  let v := s.advanceRows.dropTable t
  { v with bays := v.bays.filter (fun b => b.tbl ≠ t), broad := v.broad.filter (fun b => b.tbl ≠ t),
           tallies := v.tallies.filter (fun x => x.tbl ≠ t), lost := v.lost.filter (fun e => e.1 ≠ t),
           learnLog := v.learnLog.filter fun l => l.tbl ≠ t }

theorem doTableDestroyComplete_eq {s : State} {n : Fin 64} {d : Table} {k : Tick} (hd : s.table n.val = some d) (hk : d.destroyAt = some k) :
    doTableDestroyComplete n s = if tickLe (tickAdd k s.lat) s.tick.now = false then s
      else (s.tableGone n.val).completeNow d.cmd Sts.SUCCESS := by
  unfold doTableDestroyComplete
  rw [hd]
  dsimp only
  rw [hk]
  rfl

theorem State.table_tableGone (s : State) (t : Nat) : (s.tableGone t).table t = none ∧ ∀ u, u ≠ t → (s.tableGone t).table u = s.table u :=
  ⟨fget_fdel_same _ _, fun u hu => (fget_fdel_ne _ (Ne.symm hu)).trans (State.advanceRows_within.table u)⟩

/-- Nothing of the table is left. -/
theorem State.tableGone_spec (s : State) (t : Nat) : (∀ b ∈ (s.tableGone t).bays, b.tbl ≠ t) ∧ (∀ b ∈ (s.tableGone t).broad, b.tbl ≠ t) ∧
    (∀ x ∈ (s.tableGone t).tallies, x.tbl ≠ t) ∧ (∀ e ∈ (s.tableGone t).lost, e.1 ≠ t) ∧ ∀ l ∈ (s.tableGone t).learnLog, l.tbl ≠ t :=
  ⟨fun _ h => of_decide_eq_true (List.mem_filter.1 h).2, fun _ h => of_decide_eq_true (List.mem_filter.1 h).2,
    fun _ h => of_decide_eq_true (List.mem_filter.1 h).2, fun _ h => of_decide_eq_true (List.mem_filter.1 h).2,
    fun _ h => of_decide_eq_true (List.mem_filter.1 h).2⟩

/-- Settles O26, by the core of each command once its checks pass, and by the boundary that removes a table. -/
theorem tableLifecycle : Obligations.TableLifecycle := by
  unfold Obligations.TableLifecycle
  refine ⟨⟨fun s c d b hop hmirror hpair hfunc hread hparams hgood hnone hfits => ?_,
    fun s c k hop hmirror hpair hfunc hlock hparams hlive hrefs hlocked => ?_⟩,
    fun s c d hmirror hfunc => ⟨fun hop => ?_, fun hop => ?_⟩, fun s n d k hd hk => ⟨fun hdue => ?_, fun hearly => ?_⟩⟩
  · have hexec := State.runOp_finish (core := coreTblCreate) hop hmirror (.inl hpair)
      (by rw [hfunc]; exact coreTblCreate_ok hread hparams hgood hnone hfits)
    obtain ⟨⟨l, hown⟩, hothers⟩ := s.table_allot c.table (newTable (tableOfBytes b))
    exact ⟨_, _, congrArg Host.Outcome.next hexec, (State.finish_within.table _).trans hown, sameDesc_newTable _ l, rfl,
      destroying_tableOfBytes b, State.owes_finish .., fun u hu => (State.finish_within.table u).trans (hothers u hu)⟩
  · have hexec := State.runOp_finishLater (d := {}) (core := coreTblDestroy) hop hmirror (.inl hpair)
      (by rw [hfunc]; exact coreTblDestroy_ok hlock hparams hlive hrefs hlocked)
    exact ⟨_, congrArg Host.Outcome.next hexec, (State.finishLater_within.table _).trans (State.table_setTable_same _ _ _),
      State.owes_finishLater .., fun u hu => (State.finishLater_within.table u).trans (State.table_setTable_ne _ _ (Ne.symm hu)), rfl⟩
  · have hexec := State.runOp_deny (d := d) hop hmirror (coreTblCreate_vf hfunc) (by decide)
    exact ⟨_, congrArg Host.Outcome.next hexec, rfl, State.owes_finish ..⟩
  · have hexec := State.runOp_deny (d := {}) hop hmirror (coreTblDestroy_vf hfunc) (by decide)
    exact ⟨_, congrArg Host.Outcome.next hexec, rfl, State.owes_finish ..⟩
  · have hexec := (doTableDestroyComplete_eq hd hk).trans (if_neg (by simp [hdue]))
    have hwithin : Within [.out, .regs, .boot, .host] (s.tableGone n) ((s.tableGone n).completeNow d.cmd Sts.SUCCESS) :=
      State.completeNow_within
    obtain ⟨hnone, hothers⟩ := s.table_tableGone n
    obtain ⟨hbays, hbroad, htallies, hlost, hlog⟩ := s.tableGone_spec n
    rw [show (s.tableGone n).bays = _ from hwithin.same .bays] at hbays
    rw [show (s.tableGone n).broad = _ from hwithin.same .broad] at hbroad
    rw [show (s.tableGone n).tallies = _ from hwithin.same .tallies] at htallies
    rw [show (s.tableGone n).lost = _ from hwithin.same .lost] at hlost
    rw [show (s.tableGone n).learnLog = _ from hwithin.same .learnLog] at hlog
    exact ⟨_, congrArg Host.Outcome.next hexec, (hwithin.table n).trans hnone, hbays, hbroad, htallies, hlost, hlog,
      fun u hu => (hwithin.table u).trans (hothers u hu)⟩
  · exact congrArg Host.Outcome.next ((doTableDestroyComplete_eq hd hk).trans (if_pos hearly))

/-! ## Reads -/

/-- The outcome of a read of an entry by its record: written, or FENCED where its rows are shut. -/
def State.readOut (s : State) (f t id addr : Nat) (d : Dma) (o : Option (List Byte)) : Ran :=
  match o with
  | none => s.deny Sts.NOT_FOUND
  | some b => if s.readShut t id then s.deny Sts.FENCED else s.hostPut f addr b d

theorem coreTblRead_ok {s : State} {own : Option (Nat × Nat × Nat)} {f : Nat} {c : CmdSlot} {d : Dma} {k : Table} (hfree : s.reqFenced 0 = false)
    (hparams : badParams c = false) (hright : s.mayRead f (bits c.p1 5 0) = true) (hk : s.readTable (bits c.p1 5 0) = some k) :
    coreTblRead s own f c d = s.readOut f (bits c.p1 5 0) (bits c.p1 55 32) c.p0.toNat d
      (s.recordFor (bits c.p1 5 0) (bits c.p1 55 32) k.width) := by
  unfold coreTblRead
  dsimp only
  rw [if_neg (by simp [hfree]), if_neg (by simp [hparams]), if_neg (by simp [hright]), hk]
  rfl

theorem coreTblNext_ok {s : State} {own : Option (Nat × Nat × Nat)} {f : Nat} {c : CmdSlot} {d : Dma} {k : Table} (hfree : s.reqFenced 0 = false)
    (hparams : badParams c = false) (hright : s.mayRead f (bits c.p1 5 0) = true) (hk : s.readTable (bits c.p1 5 0) = some k) :
    coreTblNext s own f c d = match s.nextId (bits c.p1 5 0) (bits c.p1 55 32) (bitOf c.p1 56) with
      | none => s.deny Sts.NOT_FOUND
      | some n => s.readOut f (bits c.p1 5 0) n c.p0.toNat d (s.recordFor (bits c.p1 5 0) n k.width) := by
  unfold coreTblNext
  dsimp only
  rw [if_neg (by simp [hfree]), if_neg (by simp [hparams]), if_neg (by simp [hright]), hk]
  rfl

/-- How a read of an entry ends. -/
theorem State.readOut_ends {s : State} {op : Nat} {c : Cmd} {d : Dma} {core : State → Option (Nat × Nat × Nat) → Nat → CmdSlot → Dma → Ran}
    {t id : Nat} {o : Option (List Byte)} (hop : s.engineOp op = some c) (hmirror : s.host.mirror = none)
    (hplain : mirroredOpcode op = false) (hok : d.wrOk = true)
    (hcore : core s (some c.own) c.func c.slot d = s.readOut c.func t id c.slot.p0.toNat d o) :
    (s.runOp op d core).tables = s.tables ∧ (s.runOp op d core).rows = s.rows ∧
    (∀ b, o = some b → s.readShut t id = false → (s.runOp op d core).out = .hostWrite c.func c.slot.p0.toNat b :: s.out ∧
      (s.runOp op d core).owes c Sts.SUCCESS 0 true) ∧
    (∀ b, o = some b → s.readShut t id = true → (s.runOp op d core).owes c Sts.FENCED 0 true) ∧
    (o = none → (s.runOp op d core).owes c Sts.NOT_FOUND 0 true) := by
  cases o with
  | none =>
    rw [State.runOp_deny hop hmirror hcore (by decide)]
    exact ⟨rfl, rfl, fun b h => (nomatch h), fun b h => (nomatch h), fun _ => State.owes_finish ..⟩
  | some r =>
    cases hshut : s.readShut t id with
    | true =>
      rw [State.runOp_deny hop hmirror (hcore.trans (if_pos hshut)) (by decide)]
      exact ⟨rfl, rfl, fun b _ h => (nomatch h), fun b _ _ => State.owes_finish .., fun h => (nomatch h)⟩
    | false =>
      rw [State.runOp_finish hop hmirror (.inr hplain)
        (hcore.trans ((if_neg (by simp [hshut])).trans (State.hostPut_ok c.func c.slot.p0.toNat r 0 hok)))]
      refine ⟨rfl, rfl, fun b hb _ => ?_, fun b _ h => (nomatch h), fun h => (nomatch h)⟩
      obtain rfl := Option.some.inj hb
      exact ⟨rfl, State.owes_finish ..⟩

theorem coreTblFind_ok {s : State} {own : Option (Nat × Nat × Nat)} {f : Nat} {c : CmdSlot} {d : Dma} {k : Table} {key : List Byte}
    (hfree : s.reqFenced 0 = false) (hparams : badParams c = false) (hright : s.mayRead f (bits c.p1 5 0) = true)
    (hk : s.readTable (bits c.p1 5 0) = some k) (hserved : k.outOfService = false) (hread : d.rd = some key) :
    coreTblFind s own f c d = if k.galList.all (s.findSlot (slotsOf k.width)) = false then { s := s, wait := true }
      else
        let u := k.galList.foldl (fun (x : State) g => x.takeSlots g (slotsOf k.width)) s
        let r := u.find (bits c.p1 5 0) k (BitVec.ofNat 640 (leAt key 0 (entryV k.width)) &&& widthMask k.width)
        r.1.hostPut f (c.p0.toNat + entryV k.width) (r.2.flatMap (leBytes 8)) d := by
  unfold coreTblFind
  dsimp only
  rw [if_neg (by simp [hfree]), if_neg (by simp [hparams]), if_neg (by simp [hright]), hk]
  dsimp only
  rw [if_neg (by simp [hserved]), hread]

theorem length_setResults (rs : List Result) (l : List (Nat × Result)) : (setResults rs l).length = rs.length := by
  unfold setResults
  induction l generalizing rs with
  | nil => rfl
  | cons e l ih => exact (ih _).trans List.length_set

/-- A search by TBL_FIND answers four result words. -/
theorem State.length_find (s : State) (t : Nat) (d : Table) (key : BitVec 640) : (s.find t d key).2.length = 4 := by
  unfold State.find
  dsimp only
  rw [List.length_map, length_setResults, List.length_replicate]

theorem length_flatMap_leBytes (n : Nat) (l : List Nat) : (l.flatMap (leBytes n)).length = l.length * n := by
  induction l with
  | nil => simp
  | cons v l ih => rw [List.flatMap_cons, List.length_append, length_leBytes, ih, List.length_cons]; ring

/-- A command that waits in the engine. -/
theorem State.runOp_wait {s : State} {op : Nat} {c : Cmd} {d : Dma} {core : State → Option (Nat × Nat × Nat) → Nat → CmdSlot → Dma → Ran}
    (hop : s.engineOp op = some c) (hmirror : s.host.mirror = none) (hcore : core s (some c.own) c.func c.slot d = { s := s, wait := true }) :
    s.runOp op d core = { s with host := { s.host with waitFrom := some (s.host.waitFrom.getD s.clock) } } := by
  unfold State.runOp
  rw [hop]
  dsimp only
  unfold State.issue
  rw [if_neg (by simp [hmirror]), hcore]
  dsimp only
  rw [if_neg]
  · exact if_pos rfl
  · rintro ⟨-, -, -, hwait⟩
    exact Bool.noConfusion hwait

/-- Settles O27, by the outcome of each read: found, fenced, missing, or without its search slots. -/
theorem tableReads : Obligations.TableReads := by
  unfold Obligations.TableReads
  refine fun s c d k hmirror hfree hparams hright hk hok => ⟨fun hop => ?_, fun hop => ?_, fun key hop hserved hread => ⟨fun hslots => ?_,
    fun hnone => ?_⟩⟩
  · exact ⟨_, rfl, State.readOut_ends hop hmirror (by decide) hok (coreTblRead_ok hfree hparams hright hk)⟩
  · have hcore := coreTblNext_ok (own := some c.own) (d := d) hfree hparams hright hk
    cases hnext : s.nextId c.table c.id (bitOf c.slot.p1 56) with
    | none =>
      rw [show s.nextId (bits c.slot.p1 5 0) (bits c.slot.p1 55 32) (bitOf c.slot.p1 56) = none from hnext] at hcore
      have hexec := State.runOp_deny hop hmirror hcore (by decide)
      exact ⟨_, congrArg Host.Outcome.next hexec, rfl, rfl, fun n b h => (nomatch h), fun _ => State.owes_finish ..⟩
    | some n =>
      rw [show s.nextId (bits c.slot.p1 5 0) (bits c.slot.p1 55 32) (bitOf c.slot.p1 56) = some n from hnext] at hcore
      obtain ⟨htables, hrows, hwritten, hshut, -⟩ := State.readOut_ends hop hmirror (by decide) hok hcore
      refine ⟨_, rfl, htables, hrows, fun m b hm hb => ?_, fun h => (nomatch h)⟩
      obtain rfl := Option.some.inj hm
      exact ⟨hwritten b hb, hshut b hb⟩
  · have hcore := (coreTblFind_ok (own := some c.own) hfree hparams hright hk hserved hread).trans (if_neg (by simp [hslots]))
    have hput := hcore.trans (State.hostPut_ok _ _ _ _ hok)
    have hexec := State.runOp_finish hop hmirror (.inr (by decide)) hput
    refine ⟨_, _, congrArg Host.Outcome.next hexec, rfl, ?_, State.owes_finish ..⟩
    rw [length_flatMap_leBytes, State.length_find]
  · have hcore := (coreTblFind_ok (own := some c.own) hfree hparams hright hk hserved hread).trans (if_pos hnone)
    exact congrArg Host.Outcome.next (State.runOp_wait hop hmirror hcore)

/-! ## Tallies and the loss list -/

theorem State.tallyFor_ok {s : State} {right : Bool} {t id : Nat} {d : Table} {x : Tally} (hfree : s.reqFenced 0 = false) (hright : right = true)
    (hd : s.readTable t = some d) (hserved : d.outOfService = false) (hx : s.tallyOf t id = some x) (hc : (s.committed t id).isSome = true) :
    s.tallyFor right t id = .ok x := by
  unfold State.tallyFor
  rw [if_neg (by simp [hfree]), if_neg (by simp [hright]), hd]
  dsimp only
  rw [if_neg (by simp [hserved]), hx]
  dsimp only
  rw [if_pos hc]

theorem State.mem_setTally {s : State} {idx v : Nat} {y : Tally} (hy : y ∈ (s.setTally idx v).tallies) (hidx : y.idx = idx) :
    y.count = v % 2 ^ 32 := by
  obtain ⟨x, -, rfl⟩ := List.mem_map.1 hy
  by_cases hx : x.idx = idx
  · rw [if_pos hx]
  · rw [if_neg hx] at hidx
    exact absurd hidx hx

theorem State.setTally_keys (s : State) (idx v : Nat) :
    (s.setTally idx v).tallies.map (fun y => (y.tbl, y.id, y.idx)) = s.tallies.map fun y => (y.tbl, y.id, y.idx) := by
  unfold State.setTally
  dsimp only
  rw [List.map_map]
  refine List.map_congr_left fun x _ => ?_
  dsimp only [Function.comp]
  split <;> rfl

theorem State.setTally_none {s : State} {idx v : Nat} (h : ∀ y ∈ s.tallies, y.idx ≠ idx) : (s.setTally idx v).tallies = s.tallies := by
  refine (List.map_congr_left fun x hx => if_neg (h x hx)).trans (List.map_id _)

theorem bits_lt {n : Nat} (w : BitVec n) (hi lo : Nat) : bits w hi lo < 2 ^ (hi + 1 - lo) := Nat.mod_lt _ (Nat.two_pow_pos _)

/-- Settles O28, by the lookup of the counter, which the three accesses share, and by the head of the loss list. -/
theorem talliesAndLossList : Obligations.TalliesAndLossList := by
  unfold Obligations.TalliesAndLossList
  refine ⟨fun s c d x hmirror hfree hparams hd hserved hx hc => ⟨fun hop hright => ?_, fun hop hright => ?_⟩, fun s counter v hm => ?_,
    fun s hm => ?_⟩
  · have hfor := State.tallyFor_ok (right := c.func == 0 || (s.flag Reg.BOOT_PMAP_TALLY_READ c.func && s.searchRight c.func (bits c.slot.p1 5 0))) (t := bits c.slot.p1 5 0) (id := bits c.slot.p1 55 32) hfree
      (by
        rcases hright with h | ⟨h1, h2⟩
        · simp [h]
        · rw [h1, show s.searchRight c.func (bits c.slot.p1 5 0) = true from h2]
          exact Bool.or_true _) hd hserved hx hc
    have hcore : coreTallyRead s (some c.own) c.func c.slot {} = { s := s, result := x.count } := by
      unfold coreTallyRead
      dsimp only
      rw [if_neg (by simp [hparams]), hfor]
    have hexec := State.runOp_finish hop hmirror (.inr (by decide)) hcore
    exact ⟨_, congrArg Host.Outcome.next hexec, State.owes_finish .., rfl⟩
  · have hfor := State.tallyFor_ok (right := c.func == 0 || (s.flag Reg.BOOT_PMAP_TALLY_WRITE c.func && s.editRight c.func (bits c.slot.p1 5 0))) (t := bits c.slot.p1 5 0) (id := bits c.slot.p1 55 32) hfree
      (by
        rcases hright with h | ⟨h1, h2⟩
        · simp [h]
        · rw [h1, show s.editRight c.func (bits c.slot.p1 5 0) = true from h2]
          exact Bool.or_true _) hd hserved hx hc
    have hcore : coreTallyWrite s (some c.own) c.func c.slot {} = { s := s.setTally x.idx (bits c.slot.p0 31 0) } := by
      unfold coreTallyWrite
      dsimp only
      rw [if_neg (by simp [hparams]), hfor]
    have hexec := State.runOp_finish hop hmirror (.inr (by decide)) hcore
    exact ⟨_, congrArg Host.Outcome.next hexec, State.owes_finish ..,
      fun y hy hidx => (State.mem_setTally hy hidx).trans (Nat.mod_eq_of_lt (bits_lt c.slot.p0 31 0)), s.setTally_keys _ _⟩
  · exact ⟨_, congrArg Host.Outcome.next (if_pos hm), fun y hy hidx => (State.mem_setTally (s := s.touchIdle) hy hidx).trans (Nat.mod_eq_of_lt v.isLt),
      fun hnone => State.setTally_none (s := s.touchIdle) hnone⟩
  · exact ⟨_, congrArg Host.Outcome.next (if_pos hm), rfl, rfl⟩

/-! ## EDIT_BEGIN -/

/-- Among one more number than there are groups, one is free. -/
theorem State.newGroupNum_spec {s : State} (h : s.groups.length < 65535) :
    s.newGroupNum ≠ 0 ∧ s.newGroupNum < 65536 ∧ ∀ g ∈ s.groups, g.num ≠ s.newGroupNum := by
  set nums := (List.range (s.groups.length + 1)).map fun i => 1 + (s.peek + i) % 65535 with hnums
  have hnodup : nums.Nodup := by
    refine List.Nodup.map_on (fun i hi j hj hij => ?_) List.nodup_range
    have hi' := List.mem_range.1 hi
    have hj' := List.mem_range.1 hj
    omega
  have hfree : ∃ n ∈ nums, (!s.groups.any fun g => g.num == n) = true := by
    by_contra hnone
    simp only [not_exists, not_and] at hnone
    have hsub : nums ⊆ s.groups.map (·.num) := fun n hn => by
      have hn' := hnone n hn
      simp only [Bool.not_eq_true', Bool.not_eq_false, List.any_eq_true, beq_iff_eq] at hn'
      exact List.mem_map.2 hn'
    have hlen := (hnodup.subperm hsub).length_le
    rw [hnums, List.length_map, List.length_range, List.length_map] at hlen
    omega
  obtain ⟨n, hn, hunused⟩ := hfree
  obtain ⟨m, hm⟩ := Option.isSome_iff_exists.1 (List.find?_isSome (p := fun n => !s.groups.any fun g => g.num == n) |>.2 ⟨n, hn, hunused⟩)
  have hnum : s.newGroupNum = m := by
    unfold State.newGroupNum
    rw [hm]
    rfl
  obtain ⟨i, -, hi⟩ := List.mem_map.1 (List.mem_of_find?_eq_some hm)
  have hprop := List.find?_some hm
  rw [hnum]
  refine ⟨by omega, by omega, fun g hg hgm => ?_⟩
  simp only [Bool.not_eq_true', List.any_eq_false, beq_iff_eq] at hprop
  exact hprop g hg hgm

theorem State.sendSeam_sent {s t : State} (m : SeamOut) (hseam : t.seam.credit = s.seam.credit) (hwaiting : t.seam.waiting = s.seam.waiting)
    (hseq : t.seam.seq = s.seam.seq) (hout : t.out = s.out) : SeamSent s (t.sendSeam m) m := by
  unfold State.sendSeam
  refine ⟨fun h => ?_, fun hcost h => ?_⟩
  · rw [if_pos (by rw [hseam, hwaiting, List.isEmpty_iff]; exact h)]
    refine ⟨?_, hwaiting⟩
    unfold State.putSeam
    dsimp only
    rw [hseq, hout]
  · rw [if_neg]
    · exact ⟨hout, by dsimp only; rw [hwaiting]⟩
    · rw [hseam, hwaiting, List.isEmpty_iff]
      rintro (h0 | ⟨hle, hnil⟩)
      · exact hcost h0
      · exact h.elim (Nat.not_lt.2 hle) (absurd hnil)

/-- A message stays sent while the outputs and the list of what waits stay. -/
theorem SeamSent.congr {s t u : State} {m : SeamOut} (h : SeamSent s t m) (hout : u.out = t.out) (hwaiting : u.seam.waiting = t.seam.waiting) :
    SeamSent s u m := by
  unfold SeamSent
  rw [hout, hwaiting]
  exact h

theorem coreEditBegin_ok {s : State} {own : Option (Nat × Nat × Nat)} {f : Nat} {c : CmdSlot} {d : Dma} {k : Table} (hparams : badParams c = false)
    (hright : s.editDenied f (bits c.p1 5 0) = false) (hlive : s.liveTable (bits c.p1 5 0) = some k) (hfree : s.tableLocked (bits c.p1 5 0) = false) :
    coreEditBegin s own f c d = { s := s.drawn.setGroups (s.groups ++ [s.beginGroup (bits c.p1 5 0) f (bits c.p1 31 16)]),
                                  result := (s.beginGroup (bits c.p1 5 0) f (bits c.p1 31 16)).num } := by
  unfold coreEditBegin
  dsimp only
  rw [if_neg (by simp [hparams]), if_neg (by simp [hright]), hlive]
  dsimp only
  rw [if_neg (by simp [hfree])]

/-- A group opened in PAIRED state: the twin's lock is asked for. -/
def State.askLock (s : State) (t num func : Nat) : State :=
  let u := s.sendSeam (.lockReq t num func)
  { u with seam := { u.seam with lockWait := [(t, num)] }, host := { u.host with mirror := some lockWaits } }

theorem doEditBegin_ok {s : State} {c : Cmd} {r : Ran} (hop : s.engineOp 0x09 = some c) (hmirror : s.host.mirror = none)
    (hcore : coreEditBegin s (some c.own) c.func c.slot {} = r) (hstatus : r.status = Sts.SUCCESS) : doEditBegin s =
      if s.seam.pair = .paired then r.s.askLock c.table r.result c.func else State.complete c r := by
  unfold doEditBegin
  rw [hop]
  dsimp only
  rw [if_neg (by simp [hmirror]), hcore]
  exact if_congr (by simp [hstatus]) rfl rfl

theorem State.engine_of_engineOp {s : State} {op : Nat} {c : Cmd} (h : s.engineOp op = some c) : s.host.engine = some c := by
  unfold State.engineOp at h
  split at h
  case isFalse => exact (nomatch h)
  split at h
  case h_2 => exact (nomatch h)
  case h_1 e he =>
    split at h
    case isTrue => exact he.trans h
    case isFalse => exact (nomatch h)

/-- Settles O29, by the checks that pass, and then by whether the twin has a say in the lock. -/
theorem editBeginOpensAGroup : Obligations.EditBeginOpensAGroup := by
  unfold Obligations.EditBeginOpensAGroup
  intro s c k hop hmirror hparams hright hlive hfree hfew
  obtain ⟨hne, hlt, hnew⟩ := s.newGroupNum_spec hfew
  have hexec := doEditBegin_ok hop hmirror (coreEditBegin_ok hparams hright hlive hfree) rfl
  have hlease : (s.beginGroup c.table c.func c.group).lease = (if c.group ≠ 0 then c.group else max (s.get Reg.TBLG_CTRL_LEASE_DEF) 1) := by
    unfold State.beginGroup
    dsimp only
    by_cases h : c.group = 0 <;> simp [h]
  by_cases hpair : s.seam.pair = .paired
  · rw [if_pos hpair] at hexec
    set opened := s.drawn.setGroups (s.groups ++ [s.beginGroup c.table c.func c.group]) with hopened
    have hwithin : Within [.out, .seam] opened (opened.sendSeam (.lockReq c.table (s.beginGroup c.table c.func c.group).num c.func)) :=
      State.sendSeam_within
    have hengine := State.engine_of_engineOp hop
    refine ⟨_, s.beginGroup c.table c.func c.group, congrArg Host.Outcome.next hexec, ?_, rfl, rfl, rfl, rfl, rfl, hne, hlt, hnew, hlease,
      fun h => absurd hpair h, fun _ => ⟨?_, rfl, rfl, ?_⟩⟩
    · exact (hwithin.same .groups : opened.groups = _).symm
    · exact (congrArg HostIf.engine (hwithin.same .host : opened.host = _).symm).trans hengine
    · exact SeamSent.congr (State.sendSeam_sent (s := s) (t := opened) _ rfl rfl rfl rfl) rfl rfl
  · rw [if_neg hpair] at hexec
    exact ⟨_, s.beginGroup c.table c.func c.group, congrArg Host.Outcome.next hexec, rfl, rfl, rfl, rfl, rfl, rfl, hne, hlt, hnew, hlease,
      fun _ => State.owes_finish .., fun h => absurd h hpair⟩

end Sys2Proof.Machine
end

section
/-! PROOFS. Restore of lost entries from the twin (O37), and the commands of associated data (O38). -/

namespace Sys2Proof.Machine

set_option Elab.async false

/-! ## Restore from the twin -/

/-- A message that arrives on the seam changes the count of received flits and what is sent in answer. -/
theorem State.seamGot_frame (s : State) (n : Nat) : ∃ o l, s.seamGot n = { s with out := o, seam := { s.seam with link := l } } := by
  unfold State.seamGot
  extract_lets k u
  split
  · exact ⟨_, _, rfl⟩
  split
  · unfold State.sendCredit
    split <;> exact ⟨_, _, rfl⟩
  · exact ⟨_, _, rfl⟩

/-- The answer to a request for a lost entry. -/
def State.restoreAnswer (s : State) (t id : Nat) (same : Bool) : Option (List Byte) × Nat :=
  if s.reqFenced 1 then (none, 1 + s.peek % 3)
  else match s.readTable t with
    | none => (none, 1)
    | some d =>
      if same = false then (none, 3)
      else if s.isLost t id then (none, 2)
      else match s.committed t id with
        | none => (none, 1)
        | some r => (some (s.recordOf d.width r), 0)

theorem doRestoreReq_paired {s : State} (n : Fin 64) (id : BitVec 24) (same : Bool) (hpair : s.seam.pair = .paired) :
    doRestoreReq n id same s = (if s.reqFenced 1 then s.drawn else s).sendSeam
      (.restoreAns n.val id.toNat (s.restoreAnswer n.val id.toNat same).1 (s.restoreAnswer n.val id.toNat same).2) := by
  unfold doRestoreReq State.restoreAnswer
  rw [if_neg (not_not_intro hpair)]
  dsimp only
  split
  · rfl
  cases hd : s.readTable n.val with
  | none => rfl
  | some d =>
    dsimp only
    split
    · rfl
    split
    · rfl
    cases hc : s.committed n.val id.toNat with
    | none => rfl
    | some r => rfl

theorem State.restoreAnswer_fenced {s : State} (t id : Nat) (same : Bool) (h : s.reqFenced 1 = true) :
    (s.restoreAnswer t id same).1 = none ∧ 1 ≤ (s.restoreAnswer t id same).2 ∧ (s.restoreAnswer t id same).2 ≤ 3 := by
  unfold State.restoreAnswer
  rw [if_pos h]
  exact ⟨rfl, by dsimp only; omega, by dsimp only; omega⟩

theorem State.restoreAnswer_none {s : State} {t : Nat} (id : Nat) (same : Bool) (h : s.reqFenced 1 = false) (ht : s.readTable t = none) :
    s.restoreAnswer t id same = (none, 1) := by
  unfold State.restoreAnswer
  rw [if_neg (by simp [h]), ht]

theorem State.restoreAnswer_some {s : State} {t : Nat} {d : Table} (id : Nat) (same : Bool) (h : s.reqFenced 1 = false)
    (ht : s.readTable t = some d) : s.restoreAnswer t id same = if same = false then (none, 3) else if s.isLost t id then (none, 2)
      else match s.committed t id with
        | none => (none, 1)
        | some r => (some (s.recordOf d.width r), 0) := by
  unfold State.restoreAnswer
  rw [if_neg (by simp [h]), ht]

theorem State.restoreOver_writes (s : State) : Writes [Reg.CUR_STATUS_RESTORE_FAIL.key] s s.restoreOver := by
  unfold State.restoreOver
  split
  · split
    · exact (Writes.raise _).mono (by simp)
    · exact Writes.setRaise _ _
  · exact .refl

theorem State.applyRestore_locked {s : State} {t id : Nat} {b : List Byte} {d : Table} (hlive : s.liveTable t = some d)
    (hlocked : s.tableLocked t = true) : s.applyRestore t id b = (s, false) := by
  unfold State.applyRestore
  rw [hlive]
  exact if_pos hlocked

/-- The ungrouped edit by which a restored entry is applied. -/
def State.restoreGroup (s : State) (t : Nat) : Group :=
  { num := 0, tbl := t, func := 0, lease := 0, ungrouped := true, st := .ready, local_ := true, order := s.cur.deferOrder }

theorem State.applyRestore_staged {s v : State} {t id : Nat} {b : List Byte} {d : Table} {g : Group} (hlive : s.liveTable t = some d)
    (hfree : s.tableLocked t = false) (hstage : s.stage (s.restoreGroup t) d .modify { entryOfBytes b d.width with id := id } = .ok v g) :
    s.applyRestore t id b = ({ v with groups := v.groups ++ [g] }.bump Reg.CUR_RESTORE_RESTORED, true) := by
  unfold State.applyRestore
  rw [hlive]
  dsimp only
  rw [if_neg (by simp [hfree])]
  unfold State.restoreGroup at hstage
  rw [hstage]

/-- The device with a request for a lost entry answered. -/
def State.unpend (s : State) (t id : Nat) : State := s.setCur { s.cur with restorePend := s.cur.restorePend.erase (t, id) }

theorem doRestoreAns_pending {s : State} {n : Fin 64} {id : BitVec 24} (r : Option (List Byte)) (h : (n.val, id.toNat) ∈ s.cur.restorePend) :
    doRestoreAns n id r s = match r with
      | none => ((s.unpend n.val id.toNat).bump Reg.CUR_RESTORE_REFUSED).restoreOver
      | some b => if ((s.unpend n.val id.toNat).applyRestore n.val id.toNat b).2
          then ((s.unpend n.val id.toNat).applyRestore n.val id.toNat b).1.restoreOver
          else s.setCur { s.cur with restoreHeld := s.cur.restoreHeld ++ [(n.val, id.toNat, b)] } :=
  if_neg (by simp [h])

theorem doRestoreAns_locked {s : State} {n : Fin 64} {id : BitVec 24} {b : List Byte} {d : Table} (h : (n.val, id.toNat) ∈ s.cur.restorePend)
    (hlive : s.liveTable n.val = some d) (hlocked : s.tableLocked n.val = true) : doRestoreAns n id (some b) s =
      s.setCur { s.cur with restoreHeld := s.cur.restoreHeld ++ [(n.val, id.toNat, b)] } := by
  rw [doRestoreAns_pending _ h]
  dsimp only
  rw [State.applyRestore_locked (s := s.unpend n.val id.toNat) hlive hlocked, if_neg Bool.false_ne_true]

theorem doRestoreAns_staged {s v : State} {n : Fin 64} {id : BitVec 24} {b : List Byte} {d : Table} {g : Group}
    (h : (n.val, id.toNat) ∈ s.cur.restorePend) (hlive : s.liveTable n.val = some d) (hfree : s.tableLocked n.val = false)
    (hstage : (s.unpend n.val id.toNat).stage (s.restoreGroup n.val) d .modify { entryOfBytes b d.width with id := id.toNat } = .ok v g) :
    doRestoreAns n id (some b) s = ({ v with groups := v.groups ++ [g] }.bump Reg.CUR_RESTORE_RESTORED).restoreOver := by
  rw [doRestoreAns_pending _ h]
  dsimp only
  rw [State.applyRestore_staged (s := s.unpend n.val id.toNat) hlive hfree hstage, if_pos rfl]

theorem doRestoreAns_idle {s : State} {n : Fin 64} {id : BitVec 24} (r : Option (List Byte)) (h : (n.val, id.toNat) ∉ s.cur.restorePend) :
    doRestoreAns n id r s = s := if_pos (by simp [h])

theorem State.get_counted_restoreOver (s : State) (F : Field) (n : Nat) (hF : F.key < 8 * 0x150000) (hne : F.key ≠ Reg.CUR_STATUS_RESTORE_FAIL.key) :
    ((s.bump F n).restoreOver).get F = min (s.get F + n) F.max :=
  ((s.bump F n).restoreOver_writes F 0 0 hF (by simpa using hne)).trans (State.get_bump_same ..)

/-- Settles O37, by the answer that the device owes, and by what becomes of one that it asked for. -/
theorem restoreFromTheTwin : Obligations.RestoreFromTheTwin := by
  unfold Obligations.RestoreFromTheTwin
  refine ⟨fun s n id same hpair => ?_, fun s n id same hpair => ?_, fun s n id hpend => ⟨?_, fun b d hlive hlocked => ?_,
    fun b d u v g g' hlive hfree hu hg hstage => ?_⟩, fun s n id b hpend => ?_⟩
  · obtain ⟨o, l, hgot⟩ := s.seamGot_frame 1
    have hexec := doRestoreReq_paired (s := s.seamGot 1) n id same (by rw [hgot]; exact hpair)
    have hans : (s.seamGot 1).restoreAnswer n.val id.toNat same = s.restoreAnswer n.val id.toNat same := by rw [hgot]; rfl
    rw [hans] at hexec
    refine ⟨_, (s.restoreAnswer n.val id.toNat same).1, (s.restoreAnswer n.val id.toNat same).2, congrArg Host.Outcome.next hexec, ?_, ?_, ?_⟩
    · split <;> exact State.sendSeam_sent _ rfl rfl rfl rfl
    · refine (State.sendSeam_within.same .rows : _ = _).symm.trans ?_
      rw [hgot]
      split <;> rfl
    · refine ⟨fun hf => State.restoreAnswer_fenced _ _ _ hf, fun hf ht => ?_, fun d hf ht => ?_⟩
      · rw [State.restoreAnswer_none _ _ hf ht]
        exact ⟨rfl, rfl⟩
      · rw [State.restoreAnswer_some _ _ hf ht]
        refine ⟨fun h => ?_, fun hsame hlost => ?_, fun hsame hlost hc => ?_, fun r hsame hlost hc => ?_⟩
        · rw [if_pos h]
          exact ⟨rfl, rfl⟩
        · rw [if_neg (by simp [hsame]), if_pos hlost]
          exact ⟨rfl, rfl⟩
        · rw [if_neg (by simp [hsame]), if_neg (by simp [hlost]), hc]
          exact ⟨rfl, rfl⟩
        · rw [if_neg (by simp [hsame]), if_neg (by simp [hlost]), hc]
          exact ⟨rfl, rfl⟩
  · obtain ⟨o, l, hgot⟩ := s.seamGot_frame 1
    exact congrArg Host.Outcome.next (if_pos (by rw [hgot]; exact hpair))
  · obtain ⟨o, l, hgot⟩ := s.seamGot_frame (SeamOut.restoreAns 0 0 none 0).flits
    have hexec := doRestoreAns_pending (s := s.seamGot (SeamOut.restoreAns 0 0 none 0).flits) none (by rw [hgot]; exact hpend)
    refine ⟨_, congrArg Host.Outcome.next hexec, ?_, ?_, ?_⟩
    · dsimp only
      rw [← State.restoreOver_within.same .cur, hgot]
      rfl
    · dsimp only
      rw [← State.restoreOver_within.same .rows, hgot]
      rfl
    · refine (State.get_counted_restoreOver _ _ 1 (by decide) (by decide)).trans ?_
      rw [hgot]
      rfl
  · obtain ⟨o, l, hgot⟩ := s.seamGot_frame (SeamOut.restoreAns 0 0 (some b) 0).flits
    have hexec := doRestoreAns_locked (s := s.seamGot (SeamOut.restoreAns 0 0 (some b) 0).flits) (b := b) (d := d) (by rw [hgot]; exact hpend)
      (by rw [hgot]; exact hlive) (by rw [hgot]; exact hlocked)
    refine ⟨_, congrArg Host.Outcome.next hexec, List.mem_append_right _ (List.mem_singleton.2 rfl), ?_, ?_⟩
    · rw [hgot]
      rfl
    · rw [hgot]
      rfl
  · subst hu hg
    obtain ⟨o, l, hgot⟩ := s.seamGot_frame (SeamOut.restoreAns 0 0 (some b) 0).flits
    have hexec := doRestoreAns_staged (s := s.seamGot (SeamOut.restoreAns 0 0 (some b) 0).flits) (v := v) (b := b) (d := d) (g := g')
      (by rw [hgot]; exact hpend) (by rw [hgot]; exact hlive) (by rw [hgot]; exact hfree) (by rw [hgot] at hstage ⊢; exact hstage)
    refine ⟨_, congrArg Host.Outcome.next hexec, ?_, ?_, ?_, ?_⟩
    · rw [← State.restoreOver_within.same .groups]
      rfl
    · rw [← State.restoreOver_within.same .rows]
      rfl
    · rw [← State.restoreOver_within.same .cur]
      rfl
    · exact State.get_counted_restoreOver _ _ 1 (by decide) (by decide)
  · obtain ⟨o, l, hgot⟩ := s.seamGot_frame (SeamOut.restoreAns 0 0 b 0).flits
    exact congrArg Host.Outcome.next (doRestoreAns_idle b (by rw [hgot]; exact hpend))

/-! ## Associated data -/

theorem coreAdataWrite_ok {s : State} {own : Option (Nat × Nat × Nat)} {c : CmdSlot} {d : Dma} {b : List Byte} (hparams : badParams c = false)
    (hfree : s.reqFenced 0 = false) (hread : d.rd = some b) : coreAdataWrite s own 0 c d =
      { s := s.queueChange (.write (bits c.p1 19 0) (BitVec.ofNat 4 (bits c.p1 23 20)) (BitVec.ofNat 512 (leAt b 0 64)) (bitOf c.p1 24)) own,
        later := true } := by
  unfold coreAdataWrite
  rw [if_neg (not_not_intro rfl), if_neg (by simp [hparams]), if_neg (by simp [hfree]), hread]

theorem coreAdataWrite_vf {s : State} {own : Option (Nat × Nat × Nat)} {f : Nat} {c : CmdSlot} {d : Dma} (h : f ≠ 0) :
    coreAdataWrite s own f c d = s.deny Sts.DENIED := if_pos h

theorem coreAdataRead_vf {s : State} {own : Option (Nat × Nat × Nat)} {f : Nat} {c : CmdSlot} {d : Dma} (h : f ≠ 0) :
    coreAdataRead s own f c d = s.deny Sts.DENIED := if_pos h

theorem coreAdataRead_ok {s : State} {own : Option (Nat × Nat × Nat)} {c : CmdSlot} {d : Dma} (hparams : badParams c = false)
    (hfree : s.reqFenced 0 = false) (hok : d.wrOk = true) : ∃ u, coreAdataRead s own 0 c d =
      { s := State.emit u (.hostWrite 0 c.p0.toNat (leBytes 64 (s.settleFills.wrd.current (bits c.p1 19 0)).toNat)) } := by
  unfold coreAdataRead
  rw [if_neg (not_not_intro rfl), if_neg (by simp [hparams]), if_neg (by simp [hfree])]
  exact ⟨_, State.hostPut_ok _ _ _ 0 hok⟩

theorem State.runWrdOp_own {s : State} {c : Cmd} {kind : Nat} (hop : s.engineOp 0x22 = some c) (hkind : bits c.slot.p1 2 0 = kind)
    (hlt : kind < 3) : s.runWrdOp kind = s.runOp 0x22 {} (coreWrdOp kind) := by
  unfold State.runWrdOp State.runOp
  rw [hop]
  dsimp only
  rw [if_neg (by omega), if_pos hkind]

theorem State.runWrdOp_reserved {s : State} {c : Cmd} (kind : Nat) (hop : s.engineOp 0x22 = some c) (hkind : 3 ≤ bits c.slot.p1 2 0) :
    s.runWrdOp kind = s.finish c Sts.INVALID_FIELD := by
  unfold State.runWrdOp
  rw [hop]
  exact if_pos hkind

/-- The number of lines of a WRD_OP. -/
def wrdCount (c : CmdSlot) : Nat := if bitOf c.p1 3 then bits c.p1 48 28 else 1

theorem coreWrdOp_ok {s : State} {own : Option (Nat × Nat × Nat)} {f kind : Nat} {c : CmdSlot} {d : Dma} (hfree : s.reqFenced 0 = false)
    (hparams : badParams c = false) (hsome : wrdCount c ≠ 0) (hfew : wrdCount c ≤ 2 ^ 20) (hin : bits c.p1 27 8 + wrdCount c ≤ 2 ^ 20) :
    coreWrdOp kind s own f c d = { s := s.queueChange (.op kind (bits c.p1 27 8) (wrdCount c) []) own, later := true } := by
  unfold coreWrdOp
  dsimp only
  unfold wrdCount at *
  rw [if_neg (by simp [hfree]), if_neg]
  rintro (h | h | h | h)
  · exact Bool.noConfusion (hparams.symm.trans h)
  · exact hsome h
  · omega
  · omega

theorem coreWrdOp_bad {s : State} {own : Option (Nat × Nat × Nat)} {f kind : Nat} {c : CmdSlot} {d : Dma} (hfree : s.reqFenced 0 = false)
    (h : wrdCount c = 0 ∨ 2 ^ 20 < bits c.p1 27 8 + wrdCount c) : coreWrdOp kind s own f c d = s.deny Sts.INVALID_FIELD := by
  unfold coreWrdOp
  dsimp only
  unfold wrdCount at *
  rw [if_neg (by simp [hfree])]
  refine if_pos ?_
  rcases h with h | h
  · exact .inr (.inl h)
  · exact .inr (.inr (.inr h))

theorem exec_wrdOp {i : Instr} {kind : Nat} (h : (i, kind) ∈ [(Instr.wrdOpInval, 0), (.wrdOpClean, 1), (.wrdOpFlush, 2)]) (s : State) :
    exec i s = .next (s.runWrdOp kind) ∧ kind < 3 := by
  simp only [List.mem_cons, Prod.mk.injEq, List.not_mem_nil, or_false] at h
  rcases h with ⟨rfl, rfl⟩ | ⟨rfl, rfl⟩ | ⟨rfl, rfl⟩
  · exact ⟨rfl, by decide⟩
  · exact ⟨rfl, by decide⟩
  · exact ⟨rfl, by decide⟩

/-- Settles O38, by the way a command takes through its checks: deferred to the boundary, finished at once, or denied. -/
theorem associatedDataCommands : Obligations.AssociatedDataCommands := by
  unfold Obligations.AssociatedDataCommands
  refine ⟨fun s c d b hop hmirror hpair hfunc hparams hfree hread => ?_, fun s c d hop hmirror hfunc hparams hfree hok => ?_,
    fun s c d hmirror hfunc => ⟨fun hop => ?_, fun hop => ?_⟩, fun s c i kind n hi hop hmirror hn => ?_⟩
  · have hexec := State.runOp_finishLater (core := coreAdataWrite) hop hmirror (.inl hpair)
      (by rw [hfunc]; exact coreAdataWrite_ok hparams hfree hread)
    exact ⟨_, congrArg Host.Outcome.next hexec, rfl, State.owes_finishLater ..⟩
  · obtain ⟨u, hcore⟩ := coreAdataRead_ok (own := some c.own) hparams hfree hok
    have hexec := State.runOp_finish (core := coreAdataRead) hop hmirror (.inr (by decide)) (by rw [hfunc]; exact hcore)
    exact ⟨_, u.out, congrArg Host.Outcome.next hexec, rfl, State.owes_finish ..⟩
  · have hexec := State.runOp_deny (d := d) hop hmirror (coreAdataWrite_vf hfunc) (by decide)
    exact ⟨_, congrArg Host.Outcome.next hexec, rfl, State.owes_finish ..⟩
  · have hexec := State.runOp_deny (d := d) hop hmirror (coreAdataRead_vf hfunc) (by decide)
    exact ⟨_, congrArg Host.Outcome.next hexec, rfl, rfl, State.owes_finish ..⟩
  · obtain ⟨hrun, hlt⟩ := exec_wrdOp hi s
    obtain rfl : n = wrdCount c.slot := hn
    refine ⟨fun hkind hpair hparams hfree hsome hfew hin => ?_, fun hbad => ?_⟩
    · have hexec := (State.runWrdOp_own hop hkind hlt).trans (State.runOp_finishLater hop hmirror (.inl hpair)
        (coreWrdOp_ok hfree hparams hsome hfew hin))
      exact ⟨_, hrun.trans (congrArg Host.Outcome.next hexec), rfl, State.owes_finishLater ..⟩
    · by_cases hkind : 3 ≤ bits c.slot.p1 2 0
      · exact ⟨_, hrun.trans (congrArg Host.Outcome.next (State.runWrdOp_reserved kind hop hkind)), rfl, State.owes_finish ..⟩
      · obtain ⟨hown, hfree, hrange⟩ := hbad.resolve_right hkind
        have hexec := (State.runWrdOp_own hop hown hlt).trans (State.runOp_deny hop hmirror (coreWrdOp_bad hfree hrange) (by decide))
        exact ⟨_, hrun.trans (congrArg Host.Outcome.next hexec), rfl, State.owes_finish ..⟩

end Sys2Proof.Machine
end

section
/-! PROOFS. Events leave the host's commands as they are; a completion made ready stays so; pins, the way lock and the store (O40). -/

namespace Sys2Proof.Machine

set_option Elab.async false

/-! ## Events leave the host's commands -/

/-- From s to t nothing of the host interface changes but events, interrupts and their hold-offs. -/
def Calm (s t : State) : Prop := ∃ q lost idle hold eps pci, t.host =
  { s.host with evq := q, evqLost := lost, idle := idle, hold := hold, episodes := eps, pci := pci }

namespace Calm

variable {s t u : State}

theorem refl : Calm s s := ⟨_, _, _, _, _, _, rfl⟩

theorem trans (h : Calm s t) (k : Calm t u) : Calm s u := by
  obtain ⟨_, _, _, _, _, _, h⟩ := h
  obtain ⟨q, lost, idle, hold, eps, pci, k⟩ := k
  exact ⟨q, lost, idle, hold, eps, pci, by rw [k, h]⟩

theorem ite {c : Prop} [Decidable c] (h : Calm s t) (k : Calm s u) : Calm s (if c then t else u) := by
  split
  · exact h
  · exact k

theorem of_host (h : s.host = t.host) : Calm s t := ⟨_, _, _, _, _, _, h.symm⟩

theorem of_within {w : List Part} (h : Within w s t) (hw : Part.host ∉ w := by decide) : Calm s t := of_host (h.same .host hw)

theorem foldl {α : Type} {f : State → α → State} (hf : ∀ t a, Calm t (f t a)) {l : List α} {s : State} : Calm s (l.foldl f s) := by
  induction l generalizing s with
  | nil => exact .refl
  | cons a l ih => exact (hf s a).trans ih

theorem engine (h : Calm s t) : t.host.engine = s.host.engine := by
  obtain ⟨_, _, _, _, _, _, h⟩ := h
  rw [h]

theorem owed (h : Calm s t) : t.host.owed = s.host.owed := by
  obtain ⟨_, _, _, _, _, _, h⟩ := h
  rw [h]

theorem waitFrom (h : Calm s t) : t.host.waitFrom = s.host.waitFrom := by
  obtain ⟨_, _, _, _, _, _, h⟩ := h
  rw [h]

theorem mirror (h : Calm s t) : t.host.mirror = s.host.mirror := by
  obtain ⟨_, _, _, _, _, _, h⟩ := h
  rw [h]

theorem fetched (h : Calm s t) : t.host.fetched = s.host.fetched := by
  obtain ⟨_, _, _, _, _, _, h⟩ := h
  rw [h]

end Calm

theorem State.msixSend_calm (s : State) (f v : Nat) : Calm s (s.msixSend f v) := by
  unfold State.msixSend
  refine .ite .refl (.ite ?_ .refl)
  unfold State.setPba
  dsimp only
  split
  · exact .refl
  · exact ⟨_, _, _, _, _, _, rfl⟩

theorem State.msixPf_calm (s : State) (v : Nat) : Calm s (s.msixPf v) := by
  unfold State.msixPf
  refine .ite .refl (.ite ⟨_, _, _, _, _, _, rfl⟩ (.ite (s.msixSend_calm 0 v) ?_))
  exact (s.msixSend_calm 0 v).trans ⟨_, _, _, _, _, _, rfl⟩

theorem State.msixTo_calm (s : State) (f v : Nat) : Calm s (s.msixTo f v) := by
  unfold State.msixTo
  exact .ite (s.msixPf_calm _) (s.msixSend_calm _ _)

theorem State.pushEvent_calm (s : State) (n : Nat) (held : Bool) : Calm s (s.pushEvent n held) := by
  unfold State.pushEvent
  refine .ite ?_ ⟨_, _, _, _, _, _, rfl⟩
  dsimp only
  split <;> exact ⟨_, _, _, _, _, _, rfl⟩

theorem State.deliver_calm (s : State) (n : Nat) (held : Bool) : Calm s (s.deliver n held) := by
  unfold State.deliver
  extract_lets t u v
  have ht : Calm s t := .of_host rfl
  have hu : Calm t u := .of_host rfl
  have hv : Calm u v := .ite (u.pushEvent_calm n held) .refl
  exact .ite (((ht.trans hu).trans hv).trans (v.msixTo_calm _ _)) ht

theorem State.raise_calm (s : State) (n : Nat) : Calm s (s.raise n) := by
  unfold State.raise
  split
  · exact s.deliver_calm n false
  · exact .of_host rfl
  · exact .refl
  · exact .refl

theorem State.raiseEp_calm (s : State) (n key : Nat) : Calm s (s.raiseEp n key) := by
  unfold State.raiseEp
  exact .ite ⟨_, _, _, _, _, _, rfl⟩ (.trans ⟨_, _, _, _, _, _, rfl⟩ (State.raise_calm _ n))

theorem State.raiseRate_calm (s : State) (n : Nat) : Calm s (s.raiseRate n) := by
  unfold State.raiseRate
  split
  · exact .ite .refl (.trans ⟨_, _, _, _, _, _, rfl⟩ (State.raise_calm _ n))
  · exact .trans ⟨_, _, _, _, _, _, rfl⟩ (State.raise_calm _ n)

theorem State.spend_calm (s : State) (cells : Nat) : Calm s (s.spend cells) := by
  unfold State.spend State.setBalance
  dsimp only
  exact .ite (.of_host rfl) (.trans (.of_host rfl) (State.raise_calm _ _))

theorem State.spend_writes (s : State) (cells : Nat) : Writes [] s (s.spend cells) := by
  unfold State.spend State.setBalance
  dsimp only
  exact .ite (.of_regs rfl) (.trans (.of_regs rfl) (Writes.raise _))

/-! ## Completions -/

/-- A completion that a later step has made ready with SUCCESS. -/
def Owed.paid (o : Owed) : Owed := { o with status := Sts.SUCCESS, result := 0, ready := true }

/-- From s to t the completions that are owed stay as they are, or become ready with SUCCESS. -/
structure Pays (s t : State) : Prop where
  keep : ∀ o ∈ s.host.owed, o.ready = true → o ∈ t.host.owed
  owes : ∀ o ∈ s.host.owed, o.ready = false → o ∈ t.host.owed ∨ o.paid ∈ t.host.owed

namespace Pays

variable {s t u : State}

theorem refl : Pays s s := ⟨fun _ h _ => h, fun _ h _ => .inl h⟩

theorem trans (h : Pays s t) (k : Pays t u) : Pays s u :=
  ⟨fun o ho hr => k.keep o (h.keep o ho hr) hr, fun o ho hr => (h.owes o ho hr).elim (fun ht => k.owes o ht hr)
    fun ht => .inr (k.keep o.paid ht rfl)⟩

theorem of_owed (h : t.host.owed = s.host.owed) : Pays s t := ⟨fun _ ho _ => h ▸ ho, fun _ ho _ => .inl (h ▸ ho)⟩

theorem of_calm (h : Calm s t) : Pays s t := of_owed h.owed

theorem of_within {w : List Part} (h : Within w s t) (hw : Part.host ∉ w := by decide) : Pays s t := of_calm (.of_within h hw)

theorem foldl {α : Type} {f : State → α → State} (hf : ∀ t a, Pays t (f t a)) {l : List α} {s : State} : Pays s (l.foldl f s) := by
  induction l generalizing s with
  | nil => exact .refl
  | cons a l ih => exact (hf s a).trans ih

/-- What is paid stays paid, whether the completion was owed or paid before. -/
theorem paid (h : Pays s t) {o : Owed} (ho : o.paid ∈ s.host.owed) : o.paid ∈ t.host.owed := h.keep _ ho rfl

end Pays

theorem State.mem_owedReady {s : State} {o : Owed} (h : o ∈ s.host.owed) (hr : o.ready = false) :
    o.paid ∈ (s.owedReady o.func o.idx o.cid Sts.SUCCESS).host.owed := List.mem_map.2 ⟨o, h, if_pos ⟨rfl, rfl, rfl, hr⟩⟩

theorem State.owedReady_pays (s : State) (f i c : Nat) : Pays s (s.owedReady f i c Sts.SUCCESS) := by
  refine ⟨fun o ho hr => List.mem_map.2 ⟨o, ho, if_neg fun h => ?_⟩, fun o ho hr => ?_⟩
  · exact Bool.noConfusion (hr.symm.trans h.2.2.2)
  · by_cases hown : o.func = f ∧ o.idx = i ∧ o.cid = c
    · obtain ⟨rfl, rfl, rfl⟩ := hown
      exact .inr (State.mem_owedReady ho hr)
    · exact .inl (List.mem_map.2 ⟨o, ho, if_neg fun h => hown ⟨h.1, h.2.1, h.2.2.1⟩⟩)

/-- The completion of a command named in the list is paid. -/
theorem State.paid_foldl_owedReady {α : Type} {key : α → Nat × Nat × Nat} {l : List α} {s : State} {o : Owed} (h : o ∈ s.host.owed ∨ o.paid ∈ s.host.owed)
    (hr : o.ready = false) (hl : ∃ a ∈ l, key a = (o.func, o.idx, o.cid)) :
    o.paid ∈ (l.foldl (fun (x : State) a => x.owedReady (key a).1 (key a).2.1 (key a).2.2 Sts.SUCCESS) s).host.owed := by
  have hrest : ∀ (l : List α) (t : State), Pays t (l.foldl (fun (x : State) a => x.owedReady (key a).1 (key a).2.1 (key a).2.2 Sts.SUCCESS) t) :=
    fun l t => .foldl fun _ _ => State.owedReady_pays _ _ _ _
  induction l generalizing s with
  | nil =>
    obtain ⟨a, ha, -⟩ := hl
    exact nomatch ha
  | cons a l ih =>
    rw [List.foldl_cons]
    rcases h with h | h
    · by_cases hown : key a = (o.func, o.idx, o.cid)
      · refine (hrest l _).paid ?_
        rw [hown]
        exact State.mem_owedReady h hr
      · obtain ⟨b, hb, hkey⟩ := hl
        rcases List.mem_cons.1 hb with rfl | hb
        · exact absurd hkey hown
        · exact ih ((State.owedReady_pays _ _ _ _).owes o h hr) ⟨b, hb, hkey⟩
    · exact (hrest l _).paid ((State.owedReady_pays _ _ _ _).paid h)

theorem State.storeDone_pays (s : State) (gone : List Nat) : Pays s (s.storeDone gone) := by
  unfold State.storeDone
  extract_lets ws done _ t
  have ht : Pays s t := .of_owed rfl
  exact ht.trans (.foldl fun u e => u.owedReady_pays _ _ _)

/-- What storeDone leaves of the wardrobe: all but the list of what waits. -/
theorem State.wrd_storeDone (s : State) (gone : List Nat) : ∃ w, (s.storeDone gone).wrd = { s.wrd with wait := w } := by
  unfold State.storeDone
  extract_lets ws done _ t
  refine ⟨t.wrd.wait, ?_⟩
  have hfold : Within [.host] t (done.foldl (fun x e => x.owedReady e.1.1 e.1.2.1 e.1.2.2 Sts.SUCCESS) t) :=
    Within.foldl (fun _ _ h => h.step State.owedReady_within) .refl
  exact (hfold.same .wrd : t.wrd = _).symm

/-- A command that waits for one line alone is completed once that line is in the store. -/
theorem State.paid_storeDone {s : State} {l : Nat} {o : Owed} (h : o ∈ s.host.owed) (hr : o.ready = false)
    (hwait : ((o.func, o.idx, o.cid), [l]) ∈ s.wrd.wait) : o.paid ∈ (s.storeDone [l]).host.owed := by
  unfold State.storeDone
  refine State.paid_foldl_owedReady (key := fun e : (Nat × Nat × Nat) × List Nat => e.1) (.inl h) hr ⟨((o.func, o.idx, o.cid), []), ?_, rfl⟩
  exact List.mem_filter.2 ⟨List.mem_map.2 ⟨_, hwait, by simp⟩, rfl⟩

/-! ## Pins -/

/-- From s to t the pins and the store stay. -/
def KeepsPins (s t : State) : Prop := t.wrd.pins = s.wrd.pins ∧ t.wrd.store = s.wrd.store

namespace KeepsPins

variable {s t u : State}

theorem refl : KeepsPins s s := ⟨rfl, rfl⟩

theorem trans (h : KeepsPins s t) (k : KeepsPins t u) : KeepsPins s u := ⟨k.1.trans h.1, k.2.trans h.2⟩

theorem of_within {w : List Part} (h : Within w s t) (hw : Part.wrd ∉ w := by decide) : KeepsPins s t := by
  unfold KeepsPins
  rw [show s.wrd = t.wrd from h.same .wrd hw]
  exact ⟨rfl, rfl⟩

theorem ite {c : Prop} [Decidable c] (h : KeepsPins s t) (k : KeepsPins s u) : KeepsPins s (if c then t else u) := by
  split
  · exact h
  · exact k

theorem foldl {α : Type} {f : State → α → State} (hf : ∀ t a, KeepsPins t (f t a)) {l : List α} {s : State} : KeepsPins s (l.foldl f s) := by
  induction l generalizing s with
  | nil => exact .refl
  | cons a l ih => exact (hf s a).trans ih

end KeepsPins

theorem Wardrobe.stage_frame (w : Wardrobe) (l : Nat) (v : BitVec 512) : ∃ q, w.stage l v = { w with staging := q } := by
  unfold Wardrobe.stage
  split <;> exact ⟨_, rfl⟩

theorem State.stage_keepsPins (s : State) (l : Nat) (v : BitVec 512) : KeepsPins s (s.setWrd (s.wrd.stage l v)) := by
  obtain ⟨q, hq⟩ := s.wrd.stage_frame l v
  exact ⟨(congrArg Wardrobe.pins hq : (s.wrd.stage l v).pins = _), (congrArg Wardrobe.store hq : (s.wrd.stage l v).store = _)⟩

theorem State.evictWay_keepsPins (s : State) (set way : Nat) : KeepsPins s (s.evictWay set way) := by
  unfold State.evictWay
  split
  · exact .refl
  · extract_lets _ w
    have hw : KeepsPins s (s.setWrd w) := ⟨rfl, rfl⟩
    split
    · exact (hw.trans (State.stage_keepsPins _ _ _)).trans (.of_within State.bump_within)
    · exact hw

theorem State.install_keepsPins (s : State) (way l : Nat) (v : BitVec 512) (dirty : Bool) : KeepsPins s (s.install way l v dirty) :=
  (s.evictWay_keepsPins (wrdSet l) way).trans ⟨rfl, rfl⟩

theorem State.fill_keepsPins (s : State) (slot l : Nat) (v : BitVec 512) (dirty : Bool) : KeepsPins s (s.fill slot l v dirty).1 := by
  unfold State.fill
  dsimp only
  split
  · exact s.install_keepsPins ..
  · split
    · exact (KeepsPins.of_within (State.bump_within.step State.put_within)).trans (.of_within State.raiseEp_within)
    · exact .of_within State.bump_within

theorem State.settleFills_keepsPins (s : State) : KeepsPins s s.settleFills :=
  KeepsPins.trans ⟨rfl, rfl⟩ (.foldl fun t _ => .ite .refl (t.fill_keepsPins ..))

theorem State.pinLine_keepsPins (s : State) (l : Nat) : KeepsPins s (s.pinLine l) := by
  unfold State.pinLine
  split
  · exact .refl
  split
  · exact .refl
  split
  · exact KeepsPins.trans ⟨rfl, rfl⟩ (State.install_keepsPins ..)
  · have hmarred : KeepsPins s (s.noteMarred l) := .of_within State.noteMarred_within
    exact hmarred.trans (State.install_keepsPins ..)

theorem State.pinInstall_keepsPins (s : State) (p : Pin) (upto : Nat) : KeepsPins s (s.pinInstall p upto) := .foldl State.pinLine_keepsPins

theorem KeepsPins.pin {s t : State} (h : KeepsPins s t) (i : Nat) : t.pin i = s.pin i := by
  unfold State.pin
  rw [h.1]

theorem State.pin_setPin_ne (s : State) {i j : Nat} (v : Pin) (h : j ≠ i) : (s.setPin i v).pin j = s.pin j := fgetD_fset_ne _ _ _ _ h.symm

theorem Within.pin {w : List Part} {s t : State} (h : Within w s t) (i : Nat) (hw : Part.wrd ∉ w := by decide) : t.pin i = s.pin i :=
  (KeepsPins.of_within h hw).pin i

theorem State.flag_put_one (s : State) (F : Field) (i j : Nat) (hF : F.width = 1) : (s.put F 1 i j).flag F i j = true := by
  unfold State.flag
  rw [State.get_put_of_lt s F 1 i j (by rw [hF]; decide)]
  rfl

/-- The range that a load of pin i takes into use. -/
def State.pinRange (s : State) (i : Nat) : Pin :=
  { st := .loading, base := s.get Reg.WRD_PIN_BASE i, count := s.get Reg.WRD_PIN_COUNT i, tbl := s.get Reg.WRD_PIN_TABLE i }

/-- The sets in which the pins that are in use leave a range without enough locked ways. -/
def State.pinSets (s : State) (i : Nat) (p : Pin) : List Nat :=
  conflictSets (((s.wrd.active.filter fun e => e.1 ≠ i).map (·.2)) ++ [p]) (lockedWays s.wrd.lock).length

/-- A pin whose range or table is none. -/
def State.pinOff (s : State) (i : Nat) : State := ((s.setPin i {}).put Reg.WRD_PINC_CONF_SETS 0 i).put Reg.WRD_STATUS_PIN_CONFLICT 1

theorem State.pinLoad_eq (s : State) (i : Nat) : s.pinLoad i =
    if (s.pinRange i).count = 0 ∨ 2 ^ 20 < (s.pinRange i).base + (s.pinRange i).count ∨ (s.table (s.pinRange i).tbl).isNone = true then s.pinOff i
    else if (s.pinSets i (s.pinRange i)).isEmpty then s.setPin i (s.pinRange i)
    else s.pinConflict i (s.pinRange i) (s.pinSets i (s.pinRange i)) := rfl

theorem State.pinOff_spec (s : State) (i : Nat) : (s.pinOff i).pin i = {} ∧ (∀ j, j ≠ i → (s.pinOff i).pin j = s.pin j) ∧
    (s.pinOff i).flag Reg.WRD_STATUS_PIN_CONFLICT = true ∧
    WritesAt [Reg.WRD_PINC_CONF_SETS] [Reg.WRD_STATUS_PIN_CONFLICT] i s (s.pinOff i) := by
  refine ⟨State.pin_setPin_same .., fun j hj => State.pin_setPin_ne s _ hj, State.flag_put_one _ _ _ _ rfl, ?_⟩
  have hset : Writes [] s (s.setPin i {}) := .of_regs rfl
  exact ((hset.mono (by simp)).step (Writes.put _ _ i 0) (by simp)).step (Writes.put _ _ 0 0) (by simp)

theorem State.pinConflict_spec (s : State) (i : Nat) (p : Pin) (sets : List Nat) :
    (s.pinConflict i p sets).pin i = { p with st := .conflict, loaded := false, read := 0 } ∧
    (∀ j, j ≠ i → (s.pinConflict i p sets).pin j = s.pin j) ∧ (s.pinConflict i p sets).flag Reg.WRD_STATUS_PIN_CONFLICT = true ∧
    WritesAt [Reg.WRD_PINC_CONF_SET, Reg.WRD_PINC_CONF_SETS] [Reg.WRD_STATUS_PIN_CONFLICT] i s (s.pinConflict i p sets) := by
  have hset : Writes [] s (s.setPin i { p with st := .conflict, loaded := false, read := 0 }) := .of_regs rfl
  refine ⟨(State.raise_within.pin i).trans (State.pin_setPin_same ..),
    fun j hj => (State.raise_within.pin j).trans (State.pin_setPin_ne s _ hj), ?_, ?_⟩
  · exact ((Writes.raise _).flag Reg.WRD_STATUS_PIN_CONFLICT).trans (State.flag_put_one _ _ _ _ rfl)
  · exact ((((hset.mono (by simp)).step (Writes.put _ _ i 0) (by simp)).step (Writes.put _ _ i 0) (by simp)).step
      (Writes.put _ _ 0 0) (by simp)).step (Writes.raise _) (by simp)

theorem State.showOutside_writes (s : State) : Writes ((List.range 64).map fun k => Reg.WRD_TBL_OUTSIDE.key k) s s.showOutside := by
  unfold State.showOutside
  have hstep : ∀ (l : List Nat) (t : State), l ⊆ List.range 64 → Writes ((List.range 64).map fun k => Reg.WRD_TBL_OUTSIDE.key k) t
      (l.foldl (fun x k => x.put Reg.WRD_TBL_OUTSIDE (s.outside k) k) t) := by
    intro l
    induction l with
    | nil => exact fun t _ => .refl
    | cons k l ih =>
      intro t hl
      exact ((Writes.put _ _ k 0).mono (fun _ h => List.mem_singleton.1 h ▸ List.mem_map.2 ⟨k, hl List.mem_cons_self, rfl⟩)).trans
        (ih _ fun _ h => hl (List.mem_cons_of_mem _ h))
  exact hstep _ s fun _ h => h

/-- Where a pin's enable bit is kept among the registers. -/
theorem pinEn_apart : ∀ i : Fin 16, Reg.WRD_PIN_EN.key i < 8 * 0x150000 ∧
    Reg.WRD_PIN_EN.key i ∉ (List.range 64).map fun k => Reg.WRD_TBL_OUTSIDE.key k := by decide

/-- What is left by a load of pin i that starts in s. -/
theorem doWrdPinEn_load {s : State} {i : Fin 16} (hst : (s.pin i).st = .off ∨ (s.pin i).st = .conflict) :
    doWrdPinEn i true s = ((s.putB Reg.WRD_PIN_EN true i).pinLoad i).showOutside := if_pos hst

theorem State.pinLoad_spec (s : State) (i : Nat) :
    WritesAt [Reg.WRD_PINC_CONF_SET, Reg.WRD_PINC_CONF_SETS] [Reg.WRD_STATUS_PIN_CONFLICT] i s (s.pinLoad i) ∧
    (∀ j, j ≠ i → (s.pinLoad i).pin j = s.pin j) := by
  rw [State.pinLoad_eq]
  split
  · obtain ⟨-, hothers, -, hwrites⟩ := s.pinOff_spec i
    exact ⟨hwrites.mono (by simp), hothers⟩
  split
  · exact ⟨Writes.of_regs rfl, fun j hj => State.pin_setPin_ne s _ hj⟩
  · obtain ⟨-, hothers, -, hwrites⟩ := s.pinConflict_spec i (s.pinRange i) (s.pinSets i (s.pinRange i))
    exact ⟨hwrites, hothers⟩

theorem State.pinRange_putB_en (s : State) (i : Fin 16) (en : Bool) : (s.putB Reg.WRD_PIN_EN en i).pinRange i = s.pinRange i := by
  have hput : WritesAt [Reg.WRD_PIN_EN] [] i s (s.putB Reg.WRD_PIN_EN en i) := .putB _ _ _
  unfold State.pinRange
  rw [hput.get Reg.WRD_PIN_BASE i.isLt, hput.get Reg.WRD_PIN_COUNT i.isLt, hput.get Reg.WRD_PIN_TABLE i.isLt]

/-! ## The store -/

theorem Wardrobe.toStore_frame (w : Wardrobe) (l : Nat) : ∃ q o, w.toStore l = { w with staging := q, owing := o } := by
  unfold Wardrobe.toStore
  split
  · exact ⟨_, _, rfl⟩
  split
  · obtain ⟨q, hq⟩ := w.stage_frame l _
    exact ⟨q, _, hq⟩
  split <;> exact ⟨_, _, rfl⟩

theorem Wardrobe.stageOwing_frame (w : Wardrobe) : ∃ q o, w.stageOwing = { w with staging := q, owing := o } := by
  unfold Wardrobe.stageOwing
  split
  · exact ⟨_, _, rfl⟩
  · obtain ⟨q, o, h⟩ := Wardrobe.toStore_frame { w with owing := _ } _
    exact ⟨q, o, h⟩

/-- A wardrobe once a line is in the store. -/
def Wardrobe.withLine (w : Wardrobe) (l : Nat) (v : BitVec 512) : Wardrobe :=
  { w with store := fset w.store l 0 v, bad := w.bad.filter (· != l), marred := w.marred.filter (· != l),
           ways := w.ways.map (fun x => if x.line = l ∧ x.data = v then { x with dirty := false } else x),
           flushing := w.flushing.filter (· != l),
           changes := if w.flushing.contains l then w.changes ++ [(.flushed l, none, none)] else w.changes }

theorem State.lineStored_eq (s : State) (l : Nat) (v : BitVec 512) : s.lineStored l v = (s.setWrd (s.wrd.withLine l v)).storeDone [l] := rfl

/-- The device once the oldest staged line is in the store, its cells metered. -/
def State.lineWritten (s : State) (cells l : Nat) (v : BitVec 512) (rest : List (Nat × BitVec 512)) : State :=
  (((s.spend cells).setWrd { s.wrd with staging := rest }).lineStored l v)

theorem doStagingWriteback_eq {s : State} {w : WriteRes} {l : Nat} {v : BitVec 512} {rest : List (Nat × BitVec 512)}
    (hstaged : s.wrd.staging = (l, v) :: rest) (hwork : s.mayWork 12 = true) : ∃ cells, doStagingWriteback w s =
      if 3 < (s.failsOf (w.rows.headD [])).length then s.spend cells
      else (s.lineWritten cells l v rest).setWrd (s.lineWritten cells l v rest).wrd.stageOwing := by
  have hwrd : ∀ n, (s.spend n).wrd = s.wrd := fun n => (State.spend_within.same .wrd : s.wrd = _).symm
  refine ⟨ones 512 (s.wrd.stored l ^^^ v).toNat + Config.lineCells (s.wrd.stored l) v + ((s.failsOf (w.rows.headD [])).take 3).sum, ?_⟩
  unfold doStagingWriteback State.lineWritten
  rw [hstaged]
  dsimp only
  rw [if_neg (by simp [hwork]), hwrd]

/-- What the write of a line into the store leaves. -/
theorem State.lineWritten_spec (s : State) (cells l : Nat) (v : BitVec 512) (rest : List (Nat × BitVec 512)) :
    (s.lineWritten cells l v rest).wrd.store = fset s.wrd.store l 0 v ∧
    (s.lineWritten cells l v rest).wrd.bad = s.wrd.bad.filter (· != l) ∧
    (s.lineWritten cells l v rest).wrd.ways = s.wrd.ways.map (fun x => if x.line = l ∧ x.data = v then { x with dirty := false } else x) ∧
    (s.lineWritten cells l v rest).wrd.staging = rest ∧ (s.lineWritten cells l v rest).wrd.owing = s.wrd.owing ∧
    ∀ o ∈ s.host.owed, o.ready = false → ((o.func, o.idx, o.cid), [l]) ∈ s.wrd.wait → o.paid ∈ (s.lineWritten cells l v rest).host.owed := by
  obtain ⟨q, hq⟩ := State.wrd_storeDone (((s.spend cells).setWrd { s.wrd with staging := rest }).setWrd
    (Wardrobe.withLine { s.wrd with staging := rest } l v)) [l]
  unfold State.lineWritten
  rw [State.lineStored_eq, show ((s.spend cells).setWrd { s.wrd with staging := rest }).wrd = { s.wrd with staging := rest } from rfl, hq]
  refine ⟨rfl, rfl, rfl, rfl, rfl, fun o ho hr hwait => ?_⟩
  refine State.paid_storeDone ?_ hr hwait
  exact (s.spend_calm cells).owed.symm ▸ ho

/-- Settles O40, by the state of the pin, and by the staged line that a write-back takes. -/
theorem pinsLockAndStore : Obligations.PinsLockAndStore := by
  unfold Obligations.PinsLockAndStore
  refine ⟨fun s i p hm hst hp => ?_, fun s i hm => ⟨?_, fun hst => ?_⟩, fun s i => ⟨fun hst hload hwork hm => ?_, fun hidle => ?_⟩,
    fun s v => ⟨fun hm => ?_, fun hm => ⟨congrArg Host.Outcome.next (if_neg hm), fun i en => congrArg Host.Outcome.next (if_neg hm)⟩⟩, fun s w => ⟨fun l v q hstaged hwork hok => ?_,
    fun l v q hstaged hwork hfail => ?_, fun hidle => ?_⟩⟩
  · set u := s.touchIdle.putB Reg.WRD_PIN_EN true i with hu
    have hexec : exec (.wrdPinEn i true) s = .next (u.pinLoad i).showOutside :=
      congrArg Host.Outcome.next ((if_pos hm).trans (doWrdPinEn_load (s := s.touchIdle) hst))
    have hrange : u.pinRange i = p := (State.pinRange_putB_en s.touchIdle i true).trans hp.symm
    obtain ⟨hwrites, hothers⟩ := u.pinLoad_spec i
    have hshow : ∀ j, (u.pinLoad i).showOutside.pin j = (u.pinLoad i).pin j := fun j => State.showOutside_within.pin j
    have hload := u.pinLoad_eq i
    rw [hrange, show u.table p.tbl = s.table p.tbl from rfl] at hload
    have hin : 0 < p.count → p.base + p.count ≤ 2 ^ 20 → (s.table p.tbl).isSome = true →
        ¬ (p.count = 0 ∨ 2 ^ 20 < p.base + p.count ∨ (s.table p.tbl).isNone = true) := fun hcount hfit htbl h => by
      rcases h with h | h | h
      · omega
      · omega
      · rw [Option.isNone_iff_eq_none.1 h] at htbl
        exact Bool.noConfusion htbl
    have hen := pinEn_apart i
    refine ⟨_, hexec, ?_, fun j hj => (hshow j).trans (hothers j hj), fun hcount hfit htbl => ⟨fun hfree => ?_, fun hfull => ?_⟩, fun hbad => ?_⟩
    · refine (((u.pinLoad i).showOutside_writes.flag Reg.WRD_PIN_EN i 0 hen.1 hen.2).trans (hwrites.flag Reg.WRD_PIN_EN i.isLt)).trans ?_
      exact State.flag_putB_same _ _ _ _ _ rfl
    · rw [if_neg (hin hcount hfit htbl), if_pos (List.isEmpty_iff.2 hfree : (u.pinSets i p).isEmpty = true)] at hload
      rw [hshow, hload]
      exact State.pin_setPin_same ..
    · rw [if_neg (hin hcount hfit htbl), if_neg (fun h : (u.pinSets i p).isEmpty = true => hfull (List.isEmpty_iff.1 h))] at hload
      obtain ⟨hpin, -, hflag, -⟩ := u.pinConflict_spec i p (u.pinSets i p)
      rw [hshow, hload, (State.showOutside_writes _).flag Reg.WRD_STATUS_PIN_CONFLICT, hpin]
      subst hp
      exact ⟨rfl, hflag⟩
    · rw [if_pos (hbad.imp_right fun h => h.imp_right Option.isNone_iff_eq_none.2)] at hload
      obtain ⟨hpin, -, hflag, -⟩ := u.pinOff_spec i
      rw [hshow, hload, (State.showOutside_writes _).flag Reg.WRD_STATUS_PIN_CONFLICT]
      exact ⟨hpin, hflag⟩
  · by_cases hoff : (s.pin i).st = .off
    · exact ⟨_, congrArg Host.Outcome.next ((if_pos hm).trans (if_pos hoff : doWrdPinEn i false s.touchIdle = _)), State.flag_putB_same _ _ _ _ _ rfl,
        (if_pos hoff).symm, fun _ _ => rfl⟩
    · refine ⟨_, congrArg Host.Outcome.next ((if_pos hm).trans (if_neg hoff : doWrdPinEn i false s.touchIdle = _)), (State.flag_putB_same s.touchIdle Reg.WRD_PIN_EN false i 0 rfl :), ?_,
        fun j hj => State.pin_setPin_ne _ _ hj⟩
      rw [if_neg hoff]
      exact State.pin_setPin_same ..
  · have hno : ¬ ((s.pin i).st = .off ∨ (s.pin i).st = .conflict) := by rcases hst with h | h <;> simp [h]
    exact ⟨_, congrArg Host.Outcome.next ((if_pos hm).trans (if_neg hno : doWrdPinEn i true s.touchIdle = _)),
      State.flag_putB_same _ _ _ _ _ rfl, rfl⟩
  · set u := s.settleFills.pinInstall { s.pin i with read := 0 } (s.pin i).count with hu
    have hkeeps : KeepsPins s u := s.settleFills_keepsPins.trans (State.pinInstall_keepsPins ..)
    have hexec : doPinLoadDone i s = u.setPin i { s.pin i with read := (s.pin i).count - 1, loaded := u.pinComplete (s.pin i) } :=
      if_pos ⟨hst, hload, hwork, hm⟩
    exact ⟨_, congrArg Host.Outcome.next hexec, State.pin_setPin_same .., fun j hj => (State.pin_setPin_ne u _ hj).trans (hkeeps.pin j),
      hkeeps.2⟩
  · refine congrArg Host.Outcome.next (if_neg ?_)
    rintro ⟨hst, hload, hwork, hm⟩
    rcases hidle with h | h | h | h
    · exact h hst
    · exact Bool.noConfusion (h.symm.trans hload)
    · exact Bool.noConfusion (h.symm.trans hwork)
    · exact h hm
  · exact ⟨_, congrArg Host.Outcome.next (if_pos hm), State.get_put_of_lt _ _ _ _ _ v.isLt, rfl⟩
  · obtain ⟨cells, hback⟩ := doStagingWriteback_eq (w := w) hstaged hwork
    rw [if_neg (by omega)] at hback
    obtain ⟨hstore, hbad, hways, hstaging, howing, howed⟩ := s.lineWritten_spec cells l v q
    set u := s.lineWritten cells l v q with hu
    obtain ⟨x, y, hnext⟩ := u.wrd.stageOwing_frame
    have hwrd : (u.setWrd u.wrd.stageOwing).wrd = u.wrd.stageOwing := rfl
    refine ⟨_, congrArg Host.Outcome.next hback, ?_, ?_, fun hnone => ?_, fun m hne => ?_, ?_, fun o ho hwait hr => howed o ho hr hwait⟩
    · unfold Wardrobe.stored
      rw [hwrd, hnext]
      dsimp only
      rw [hstore]
      exact fgetD_fset_same ..
    · rw [hwrd, hnext]
      dsimp only
      rw [hbad]
      simp
    · rw [hwrd]
      unfold Wardrobe.stageOwing
      rw [howing, hnone]
      exact hstaging
    · unfold Wardrobe.stored
      rw [hwrd, hnext]
      dsimp only
      rw [hstore]
      exact fgetD_fset_ne _ _ _ _ (Ne.symm hne)
    · rw [hwrd, hnext]
      exact hways
  · obtain ⟨cells, hback⟩ := doStagingWriteback_eq (w := w) hstaged hwork
    rw [if_pos hfail] at hback
    exact ⟨_, congrArg Host.Outcome.next hback, (State.spend_within.same .wrd : s.wrd = _).symm⟩
  · refine congrArg Host.Outcome.next ?_
    unfold doStagingWriteback
    split
    · rfl
    · rename_i l v rest hstaged
      exact if_pos (hidle.resolve_left (by rw [hstaged]; exact List.cons_ne_nil _ _))

end Sys2Proof.Machine
end

section
/-! PROOFS. What the wardrobe operations do at their boundary (O39). -/

namespace Sys2Proof.Machine

set_option Elab.async false

/-! ## Lines of the wardrobe and the staging buffer -/

/-- A copy of a line is staged. -/
def Wardrobe.holds (w : Wardrobe) (l : Nat) : Prop := ∃ e ∈ w.staging, e.1 = l

theorem Wardrobe.isSome_stagedOf (w : Wardrobe) (l : Nat) : (w.stagedOf l).isSome = true ↔ w.holds l := by
  unfold Wardrobe.stagedOf Wardrobe.holds
  rw [Option.isSome_map, List.find?_isSome]
  simp only [beq_iff_eq]

theorem Wardrobe.mem_dirtyLines (w : Wardrobe) (l : Nat) : l ∈ w.dirtyLines ↔ (∃ x ∈ w.ways, x.dirty = true ∧ x.line = l) ∨ w.holds l := by
  unfold Wardrobe.dirtyLines Wardrobe.holds
  rw [List.mem_eraseDups, List.mem_append, List.mem_map, List.mem_map]
  simp only [List.mem_filter, and_assoc]

theorem Wardrobe.mem_held (w : Wardrobe) (first n l : Nat) : l ∈ w.held_ first n ↔
    ((∃ x ∈ w.ways, x.line = l) ∨ w.holds l) ∧ first ≤ l ∧ l < first + n := by
  unfold Wardrobe.held_ Wardrobe.holds
  rw [mem_sortBy, List.mem_filter, List.mem_eraseDups, List.mem_append, List.mem_map, List.mem_map, Bool.and_eq_true, decide_eq_true_eq,
    decide_eq_true_eq]

/-- The lines, as far as the operations of R261 treat them, are the same in two wardrobes. -/
structure SameLines (w v : Wardrobe) : Prop where
  store : v.store = w.store
  ways : v.ways = w.ways
  staging : v.staging = w.staging
  owing : v.owing = w.owing
  flushing : v.flushing = w.flushing

theorem SameLines.dirtyLines {w v : Wardrobe} (h : SameLines w v) : v.dirtyLines = w.dirtyLines := by
  unfold Wardrobe.dirtyLines
  rw [h.ways, h.staging]

theorem SameLines.held {w v : Wardrobe} (h : SameLines w v) (first n : Nat) : v.held_ first n = w.held_ first n := by
  unfold Wardrobe.held_
  rw [h.ways, h.staging]

/-! ## Staging -/

theorem Wardrobe.holds_stage (w : Wardrobe) (l m : Nat) (v : BitVec 512) : (w.stage l v).holds m ↔ w.holds m ∨ m = l := by
  unfold Wardrobe.stage
  split
  case isTrue h =>
    obtain ⟨e, he, hl⟩ := List.any_eq_true.1 h
    have hel : e.1 = l := beq_iff_eq.1 hl
    constructor
    · rintro ⟨x, hx, rfl⟩
      obtain ⟨y, hy, rfl⟩ := List.mem_map.1 hx
      split
      case isTrue => exact .inr rfl
      case isFalse => exact .inl ⟨y, hy, rfl⟩
    · have hkeep : ∀ x : Nat × BitVec 512, (if x.1 = l then (l, v) else x).1 = x.1 := fun x => by
        split
        case isTrue h => exact h.symm
        case isFalse => rfl
      rintro (⟨x, hx, rfl⟩ | rfl)
      · exact ⟨_, List.mem_map.2 ⟨x, hx, rfl⟩, hkeep x⟩
      · exact ⟨_, List.mem_map.2 ⟨e, he, rfl⟩, (hkeep e).trans hel⟩
  case isFalse =>
    unfold Wardrobe.holds
    simp only [List.mem_append, List.mem_singleton]
    constructor
    · rintro ⟨x, hx | rfl, rfl⟩
      · exact .inl ⟨x, hx, rfl⟩
      · exact .inr rfl
    · rintro (⟨x, hx, rfl⟩ | rfl)
      · exact ⟨x, .inl hx, rfl⟩
      · exact ⟨_, .inr rfl, rfl⟩

/-- A line that is staged, or waits for room there. -/
def Wardrobe.leaving (w : Wardrobe) (l : Nat) : Prop := w.holds l ∨ l ∈ w.owing

theorem Wardrobe.holds_toStore {w : Wardrobe} {m : Nat} (l : Nat) (h : w.holds m) : (w.toStore l).holds m := by
  unfold Wardrobe.toStore
  split
  · exact h
  split
  · exact (w.holds_stage l m _).2 (.inl h)
  split <;> exact h

theorem Wardrobe.owing_stage (w : Wardrobe) (l : Nat) (v : BitVec 512) : (w.stage l v).owing = w.owing := by
  obtain ⟨q, hq⟩ := w.stage_frame l v
  rw [hq]

theorem Wardrobe.owing_toStore {w : Wardrobe} {m : Nat} (l : Nat) (h : m ∈ w.owing) : m ∈ (w.toStore l).owing := by
  unfold Wardrobe.toStore
  split
  · exact h
  split
  · rw [w.owing_stage]
    exact h
  split
  · exact h
  · exact List.mem_append_left _ h

/-- A dirty line leaves for the store. -/
theorem Wardrobe.leaving_toStore_self {w : Wardrobe} {x : Way} (hx : x ∈ w.ways) (hdirty : x.dirty = true) : (w.toStore x.line).leaving x.line := by
  unfold Wardrobe.toStore
  split
  case h_1 hnone =>
    have hno := List.find?_eq_none.1 hnone x hx
    simp [hdirty] at hno
  case h_2 y hy =>
    split
    · exact .inl ((w.holds_stage _ _ _).2 (.inr rfl))
    split
    case isTrue h => exact .inr (List.contains_iff_mem.1 h)
    case isFalse => exact .inr (List.mem_append_right _ (List.mem_singleton.2 rfl))

/-- What sending lines to the store changes: the staging buffer and the list of what waits for room in it. -/
theorem Wardrobe.foldl_toStore_frame (ls : List Nat) (w : Wardrobe) : ∃ q o, ls.foldl Wardrobe.toStore w = { w with staging := q, owing := o } := by
  induction ls generalizing w with
  | nil => exact ⟨_, _, rfl⟩
  | cons l ls ih =>
    obtain ⟨q, o, h⟩ := w.toStore_frame l
    obtain ⟨q', o', h'⟩ := ih (w.toStore l)
    exact ⟨q', o', by rw [List.foldl_cons, h', h]⟩

theorem Wardrobe.leaving_foldl {ls : List Nat} {w : Wardrobe} {m : Nat} (h : w.leaving m) : (ls.foldl Wardrobe.toStore w).leaving m := by
  induction ls generalizing w with
  | nil => exact h
  | cons l ls ih => exact ih (h.imp (Wardrobe.holds_toStore l) (Wardrobe.owing_toStore l))

theorem Wardrobe.holds_foldl {ls : List Nat} {w : Wardrobe} {m : Nat} (h : w.holds m) : (ls.foldl Wardrobe.toStore w).holds m := by
  induction ls generalizing w with
  | nil => exact h
  | cons l ls ih => exact ih (Wardrobe.holds_toStore l h)

theorem Wardrobe.leaving_foldl_self {ls : List Nat} {w : Wardrobe} {x : Way} (hx : x ∈ w.ways) (hdirty : x.dirty = true) (hl : x.line ∈ ls) :
    (ls.foldl Wardrobe.toStore w).leaving x.line := by
  induction ls generalizing w with
  | nil => exact nomatch hl
  | cons l ls ih =>
    rw [List.foldl_cons]
    rcases List.mem_cons.1 hl with rfl | hl
    · exact Wardrobe.leaving_foldl (Wardrobe.leaving_toStore_self hx hdirty)
    · obtain ⟨q, o, h⟩ := w.toStore_frame l
      exact ih (by rw [h]; exact hx) hl

/-! ## The operations -/

theorem State.dropPins_frame (s : State) (ls : List Nat) : (∃ p, (s.dropPins ls).wrd = { s.wrd with pins := p }) ∧ Pays s (s.dropPins ls) := by
  unfold State.dropPins
  generalize (s.wrd.pins.filter fun e => (e.2.st == .held || e.2.st == .loading) && e.2.covers ls) = l
  induction l generalizing s with
  | nil => exact ⟨⟨_, rfl⟩, .refl⟩
  | cons e l ih =>
    rw [List.foldl_cons]
    extract_lets _ u
    have hu : Pays s u := .of_owed rfl
    have hstep : (if e.2.st = .held then u.raise Ev.PIN_DROPPED else u).wrd = u.wrd ∧
        Pays s (if e.2.st = .held then u.raise Ev.PIN_DROPPED else u) := by
      split
      · exact ⟨(State.raise_within.same .wrd : u.wrd = _).symm, hu.trans (.of_calm (u.raise_calm _))⟩
      · exact ⟨rfl, hu⟩
    obtain ⟨⟨p, hp⟩, hpays⟩ := ih (if e.2.st = .held then u.raise Ev.PIN_DROPPED else u)
    exact ⟨⟨p, by rw [hp, hstep.1]; rfl⟩, hstep.2.trans hpays⟩

theorem State.invalidate_frame (s : State) (ls : List Nat) :
    (∃ p, (s.invalidate ls).wrd = { s.wrd with ways := s.wrd.ways.filter fun x => !ls.contains x.line, pins := p }) ∧
    Pays s (s.invalidate ls) := by
  unfold State.invalidate
  extract_lets locked
  obtain ⟨⟨p, hp⟩, hpays⟩ := State.dropPins_frame (s.setWrd { s.wrd with ways := s.wrd.ways.filter fun x => !ls.contains x.line }) locked
  have hset : Pays s (s.setWrd { s.wrd with ways := s.wrd.ways.filter fun x => !ls.contains x.line }) := .of_owed rfl
  exact ⟨⟨p, hp⟩, hset.trans hpays⟩

/-- Nothing of these lines is staged, or waits to be. -/
def State.unstage (s : State) (ls : List Nat) : State :=
  s.setWrd { s.wrd with staging := s.wrd.staging.filter fun x => !ls.contains x.1, owing := s.wrd.owing.filter fun l => !ls.contains l,
                        flushing := s.wrd.flushing.filter fun l => !ls.contains l }

theorem State.opInval_eq (s : State) (ls : List Nat) : s.opInval ls =
    (((s.invalidate ls).bump Reg.WRD_CNT_DIRTY_LOST_COUNT (s.wrd.dirtyLines.filter ls.contains).length).unstage ls).storeDone
      (s.wrd.dirtyLines.filter ls.contains) := rfl

theorem State.opInval_frame (s : State) (ls : List Nat) : (s.opInval ls).wrd.store = s.wrd.store ∧
    (s.opInval ls).wrd.ways = s.wrd.ways.filter (fun x => !ls.contains x.line) ∧
    (s.opInval ls).wrd.staging = s.wrd.staging.filter (fun x => !ls.contains x.1) ∧
    (s.opInval ls).wrd.retention = s.wrd.retention ∧ Pays s (s.opInval ls) := by
  obtain ⟨⟨p, hp⟩, hpays⟩ := s.invalidate_frame ls
  rw [State.opInval_eq]
  generalize s.wrd.dirtyLines.filter ls.contains = lost
  set t := (s.invalidate ls).bump Reg.WRD_CNT_DIRTY_LOST_COUNT lost.length with htdef
  have ht : t.wrd = { s.wrd with ways := s.wrd.ways.filter fun x => !ls.contains x.line, pins := p } := hp
  have htpays : Pays s t := hpays.trans (.of_within State.bump_within)
  have hdropped : Pays t (t.unstage ls) := .of_owed rfl
  obtain ⟨w, hw⟩ := (t.unstage ls).wrd_storeDone lost
  rw [hw]
  refine ⟨?_, ?_, ?_, ?_, (htpays.trans hdropped).trans ((t.unstage ls).storeDone_pays lost)⟩
  · exact (congrArg Wardrobe.store ht : t.wrd.store = _)
  · exact (congrArg Wardrobe.ways ht : t.wrd.ways = _)
  · exact (congrArg (fun v : Wardrobe => v.staging.filter fun x => !ls.contains x.1) ht :
      (t.wrd.staging.filter fun x => !ls.contains x.1) = _)
  · exact (congrArg Wardrobe.retention ht : t.wrd.retention = _)

theorem State.opFlush_frame (s : State) (ls : List Nat) : (s.opFlush ls).wrd.store = s.wrd.store ∧
    (s.opFlush ls).wrd.ways = s.wrd.ways.filter (fun x => !(ls.filter fun l => !s.wrd.dirtyLines.contains l).contains x.line) ∧
    (s.opFlush ls).wrd.staging = (ls.foldl Wardrobe.toStore s.wrd).staging ∧
    (s.opFlush ls).wrd.flushing = (s.wrd.flushing ++ ls.filter s.wrd.dirtyLines.contains).eraseDups ∧
    (s.opFlush ls).wrd.retention = s.wrd.retention ∧ Pays s (s.opFlush ls) := by
  unfold State.opFlush
  extract_lets dirty t
  obtain ⟨⟨p, hp⟩, hpays⟩ := (s.opClean ls).invalidate_frame (ls.filter fun l => !dirty.contains l)
  obtain ⟨q, o, hq⟩ := s.wrd.foldl_toStore_frame ls
  have hclean : (s.opClean ls).wrd = { s.wrd with staging := q, owing := o } := hq
  have htpays : Pays s t := (Pays.of_owed rfl : Pays s (s.opClean ls)).trans hpays
  have ht : t.wrd = _ := hp
  rw [hclean] at ht
  refine ⟨?_, ?_, ?_, ?_, ?_, htpays.trans (.of_owed rfl)⟩
  · exact (congrArg Wardrobe.store ht : t.wrd.store = _)
  · exact (congrArg Wardrobe.ways ht : t.wrd.ways = _)
  · exact (congrArg Wardrobe.staging ht : t.wrd.staging = _).trans (congrArg Wardrobe.staging hq).symm
  · exact (congrArg (fun v : Wardrobe => (v.flushing ++ ls.filter dirty.contains).eraseDups) ht :
      (t.wrd.flushing ++ ls.filter dirty.contains).eraseDups = _)
  · exact (congrArg Wardrobe.retention ht : t.wrd.retention = _)

/-- An operation of R261 over some lines. -/
def State.opRun (s : State) (kind : Nat) (ls : List Nat) : State :=
  if kind = 0 then s.opInval ls else if kind = 1 then s.opClean ls else s.opFlush ls

theorem State.opRun_frame (s : State) (kind : Nat) (ls : List Nat) : (s.opRun kind ls).wrd.store = s.wrd.store ∧
    (s.opRun kind ls).wrd.retention = s.wrd.retention ∧ Pays s (s.opRun kind ls) := by
  unfold State.opRun
  split
  · obtain ⟨hstore, -, -, hret, hpays⟩ := s.opInval_frame ls
    exact ⟨hstore, hret, hpays⟩
  split
  · obtain ⟨q, o, hq⟩ := s.wrd.foldl_toStore_frame ls
    exact ⟨(congrArg Wardrobe.store hq : (ls.foldl Wardrobe.toStore s.wrd).store = _),
      (congrArg Wardrobe.retention hq : (ls.foldl Wardrobe.toStore s.wrd).retention = _), .of_owed rfl⟩
  · obtain ⟨hstore, -, -, -, hret, hpays⟩ := s.opFlush_frame ls
    exact ⟨hstore, hret, hpays⟩

/-- A line that the store does not have, and that an operation does not discard, is one that it still does not have. -/
theorem State.dirty_opRun {s : State} {kind : Nat} {ls : List Nat} {l : Nat} (hkind : kind ≠ 0) (h : l ∈ s.wrd.dirtyLines) :
    l ∈ (s.opRun kind ls).wrd.dirtyLines := by
  obtain ⟨q, o, hq⟩ := s.wrd.foldl_toStore_frame ls
  rw [Wardrobe.mem_dirtyLines] at h ⊢
  unfold State.opRun
  rw [if_neg hkind]
  split
  case isTrue =>
    rcases h with ⟨x, hx, hdirty, rfl⟩ | h
    · exact .inl ⟨x, (congrArg Wardrobe.ways hq).symm ▸ hx, hdirty, rfl⟩
    · exact .inr (Wardrobe.holds_foldl h)
  case isFalse =>
    obtain ⟨-, hways, hstaging, -⟩ := s.opFlush_frame ls
    rcases h with ⟨x, hx, hdirty, rfl⟩ | h
    · refine .inl ⟨x, ?_, hdirty, rfl⟩
      rw [hways]
      refine List.mem_filter.2 ⟨hx, ?_⟩
      have hmem : x.line ∈ s.wrd.dirtyLines := (s.wrd.mem_dirtyLines _).2 (.inl ⟨x, hx, hdirty, rfl⟩)
      simp [hmem]
    · obtain ⟨e, he, hl⟩ := Wardrobe.holds_foldl (ls := ls) h
      exact .inr ⟨e, hstaging.symm ▸ he, hl⟩

/-! ## The boundary -/

/-- The retained copies of some lines. -/
def State.retainAll (s : State) (k : Tick) (ls : List Nat) : State := ls.foldl (fun x l => x.retain l k) s

theorem State.retainAll_frame (s : State) (k : Tick) (ls : List Nat) :
    ∃ r, s.retainAll k ls = s.setWrd { s.wrd with retention := r } ∧ r.length = s.wrd.retention.length + ls.length := by
  unfold State.retainAll
  induction ls generalizing s with
  | nil => exact ⟨_, rfl, rfl⟩
  | cons l ls ih =>
    obtain ⟨r, hr, hlen⟩ := ih (s.retain l k)
    refine ⟨r, ?_, ?_⟩
    · rw [List.foldl_cons, hr]
      rfl
    · rw [hlen]
      unfold State.retain State.setWrd
      simp only [List.length_append, List.length_cons, List.length_nil]
      omega

/-- The device with the lines of an operation that a boundary changes retained. -/
def State.opReady (s : State) (k : Tick) (kind : Nat) (ls : List Nat) : State := if kind = 1 then s else s.retainAll k ls

theorem State.opReady_frame (s : State) (k : Tick) (kind : Nat) (ls : List Nat) :
    SameLines s.wrd (s.opReady k kind ls).wrd ∧ Pays s (s.opReady k kind ls) ∧
    (kind ≠ 1 → (s.opReady k kind ls).wrd.retention.length = s.wrd.retention.length + ls.length) := by
  unfold State.opReady
  split
  case isTrue h => exact ⟨⟨rfl, rfl, rfl, rfl, rfl⟩, .refl, fun hne => absurd h hne⟩
  case isFalse =>
    obtain ⟨r, hr, hlen⟩ := s.retainAll_frame k ls
    rw [hr]
    exact ⟨⟨rfl, rfl, rfl, rfl, rfl⟩, .of_owed rfl, fun _ => hlen⟩

/-- The lines of an operation that this boundary changes. -/
def State.opNow (s : State) (kind : Nat) (ls : List Nat) : List Nat := if kind = 1 then ls else ls.take (1024 - s.wrd.retention.length)

theorem State.applyOp_all {s : State} {k : Tick} {kind first n : Nat} (h : s.opNow kind (s.wrd.held_ first n) = s.wrd.held_ first n) :
    ∃ v, s.applyOp k kind first n [] = (v, none, if kind = 0 then [] else (s.wrd.held_ first n).filter s.wrd.dirtyLines.contains) ∧
      SameLines ((s.opReady k kind (s.wrd.held_ first n)).opRun kind (s.wrd.held_ first n)).wrd v.wrd ∧
      Pays ((s.opReady k kind (s.wrd.held_ first n)).opRun kind (s.wrd.held_ first n)) v := by
  unfold State.applyOp
  extract_lets ls now t owed next u
  have hnow : now = ls := h
  have hu : u = ((s.opReady k kind ls).opRun kind ls).discardFills fun l => decide (first ≤ l) && decide (l < next) := by
    rw [← hnow]
    rfl
  rw [if_pos (by rw [hnow])]
  refine ⟨_, by rw [show owed = _ from List.nil_append _, hnow], ?_, ?_⟩
  · rw [hu]
    split <;> exact ⟨rfl, rfl, rfl, rfl, rfl⟩
  · rw [hu]
    split <;> exact .of_owed rfl

theorem State.applyOp_some {s : State} {k : Tick} {kind first n : Nat}
    (h : (s.opNow kind (s.wrd.held_ first n)).length < (s.wrd.held_ first n).length) : ∃ v c owed, s.applyOp k kind first n [] = (v, some c, owed) ∧
      v.wrd.store = ((s.opReady k kind (s.opNow kind (s.wrd.held_ first n))).opRun kind (s.opNow kind (s.wrd.held_ first n))).wrd.store ∧
      v.wrd.retention = ((s.opReady k kind (s.opNow kind (s.wrd.held_ first n))).opRun kind (s.opNow kind (s.wrd.held_ first n))).wrd.retention := by
  unfold State.applyOp
  extract_lets ls now t owed next u
  rw [if_neg (Nat.not_le.2 h : ¬ ls.length ≤ now.length)]
  exact ⟨u, _, _, rfl, rfl, rfl⟩

theorem State.wrd_waitStore (s : State) (own : Option (Nat × Nat × Nat)) (lines : List Nat) :
    SameLines s.wrd (s.waitStore own lines).wrd ∧ ∀ o, own = some o → lines ≠ [] → (o, lines) ∈ (s.waitStore own lines).wrd.wait := by
  unfold State.waitStore
  split
  · exact ⟨⟨rfl, rfl, rfl, rfl, rfl⟩, fun o h => (nomatch h)⟩
  · split
    case isTrue h => exact ⟨⟨rfl, rfl, rfl, rfl, rfl⟩, fun o _ hne => absurd (List.isEmpty_iff.1 h) hne⟩
    case isFalse =>
      refine ⟨⟨rfl, rfl, rfl, rfl, rfl⟩, fun o ho _ => ?_⟩
      obtain rfl := Option.some.inj ho
      exact List.mem_append_right _ (List.mem_singleton.2 rfl)

theorem State.paid_waitStore {s : State} {o : Owed} {own : Option (Nat × Nat × Nat)} (h : o ∈ s.host.owed ∨ o.paid ∈ s.host.owed) (hr : o.ready = false)
    (hown : own = some (o.func, o.idx, o.cid)) : o.paid ∈ (s.waitStore own []).host.owed := by
  subst hown
  rcases h with h | h
  · exact State.mem_owedReady h hr
  · exact (s.owedReady_pays _ _ _).paid h

theorem State.applyChange_done {s v : State} {k : Tick} {kind first n : Nat} {own : Option (Nat × Nat × Nat)} {owed : List Nat}
    (h : s.applyOp k kind first n [] = (v, none, owed)) : s.applyChange k (.op kind first n []) own =
      (v.waitStore own (owed.filter fun l => v.wrd.dirtyLines.contains l), none) := by
  unfold State.applyChange
  dsimp only
  rw [h]

theorem State.applyChange_carried {s v : State} {k : Tick} {kind first n : Nat} {own : Option (Nat × Nat × Nat)} {owed : List Nat} {c : WrdChange}
    (h : s.applyOp k kind first n [] = (v, some c, owed)) : s.applyChange k (.op kind first n []) own = (v, some c) := by
  unfold State.applyChange
  dsimp only
  rw [h]

/-- Settles O39, by the lines of the range that find room, all of them or only some. -/
theorem wardrobeOperationsAtTheBoundary : Obligations.WardrobeOperationsAtTheBoundary := by
  unfold Obligations.WardrobeOperationsAtTheBoundary
  refine fun s k kind first n own hle => ⟨fun hroom => ?_, fun hret hmore hkind => ?_⟩
  · extract_lets need
    set ls := s.wrd.held_ first n with hls
    have hnow : s.opNow kind ls = ls := by
      unfold State.opNow
      split
      · rfl
      case isFalse h => exact List.take_of_length_le (by omega)
    obtain ⟨v, hop, hsame, hvpays⟩ := State.applyOp_all (k := k) hnow
    obtain ⟨hready, hrpays, -⟩ := s.opReady_frame k kind ls
    set u := s.opReady k kind ls with hu
    obtain ⟨hstore, -, hupays⟩ := u.opRun_frame kind ls
    have hneed : (need.filter fun l => v.wrd.dirtyLines.contains l) = need := by
      by_cases h0 : kind = 0
      · rw [show need = [] from if_pos h0]
        rfl
      · refine List.filter_eq_self.2 fun l hl => List.contains_iff_mem.2 ?_
        rw [show need = _ from if_neg h0] at hl
        rw [hsame.dirtyLines]
        refine State.dirty_opRun h0 ?_
        rw [hready.dirtyLines]
        exact List.contains_iff_mem.1 (List.mem_filter.1 hl).2
    have hchange := State.applyChange_done (own := own) hop
    rw [show (if kind = 0 then [] else ls.filter s.wrd.dirtyLines.contains) = need from rfl, hneed] at hchange
    obtain ⟨hwait, howed⟩ := v.wrd_waitStore own need
    have hin : ∀ x ∈ s.wrd.ways, first ≤ x.line → x.line < first + n → x.line ∈ ls := fun x hx h1 h2 =>
      (s.wrd.mem_held ..).2 ⟨.inl ⟨x, hx, rfl⟩, h1, h2⟩
    refine ⟨_, hchange, ?_, fun h0 => ⟨fun x hx hrange => ?_, fun x hx hrange => ?_⟩, fun h1 => ⟨?_, fun x hx hlo hhi hdirty => ?_⟩,
      fun h2 x hx hlo hhi => ?_, fun o ho hnone hown hr => ?_, howed⟩
    · rw [hwait.store, hsame.store, hstore, hready.store]
    · obtain ⟨-, hways, -⟩ := u.opInval_frame ls
      rw [hwait.ways, hsame.ways, State.opRun, if_pos h0, hways, hready.ways] at hx
      obtain ⟨hx, hout⟩ := List.mem_filter.1 hx
      simp [hin x hx hrange.1 hrange.2] at hout
    · obtain ⟨-, -, hstaging, -⟩ := u.opInval_frame ls
      rw [hwait.staging, hsame.staging, State.opRun, if_pos h0, hstaging, hready.staging] at hx
      obtain ⟨hx, hout⟩ := List.mem_filter.1 hx
      have hmem : x.1 ∈ ls := (s.wrd.mem_held ..).2 ⟨.inr ⟨x, hx, rfl⟩, hrange.1, hrange.2⟩
      simp [hmem] at hout
    · subst h1
      obtain ⟨q, o, hq⟩ := u.wrd.foldl_toStore_frame ls
      rw [hwait.ways, hsame.ways]
      exact (congrArg Wardrobe.ways hq : (ls.foldl Wardrobe.toStore u.wrd).ways = _).trans hready.ways
    · subst h1
      obtain ⟨q, o, hq⟩ := u.wrd.foldl_toStore_frame ls
      have hways : (u.opRun 1 ls).wrd.ways = u.wrd.ways := (congrArg Wardrobe.ways hq : (ls.foldl Wardrobe.toStore u.wrd).ways = _)
      rw [hwait.ways, hsame.ways, hways] at hx
      have hl : x.line ∈ ls := hin x (hready.ways ▸ hx) hlo hhi
      have hleaving : (u.opRun 1 ls).wrd.leaving x.line := Wardrobe.leaving_foldl_self hx hdirty hl
      rcases hleaving with ⟨e, he, hel⟩ | h
      · refine .inl ((Wardrobe.isSome_stagedOf _ _).2 ⟨e, ?_, hel⟩)
        rw [hwait.staging, hsame.staging]
        exact he
      · refine .inr ?_
        rw [hwait.owing, hsame.owing]
        exact h
    · subst h2
      obtain ⟨-, hways, -, hflushing, -⟩ := u.opFlush_frame ls
      rw [hwait.ways, hsame.ways, show (u.opRun 2 ls).wrd.ways = _ from hways, hready.ways, hready.dirtyLines] at hx
      obtain ⟨hx, hout⟩ := List.mem_filter.1 hx
      have hl := hin x hx hlo hhi
      have hdirty : x.line ∈ s.wrd.dirtyLines := by
        by_contra hclean
        simp [hl, hclean] at hout
      refine ⟨hdirty, ?_⟩
      rw [hwait.flushing, hsame.flushing, show (u.opRun 2 ls).wrd.flushing = _ from hflushing, List.mem_eraseDups, hready.dirtyLines]
      exact List.mem_append_right _ (List.mem_filter.2 ⟨hl, List.contains_iff_mem.2 hdirty⟩)
    · rw [hnone]
      exact State.paid_waitStore (((hrpays.trans hupays).trans hvpays).owes o ho hr) hr hown
  · have hlen : (s.opNow kind (s.wrd.held_ first n)).length = 1024 - s.wrd.retention.length := by
      unfold State.opNow
      rw [if_neg hkind, List.length_take]
      omega
    obtain ⟨v, c, owed, hop, hstore, hkept⟩ := State.applyOp_some (k := k) (by rw [hlen]; omega)
    obtain ⟨hready, -, hretained⟩ := s.opReady_frame k kind (s.opNow kind (s.wrd.held_ first n))
    obtain ⟨hran, hsame, -⟩ := (s.opReady k kind (s.opNow kind (s.wrd.held_ first n))).opRun_frame kind (s.opNow kind (s.wrd.held_ first n))
    refine ⟨v, c, State.applyChange_carried hop, ?_, ?_⟩
    · rw [hstore, hran, hready.store]
    · rw [hkept, hsame, hretained hkind, hlen]
      omega

end Sys2Proof.Machine
end

section
/-! PROOFS. The seam: digests (O44), edit locks, detach and the release settings (O46). -/

namespace Sys2Proof.Machine

set_option Elab.async false

/-! ## Messages for the twin -/

/-- A message sent changes the outputs and what is counted and waits for the twin's credits. -/
theorem State.sendSeam_frame (s : State) (m : SeamOut) : ∃ o q c w, s.sendSeam m =
    { s with out := o, seam := { s.seam with seq := q, credit := c, waiting := w } } := by
  unfold State.sendSeam State.putSeam
  split <;> exact ⟨_, _, _, _, rfl⟩

theorem State.sendSeams_frame (s : State) (l : List SeamOut) : ∃ o q c w, s.sendSeams l =
    { s with out := o, seam := { s.seam with seq := q, credit := c, waiting := w } } := by
  unfold State.sendSeams
  induction l generalizing s with
  | nil => exact ⟨_, _, _, _, rfl⟩
  | cons m l ih =>
    obtain ⟨o, q, c, w, h⟩ := s.sendSeam_frame m
    obtain ⟨o', q', c', w', h'⟩ := ih (s.sendSeam m)
    exact ⟨o', q', c', w', by rw [List.foldl_cons, h', h]⟩

/-- A message that is sent where nothing has left before. -/
theorem State.sendSeam_sends (s : State) (m : SeamOut) : SeamSent s (s.sendSeam m) m := State.sendSeam_sent m rfl rfl rfl rfl

/-! ## Digests -/

/-- The outcome of the comparison of a group record. -/
def State.cmpOf (s : State) (stamp group : Nat) (r : GroupRec) : Cmp :=
  { stamp := stamp, group := group,
    agreed := (s.ownRec stamp group).hash == r.hash && (s.ownRec stamp group).count == r.count % 4096,
    ownAnom := (s.ownRec stamp group).anom, peerAnom := r.anom }

/-- From s to t only the comparisons, the counts and what is sent change. -/
def Compared (s t : State) : Prop := ∃ r o q c w k, t =
  { s with regs := r, out := o, seam := { s.seam with seq := q, credit := c, waiting := w, cmps := k } }

theorem Compared.refl {s : State} : Compared s s := ⟨_, _, _, _, _, _, rfl⟩

theorem Compared.trans {s t u : State} (h : Compared s t) (k : Compared t u) : Compared s u := by
  obtain ⟨_, _, _, _, _, _, rfl⟩ := h
  obtain ⟨_, _, _, _, _, _, rfl⟩ := k
  exact ⟨_, _, _, _, _, _, rfl⟩

theorem Compared.cmpOf {s t : State} (h : Compared s t) (stamp group : Nat) (r : GroupRec) : t.cmpOf stamp group r = s.cmpOf stamp group r := by
  obtain ⟨_, _, _, _, _, _, rfl⟩ := h
  rfl

/-- The comparison is noted and counted. -/
def State.compared (s : State) (c : Cmp) : State := (s.setSeam { s.seam with cmps := s.seam.cmps ++ [c] }).bump Reg.SEAM_CNT_DIGEST_COUNT

theorem State.compareRec_eq (s : State) (stamp group : Nat) (r : GroupRec) : s.compareRec stamp group r =
    if (s.cmpOf stamp group r).agreed then s.compared (s.cmpOf stamp group r)
    else ((s.compared (s.cmpOf stamp group r)).bump Reg.SEAM_CNT_MISMATCH_COUNT).sendSeams
      ((fours 64 (s.chanRecs stamp group)).map fun l => .chdigest stamp group (body48 (l.map chanWord))) := rfl

theorem State.compareRec_spec (s : State) (stamp group : Nat) (r : GroupRec) : Compared s (s.compareRec stamp group r) ∧
    (s.compareRec stamp group r).seam.cmps = s.seam.cmps ++ [s.cmpOf stamp group r] ∧
    (s.compareRec stamp group r).get Reg.SEAM_CNT_DIGEST_COUNT = min (s.get Reg.SEAM_CNT_DIGEST_COUNT + 1) Reg.SEAM_CNT_DIGEST_COUNT.max := by
  have hcount : (s.compared (s.cmpOf stamp group r)).get Reg.SEAM_CNT_DIGEST_COUNT =
      min (s.get Reg.SEAM_CNT_DIGEST_COUNT + 1) Reg.SEAM_CNT_DIGEST_COUNT.max := State.get_bump_same ..
  rw [State.compareRec_eq]
  split
  · exact ⟨⟨_, _, _, _, _, _, rfl⟩, rfl, hcount⟩
  · obtain ⟨o, q, c, w, h⟩ := ((s.compared (s.cmpOf stamp group r)).bump Reg.SEAM_CNT_MISMATCH_COUNT).sendSeams_frame
      ((fours 64 (s.chanRecs stamp group)).map fun l => .chdigest stamp group (body48 (l.map chanWord)))
    rw [h]
    exact ⟨⟨_, _, _, _, _, _, rfl⟩, rfl, ((Writes.bump Reg.SEAM_CNT_MISMATCH_COUNT 1 0 0).get Reg.SEAM_CNT_DIGEST_COUNT).trans hcount⟩

/-- The group that record i of a digest is about. -/
def recordGroup (f : Flit) (i : Nat) : Nat := (digestGroup f + i) % 16

/-- One final record after another is compared, and counted up to the counter's limit. -/
theorem State.foldl_compareRec (f : Flit) (stamp : Nat) (l : List (GroupRec × Nat)) (s : State) :
    Compared s (l.foldl (fun x e => x.compareRec stamp (recordGroup f e.2) e.1) s) ∧
    (l.foldl (fun x e => x.compareRec stamp (recordGroup f e.2) e.1) s).seam.cmps =
      s.seam.cmps ++ l.map (fun e => s.cmpOf stamp (recordGroup f e.2) e.1) ∧
    (l ≠ [] → (l.foldl (fun x e => x.compareRec stamp (recordGroup f e.2) e.1) s).get Reg.SEAM_CNT_DIGEST_COUNT =
      min (s.get Reg.SEAM_CNT_DIGEST_COUNT + l.length) Reg.SEAM_CNT_DIGEST_COUNT.max) := by
  induction l generalizing s with
  | nil => exact ⟨.refl, (List.append_nil _).symm, fun h => absurd rfl h⟩
  | cons e l ih =>
    rw [List.foldl_cons]
    obtain ⟨hstep, hcmps, hcount⟩ := s.compareRec_spec stamp (recordGroup f e.2) e.1
    obtain ⟨hrest, hall, htotal⟩ := ih (s.compareRec stamp (recordGroup f e.2) e.1)
    refine ⟨hstep.trans hrest, ?_, fun _ => ?_⟩
    · rw [hall, hcmps, List.append_assoc, List.map_cons, List.singleton_append, List.map_congr_left fun x _ => hstep.cmpOf ..]
    · cases l with
      | nil => exact hcount
      | cons a l =>
        rw [htotal (List.cons_ne_nil _ _), hcount]
        simp only [List.length_cons]
        omega

theorem length_groupRecs (f : Flit) : (groupRecs f).zipIdx.length = 4 := by
  rw [List.length_zipIdx]
  unfold groupRecs
  rw [List.length_map, List.length_range]

/-- Records whose stamp is not final yet are kept. -/
theorem State.foldl_pendRecv (f : Flit) (stamp : Tick) (l : List (GroupRec × Nat)) (s : State) :
    l.foldl (fun (x : State) e => x.setSeam { x.seam with pendRecv := x.seam.pendRecv ++ [(stamp, recordGroup f e.2, e.1)] }) s =
      s.setSeam { s.seam with pendRecv := s.seam.pendRecv ++ l.map fun e => (stamp, recordGroup f e.2, e.1) } := by
  induction l generalizing s with
  | nil =>
    rw [List.map_nil, List.append_nil]
    rfl
  | cons e l ih =>
    rw [List.foldl_cons, ih]
    unfold State.setSeam
    dsimp only
    rw [List.append_assoc, List.map_cons, List.singleton_append]

theorem doDigest_final {s : State} {f : Flit} {stamp : Tick} (hpair : s.seam.pair = .paired) (hstamp : stamp = stampOf s.tick.now (stampLo f))
    (hfinal : s.digestFinal stamp = true) :
    doDigest f s = (groupRecs f).zipIdx.foldl (fun x e => x.compareRec stamp (recordGroup f e.2) e.1) s := by
  subst hstamp
  unfold doDigest
  rw [if_neg (not_not_intro hpair)]
  dsimp only
  rw [hfinal]
  rfl

theorem doDigest_early {s : State} {f : Flit} {stamp : Tick} (hpair : s.seam.pair = .paired) (hstamp : stamp = stampOf s.tick.now (stampLo f))
    (hfinal : s.digestFinal stamp = false) : doDigest f s = (groupRecs f).zipIdx.foldl (fun (x : State) e =>
      x.setSeam { x.seam with pendRecv := x.seam.pendRecv ++ [(stamp, recordGroup f e.2, e.1)] }) s := by
  subst hstamp
  unfold doDigest
  rw [if_neg (not_not_intro hpair)]
  dsimp only
  rw [hfinal]
  rfl

/-- The lowest of a slot known before and those of a list. -/
def lowestSlot (o : Option Nat) (l : List Nat) : Option Nat :=
  l.foldl (fun (m : Option Nat) x => some (match m with | some y => min y x | none => x)) o

theorem lowestSlot_le {o : Option Nat} {l : List Nat} {m : Nat} (h : (∃ y, o = some y ∧ y ≤ m) ∨ m ∈ l) : ∃ y, lowestSlot o l = some y ∧ y ≤ m := by
  unfold lowestSlot
  induction l generalizing o with
  | nil => exact h.elim id fun h => (nomatch h)
  | cons x l ih =>
    rw [List.foldl_cons]
    refine ih ?_
    rcases h with ⟨y, rfl, hy⟩ | h
    · exact .inl ⟨_, rfl, (Nat.min_le_left _ _).trans hy⟩
    · rcases List.mem_cons.1 h with rfl | h
      · cases o with
        | none => exact .inl ⟨_, rfl, le_rfl⟩
        | some y => exact .inl ⟨_, rfl, Nat.min_le_right _ _⟩
      · exact .inr h

/-- The slots of a group whose records differ from the device's own. -/
def State.badSlots (s : State) (f : Flit) (stamp : Nat) : List Nat :=
  ((chanRecsOf f).filter fun r => !(s.chanRecs stamp (digestGroup f)).any fun o => o.slot == r.slot && o.hash == r.hash && o.count == r.count % 256).map
    (·.slot)

theorem State.mem_badSlots {s : State} {f : Flit} {stamp : Nat} {r : ChanRec} (hr : r ∈ chanRecsOf f)
    (hdiff : ∀ o ∈ s.chanRecs stamp (digestGroup f), o.slot = r.slot → o.hash ≠ r.hash ∨ o.count ≠ r.count % 256) : r.slot ∈ s.badSlots f stamp := by
  refine List.mem_map.2 ⟨r, List.mem_filter.2 ⟨hr, ?_⟩, rfl⟩
  rw [Bool.not_eq_true', List.any_eq_false]
  intro o ho hsame
  simp only [Bool.and_eq_true, beq_iff_eq] at hsame
  obtain ⟨⟨hslot, hhash⟩, hcount⟩ := hsame
  exact (hdiff o ho hslot).elim (fun h => h hhash) fun h => h hcount

/-- A mismatch recorded in the registers. -/
def State.mismatchShown (s : State) (stamp g slot attrib : Nat) : State :=
  ((((s.put Reg.SEAM_MISMATCH_STAMP stamp).put Reg.SEAM_MISMATCH_GROUP g).put Reg.SEAM_MISMATCH_SLOT slot).put Reg.SEAM_MISMATCH_ATTRIB
    attrib).put Reg.SEAM_MISMATCH_VALID 1

theorem State.mismatchShown_spec (s : State) (stamp g slot attrib : Nat) : (s.mismatchShown stamp g slot attrib).get Reg.SEAM_MISMATCH_STAMP = stamp % 2 ^ 48 ∧
    (s.mismatchShown stamp g slot attrib).get Reg.SEAM_MISMATCH_GROUP = g % 2 ^ 4 ∧
    (s.mismatchShown stamp g slot attrib).get Reg.SEAM_MISMATCH_SLOT = slot % 2 ^ 8 ∧
    (s.mismatchShown stamp g slot attrib).get Reg.SEAM_MISMATCH_ATTRIB = attrib % 2 ^ 2 ∧
    (s.mismatchShown stamp g slot attrib).flag Reg.SEAM_MISMATCH_VALID = true := by
  have h1 := Writes.put (s := ((s.put Reg.SEAM_MISMATCH_STAMP stamp).put Reg.SEAM_MISMATCH_GROUP g).put Reg.SEAM_MISMATCH_SLOT slot)
    Reg.SEAM_MISMATCH_ATTRIB attrib 0 0
  have h2 := Writes.put (s := (((s.put Reg.SEAM_MISMATCH_STAMP stamp).put Reg.SEAM_MISMATCH_GROUP g).put Reg.SEAM_MISMATCH_SLOT slot).put
    Reg.SEAM_MISMATCH_ATTRIB attrib) Reg.SEAM_MISMATCH_VALID 1 0 0
  have h3 := Writes.put (s := (s.put Reg.SEAM_MISMATCH_STAMP stamp).put Reg.SEAM_MISMATCH_GROUP g) Reg.SEAM_MISMATCH_SLOT slot 0 0
  have h4 := Writes.put (s := s.put Reg.SEAM_MISMATCH_STAMP stamp) Reg.SEAM_MISMATCH_GROUP g 0 0
  unfold State.mismatchShown
  refine ⟨?_, ?_, ?_, ?_, State.flag_put_one _ _ _ _ rfl⟩
  · rw [h2.get Reg.SEAM_MISMATCH_STAMP, h1.get Reg.SEAM_MISMATCH_STAMP, h3.get Reg.SEAM_MISMATCH_STAMP, h4.get Reg.SEAM_MISMATCH_STAMP]
    exact State.get_put_same ..
  · rw [h2.get Reg.SEAM_MISMATCH_GROUP, h1.get Reg.SEAM_MISMATCH_GROUP, h3.get Reg.SEAM_MISMATCH_GROUP]
    exact State.get_put_same ..
  · rw [h2.get Reg.SEAM_MISMATCH_SLOT, h1.get Reg.SEAM_MISMATCH_SLOT]
    exact State.get_put_same ..
  · rw [h2.get Reg.SEAM_MISMATCH_ATTRIB]
    exact State.get_put_same ..

theorem doChdigest_none {s : State} {f : Flit} (h : (s.seam.cmps.find? fun c =>
    c.stamp == stampOf s.tick.now (stampLo f) && c.group == digestGroup f && !c.agreed) = none) : doChdigest f s = s := by
  unfold doChdigest
  dsimp only
  rw [h]

theorem doChdigest_some {s : State} {f : Flit} {c : Cmp} (h : (s.seam.cmps.find? fun c =>
    c.stamp == stampOf s.tick.now (stampLo f) && c.group == digestGroup f && !c.agreed) = some c) : ∃ u : State, doChdigest f s =
      (u.mismatchShown (stampOf s.tick.now (stampLo f)) (digestGroup f)
        ((lowestSlot c.worst (s.badSlots f (stampOf s.tick.now (stampLo f)))).getD 0) (attribOf c.ownAnom c.peerAnom)).raiseEp Ev.SEAM_MISMATCH := by
  unfold doChdigest
  dsimp only
  rw [h]
  exact ⟨_, rfl⟩

/-- Settles O44, by the fold over the records of a DIGEST, final or early, and by the mismatch that a CHDIGEST finds. -/
theorem digestsAreCompared : Obligations.DigestsAreCompared := by
  unfold Obligations.DigestsAreCompared
  refine ⟨fun s f stamp hstamp => ⟨fun hpair => ?_, fun hpair => congrArg Host.Outcome.next (if_pos hpair)⟩, fun s f stamp hstamp => ?_⟩
  · cases hfinal : s.digestFinal stamp with
    | true =>
      obtain ⟨-, hcmps, hcount⟩ := State.foldl_compareRec f stamp (groupRecs f).zipIdx s
      have hlen := length_groupRecs f
      rw [hlen] at hcount
      exact ⟨_, congrArg Host.Outcome.next (doDigest_final hpair hstamp hfinal), fun _ => ⟨hcmps, hcount fun h => by simp [h] at hlen⟩, fun h => (nomatch h)⟩
    | false =>
      have hexec := (doDigest_early hpair hstamp hfinal).trans (State.foldl_pendRecv f stamp (groupRecs f).zipIdx s)
      exact ⟨_, congrArg Host.Outcome.next hexec, fun h => (nomatch h), fun _ => ⟨rfl, rfl⟩⟩
  · extract_lets found
    subst hstamp
    obtain ⟨o, l, hgot⟩ := s.seamGot_frame 1
    refine ⟨fun c hc => ?_, fun hnone => ?_⟩
    · obtain ⟨u, hexec⟩ := doChdigest_some (s := s.seamGot 1) (f := f) (c := c) (by rw [hgot]; exact hc)
      rw [show (s.seamGot 1).badSlots f (stampOf (s.seamGot 1).tick.now (stampLo f)) = s.badSlots f (stampOf s.tick.now (stampLo f)) by
        rw [hgot]; rfl, show (s.seamGot 1).tick.now = s.tick.now by rw [hgot]] at hexec
      have hshown := u.mismatchShown_spec (stampOf s.tick.now (stampLo f)) (digestGroup f)
        ((lowestSlot c.worst (s.badSlots f (stampOf s.tick.now (stampLo f)))).getD 0) (attribOf c.ownAnom c.peerAnom)
      generalize u.mismatchShown (stampOf s.tick.now (stampLo f)) (digestGroup f)
        ((lowestSlot c.worst (s.badSlots f (stampOf s.tick.now (stampLo f)))).getD 0) (attribOf c.ownAnom c.peerAnom) = v at hexec hshown
      obtain ⟨h1, h2, h3, h4, h5⟩ := hshown
      have hraise : Writes [] v (v.raiseEp Ev.SEAM_MISMATCH) := .raiseEp _ _
      refine ⟨_, congrArg Host.Outcome.next hexec, (hraise.get Reg.SEAM_MISMATCH_STAMP).trans h1, ?_, ?_, (hraise.flag Reg.SEAM_MISMATCH_VALID).trans h5,
        fun r hr hdiff => ?_⟩
      · rw [hraise.get Reg.SEAM_MISMATCH_GROUP, h2]
        exact Nat.mod_eq_of_lt (bits_lt f 35 32)
      · rw [hraise.get Reg.SEAM_MISMATCH_ATTRIB, h4]
        refine Nat.mod_eq_of_lt ?_
        unfold attribOf
        split
        · decide
        · split <;> decide
      · obtain ⟨y, hy, hle⟩ := lowestSlot_le (o := c.worst) (.inr (State.mem_badSlots hr hdiff))
        rw [hraise.get Reg.SEAM_MISMATCH_SLOT, h3, hy]
        exact (Nat.mod_le _ _).trans hle
    · exact congrArg Host.Outcome.next (doChdigest_none (by rw [hgot]; exact hnone))

/-! ## Edit locks -/

/-- The group that a lock request of the twin makes. -/
def State.twinGroup (s : State) (t num f : Nat) : Group :=
  { num := num, tbl := t, func := f, lease := 0, leaseAt := s.clock, mirrored := true, fromPeer := true }

/-- The device with a group of its own given up and the answers waited for forgotten. -/
def State.lockDropped (s : State) (t num : Nat) : State :=
  (s.setGroups (s.groups.filter fun g => !(g.tbl == t && g.num == num && !g.fromPeer))).setSeam { s.seam with lockWait := [] }

theorem State.lockRefused_frame (s : State) (t num : Nat) : (∃ h, s.lockRefused t num = { s.lockDropped t num with host := h }) ∧
    ∀ c, s.host.engine = some c → s.host.mirror = some lockWaits → s.lockRefused t num = (s.lockDropped t num).finish c Sts.LOCKED := by
  constructor
  · unfold State.lockRefused
    dsimp only
    split
    · split <;> exact ⟨_, rfl⟩
    · exact ⟨_, rfl⟩
  · intro c hengine hmirror
    unfold State.lockRefused
    extract_lets _ u
    rw [show u.host.engine = some c from hengine]
    exact if_pos hmirror

theorem State.seam_lockRefused (s : State) (t num : Nat) :
    (s.lockRefused t num).seam.credit = s.seam.credit ∧ (s.lockRefused t num).seam.waiting = s.seam.waiting ∧
    (s.lockRefused t num).seam.seq = s.seam.seq ∧ (s.lockRefused t num).out = s.out := by
  obtain ⟨⟨h, hframe⟩, -⟩ := s.lockRefused_frame t num
  rw [hframe]
  exact ⟨rfl, rfl, rfl, rfl⟩

theorem State.mem_lockDropped {s : State} {t num : Nat} {g : Group} (h : g ∈ (s.lockDropped t num).groups) :
    ¬ (g.tbl = t ∧ g.num = num ∧ g.fromPeer = false) := by
  rintro ⟨h1, h2, h3⟩
  have hout := (List.mem_filter.1 h).2
  simp [h1, h2, h3] at hout

theorem State.host_sendSeam (s : State) (m : SeamOut) : (s.sendSeam m).host = s.host := by
  obtain ⟨_, _, _, _, h⟩ := s.sendSeam_frame m
  rw [h]

theorem State.groups_sendSeam (s : State) (m : SeamOut) : (s.sendSeam m).groups = s.groups := by
  obtain ⟨_, _, _, _, h⟩ := s.sendSeam_frame m
  rw [h]

theorem doLockReq_free {s : State} {n : Fin 64} (g : BitVec 16) (f : Fin 16) (hpair : s.seam.pair = .paired)
    (hnone : (s.seam.lockWait.find? fun e => e.1 == n.val) = none) : doLockReq n g f s =
      if s.tableLocked n.val = true ∨ (s.liveTable n.val).isNone = true then s.sendSeam (.lockAns n.val false)
      else (s.setGroups (s.groups ++ [s.twinGroup n.val g.toNat f.val])).sendSeam (.lockAns n.val true) := by
  unfold doLockReq
  rw [if_neg (not_not_intro hpair), hnone]
  rfl

theorem doLockReq_contended {s : State} {n : Fin 64} {e : Nat × Nat} (g : BitVec 16) (f : Fin 16) (hpair : s.seam.pair = .paired)
    (hsome : (s.seam.lockWait.find? fun e => e.1 == n.val) = some e) : doLockReq n g f s =
      if s.seam.role = 1 then s.sendSeam (.lockAns n.val false)
      else ((s.lockRefused n.val e.2).peerGroup n.val g.toNat f.val).sendSeam (.lockAns n.val true) := by
  unfold doLockReq
  rw [if_neg (not_not_intro hpair), hsome]

theorem doLockAns_none {s : State} {n : Fin 64} (grant : Bool) (hnone : (s.seam.lockWait.find? fun e => e.1 == n.val) = none) :
    doLockAns n grant s = s := by
  unfold doLockAns
  rw [hnone]

theorem doLockAns_some {s : State} {n : Fin 64} {e : Nat × Nat} {c : Cmd} (grant : Bool)
    (hsome : (s.seam.lockWait.find? fun e => e.1 == n.val) = some e) (hengine : s.host.engine = some c) (hmirror : s.host.mirror = some lockWaits) :
    doLockAns n grant s = if grant then (s.setSeam { s.seam with lockWait := [] }).finish c Sts.SUCCESS e.2
      else (s.lockDropped n.val e.2).finish c Sts.LOCKED := by
  unfold doLockAns
  rw [hsome]
  cases grant with
  | false => exact (s.lockRefused_frame n.val e.2).2 c hengine hmirror
  | true =>
    dsimp only
    rw [if_neg Bool.noConfusion, show (s.setSeam { s.seam with lockWait := [] }).host.engine = some c from hengine]
    exact if_pos hmirror

/-! ## Detach and release -/

theorem State.detachSoon_paired {s : State} (cause : Nat) (hpair : s.seam.pair = .source ∨ s.seam.pair = .target ∨ s.seam.pair = .paired)
    (hdue : s.seam.detachDue = none) : s.detachSoon cause = s.setSeam { s.seam with detachDue := some cause } := by
  unfold State.detachSoon
  rcases hpair with h | h | h
  · rw [h]
    exact if_neg (by simp [hdue])
  · rw [h]
    exact if_neg (by simp [hdue])
  · rw [h]
    exact if_neg (by simp [hdue])

theorem doSeamReleaseWrite_changed {s : State} {rel : Bool} {v : BitVec 5} {n : Nat}
    (hn : n = (if 2 ≤ v.toNat ∧ v.toNat ≤ 16 then v.toNat else s.get Reg.SEAM_CTRL_S))
    (hnew : rel ≠ s.flag Reg.SEAM_CTRL_RELEASE ∨ n ≠ s.get Reg.SEAM_CTRL_S) : doSeamReleaseWrite rel v s =
      if s.seam.pair = .paired then s.startMirror (.release rel (BitVec.ofNat 5 n)) 0 none
      else s.addRetime fun r => { r with release := some rel, settle := some n } := by
  subst hn
  exact if_neg fun h => hnew.elim (fun hne => hne h.1) fun hne => hne h.2.1

theorem doSeamReleaseWrite_held {s : State} {rel : Bool} {v : BitVec 5}
    (hrel : rel = s.flag Reg.SEAM_CTRL_RELEASE) (hn : (if 2 ≤ v.toNat ∧ v.toNat ≤ 16 then v.toNat else s.get Reg.SEAM_CTRL_S) = s.get Reg.SEAM_CTRL_S)
    (hidle : s.tick.retime = none) : doSeamReleaseWrite rel v s = s := if_pos ⟨hrel, hn, by rw [hidle]; rfl⟩

/-- Settles O46, message by message, by whether the table is free, contended or absent. -/
theorem locksDetachAndRelease : Obligations.LocksDetachAndRelease := by
  unfold Obligations.LocksDetachAndRelease
  refine ⟨fun s n g f new hnew => ⟨fun hpair hnone => ?_, fun e hpair hsome => ?_, fun hpair => ?_⟩, fun s n grant => ⟨fun e c hsome hengine hmirror => ?_,
    fun hnone => ?_⟩, fun s hpair hdue => ⟨?_, fun hmissed => ?_, fun hm => ?_⟩, fun s => ⟨fun hmissed => ?_, fun hm => ⟨?_, fun rel v => ?_⟩⟩,
    fun s rel v n hm hn => ⟨fun hchange => ?_, fun hrel hsame hidle => ?_⟩, fun s f => ⟨fun hkind hup => ?_, fun hskip => ?_⟩⟩
  · obtain ⟨o, l, hgot⟩ := s.seamGot_frame 1
    have hexec := doLockReq_free (s := s.seamGot 1) (n := n) g f (by rw [hgot]; exact hpair) (by rw [hgot]; exact hnone)
    have hlocked : (s.seamGot 1).tableLocked n.val = s.tableLocked n.val := by rw [hgot]; rfl
    have hlive : (s.seamGot 1).liveTable n.val = s.liveTable n.val := by rw [hgot]; rfl
    have hgroups : (s.seamGot 1).groups = s.groups := by rw [hgot]
    have hclock : (s.seamGot 1).clock = s.clock := by rw [hgot]
    rw [hlocked, hlive] at hexec
    refine ⟨_, congrArg Host.Outcome.next hexec, fun hfree halive => ?_, fun hbusy => ?_⟩
    · rw [if_neg (by simp [hfree, Option.isSome_iff_ne_none.1 halive]), State.groups_sendSeam]
      refine ⟨?_, State.sendSeam_sent _ rfl rfl rfl rfl⟩
      rw [hnew, ← hclock, ← hgroups]
      rfl
    · rw [if_pos (hbusy.imp_right Option.isNone_iff_eq_none.2), State.groups_sendSeam]
      exact ⟨hgroups, State.sendSeam_sends _ _⟩
  · obtain ⟨o, l, hgot⟩ := s.seamGot_frame 1
    have hexec := doLockReq_contended (s := s.seamGot 1) (n := n) (e := e) g f (by rw [hgot]; exact hpair) (by rw [hgot]; exact hsome)
    rw [show (s.seamGot 1).seam.role = s.seam.role by rw [hgot]] at hexec
    refine ⟨_, congrArg Host.Outcome.next hexec, fun hlead => ?_, fun hfollow => ?_⟩
    · rw [if_pos hlead, State.groups_sendSeam]
      exact ⟨by rw [hgot], State.sendSeam_sends _ _⟩
    · rw [if_neg hfollow, State.groups_sendSeam]
      obtain ⟨⟨h, hframe⟩, hfinish⟩ := (s.seamGot 1).lockRefused_frame n.val e.2
      refine ⟨?_, fun x hx => ?_, ?_, fun c hengine hmirror => ?_⟩
      · rw [hframe, hnew, ← (by rw [hgot] : (s.seamGot 1).clock = s.clock)]
        exact List.mem_append_right _ (List.mem_singleton.2 rfl)
      · rw [hframe] at hx
        rcases List.mem_append.1 hx with hx | hx
        · exact State.mem_lockDropped hx
        · rw [List.mem_singleton.1 hx]
          exact fun h => Bool.noConfusion h.2.2
      · obtain ⟨hcredit, hwaiting, hseq, hout⟩ := (s.seamGot 1).seam_lockRefused n.val e.2
        exact State.sendSeam_sent (t := ((s.seamGot 1).lockRefused n.val e.2).peerGroup n.val g.toNat f.val) _ hcredit hwaiting hseq hout
      · rw [hfinish c (by rw [hgot]; exact hengine) (by rw [hgot]; exact hmirror)]
        unfold State.owes
        rw [State.host_sendSeam]
        exact State.owes_finish ((s.seamGot 1).lockDropped n.val e.2) c Sts.LOCKED 0
  · obtain ⟨o, l, hgot⟩ := s.seamGot_frame 1
    exact congrArg Host.Outcome.next (if_pos (by rw [hgot]; exact hpair))
  · obtain ⟨o, l, hgot⟩ := s.seamGot_frame 1
    have hexec := doLockAns_some (s := s.seamGot 1) (n := n) (e := e) (c := c) grant (by rw [hgot]; exact hsome) (by rw [hgot]; exact hengine)
      (by rw [hgot]; exact hmirror)
    cases grant with
    | true =>
      refine ⟨_, congrArg Host.Outcome.next (hexec.trans (if_pos rfl)), rfl, State.owes_finish .., ?_⟩
      rw [hgot]
      rfl
    | false =>
      have hrefused : doLockAns n false (s.seamGot 1) = ((s.seamGot 1).lockDropped n.val e.2).finish c Sts.LOCKED := hexec.trans (if_neg Bool.false_ne_true)
      refine ⟨_, congrArg Host.Outcome.next hrefused, rfl, ?_⟩
      rw [if_neg Bool.false_ne_true]
      exact ⟨State.owes_finish .., fun x hx => State.mem_lockDropped (s := s.seamGot 1) (t := n.val) (num := e.2) hx⟩
  · obtain ⟨o, l, hgot⟩ := s.seamGot_frame 1
    exact congrArg Host.Outcome.next (doLockAns_none grant (by rw [hgot]; exact hnone))
  · obtain ⟨o, l, hgot⟩ := s.seamGot_frame 1
    exact congrArg Host.Outcome.next (State.detachSoon_paired 3 (by rw [hgot]; exact hpair) (by rw [hgot]; exact hdue))
  · exact congrArg Host.Outcome.next ((if_pos hmissed).trans (State.detachSoon_paired 2 hpair hdue))
  · have hbye : s.touchIdle.sayBye = s.touchIdle.sendSeam .bye := if_neg (by rcases hpair with h | h | h <;> simp [State.touchIdle, h])
    obtain ⟨o, q, c, w, hframe⟩ := s.touchIdle.sendSeam_frame .bye
    have hdetach := State.detachSoon_paired (s := s.touchIdle.sendSeam .bye) 5 (by rw [hframe]; exact hpair) (by rw [hframe]; exact hdue)
    refine ⟨_, congrArg Host.Outcome.next ((if_pos hm).trans ((congrArg (State.detachSoon · 5) hbye).trans hdetach)), ?_, rfl, ?_⟩
    · exact SeamSent.congr (State.sendSeam_sent (s := s) (t := s.touchIdle) .bye rfl rfl rfl rfl) rfl rfl
    · rw [hframe]
      rfl
  · exact congrArg Host.Outcome.next (if_neg (Nat.not_le.2 hmissed))
  · exact congrArg Host.Outcome.next (if_neg hm)
  · exact congrArg Host.Outcome.next (if_neg hm)
  · have hexec := (if_pos hm : s.onService (doSeamReleaseWrite rel v) = _).trans (doSeamReleaseWrite_changed (s := s.touchIdle) hn hchange)
    refine ⟨_, congrArg Host.Outcome.next hexec, fun hpair => ?_, fun hpair => ?_⟩
    · rw [if_neg (show ¬ s.touchIdle.seam.pair = .paired from hpair), State.tick_addRetime]
      exact ⟨_, rfl, rfl, rfl⟩
    · rw [if_pos (show s.touchIdle.seam.pair = .paired from hpair)]
      unfold State.startMirror
      extract_lets m _ t
      obtain ⟨o, q, c, w, hframe⟩ := t.sendSeam_frame (.mirror m.id (.release rel (BitVec.ofNat 5 n)) none)
      refine ⟨?_, State.sendSeam_sent _ rfl rfl rfl rfl⟩
      rw [hframe]
      rfl
  · exact congrArg Host.Outcome.next ((if_pos hm).trans (doSeamReleaseWrite_held (s := s.touchIdle) hrel (hn.symm.trans hsame) hidle))
  · obtain ⟨o, l, hgot⟩ := s.seamGot_frame (bits f 10 8 + 1)
    refine ⟨_, congrArg Host.Outcome.next (if_neg (by simp only [hkind, hup]; simp)), ?_, rfl⟩
    refine (State.get_bump_same ..).trans ?_
    rw [hgot]
    rfl
  · exact congrArg Host.Outcome.next (if_pos hskip)

end Sys2Proof.Machine
end

section
/-! PROOFS. Dormancy and wake (O49). -/

namespace Sys2Proof.Machine

set_option Elab.async false

theorem doDormancyGating_ready {s : State} (cal : List CabCal) (hm : s.mode = .service) (hphase : s.dorm.phase = .entering) (hdrained : s.drained = true)
    (haway : s.putAway.isPutAway = true) : doDormancyGating cal s = match s.dorm.latched with
      | none => s.putAway.sayGoodbye.gated
      | some w => s.putAway.sayGoodbye.gated.wake w true 0 cal := by
  unfold doDormancyGating
  rw [if_pos ⟨hm, hphase, hdrained⟩]
  exact if_pos haway

theorem doDormancyGating_waits {s : State} (cal : List CabCal) (hm : s.mode = .service) (hphase : s.dorm.phase = .entering) (hdrained : s.drained = true)
    (haway : s.putAway.isPutAway = false) : doDormancyGating cal s = s.putAway := by
  unfold doDormancyGating
  rw [if_pos ⟨hm, hphase, hdrained⟩]
  exact if_neg (by simp [haway])

/-- What a wake starts from: a power-on reset that keeps LAST_WAKE, with the wake flag set and the TAP reset. -/
def State.woken (s : State) (w : WakeSeen) (race : Bool) (dormantS : Nat) : State :=
  State.put { (s.setDorm { s.dorm with aon := s.dorm.aon.next w race dormantS }).wiped true with tap := {} } Reg.BOOT_STATUS_WAKE 1

theorem State.wake_eq (s : State) (w : WakeSeen) (race : Bool) (dormantS : Nat) (cal : List CabCal) :
    s.wake w race dormantS cal = (s.woken w race dormantS).startSeq cal := rfl

theorem State.aon_gated (s : State) : s.gated.dorm.aon = s.dorm.aon := by
  have hdorm : (s.keepArmed (s.wiped true)).dorm = { aon := s.dorm.aon } := (State.keepArmed_within.same .dorm).symm.trans (s.dorm_wiped true)
  show (s.keepArmed (s.wiped true)).dorm.aon = _
  rw [hdorm]

/-- The parts of a gated device that nothing keeps. -/
theorem State.gated_empty (s : State) : s.gated.mode = .dormant ∧ s.gated.chans = [] ∧ s.gated.ports = [] ∧ s.gated.planned = [] ∧ s.gated.groups = [] ∧
    s.gated.wrd.ways = [] ∧ s.gated.wrd.staging = [] ∧ s.gated.host = {} ∧ s.gated.seam = {} :=
  ⟨rfl, rfl, rfl, rfl, rfl, rfl, rfl, rfl, rfl⟩

/-- Settles O49, by the phase of dormancy, and by what a gated device has lost. -/
theorem dormancyAndWake : Obligations.DormancyAndWake := by
  unfold Obligations.DormancyAndWake
  refine ⟨fun s => ⟨fun h => ?_, fun h => ?_⟩, fun s cal hm hphase hdrained => ⟨fun haway => ?_, fun haway => ?_⟩, fun s cal h => ?_,
    fun s w dormantS cal hm hfires => ?_, fun s w dormantS cal => ⟨fun hm hphase hlatched hfires => ?_, fun h => ?_⟩⟩
  · exact congrArg Host.Outcome.next (if_pos h)
  · exact congrArg Host.Outcome.next (if_neg (by simp [h]))
  · exact congrArg Host.Outcome.next (doDormancyGating_waits cal hm hphase hdrained haway)
  · have haon : s.putAway.sayGoodbye.dorm = s.dorm := (State.sayGoodbye_within.same .dorm).symm.trans (State.putAway_within.same .dorm).symm
    have hfuses : s.putAway.sayGoodbye.gated.fuses = s.fuses :=
      ((State.gated_within.same .fuses).symm.trans (State.sayGoodbye_within.same .fuses).symm).trans (State.putAway_within.same .fuses).symm
    obtain ⟨hmode, hchans, hports, hplanned, hgroups, hways, hstaging, hhost, hseam⟩ := s.putAway.sayGoodbye.gated_empty
    have hgated := s.putAway.sayGoodbye.aon_gated
    exact ⟨_, congrArg Host.Outcome.next (doDormancyGating_ready cal hm hphase hdrained haway), hmode, hfuses, hchans, hports, hplanned, hgroups,
      hways, hstaging, hhost, hseam, hgated.trans (congrArg Dorm.aon haon)⟩
  · refine congrArg Host.Outcome.next (if_neg ?_)
    rintro ⟨hm, hphase, hdrained⟩
    rcases h with h | h | h
    · exact h hm
    · exact h hphase
    · exact Bool.noConfusion (h.symm.trans hdrained)
  · have hexec : doWakeDetect w dormantS cal s = (s.woken (s.armed w) false dormantS).startSeq cal :=
      (if_neg (by simp [hfires])).trans (if_pos hm)
    have haon : (s.woken (s.armed w) false dormantS).dorm.aon = s.dorm.aon.next (s.armed w) false dormantS :=
      congrArg Dorm.aon ((s.setDorm { s.dorm with aon := s.dorm.aon.next (s.armed w) false dormantS }).dorm_wiped true)
    exact ⟨_, congrArg Host.Outcome.next hexec, rfl, rfl, haon, State.get_put_of_lt _ _ _ _ _ (by decide)⟩
  · have hexec : doWakeDetect w dormantS cal s = s.setDorm { s.dorm with latched := some (s.armed w) } :=
      (if_neg (by simp [hfires])).trans ((if_neg hm).trans (if_pos ⟨hphase, by rw [hlatched]; rfl⟩))
    exact congrArg Host.Outcome.next hexec
  · refine congrArg Host.Outcome.next ?_
    unfold doWakeDetect
    dsimp only
    split
    · rfl
    case isFalse hfires =>
      obtain ⟨hm, hstay⟩ := h.resolve_left hfires
      rw [if_neg hm]
      refine if_neg ?_
      rintro ⟨hphase, hlatched⟩
      exact hstay.elim (fun h => hphase h) fun h => h (Option.isNone_iff_eq_none.1 hlatched)

end Sys2Proof.Machine
end

section
/-! PROOFS. The command rings (O51). -/

namespace Sys2Proof.Machine

set_option Elab.async false

/-! ## Ring slots -/

/-- The first bytes of a ring slot hold the opcode and the CID. -/
theorem leNat_slot_head (op : BitVec 8) (cid : BitVec 16) :
    leBytes 1 op.toNat ++ leBytes 1 0 ++ leBytes 2 cid.toNat ++ leBytes 4 0 = leBytes 8 (op.toNat + cid.toNat * 2 ^ 16) := by
  have hop := op.isLt
  have hcid := cid.isLt
  have h1 : (op.toNat + cid.toNat * 2 ^ 16) / 256 = cid.toNat * 2 ^ 8 := by omega
  have h2 : cid.toNat * 2 ^ 8 / 256 = cid.toNat := by omega
  have h3 : cid.toNat / 256 / 256 = 0 := by omega
  have h4 : (op.toNat + cid.toNat * 2 ^ 16) % 256 = op.toNat % 256 := by omega
  have h5 : cid.toNat * 2 ^ 8 % 256 = 0 := by omega
  simp only [leBytes, h1, h2, h3, List.cons_append, List.nil_append]
  refine congrArg₂ List.cons (BitVec.eq_of_toNat_eq ?_) (congrArg₂ List.cons (BitVec.eq_of_toNat_eq ?_) rfl)
  · rw [BitVec.toNat_ofNat, BitVec.toNat_ofNat, h4]
  · rw [BitVec.toNat_ofNat, BitVec.toNat_ofNat, h5]

theorem slotOf_leBytes (op : BitVec 8) (cid : BitVec 16) (p0 p1 : BitVec 64) :
    slotOf (leBytes 1 op.toNat ++ leBytes 1 0 ++ leBytes 2 cid.toNat ++ leBytes 4 0 ++ leBytes 8 p0.toNat ++ leBytes 8 p1.toNat ++ leBytes 40 0) =
      { opcode := op, cid := cid, p0 := p0, p1 := p1, rsvd := false } := by
  have hop := op.isLt
  have hcid := cid.isLt
  rw [leNat_slot_head]
  set b := leBytes 8 (op.toNat + cid.toNat * 2 ^ 16) ++ leBytes 8 p0.toNat ++ leBytes 8 p1.toNat ++ leBytes 40 0 with hb
  have hw : leAt b 0 8 = op.toNat + cid.toNat * 2 ^ 16 := by
    rw [hb, List.append_assoc, List.append_assoc]
    exact leAt_append [] _ rfl (by omega)
  have h0 : leAt b 8 8 = p0.toNat := by
    rw [hb, List.append_assoc, List.append_assoc]
    exact leAt_append _ _ (length_leBytes 8 _) p0.isLt
  have h1 : leAt b 16 8 = p1.toNat := by
    rw [hb, List.append_assoc]
    exact leAt_append _ _ (by rw [List.length_append, length_leBytes, length_leBytes]) p1.isLt
  have hz : leAt b 24 40 = 0 := by
    have hzero := leAt_append (leBytes 8 (op.toNat + cid.toNat * 2 ^ 16) ++ leBytes 8 p0.toNat ++ leBytes 8 p1.toNat) [] (n := 40) (v := 0) (o := 24)
      (by rw [List.length_append, List.length_append, length_leBytes, length_leBytes, length_leBytes]) (by decide)
    rw [List.append_nil] at hzero
    exact hzero
  have hword : (BitVec.ofNat 64 (op.toNat + cid.toNat * 2 ^ 16)).toNat = op.toNat + cid.toNat * 2 ^ 16 := by
    rw [BitVec.toNat_ofNat]
    omega
  have hopcode : bits (BitVec.ofNat 64 (op.toNat + cid.toNat * 2 ^ 16)) 7 0 = op.toNat := by
    rw [bits, hword, Nat.shiftRight_eq_div_pow]
    omega
  have hcidbits : bits (BitVec.ofNat 64 (op.toNat + cid.toNat * 2 ^ 16)) 31 16 = cid.toNat := by
    rw [bits, hword, Nat.shiftRight_eq_div_pow]
    omega
  have hlow : bits (BitVec.ofNat 64 (op.toNat + cid.toNat * 2 ^ 16)) 15 8 = 0 := by
    rw [bits, hword, Nat.shiftRight_eq_div_pow]
    omega
  have hhigh : bits (BitVec.ofNat 64 (op.toNat + cid.toNat * 2 ^ 16)) 63 32 = 0 := by
    rw [bits, hword, Nat.shiftRight_eq_div_pow]
    omega
  unfold slotOf
  dsimp only
  rw [hw, h0, h1, hz, hopcode, hcidbits, hlow, hhigh, BitVec.ofNat_toNat, BitVec.ofNat_toNat, BitVec.ofNat_toNat, BitVec.ofNat_toNat,
    BitVec.setWidth_eq, BitVec.setWidth_eq, BitVec.setWidth_eq, BitVec.setWidth_eq]
  rfl

/-! ## The registers of the rings -/

/-- From s to t no field of the host interface's register block changes but those at the places listed. -/
def WritesQue (ks : List Nat) (s t : State) : Prop :=
  ∀ (F : Field) (i j : Nat), 8 * 0x160000 ≤ F.key i j → F.key i j ∉ ks → t.get F i j = s.get F i j

namespace WritesQue

variable {ks ls : List Nat} {s t u : State}

theorem refl : WritesQue ks s s := fun _ _ _ _ _ => rfl

theorem trans (h : WritesQue ks s t) (k : WritesQue ks t u) : WritesQue ks s u := fun F i j hb hk => (k F i j hb hk).trans (h F i j hb hk)

theorem ite {c : Prop} [Decidable c] (h : WritesQue ks s t) (k : WritesQue ks s u) : WritesQue ks s (if c then t else u) := by
  split
  · exact h
  · exact k

theorem of_regs (h : s.regs = t.regs) : WritesQue ks s t := fun F i j _ _ => by
  unfold State.get
  rw [h]

theorem of_within {w : List Part} (h : Within w s t) (hw : Part.regs ∉ w := by decide) : WritesQue ks s t := of_regs (h.same .regs hw)

theorem put (F : Field) (v i j : Nat) (h : F.key i j ∈ ks) : WritesQue ks s (s.put F v i j) := fun G a b _ hk =>
  State.get_put_ne s F G v i j a b fun he => hk (he ▸ h)

/-- A field of another register block. -/
theorem put_low (F : Field) (v i j : Nat) (h : F.key i j < 8 * 0x160000) : WritesQue ks s (s.put F v i j) := fun G a b hb _ =>
  State.get_put_ne s F G v i j a b (by omega)

theorem raise (n : Nat) (hn : n < 1024) : WritesQue ks s (s.raise n) := fun F i j hb _ => by
  have below : ∀ (G : Field) (k : Nat), G.key k < 8 * 0x160000 → G.key k ≠ F.key i j := fun G k hG => by omega
  have hpend : Reg.EVT_SRC_PEND.key n < 8 * 0x160000 := by
    simp only [Field.key, Reg.EVT_SRC_PEND]
    omega
  have hcount : Reg.EVT_SRC_COUNT.key n < 8 * 0x160000 := by
    simp only [Field.key, Reg.EVT_SRC_COUNT]
    omega
  unfold State.raise
  split
  · rw [State.get_deliver s n false F i j (below _ n hpend) (below _ 0 (by decide)) (below _ 0 (by decide)) (below _ 0 (by decide))]
    exact s.get_bump_ne _ F 1 n 0 i j (below _ n hcount)
  all_goals rfl

theorem raiseEp (n key : Nat) (hn : n < 1024) : WritesQue ks s (s.raiseEp n key) := by
  unfold State.raiseEp
  have hnoted : WritesQue ks s { s with host := { s.host with episodes := fput s.host.episodes (n + 1024 * key) s.tick.now } } := of_regs rfl
  exact ite hnoted (hnoted.trans (raise n hn))

theorem foldl {α : Type} {f : State → α → State} (hf : ∀ t a, WritesQue ks t (f t a)) {l : List α} {s : State} : WritesQue ks s (l.foldl f s) := by
  induction l generalizing s with
  | nil => exact refl
  | cons a l ih => exact (hf s a).trans ih

end WritesQue

/-- The fields of a function's rings lie side by side, 4,096 bytes to a function. -/
def Field.ring (F : Field) : Bool :=
  decide (8 * 0x160000 ≤ 8 * F.base + F.lo) && decide (8 * F.base + F.lo < 8 * 0x160000 + 32768) && F.st1 == 32768

theorem Field.ring_iff (F : Field) : F.ring = true ↔
    (8 * 0x160000 ≤ 8 * F.base + F.lo ∧ 8 * F.base + F.lo < 8 * 0x160000 + 32768) ∧ F.st1 = 32768 := by
  simp only [Field.ring, Bool.and_eq_true, decide_eq_true_eq, beq_iff_eq]

/-- Two fields of rings share a place only where they are one field of one function. -/
theorem Field.ring_ne {F G : Field} (hF : F.ring = true) (hG : G.ring = true) {i j : Nat} (h : 8 * F.base + F.lo ≠ 8 * G.base + G.lo) : F.key i ≠ G.key j := by
  obtain ⟨⟨hF1, hF2⟩, hF3⟩ := F.ring_iff.1 hF
  obtain ⟨⟨hG1, hG2⟩, hG3⟩ := G.ring_iff.1 hG
  unfold Field.key
  rw [hF3, hG3]
  omega

theorem Field.ring_bound {F : Field} (hF : F.ring = true) (i : Nat) : 8 * 0x160000 ≤ F.key i := by
  obtain ⟨⟨hF1, -⟩, -⟩ := F.ring_iff.1 hF
  unfold Field.key
  omega

/-- A field of a ring reads the same after a write of another one. -/
theorem State.get_put_ring (s : State) (F G : Field) (v i j : Nat) (hF : F.ring = true := by decide) (hG : G.ring = true := by decide)
    (h : 8 * F.base + F.lo ≠ 8 * G.base + G.lo := by decide) : (s.put F v i).get G j = s.get G j :=
  State.get_put_ne s F G v i 0 j 0 (Field.ring_ne hF hG h)

/-! ## Posting commands -/

theorem State.fetchedOf_setFetched (s : State) (f : Nat) (l : List (Nat × CmdSlot)) : (s.setFetched f l).fetchedOf f = l := fgetD_fset_same ..

/-- Slots fetched go behind those that wait, and HEAD passes them. -/
theorem State.fetchSlots_spec (f : Nat) (l : List CmdSlot) (s : State) (hhead : s.get Reg.QUE_CMD_HEAD_HEAD f < s.ringSize f)
    (hsize : s.ringSize f ≤ 4096) : ((s.fetchSlots f l).fetchedOf f).map (·.2) = (s.fetchedOf f).map (·.2) ++ l ∧
    (s.fetchSlots f l).get Reg.QUE_CMD_HEAD_HEAD f = (s.get Reg.QUE_CMD_HEAD_HEAD f + l.length) % s.ringSize f ∧
    (s.fetchSlots f l).get Reg.QUE_CMD_TAIL_TAIL f = s.get Reg.QUE_CMD_TAIL_TAIL f := by
  induction l generalizing s with
  | nil =>
    refine ⟨(List.append_nil _).symm, ?_, rfl⟩
    exact (Nat.mod_eq_of_lt hhead).symm
  | cons c l ih =>
    unfold State.fetchSlots
    extract_lets h t
    set u := t.put Reg.QUE_CMD_HEAD_HEAD ((h + 1) % s.ringSize f) f with hu
    have hpos : 0 < s.ringSize f := Nat.two_pow_pos _
    have hmod : (h + 1) % s.ringSize f < s.ringSize f := Nat.mod_lt _ hpos
    have hring : u.ringSize f = s.ringSize f := congrArg (2 ^ ·) (t.get_put_ring Reg.QUE_CMD_HEAD_HEAD Reg.QUE_CMD_CTRL_LOG2SIZE _ f f)
    have hnew : u.get Reg.QUE_CMD_HEAD_HEAD f = (h + 1) % s.ringSize f := State.get_put_of_lt _ _ _ _ _ (lt_of_lt_of_le hmod hsize)
    obtain ⟨hfetched, hlast, htail⟩ := ih u (by rw [hnew, hring]; exact hmod) (by rw [hring]; exact hsize)
    refine ⟨?_, ?_, ?_⟩
    · rw [hfetched, show u.fetchedOf f = s.fetchedOf f ++ [(h, c)] from s.fetchedOf_setFetched f _, List.map_append, List.append_assoc]
      rfl
    · rw [hlast, hnew, hring, Nat.mod_add_mod, List.length_cons]
      congr 1
      omega
    · exact htail.trans (t.get_put_ring Reg.QUE_CMD_HEAD_HEAD Reg.QUE_CMD_TAIL_TAIL _ f f)

theorem doCmdTailWrite_beyond {s : State} {f : Fin 16} {v : BitVec 64} {slots : List (List Byte)} (h : s.ringSize f ≤ v.toNat % 4096) :
    doCmdTailWrite f v slots s = s.put Reg.QUE_STATUS_TAIL_ERR 1 f := if_pos h

theorem doCmdTailWrite_inRing {s : State} {f : Fin 16} {v : BitVec 64} {slots : List (List Byte)} (h : v.toNat % 4096 < s.ringSize f) :
    doCmdTailWrite f v slots s = if s.flag Reg.QUE_CMD_CTRL_EN f then
        (s.put Reg.QUE_CMD_TAIL_TAIL (v.toNat % 4096) f).fetchSlots f
          ((slots.map slotOf).take ((v.toNat % 4096 + s.ringSize f - s.get Reg.QUE_CMD_HEAD_HEAD f) % s.ringSize f))
      else s.put Reg.QUE_CMD_TAIL_TAIL (v.toNat % 4096) f := if_neg (Nat.not_le.2 h)

theorem doQueEnWrite_cmd (f : Fin 16) (s : State) : doQueEnWrite f false true s =
    if s.flag Reg.QUE_CMD_CTRL_EN f = false then
      ((s.putB Reg.QUE_CMD_CTRL_EN true f).put Reg.QUE_CMD_HEAD_HEAD 0 f).put Reg.QUE_CMD_TAIL_TAIL 0 f
    else s.putB Reg.QUE_CMD_CTRL_EN true f := by
  unfold doQueEnWrite
  rw [if_neg Bool.false_ne_true]
  exact if_congr (and_iff_right rfl) rfl rfl

theorem doQueEnWrite_cpl (f : Fin 16) (s : State) : doQueEnWrite f true true s =
    if s.flag Reg.QUE_CPL_CTRL_EN f = false then
      ((s.putB Reg.QUE_CPL_CTRL_EN true f).put Reg.QUE_CPL_HEAD_HEAD 0 f).put Reg.QUE_CPL_TAIL_TAIL 0 f
    else s.putB Reg.QUE_CPL_CTRL_EN true f := by
  unfold doQueEnWrite
  rw [if_pos rfl]
  exact if_congr (and_iff_right rfl) rfl rfl

/-- A ring that is disabled keeps its pointers. -/
theorem doQueEnWrite_off (f : Fin 16) (cpl : Bool) (s : State) : doQueEnWrite f cpl false s =
    s.putB (if cpl then Reg.QUE_CPL_CTRL_EN else Reg.QUE_CMD_CTRL_EN) false f := by
  unfold doQueEnWrite
  cases cpl
  · exact (if_neg Bool.false_ne_true).trans (if_neg fun h => Bool.false_ne_true h.1)
  · exact (if_pos rfl).trans (if_neg fun h => Bool.false_ne_true h.1)

/-- HEAD reaches a tail within the ring once the slots between them are fetched. -/
theorem head_reaches_tail {n h t : Nat} (hh : h < n) (ht : t < n) : (h + (t + n - h) % n) % n = t := by
  rw [Nat.add_mod_mod, show h + (t + n - h) = t + n by omega, Nat.add_mod_right, Nat.mod_eq_of_lt ht]

/-! ## Dispatch -/

/-- From s to t the engine, the rings and the gates stay. -/
structure KeepsGates (s t : State) : Prop where
  engine : t.host.engine = s.host.engine
  fetched : t.host.fetched = s.host.fetched
  last : t.host.lastFunc = s.host.lastFunc
  gate : ∀ f, t.gateOpen f = s.gateOpen f

theorem KeepsGates.refl {s : State} : KeepsGates s s := ⟨rfl, rfl, rfl, fun _ => rfl⟩

theorem KeepsGates.trans {s t u : State} (h : KeepsGates s t) (k : KeepsGates t u) : KeepsGates s u :=
  ⟨k.engine.trans h.engine, k.fetched.trans h.fetched, k.last.trans h.last, fun f => (k.gate f).trans (h.gate f)⟩

theorem Calm.lastFunc {s t : State} (h : Calm s t) : t.host.lastFunc = s.host.lastFunc := by
  obtain ⟨_, _, _, _, _, _, h⟩ := h
  rw [h]

/-- A gate depends on what is owed and on the registers of its function's completion ring. -/
theorem State.gateOpen_congr {s t : State} (f : Nat) (howed : t.host.owed = s.host.owed)
    (hget : ∀ F ∈ [Reg.QUE_CPL_CTRL_EN, Reg.QUE_CPL_CTRL_LOG2SIZE, Reg.QUE_CPL_TAIL_TAIL, Reg.QUE_CPL_HEAD_HEAD], t.get F f = s.get F f) :
    t.gateOpen f = s.gateOpen f := by
  unfold State.gateOpen State.flag State.owedTo State.cplRoom State.cplSize
  rw [howed, hget Reg.QUE_CPL_CTRL_EN (by decide), hget Reg.QUE_CPL_CTRL_LOG2SIZE (by decide), hget Reg.QUE_CPL_TAIL_TAIL (by decide),
    hget Reg.QUE_CPL_HEAD_HEAD (by decide)]

theorem KeepsGates.of_calm {s t : State} (h : Calm s t) (hq : WritesQue [] s t) : KeepsGates s t := by
  refine ⟨h.engine, h.fetched, h.lastFunc, fun f => State.gateOpen_congr f h.owed fun F hF => hq F f 0 ?_ (by simp)⟩
  have hring : F.ring = true := by
    simp only [List.mem_cons, List.not_mem_nil, or_false] at hF
    rcases hF with rfl | rfl | rfl | rfl <;> decide
  exact Field.ring_bound hring f

theorem State.putCplFull_keepsGates (s : State) (b : Bool) (f : Nat) : KeepsGates s (s.putB Reg.QUE_STATUS_CPL_FULL b f) := by
  refine ⟨rfl, rfl, rfl, fun g => State.gateOpen_congr g rfl fun F hF => ?_⟩
  simp only [List.mem_cons, List.not_mem_nil, or_false] at hF
  rcases hF with rfl | rfl | rfl | rfl
  · exact s.get_put_ring _ _ _ _ _
  · exact s.get_put_ring _ _ _ _ _
  · exact s.get_put_ring _ _ _ _ _
  · exact s.get_put_ring _ _ _ _ _

theorem State.showGates_keeps (s : State) : KeepsGates s s.showGates := by
  unfold State.showGates
  generalize List.range 16 = l
  induction l generalizing s with
  | nil => exact .refl
  | cons f l ih =>
    rw [List.foldl_cons]
    extract_lets shut y
    have hy : KeepsGates s y := s.putCplFull_keepsGates shut f
    have hstep : KeepsGates s (if shut then y.raiseEp Ev.CPLQ_FULL f else y) := by
      split
      · exact hy.trans (.of_calm (y.raiseEp_calm _ _) (.raiseEp _ _ (by decide)))
      · exact hy
    exact hstep.trans (ih _)

theorem KeepsGates.nextCmd {s t : State} (h : KeepsGates s t) : t.nextCmd = s.nextCmd := by
  unfold State.nextCmd State.serveOrder State.fetchedOf
  rw [h.last, h.fetched]
  simp only [h.gate]

/-- A command taken into the engine. -/
def State.taken (s : State) (e : Cmd) (rest : List (Nat × CmdSlot)) : State :=
  let u := (s.setFetched e.func rest).touchIdle
  u.setHost { u.host with engine := some e, lastFunc := e.func }

theorem State.taken_spec (s : State) (e : Cmd) (rest : List (Nat × CmdSlot)) : (s.taken e rest).fetchedOf e.func = rest ∧
    (s.taken e rest).host.lastFunc = e.func ∧ (s.taken e rest).host.engine = some e := ⟨fgetD_fset_same .., rfl, rfl⟩

/-- The end of a command leaves the rings. -/
theorem State.rings_finish (s : State) (c : Cmd) (status result : Nat) : (s.finish c status result).host.fetched = s.host.fetched ∧
    (s.finish c status result).host.lastFunc = s.host.lastFunc := ⟨rfl, rfl⟩

theorem doCommandDispatch_free {s : State} (hm : s.mode = .service) (hfree : s.host.engine = none) : doCommandDispatch s =
    match s.nextCmd with
    | none => s.showGates
    | some (f, c, rest) =>
      if c.2.rsvd || !opcodes.contains c.2.opcode.toNat then (s.showGates.taken { func := f, idx := c.1, slot := c.2 } rest).finish
        { func := f, idx := c.1, slot := c.2 } Sts.INVALID_FIELD
      else s.showGates.taken { func := f, idx := c.1, slot := c.2 } rest := by
  unfold doCommandDispatch
  rw [if_neg (by simp [hm, hfree])]
  dsimp only
  rw [s.showGates_keeps.nextCmd]
  rfl

/-- Settles O51, by the fetch of the posted slots, which walks the ring from HEAD to TAIL, and by the front of the next ring. -/
theorem commandRings : Obligations.CommandRings := by
  unfold Obligations.CommandRings
  refine ⟨slotOf_leBytes, fun s f v slots hm => ?_, fun s f hm => ⟨?_, ?_, ?_, ?_⟩, fun s f hm => ⟨fun cpl en => ?_, fun v slots => ?_⟩,
    fun s f i c rest hm hfree hnext => ?_, fun s => ⟨fun h => ?_, fun hm hfree hnone => ?_⟩, fun s c hop hmirror => ?_⟩
  · refine ⟨_, congrArg Host.Outcome.next (if_pos hm), fun hbeyond => ?_, fun hwithin hen hhead hsize hlen => ?_, fun hwithin hen => ?_⟩
    · rw [doCmdTailWrite_beyond (s := s.touchIdle) hbeyond]
      exact ⟨State.flag_put_one _ _ _ _ rfl, rfl, s.touchIdle.get_put_ring Reg.QUE_STATUS_TAIL_ERR Reg.QUE_CMD_TAIL_TAIL 1 f f⟩
    · rw [doCmdTailWrite_inRing (s := s.touchIdle) hwithin, if_pos (show s.touchIdle.flag Reg.QUE_CMD_CTRL_EN f = true from hen),
        List.take_of_length_le (by rw [List.length_map, hlen]; exact le_rfl)]
      set u := s.touchIdle.put Reg.QUE_CMD_TAIL_TAIL (v.toNat % 4096) f with hu
      have hring : u.ringSize f = s.ringSize f :=
        congrArg (2 ^ ·) (s.touchIdle.get_put_ring Reg.QUE_CMD_TAIL_TAIL Reg.QUE_CMD_CTRL_LOG2SIZE _ f f)
      have hstart : u.get Reg.QUE_CMD_HEAD_HEAD f = s.get Reg.QUE_CMD_HEAD_HEAD f :=
        s.touchIdle.get_put_ring Reg.QUE_CMD_TAIL_TAIL Reg.QUE_CMD_HEAD_HEAD _ f f
      obtain ⟨hfetched, hlast, htail⟩ := u.fetchSlots_spec f (slots.map slotOf) (by rw [hstart, hring]; exact hhead) (by rw [hring]; exact hsize)
      refine ⟨htail.trans (State.get_put_of_lt _ _ _ _ _ (Nat.mod_lt _ (by decide))), ?_, hfetched⟩
      rw [hlast, hstart, hring, List.length_map, hlen]
      exact head_reaches_tail hhead hwithin
    · rw [doCmdTailWrite_inRing (s := s.touchIdle) hwithin, if_neg (by rw [show s.touchIdle.flag Reg.QUE_CMD_CTRL_EN f = false from hen]; decide)]
      exact ⟨State.get_put_of_lt _ _ _ _ _ (Nat.mod_lt _ (by decide)), rfl⟩
  · set u := s.touchIdle.putB Reg.QUE_CMD_CTRL_EN true f with hu
    have hen : u.flag Reg.QUE_CMD_CTRL_EN f = true := State.flag_putB_same _ _ _ _ _ rfl
    have hexec : exec (.queEnWrite f false true) s = .next (if s.flag Reg.QUE_CMD_CTRL_EN f = false then
        (u.put Reg.QUE_CMD_HEAD_HEAD 0 f).put Reg.QUE_CMD_TAIL_TAIL 0 f else u) :=
      congrArg Host.Outcome.next ((if_pos hm).trans (doQueEnWrite_cmd f s.touchIdle))
    refine ⟨_, hexec, ?_, fun hwas => ?_, fun hwas => ?_⟩
    · split
      · refine (congrArg (· == 1) ?_ : _ = u.flag Reg.QUE_CMD_CTRL_EN f).trans hen
        rw [State.get_put_ring _ Reg.QUE_CMD_TAIL_TAIL Reg.QUE_CMD_CTRL_EN, State.get_put_ring _ Reg.QUE_CMD_HEAD_HEAD Reg.QUE_CMD_CTRL_EN]
      · exact hen
    · rw [if_pos hwas, State.get_put_ring _ Reg.QUE_CMD_TAIL_TAIL Reg.QUE_CMD_HEAD_HEAD]
      exact ⟨State.get_put_of_lt _ _ _ _ _ (by decide), State.get_put_of_lt _ _ _ _ _ (by decide)⟩
    · rw [if_neg (by simp [hwas])]
      exact s.touchIdle.get_put_ring Reg.QUE_CMD_CTRL_EN Reg.QUE_CMD_HEAD_HEAD _ f f
  · set u := s.touchIdle.putB Reg.QUE_CPL_CTRL_EN true f with hu
    have hen : u.flag Reg.QUE_CPL_CTRL_EN f = true := State.flag_putB_same _ _ _ _ _ rfl
    have hexec : exec (.queEnWrite f true true) s = .next (if s.flag Reg.QUE_CPL_CTRL_EN f = false then
        (u.put Reg.QUE_CPL_HEAD_HEAD 0 f).put Reg.QUE_CPL_TAIL_TAIL 0 f else u) :=
      congrArg Host.Outcome.next ((if_pos hm).trans (doQueEnWrite_cpl f s.touchIdle))
    refine ⟨_, hexec, ?_, fun hwas => ?_⟩
    · split
      · refine (congrArg (· == 1) ?_ : _ = u.flag Reg.QUE_CPL_CTRL_EN f).trans hen
        rw [State.get_put_ring _ Reg.QUE_CPL_TAIL_TAIL Reg.QUE_CPL_CTRL_EN, State.get_put_ring _ Reg.QUE_CPL_HEAD_HEAD Reg.QUE_CPL_CTRL_EN]
      · exact hen
    · rw [if_pos hwas, State.get_put_ring _ Reg.QUE_CPL_TAIL_TAIL Reg.QUE_CPL_HEAD_HEAD]
      exact ⟨State.get_put_of_lt _ _ _ _ _ (by decide), State.get_put_of_lt _ _ _ _ _ (by decide)⟩
  · have hexec : exec (.queEnWrite f false false) s = .next (s.touchIdle.putB Reg.QUE_CMD_CTRL_EN false f) :=
      congrArg Host.Outcome.next ((if_pos hm).trans (doQueEnWrite_off f false s.touchIdle))
    exact ⟨_, hexec, State.flag_putB_same _ _ _ _ _ rfl⟩
  · have hexec : exec (.queEnWrite f true false) s = .next (s.touchIdle.putB Reg.QUE_CPL_CTRL_EN false f) :=
      congrArg Host.Outcome.next ((if_pos hm).trans (doQueEnWrite_off f true s.touchIdle))
    exact ⟨_, hexec, State.flag_putB_same _ _ _ _ _ rfl⟩
  · exact congrArg Host.Outcome.next (if_neg hm)
  · exact congrArg Host.Outcome.next (if_neg hm)
  · have hexec := doCommandDispatch_free hm hfree
    rw [hnext] at hexec
    dsimp only at hexec
    obtain ⟨hfetched, hlast, hengine⟩ := s.showGates.taken_spec { func := f, idx := i, slot := c } rest
    by_cases hok : c.rsvd || !opcodes.contains c.opcode.toNat
    · rw [if_pos hok] at hexec
      obtain ⟨hring, hfunc⟩ := (s.showGates.taken { func := f, idx := i, slot := c } rest).rings_finish { func := f, idx := i, slot := c }
        Sts.INVALID_FIELD 0
      refine ⟨_, congrArg Host.Outcome.next hexec, (congrArg (fgetD · f []) hring).trans hfetched, hfunc.trans hlast, fun hclean hlisted => ?_,
        fun _ => State.owes_finish ..⟩
      simp [hclean, hlisted] at hok
    · rw [if_neg hok] at hexec
      refine ⟨_, congrArg Host.Outcome.next hexec, hfetched, hlast, fun _ _ => hengine, fun hbad => absurd ?_ hok⟩
      rcases hbad with h | h
      · simp [h]
      · simp [h]
  · exact congrArg Host.Outcome.next (if_pos h)
  · have hexec := doCommandDispatch_free hm hfree
    rw [hnone] at hexec
    dsimp only at hexec
    exact ⟨_, congrArg Host.Outcome.next hexec, s.showGates_keeps.engine.trans hfree, s.showGates_keeps.fetched⟩
  · have hexec := State.runOp_finish (d := {}) (core := coreNop) hop hmirror (.inr (by decide)) rfl
    exact ⟨_, congrArg Host.Outcome.next hexec, State.owes_finish .., rfl⟩

end Sys2Proof.Machine
end

section
/-! PROOFS. POP reads, idle notices and hold-offs (O52). -/

namespace Sys2Proof.Machine

set_option Elab.async false

/-! ## An event leaves the notices armed as they are -/

/-- From s to t each queue's notice stays armed, or spent. -/
def KeepsArmed (s t : State) : Prop := ∀ q, (t.idle q).armed = (s.idle q).armed

namespace KeepsArmed

variable {s t u : State}

theorem refl : KeepsArmed s s := fun _ => rfl

theorem trans (h : KeepsArmed s t) (k : KeepsArmed t u) : KeepsArmed s u := fun q => (k q).trans (h q)

theorem ite {c : Prop} [Decidable c] (h : KeepsArmed s t) (k : KeepsArmed s u) : KeepsArmed s (if c then t else u) := by
  split
  · exact h
  · exact k

theorem of_idle (h : t.host.idle = s.host.idle) : KeepsArmed s t := fun q => by
  unfold State.idle
  rw [h]

end KeepsArmed

theorem State.idle_setIdle_same (s : State) (q : Nat) (v : Idle) : (s.setIdle q v).idle q = v := fgetD_fset_same ..

/-- A queue's idle time may start again without its notice being armed or spent. -/
theorem State.setIdle_keepsArmed (s : State) (q : Nat) (v : Idle) (h : v.armed = (s.idle q).armed) : KeepsArmed s (s.setIdle q v) := by
  intro r
  by_cases hr : q = r
  · subst hr
    rw [s.idle_setIdle_same, h]
  · exact congrArg Idle.armed (fgetD_fset_ne s.host.idle {} {} v hr)

theorem State.msixSend_keepsArmed (s : State) (f v : Nat) : KeepsArmed s (s.msixSend f v) := by
  unfold State.msixSend State.setPba
  exact .ite .refl (.ite (.ite .refl (.of_idle rfl)) (.of_idle rfl))

theorem State.msixOf_keepsArmed (s : State) (n : Nat) : KeepsArmed s (s.msixOf n) := by
  unfold State.msixOf State.msixTo State.msixPf
  refine .ite (.ite .refl (.ite (.of_idle rfl) (.ite (s.msixSend_keepsArmed _ _) ?_))) (s.msixSend_keepsArmed _ _)
  exact (s.msixSend_keepsArmed _ _).trans (.of_idle rfl)

theorem State.pushEvent_keepsArmed (s : State) (n : Nat) (held : Bool) : KeepsArmed s (s.pushEvent n held) := by
  unfold State.pushEvent
  refine .ite ?_ (.of_idle rfl)
  have hstart : KeepsArmed s (if s.host.evq.isEmpty then s.setIdle 8 { s.idle 8 with from_ := s.clock } else s) :=
    .ite (s.setIdle_keepsArmed _ _ rfl) .refl
  exact hstart.trans (.of_idle rfl)

theorem State.deliver_keepsArmed (s : State) (n : Nat) (held : Bool) : KeepsArmed s (s.deliver n held) := by
  unfold State.deliver
  extract_lets t u v
  have ht : KeepsArmed s t := .of_idle rfl
  have hu : KeepsArmed t u := .of_idle rfl
  have hv : KeepsArmed u v := .ite (u.pushEvent_keepsArmed n held) .refl
  exact .ite (((ht.trans hu).trans hv).trans (v.msixOf_keepsArmed _)) ht

theorem State.raise_keepsArmed (s : State) (n : Nat) : KeepsArmed s (s.raise n) := by
  unfold State.raise
  split
  · exact s.deliver_keepsArmed n false
  all_goals exact .of_idle rfl

/-! ## POP reads -/

theorem doCapPop_read {s : State} {f : Fin 16} {q : Fin 8} (h : s.capReader f q = true) : doCapPop f q 8 s =
    match fgetD s.host.capq q [] with
    | [] => (s.setIdle q { from_ := s.clock, armed := true }).emit (.popped f 0)
    | w :: rest => ((s.setIdle q { from_ := s.clock, armed := true }).setHost
        { (s.setIdle q { from_ := s.clock, armed := true }).host with capq := fset s.host.capq q [] rest }).emit (.popped f w) :=
  if_neg (by simp [h])

theorem doEvqPop_read (s : State) : doEvqPop 0 8 s =
    match s.host.evq with
    | [] => (s.setIdle 8 { from_ := s.clock, armed := true }).emit (.popped 0 0)
    | w :: rest => ((s.setIdle 8 { from_ := s.clock, armed := true }).setHost
        { (s.setIdle 8 { from_ := s.clock, armed := true }).host with evq := rest }).emit (.popped 0 w) :=
  if_neg (by decide)

theorem doCapPop_other {s : State} {f : Fin 16} {q : Fin 8} {size : Nat} (h : size ≠ 8 ∨ s.capReader f q = false) :
    doCapPop f q size s = s.emit (.popped f 0) := if_pos h

theorem doEvqPop_other {s : State} {f : Fin 16} {size : Nat} (h : size ≠ 8 ∨ f ≠ 0) : doEvqPop f size s = s.emit (.popped f 0) := if_pos h

/-! ## Idle notices -/

/-- The event of a queue's idle notice. -/
def idleEvent (q : Nat) : Nat := if q = 8 then Ev.EVQ_IDLE else Ev.CAPQ_IDLE q

theorem idleEvent_lt {q : Nat} (h : q ≤ 8) : idleEvent q < 1024 := by
  unfold idleEvent Ev.EVQ_IDLE Ev.CAPQ_IDLE
  split <;> omega

/-- The queue's notice is due. -/
def State.noticeDue (s : State) (q : Nat) : Prop :=
  (s.idle q).armed = true ∧ s.queueHolds q = true ∧ s.idleUs q ≠ 0 ∧ s.idleUs q * cyclesPerUs ≤ s.clock - (s.idle q).from_

theorem State.idleNotice_due {s : State} {q : Nat} (h : s.noticeDue q) :
    s.idleNotice q = (s.setIdle q { s.idle q with armed := false }).raise (idleEvent q) := if_pos h

theorem State.idleNotice_none {s : State} {q : Nat} (h : ¬ s.noticeDue q) : s.idleNotice q = s := if_neg h

theorem State.not_noticeDue {s : State} {q : Nat} (h : (s.idle q).armed = false ∨ s.queueHolds q = false ∨ s.idleUs q = 0 ∨
    s.clock - (s.idle q).from_ < s.idleUs q * cyclesPerUs) : ¬ s.noticeDue q := by
  rintro ⟨harmed, hholds, hus, hlong⟩
  rcases h with h | h | h | h
  · exact Bool.noConfusion (h.symm.trans harmed)
  · exact Bool.noConfusion (h.symm.trans hholds)
  · exact hus h
  · exact absurd hlong (Nat.not_le.2 h)

/-- A notice that is due is spent, and its event is counted. -/
theorem State.idleNotice_spec {s : State} {q : Nat} (hm : s.mode = .service) (hq : q ≤ 8) (h : s.noticeDue q) :
    ((s.idleNotice q).idle q).armed = false ∧
    (s.idleNotice q).get Reg.EVT_SRC_COUNT (idleEvent q) = min (s.get Reg.EVT_SRC_COUNT (idleEvent q) + 1) 255 := by
  rw [State.idleNotice_due h]
  refine ⟨?_, State.get_count_raise _ _ (idleEvent_lt hq) hm⟩
  rw [State.raise_keepsArmed, s.idle_setIdle_same]

/-- A notice leaves the registers of the rings and queues. -/
theorem State.idleNotice_que (s : State) {q : Nat} (hq : q ≤ 8) : WritesQue [] s (s.idleNotice q) := by
  unfold State.idleNotice
  have hset : WritesQue [] s (s.setIdle q { s.idle q with armed := false }) := .of_regs rfl
  exact .ite (hset.trans (.raise _ (idleEvent_lt hq))) .refl

/-! ## Hold-offs -/

/-- The device once the hold-off of vector v is over. -/
def State.freeVector (s : State) (v : Nat) : State := { s with host := { s.host with hold := fdel s.host.hold v } }

theorem doHoldoffExpiry_over {s : State} {v : Fin 64} {c : Nat} {held : Bool} (h : fget s.host.hold v = some (c, held)) (hc : c ≤ s.clock) :
    doHoldoffExpiry v s = if held then (s.freeVector v).msixPf v else s.freeVector v := by
  unfold doHoldoffExpiry
  rw [h]
  exact if_neg (Nat.not_lt.2 hc)

/-- The message of a vector that no hold-off holds, which begins one. -/
theorem State.msixPf_free {s : State} {v : Fin 64} (hon : s.msixOn 0 = true) (hmask : s.msixMasked 0 v = false) (hfree : fget s.host.hold v = none) :
    (s.msixPf v).out = .msix 0 v ((s.pci 0).vec v).addr ((s.pci 0).vec v).data :: s.out ∧
    (s.get Reg.EVT_VEC_HOLDOFF_US v ≠ 0 →
      fget (s.msixPf v).host.hold v = some (s.clock + s.get Reg.EVT_VEC_HOLDOFF_US v * cyclesPerUs, false)) := by
  have hsend : s.msixSend 0 v = s.emit (.msix 0 v ((s.pci 0).vec v).addr ((s.pci 0).vec v).data) := by
    unfold State.msixSend
    rw [if_neg (by rw [hon]; exact not_or.2 ⟨Bool.noConfusion, Nat.not_le.2 v.isLt⟩), if_neg (by rw [hmask]; exact Bool.false_ne_true)]
  have hmsg : s.msixPf v = { s.msixSend 0 v with host := { (s.msixSend 0 v).host with
      hold := if s.get Reg.EVT_VEC_HOLDOFF_US v = 0 then fdel (s.msixSend 0 v).host.hold v
        else fput (s.msixSend 0 v).host.hold v (s.clock + s.get Reg.EVT_VEC_HOLDOFF_US v * cyclesPerUs, false) } } := by
    unfold State.msixPf
    rw [if_neg (by rw [hon]; exact Bool.noConfusion)]
    dsimp only
    rw [if_neg (by rw [fgetD, hfree]; exact Nat.not_lt_zero _), if_neg (by rw [hmask]; exact Bool.false_ne_true)]
  rw [hmsg, hsend]
  refine ⟨rfl, fun hus => ?_⟩
  dsimp only
  rw [if_neg hus, fget_fput_same]

theorem State.msixPf_off {s : State} {v : Nat} (h : s.msixOn 0 = false) : s.msixPf v = s := if_pos h

/-! ## A clear of PEND -/

theorem State.clearPend_spec (s : State) (n : Nat) : (s.clearPend n).get Reg.EVT_SRC_PEND n = 0 ∧ (s.clearPend n).get Reg.EVT_SRC_COUNT n = 0 := by
  refine ⟨?_, State.get_put_of_lt _ _ _ _ _ (by decide)⟩
  refine (State.get_put_ne _ _ _ _ _ _ _ _ ?_).trans (State.get_put_of_lt _ _ _ _ _ (by decide))
  simp only [Field.key, Reg.EVT_SRC_PEND, Reg.EVT_SRC_COUNT]
  omega

/-- Settles O52, by the head of each queue, and by the state of its vector. -/
theorem popReadsAndNotices : Obligations.PopReadsAndNotices := by
  unfold Obligations.PopReadsAndNotices
  refine ⟨⟨fun s f q hm hreader => ?_, fun s hm => ?_, fun s f q i hi hm => ?_, fun s f q n hm => ⟨?_, ?_⟩⟩,
    fun s q hm harmed hholds hus hlong => ?_, fun s hm harmed hholds hus hlong => ?_, fun s => ⟨fun q h => ?_, fun h => ?_⟩,
    fun s v hm => ⟨fun q => ?_, ?_⟩, fun s v => ⟨fun h => ?_, fun c held hhold hc => ?_⟩, fun s n hm => ?_, fun s n q v hm => ⟨?_, ?_⟩⟩
  · have hexec := doCapPop_read (s := s.touchIdle) (q := q) hreader
    refine ⟨_, congrArg Host.Outcome.next (if_pos hm), fun w rest hw => ?_, fun hnone => ?_⟩
    · rw [show fgetD s.touchIdle.host.capq q [] = w :: rest from hw] at hexec
      dsimp only at hexec
      rw [hexec]
      exact ⟨rfl, fgetD_fset_same .., fun r hr => fgetD_fset_ne _ _ _ _ fun h => hr (Fin.ext h.symm)⟩
    · rw [show fgetD s.touchIdle.host.capq q [] = [] from hnone] at hexec
      dsimp only at hexec
      rw [hexec]
      exact ⟨rfl, rfl⟩
  · have hexec := doEvqPop_read s.touchIdle
    refine ⟨_, congrArg Host.Outcome.next (if_pos hm), fun w rest hw => ?_, fun hnone => ?_⟩
    · rw [show s.touchIdle.host.evq = w :: rest from hw] at hexec
      dsimp only at hexec
      rw [hexec]
      exact ⟨rfl, rfl⟩
    · rw [show s.touchIdle.host.evq = [] from hnone] at hexec
      dsimp only at hexec
      rw [hexec]
      exact ⟨rfl, hnone⟩
  · rcases hi with hi | ⟨hreader, rfl⟩ | ⟨hf, rfl⟩
    · simp only [List.mem_cons, List.not_mem_nil, or_false] at hi
      rcases hi with rfl | rfl
      · exact ⟨_, congrArg Host.Outcome.next ((if_pos hm).trans (doCapPop_other (s := s.touchIdle) (.inl (by decide)))), rfl, rfl⟩
      · exact ⟨_, congrArg Host.Outcome.next ((if_pos hm).trans (doEvqPop_other (s := s.touchIdle) (.inl (by decide)))), rfl, rfl⟩
    · exact ⟨_, congrArg Host.Outcome.next ((if_pos hm).trans (doCapPop_other (s := s.touchIdle) (.inr hreader))), rfl, rfl⟩
    · exact ⟨_, congrArg Host.Outcome.next ((if_pos hm).trans (doEvqPop_other (s := s.touchIdle) (.inr hf))), rfl, rfl⟩
  · exact congrArg Host.Outcome.next (if_neg hm)
  · exact congrArg Host.Outcome.next (if_neg hm)
  · obtain ⟨hspent, hcount⟩ := State.idleNotice_spec hm (Nat.le_of_lt q.isLt) ⟨harmed, hholds, hus, hlong⟩
    rw [show idleEvent q = Ev.CAPQ_IDLE q from if_neg (Nat.ne_of_lt q.isLt)] at hcount
    exact ⟨_, congrArg Host.Outcome.next (if_pos hm), hspent, hcount⟩
  · obtain ⟨hspent, hcount⟩ := State.idleNotice_spec (q := 8) hm le_rfl ⟨harmed, hholds, hus, hlong⟩
    exact ⟨_, congrArg Host.Outcome.next (if_pos hm), hspent, hcount⟩
  · rcases h with h | h
    · exact congrArg Host.Outcome.next (if_neg h)
    · exact congrArg Host.Outcome.next (ite_eq_right_iff.2 fun _ => State.idleNotice_none (State.not_noticeDue h))
  · rcases h with h | h
    · exact congrArg Host.Outcome.next (if_neg h)
    · exact congrArg Host.Outcome.next (ite_eq_right_iff.2 fun _ => State.idleNotice_none (State.not_noticeDue h))
  · refine ⟨_, congrArg Host.Outcome.next (if_pos hm), ?_⟩
    have hq : (q : Nat) ≠ 8 := Nat.ne_of_lt q.isLt
    set u := s.touchIdle.put Reg.QUE_CAP_CTRL_IDLE_US v.toNat q with hu
    have hkept : (u.idleNotice q).get Reg.QUE_CAP_CTRL_IDLE_US q = u.get Reg.QUE_CAP_CTRL_IDLE_US q :=
      u.idleNotice_que (Nat.le_of_lt q.isLt) _ _ _ (by simp only [Field.key, Reg.QUE_CAP_CTRL_IDLE_US]; omega) (by simp)
    exact (if_neg hq).trans (hkept.trans (State.get_put_of_lt _ _ _ _ _ v.isLt))
  · refine ⟨_, congrArg Host.Outcome.next (if_pos hm), ?_⟩
    set u := s.touchIdle.put Reg.QUE_EVQ_CTRL_IDLE_US v.toNat with hu
    have hkept : (u.idleNotice 8).get Reg.QUE_EVQ_CTRL_IDLE_US = u.get Reg.QUE_EVQ_CTRL_IDLE_US :=
      u.idleNotice_que le_rfl _ _ _ (by decide) (by simp)
    exact (if_pos rfl).trans (hkept.trans (State.get_put_of_lt _ _ _ _ _ v.isLt))
  · refine congrArg Host.Outcome.next ?_
    unfold doHoldoffExpiry
    cases hhold : fget s.host.hold v with
    | none => rfl
    | some e => exact if_pos (h e hhold)
  · refine ⟨_, congrArg Host.Outcome.next (doHoldoffExpiry_over hhold hc), fun h => ?_, fun hheld hon hmask => ?_⟩
    · cases held with
      | false => exact if_neg Bool.false_ne_true
      | true =>
        have hoff : s.msixOn 0 = false := h.resolve_left Bool.noConfusion
        exact (if_pos rfl).trans (State.msixPf_off (s := s.freeVector v) hoff)
    · subst hheld
      exact State.msixPf_free (s := s.freeVector v) hon hmask (fget_fdel_same ..)
  · obtain ⟨hpend, hcount⟩ := s.touchIdle.clearPend_spec n.toNat
    exact ⟨_, congrArg Host.Outcome.next (if_pos hm), hpend, hcount, rfl⟩
  · exact congrArg Host.Outcome.next (if_neg hm)
  · exact congrArg Host.Outcome.next (if_neg hm)

end Sys2Proof.Machine
end

section
/-! PROOFS. Resets of the endpoint (O53). -/

namespace Sys2Proof.Machine

set_option Elab.async false

/-! ## An event leaves what waits in the rings, and most of configuration space -/

/-- From s to t the commands that wait in the rings stay, the configuration space of every function that sends no messages, and
the AER status of every function. -/
structure KeepsEndpoint (s t : State) : Prop where
  fetched : t.host.fetched = s.host.fetched
  pci : ∀ f, (s.pci f).msixEn = false → t.pci f = s.pci f
  unc : ∀ f, (t.pci f).aerUnc = (s.pci f).aerUnc
  cor : ∀ f, (t.pci f).aerCor = (s.pci f).aerCor

namespace KeepsEndpoint

variable {s t u : State}

theorem of_pci (hf : t.host.fetched = s.host.fetched) (h : t.host.pci = s.host.pci) : KeepsEndpoint s t := by
  have hpci : ∀ f, t.pci f = s.pci f := fun f => congrArg (fun m => fgetD m f ({} : PciFn)) h
  exact ⟨hf, fun f _ => hpci f, fun f => congrArg PciFn.aerUnc (hpci f), fun f => congrArg PciFn.aerCor (hpci f)⟩

theorem refl : KeepsEndpoint s s := of_pci rfl rfl

theorem trans (h : KeepsEndpoint s t) (k : KeepsEndpoint t u) : KeepsEndpoint s u :=
  ⟨k.fetched.trans h.fetched, fun f hf => (k.pci f ((congrArg PciFn.msixEn (h.pci f hf)).trans hf)).trans (h.pci f hf),
    fun f => (k.unc f).trans (h.unc f), fun f => (k.cor f).trans (h.cor f)⟩

theorem ite {c : Prop} [Decidable c] (h : KeepsEndpoint s t) (k : KeepsEndpoint s u) : KeepsEndpoint s (if c then t else u) := by
  split
  · exact h
  · exact k

theorem of_within {w : List Part} (h : Within w s t) (hw : Part.host ∉ w := by decide) : KeepsEndpoint s t := by
  have hhost : s.host = t.host := h.same .host hw
  exact of_pci (congrArg HostIf.fetched hhost.symm) (congrArg HostIf.pci hhost.symm)

theorem foldl {α : Type} {f : State → α → State} (hf : ∀ t a, KeepsEndpoint t (f t a)) {l : List α} {s : State} : KeepsEndpoint s (l.foldl f s) := by
  induction l generalizing s with
  | nil => exact refl
  | cons a l ih => exact (hf s a).trans ih

end KeepsEndpoint

theorem State.pci_setPci_same (s : State) (f : Nat) (v : PciFn) : (s.setPci f v).pci f = v := fgetD_fset_same ..

theorem State.pci_setPci_ne (s : State) {f g : Nat} (v : PciFn) (h : f ≠ g) : (s.setPci f v).pci g = s.pci g := fgetD_fset_ne _ _ _ _ h

/-- A change of a function that sends messages, which keeps its AER status. -/
theorem State.setPci_keepsEndpoint (s : State) {f : Nat} (v : PciFn) (hon : (s.pci f).msixEn = true) (hunc : v.aerUnc = (s.pci f).aerUnc)
    (hcor : v.aerCor = (s.pci f).aerCor) : KeepsEndpoint s (s.setPci f v) := by
  refine ⟨rfl, fun g hg => s.pci_setPci_ne v ?_, fun g => ?_, fun g => ?_⟩
  · rintro rfl
    exact Bool.noConfusion (hg.symm.trans hon)
  · by_cases h : f = g
    · subst h
      rw [s.pci_setPci_same, hunc]
    · rw [s.pci_setPci_ne v h]
  · by_cases h : f = g
    · subst h
      rw [s.pci_setPci_same, hcor]
    · rw [s.pci_setPci_ne v h]

theorem State.msixEn_of_msixOn {s : State} {f : Nat} (h : s.msixOn f = true) : (s.pci f).msixEn = true := by
  unfold State.msixOn at h
  exact (Bool.and_eq_true_iff.1 h).2

theorem State.msixSend_keepsEndpoint (s : State) (f v : Nat) : KeepsEndpoint s (s.msixSend f v) := by
  unfold State.msixSend
  split
  · exact .refl
  next h =>
    have hon : s.msixOn f = true := Bool.eq_true_of_not_eq_false fun hoff => h (.inl hoff)
    refine .ite ?_ (.of_pci rfl rfl)
    unfold State.setPba
    exact .ite .refl (s.setPci_keepsEndpoint _ (State.msixEn_of_msixOn hon) rfl rfl)

theorem State.msixOf_keepsEndpoint (s : State) (n : Nat) : KeepsEndpoint s (s.msixOf n) := by
  unfold State.msixOf State.msixTo State.msixPf
  refine .ite (.ite .refl (.ite (.of_pci rfl rfl) (.ite (s.msixSend_keepsEndpoint _ _) ?_))) (s.msixSend_keepsEndpoint _ _)
  exact (s.msixSend_keepsEndpoint _ _).trans (.of_pci rfl rfl)

theorem State.pushEvent_keepsEndpoint (s : State) (n : Nat) (held : Bool) : KeepsEndpoint s (s.pushEvent n held) := by
  unfold State.pushEvent
  refine .ite ?_ (.of_pci rfl rfl)
  have hstart : KeepsEndpoint s (if s.host.evq.isEmpty then s.setIdle 8 { s.idle 8 with from_ := s.clock } else s) :=
    .ite (.of_pci rfl rfl) .refl
  exact hstart.trans (.of_pci rfl rfl)

theorem State.raise_keepsEndpoint (s : State) (n : Nat) : KeepsEndpoint s (s.raise n) := by
  unfold State.raise
  split
  · unfold State.deliver
    extract_lets t u v
    have ht : KeepsEndpoint s t := .of_pci rfl rfl
    have hu : KeepsEndpoint t u := .of_pci rfl rfl
    have hv : KeepsEndpoint u v := .ite (u.pushEvent_keepsEndpoint n false) .refl
    exact .ite (((ht.trans hu).trans hv).trans (v.msixOf_keepsEndpoint _)) ht
  all_goals exact .of_pci rfl rfl

/-- An event changes the boot program's state in what is held alone. -/
theorem State.boot_raise (s : State) (n : Nat) : ∃ l, (s.raise n).boot = { s.boot with held := l } := by
  unfold State.raise
  split
  · exact ⟨s.boot.held, (State.deliver_within.same .boot : s.boot = _).symm⟩
  all_goals exact ⟨_, rfl⟩

/-! ## What the end of a group leaves -/

/-- From s to t groups may have ended: no row that is more than staged changes, and no image. -/
structure EndsGroups (s t : State) : Prop where
  hdr : t.boot.hdr = s.boot.hdr
  rows : (t.rows.filter fun r => r.st != .pending) = s.rows.filter fun r => r.st != .pending
  groups : t.groups ⊆ s.groups

namespace EndsGroups

variable {s t u : State}

theorem refl : EndsGroups s s := ⟨rfl, rfl, fun _ h => h⟩

theorem trans (h : EndsGroups s t) (k : EndsGroups t u) : EndsGroups s u :=
  ⟨k.hdr.trans h.hdr, k.rows.trans h.rows, fun _ hg => h.groups (k.groups hg)⟩

theorem of_within {w : List Part} (h : Within w s t) (hw : Part.boot ∉ w ∧ Part.rows ∉ w ∧ Part.groups ∉ w := by decide) : EndsGroups s t := by
  obtain ⟨hboot, hrows, hgroups⟩ := hw
  rw [Within] at h
  exact ⟨congrArg Boot.hdr (h.1 .boot hboot).symm, congrArg (List.filter _) (h.1 .rows hrows).symm,
    fun g hg => (show s.groups = t.groups from h.1 .groups hgroups).symm ▸ hg⟩

theorem foldl {α : Type} {f : State → α → State} (hf : ∀ t a, EndsGroups t (f t a)) {l : List α} {s : State} : EndsGroups s (l.foldl f s) := by
  induction l generalizing s with
  | nil => exact refl
  | cons a l ih => exact (hf s a).trans ih

end EndsGroups

theorem State.raise_endsGroups (s : State) (n : Nat) : EndsGroups s (s.raise n) := by
  obtain ⟨_, hboot⟩ := s.boot_raise n
  have hwithin : Within [.out, .regs, .boot, .host] s (s.raise n) := State.raise_within
  have hrows : s.rows = (s.raise n).rows := hwithin.same .rows
  have hgroups : s.groups = (s.raise n).groups := hwithin.same .groups
  exact ⟨(congrArg Boot.hdr hboot : (s.raise n).boot.hdr = _), congrArg (List.filter _) hrows.symm, fun g hg => hgroups.symm ▸ hg⟩

theorem State.dropStaged_endsGroups (s : State) (g : Group) (id : Nat) : EndsGroups s (s.dropStaged g id) := by
  refine ⟨rfl, ?_, fun _ h => h⟩
  refine (List.filter_filter ..).trans (List.filter_congr fun r _ => ?_)
  cases r.st <;> simp

theorem State.groups_dropStaged_foldl (s : State) (g : Group) (l : List Edit) :
    (l.foldl (fun (x : State) e => x.dropStaged g e.id) s).groups = s.groups := by
  have hfold : Within [.rows, .journal] s (l.foldl (fun (x : State) e => x.dropStaged g e.id) s) :=
    .foldl (fun _ _ h => h.step State.dropStaged_within) .refl
  exact (hfold.same .groups).symm

/-- The device without a group's staged rows, and without the group, which is counted. -/
def State.withoutGroup (s : State) (g : Group) : State :=
  let t := g.edits.foldl (fun (x : State) e => x.dropStaged g e.id) s
  (t.setGroups (t.groups.filter fun x => x ≠ g)).bump Reg.TBL_CNT_ABORT_COUNT 1 g.tbl

/-- The command that waits for a group ends aborted. -/
def State.endCommit (s : State) (g : Group) : State :=
  match g.cmd with
  | some (f, i, c) => s.owedReady f i c Sts.ABORTED
  | none => s

theorem State.abortGroup_flr (s : State) (g : Group) : s.abortGroup g (some Reg.TBL_STATUS_ABORT_FLR) =
    if g.mirrored && !g.fromPeer && s.seam.pair == .paired then
      ((((s.withoutGroup g).put Reg.TBL_STATUS_ABORT_FLR 1 g.tbl).raise Ev.EDIT_ABORT).endCommit g).sendSeam (.abort (65536 + g.num))
    else (((s.withoutGroup g).put Reg.TBL_STATUS_ABORT_FLR 1 g.tbl).raise Ev.EDIT_ABORT).endCommit g := rfl

theorem State.endCommit_within {s : State} {g : Group} : Within [.host] s (s.endCommit g) := by
  unfold State.endCommit
  split
  · exact State.owedReady_within
  · exact .refl

theorem State.endCommit_keepsEndpoint (s : State) (g : Group) : KeepsEndpoint s (s.endCommit g) := by
  unfold State.endCommit
  split
  · exact .of_pci rfl rfl
  · exact .refl

theorem State.withoutGroup_endsGroups (s : State) (g : Group) : EndsGroups s (s.withoutGroup g) := by
  unfold State.withoutGroup
  extract_lets t
  have ht : EndsGroups s t := .foldl fun _ _ => State.dropStaged_endsGroups _ _ _
  exact ht.trans ⟨rfl, rfl, fun _ h => (List.mem_filter.1 h).1⟩

theorem State.groups_withoutGroup (s : State) (g : Group) : (s.withoutGroup g).groups = s.groups.filter fun x => x ≠ g :=
  congrArg (List.filter _) (s.groups_dropStaged_foldl g g.edits)

theorem State.withoutGroup_keepsEndpoint (s : State) (g : Group) : KeepsEndpoint s (s.withoutGroup g) := by
  unfold State.withoutGroup
  extract_lets t
  have ht : KeepsEndpoint s t := .foldl fun _ _ => .of_within State.dropStaged_within
  exact ht.trans (.of_pci rfl rfl)

/-- Where the count and the cause of aborted groups are kept. -/
def abortKeys : List Nat := (List.range 64).flatMap fun i => [Reg.TBL_CNT_ABORT_COUNT.key i, Reg.TBL_STATUS_ABORT_FLR.key i]

theorem mem_abortKeys {i : Nat} (hi : i < 64) : Reg.TBL_CNT_ABORT_COUNT.key i ∈ abortKeys ∧ Reg.TBL_STATUS_ABORT_FLR.key i ∈ abortKeys :=
  ⟨List.mem_flatMap.2 ⟨i, List.mem_range.2 hi, by simp⟩, List.mem_flatMap.2 ⟨i, List.mem_range.2 hi, by simp⟩⟩

theorem abortKeys_below {i : Nat} (hi : i < 64) : Reg.TBL_CNT_ABORT_COUNT.key i < 8 * 0x160000 ∧ Reg.TBL_STATUS_ABORT_FLR.key i < 8 * 0x160000 := by
  constructor
  · simp only [Field.key, Reg.TBL_CNT_ABORT_COUNT]
    omega
  · simp only [Field.key, Reg.TBL_STATUS_ABORT_FLR]
    omega

theorem State.withoutGroup_writes (s : State) (g : Group) : Writes [Reg.TBL_CNT_ABORT_COUNT.key g.tbl] s (s.withoutGroup g) := by
  unfold State.withoutGroup
  extract_lets t
  have ht : Within [.rows, .journal] s t := .foldl (fun _ _ h => h.step State.dropStaged_within) .refl
  have hset : Writes [] t (t.setGroups (t.groups.filter fun x => x ≠ g)) := .of_regs rfl
  exact (((Writes.of_within ht : Writes [] s t).trans hset).mono (by simp)).step (Writes.bump _ _ _ _)

theorem State.withoutGroup_que (s : State) (g : Group) (hg : g.tbl < 64) : WritesQue [] s (s.withoutGroup g) := by
  unfold State.withoutGroup
  extract_lets t
  have ht : Within [.rows, .journal] s t := .foldl (fun _ _ h => h.step State.dropStaged_within) .refl
  have hset : WritesQue [] t (t.setGroups (t.groups.filter fun x => x ≠ g)) := .of_regs rfl
  exact ((WritesQue.of_within ht).trans hset).trans (.put_low _ _ _ _ (abortKeys_below hg).1)

/-- What a group that ends by a function-level reset leaves. -/
structure FlrAborts (s t : State) (g : Group) : Prop where
  endpoint : KeepsEndpoint s t
  ends : EndsGroups s t
  groups : t.groups = s.groups.filter fun x => x ≠ g
  writes : g.tbl < 64 → Writes abortKeys s t
  que : g.tbl < 64 → WritesQue [] s t

theorem FlrAborts.step {s t u : State} {g : Group} {w : List Part} (h : FlrAborts s t g) (k : Within w t u) (hend : KeepsEndpoint t u)
    (hw : Part.boot ∉ w ∧ Part.rows ∉ w ∧ Part.groups ∉ w ∧ Part.regs ∉ w := by decide) : FlrAborts s u g := by
  obtain ⟨hboot, hrows, hgroups, hregs⟩ := hw
  have hsame : t.groups = u.groups := k.same .groups hgroups
  exact ⟨h.endpoint.trans hend, h.ends.trans (.of_within k ⟨hboot, hrows, hgroups⟩), hsame.symm.trans h.groups,
    fun hg => (h.writes hg).trans (.of_within k hregs), fun hg => (h.que hg).trans (.of_within k hregs)⟩

theorem State.abortGroup_flrAborts (s : State) (g : Group) : FlrAborts s (s.abortGroup g (some Reg.TBL_STATUS_ABORT_FLR)) g := by
  rw [State.abortGroup_flr]
  set u := (s.withoutGroup g).put Reg.TBL_STATUS_ABORT_FLR 1 g.tbl with hu
  have hput : Within [.regs] (s.withoutGroup g) u := State.put_within
  have hraised : FlrAborts s (u.raise Ev.EDIT_ABORT) g := by
    have hgroups : u.groups = (u.raise Ev.EDIT_ABORT).groups := State.raise_within.same .groups
    refine ⟨((s.withoutGroup_keepsEndpoint g).trans (.of_within hput)).trans (u.raise_keepsEndpoint _),
      ((s.withoutGroup_endsGroups g).trans (.of_within hput)).trans (u.raise_endsGroups _), hgroups.symm.trans (s.groups_withoutGroup g),
      fun hg => ?_, fun hg => ?_⟩
    · have hcount : Writes abortKeys s (s.withoutGroup g) :=
        (s.withoutGroup_writes g).mono fun k hk => List.mem_singleton.1 hk ▸ (mem_abortKeys hg).1
      have hcause : Writes abortKeys (s.withoutGroup g) u := (Writes.put _ _ _ _).mono fun k hk => List.mem_singleton.1 hk ▸ (mem_abortKeys hg).2
      exact (hcount.trans hcause).step (Writes.raise _)
    · exact ((s.withoutGroup_que g hg).trans (.put_low _ _ _ _ (abortKeys_below hg).2)).trans (.raise _ (by decide))
  have hended := hraised.step State.endCommit_within (State.endCommit_keepsEndpoint _ g)
  split
  · exact hended.step State.sendSeam_within (.of_within State.sendSeam_within)
  · exact hended

/-- What the end of several groups by a function-level reset leaves. -/
theorem State.foldl_abortGroup_flr (l : List Group) (s : State) :
    KeepsEndpoint s (l.foldl (fun x g => x.abortGroup g (some Reg.TBL_STATUS_ABORT_FLR)) s) ∧
    EndsGroups s (l.foldl (fun x g => x.abortGroup g (some Reg.TBL_STATUS_ABORT_FLR)) s) ∧
    (∀ g ∈ (l.foldl (fun x g => x.abortGroup g (some Reg.TBL_STATUS_ABORT_FLR)) s).groups, g ∉ l) ∧
    ((∀ g ∈ l, g.tbl < 64) → Writes abortKeys s (l.foldl (fun x g => x.abortGroup g (some Reg.TBL_STATUS_ABORT_FLR)) s) ∧
      WritesQue [] s (l.foldl (fun x g => x.abortGroup g (some Reg.TBL_STATUS_ABORT_FLR)) s)) := by
  induction l generalizing s with
  | nil => exact ⟨.refl, .refl, fun _ _ h => (nomatch h), fun _ => ⟨.refl, .refl⟩⟩
  | cons a l ih =>
    rw [List.foldl_cons]
    have hone := s.abortGroup_flrAborts a
    obtain ⟨hendpoint, hends, hgone, hwrites⟩ := ih (s.abortGroup a (some Reg.TBL_STATUS_ABORT_FLR))
    refine ⟨hone.endpoint.trans hendpoint, hone.ends.trans hends, fun g hg hmem => ?_, fun hl => ?_⟩
    · rcases List.mem_cons.1 hmem with rfl | hmem
      · have hstill := hends.groups hg
        rw [hone.groups] at hstill
        exact absurd rfl (of_decide_eq_true (List.mem_filter.1 hstill).2)
      · exact hgone g hg hmem
    · obtain ⟨hlow, hque⟩ := hwrites fun g hg => hl g (List.mem_cons_of_mem _ hg)
      have ha := hl a List.mem_cons_self
      exact ⟨(hone.writes ha).trans hlow, (hone.que ha).trans hque⟩

/-! ## A function-level reset -/

/-- The registers of a function's rings that a reset clears. -/
def ringRegs : List Field := [Reg.QUE_CMD_CTRL_EN, Reg.QUE_CPL_CTRL_EN, Reg.QUE_CMD_HEAD_HEAD, Reg.QUE_CMD_TAIL_TAIL, Reg.QUE_CPL_HEAD_HEAD,
  Reg.QUE_CPL_TAIL_TAIL]

theorem ringRegs_ring : ∀ F ∈ ringRegs, F.ring = true := by decide

theorem ringRegs_apart : ∀ F ∈ ringRegs, ∀ G ∈ ringRegs, 8 * F.base + F.lo = 8 * G.base + G.lo → F = G := by decide

theorem State.get_clear_ringRegs (f : Nat) {G : Field} (hG : G ∈ ringRegs) (l : List Field) (hl : l ⊆ ringRegs) (s : State)
    (h : G ∈ l ∨ s.get G f = 0) : (l.foldl (fun x F => x.put F 0 f) s).get G f = 0 := by
  induction l generalizing s with
  | nil => exact h.resolve_left (fun h => nomatch h)
  | cons F l ih =>
    rw [List.foldl_cons]
    refine ih (fun _ h => hl (List.mem_cons_of_mem _ h)) _ ?_
    have hF : F ∈ ringRegs := hl List.mem_cons_self
    by_cases he : F = G
    · subst he
      exact .inr (State.get_put_of_lt _ _ _ _ _ (Nat.two_pow_pos _))
    rcases h with h | h
    · exact .inl ((List.mem_cons.1 h).resolve_left (Ne.symm he))
    · exact .inr ((s.get_put_ring F G 0 f f (ringRegs_ring F hF) (ringRegs_ring G hG) fun hpos => he (ringRegs_apart F hF G hG hpos)).trans h)

theorem State.clearQueues_keepsEndpoint (s : State) (f : Nat) : KeepsEndpoint s (s.clearQueues f) := by
  unfold State.clearQueues
  extract_lets t
  have ht : KeepsEndpoint s t := by
    refine KeepsEndpoint.foldl fun u q => ?_
    exact .ite (.of_pci rfl rfl) .refl
  exact .ite (ht.trans (.of_pci rfl rfl)) ht

theorem State.clearRings_writes (s : State) (f : Nat) : Writes abortKeys s (s.clearRings f) := by
  have hput : ∀ (l : List Field), l ⊆ ringRegs → ∀ t : State, Writes abortKeys t (l.foldl (fun x F => x.put F 0 f) t) := by
    intro l
    induction l with
    | nil => exact fun _ _ => .refl
    | cons F l ih =>
      intro hl t
      have hhigh := Field.ring_bound (ringRegs_ring F (hl List.mem_cons_self)) f
      have hone : Writes abortKeys t (t.put F 0 f) := fun G i j hb _ => t.get_put_ne F G 0 f 0 i j (by omega)
      exact hone.trans (ih (fun _ h => hl (List.mem_cons_of_mem _ h)) _)
  exact hput ringRegs (fun _ h => h) s

/-- A function's configuration space after its reset; no command of it waits. -/
def State.flrFunc (s : State) (f : Nat) : State := ((s.setPci f (s.pci f).flr).muteFunc f).setFetched f []

/-- A function's configuration space, rings and queues after its reset. -/
def State.flrRings (s : State) (f : Nat) : State := ((s.flrFunc f).clearRings f).clearQueues f

/-- The groups that a reset of function f ends. -/
def Group.flrEnds (f : Nat) (g : Group) : Bool := g.func == f && !g.fromPeer && !g.ungrouped && g.st == .open

theorem State.flrOne_eq (s : State) (f : Nat) : s.flrOne f =
    (((s.flrRings f).groups.filter (Group.flrEnds f)).foldl (fun x g => x.abortGroup g (some Reg.TBL_STATUS_ABORT_FLR)) (s.flrRings f)).raise Ev.FLR :=
  rfl

theorem State.muteFunc_spec (s : State) (f : Nat) : (s.muteFunc f).host.fetched = s.host.fetched ∧ (s.muteFunc f).host.pci = s.host.pci := ⟨rfl, rfl⟩

theorem State.setFetched_spec (s : State) (f : Nat) (l : List (Nat × CmdSlot)) :
    (s.setFetched f l).host.fetched = fset s.host.fetched f [] l ∧ (s.setFetched f l).host.pci = s.host.pci := ⟨rfl, rfl⟩

theorem State.flrFunc_spec (s : State) (f : Nat) : Within [.host] s (s.flrFunc f) ∧ (s.flrFunc f).host.fetched = fset s.host.fetched f [] [] ∧
    (s.flrFunc f).pci f = (s.pci f).flr := by
  unfold State.flrFunc
  set r := s.setPci f (s.pci f).flr with hr
  obtain ⟨hf1, hp1⟩ := r.muteFunc_spec f
  obtain ⟨hf2, hp2⟩ := (r.muteFunc f).setFetched_spec f []
  refine ⟨((Within.refl.step State.setPci_within).step State.muteFunc_within).step State.setFetched_within, ?_, ?_⟩
  · rw [hf2, hf1]
    rfl
  · have hpci : r.pci f = (s.pci f).flr := s.pci_setPci_same f _
    unfold State.pci at hpci ⊢
    rw [hp2, hp1, hpci]

theorem State.flrRings_within (s : State) (f : Nat) : Within [.regs, .host] s (s.flrRings f) :=
  (((s.flrFunc_spec f).1.mono (by decide)).step State.clearRings_within).step State.clearQueues_within

theorem State.flrRings_spec (s : State) (f : Nat) : (s.flrRings f).host.fetched = fset s.host.fetched f [] [] ∧
    (s.flrRings f).pci f = (s.pci f).flr ∧ (∀ F ∈ ringRegs, (s.flrRings f).get F f = 0) ∧ Writes abortKeys s (s.flrRings f) := by
  unfold State.flrRings
  obtain ⟨hwithin, hfetched, hpci⟩ := s.flrFunc_spec f
  generalize s.flrFunc f = t at hwithin hfetched hpci ⊢
  have hcleared : KeepsEndpoint t ((t.clearRings f).clearQueues f) :=
    (KeepsEndpoint.of_within State.clearRings_within).trans (State.clearQueues_keepsEndpoint _ f)
  have hqueues : Within [.host] (t.clearRings f) ((t.clearRings f).clearQueues f) := State.clearQueues_within
  refine ⟨hcleared.fetched.trans hfetched, (hcleared.pci f (congrArg PciFn.msixEn hpci)).trans hpci, fun F hF => ?_,
    ((Writes.of_within hwithin).trans (t.clearRings_writes f)).trans (.of_within hqueues)⟩
  have hregs : (t.clearRings f).regs = ((t.clearRings f).clearQueues f).regs := hqueues.same .regs
  have hget : ((t.clearRings f).clearQueues f).get F f = (t.clearRings f).get F f := by
    unfold State.get
    rw [hregs]
  exact hget.trans (State.get_clear_ringRegs f hF ringRegs (fun _ h => h) t (.inl hF))

/-- What the reset of one function leaves. -/
theorem State.flrOne_spec (s : State) (f : Nat) : (s.flrOne f).host.fetched = fset s.host.fetched f [] [] ∧
    (s.flrOne f).pci f = (s.pci f).flr ∧ EndsGroups s (s.flrOne f) ∧ (∀ g ∈ (s.flrOne f).groups, g.flrEnds f = false) ∧
    ((∀ g ∈ s.groups, g.tbl < 64) → Writes abortKeys s (s.flrOne f) ∧ ∀ F ∈ ringRegs, (s.flrOne f).get F f = 0) := by
  obtain ⟨hfetched, hpci, hzero, hwrites⟩ := s.flrRings_spec f
  have hwithin := s.flrRings_within f
  have hgroups : s.groups = (s.flrRings f).groups := hwithin.same .groups
  rw [State.flrOne_eq]
  obtain ⟨hendpoint, hends, hgone, haborts⟩ := State.foldl_abortGroup_flr ((s.flrRings f).groups.filter (Group.flrEnds f)) (s.flrRings f)
  generalize ((s.flrRings f).groups.filter (Group.flrEnds f)).foldl (fun x g => x.abortGroup g (some Reg.TBL_STATUS_ABORT_FLR)) (s.flrRings f) = t
    at hendpoint hends hgone haborts ⊢
  have hraise := t.raise_keepsEndpoint Ev.FLR
  have hsame : t.groups = (t.raise Ev.FLR).groups := State.raise_within.same .groups
  have hall := hendpoint.trans hraise
  refine ⟨hall.fetched.trans hfetched, (hall.pci f (congrArg PciFn.msixEn hpci)).trans hpci,
    ((EndsGroups.of_within hwithin).trans hends).trans (t.raise_endsGroups _), fun g hg => ?_, fun hl => ?_⟩
  · have hg' : g ∈ t.groups := hsame ▸ hg
    by_contra hend
    exact hgone g hg' (List.mem_filter.2 ⟨hends.groups hg', Bool.eq_true_of_not_eq_false hend⟩)
  · obtain ⟨hlow, hque⟩ := haborts fun g hg => hl g (hgroups ▸ (List.mem_filter.1 hg).1)
    refine ⟨(hwrites.trans hlow).step (Writes.raise _), fun F hF => ?_⟩
    have hbound := Field.ring_bound (ringRegs_ring F hF) f
    exact ((WritesQue.raise (ks := []) _ (by decide)) F f 0 hbound (by simp)).trans ((hque F f 0 hbound (by simp)).trans (hzero F hF))

theorem State.fetchedOf_flrOne_same (s : State) (f : Nat) : (s.flrOne f).fetchedOf f = [] := by
  obtain ⟨hfetched, -⟩ := s.flrOne_spec f
  exact (congrArg (fun m => fgetD m f []) hfetched).trans (fgetD_fset_same ..)

theorem State.fetchedOf_flrOne_ne (s : State) {f g : Nat} (h : f ≠ g) : (s.flrOne f).fetchedOf g = s.fetchedOf g := by
  obtain ⟨hfetched, -⟩ := s.flrOne_spec f
  exact (congrArg (fun m => fgetD m g []) hfetched).trans (fgetD_fset_ne _ _ _ _ h)

/-- What the resets of several functions leave. -/
theorem State.foldl_flrOne (l : List Nat) (s : State) : (∀ f, f ∈ l ∨ s.fetchedOf f = [] → (l.foldl State.flrOne s).fetchedOf f = []) ∧
    EndsGroups s (l.foldl State.flrOne s) ∧ ((∀ g ∈ s.groups, g.tbl < 64) → Writes abortKeys s (l.foldl State.flrOne s)) := by
  induction l generalizing s with
  | nil => exact ⟨fun f h => h.resolve_left (fun h => nomatch h), .refl, fun _ => .refl⟩
  | cons a l ih =>
    rw [List.foldl_cons]
    obtain ⟨hfetched, hends, hwrites⟩ := ih (s.flrOne a)
    obtain ⟨-, -, hend, -, hlow⟩ := s.flrOne_spec a
    refine ⟨fun f hf => hfetched f ?_, hend.trans hends, fun hl => ?_⟩
    · by_cases ha : a = f
      · subst ha
        exact .inr (s.fetchedOf_flrOne_same a)
      · rw [s.fetchedOf_flrOne_ne ha]
        exact hf.imp (fun h => (List.mem_cons.1 h).resolve_left (Ne.symm ha)) id
    · obtain ⟨hone, -⟩ := hlow hl
      exact hone.trans (hwrites fun g hg => hl g (hend.groups hg))

theorem doFlr_vf {f : Fin 16} {s : State} (h : f ≠ 0) : doFlr f s = s.flrOne f := if_neg h

/-- The device once every function is reset, SR-IOV still enabled. -/
def State.flrAll (s : State) : State := (List.range 16).foldl State.flrOne s

/-- The device without VFs. -/
def State.noVfs (s : State) : State := s.setHost { s.host with sriov := {} }

/-- The device with the configuration space as the reset of PCIe leaves it. -/
def State.pciReset (s : State) : State := s.setHost { s.host with pci := [] }

theorem doFlr_pf (s : State) : doFlr 0 s = s.flrAll.noVfs := by
  unfold doFlr State.flrAll State.noVfs
  exact if_pos rfl

theorem State.numVf_noVfs (s : State) : s.noVfs.numVf = 0 := rfl

theorem State.fetchedOf_noVfs (s : State) (f : Nat) : s.noVfs.fetchedOf f = s.fetchedOf f := rfl

theorem State.noVfs_within (s : State) : Within [.host] s s.noVfs := State.setHost_within

theorem State.pciReset_spec (s : State) (f : Nat) : s.pciReset.numVf = s.numVf ∧ s.pciReset.fetchedOf f = s.fetchedOf f ∧ s.pciReset.pci f = {} :=
  ⟨rfl, rfl, rfl⟩

theorem State.pciReset_within (s : State) : Within [.host] s s.pciReset := State.setHost_within

theorem State.flrAll_spec (s : State) : (∀ f : Fin 16, s.flrAll.fetchedOf f = []) ∧ EndsGroups s s.flrAll ∧
    ((∀ g ∈ s.groups, g.tbl < 64) → Writes abortKeys s s.flrAll) := by
  obtain ⟨hfetched, hends, hwrites⟩ := State.foldl_flrOne (List.range 16) s
  exact ⟨fun f => hfetched f (.inl (List.mem_range.2 f.isLt)), hends, hwrites⟩

theorem State.flrAll_within (s : State) : Within [.out, .regs, .boot, .rows, .journal, .groups, .host, .seam] s s.flrAll :=
  .foldl (fun _ _ h => h.step State.flrOne_within) .refl

/-! ## The link and AER -/

/-- The device once PERST_L has its new level. -/
def State.perstAt (s : State) (low : Bool) : State := { s with pins := { s.pins with perstL := !low } }

theorem doPerstL_acts {s : State} {low : Bool} (h : low = true ∧ s.mode ≠ .dormant) : doPerstL low s =
    (s.perstAt low).flrAll.noVfs.pciReset := by
  rw [← doFlr_pf]
  unfold doPerstL State.pciReset State.perstAt
  exact if_pos h

theorem doPerstL_idle {s : State} {low : Bool} (h : ¬ (low = true ∧ s.mode ≠ .dormant)) : doPerstL low s = s.perstAt low := if_neg h

/-- The device with the link at its new state. -/
def State.linkAt (s : State) (l : Option (BitVec 3 × BitVec 3)) : State :=
  { s with pins := { s.pins with pcieUp := l.isSome }, host := { s.host with pcieRate := (l.getD (0, 0)).1.toNat, pcieLanes := (l.getD (0, 0)).2.toNat } }

theorem doPcieLinkChange_acts {s : State} {l : Option (BitVec 3 × BitVec 3)} (h : s.pins.pcieUp ≠ l.isSome) (hm : s.mode ≠ .dormant) :
    doPcieLinkChange l s = (s.linkAt l).raise Ev.PCIE_LINK := if_neg (not_or.2 ⟨h, hm⟩)

/-- The AER status of a kind, and its mask. -/
def PciFn.aer (c : PciFn) (unc : Bool) : Nat := if unc then c.aerUnc else c.aerCor

/-- The configuration space with a bit of the AER status set. -/
def PciFn.aerSet (c : PciFn) (unc : Bool) (b : Nat) : PciFn := if unc then { c with aerUnc := c.aerUnc + 2 ^ b } else { c with aerCor := c.aerCor + 2 ^ b }

theorem PciFn.aer_aerSet (c : PciFn) (unc : Bool) (b : Nat) : (c.aerSet unc b).aer unc = 2 ^ b + c.aer unc := by
  cases unc <;> exact Nat.add_comm _ _

theorem KeepsEndpoint.aer {s t : State} (h : KeepsEndpoint s t) (f : Nat) (unc : Bool) : (t.pci f).aer unc = (s.pci f).aer unc := by
  cases unc
  · exact h.cor f
  · exact h.unc f

theorem doAerError_acts {s : State} {f : Fin 16} {unc : Bool} {b : BitVec 5} (hm : s.mode ≠ .dormant)
    (h : (if unc then (s.pci f).aerUnc else (s.pci f).aerCor).testBit b.toNat = false) : doAerError f unc b s =
    if (if unc then (s.pci f).aerUncMask else (s.pci f).aerCorMask).testBit b.toNat then s.setPci f ((s.pci f).aerSet unc b.toNat)
    else (s.setPci f ((s.pci f).aerSet unc b.toNat)).raiseEp Ev.PCIE_AER :=
  if_neg (not_or.2 ⟨hm, by rw [h]; exact Bool.false_ne_true⟩)

theorem State.raiseEp_keepsEndpoint (s : State) (n key : Nat) : KeepsEndpoint s (s.raiseEp n key) := by
  unfold State.raiseEp
  have hnoted : KeepsEndpoint s { s with host := { s.host with episodes := fput s.host.episodes (n + 1024 * key) s.tick.now } } := .of_pci rfl rfl
  exact .ite hnoted (hnoted.trans (State.raise_keepsEndpoint _ n))

/-- The first event of an episode is raised. -/
theorem State.raiseEp_first {s : State} {n : Nat} (h : fget s.host.episodes n = none) :
    s.raiseEp n = ({ s with host := { s.host with episodes := fput s.host.episodes n s.tick.now } } : State).raise n := by
  unfold State.raiseEp
  dsimp only
  rw [show n + 1024 * 0 = n from rfl, h]
  exact if_neg Bool.false_ne_true

theorem sealed_apart : Reg.BOOT_STATUS_SEALED.key < 8 * 0x150000 ∧ Reg.BOOT_STATUS_SEALED.key ∉ abortKeys := by decide

/-- Settles O53, by what one function-level reset clears; the wider resets repeat it for every function. -/
theorem endpointResets : Obligations.EndpointResets := by
  unfold Obligations.EndpointResets
  obtain ⟨hbelow, hapart⟩ := sealed_apart
  refine ⟨fun s f hm hf hl => ?_, fun s hm => ?_, fun s f hm => congrArg Host.Outcome.next (if_pos hm), fun s low => ?_,
    fun s l => ⟨fun hup hm => ?_, fun h => congrArg Host.Outcome.next (if_pos h)⟩,
    fun s f unc b => ⟨fun h => congrArg Host.Outcome.next (if_pos h), fun hm hclear => ?_⟩⟩
  · obtain ⟨-, hpci, -, hgone, hregs⟩ := s.flrOne_spec f
    obtain ⟨-, hzero⟩ := hregs hl
    refine ⟨_, congrArg Host.Outcome.next ((if_neg hm).trans (doFlr_vf hf)), s.fetchedOf_flrOne_same f, hpci, hzero, ?_,
      (State.flrOne_within.same .mode : s.mode = _).symm⟩
    rintro g hg ⟨hfunc, hpeer, hgrouped, hopen⟩
    have hend := hgone g hg
    simp [Group.flrEnds, hfunc, hpeer, hgrouped, hopen] at hend
  · obtain ⟨hfetched, -⟩ := s.flrAll_spec
    have hwithin : Within [.out, .regs, .boot, .rows, .journal, .groups, .host, .seam] s s.flrAll.noVfs := s.flrAll_within.step s.flrAll.noVfs_within
    exact ⟨_, congrArg Host.Outcome.next ((if_neg hm).trans (doFlr_pf s)), s.flrAll.numVf_noVfs, (hwithin.same .mode).symm,
      fun f => (s.flrAll.fetchedOf_noVfs f).trans (hfetched f)⟩
  · obtain ⟨hfetched, hends, hwrites⟩ := (s.perstAt low).flrAll_spec
    set u := (s.perstAt low).flrAll.noVfs.pciReset with hu
    have hlast : Within [.host] (s.perstAt low).flrAll u := (State.noVfs_within _).step (State.pciReset_within _)
    have hwithin : Within [.out, .regs, .boot, .rows, .journal, .groups, .host, .seam] (s.perstAt low) u := (s.perstAt low).flrAll_within.step hlast
    have hall : EndsGroups (s.perstAt low) u := hends.trans (.of_within hlast)
    by_cases h : low = true ∧ s.mode ≠ .dormant
    · refine ⟨u, congrArg Host.Outcome.next (doPerstL_acts h), (hwithin.same .pins).symm, (hwithin.same .mode).symm, hall.hdr,
        (hwithin.same .tables).symm, (hwithin.same .wrd).symm, (hwithin.same .sites).symm, (hwithin.same .chans).symm,
        (hwithin.same .lost).symm, hall.rows, fun hl => ((hwrites hl).trans (.of_within hlast)) _ _ _ hbelow hapart, fun _ _ => ?_⟩
      refine ⟨?_, fun f => ?_⟩
      · obtain ⟨hnum, -, -⟩ := (s.perstAt low).flrAll.noVfs.pciReset_spec 0
        exact hnum.trans (State.numVf_noVfs _)
      · obtain ⟨-, hring, hpci⟩ := (s.perstAt low).flrAll.noVfs.pciReset_spec f
        exact ⟨hring.trans ((State.fetchedOf_noVfs _ f).trans (hfetched f)), hpci⟩
    · exact ⟨_, congrArg Host.Outcome.next (doPerstL_idle h), rfl, rfl, rfl, rfl, rfl, rfl, rfl, rfl, rfl, fun _ => rfl,
        fun hlow hm => absurd ⟨hlow, hm⟩ h⟩
  · have hwithin : Within [.out, .regs, .boot, .host] (s.linkAt l) ((s.linkAt l).raise Ev.PCIE_LINK) := State.raise_within
    obtain ⟨_, _, _, _, _, _, hhost⟩ := (s.linkAt l).raise_calm Ev.PCIE_LINK
    exact ⟨_, congrArg Host.Outcome.next (doPcieLinkChange_acts hup hm), (hwithin.same .pins : (s.linkAt l).pins = _).symm,
      congrArg HostIf.pcieRate hhost, congrArg HostIf.pcieLanes hhost, fun hs => (s.linkAt l).get_count_raise _ (by decide) hs⟩
  · set t := s.setPci f ((s.pci f).aerSet unc b.toNat) with ht
    have hset : ((t.pci f).aer unc).testBit b.toNat = true := by
      rw [ht, s.pci_setPci_same, PciFn.aer_aerSet, Nat.testBit_two_pow_add_eq, show ((s.pci f).aer unc).testBit b.toNat = false from hclear]
      rfl
    have hkept : ∀ u, KeepsEndpoint t u → ((u.pci f).aer unc).testBit b.toNat = true := fun u hu => by
      rw [hu.aer f unc, hset]
    refine ⟨_, congrArg Host.Outcome.next (doAerError_acts hm hclear), hkept _ (.ite .refl (t.raiseEp_keepsEndpoint _ _)), fun hmask => ?_,
      fun hmask hs hfirst => ?_⟩
    · rw [if_pos hmask]
      exact ⟨rfl, rfl⟩
    · rw [if_neg (by rw [hmask]; exact Bool.false_ne_true), State.raiseEp_first (s := t) hfirst]
      exact State.get_count_raise _ _ (by decide) hs

end Sys2Proof.Machine
end

section
/-! PROOFS. The attached configuration memory (O50). -/

namespace Sys2Proof.Machine

set_option Elab.async false

/-! ## Bytes and words -/

theorem leNat_lt (l : List Byte) : leNat l < 256 ^ l.length := by
  induction l with
  | nil => exact Nat.one_pos
  | cons b l ih =>
    have hb := b.isLt
    rw [leNat, List.length_cons, Nat.pow_succ]
    omega

theorem leBytes_leNat (l : List Byte) : leBytes l.length (leNat l) = l := by
  induction l with
  | nil => rfl
  | cons b l ih =>
    have hb := b.isLt
    rw [leNat, List.length_cons, leBytes, show (b.toNat + 256 * leNat l) / 256 = leNat l by omega, ih]
    congr 1
    exact BitVec.eq_of_toNat_eq (by rw [BitVec.toNat_ofNat]; omega)

/-- The words of a list of bytes give back its bytes. -/
theorem flatMap_leAt (b : List Byte) (n : Nat) (h : 8 * n ≤ b.length) :
    ((List.range n).flatMap fun w => leBytes 8 (leAt b (8 * w) 8)) = b.take (8 * n) := by
  induction n with
  | zero => rfl
  | succ n ih =>
    have hlen : ((b.drop (8 * n)).take 8).length = 8 := by
      rw [List.length_take, List.length_drop]
      omega
    have hword : leBytes 8 (leAt b (8 * n) 8) = (b.drop (8 * n)).take 8 := by
      have := leBytes_leNat ((b.drop (8 * n)).take 8)
      rwa [hlen] at this
    rw [List.range_succ, List.flatMap_append, ih (by omega), Nat.mul_succ, List.take_add, ← hword]
    exact congrArg _ (List.append_nil _)

/-! ## The pass-through buffer -/

theorem State.length_ptBuf (s : State) : (s.ptBuf 256).length = 256 := by
  unfold State.ptBuf
  rw [List.length_take, List.length_flatMap]
  simp

/-- Where the pass-through buffer is kept. -/
def bufKeys : List Nat := (List.range 32).map fun w => Reg.CFG_PT_BUF_DATA.key w

/-- The words stored one by one in the places of a field. -/
theorem State.get_foldl_put (s : State) (v : Nat → Nat) (n : Nat) {w : Nat} (hw : w < n) :
    ((List.range n).foldl (fun (x : State) w => x.put Reg.CFG_PT_BUF_DATA (v w) w) s).get Reg.CFG_PT_BUF_DATA w = v w % 2 ^ 64 := by
  induction n with
  | zero => exact absurd hw (Nat.not_lt_zero _)
  | succ n ih =>
    rw [List.range_succ, List.foldl_append, List.foldl_cons, List.foldl_nil]
    by_cases h : w = n
    · subst h
      exact State.get_put_same ..
    · refine (State.get_put_ne _ _ _ _ _ _ _ _ ?_).trans (ih (by omega))
      simp only [Field.key, Reg.CFG_PT_BUF_DATA]
      omega

theorem State.ptBuf_fillPtBuf (s : State) (l : List Byte) (h : l.length ≤ 256) : (s.fillPtBuf l).ptBuf 256 = l ++ (s.ptBuf 256).drop l.length := by
  unfold State.fillPtBuf
  set b := l ++ (s.ptBuf 256).drop l.length with hb
  have hlen : b.length = 256 := by
    rw [hb, List.length_append, List.length_drop, s.length_ptBuf]
    omega
  have hword : ∀ w, leAt b (8 * w) 8 < 2 ^ 64 := fun w => by
    have hlt := leNat_lt ((b.drop (8 * w)).take 8)
    have hle : ((b.drop (8 * w)).take 8).length ≤ 8 := List.length_take_le ..
    exact lt_of_lt_of_le hlt ((Nat.pow_le_pow_right (by decide) hle).trans (by decide))
  have hget : ∀ w ∈ List.range 32, leBytes 8 (((List.range 32).foldl (fun (x : State) w => x.put Reg.CFG_PT_BUF_DATA (leAt b (8 * w) 8) w) s).get
      Reg.CFG_PT_BUF_DATA w) = leBytes 8 (leAt b (8 * w) 8) := fun w hw => by
    rw [s.get_foldl_put (fun w => leAt b (8 * w) 8) 32 (List.mem_range.1 hw), Nat.mod_eq_of_lt (hword w)]
  unfold State.ptBuf
  rw [List.flatMap_congr hget, flatMap_leAt b 32 (by omega), List.take_take]
  exact List.take_of_length_le (by omega)

theorem State.ptBuf_take (s : State) {n : Nat} (h : n ≤ 256) : s.ptBuf n = (s.ptBuf 256).take n := by
  unfold State.ptBuf
  rw [List.take_take, Nat.min_eq_left h]

theorem State.fillPtBuf_writes (s : State) (l : List Byte) : Writes bufKeys s (s.fillPtBuf l) := by
  unfold State.fillPtBuf
  set b := l ++ (s.ptBuf 256).drop l.length
  have hput : ∀ (ws : List Nat), ws ⊆ List.range 32 → ∀ t : State,
      Writes bufKeys t (ws.foldl (fun (x : State) w => x.put Reg.CFG_PT_BUF_DATA (leAt b (8 * w) 8) w) t) := by
    intro ws
    induction ws with
    | nil => exact fun _ _ => .refl
    | cons w ws ih =>
      intro hws t
      have hone : Writes bufKeys t (t.put Reg.CFG_PT_BUF_DATA (leAt b (8 * w) 8) w) :=
        (Writes.put _ _ _ _).mono fun _ hk => List.mem_singleton.1 hk ▸ List.mem_map.2 ⟨w, hws List.mem_cons_self, rfl⟩
      exact hone.trans (ih (fun _ h => hws (List.mem_cons_of_mem _ h)) _)
  exact hput _ (fun _ h => h) s

theorem bufKeys_below : ∀ w ∈ List.range 32, Reg.CFG_PT_BUF_DATA.key w < 8 * 0x150000 := by decide

/-- The buffer stays where none of its words is written. -/
theorem Writes.ptBuf {ks : List Nat} {s t : State} (h : Writes ks s t) (n : Nat)
    (hk : ∀ w ∈ List.range 32, Reg.CFG_PT_BUF_DATA.key w ∉ ks := by decide) : t.ptBuf n = s.ptBuf n := by
  unfold State.ptBuf
  refine congrArg (List.take n) (List.flatMap_congr fun w hw => ?_)
  rw [h Reg.CFG_PT_BUF_DATA w 0 (bufKeys_below w hw) (hk w hw)]

/-! ## Pass-through commands -/

/-- The device with GO written. -/
def State.ptAsked (s : State) (op : Nat) : State := s.touchIdle.put Reg.CFG_PT_CMD_OP op

theorem State.ptGo_run {s : State} (op : Nat) (hm : s.mode = .service ∨ s.mode = .recovery) (hb : s.flag Reg.CFG_PT_CMD_BUSY = false) :
    s.ptGo op = (s.ptAsked op).ptRun := if_neg (by rw [hb]; rcases hm with hm | hm <;> simp [hm])

theorem State.ptGo_ignored {s : State} (op : Nat) (h : (s.mode ≠ .service ∧ s.mode ≠ .recovery) ∨ s.flag Reg.CFG_PT_CMD_BUSY = true) :
    s.ptGo op = s := if_pos h

/-- What a pass-through command depends on: its operands, the master and the memory. -/
structure SamePt (s t : State) : Prop where
  addr : t.ptAddr = s.ptAddr
  len : t.ptLen = s.ptLen
  buf : ∀ n, t.ptBuf n = s.ptBuf n
  cfg : t.cfg = s.cfg
  boot : t.boot = s.boot
  mode : t.mode = s.mode
  out : t.out = s.out
  free : t.freeCtr = s.freeCtr

theorem State.ptAsked_samePt (s : State) (op : Nat) : SamePt s (s.ptAsked op) := by
  have hw : Writes [Reg.CFG_PT_CMD_OP.key] s (s.ptAsked op) := (Writes.of_regs rfl).trans (Writes.put Reg.CFG_PT_CMD_OP op 0 0)
  exact ⟨hw.get Reg.CFG_PT_CMD_ADDR, congrArg (· + 1) (hw.get Reg.CFG_PT_CMD_LEN), fun n => hw.ptBuf n, rfl, rfl, rfl, rfl, rfl⟩

theorem State.op_ptAsked (s : State) (op : Nat) (h : op < 4) : (s.ptAsked op).get Reg.CFG_PT_CMD_OP = op := State.get_put_of_lt _ _ _ _ _ h

namespace SamePt

variable {s t : State}

theorem readHeld (h : SamePt s t) : t.readHeld = s.readHeld := by
  unfold State.readHeld State.pageSize
  rw [h.cfg, h.addr, h.len]

theorem masterBusy (h : SamePt s t) : t.masterBusy = s.masterBusy := by
  unfold State.masterBusy State.logDue
  rw [h.cfg, h.boot]

theorem ptRefusal (h : SamePt s t) : t.ptRefusal = s.ptRefusal := by
  unfold State.ptRefusal State.isProtected State.protectedFrom State.memSize State.pageSize
  rw [h.cfg, h.addr, h.len, h.mode, h.boot]

theorem statusByte (h : SamePt s t) : t.statusByte = s.statusByte := by
  unfold State.statusByte State.peek
  rw [h.cfg, h.free]

theorem memBytes (h : SamePt s t) (a n : Nat) : t.memBytes a n = s.memBytes a n := by
  unfold State.memBytes State.memByte State.memSize
  rw [h.cfg]

end SamePt

theorem State.ptRun_read {s : State} (h : s.get Reg.CFG_PT_CMD_OP = 0) : s.ptRun =
    if s.readHeld then s.put Reg.CFG_PT_CMD_BUSY 1 else ((s.put Reg.CFG_PT_CMD_BUSY 1).fillPtBuf (s.memBytes s.ptAddr s.ptLen)).ptDone 0 := by
  unfold State.ptRun
  rw [h]
  rfl

theorem State.ptRun_write {s : State} (h : s.get Reg.CFG_PT_CMD_OP = 1) : s.ptRun =
    if s.masterBusy then s.put Reg.CFG_PT_CMD_BUSY 1
    else if s.ptRefusal ≠ 0 then ((s.put Reg.CFG_PT_CMD_BUSY 1).put Reg.CFG_STATUS_BP s.cfg.dev.bp).ptDone s.ptRefusal
    else (s.put Reg.CFG_PT_CMD_BUSY 1).programPage s.ptAddr (s.ptBuf s.ptLen) 1 := by
  unfold State.ptRun
  rw [h]
  rfl

theorem State.ptRun_status {s : State} (h : s.get Reg.CFG_PT_CMD_OP = 2) : s.ptRun =
    if s.masterBusy then s.put Reg.CFG_PT_CMD_BUSY 1 else ((s.put Reg.CFG_PT_CMD_BUSY 1).drawn.fillPtBuf [s.statusByte]).ptDone 0 := by
  unfold State.ptRun
  rw [h]
  rfl

theorem State.ptRun_invalid {s : State} (h : s.get Reg.CFG_PT_CMD_OP = 3) : s.ptRun = (s.put Reg.CFG_PT_CMD_BUSY 1).ptDone 5 := by
  unfold State.ptRun
  rw [h]
  rfl

/-- How a pass-through command ends. -/
theorem State.ptDone_spec (s : State) (r : Nat) (hr : r < 8) : (s.ptDone r).get Reg.CFG_PT_CMD_RESULT = r ∧
    (s.ptDone r).flag Reg.CFG_PT_CMD_BUSY = false ∧ (∀ n, (s.ptDone r).ptBuf n = s.ptBuf n) ∧ (s.ptDone r).cfg = s.cfg ∧ (s.ptDone r).out = s.out := by
  have hw : Writes [Reg.CFG_PT_CMD_BUSY.key, Reg.CFG_PT_CMD_RESULT.key] s (s.ptDone r) :=
    ((Writes.put Reg.CFG_PT_CMD_BUSY 0 0 0).mono (by simp)).step (Writes.put Reg.CFG_PT_CMD_RESULT r 0 0)
  refine ⟨State.get_put_of_lt _ _ _ _ _ hr, ?_, fun n => hw.ptBuf n, rfl, rfl⟩
  exact ((Writes.put Reg.CFG_PT_CMD_RESULT r 0 0).flag Reg.CFG_PT_CMD_BUSY).trans (State.flag_putB_same s Reg.CFG_PT_CMD_BUSY false 0 0 rfl)

theorem State.ptBuf_busy (s : State) (n : Nat) : (s.put Reg.CFG_PT_CMD_BUSY 1).ptBuf n = s.ptBuf n := (Writes.put Reg.CFG_PT_CMD_BUSY 1 0 0).ptBuf n

theorem State.ptRefusal_lt (s : State) : s.ptRefusal < 8 := by
  unfold State.ptRefusal
  split
  · decide
  split
  · decide
  have hlast : ∀ (c : Prop) [Decidable c], (if c then 4 else 0) < 8 := fun c _ => by split <;> decide
  exact hlast _

/-- The bits of the status register that the manual states. -/
theorem statusBits (x : Nat) : (x &&& 0xF2) ≤ 0xF2 ∧ (x &&& 0xF2) % 2 = 0 ∧ (x &&& 0xF2) / 4 % 4 = 0 := by
  refine ⟨Nat.and_le_right, ?_, ?_⟩
  · exact (Nat.and_mod_two_pow (n := 1)).trans (Nat.and_zero _)
  · rw [show (x &&& 0xF2) / 4 = x / 4 &&& 0xF2 / 4 from Nat.and_div_two_pow (n := 2)]
    exact (Nat.and_mod_two_pow (n := 2)).trans (Nat.and_zero _)

theorem State.statusByte_bits {s : State} (h : s.cfg.prog = none) : s.statusByte.getLsbD 0 = false ∧ bits s.statusByte 3 2 = s.cfg.dev.bp % 4 := by
  obtain ⟨hle, heven, hbits⟩ := statusBits (s.peek % 256)
  have hbyte : s.statusByte.toNat = (s.peek % 256 &&& 0xF2) + 4 * (s.cfg.dev.bp % 4) := by
    unfold State.statusByte
    rw [h, BitVec.toNat_ofNat]
    simp only [Option.isSome_none, Bool.false_eq_true, if_false]
    omega
  constructor
  · rw [BitVec.getLsbD, hbyte, Nat.testBit_zero, decide_eq_false_iff_not]
    omega
  · rw [bits, hbyte, Nat.shiftRight_eq_div_pow]
    omega

theorem State.prog_of_masterFree {s : State} (h : s.masterBusy = false) : s.cfg.prog = none := by
  unfold State.masterBusy at h
  cases hprog : s.cfg.prog with
  | none => rfl
  | some p => rw [hprog] at h; exact Bool.noConfusion h

/-! ## Bytes in the memory -/

/-- Bytes are put one after another from an address on, which is taken modulo n. -/
def putFrom (m : FMap Byte) (a n : Nat) (l : List (Byte × Nat)) : FMap Byte := l.foldl (fun m e => fset m ((a + e.2) % n) 0 e.1) m

theorem putFrom_apart (a n x : Nat) (l : List Byte) (k : Nat) (m : FMap Byte) (h : ∀ i < l.length, (a + (k + i)) % n ≠ x) :
    fgetD (putFrom m a n (l.zipIdx k)) x 0 = fgetD m x 0 := by
  induction l generalizing k m with
  | nil => rfl
  | cons b l ih =>
    rw [List.zipIdx_cons, putFrom, List.foldl_cons]
    refine (ih (k + 1) _ fun i hi => ?_).trans (fgetD_fset_ne _ _ _ _ (h 0 (Nat.succ_pos _)))
    have hnext := h (i + 1) (Nat.succ_lt_succ hi)
    rwa [show k + (i + 1) = k + 1 + i by omega] at hnext

theorem putFrom_at (a n : Nat) (l : List Byte) (k : Nat) (m : FMap Byte) (hl : l.length ≤ n) (i : Nat) (hi : i < l.length) :
    fgetD (putFrom m a n (l.zipIdx k)) ((a + (k + i)) % n) 0 = l[i] := by
  induction l generalizing k m i with
  | nil => exact absurd hi (Nat.not_lt_zero _)
  | cons b l ih =>
    rw [List.zipIdx_cons, putFrom, List.foldl_cons]
    rw [List.length_cons] at hl hi
    cases i with
    | zero =>
      refine (putFrom_apart a n _ l (k + 1) _ fun i hi' he => ?_).trans (fgetD_fset_same ..)
      have hmod : (1 + i) % n = 0 := by
        have h1 : (a + (k + 1 + i)) % n = (a + (k + 0)) % n := he
        have h2 : (a + k + (1 + i)) % n = (a + k + 0) % n := by
          rw [show a + k + (1 + i) = a + (k + 1 + i) by omega, h1]
          rfl
        exact Nat.ModEq.add_left_cancel' (a + k) h2
      rw [Nat.mod_eq_of_lt (by omega)] at hmod
      omega
    | succ i =>
      have hrest := ih (k + 1) (fset m ((a + k) % n) 0 b) (by omega) i (by omega)
      rwa [show k + 1 + i = k + (i + 1) by omega] at hrest

theorem State.memByte_memPut_apart (s : State) (a : Nat) (l : List Byte) (x : Nat) (h : ∀ i < l.length, (a + i) % s.memSize ≠ x % s.memSize) :
    (s.memPut a l).memByte x = s.memByte x :=
  putFrom_apart a s.memSize (x % s.memSize) l 0 s.cfg.mem fun i hi => by rw [Nat.zero_add]; exact h i hi

theorem State.memBytes_memPut (s : State) (a : Nat) (l : List Byte) (h : l.length ≤ s.memSize) : (s.memPut a l).memBytes a l.length = l := by
  unfold State.memBytes
  refine List.ext_getElem (by simp) fun i h1 h2 => ?_
  rw [List.getElem_map, List.getElem_range]
  have hat := putFrom_at a s.memSize l 0 s.cfg.mem h i h2
  rwa [Nat.zero_add] at hat

/-- From s to t the bytes of the memory stay. -/
def KeepsMem (s t : State) : Prop := t.cfg.mem = s.cfg.mem ∧ t.cfg.dev = s.cfg.dev

namespace KeepsMem

variable {s t u : State}

theorem refl : KeepsMem s s := ⟨rfl, rfl⟩

theorem trans (h : KeepsMem s t) (k : KeepsMem t u) : KeepsMem s u := ⟨k.1.trans h.1, k.2.trans h.2⟩

theorem ite {c : Prop} [Decidable c] (h : KeepsMem s t) (k : KeepsMem s u) : KeepsMem s (if c then t else u) := by
  split
  · exact h
  · exact k

theorem of_cfg (h : s.cfg = t.cfg) : KeepsMem s t := by
  unfold KeepsMem
  rw [h]
  exact ⟨rfl, rfl⟩

theorem of_within {w : List Part} (h : Within w s t) (hw : Part.cfg ∉ w := by decide) : KeepsMem s t := of_cfg (h.same .cfg hw)

theorem memByte (h : KeepsMem s t) (a : Nat) : t.memByte a = s.memByte a := by
  unfold State.memByte State.memSize
  rw [h.1, h.2]

theorem memBytes (h : KeepsMem s t) (a n : Nat) : t.memBytes a n = s.memBytes a n := List.map_congr_left fun i _ => h.memByte (a + i)

end KeepsMem

theorem State.programPage_keepsMem (s : State) (a : Nat) (l : List Byte) (who : Nat) : KeepsMem s (s.programPage a l who) := ⟨rfl, rfl⟩

theorem State.cfg_programPage {s : State} {c : Cfg} (h : s.cfg = c) (a : Nat) (l : List Byte) (who : Nat) :
    (s.programPage a l who).cfg = { c with prog := some ⟨a, l, who⟩ } := by
  rw [← h]
  rfl

theorem State.ptRun_keepsMem (s : State) : KeepsMem s s.ptRun := by
  have hbusy : KeepsMem s (s.put Reg.CFG_PT_CMD_BUSY 1) := ⟨rfl, rfl⟩
  have hbp : ∀ t : State, KeepsMem t (t.put Reg.CFG_STATUS_BP s.cfg.dev.bp) := fun _ => ⟨rfl, rfl⟩
  unfold State.ptRun
  dsimp only
  split
  · exact .ite hbusy ((hbusy.trans (.of_within State.fillPtBuf_within)).trans (.of_within State.ptDone_within))
  · exact .ite hbusy (.ite ((hbusy.trans (hbp _)).trans (.of_within State.ptDone_within)) (hbusy.trans (State.programPage_keepsMem _ _ _ _)))
  · have hdrawn : KeepsMem s (s.put Reg.CFG_PT_CMD_BUSY 1).drawn := ⟨rfl, rfl⟩
    exact .ite hbusy ((hdrawn.trans (.of_within State.fillPtBuf_within)).trans (.of_within State.ptDone_within))
  · exact hbusy.trans (.of_within State.ptDone_within)

theorem State.masterFree_keepsMem (s : State) : KeepsMem s s.masterFree := .ite s.ptRun_keepsMem .refl

theorem State.writeHead_keepsMem (s : State) (h : ImageHdr) : KeepsMem s (s.writeHead h) := by
  unfold State.writeHead
  exact .ite ⟨rfl, rfl⟩ ⟨rfl, rfl⟩

/-- From s to t the operands and the result of the pass-through may change, and its buffer. -/
def ptKeys : List Nat := bufKeys ++ [Reg.CFG_PT_CMD_BUSY.key, Reg.CFG_PT_CMD_RESULT.key, Reg.CFG_STATUS_BP.key]

theorem State.ptDone_writes (s : State) (r : Nat) : Writes ptKeys s (s.ptDone r) :=
  ((Writes.put Reg.CFG_PT_CMD_BUSY 0 0 0).mono (by simp [ptKeys])).step (Writes.put Reg.CFG_PT_CMD_RESULT r 0 0) (by simp [ptKeys])

theorem State.ptRun_writes (s : State) : Writes ptKeys s s.ptRun := by
  have hbusy : Writes ptKeys s (s.put Reg.CFG_PT_CMD_BUSY 1) := (Writes.put _ _ _ _).mono (by simp [ptKeys])
  have hfill : ∀ (t : State) (l : List Byte), Writes ptKeys t (t.fillPtBuf l) := fun t l => (t.fillPtBuf_writes l).mono (by simp [ptKeys])
  have hbp : ∀ t : State, Writes ptKeys t (t.put Reg.CFG_STATUS_BP s.cfg.dev.bp) := fun t => (Writes.put _ _ _ _).mono (by simp [ptKeys])
  unfold State.ptRun
  dsimp only
  split
  · exact .ite hbusy ((hbusy.trans (hfill _ _)).trans (State.ptDone_writes _ _))
  · exact .ite hbusy (.ite ((hbusy.trans (hbp _)).trans (State.ptDone_writes _ _)) ((hbusy.trans (hbp _)).trans (.of_regs rfl)))
  · have hdrawn : Writes ptKeys s (s.put Reg.CFG_PT_CMD_BUSY 1).drawn := hbusy.trans (.of_regs rfl)
    exact .ite hbusy ((hdrawn.trans (hfill _ _)).trans (State.ptDone_writes _ _))
  · exact hbusy.trans (State.ptDone_writes _ _)

theorem State.masterFree_writes (s : State) : Writes ptKeys s s.masterFree := .ite s.ptRun_writes .refl

theorem State.masterFree_idle {s : State} (h : s.flag Reg.CFG_PT_CMD_BUSY = false) : s.masterFree = s := if_neg (by rw [h]; exact Bool.false_ne_true)

/-! ## The log -/

/-- The device with the oldest log entry taken off, past an entry that was written already. -/
def State.logTaken (s : State) (h : ImageHdr) (rest : List LogOwed) : State := ({ s with cfg := { s.cfg with logs := rest } } : State).skipWritten h

theorem State.logTaken_spec (s : State) (h : ImageHdr) (rest : List LogOwed) : (s.logTaken h rest).cfg = { s.cfg with logs := rest } ∧
    Writes [Reg.CFG_LOG_NEXT.key, Reg.CFG_LOG_COUNT.key] s (s.logTaken h rest) := by
  have hskip : Within [.regs] ({ s with cfg := { s.cfg with logs := rest } } : State) (s.logTaken h rest) := State.skipWritten_within
  refine ⟨(hskip.same .cfg : ({ s with cfg := { s.cfg with logs := rest } } : State).cfg = _).symm, ?_⟩
  have hregs : Writes [Reg.CFG_LOG_NEXT.key, Reg.CFG_LOG_COUNT.key] s { s with cfg := { s.cfg with logs := rest } } := .of_regs rfl
  unfold State.logTaken State.skipWritten
  exact .ite ((hregs.step (Writes.put Reg.CFG_LOG_NEXT _ 0 0)).step (Writes.put Reg.CFG_LOG_COUNT _ 0 0)) hregs

/-- The device once a protected entry is withheld. -/
def State.withheld (t : State) (bp : Nat) : State := (t.put Reg.CFG_STATUS_BP bp).bump Reg.CFG_CNT_PROTECTED_COUNT

theorem doLogWrite_eq {s : State} {h : ImageHdr} {e : LogOwed} {rest : List LogOwed} (hhdr : s.boot.hdr = some h) (hlogs : s.cfg.logs = e :: rest)
    (hprog : s.cfg.prog = none) (hm : s.mode ≠ .dormant) : doLogWrite s =
    if (s.logTaken h rest).isProtected ((s.logTaken h rest).slotAddr h ((s.logTaken h rest).get Reg.CFG_LOG_NEXT)) 32 then
      ((s.logTaken h rest).withheld s.cfg.dev.bp).masterFree
    else (s.logTaken h rest).programPage ((s.logTaken h rest).slotAddr h ((s.logTaken h rest).get Reg.CFG_LOG_NEXT))
      (logEntry ((s.logTaken h rest).get Reg.CFG_LOG_COUNT) e.type e.tick (BitVec.ofNat 96 e.data)) 0 := by
  unfold doLogWrite
  rw [hhdr, hlogs]
  dsimp only
  rw [if_neg (by simp [hprog, hm])]
  rfl

theorem doLogWrite_none {s : State} (h : s.boot.hdr = none ∨ s.cfg.logs = [] ∨ s.cfg.prog ≠ none ∨ s.mode = .dormant) : doLogWrite s = s := by
  unfold doLogWrite
  split
  next hdr e rest hhdr hlogs =>
    refine if_pos ?_
    rcases h with h | h | h | h
    · rw [hhdr] at h
      exact nomatch h
    · rw [hlogs] at h
      exact nomatch h
    · exact .inl (Option.isSome_iff_ne_none.2 h)
    · exact .inr h
  · rfl

/-! ## The end of a page program -/

/-- The memory with a program's bytes, the program over. -/
def State.programmed (s : State) (p : PageProg) : State := (s.memPut p.addr p.bytes).setCfg { (s.memPut p.addr p.bytes).cfg with prog := none }

theorem State.programmed_keepsMem (s : State) (p : PageProg) : KeepsMem (s.memPut p.addr p.bytes) (s.programmed p) := ⟨rfl, rfl⟩

theorem doPageProgramDone_eq {s : State} {p : PageProg} (h : s.cfg.prog = some p) : doPageProgramDone s =
    if p.who = 1 then (s.programmed p).ptDone 0
    else if p.who = 0 then
      match (s.programmed p).boot.hdr with
      | some h => if ((s.programmed p).writeHead h).cfg.prog.isSome then (s.programmed p).writeHead h else ((s.programmed p).writeHead h).masterFree
      | none => (s.programmed p).masterFree
    else (s.programmed p).masterFree := by
  unfold doPageProgramDone
  rw [h]
  rfl

theorem doPageProgramDone_keepsMem {s : State} {p : PageProg} (h : s.cfg.prog = some p) : KeepsMem (s.memPut p.addr p.bytes) (doPageProgramDone s) := by
  rw [doPageProgramDone_eq h]
  have hput := s.programmed_keepsMem p
  refine .ite (hput.trans (.of_within State.ptDone_within)) (.ite ?_ (hput.trans (State.masterFree_keepsMem _)))
  split
  next hdr _ =>
    have hhead := hput.trans ((s.programmed p).writeHead_keepsMem hdr)
    exact .ite hhead (hhead.trans (State.masterFree_keepsMem _))
  · exact hput.trans (State.masterFree_keepsMem _)

theorem doSpiWriteTimeout_eq {s : State} {p : PageProg} (h : s.cfg.prog = some p) : doSpiWriteTimeout s =
    if p.who = 1 then (((State.scrambled p.bytes.length s p.addr).setCfg { (State.scrambled p.bytes.length s p.addr).cfg with prog := none }).setRaise
      Reg.CFG_STATUS_WRITE_TO Ev.CFG_WRITE_TIMEOUT).ptDone 3
    else (((State.scrambled p.bytes.length s p.addr).setCfg { (State.scrambled p.bytes.length s p.addr).cfg with prog := none }).setRaise
      Reg.CFG_STATUS_WRITE_TO Ev.CFG_WRITE_TIMEOUT).masterFree := by
  unfold doSpiWriteTimeout
  rw [h]

/-- A program that fails leaves the bytes of other addresses. -/
theorem State.scrambled_spec (n : Nat) (s : State) (a : Nat) : (State.scrambled n s a).cfg.dev = s.cfg.dev ∧
    ∀ x, (∀ i < n, (a + i) % s.memSize ≠ x % s.memSize) → (State.scrambled n s a).memByte x = s.memByte x := by
  induction n generalizing s a with
  | zero => exact ⟨rfl, fun _ _ => rfl⟩
  | succ n ih =>
    obtain ⟨hdev, hbytes⟩ := ih (s.drawn.memPut a [BitVec.ofNat 8 s.peek]) (a + 1)
    refine ⟨hdev, fun x hx => (hbytes x fun i hi => ?_).trans (s.drawn.memByte_memPut_apart a _ x fun i hi => ?_)⟩
    · have hnext := hx (i + 1) (Nat.succ_lt_succ hi)
      rwa [show a + (i + 1) = a + 1 + i by omega] at hnext
    · rw [Nat.lt_one_iff.1 hi]
      exact hx 0 (Nat.succ_pos n)

/-! ## The care pass -/

/-- Where a care pass keeps what it finds. -/
def careKeys : List Nat := [Reg.CFG_CNT_CORR_COUNT.key, Reg.CFG_CNT_PROTECTED_COUNT.key, Reg.CFG_CNT_UNCORR_COUNT.key, Reg.CFG_CNT_REFRESH_COUNT.key,
  Reg.CFG_STATUS_DAMAGED_A.key, Reg.CFG_STATUS_DAMAGED_B.key]

/-- What a step of a care pass leaves. -/
structure Cares (s t : State) : Prop where
  prog : t.cfg.prog = s.cfg.prog
  dev : t.cfg.dev = s.cfg.dev
  grows : Grows s t
  writes : Writes careKeys s t

namespace Cares

variable {s t u : State}

theorem refl : Cares s s := ⟨rfl, rfl, .refl, .refl⟩

theorem trans (h : Cares s t) (k : Cares t u) : Cares s u :=
  ⟨k.prog.trans h.prog, k.dev.trans h.dev, h.grows.trans k.grows, h.writes.trans k.writes⟩

theorem ite {c : Prop} [Decidable c] (h : Cares s t) (k : Cares s u) : Cares s (if c then t else u) := by
  split
  · exact h
  · exact k

theorem foldl {α : Type} {f : State → α → State} (hf : ∀ t a, Cares t (f t a)) {l : List α} {s : State} : Cares s (l.foldl f s) := by
  induction l generalizing s with
  | nil => exact .refl
  | cons a l ih => exact (hf s a).trans ih

theorem bump (F : Field) (h : F.key ∈ careKeys := by simp [careKeys]) : Cares s (s.bump F) :=
  ⟨rfl, rfl, .of_out rfl, (Writes.bump F 1 0 0).mono fun _ hk => List.mem_singleton.1 hk ▸ h⟩

theorem emit (o : Output) : Cares s (s.emit o) := ⟨rfl, rfl, .emit o, .of_regs rfl⟩

theorem oweLog (n d : Nat) : Cares s (s.oweLog n d) := ⟨rfl, rfl, .of_out rfl, .of_regs rfl⟩

theorem setRaise (F : Field) (n : Nat) (h : F.key ∈ careKeys := by simp [careKeys]) : Cares s (s.setRaise F n) := by
  have hcfg : s.cfg = (s.setRaise F n).cfg := State.setRaise_within.same .cfg
  have hput : Grows s (s.put F 1) := .of_out rfl
  exact ⟨congrArg Cfg.prog hcfg.symm, congrArg Cfg.dev hcfg.symm, hput.trans (State.raise_grows _ n),
    (Writes.setRaise F n).mono fun _ hk => List.mem_singleton.1 hk ▸ h⟩

end Cares

theorem State.memPut_cares (s : State) (a : Nat) (l : List Byte) : Cares s (s.memPut a l) := ⟨rfl, rfl, .of_out rfl, .of_regs rfl⟩

theorem State.rewrite_cares (s : State) (a : Nat) (l : List Byte) : Cares s (s.rewrite a l) := by
  unfold State.rewrite
  exact .ite (.bump _) (((s.memPut_cares a l).trans (.emit _)).trans (.bump _))

theorem State.careGroup_cares (data check : Nat) (x : State × Option Nat) (j : Nat) : Cares x.1 (State.careGroup data check x j).1 := by
  unfold State.careGroup
  dsimp only
  split
  · exact .refl
  · exact .ite (State.rewrite_cares _ _ _) (State.rewrite_cares _ _ _)
  · exact .bump _

theorem State.careGroups_cares (data check : Nat) (l : List Nat) (x : State × Option Nat) : Cares x.1 (l.foldl (State.careGroup data check) x).1 := by
  induction l generalizing x with
  | nil => exact .refl
  | cons j l ih => exact (State.careGroup_cares data check x j).trans (ih _)

theorem State.careCopy_cares (s : State) (c : Nat) : Cares s (s.careCopy c) := by
  unfold State.careCopy
  split
  · exact .refl
  · extract_lets b x y
    have hx : Cares s x.1 := State.careGroups_cares _ _ _ (s, none)
    have hy : Cares s y.1 := hx.trans (State.careGroups_cares _ _ _ x)
    refine .ite .refl ?_
    split
    · exact hy
    · refine (hy.trans ?_).trans (.oweLog _ _)
      split
      · exact .setRaise _ _
      · exact .setRaise _ _

/-- The refresh of a page in a care pass. -/
def State.refreshPage (s : State) (p : Nat) : State :=
  ((s.bump Reg.CFG_CNT_REFRESH_COUNT).emit (.pageRefresh p)).oweLog 7 (s.copyGroup (p * s.pageSize))

theorem State.refreshPage_spec (s : State) (p : Nat) : Cares s (s.refreshPage p) ∧ .pageRefresh p ∈ (s.refreshPage p).out :=
  ⟨((Cares.bump _).trans (.emit _)).trans (.oweLog _ _), List.mem_cons_self⟩

theorem State.refreshPages_spec (l : List Nat) (s : State) : Cares s (l.foldl State.refreshPage s) ∧
    ∀ p ∈ l, .pageRefresh p ∈ (l.foldl State.refreshPage s).out := by
  induction l generalizing s with
  | nil => exact ⟨.refl, fun _ h => nomatch h⟩
  | cons q l ih =>
    obtain ⟨hone, hout⟩ := s.refreshPage_spec q
    obtain ⟨hrest, hall⟩ := ih (s.refreshPage q)
    refine ⟨hone.trans hrest, fun p hp => ?_⟩
    rcases List.mem_cons.1 hp with rfl | hp
    · exact hrest.grows _ hout
    · exact hall p hp

/-- The pages that a care pass refreshes. -/
def State.carePages (s : State) (diff : List Nat) : List Nat := if s.flag Reg.CFG_STATUS_REFRESH then diff.filter s.carePage else []

theorem doCarePass_eq {s : State} {diff : List Nat} (hm : s.mode = .service ∨ s.mode = .recovery) (hprog : s.cfg.prog = none)
    (hdev : s.cfg.dev.present = true) : doCarePass diff s =
    ((((s.carePages diff).foldl State.refreshPage (s.put Reg.CFG_STATUS_BP s.cfg.dev.bp)).careCopy 0).careCopy 1) :=
  if_neg (by rcases hm with hm | hm <;> simp [hm, hprog, hdev])

theorem careKeys_bp : Reg.CFG_STATUS_BP.key ∉ careKeys := by decide

/-- Settles O50, by the pass-through operation, and by the end that each page program has. -/
theorem configurationMemory : Obligations.ConfigurationMemory := by
  unfold Obligations.ConfigurationMemory
  refine ⟨⟨fun s hm hb => ⟨fun hread hlen => ?_, fun hheld => ?_, fun hfree => ?_, fun hfree => ?_, fun i hi hbusy => ?_, ?_⟩,
    fun s i hi h => ?_⟩, fun s u h e rest hhdr hlogs hprog hm hu => ?_, fun s h => congrArg Host.Outcome.next (doLogWrite_none h),
    fun s p hp hlen => ?_, fun s p hp hpt => ?_, fun s i hi h => ?_, fun s diff => ⟨fun hm hprog hdev => ?_, fun h => congrArg Host.Outcome.next (if_pos ?_)⟩⟩
  · have hsame := s.ptAsked_samePt 0
    have hrun := State.ptRun_read (s.op_ptAsked 0 (by decide))
    rw [if_neg (by rw [hsame.readHeld, hread]; exact Bool.false_ne_true), hsame.addr, hsame.len, hsame.memBytes] at hrun
    obtain ⟨hresult, hdone, hbuf, hcfg, -⟩ := State.ptDone_spec (((s.ptAsked 0).put Reg.CFG_PT_CMD_BUSY 1).fillPtBuf (s.memBytes s.ptAddr s.ptLen)) 0 (by decide)
    have hfill : Within [.regs] ((s.ptAsked 0).put Reg.CFG_PT_CMD_BUSY 1) _ := State.fillPtBuf_within (l := s.memBytes s.ptAddr s.ptLen)
    refine ⟨_, congrArg Host.Outcome.next ((State.ptGo_run 0 hm hb).trans hrun), ?_, hresult, hdone, hcfg.trans ((hfill.same .cfg : s.cfg = _).symm)⟩
    have hcount : (s.memBytes s.ptAddr s.ptLen).length = s.ptLen := by
      unfold State.memBytes
      rw [List.length_map, List.length_range]
    rw [hbuf, State.ptBuf_fillPtBuf _ _ (by rw [hcount]; exact hlen), hcount, State.ptBuf_busy, hsame.buf]
  · have hsame := s.ptAsked_samePt 0
    have hrun := State.ptRun_read (s.op_ptAsked 0 (by decide))
    rw [if_pos (by rw [hsame.readHeld, hheld])] at hrun
    refine ⟨_, congrArg Host.Outcome.next ((State.ptGo_run 0 hm hb).trans hrun), State.flag_put_one _ _ _ _ rfl, ?_, rfl⟩
    rw [State.ptBuf_busy, hsame.buf]
  · have hsame := s.ptAsked_samePt 1
    have hrun := State.ptRun_write (s.op_ptAsked 1 (by decide))
    rw [if_neg (by rw [hsame.masterBusy, hfree]; exact Bool.false_ne_true), hsame.ptRefusal, hsame.addr, hsame.buf, hsame.len, hsame.cfg] at hrun
    refine ⟨_, congrArg Host.Outcome.next ((State.ptGo_run 1 hm hb).trans hrun), fun hok => ?_, fun hrefused => ?_⟩
    · rw [if_neg (not_not.2 hok)]
      refine ⟨rfl, ?_, rfl⟩
      exact ((Writes.put Reg.CFG_STATUS_BP s.cfg.dev.bp 0 0).flag Reg.CFG_PT_CMD_BUSY).trans (State.flag_put_one (s.ptAsked 1) Reg.CFG_PT_CMD_BUSY 0 0 rfl)
    · rw [if_pos hrefused]
      obtain ⟨hresult, hdone, -, hcfg, -⟩ := State.ptDone_spec (((s.ptAsked 1).put Reg.CFG_PT_CMD_BUSY 1).put Reg.CFG_STATUS_BP s.cfg.dev.bp) s.ptRefusal
        s.ptRefusal_lt
      exact ⟨hcfg, hresult, hdone⟩
  · have hsame := s.ptAsked_samePt 2
    have hrun := State.ptRun_status (s.op_ptAsked 2 (by decide))
    rw [if_neg (by rw [hsame.masterBusy, hfree]; exact Bool.false_ne_true), hsame.statusByte] at hrun
    obtain ⟨hresult, hdone, hbuf, hcfg, -⟩ := State.ptDone_spec (((s.ptAsked 2).put Reg.CFG_PT_CMD_BUSY 1).drawn.fillPtBuf [s.statusByte]) 0 (by decide)
    have hfill : Within [.regs] ((s.ptAsked 2).put Reg.CFG_PT_CMD_BUSY 1).drawn _ := State.fillPtBuf_within (l := [s.statusByte])
    obtain ⟨hbusy, hbp⟩ := State.statusByte_bits (State.prog_of_masterFree hfree)
    refine ⟨_, s.statusByte, congrArg Host.Outcome.next ((State.ptGo_run 2 hm hb).trans hrun), ?_, hbusy, hbp, hresult, hdone,
      hcfg.trans ((hfill.same .cfg : s.cfg = _).symm)⟩
    rw [hbuf, State.ptBuf_take _ (by decide), State.ptBuf_fillPtBuf _ [s.statusByte] (show 1 ≤ 256 by decide)]
    rfl
  · simp only [List.mem_cons, List.not_mem_nil, or_false] at hi
    rcases hi with rfl | rfl
    · have hrun := State.ptRun_write (s.op_ptAsked 1 (by decide))
      rw [if_pos (by rw [(s.ptAsked_samePt 1).masterBusy, hbusy])] at hrun
      exact ⟨_, congrArg Host.Outcome.next ((State.ptGo_run 1 hm hb).trans hrun), State.flag_put_one _ _ _ _ rfl, rfl, rfl⟩
    · have hrun := State.ptRun_status (s.op_ptAsked 2 (by decide))
      rw [if_pos (by rw [(s.ptAsked_samePt 2).masterBusy, hbusy])] at hrun
      exact ⟨_, congrArg Host.Outcome.next ((State.ptGo_run 2 hm hb).trans hrun), State.flag_put_one _ _ _ _ rfl, rfl, rfl⟩
  · have hrun := State.ptRun_invalid (s.op_ptAsked 3 (by decide))
    obtain ⟨hresult, hdone, -, hcfg, -⟩ := State.ptDone_spec ((s.ptAsked 3).put Reg.CFG_PT_CMD_BUSY 1) 5 (by decide)
    exact ⟨_, congrArg Host.Outcome.next ((State.ptGo_run 3 hm hb).trans hrun), hresult, hdone, hcfg⟩
  · simp only [List.mem_cons, List.not_mem_nil, or_false] at hi
    rcases hi with rfl | rfl | rfl | rfl
    · exact congrArg Host.Outcome.next (State.ptGo_ignored 0 h)
    · exact congrArg Host.Outcome.next (State.ptGo_ignored 1 h)
    · exact congrArg Host.Outcome.next (State.ptGo_ignored 2 h)
    · exact congrArg Host.Outcome.next (State.ptGo_ignored 3 h)
  · have hu' : u = s.logTaken h rest := hu
    obtain ⟨hcfg, hwrites⟩ := s.logTaken_spec h rest
    have hexec := doLogWrite_eq hhdr hlogs hprog hm
    rw [← hu'] at hcfg hwrites hexec
    refine ⟨_, congrArg Host.Outcome.next hexec, fun hopen => ?_, fun hprotected => ⟨?_, fun hidle => ?_⟩⟩
    · rw [if_neg (by rw [hopen]; exact Bool.false_ne_true)]
      exact State.cfg_programPage hcfg _ _ _
    · rw [if_pos hprotected, (State.masterFree_writes _).get Reg.CFG_CNT_PROTECTED_COUNT, State.withheld, State.get_bump_same,
        (Writes.put Reg.CFG_STATUS_BP s.cfg.dev.bp 0 0).get Reg.CFG_CNT_PROTECTED_COUNT, hwrites.get Reg.CFG_CNT_PROTECTED_COUNT]
    · have hstill : (u.withheld s.cfg.dev.bp).flag Reg.CFG_PT_CMD_BUSY = false := by
        have hall : Writes [Reg.CFG_STATUS_BP.key, Reg.CFG_CNT_PROTECTED_COUNT.key] u (u.withheld s.cfg.dev.bp) :=
          ((Writes.put Reg.CFG_STATUS_BP _ 0 0).mono (by simp)).step (Writes.bump Reg.CFG_CNT_PROTECTED_COUNT 1 0 0)
        rw [hall.flag Reg.CFG_PT_CMD_BUSY, hwrites.flag Reg.CFG_PT_CMD_BUSY, hidle]
      rw [if_pos hprotected, State.masterFree_idle hstill]
      exact hcfg
  · have hkept := doPageProgramDone_keepsMem hp
    refine ⟨_, rfl, ?_, fun hwho => ?_, fun a ha => ?_⟩
    · rw [hkept.memBytes, State.memBytes_memPut _ _ _ hlen]
    · rw [doPageProgramDone_eq hp, if_pos hwho]
      obtain ⟨hresult, hdone, -, hcfg, -⟩ := (s.programmed p).ptDone_spec 0 (by decide)
      exact ⟨congrArg Cfg.prog hcfg, hdone, hresult⟩
    · rw [hkept.memByte, s.memByte_memPut_apart _ _ _ ha]
  · set t := (State.scrambled p.bytes.length s p.addr).setCfg { (State.scrambled p.bytes.length s p.addr).cfg with prog := none } with ht
    obtain ⟨hdev, hbytes⟩ := State.scrambled_spec p.bytes.length s p.addr
    set v := t.setRaise Reg.CFG_STATUS_WRITE_TO Ev.CFG_WRITE_TIMEOUT with hv
    have hcfg : t.cfg = v.cfg := State.setRaise_within.same .cfg
    have hto : v.flag Reg.CFG_STATUS_WRITE_TO = true :=
      ((Writes.raise _).flag Reg.CFG_STATUS_WRITE_TO).trans (State.flag_put_one t Reg.CFG_STATUS_WRITE_TO 0 0 rfl)
    have hmem : ∀ w, KeepsMem v w → ∀ a, (∀ i < p.bytes.length, (p.addr + i) % s.memSize ≠ a % s.memSize) → w.memByte a = s.memByte a := by
      intro w hw a ha
      have hall : KeepsMem (State.scrambled p.bytes.length s p.addr) w :=
        (KeepsMem.trans (t := t) ⟨rfl, rfl⟩ (.of_cfg hcfg)).trans hw
      rw [hall.memByte, hbytes a ha]
    have hexec := doSpiWriteTimeout_eq hp
    rw [← ht, ← hv] at hexec
    by_cases hwho : p.who = 1
    · rw [if_pos hwho] at hexec
      obtain ⟨hresult, hdone, -, hlast, -⟩ := v.ptDone_spec 3 (by decide)
      exact ⟨_, congrArg Host.Outcome.next hexec, congrArg Cfg.prog (hlast.trans hcfg.symm),
        ((State.ptDone_writes v 3).flag Reg.CFG_STATUS_WRITE_TO).trans hto, fun _ => ⟨hdone, hresult⟩, hmem _ (.of_within State.ptDone_within)⟩
    · rw [if_neg hwho] at hexec
      have hscr : Within [.freeCtr, .cfg] s (State.scrambled p.bytes.length s p.addr) := State.scrambled_within
      have hidle : v.flag Reg.CFG_PT_CMD_BUSY = false := by
        have hregs : Writes [] s t := .of_regs (hscr.same .regs)
        rw [(Writes.setRaise Reg.CFG_STATUS_WRITE_TO _).flag Reg.CFG_PT_CMD_BUSY, hregs.flag Reg.CFG_PT_CMD_BUSY, hpt.resolve_left hwho]
      rw [State.masterFree_idle hidle] at hexec
      exact ⟨v, congrArg Host.Outcome.next hexec, congrArg Cfg.prog hcfg.symm, hto, fun h => absurd h hwho, hmem v .refl⟩
  · simp only [List.mem_cons, List.not_mem_nil, or_false] at hi
    rcases hi with rfl | rfl
    · refine congrArg Host.Outcome.next ?_
      unfold doPageProgramDone
      rw [h]
    · refine congrArg Host.Outcome.next ?_
      unfold doSpiWriteTimeout
      rw [h]
  · set b := s.put Reg.CFG_STATUS_BP s.cfg.dev.bp with hbdef
    obtain ⟨hpages, hout⟩ := State.refreshPages_spec (s.carePages diff) b
    have hcopies : Cares ((s.carePages diff).foldl State.refreshPage b) (doCarePass diff s) := by
      rw [doCarePass_eq hm hprog hdev]
      exact (State.careCopy_cares _ 0).trans (State.careCopy_cares _ 1)
    have hall := hpages.trans hcopies
    refine ⟨_, rfl, ?_, hall.prog.trans hprog, hall.dev, fun hrefresh p hp hcare => hcopies.grows _ (hout p ?_)⟩
    · exact (hall.writes _ _ _ (by decide) careKeys_bp).trans (State.get_put_same ..)
    · unfold State.carePages
      rw [if_pos hrefresh]
      exact List.mem_filter.2 ⟨hp, hcare⟩
  · rcases h with h | h | h
    · exact .inl h
    · exact .inr (.inl (Option.isSome_iff_ne_none.2 h))
    · exact .inr (.inr h)

end Sys2Proof.Machine
end

section
/-! PROOFS. The start sequence and the boot ledger (O4). -/

namespace Sys2Proof.Machine

set_option Elab.async false

/-! ## The ledger -/

/-- A record written to the ledger stands, where its SEQ follows on that of the one that stood. -/
theorem State.ledger_writeLedger (s : State) (l : Ledger) (hseq : l.seq = (s.ledger.getD {}).seq) (hlt : l.seq + 1 < 2 ^ 32) :
    (s.writeLedger l).ledger = some { l with seq := l.seq + 1, good := true } := by
  have hnew : (l.seq + 1) % 2 ^ 32 = l.seq + 1 := Nat.mod_eq_of_lt hlt
  unfold State.writeLedger
  rw [hnew]
  dsimp only
  by_cases ha : s.ledgerA.good ∧ (s.ledgerB.good = false ∨ s.ledgerB.seq ≤ s.ledgerA.seq)
  · have hstands : s.ledger = some s.ledgerA := if_pos ha
    rw [hstands] at hseq
    have hnot : ¬ (s.ledgerA.good = true ∧ (true = false ∨ l.seq + 1 ≤ s.ledgerA.seq)) := by
      rintro ⟨-, h | h⟩
      · exact Bool.noConfusion h
      · rw [show l.seq = s.ledgerA.seq from hseq] at h
        omega
    rw [if_pos (by simpa using ha)]
    exact (if_neg hnot).trans (if_pos rfl)
  · rw [if_neg (by simpa using ha)]
    refine if_pos ⟨rfl, ?_⟩
    show s.ledgerB.good = false ∨ s.ledgerB.seq ≤ l.seq + 1
    by_cases hb : s.ledgerB.good = true
    · have hstands : s.ledger = some s.ledgerB := (if_neg ha).trans (if_pos hb)
      rw [hstands] at hseq
      exact .inr (by rw [show l.seq = s.ledgerB.seq from hseq]; omega)
    · exact .inl (Bool.eq_false_of_not_eq_true hb)

theorem Within.ledger {w : List Part} {s t : State} (h : Within w s t) (hw : Part.ledgerA ∉ w ∧ Part.ledgerB ∉ w := by decide) : t.ledger = s.ledger := by
  obtain ⟨ha, hb⟩ := hw
  have hA : s.ledgerA = t.ledgerA := h.same .ledgerA ha
  have hB : s.ledgerB = t.ledgerB := h.same .ledgerB hb
  unfold State.ledger
  rw [hA, hB]

theorem State.writeLedger_frame (s : State) (l : Ledger) :
    s.writeLedger l = { s with ledgerA := (s.writeLedger l).ledgerA, ledgerB := (s.writeLedger l).ledgerB } := by
  unfold State.writeLedger
  dsimp only
  split <;> rfl

/-! ## Recovery state -/

theorem State.setBlock_outside {s : State} (c : Nat) (o : Bool) (h : s.mode ≠ .service) :
    s.setBlock c o = (s.put Reg.TCK_STATUS_BLOCK c).putB Reg.TCK_STATUS_ADMIT_OPEN o := if_neg fun h' => h h'.1

/-- The device with every lane idle. -/
def State.lanesIdle (s : State) : State := allLinks.foldl (fun (x : State) l => x.setLink l {}) s

theorem State.link_setLink_ne (s : State) {l x : Link} (v : LinkSt) (h : l ≠ x) : (s.setLink l v).link x = s.link x := by
  cases l with
  | port p =>
    cases x with
    | port q =>
      have hpq : (p : Nat) ≠ q := fun he => h (congrArg Link.port (Fin.ext he))
      exact congrArg PortSt.link (fgetD_fset_ne s.ports {} {} { s.port p with link := v } hpq)
    | seam => rfl
    | up => rfl
    | down => rfl
  | seam => cases x with
    | seam => exact absurd rfl h
    | port q => rfl
    | up => rfl
    | down => rfl
  | up => cases x with
    | up => exact absurd rfl h
    | port q => rfl
    | seam => rfl
    | down => rfl
  | down => cases x with
    | down => exact absurd rfl h
    | port q => rfl
    | seam => rfl
    | up => rfl

theorem State.link_foldl_idle (l : List Link) (s : State) (x : Link) (h : x ∈ l ∨ s.link x = {}) :
    (l.foldl (fun (x : State) l => x.setLink l {}) s).link x = {} := by
  induction l generalizing s with
  | nil => exact h.resolve_left (fun h => nomatch h)
  | cons a l ih =>
    rw [List.foldl_cons]
    refine ih _ ?_
    by_cases ha : a = x
    · subst ha
      exact .inr (State.link_setLink_same ..)
    · rcases h with h | h
      · exact .inl ((List.mem_cons.1 h).resolve_left (Ne.symm ha))
      · exact .inr ((State.link_setLink_ne s _ ha).trans h)

theorem State.link_lanesIdle (s : State) {x : Link} (h : x ∈ allLinks) : s.lanesIdle.link x = {} := State.link_foldl_idle _ s x (.inl h)

theorem State.lanesIdle_within {s : State} : Within [.ports, .seam, .csc] s s.lanesIdle := .foldl (fun _ _ h => h.step State.setLink_within) .refl

theorem State.link_of_parts {s t : State} (hports : t.ports = s.ports) (hseam : t.seam = s.seam) (hcsc : t.csc = s.csc) (x : Link) :
    t.link x = s.link x := by
  unfold State.link State.port
  rw [hports, hseam, hcsc]

/-- The device in recovery state, before it shows why admission is closed. -/
def State.recovering (s : State) (why : Nat) : State :=
  let u := ((s.put Reg.BOOT_STATUS_RECOV why).put Reg.BOOT_STATUS_SEALED 1).oweLog 3 why
  { u with mode := .recovery, boot := { u.boot with timer := none, training := false, waitUntil := none, held := [] } }

theorem State.enterRecovery_eq (s : State) (why : Nat) : s.enterRecovery why =
    (s.lanesIdle.recovering why).setBlock (s.lanesIdle.recovering why).blockCause false := rfl

theorem State.recovering_spec (s : State) (why : Nat) (h : why < 4) : (s.recovering why).mode = .recovery ∧
    (s.recovering why).get Reg.BOOT_STATUS_RECOV = why ∧ (s.recovering why).get Reg.BOOT_STATUS_SEALED = 1 ∧
    (s.recovering why).boot = { s.boot with timer := none, training := false, waitUntil := none, held := [] } ∧
    (∀ x, (s.recovering why).link x = s.link x) := by
  have hregs : Writes [] ((s.put Reg.BOOT_STATUS_RECOV why).put Reg.BOOT_STATUS_SEALED 1) (s.recovering why) := .of_regs rfl
  refine ⟨rfl, ?_, ?_, rfl, State.link_of_parts rfl rfl rfl⟩
  · rw [hregs.get Reg.BOOT_STATUS_RECOV, (Writes.put Reg.BOOT_STATUS_SEALED 1 0 0).get Reg.BOOT_STATUS_RECOV]
    exact State.get_put_of_lt _ _ _ _ _ h
  · rw [hregs.get Reg.BOOT_STATUS_SEALED]
    exact State.get_put_of_lt _ _ _ _ _ (by decide)

/-- What setBlock leaves outside service state: all but registers. -/
theorem State.setBlock_frame {s : State} (c : Nat) (o : Bool) (h : s.mode ≠ .service) : Within [.regs] s (s.setBlock c o) := by
  rw [State.setBlock_outside c o h]
  exact (State.put_within).step State.putB_within

/-- What recovery state is entered with. -/
theorem State.enterRecovery_spec (s : State) (why : Nat) (h : why < 4) : (s.enterRecovery why).mode = .recovery ∧
    (s.enterRecovery why).get Reg.BOOT_STATUS_RECOV = why ∧ (s.enterRecovery why).get Reg.BOOT_STATUS_SEALED = 1 ∧
    (s.enterRecovery why).boot.timer = none ∧ (s.enterRecovery why).boot.held = [] ∧ (∀ x ∈ allLinks, (s.enterRecovery why).link x = {}) := by
  obtain ⟨hmode, hrecov, hsealed, hboot, hlink⟩ := s.lanesIdle.recovering_spec why h
  have hidle : ∀ x ∈ allLinks, s.lanesIdle.link x = {} := fun x hx => s.link_lanesIdle hx
  rw [State.enterRecovery_eq]
  generalize s.lanesIdle = r at hmode hrecov hsealed hboot hlink hidle ⊢
  have hw := State.setBlock_writes (r.recovering why) (r.recovering why).blockCause false
  have hlast : Within [.regs] (r.recovering why) _ := State.setBlock_frame (r.recovering why).blockCause false (by rw [hmode]; decide)
  have hb : (r.recovering why).boot = _ := hlast.same .boot
  have hm : (r.recovering why).mode = _ := hlast.same .mode
  have hp : (r.recovering why).ports = _ := hlast.same .ports
  have hs : (r.recovering why).seam = _ := hlast.same .seam
  have hc : (r.recovering why).csc = _ := hlast.same .csc
  refine ⟨hm.symm.trans hmode, (hw.get Reg.BOOT_STATUS_RECOV).trans hrecov, (hw.get Reg.BOOT_STATUS_SEALED).trans hsealed, ?_, ?_, fun x hx => ?_⟩
  · rw [← hb, hboot]
  · rw [← hb, hboot]
  · exact (State.link_of_parts hp.symm hs.symm hc.symm x).trans ((hlink x).trans (hidle x hx))

/-! ## Step 4 -/

/-- The device at step 4, with what the ledger says kept. -/
def State.ledgerRead (s : State) : State :=
  let t := s.toStep 4
  let u := if t.ledger.isNone then t.setRaise Reg.BOOT_STATUS_LEDGER_LOST Ev.LEDGER_LOST else t
  u.setBoot { u.boot with countRead := (t.ledger.getD {}).count, clrRead := (t.ledger.getD {}).clr }

/-- The record that a start writes. -/
def Ledger.started (l : Ledger) : Ledger := let r := if l.pend then { l with cause := 2, step := 0 } else l; { r with count := r.count + 1, pend := true }

theorem Ledger.started_spec (l : Ledger) : l.started.count = l.count + 1 ∧ l.started.pend = true ∧ l.started.clr = l.clr ∧ l.started.seq = l.seq ∧
    l.started.cause = (if l.pend then 2 else l.cause) ∧ l.started.step = (if l.pend then 0 else l.step) := by
  unfold Ledger.started
  dsimp only
  split <;> exact ⟨rfl, rfl, rfl, rfl, rfl, rfl⟩

theorem State.ledgerStep_eq (s : State) : s.ledgerStep = if 4 ≤ (s.ledger.getD {}).count then (s.ledgerRead.enterRecovery 1).takeEpoch
    else (s.ledgerRead.writeLedger (s.ledger.getD {}).started).takeEpoch := rfl

theorem State.ledgerRead_within {s : State} : Within [.out, .regs, .boot, .host] s s.ledgerRead := by
  unfold State.ledgerRead
  exact (Within.ite (((Within.refl.step State.toStep_within)).step State.setRaise_within) (Within.refl.step State.toStep_within)).step
    State.setBoot_within

theorem State.startOn_eq (s : State) (cal : List CabCal) : ∃ t, s.startOn cal = t ∧
    ((s.setBoot { s.boot with timer := some s.clock }).ledgerStep.mode = .recovery →
      t = (s.setBoot { s.boot with timer := some s.clock }).ledgerStep) ∧
    ((s.setBoot { s.boot with timer := some s.clock }).ledgerStep.mode ≠ .recovery →
      Within [.out, .regs, .boot, .tables, .rows, .lost, .lossList, .drawers, .cabs, .cur, .host, .cfg]
        (s.setBoot { s.boot with timer := some s.clock }).ledgerStep t) := by
  refine ⟨_, rfl, fun h => if_pos h, fun h => ?_⟩
  have hexec : s.startOn cal = _ := if_neg h
  rw [hexec]
  generalize (s.setBoot { s.boot with timer := some s.clock }).ledgerStep = t
  dsimp only
  have hselect : Within [.out, .regs, .boot, .tables, .rows, .lost, .lossList, .drawers, .cabs, .cur, .host, .cfg] t
      ((t.calibrateStart cal).toStep 6).selectImage.1 :=
    ((Within.refl.step State.calibrateStart_within).step State.toStep_within).step State.selectImage_within
  refine .ite (hselect.step State.haltStart_within) ?_
  exact ((((((hselect.step State.logFailed_within).step State.toStep_within).step State.inventory_within).step State.toStep_within).step
    State.setBoot_within).step State.lookAhead_within)

/-- Step 4 of a start, whatever follows it. -/
theorem State.startOn_counted {s u : State} (cal : List CabCal) (hm : u.mode = .startUp) (ha : u.ledgerA = s.ledgerA) (hb : u.ledgerB = s.ledgerB) :
    StartCounted s (u.startOn cal) := by
  have hled : u.ledger = s.ledger := by
    unfold State.ledger
    rw [ha, hb]
  obtain ⟨t, ht, hrecover, hgo⟩ := u.startOn_eq cal
  rw [ht]
  set v := u.setBoot { u.boot with timer := some u.clock } with hv
  have hread : Within [.out, .regs, .boot, .host] u v.ledgerRead := (State.setBoot_within.mono (by decide)).trans State.ledgerRead_within
  have hv' : v.ledger = s.ledger := hled
  refine ⟨fun hcount => ?_, fun hcount hseq => ?_⟩
  · have hstep : v.ledgerStep = (v.ledgerRead.enterRecovery 1).takeEpoch := by
      rw [State.ledgerStep_eq, if_pos (by rw [hv']; exact hcount)]
    obtain ⟨hmode, hrecov, hsealed, -⟩ := v.ledgerRead.enterRecovery_spec 1 (by decide)
    have hepoch : Writes [Reg.GLB_STATE_EPOCH.key] (v.ledgerRead.enterRecovery 1) v.ledgerStep := by
      rw [hstep]
      exact Writes.put _ _ _ _
    have hlast : Within [.regs] (v.ledgerRead.enterRecovery 1) v.ledgerStep := by
      rw [hstep]
      exact State.takeEpoch_within
    have hmode' : v.ledgerStep.mode = .recovery := (hlast.same .mode : (v.ledgerRead.enterRecovery 1).mode = _).symm.trans hmode
    have hall : Within [.out, .mode, .regs, .boot, .ports, .host, .seam, .csc, .cfg] u v.ledgerStep :=
      ((hread.mono (by decide)).step State.enterRecovery_within).step hlast
    rw [hrecover hmode']
    exact ⟨hmode', (hepoch.get Reg.BOOT_STATUS_RECOV).trans hrecov, (hepoch.get Reg.BOOT_STATUS_SEALED).trans hsealed,
      (hall.same .ledgerA : u.ledgerA = _).symm.trans ha, (hall.same .ledgerB : u.ledgerB = _).symm.trans hb⟩
  · obtain ⟨hnum, hpend, hclr, hsame, hcause, hst⟩ := (s.ledger.getD {}).started_spec
    have hstep : v.ledgerStep = (v.ledgerRead.writeLedger (s.ledger.getD {}).started).takeEpoch := by
      rw [State.ledgerStep_eq, if_neg (by rw [hv']; omega), hv']
    have hwritten : (v.ledgerRead.writeLedger (s.ledger.getD {}).started).ledger = _ :=
      v.ledgerRead.ledger_writeLedger _ (by rw [hread.ledger, hled, hsame]) (by rw [hsame]; exact hseq)
    have hlast : Within [.regs] (v.ledgerRead.writeLedger (s.ledger.getD {}).started) v.ledgerStep := by
      rw [hstep]
      exact State.takeEpoch_within
    have hupto : Within [.out, .regs, .boot, .ledgerA, .ledgerB, .host] u v.ledgerStep :=
      ((hread.mono (by decide)).step State.writeLedger_within).step hlast
    have hmode : v.ledgerStep.mode = .startUp := (hupto.same .mode : u.mode = _).symm.trans hm
    have hrest := hgo (by rw [hmode]; decide)
    refine ⟨(hrest.same .mode : v.ledgerStep.mode = _).symm.trans hmode, _, (hrest.ledger.trans hlast.ledger).trans hwritten, hnum, hpend, hclr,
      hcause, hst⟩

theorem State.atStep1_iff {s : State} : s.atStep1 = true ↔ s.mode = .startUp ∧ s.get Reg.BOOT_STATUS_STEP = 1 := by simp [State.atStep1]

/-- The start sequence that begins in s, in which the pins alone have changed since. -/
theorem State.startSeq_spec {s : State} (cal : List CabCal) (p : Pins) (hp : p.unwatched = s.pins.unwatched) (h : s.atStep1 = true) :
    ((s.setPins p).startSeq cal).pins = p ∧
    (s.pins.unwatched = false → ((s.setPins p).startSeq cal).mode = .startUp ∧ ((s.setPins p).startSeq cal).get Reg.BOOT_STATUS_STEP = 3 ∧
      (s.setPins p).startSeq cal = { s with pins := ((s.setPins p).startSeq cal).pins, regs := ((s.setPins p).startSeq cal).regs }) ∧
    (s.pins.unwatched = true → StartCounted s ((s.setPins p).startSeq cal)) := by
  obtain ⟨hmode, -⟩ := State.atStep1_iff.1 h
  refine ⟨(State.startSeq_within.same .pins : (s.setPins p).pins = _).symm, fun hwait => ?_, fun hgo => ?_⟩
  · have hexec : (s.setPins p).startSeq cal = (s.setPins p).toStep 3 :=
      if_neg (show ¬ (p.unwatched = true) by rw [hp, hwait]; exact Bool.false_ne_true)
    rw [hexec]
    exact ⟨hmode, State.get_put_of_lt _ _ _ _ _ (by decide), rfl⟩
  · have hexec : (s.setPins p).startSeq cal = ((s.setPins p).toStep 3).startOn cal := if_pos (hp.trans hgo)
    rw [hexec]
    exact State.startOn_counted (u := (s.setPins p).toStep 3) cal hmode rfl rfl

/-! ## The failed start -/

/-- The record that a failed start writes. -/
def State.failedLedger (s : State) : Ledger :=
  { s.ledger.getD {} with pend := false, cause := if s.flag Reg.BOOT_STATUS_HALTED then s.get Reg.BOOT_STATUS_HALT_CAUSE else 1,
                          step := s.get Reg.BOOT_STATUS_STEP }

theorem State.failStart_eq (s : State) : s.failStart = (s.writeLedger s.failedLedger).enterRecovery 2 := rfl

/-- What a failed start leaves. -/
theorem State.failStart_spec (s : State) : s.failStart.mode = .recovery ∧ s.failStart.get Reg.BOOT_STATUS_RECOV = 2 ∧
    s.failStart.get Reg.BOOT_STATUS_SEALED = 1 ∧ s.failStart.boot.timer = none ∧ s.failStart.boot.held = [] ∧
    (∀ x ∈ allLinks, s.failStart.link x = {}) ∧ ((s.ledger.getD {}).seq + 1 < 2 ^ 32 →
      s.failStart.ledger = some { s.failedLedger with seq := s.failedLedger.seq + 1, good := true }) := by
  obtain ⟨hmode, hrecov, hsealed, htimer, hheld, hlinks⟩ := (s.writeLedger s.failedLedger).enterRecovery_spec 2 (by decide)
  rw [State.failStart_eq]
  refine ⟨hmode, hrecov, hsealed, htimer, hheld, hlinks, fun hseq => ?_⟩
  have hlast : Within [.out, .mode, .regs, .boot, .ports, .host, .seam, .csc, .cfg] (s.writeLedger s.failedLedger) _ :=
    State.enterRecovery_within (why := 2)
  exact hlast.ledger.trans (s.ledger_writeLedger s.failedLedger rfl hseq)

theorem State.limitPassed_iff {s : State} : s.limitPassed = true ↔ ∃ c, s.boot.timer = some c ∧ s.mode = .startUp ∧ c + s.startLimit ≤ s.clock := by
  unfold State.limitPassed
  cases s.boot.timer with
  | none => simp
  | some c => simp

/-- Settles O4, by the condition on the pins under which the start goes on, and by the timer that has run out. -/
theorem startSequenceAndLedger : Obligations.StartSequenceAndLedger := by
  unfold Obligations.StartSequenceAndLedger
  refine ⟨⟨fun s cal hlow hrails hstep => ?_, fun s cal hrails hhigh hstep => ?_, fun s cal hwait hm hstep htimer => ?_, fun s cal hlow => ⟨fun hrails => ?_,
    fun hrails => ?_⟩⟩, ⟨fun s c hm htimer hpast hseq => ?_, fun s h => ?_⟩, fun s v hopen => ⟨fun hset hseq => ?_, fun hclear => ?_⟩⟩
  · have hexec : doResetLRelease cal s = (s.setPins { s.pins with resetL := true }).startSeq cal := by
      refine (if_neg (by rw [hlow]; exact Bool.false_ne_true)).trans (if_pos ?_)
      exact Bool.and_eq_true_iff.2 ⟨hrails, hstep⟩
    exact ⟨_, congrArg Host.Outcome.next hexec, State.startSeq_spec cal _ rfl hstep⟩
  · have hexec : doRailsInRange cal s = (s.setPins { s.pins with core := true, sds := true, io := true, aon := true }).startSeq cal := by
      refine (if_neg (by rw [hrails]; exact Bool.false_ne_true)).trans (if_pos ?_)
      exact Bool.and_eq_true_iff.2 ⟨hhigh, hstep⟩
    exact ⟨_, congrArg Host.Outcome.next hexec, State.startSeq_spec cal _ rfl hstep⟩
  · have hexec : doUnwatchedRail cal s = (s.setPins { s.pins with unwatched := true }).startOn cal := by
      refine (if_neg (by rw [hwait]; exact Bool.false_ne_true)).trans (if_pos ⟨hm, hstep, ?_⟩)
      exact congrArg Option.isNone htimer
    exact ⟨_, congrArg Host.Outcome.next hexec, (State.startOn_within.same .pins : (s.setPins { s.pins with unwatched := true }).pins = _).symm,
      State.startOn_counted (u := s.setPins { s.pins with unwatched := true }) cal hm rfl rfl⟩
  · refine congrArg Host.Outcome.next ((if_neg (by rw [hlow]; exact Bool.false_ne_true)).trans (if_neg fun h => ?_))
    exact Bool.noConfusion (hrails.symm.trans (Bool.and_eq_true_iff.1 h).1)
  · refine congrArg Host.Outcome.next ((if_neg (by rw [hrails]; exact Bool.false_ne_true)).trans (if_neg fun h => ?_))
    exact Bool.noConfusion (hlow.symm.trans (Bool.and_eq_true_iff.1 h).1)
  · obtain ⟨hmode, hrecov, hsealed, hend, hheld, hlinks, hledger⟩ := s.failStart_spec
    exact ⟨_, _, congrArg Host.Outcome.next (if_pos (State.limitPassed_iff.2 ⟨c, htimer, hm, hpast⟩)), hmode, hrecov, hsealed, hend, hheld,
      hledger hseq, rfl, rfl, rfl, rfl, hlinks⟩
  · exact congrArg Host.Outcome.next (if_neg (by rw [h]; exact Bool.false_ne_true))
  · have hexec : doBootLedgerClear v s = s.writeLedger { s.ledger.getD {} with count := 0, clr := true } := if_pos ⟨hopen, hset⟩
    exact ⟨_, _, congrArg Host.Outcome.next hexec, s.ledger_writeLedger { s.ledger.getD {} with count := 0, clr := true } rfl hseq,
      rfl, rfl, rfl, rfl, rfl, s.writeLedger_frame _⟩
  · refine congrArg Host.Outcome.next (if_neg fun h => ?_)
    exact Bool.noConfusion (hclear.symm.trans h.2)

end Sys2Proof.Machine
end

section
/-! PROOFS. The boot program (O5). -/

namespace Sys2Proof.Machine

set_option Elab.async false

/-! ## What entry to service state keeps once the state is entered -/

/-- From s to t the boot engine changes in the events held alone; the mode, the ledger and the step stay. -/
structure StaysUp (s t : State) : Prop where
  mode : t.mode = s.mode
  boot : ∃ l, t.boot = { s.boot with held := l }
  ledger : t.ledger = s.ledger
  step : t.get Reg.BOOT_STATUS_STEP = s.get Reg.BOOT_STATUS_STEP

namespace StaysUp

variable {s t u : State}

theorem refl : StaysUp s s := ⟨rfl, ⟨_, rfl⟩, rfl, rfl⟩

theorem trans (h : StaysUp s t) (k : StaysUp t u) : StaysUp s u := by
  obtain ⟨_, hboot⟩ := h.boot
  obtain ⟨l, kboot⟩ := k.boot
  exact ⟨k.mode.trans h.mode, ⟨l, by rw [kboot, hboot]⟩, k.ledger.trans h.ledger, k.step.trans h.step⟩

theorem ite {c : Prop} [Decidable c] (h : StaysUp s t) (k : StaysUp s u) : StaysUp s (if c then t else u) := by
  split
  · exact h
  · exact k

theorem foldl {α : Type} {f : State → α → State} (hf : ∀ t a, StaysUp t (f t a)) {l : List α} {s : State} : StaysUp s (l.foldl f s) := by
  induction l generalizing s with
  | nil => exact refl
  | cons a l ih => exact (hf s a).trans ih

/-- Operations that leave the boot engine, the mode and the ledger, and write other fields. -/
theorem of_within {w : List Part} {ks : List Nat} (h : Within w s t) (hk : Writes ks s t) (hks : Reg.BOOT_STATUS_STEP.key ∉ ks := by decide)
    (hw : Part.mode ∉ w ∧ Part.boot ∉ w ∧ Part.ledgerA ∉ w ∧ Part.ledgerB ∉ w := by decide) : StaysUp s t := by
  obtain ⟨hmode, hboot, hledger⟩ := hw
  exact ⟨(h.same .mode hmode : s.mode = _).symm, ⟨s.boot.held, (h.same .boot hboot : s.boot = _).symm⟩, h.ledger hledger,
    hk _ _ _ (by decide) hks⟩

/-- Operations that leave the registers as well. -/
theorem of_noRegs {w : List Part} (h : Within w s t)
    (hw : Part.mode ∉ w ∧ Part.boot ∉ w ∧ Part.ledgerA ∉ w ∧ Part.ledgerB ∉ w := by decide) (hregs : Part.regs ∉ w := by decide) : StaysUp s t :=
  of_within (ks := []) h (.of_within h hregs) (by simp) hw

theorem put (F : Field) (v i : Nat) (h : F.key i ≠ Reg.BOOT_STATUS_STEP.key := by decide) : StaysUp s (s.put F v i) :=
  of_within State.put_within (Writes.put F v i 0) fun hm => h (List.mem_singleton.1 hm).symm

end StaysUp

theorem State.deliver_staysUp (s : State) (n : Nat) (held : Bool) : StaysUp s (s.deliver n held) := by
  have hwithin : Within [.out, .regs, .host] s (s.deliver n held) := State.deliver_within
  have above : ∀ G : Field, 0x150000 ≤ G.base → ∀ k, G.key k ≠ Reg.BOOT_STATUS_STEP.key := fun G hG k => by
    have hkey : 8 * G.base ≤ G.key k := by unfold Field.key; omega
    have hstep : Reg.BOOT_STATUS_STEP.key < 8 * 0x150000 := by decide
    omega
  refine ⟨(hwithin.same .mode : s.mode = _).symm, ⟨s.boot.held, (hwithin.same .boot : s.boot = _).symm⟩, hwithin.ledger, ?_⟩
  rw [State.get_deliver s n held Reg.BOOT_STATUS_STEP 0 0 (above _ (by decide) n) (above _ (by decide) 0) (above _ (by decide) 0)
    (above _ (by decide) 0)]
  exact s.get_bump_ne _ _ 1 n 0 0 0 (above _ (by decide) n)

theorem State.raise_staysUp (s : State) (n : Nat) : StaysUp s (s.raise n) := by
  unfold State.raise
  split
  · exact s.deliver_staysUp n false
  · exact ⟨rfl, ⟨_, rfl⟩, rfl, rfl⟩
  · exact .refl
  · exact .refl

theorem State.setRaise_staysUp (s : State) (F : Field) (n : Nat) (h : F.key ≠ Reg.BOOT_STATUS_STEP.key := by decide) : StaysUp s (s.setRaise F n) :=
  (StaysUp.put F 1 0 h).trans (State.raise_staysUp _ n)

theorem State.setBlock_staysUp (s : State) (c : Nat) (o : Bool) : StaysUp s (s.setBlock c o) := by
  unfold State.setBlock
  have hput : StaysUp s ((s.put Reg.TCK_STATUS_BLOCK c).putB Reg.TCK_STATUS_ADMIT_OPEN o) := (StaysUp.put _ _ _).trans (.put _ _ _)
  exact .ite (hput.trans (State.raise_staysUp _ _)) hput

theorem State.reblock_staysUp (s : State) : StaysUp s s.reblock := by
  unfold State.reblock
  exact .ite .refl (s.setBlock_staysUp _ _)

theorem State.checkSettle_staysUp (s : State) : StaysUp s s.checkSettle := by
  unfold State.checkSettle
  have hput : StaysUp s (s.put Reg.SEAM_STATUS_SMIN (min s.settleMin 31)) := .put _ _ _
  exact .ite .refl (.ite (hput.trans (State.setRaise_staysUp _ _ _)) hput)

theorem State.addRetime_staysUp (s : State) (f : Retime → Retime) : StaysUp s (s.addRetime f) :=
  (StaysUp.of_noRegs State.setTick_within).trans (State.reblock_staysUp _)

theorem State.decideAttach_staysUp (s : State) : StaysUp s s.decideAttach := by
  unfold State.decideAttach
  split
  · exact .refl
  next h _ =>
    extract_lets _ t _ u _ v
    have ht : StaysUp s t := .of_noRegs State.setSeam_within
    have hu : StaysUp s u := ht.trans (.put _ _ _)
    have hset : ∀ (x : State) (m : Seam), StaysUp x (x.setSeam m) := fun x m => .of_noRegs State.setSeam_within
    exact .ite .refl (.ite ((ht.trans (hset _ _)).trans (State.setRaise_staysUp _ _ _))
      (.ite ((hu.trans (hset _ _)).trans (State.checkSettle_staysUp _))
        (((hu.trans (hset _ _)).trans (State.addRetime_staysUp _ _)).trans (State.checkSettle_staysUp _))))

theorem State.deliverHeld_staysUp (s : State) : StaysUp s s.deliverHeld := by
  unfold State.deliverHeld
  have hset : StaysUp s (s.setBoot { s.boot with held := [] }) := ⟨rfl, ⟨_, rfl⟩, rfl, rfl⟩
  exact hset.trans (.foldl fun x n => x.deliver_staysUp n true)

theorem State.startSource_staysUp (s : State) : StaysUp s s.startSource := by
  unfold State.startSource
  extract_lets internal t
  have ht : StaysUp s t := .ite ((StaysUp.put _ _ _).trans (.put _ _ _)) .refl
  exact ((ht.trans (.of_noRegs State.setTick_within)).trans (.of_within State.showLatency_within (State.showLatency_writes _))).trans
    (State.reblock_staysUp _)

/-- Where the step is kept, apart from the credits of the ports. -/
theorem State.grantCredits_staysUp (s : State) (p : Nat) (hp : p < 16) : StaysUp s (s.grantCredits p) := by
  have hwithin : Within [.out, .regs, .ports] s (s.grantCredits p) := State.grantCredits_within
  exact ⟨(hwithin.same .mode : s.mode = _).symm, ⟨s.boot.held, (hwithin.same .boot : s.boot = _).symm⟩, hwithin.ledger,
    (s.grantCredits_writes p).fixed Reg.BOOT_STATUS_STEP hp⟩

/-- The device in service state, before anything is raised. -/
def State.entered (s : State) : State :=
  let us := (s.clock - s.boot.timer.getD s.clock) / cyclesPerUs
  let t := (s.toStep 10).writeLedger { s.ledger.getD {} with count := 0, pend := false, clr := false }
  { t.put Reg.BOOT_TIME_START_US us with
    mode := .service, boot := { t.boot with timer := none, training := false, serviceAt := t.clock },
    dorm := { t.dorm with phase := .awake, idleFrom := t.clock }, cur := { t.cur with sweepFrom := t.clock, rateFrom := t.clock } }

theorem State.entered_spec (s : State) : s.entered.mode = .service ∧ s.entered.boot.training = false ∧ s.entered.boot.timer = none ∧
    s.entered.get Reg.BOOT_STATUS_STEP = 10 ∧ ((s.ledger.getD {}).seq + 1 < 2 ^ 32 →
      s.entered.ledger = some { s.ledger.getD {} with count := 0, pend := false, clr := false, seq := (s.ledger.getD {}).seq + 1, good := true }) := by
  unfold State.entered
  extract_lets us _ t
  have hboot : Within [.ledgerA, .ledgerB] (s.toStep 10) t := State.writeLedger_within
  have hstep : t.get Reg.BOOT_STATUS_STEP = 10 := by
    have hkept : Writes [] (s.toStep 10) t := .of_within hboot
    rw [hkept.get Reg.BOOT_STATUS_STEP]
    exact State.get_put_of_lt _ _ _ _ _ (by decide)
  have hled : (s.toStep 10).ledger = s.ledger := rfl
  refine ⟨rfl, rfl, rfl, ?_, fun hseq => ?_⟩
  · exact ((Writes.put Reg.BOOT_TIME_START_US us 0 0).get Reg.BOOT_STATUS_STEP).trans hstep
  · exact (s.toStep 10).ledger_writeLedger { s.ledger.getD {} with count := 0, pend := false, clr := false } (by rw [hled]) hseq

theorem State.serviceEntry_staysUp (s : State) : StaysUp s.entered s.serviceEntry := by
  unfold State.serviceEntry
  extract_lets us _ t timed _ _ _ u v w x y
  have hu : s.entered = u := rfl
  rw [hu]
  have hv : StaysUp u v := (State.deliverHeld_staysUp u).trans (State.raise_staysUp _ _)
  have hw : StaysUp v w := .ite (State.raise_staysUp _ _) .refl
  have hx : StaysUp w x := .ite (State.raise_staysUp _ _) .refl
  have hy : StaysUp x y := by
    have hgrant : ∀ (l : List Nat), l ⊆ List.range 16 → ∀ z : State, StaysUp z (l.foldl State.grantCredits z) := by
      intro l
      induction l with
      | nil => exact fun _ _ => .refl
      | cons p l ih =>
        intro hl z
        exact (z.grantCredits_staysUp p (List.mem_range.1 (hl List.mem_cons_self))).trans (ih (fun _ h => hl (List.mem_cons_of_mem _ h)) _)
    exact (State.startSource_staysUp x).trans (hgrant _ (fun _ h => h) _)
  have hlast : ∀ n, StaysUp y (y.oweLog 1 n).grantSeam.greet.decideAttach := fun n =>
    (((StaysUp.of_noRegs State.oweLog_within).trans (.of_noRegs State.grantSeam_within)).trans (.of_noRegs State.greet_within)).trans
      (State.decideAttach_staysUp _)
  exact (((hv.trans hw).trans hx).trans hy).trans (hlast _)

/-- What entry to service state leaves. -/
theorem State.serviceEntry_spec (s : State) : s.serviceEntry.mode = .service ∧ s.serviceEntry.boot.training = false ∧
    s.serviceEntry.boot.timer = none ∧ s.serviceEntry.get Reg.BOOT_STATUS_STEP = 10 ∧ ((s.ledger.getD {}).seq + 1 < 2 ^ 32 →
      s.serviceEntry.ledger = some { s.ledger.getD {} with count := 0, pend := false, clr := false, seq := (s.ledger.getD {}).seq + 1, good := true }) := by
  obtain ⟨hmode, htraining, htimer, hstep, hledger⟩ := s.entered_spec
  have hup := s.serviceEntry_staysUp
  obtain ⟨_, hboot⟩ := hup.boot
  exact ⟨hup.mode.trans hmode, (congrArg Boot.training hboot).trans htraining, (congrArg Boot.timer hboot).trans htimer,
    hup.step.trans hstep, fun hseq => hup.ledger.trans (hledger hseq)⟩

/-! ## Step 9 -/

/-- The device at the start of step 9. -/
def State.atTraining (s : State) : State := (s.toStep 9).setBoot { s.boot with training := true }

theorem linkEn_apart : ∀ p : Fin 16, Reg.PRT_CTRL_EN.key p < 8 * 0x150000 ∧ Reg.PRT_CTRL_EN.key p ∉
    [Reg.BOOT_STATUS_STEP.key, Reg.BOOT_STATUS_SEALED.key] := by decide

theorem Writes.linkEn {s t : State} (h : Writes [Reg.BOOT_STATUS_STEP.key, Reg.BOOT_STATUS_SEALED.key] s t) (l : Link) : t.linkEn l = s.linkEn l := by
  cases l with
  | port p =>
    obtain ⟨hbelow, hapart⟩ := linkEn_apart p
    exact h.flag Reg.PRT_CTRL_EN p 0 hbelow hapart
  | seam => exact h.flag Reg.SEAM_CTRL_EN
  | up => exact h.flag Reg.CSC_CTRL_EN
  | down => exact h.flag Reg.CSC_CTRL_EN

theorem Writes.enabledLinks {s t : State} (h : Writes [Reg.BOOT_STATUS_STEP.key, Reg.BOOT_STATUS_SEALED.key] s t) : t.enabledLinks = s.enabledLinks :=
  List.filter_congr fun l _ => h.linkEn l

/-- Links that are enabled train, where links may train. -/
theorem State.foldl_startTraining (l : List Link) (s : State) (hm : s.mayTrain = true) (hl : ∀ x ∈ l, s.linkEn x = true) (x : Link)
    (h : x ∈ l ∨ (s.link x).st = .seek) : ((l.foldl State.startTraining s).link x).st = .seek := by
  induction l generalizing s with
  | nil => exact h.resolve_left (fun h => nomatch h)
  | cons a l ih =>
    rw [List.foldl_cons]
    have hstart : s.startTraining a = s.setLink a (seekFrom s.clock) := if_pos (Bool.and_eq_true_iff.2 ⟨hl a List.mem_cons_self, hm⟩)
    have hwithin : Within [.ports, .seam, .csc] s (s.startTraining a) := State.startTraining_within
    have hregs : Writes [Reg.BOOT_STATUS_STEP.key, Reg.BOOT_STATUS_SEALED.key] s (s.startTraining a) := .of_within hwithin
    have hmay : (s.startTraining a).mayTrain = true := by
      unfold State.mayTrain at hm ⊢
      rw [← (hwithin.same .mode : s.mode = _), ← (hwithin.same .boot : s.boot = _)]
      exact hm
    refine ih _ hmay (fun y hy => (hregs.linkEn y).trans (hl y (List.mem_cons_of_mem _ hy))) ?_
    by_cases ha : a = x
    · subst ha
      refine .inr ?_
      rw [hstart, State.link_setLink_same]
      rfl
    · rcases h with h | h
      · exact .inl ((List.mem_cons.1 h).resolve_left (Ne.symm ha))
      · refine .inr ?_
        rw [hstart, State.link_setLink_ne s _ ha, h]

/-- What step 9 begins with. -/
theorem State.beginTraining_spec {s : State} (hm : s.mode = .startUp) :
    (s.enabledLinks ≠ [] → s.beginTraining.mode = .startUp ∧ s.beginTraining.boot.training = true ∧ s.beginTraining.get Reg.BOOT_STATUS_STEP = 9 ∧
      s.beginTraining.get Reg.BOOT_STATUS_SEALED = s.get Reg.BOOT_STATUS_SEALED ∧ ∀ l ∈ s.enabledLinks, (s.beginTraining.link l).st = .seek) ∧
    (s.enabledLinks = [] → s.beginTraining.mode = .service ∧ s.beginTraining.boot.training = false) := by
  have hregs : Writes [Reg.BOOT_STATUS_STEP.key, Reg.BOOT_STATUS_SEALED.key] s s.atTraining := by
    have hset : Writes [] (s.toStep 9) s.atTraining := .of_regs rfl
    exact ((Writes.put Reg.BOOT_STATUS_STEP 9 0 0).mono (by simp)).step hset
  have hexec : s.beginTraining = (s.enabledLinks.foldl State.startTraining s.atTraining).endTraining := by
    have hlinks := hregs.enabledLinks
    unfold State.beginTraining
    dsimp only
    rw [← hlinks]
    rfl
  set u := s.enabledLinks.foldl State.startTraining s.atTraining with hu
  have hfold : Within [.ports, .seam, .csc] s.atTraining u := .foldl (fun _ _ h => h.step State.startTraining_within) .refl
  have hmode : u.mode = .startUp := (hfold.same .mode : s.atTraining.mode = _).symm.trans hm
  have hboot : u.boot.training = true := congrArg Boot.training (hfold.same .boot : s.atTraining.boot = _).symm
  have hafter : Writes [Reg.BOOT_STATUS_STEP.key, Reg.BOOT_STATUS_SEALED.key] s.atTraining u := .of_within hfold
  have hlinks : u.enabledLinks = s.enabledLinks := hafter.enabledLinks.trans hregs.enabledLinks
  refine ⟨fun hsome => ?_, fun hnone => ?_⟩
  · have hmay : s.atTraining.mayTrain = true := by
      unfold State.mayTrain
      rw [show s.atTraining.mode = .startUp from hm]
      rfl
    have hseek : ∀ l ∈ s.enabledLinks, (u.link l).st = .seek := fun l hl =>
      State.foldl_startTraining _ _ hmay (fun x hx => (hregs.linkEn x).trans (List.mem_filter.1 hx).2) l (.inl hl)
    obtain ⟨l, hl⟩ := List.exists_mem_of_ne_nil _ hsome
    have hnot : u.trainingOver = false := by
      unfold State.trainingOver
      rw [List.all_eq_false]
      exact ⟨l, hlinks.symm ▸ hl, by rw [hseek l hl]; decide⟩
    have hend : u.endTraining = u := if_neg fun h => Bool.noConfusion (hnot.symm.trans h.2.2)
    rw [hexec, hend]
    refine ⟨hmode, hboot, ?_, ?_, hseek⟩
    · have hstay : Writes [] s.atTraining u := .of_within hfold
      rw [hstay.get Reg.BOOT_STATUS_STEP]
      exact State.get_put_of_lt s Reg.BOOT_STATUS_STEP 9 0 0 (by decide)
    · have hstay : Writes [] s.atTraining u := .of_within hfold
      rw [hstay.get Reg.BOOT_STATUS_SEALED]
      exact (Writes.put Reg.BOOT_STATUS_STEP 9 0 0).get Reg.BOOT_STATUS_SEALED
  · have hover : u.trainingOver = true := by
      unfold State.trainingOver
      rw [hlinks, hnone]
      rfl
    have hend : u.endTraining = u.serviceEntry := if_pos ⟨hmode, hboot, hover⟩
    obtain ⟨hservice, htraining, -⟩ := u.serviceEntry_spec
    rw [hexec, hend]
    exact ⟨hservice, htraining⟩

/-! ## Operations of the boot program -/

theorem State.bootTurn_some {s : State} {op off v : Nat} (h : s.bootTurn op = some (off, v)) : s.mode = .startUp ∧
    s.get Reg.BOOT_STATUS_STEP = 8 ∧ s.flag Reg.BOOT_STATUS_HALTED = false := by
  unfold State.bootTurn at h
  split at h
  next hrun =>
    obtain ⟨hmode, hstep, hgo, -⟩ := hrun
    exact ⟨hmode, hstep, hgo⟩
  · exact nomatch h

/-- Where a halt of the start is shown. -/
def haltKeys : List Nat := [Reg.BOOT_STATUS_HALTED.key, Reg.BOOT_STATUS_HALT_CAUSE.key, Reg.BOOT_PROG_PROG_ERR.key]

theorem State.haltStart_writes (s : State) (c : Nat) : Writes haltKeys s (s.haltStart c) :=
  ((Writes.put Reg.BOOT_STATUS_HALTED 1 0 0).mono (by simp [haltKeys])).step (Writes.put Reg.BOOT_STATUS_HALT_CAUSE c 0 0) (by simp [haltKeys])

theorem State.haltStart_spec (s : State) (c : Nat) (hc : c < 16) : (s.haltStart c).get Reg.BOOT_STATUS_HALTED = 1 ∧
    (s.haltStart c).get Reg.BOOT_STATUS_HALT_CAUSE = c :=
  ⟨((Writes.put Reg.BOOT_STATUS_HALT_CAUSE c 0 0).get Reg.BOOT_STATUS_HALTED).trans (State.get_put_of_lt _ _ _ _ _ (by decide)),
    State.get_put_of_lt _ _ _ _ _ hc⟩

theorem State.haltProgram_writes (s : State) : Writes haltKeys s s.haltProgram :=
  (s.haltStart_writes 4).step (Writes.put Reg.BOOT_PROG_PROG_ERR 1 0 0) (by simp [haltKeys])

theorem State.lookAhead_writes (s : State) : Writes haltKeys s s.lookAhead := by
  unfold State.lookAhead
  split
  · exact s.haltProgram_writes
  · exact .ite s.haltProgram_writes .refl

/-- The device with the index of the operation that has run shown. -/
def State.opShown (s : State) : State := (s.put Reg.BOOT_PROG_PC s.boot.pc).setBoot { s.boot with pc := s.boot.pc + 1 }

theorem State.opShown_spec (s : State) : s.opShown.boot = { s.boot with pc := s.boot.pc + 1 } ∧ s.opShown.get Reg.BOOT_PROG_PC = s.boot.pc % 2 ^ 12 ∧
    Writes [Reg.BOOT_PROG_PC.key] s s.opShown := by
  have hset : Writes [] (s.put Reg.BOOT_PROG_PC s.boot.pc) s.opShown := .of_regs rfl
  exact ⟨rfl, (hset.get Reg.BOOT_PROG_PC).trans (State.get_put_same ..), (Writes.put Reg.BOOT_PROG_PC s.boot.pc 0 0).step hset⟩

theorem State.bootNext_eq (s : State) : s.bootNext = if s.opShown.mode = .startUp ∧ s.opShown.flag Reg.BOOT_STATUS_HALTED = false then
    s.opShown.lookAhead else s.opShown := rfl

/-- The program moves on: its index is shown and one higher. -/
theorem State.bootNext_spec (s : State) : s.bootNext.boot = { s.boot with pc := s.boot.pc + 1 } ∧ s.bootNext.get Reg.BOOT_PROG_PC = s.boot.pc % 2 ^ 12 ∧
    Writes (Reg.BOOT_PROG_PC.key :: haltKeys) s s.bootNext := by
  obtain ⟨hboot, hpc, hwrites⟩ := s.opShown_spec
  have hlook : Within [.regs] s.opShown s.bootNext := by
    rw [State.bootNext_eq]
    exact .ite State.lookAhead_within .refl
  have hlast : Writes haltKeys s.opShown s.bootNext := by
    rw [State.bootNext_eq]
    exact .ite (State.lookAhead_writes _) .refl
  exact ⟨(hlook.same .boot : s.opShown.boot = _).symm.trans hboot, (hlast.get Reg.BOOT_PROG_PC).trans hpc,
    (hwrites.mono (by simp)).step hlast⟩

/-- A start that has halted looks at no operation more. -/
theorem State.bootNext_halted {s : State} (h : s.flag Reg.BOOT_STATUS_HALTED = true) : s.bootNext = s.opShown := by
  obtain ⟨-, -, hwrites⟩ := s.opShown_spec
  rw [State.bootNext_eq]
  exact if_neg fun hgo => Bool.noConfusion (((hwrites.flag Reg.BOOT_STATUS_HALTED).trans h).symm.trans hgo.2)

/-- What a halt with a cause leaves once the index of the operation is shown. -/
theorem State.bootNext_of_halt {s : State} {c : Nat} (hc : s.get Reg.BOOT_STATUS_HALTED = 1) (hcause : s.get Reg.BOOT_STATUS_HALT_CAUSE = c) :
    s.bootNext.get Reg.BOOT_STATUS_HALTED = 1 ∧ s.bootNext.get Reg.BOOT_STATUS_HALT_CAUSE = c ∧
    Writes [Reg.BOOT_PROG_PC.key] s s.bootNext := by
  obtain ⟨-, -, hwrites⟩ := s.opShown_spec
  rw [State.bootNext_halted (show s.flag Reg.BOOT_STATUS_HALTED = true by rw [State.flag, hc]; rfl)]
  exact ⟨(hwrites.get Reg.BOOT_STATUS_HALTED).trans hc, (hwrites.get Reg.BOOT_STATUS_HALT_CAUSE).trans hcause, hwrites⟩

/-! ## WRITE of TCK_PERIOD and of the protection map -/

theorem fieldsAt_period : fieldsAt 0x10008 = [(Reg.TCK_PERIOD_PERIOD, 0, 0)] := by decide +kernel

theorem fieldsAt_pmap : fieldsAt 0x120160 = [(Reg.BOOT_PMAP_CHN_LO, 3, 0), (Reg.BOOT_PMAP_CHN_HI, 3, 0), (Reg.BOOT_PMAP_TBL_READ, 3, 0),
    (Reg.BOOT_PMAP_TALLY_READ, 3, 0), (Reg.BOOT_PMAP_TALLY_WRITE, 3, 0)] := by decide +kernel

/-- A merge of a whole field is the new value. -/
theorem mergeBits_whole (old d w : Nat) : mergeBits old d (2 ^ w - 1) % 2 ^ w = d % 2 ^ w := by
  unfold mergeBits
  rw [Nat.and_two_pow_sub_one_eq_mod, Nat.and_two_pow_sub_one_eq_mod, Nat.or_mod_two_pow, Nat.xor_mod_two_pow, Nat.mod_mod, Nat.xor_self,
    Nat.zero_or, Nat.mod_mod]

theorem State.put_congr (s : State) (F : Field) {a b : Nat} (i : Nat) (h : a % 2 ^ F.width = b % 2 ^ F.width) : s.put F a i = s.put F b i := by
  unfold State.put
  rw [h]

/-- A sealed field takes its bits of a word that the boot program writes whole, before the seal. -/
theorem State.writeField_sl (s : State) {F : Field} (v off i p : Nat) (hpos : F.pos off i 0 = p) (hown : F.own = false) (hview : F.view = false)
    (hacc : F.acc = .sl) (hmask : ((2 ^ 64 - 1) >>> p) % 2 ^ F.width = 2 ^ F.width - 1) (hwidth : 2 ^ F.width - 1 ≠ 0) :
    s.writeField true v (2 ^ 64 - 1) off (F, i, 0) = if s.unsealed then s.put F (v >>> p) i else s := by
  unfold State.writeField
  dsimp only
  rw [hpos, hmask, if_neg (by simp [hwidth, hown, hview]), hacc]
  simp only [Bool.true_and]
  split
  · refine s.put_congr F i ?_
    rw [mergeBits_whole, Nat.mod_mod]
  · rfl

/-- The fields of the word of the protection map at offset 0x120160, with their places in it. -/
def pmapFields : List (Field × Nat) := [(Reg.BOOT_PMAP_CHN_LO, 0), (Reg.BOOT_PMAP_CHN_HI, 8), (Reg.BOOT_PMAP_TBL_READ, 16),
  (Reg.BOOT_PMAP_TALLY_READ, 17), (Reg.BOOT_PMAP_TALLY_WRITE, 18)]

theorem pmapFields_shape : ∀ e ∈ pmapFields, e.1.pos 0x120160 3 0 = e.2 ∧ e.1.own = false ∧ e.1.view = false ∧ e.1.acc = .sl ∧
    ((2 ^ 64 - 1) >>> e.2) % 2 ^ e.1.width = 2 ^ e.1.width - 1 ∧ 2 ^ e.1.width - 1 ≠ 0 := by decide

theorem pmapFields_apart : ∀ e ∈ pmapFields, e.1.key 3 ∉ [Reg.BOOT_STATUS_SEALED.key, Reg.SEAM_CTRL_EN.key, Reg.CSC_CTRL_EN.key] := by decide

/-- The word of the protection map with its fields written. -/
def State.pmapPut (s : State) (v : Nat) (l : List (Field × Nat)) : State := l.foldl (fun x e => x.put e.1 (v >>> e.2) 3) s

theorem State.writeFields_pmap (v : Nat) (l : List (Field × Nat)) (hl : l ⊆ pmapFields) (s : State) :
    (l.map fun e => (e.1, 3, 0)).foldl (fun x e => x.writeField true v (2 ^ 64 - 1) 0x120160 e) s = if s.unsealed then s.pmapPut v l else s := by
  induction l generalizing s with
  | nil => exact (ite_self _).symm
  | cons e l ih =>
    obtain ⟨hpos, hown, hview, hacc, hmask, hwidth⟩ := pmapFields_shape e (hl List.mem_cons_self)
    rw [List.map_cons, List.foldl_cons, s.writeField_sl v 0x120160 3 e.2 hpos hown hview hacc hmask hwidth]
    by_cases hopen : s.unsealed
    · have hstill : (s.put e.1 (v >>> e.2) 3).unsealed = s.unsealed := by
        have hapart := pmapFields_apart e (hl List.mem_cons_self)
        unfold State.unsealed State.flag
        rw [State.get_put_ne s e.1 Reg.BOOT_STATUS_SEALED _ 3 0 0 0 fun h => hapart (by rw [h]; simp)]
      rw [if_pos hopen, if_pos hopen, ih (fun _ h => hl (List.mem_cons_of_mem _ h)), if_pos (hstill.trans hopen)]
      rfl
    · rw [if_neg hopen, if_neg hopen, ih (fun _ h => hl (List.mem_cons_of_mem _ h)), if_neg hopen]

theorem State.pmapPut_writes (s : State) (v : Nat) : Writes (pmapFields.map fun e => e.1.key 3) s (s.pmapPut v pmapFields) :=
  ((((Writes.refl.step (Writes.put Reg.BOOT_PMAP_CHN_LO _ 3 0) (by simp [pmapFields])).step (Writes.put Reg.BOOT_PMAP_CHN_HI _ 3 0)
    (by simp [pmapFields])).step (Writes.put Reg.BOOT_PMAP_TBL_READ _ 3 0) (by simp [pmapFields])).step
    (Writes.put Reg.BOOT_PMAP_TALLY_READ _ 3 0) (by simp [pmapFields])).step (Writes.put Reg.BOOT_PMAP_TALLY_WRITE _ 3 0) (by simp [pmapFields])

theorem State.writeReg_pmap (s : State) (v : Nat) :
    s.writeReg true v (2 ^ 64 - 1) 0x120160 = if s.unsealed then s.pmapPut v pmapFields else s := by
  have hring : s.ringRule v (2 ^ 64 - 1) 0x120160 = none := rfl
  have hfields : (fieldsAt 0x120160).foldl (fun x e => x.writeField true v (2 ^ 64 - 1) 0x120160 e) s =
      if s.unsealed then s.pmapPut v pmapFields else s := by
    rw [fieldsAt_pmap]
    exact State.writeFields_pmap v pmapFields (fun _ h => h) s
  unfold State.writeReg
  rw [hring]
  dsimp only
  rw [hfields]
  split
  · exact State.linkEnable_of_flag_eq _ _ ((s.pmapPut_writes v).flag Reg.SEAM_CTRL_EN) ((s.pmapPut_writes v).flag Reg.CSC_CTRL_EN)
  · exact s.linkEnable_self

/-- The protection map has no field with a rule of its own for the boot program. -/
theorem State.bootRules_pmap (t : State) (cal : List CabCal) (v : Nat) : ((((((((t.bootTick 0x120160 v).bootPort 0x120160 v).bootChan 0x120160 v).bootCurator
    cal 0x120160 v).bootData 0x120160 v).bootPair 0x120160 v).bootHost 0x120160 v).bootWindow 0x120160 v) = t := by
  simp [State.bootTick, State.bootPort, State.bootChan, State.bootCurator, State.bootData, State.bootPair, State.bootHost, State.bootWindow]

/-- Nor has TCK_PERIOD but its own. -/
theorem State.bootRules_period (t : State) (cal : List CabCal) (v : Nat) : (((((((t.bootPort 0x10008 v).bootChan 0x10008 v).bootCurator
    cal 0x10008 v).bootData 0x10008 v).bootPair 0x10008 v).bootHost 0x10008 v).bootWindow 0x10008 v) = t := by
  simp [State.bootPort, State.bootChan, State.bootCurator, State.bootData, State.bootPair, State.bootHost, State.bootWindow]

theorem State.bootReg_pmap (s : State) (cal : List CabCal) (v : Nat) : s.bootReg cal 0x120160 v =
    if s.unsealed then s.pmapPut v pmapFields else s.put Reg.BOOT_PROG_PROG_ERR 1 := by
  have hsealed : touchesSealed (2 ^ 64 - 1) 0x120160 = true := by
    unfold touchesSealed
    rw [fieldsAt_pmap]
    decide
  unfold State.bootReg
  rw [if_neg (by decide)]
  dsimp only
  rw [State.bootRules_pmap, State.writeReg_pmap, hsealed]
  cases s.unsealed with
  | false => rfl
  | true => exact if_neg fun h => Bool.noConfusion h.1

theorem State.bootReg_period (s : State) (cal : List CabCal) (v : Nat) : s.bootReg cal 0x10008 v = s.bootTick 0x10008 v := by
  have hsealed : touchesSealed (2 ^ 64 - 1) 0x10008 = false := by
    unfold touchesSealed
    rw [fieldsAt_period]
    decide
  have hring : s.ringRule v (2 ^ 64 - 1) 0x10008 = none := rfl
  have hreg : s.writeReg true v (2 ^ 64 - 1) 0x10008 = s := by
    have hfield : s.writeField true v (2 ^ 64 - 1) 0x10008 (Reg.TCK_PERIOD_PERIOD, 0, 0) = s := by
      unfold State.writeField
      exact if_pos (Or.inr (Or.inl rfl))
    unfold State.writeReg
    rw [hring, fieldsAt_period]
    dsimp only
    rw [List.foldl_cons, List.foldl_nil, hfield, State.linkEnable_self]
  unfold State.bootReg
  rw [if_neg (by decide)]
  dsimp only
  rw [hreg, State.bootRules_period, hsealed]
  exact if_neg fun h => Bool.noConfusion h.2

/-- A PERIOD in range is in force at once. -/
theorem State.get_bootReg_period (s : State) (cal : List CabCal) {v : Nat} (hlo : 32 ≤ v) (hhi : v ≤ 1048576) :
    (s.bootReg cal 0x10008 v).get Reg.TCK_PERIOD_PERIOD = v := by
  have hmod : v % 2 ^ 21 = v := Nat.mod_eq_of_lt (by omega)
  have hok : s.settingOk (.period (BitVec.ofNat 21 v)) = true := by
    show periodOk (BitVec.ofNat 21 v).toNat = true
    unfold periodOk
    rw [BitVec.toNat_ofNat, hmod]
    simp [hlo, hhi]
  have hput : s.bootTick 0x10008 v = s.put Reg.TCK_PERIOD_PERIOD (v % 2 ^ 21) := by
    simp [State.bootTick, hok]
  rw [State.bootReg_period, hput, hmod]
  exact State.get_put_of_lt _ _ _ _ _ (by show v < 2 ^ 21; omega)

/-! ## APPLY -/

/-- A section that the image lacks applies nothing beside the check of the directory. -/
theorem State.applySection_absent {s : State} {n : Nat} (hlo : 1 ≤ n) (hhi : n ≤ 5) (h : sectionOf s.boot.body n = none) :
    s.applySection n = s.startTables [] := by
  unfold State.applySection
  by_cases h1 : n = 1
  · subst h1
    rw [if_neg (by omega), if_pos rfl, h]
  · rw [if_neg (by omega), if_neg h1, h]

theorem State.applySection_sites {s : State} {b : List Byte} (h : sectionOf s.boot.body 2 = some b) :
    s.applySection 2 = State.applySites 4096 b (s.startTables []) := by
  unfold State.applySection
  rw [if_neg (by decide), if_neg (by decide), h]
  exact if_pos rfl

/-- A section 2 of one record sets its site. -/
theorem State.applySites_one (s : State) (n : Nat) {b : List Byte} (h : b.length = 16) : State.applySites (n + 2) b s =
    s.setSite (leAt b 0 8 % 4096) { word := St.defined (BitVec.ofNat 64 (leAt b 8 8)), applied := St.defined (BitVec.ofNat 64 (leAt b 8 8)),
                                    before := St.defined (BitVec.ofNat 64 (leAt b 8 8)) } := by
  rw [State.applySites, if_neg (by omega)]
  dsimp only
  rw [State.applySites, if_pos (by rw [List.length_drop]; omega)]

/-! ## END -/

theorem State.flag_of_unsealed {s : State} (h : s.unsealed = false) : s.get Reg.BOOT_STATUS_SEALED = 1 := by
  unfold State.unsealed State.flag at h
  simpa using h

theorem State.seal_ok {s : State} (h : s.mapOk = true) : s.seal = s.put Reg.BOOT_STATUS_SEALED 1 := if_pos h

theorem State.seal_bad {s : State} (h : s.mapOk = false) : s.seal = s.haltStart 5 := if_neg (by rw [h]; exact Bool.false_ne_true)

theorem doBootEnd_eq {s u : State} {off v : Nat} (h : s.bootTurn 0 = some (off, v)) (hu : u = (s.startTables []).put Reg.BOOT_PROG_PC s.boot.pc) :
    doBootEnd s = if (if u.unsealed then u.seal else u).flag Reg.BOOT_STATUS_HALTED then (if u.unsealed then u.seal else u)
      else (if u.unsealed then u.seal else u).beginTraining := by
  unfold doBootEnd
  rw [h, hu]

/-- With a sound map, or sealed before, the registers are sealed as END goes on to the training. -/
theorem State.sealedForTraining {u : State} (hgo : u.flag Reg.BOOT_STATUS_HALTED = false) (hmap : u.unsealed = true → u.mapOk = true) :
    (if u.unsealed then u.seal else u).flag Reg.BOOT_STATUS_HALTED = false ∧ (if u.unsealed then u.seal else u).get Reg.BOOT_STATUS_SEALED = 1 ∧
    (if u.unsealed then u.seal else u).enabledLinks = u.enabledLinks ∧ (if u.unsealed then u.seal else u).mode = u.mode := by
  cases hopen : u.unsealed with
  | false =>
    rw [if_neg Bool.false_ne_true]
    exact ⟨hgo, State.flag_of_unsealed hopen, rfl, rfl⟩
  | true =>
    rw [if_pos rfl, State.seal_ok (hmap hopen)]
    have hput : Writes [Reg.BOOT_STATUS_SEALED.key] u (u.put Reg.BOOT_STATUS_SEALED 1) := .put _ _ _ _
    exact ⟨(hput.flag Reg.BOOT_STATUS_HALTED).trans hgo, State.get_put_of_lt _ _ _ _ _ (by decide), (hput.mono (by simp)).enabledLinks, rfl⟩

/-- Settles O5, operation by operation of the boot program; each ends by moving on, or by a halt with its cause. -/
theorem bootProgramRuns : Obligations.BootProgramRuns := by
  unfold Obligations.BootProgramRuns
  refine ⟨⟨fun s off v h => ?_, fun s c hc => ⟨fun hdue => ?_, fun hearly => ?_⟩, fun s off v h hmap => ?_, fun s off v h hmap => ?_⟩,
    ⟨fun s cal off v h => ⟨fun hlimit => ?_, fun hpassed hbefore => ?_⟩, fun s cal v => ⟨s.get_bootReg_period cal, fun hopen => ?_, fun hsealed => ?_⟩⟩,
    ⟨fun s off v h hreserved => ?_, fun s off v h hlo hhi => ?_⟩,
    fun s u off v h hu hgo => ⟨fun hopen hmap => ?_, fun hmap hlinks => ?_, fun hmap hlinks => ?_⟩, fun s hm htraining hseq => ?_⟩
  · have hexec : doBootWait s = s.setBoot { s.boot with waitUntil := some (s.clock + v % 2 ^ 16 * cyclesPerUs) } := by
      unfold doBootWait
      rw [h]
    exact congrArg Host.Outcome.next hexec
  · have hexec : doBootWaitExpiry s = (s.setBoot { s.boot with waitUntil := none }).bootNext := by
      unfold doBootWaitExpiry
      rw [hc]
      exact if_neg (Nat.not_lt.2 hdue)
    obtain ⟨hboot, hpc, -⟩ := (s.setBoot { s.boot with waitUntil := none }).bootNext_spec
    exact ⟨_, congrArg Host.Outcome.next hexec, congrArg Boot.waitUntil hboot, congrArg Boot.pc hboot, hpc⟩
  · refine congrArg Host.Outcome.next ?_
    unfold doBootWaitExpiry
    rw [hc]
    exact if_pos hearly
  · have hexec : doBootSeal s = (s.put Reg.BOOT_STATUS_SEALED 1).bootNext := by
      unfold doBootSeal
      rw [h, State.seal_ok hmap]
    obtain ⟨hboot, hpc, hwrites⟩ := (s.put Reg.BOOT_STATUS_SEALED 1).bootNext_spec
    exact ⟨_, congrArg Host.Outcome.next hexec, (hwrites.get Reg.BOOT_STATUS_SEALED).trans (State.get_put_of_lt _ _ _ _ _ (by decide)),
      congrArg Boot.pc hboot, hpc⟩
  · have hexec : doBootSeal s = (s.haltStart 5).bootNext := by
      unfold doBootSeal
      rw [h, State.seal_bad hmap]
    obtain ⟨hhalt, hcause⟩ := s.haltStart_spec 5 (by decide)
    obtain ⟨hhalted, hcaused, hwrites⟩ := State.bootNext_of_halt hhalt hcause
    exact ⟨_, congrArg Host.Outcome.next hexec, hhalted, hcaused,
      (hwrites.get Reg.BOOT_STATUS_SEALED).trans ((s.haltStart_writes 5).get Reg.BOOT_STATUS_SEALED)⟩
  · have hexec : doBootWrite cal s = (s.bootReg cal off v).bootNext := by
      unfold doBootWrite
      rw [h]
      dsimp only
      refine if_neg fun hfail => ?_
      obtain ⟨hlate, hnew⟩ := Bool.and_eq_true_iff.1 hfail
      rw [hlimit hlate] at hnew
      exact Bool.noConfusion hnew
    obtain ⟨hboot, hpc, -⟩ := (s.bootReg cal off v).bootNext_spec
    exact ⟨_, congrArg Host.Outcome.next hexec, rfl, congrArg Boot.pc hboot, hpc⟩
  · have hexec : doBootWrite cal s = (s.bootReg cal off v).bootNext.failStart := by
      unfold doBootWrite
      rw [h]
      dsimp only
      exact if_pos (Bool.and_eq_true_iff.2 ⟨hpassed, by rw [hbefore]; rfl⟩)
    obtain ⟨hmode, hrecov, -⟩ := (s.bootReg cal off v).bootNext.failStart_spec
    exact ⟨_, congrArg Host.Outcome.next hexec, hmode, hrecov⟩
  · rw [State.bootReg_pmap, if_pos hopen]
    have hlo : ∀ x : State, ((((x.put Reg.BOOT_PMAP_CHN_HI (v >>> 8) 3).put Reg.BOOT_PMAP_TBL_READ (v >>> 16) 3).put Reg.BOOT_PMAP_TALLY_READ
        (v >>> 17) 3).put Reg.BOOT_PMAP_TALLY_WRITE (v >>> 18) 3).get Reg.BOOT_PMAP_CHN_LO 3 = x.get Reg.BOOT_PMAP_CHN_LO 3 := fun x => by
      rw [State.get_put_ne _ _ _ _ _ _ _ _ (by decide), State.get_put_ne _ _ _ _ _ _ _ _ (by decide), State.get_put_ne _ _ _ _ _ _ _ _ (by decide),
        State.get_put_ne _ _ _ _ _ _ _ _ (by decide)]
    have hhi : ∀ x : State, (((x.put Reg.BOOT_PMAP_TBL_READ (v >>> 16) 3).put Reg.BOOT_PMAP_TALLY_READ (v >>> 17) 3).put Reg.BOOT_PMAP_TALLY_WRITE
        (v >>> 18) 3).get Reg.BOOT_PMAP_CHN_HI 3 = x.get Reg.BOOT_PMAP_CHN_HI 3 := fun x => by
      rw [State.get_put_ne _ _ _ _ _ _ _ _ (by decide), State.get_put_ne _ _ _ _ _ _ _ _ (by decide), State.get_put_ne _ _ _ _ _ _ _ _ (by decide)]
    have hread : ∀ x : State, ((x.put Reg.BOOT_PMAP_TALLY_READ (v >>> 17) 3).put Reg.BOOT_PMAP_TALLY_WRITE (v >>> 18) 3).get
        Reg.BOOT_PMAP_TBL_READ 3 = x.get Reg.BOOT_PMAP_TBL_READ 3 := fun x => by
      rw [State.get_put_ne _ _ _ _ _ _ _ _ (by decide), State.get_put_ne _ _ _ _ _ _ _ _ (by decide)]
    refine ⟨(hlo _).trans (State.get_put_same ..), (hhi _).trans ?_, (hread _).trans ?_⟩
    · exact (State.get_put_same ..).trans (congrArg (· % 256) (Nat.shiftRight_eq_div_pow v 8))
    · exact (State.get_put_same ..).trans (congrArg (· % 2) (Nat.shiftRight_eq_div_pow v 16))
  · rw [State.bootReg_pmap, if_neg (by rw [hsealed]; exact Bool.false_ne_true)]
    exact ⟨(Writes.put Reg.BOOT_PROG_PROG_ERR 1 0 0).get Reg.BOOT_PMAP_CHN_LO 3, State.get_put_of_lt _ _ _ _ _ (by decide)⟩
  · have hexec : doBootApply s = s.haltProgram.bootNext := by
      unfold doBootApply State.applySection
      rw [h]
      dsimp only
      rw [if_pos hreserved]
    obtain ⟨hhalt, hcause⟩ := s.haltStart_spec 4 (by decide)
    have herr : Writes [Reg.BOOT_PROG_PROG_ERR.key] (s.haltStart 4) s.haltProgram := .put _ _ _ _
    obtain ⟨hhalted, hcaused, hwrites⟩ := State.bootNext_of_halt ((herr.get Reg.BOOT_STATUS_HALTED).trans hhalt)
      ((herr.get Reg.BOOT_STATUS_HALT_CAUSE).trans hcause)
    exact ⟨_, congrArg Host.Outcome.next hexec, hhalted, hcaused,
      (hwrites.get Reg.BOOT_PROG_PROG_ERR).trans (State.get_put_of_lt (s.haltStart 4) Reg.BOOT_PROG_PROG_ERR 1 0 0 (by decide))⟩
  · have hexec : doBootApply s = (s.applySection (v % 256)).bootNext := by
      unfold doBootApply
      rw [h]
    obtain ⟨hboot, -, -⟩ := (s.applySection (v % 256)).bootNext_spec
    refine ⟨_, congrArg Host.Outcome.next hexec, rfl, congrArg Boot.pc hboot, fun hnone => ?_, fun b hsec hb hlen => ?_⟩
    · rw [State.applySection_absent hlo hhi hnone]
    · have happly : s.applySection (v % 256) = State.applySites 4096 b (s.startTables []) := by
        rw [hsec]
        exact State.applySection_sites hb
      have hkept : Within [.regs, .boot] (s.applySection (v % 256)) (s.applySection (v % 256)).bootNext := State.bootNext_within
      have hsite : (s.applySection (v % 256)).bootNext.site (leAt b 0 8 % 4096) = (s.applySection (v % 256)).site (leAt b 0 8 % 4096) :=
        congrArg (fun m => fgetD m (leAt b 0 8 % 4096) ({} : Site)) (hkept.same .sites).symm
      rw [hsite, happly, State.applySites_one _ 4094 hlen, State.site_setSite_same]
      exact ⟨rfl, rfl⟩
  · have hexec := doBootEnd_eq h hu
    obtain ⟨hhalt, hcause⟩ := u.haltStart_spec 5 (by decide)
    rw [if_pos hopen, State.seal_bad hmap, if_pos (show (u.haltStart 5).flag Reg.BOOT_STATUS_HALTED = true by rw [State.flag, hhalt]; rfl)] at hexec
    exact ⟨_, congrArg Host.Outcome.next hexec, hhalt, hcause, rfl⟩
  · obtain ⟨hstart, -, -⟩ := State.bootTurn_some h
    obtain ⟨hrun, hsealed, hsame, hmode⟩ := State.sealedForTraining hgo hmap
    have hexec := doBootEnd_eq h hu
    rw [if_neg (by rw [hrun]; exact Bool.false_ne_true)] at hexec
    have hu' : u.mode = .startUp := by
      have htables : Within [.freeCtr, .out, .regs, .boot, .tables, .rows, .cells, .faults, .journal, .tallies, .bays, .broad, .drawers, .cabs, .cur,
        .host] s (s.startTables []) := State.startTables_within
      rw [hu]
      exact (htables.same .mode : s.mode = _).symm.trans hstart
    obtain ⟨htrain, -⟩ := State.beginTraining_spec (hmode.trans hu')
    obtain ⟨hstill, hon, hstep, hkept, hseek⟩ := htrain (by rw [hsame]; exact hlinks)
    exact ⟨_, congrArg Host.Outcome.next hexec, hstill, hon, hstep, hkept.trans hsealed, fun l hl => hseek l (by rw [hsame]; exact hl)⟩
  · obtain ⟨hstart, -, -⟩ := State.bootTurn_some h
    obtain ⟨hrun, -, hsame, hmode⟩ := State.sealedForTraining hgo hmap
    have hexec := doBootEnd_eq h hu
    rw [if_neg (by rw [hrun]; exact Bool.false_ne_true)] at hexec
    have hu' : u.mode = .startUp := by
      have htables : Within [.freeCtr, .out, .regs, .boot, .tables, .rows, .cells, .faults, .journal, .tallies, .bays, .broad, .drawers, .cabs, .cur,
        .host] s (s.startTables []) := State.startTables_within
      rw [hu]
      exact (htables.same .mode : s.mode = _).symm.trans hstart
    obtain ⟨-, hserve⟩ := State.beginTraining_spec (hmode.trans hu')
    obtain ⟨hservice, hover⟩ := hserve (by rw [hsame]; exact hlinks)
    exact ⟨_, congrArg Host.Outcome.next hexec, hservice, hover⟩
  · obtain ⟨hmode, hover, htimer, hstep, hledger⟩ := s.serviceEntry_spec
    exact ⟨_, _, congrArg Host.Outcome.next (if_pos ⟨hm, htraining⟩), hmode, hover, htimer, hstep, hledger hseq, rfl, rfl, rfl⟩

end Sys2Proof.Machine
end

section
/-! PROOFS. Attaching, bulk synchronisation and the join (O43). -/

namespace Sys2Proof.Machine

set_option Elab.async false

/-! ## Attaching -/

theorem State.regs_seamGot (s : State) (n : Nat) : (s.seamGot n).regs = s.regs := by
  obtain ⟨_, _, h⟩ := s.seamGot_frame n
  rw [h]

theorem State.tick_seamGot (s : State) (n : Nat) : (s.seamGot n).tick = s.tick := by
  obtain ⟨_, _, h⟩ := s.seamGot_frame n
  rw [h]

theorem State.mode_seamGot (s : State) (n : Nat) : (s.seamGot n).mode = s.mode := by
  obtain ⟨_, _, h⟩ := s.seamGot_frame n
  rw [h]

theorem State.pair_seamGot (s : State) (n : Nat) : (s.seamGot n).seam.pair = s.seam.pair := by
  obtain ⟨_, _, h⟩ := s.seamGot_frame n
  rw [h]

/-- The refusal and the roles are told by registers alone. -/
theorem State.attachRefused_of_regs {s t : State} (hregs : t.regs = s.regs) (h : PairHello) :
    t.attachRefused h = s.attachRefused h ∧ t.isSource h = s.isSource h := by
  unfold State.attachRefused State.isSource State.flag State.get
  rw [hregs]
  exact ⟨rfl, rfl⟩

theorem State.seam_checkSettle (s : State) : s.checkSettle.seam = s.seam ∧ s.checkSettle.tick = s.tick :=
  ⟨(State.checkSettle_within.same .seam).symm, (State.checkSettle_within.same .tick).symm⟩

/-- The seam of a device that attaches, its role decided. -/
def Seam.attached (k : Seam) (p : PairSt) (role : Nat) : Seam :=
  { k with hello := none, joinAt := none, syncing := false, snap := none, missed := 0, digs := [], cmps := [], pendRecv := [], pair := p, role := role }

/-- The three outcomes of an attach (R312). -/
theorem State.decideAttach_spec {s : State} {h : PairHello} (hhello : s.seam.hello = some h) (hm : s.mode = .service) (hpair : s.seam.pair = .attaching) :
    (s.attachRefused h = true → s.decideAttach.seam = { s.seam with hello := none, pair := .detached } ∧
      s.decideAttach.flag Reg.SEAM_STATUS_REFUSED = true) ∧
    (s.attachRefused h = false → s.isSource h = true → s.decideAttach.seam = s.seam.attached .source 1 ∧ s.decideAttach.tick = s.tick) ∧
    (s.attachRefused h = false → s.isSource h = false → s.decideAttach.seam = s.seam.attached .target 2 ∧
      ∃ r : Retime, s.decideAttach.tick.retime = some { r with src := some 2, join := true }) := by
  unfold State.decideAttach
  rw [hhello]
  dsimp only
  rw [if_neg (by simp [hm, hpair])]
  refine ⟨fun href => ?_, fun href hsrc => ?_, fun href hsrc => ?_⟩
  · rw [if_pos href]
    exact ⟨(State.setRaise_within.same .seam).symm,
      ((Writes.raise Ev.SEAM_REFUSED).flag Reg.SEAM_STATUS_REFUSED).trans (State.flag_put_one _ Reg.SEAM_STATUS_REFUSED 0 0 rfl)⟩
  · rw [if_neg (by simp [href]), if_pos hsrc]
    exact State.seam_checkSettle _
  · rw [if_neg (by simp [href]), if_neg (by simp [hsrc])]
    refine ⟨(State.seam_checkSettle _).1.trans (State.addRetime_within.same .seam).symm, s.tick.retime.getD {}, ?_⟩
    rw [(State.seam_checkSettle _).2, State.tick_addRetime]
    rfl

theorem State.decideAttach_idle {s : State} (hwait : s.mode ≠ .service ∨ s.seam.pair ≠ .attaching) : s.decideAttach = s := by
  unfold State.decideAttach
  split
  · rfl
  · exact if_pos hwait

/-- The device with the twin's hello noted. -/
def State.greeted (s : State) (h : PairHello) : State := (s.seamGot 1).setSeam { (s.seamGot 1).seam with hello := some h }

theorem execPairHello_up {s : State} (h : PairHello) (hup : s.seam.link.st = .up) : execPairHello h s = .next (s.greeted h).decideAttach :=
  congrArg Host.Outcome.next (if_pos hup)

/-! ## What the twin's data change -/

theorem State.rows_freeRow (s : State) (r : Row) : (s.freeRow r).rows = s.rows.erase r := by
  unfold State.freeRow State.toClear
  split <;> rfl

/-- Of a list of rows each goes once. -/
theorem State.rows_foldl_freeRow (l : List Row) (s : State) : (l.foldl State.freeRow s).rows = l.foldl List.erase s.rows := by
  induction l generalizing s with
  | nil => rfl
  | cons r l ih => rw [List.foldl_cons, ih, State.rows_freeRow, List.foldl_cons]

theorem State.not_mem_removeRows {s : State} {t : Nat} {p : Row → Bool} {r : Row} (htbl : r.tbl = t) (hp : p r = true) :
    r ∉ (s.removeRows t p).rows := by
  unfold State.removeRows
  rw [State.rows_foldl_freeRow, ← List.diff_eq_foldl, ← List.count_eq_zero, List.count_diff, List.count_filter (by simp [htbl, hp]), Nat.sub_self]

theorem State.wipeTable_spec (s : State) (t : Nat) : (s.wipeTable t).table t = none ∧ ∀ r ∈ (s.wipeTable t).rows, r.tbl ≠ t :=
  ⟨fget_fdel_same _ _, fun _ hr htbl => State.not_mem_removeRows htbl rfl hr⟩

/-- A line of the twin's store is in the store, and nowhere else. -/
theorem State.syncLine_spec (s : State) (l : Nat) (v : BitVec 512) : (s.syncLine l v).wrd.stored l = v ∧ l ∉ (s.syncLine l v).wrd.bad ∧
    (s.syncLine l v).wrd.wayOf l = none ∧ (s.syncLine l v).wrd.stagedOf l = none ∧
    ∀ m, m ≠ l → (s.syncLine l v).wrd.stored m = s.wrd.stored m := by
  obtain ⟨⟨p, hinval⟩, -⟩ := s.invalidate_frame [l]
  unfold State.syncLine
  extract_lets old t
  have ht : t.wrd = { (s.invalidate [l]).wrd with fills := (s.invalidate [l]).wrd.fills.filter fun f => !(f.line == l) } :=
    (State.spend_within.same .wrd).symm
  have hways : t.wrd.ways = s.wrd.ways.filter fun x => !([l].contains x.line) := by rw [ht, hinval]
  have hstore : t.wrd.store = s.wrd.store := by rw [ht, hinval]
  refine ⟨fgetD_fset_same _ _ _ _, fun h => ?_, List.find?_eq_none.2 fun x hx => ?_, ?_,
    fun m hm => (fgetD_fset_ne _ _ 0 _ hm.symm).trans (by rw [hstore]; rfl)⟩
  · simp [State.setWrd] at h
  · have hout := (List.mem_filter.1 (hways ▸ hx : x ∈ s.wrd.ways.filter _)).2
    simpa using hout
  · rw [Wardrobe.stagedOf, List.find?_eq_none.2 fun x hx => ?_]
    · rfl
    · have hout := (List.mem_filter.1 hx).2
      simpa using hout

/-- A key that a filter takes out of a map is not found in it. -/
theorem fget_filter_out {α : Type} (m : FMap α) (p : Nat → Bool) {k : Nat} (hk : p k = false) : fget (m.filter fun e => p e.1) k = none := by
  induction m with
  | nil => rfl
  | cons e m ih =>
    rw [List.filter_cons]
    split
    next he => exact (if_neg fun heq => by rw [heq, hk] at he; exact Bool.noConfusion he).trans ih
    next => exact ih

theorem State.clearLines_spec (s : State) (b l : Nat) (hl : l / 4096 = b) : (s.clearLines b).wrd.stored l = 0 ∧ l ∉ (s.clearLines b).wrd.bad ∧
    (s.clearLines b).wrd.stagedOf l = none := by
  unfold State.clearLines
  extract_lets mine t
  have hmine : mine l = true := beq_iff_eq.2 hl
  refine ⟨?_, fun h => ?_, ?_⟩
  · rw [Wardrobe.stored, fgetD]
    have hgone := fget_filter_out t.wrd.store (fun l => !mine l) (k := l) (by rw [hmine]; rfl)
    exact congrArg (·.getD 0) hgone
  · have hout := (List.mem_filter.1 h).2
    rw [hmine] at hout
    exact Bool.noConfusion hout
  · rw [Wardrobe.stagedOf, List.find?_eq_none.2 fun x hx hxl => ?_]
    · rfl
    · have hout := (List.mem_filter.1 hx).2
      rw [beq_iff_eq.1 hxl, hmine] at hout
      exact Bool.noConfusion hout

/-! ## The messages -/

theorem State.regs_sendSeam (s : State) (m : SeamOut) : (s.sendSeam m).regs = s.regs := by
  obtain ⟨_, _, _, _, h⟩ := s.sendSeam_frame m
  rw [h]

theorem State.syncing_sendSeam (s : State) (m : SeamOut) : (s.sendSeam m).seam.syncing = s.seam.syncing := by
  obtain ⟨_, _, _, _, h⟩ := s.sendSeam_frame m
  rw [h]

theorem State.get_of_regs {s t : State} (h : t.regs = s.regs) (F : Field) : t.get F = s.get F := by
  unfold State.get
  rw [h]

theorem execSyncBegin_target {s : State} (hpair : s.seam.pair = .target) : execSyncBegin s =
    .next ((((s.seamGot 1).setSeam { (s.seamGot 1).seam with syncing := true }).put Reg.SEAM_SYNC_PROGRESS 0).sendSeam
      (.syncData (s.seamGot 1).directory)) := congrArg Host.Outcome.next (if_pos ((s.pair_seamGot 1).trans hpair))

theorem doSyncData_target {s : State} {i : SyncItem} (hpair : s.seam.pair = .target) (hsync : s.seam.syncing = true) (hfree : s.reqFenced 1 = false) :
    doSyncData i s = s.syncItem i := (if_neg (by rw [hfree]; exact Bool.false_ne_true)).trans (if_pos ⟨hpair, hsync⟩)

theorem doSyncData_source {s : State} {i : SyncItem} (hpair : s.seam.pair = .source) (hfree : s.reqFenced 1 = false) :
    doSyncData i s = s.streamSnap i :=
  (if_neg (by rw [hfree]; exact Bool.false_ne_true)).trans ((if_neg (by simp [hpair])).trans (if_pos hpair))

theorem doSyncData_idle {s : State} {i : SyncItem}
    (hidle : s.reqFenced 1 = true ∨ (s.seam.pair ≠ .source ∧ (s.seam.pair ≠ .target ∨ s.seam.syncing = false))) : doSyncData i s = s := by
  by_cases hfence : s.reqFenced 1 = true
  · exact if_pos hfence
  · obtain ⟨hsource, htarget⟩ := hidle.resolve_left hfence
    exact (if_neg hfence).trans ((if_neg fun h => htarget.elim (fun hne => hne h.1) fun hoff => by simp [hoff] at h).trans (if_neg hsource))

/-- What a device that attaches is, and holds, from the join on. -/
def State.joined (s : State) : State :=
  let t := s.setSeam { s.seam with pair := .paired, digs := [], cmps := [], pendRecv := [] }
  (t.setTick { t.tick with retime := t.tick.retime.map fun r => { r with join := false } }).setCur { t.cur with restoreAsked := [] }

theorem State.askRestore_frame (s : State) : s.askRestore.tick = s.tick ∧ s.askRestore.seam.pair = s.seam.pair ∧
    s.askRestore.seam.digs = s.seam.digs := by
  refine ⟨(State.askRestore_within.same .tick).symm, ?_⟩
  unfold State.askRestore
  split
  · exact ⟨rfl, rfl⟩
  · extract_lets want _ t
    obtain ⟨_, _, _, _, h⟩ := t.sendSeams_frame (want.map fun e => .restoreReq e.1 e.2)
    rw [h]
    exact ⟨rfl, rfl⟩

theorem doSeamJoin_due {s : State} {j : Tick} (hjoin : s.seam.joinAt = some j) (hpair : s.seam.pair = .source ∨ s.seam.pair = .target)
    (hdue : tickLe j s.tick.now = true) : doSeamJoin s = ((s.joined.raise Ev.SEAM_ATTACH).checkSettle).askRestore := by
  unfold doSeamJoin
  rw [hjoin]
  exact if_pos ⟨hpair, hdue⟩

theorem doSeamJoin_idle {s : State} (hidle : s.seam.joinAt = none ∨ (s.seam.pair ≠ .source ∧ s.seam.pair ≠ .target) ∨
    ∀ j, s.seam.joinAt = some j → tickLe j s.tick.now = false) : doSeamJoin s = s := by
  unfold doSeamJoin
  split
  · rfl
  next j hjoin =>
    refine if_neg fun ⟨hpair, hdue⟩ => ?_
    rcases hidle with h | ⟨hs, ht⟩ | h
    · rw [hjoin] at h
      exact nomatch h
    · exact hpair.elim hs ht
    · rw [h j hjoin] at hdue
      exact Bool.noConfusion hdue

/-- Settles O43, by the pairing state in which each message arrives. -/
theorem attachSyncAndJoin : Obligations.AttachSyncAndJoin := by
  unfold Obligations.AttachSyncAndJoin
  refine ⟨fun s h => ⟨fun hup hm hpair => ?_, fun hup hwait => ?_, fun hdown => congrArg Host.Outcome.next (if_neg hdown)⟩,
    fun s hpair => ⟨?_, ?_, fun j => ?_⟩, fun s j i hi hpair => ?_, fun s i hpair hsync hfree => ?_, fun s held blocks items hpair hfree hsnap => ?_,
    fun s i hidle => ?_, fun s => ⟨fun j hjoin hpair hdue => ?_, fun hidle => congrArg Host.Outcome.next (doSeamJoin_idle hidle)⟩⟩
  · have hregs : (s.greeted h).regs = s.regs := s.regs_seamGot 1
    have htick : (s.greeted h).tick = s.tick := s.tick_seamGot 1
    obtain ⟨href, hsrc⟩ := State.attachRefused_of_regs hregs h
    obtain ⟨hrefused, hsource, htarget⟩ := (s.greeted h).decideAttach_spec rfl ((s.mode_seamGot 1).trans hm) ((s.pair_seamGot 1).trans hpair)
    rw [href] at hrefused
    rw [href, hsrc, htick] at hsource
    rw [href, hsrc] at htarget
    refine ⟨_, execPairHello_up h hup, ?_⟩
    generalize (s.greeted h).decideAttach = t at hrefused hsource htarget ⊢
    cases hr : s.attachRefused h with
    | true =>
      obtain ⟨hseam, hflag⟩ := hrefused hr
      rw [hseam]
      exact ⟨rfl, fun _ => ⟨rfl, hflag⟩, fun h => (nomatch h), fun h => (nomatch h)⟩
    | false =>
      cases hs : s.isSource h with
      | true =>
        obtain ⟨hseam, htick⟩ := hsource hr hs
        rw [hseam]
        exact ⟨rfl, fun h => (nomatch h), fun _ _ => ⟨rfl, rfl, htick⟩, fun _ h => (nomatch h)⟩
      | false =>
        obtain ⟨hseam, r, hretime⟩ := htarget hr hs
        rw [hseam]
        exact ⟨rfl, fun h => (nomatch h), fun _ h => (nomatch h), fun _ _ => ⟨rfl, rfl, _, hretime, rfl, rfl⟩⟩
  · exact ⟨_, execPairHello_up h hup, by
      rw [State.decideAttach_idle (s := s.greeted h) (hwait.imp (fun hm => fun h => hm ((s.mode_seamGot 1).symm.trans h)) fun hp => fun h => hp ((s.pair_seamGot 1).symm.trans h))]
      rfl⟩
  · refine ⟨_, execSyncBegin_target hpair, State.syncing_sendSeam .., ?_, State.sendSeam_sent _ rfl rfl rfl rfl⟩
    exact (State.get_of_regs (State.regs_sendSeam ..) _).trans (State.get_put_of_lt _ Reg.SEAM_SYNC_PROGRESS 0 0 0 (by decide))
  · exact ⟨_, congrArg Host.Outcome.next (if_pos ((s.pair_seamGot 1).trans hpair)), rfl, State.get_put_of_lt _ Reg.SEAM_SYNC_PROGRESS 100 0 0 (by decide)⟩
  · exact ⟨_, congrArg Host.Outcome.next (if_pos ((s.pair_seamGot 1).trans hpair)), rfl, State.get_put_of_lt _ Reg.SEAM_SYNC_JOIN j.toNat 0 0 j.isLt⟩
  · have hne : (s.seamGot 1).seam.pair ≠ .target := fun h => hpair ((s.pair_seamGot 1).symm.trans h)
    simp only [List.mem_cons, List.not_mem_nil, or_false] at hi
    rcases hi with rfl | rfl | rfl
    · exact congrArg Host.Outcome.next (if_neg hne)
    · exact congrArg Host.Outcome.next (if_neg hne)
    · exact congrArg Host.Outcome.next (if_neg hne)
  · obtain ⟨o, k, hgot⟩ := s.seamGot_frame (syncFlits i)
    have hexec := doSyncData_target (s := s.seamGot (syncFlits i)) (i := i) ((s.pair_seamGot _).trans hpair) (by rw [hgot]; exact hsync)
      (by rw [hgot]; exact hfree)
    refine ⟨_, congrArg Host.Outcome.next hexec, ?_, ?_, ?_, ?_, ?_, ?_⟩
    · rintro l v rfl
      obtain ⟨h1, h2, h3, h4, h5⟩ := (s.seamGot (syncFlits (.line l v))).syncLine_spec l.toNat v
      exact ⟨h1, h2, h3, h4, fun m hm => (h5 m hm).trans (by rw [hgot])⟩
    · rintro n v rfl
      exact ⟨State.site_setSite_same _ _ _, rfl⟩
    · rintro n rfl
      have hdrop : (s.seamGot (syncFlits (.dropTable n))).syncItem (.dropTable n) =
        if (s.table n.val).isSome then (s.seamGot (syncFlits (.dropTable n))).wipeTable n.val else s.seamGot (syncFlits (.dropTable n)) := by
        rw [hgot]
        rfl
      rw [hdrop]
      cases htab : s.table n.val with
      | some d =>
        rw [if_pos Option.isSome_some]
        exact ⟨(State.wipeTable_spec _ _).1, fun _ => (State.wipeTable_spec _ _).2⟩
      | none =>
        rw [if_neg (by simp)]
        exact ⟨by rw [hgot]; exact htab, fun h => (nomatch h)⟩
    · rintro n rfl r hr htbl
      by_contra hl
      exact State.not_mem_removeRows htbl (by simp [hl]) hr
    · rintro b rfl l hl
      exact State.clearLines_spec _ _ _ hl
    · rintro rfl
      refine ⟨fun e he => ?_, rfl⟩
      obtain ⟨x, -, rfl⟩ := List.mem_map.1 he
      rfl
  · obtain ⟨o, k, hgot⟩ := s.seamGot_frame 8
    have hexec := doSyncData_source (s := s.seamGot 8) (i := .holds held blocks) ((s.pair_seamGot _).trans hpair) (by rw [hgot]; exact hfree)
    have hstream : (s.seamGot 8).streamSnap (.holds held blocks) =
        ((s.seamGot 8).setSeam { (s.seamGot 8).seam with snap := none }).sendSeams ((streamed items held blocks).map .syncData) := by
      unfold State.streamSnap
      rw [show (s.seamGot 8).seam.snap = some items by rw [hgot]; exact hsnap]
    have hframe := ((s.seamGot 8).setSeam { (s.seamGot 8).seam with snap := none }).sendSeams_frame ((streamed items held blocks).map .syncData)
    have hrows : (s.seamGot 8).rows = s.rows := by rw [hgot]
    have hwrd : (s.seamGot 8).wrd = s.wrd := by rw [hgot]
    rw [hstream] at hexec
    refine ⟨_, congrArg Host.Outcome.next hexec, ?_, ?_, ?_, fun i hone => ?_⟩
    · obtain ⟨_, _, _, _, h⟩ := hframe
      rw [h]
      rfl
    · obtain ⟨_, _, _, _, h⟩ := hframe
      rw [h]
      exact hrows
    · obtain ⟨_, _, _, _, h⟩ := hframe
      rw [h]
      exact hwrd
    · rw [hone]
      exact State.sendSeam_sent (.syncData i) rfl rfl rfl rfl
  · obtain ⟨o, k, hgot⟩ := s.seamGot_frame (syncFlits i)
    exact congrArg Host.Outcome.next (doSyncData_idle (by rw [hgot]; exact hidle))
  · obtain ⟨h1, h2, h3⟩ := ((s.joined.raise Ev.SEAM_ATTACH).checkSettle).askRestore_frame
    obtain ⟨h4, h5⟩ := (s.joined.raise Ev.SEAM_ATTACH).seam_checkSettle
    have h6 : (s.joined.raise Ev.SEAM_ATTACH).seam = s.joined.seam := (State.raise_within.same .seam).symm
    have h7 : (s.joined.raise Ev.SEAM_ATTACH).tick = s.joined.tick := (State.raise_within.same .tick).symm
    refine ⟨_, congrArg Host.Outcome.next (doSeamJoin_due hjoin hpair hdue), ?_, ?_, ?_⟩
    · rw [h2, h4, h6]
      rfl
    · rw [h3, h4, h6]
      rfl
    · rw [h1, h5, h7]
      rfl

end Sys2Proof.Machine
end

section
/-! PROOFS. Rows advance, are cleared, and become durable (O32). -/

namespace Sys2Proof.Machine

set_option Elab.async false

/-! ## Rows that advance -/

theorem State.rows_advanceRows (s : State) : s.advanceRows.rows =
    (s.rows.map fun r => if s.rowSettled r then { r with st := .live } else r).diff
      ((s.rows.map fun r => if s.rowSettled r then { r with st := .live } else r).filter fun r =>
        (s.rows.filter s.rowOver).any fun o => o.loc = r.loc && o.id = r.id && o.tbl = r.tbl) := by
  unfold State.advanceRows
  dsimp only
  rw [State.rows_foldl_freeRow, ← List.diff_eq_foldl]
  rfl

theorem mem_diff_filter {α : Type} [BEq α] [LawfulBEq α] {l : List α} {p : α → Bool} {a : α} :
    a ∈ l.diff (l.filter p) ↔ a ∈ l ∧ p a = false := by
  rw [← List.count_pos_iff, List.count_diff]
  cases h : p a with
  | true => simp [List.count_filter h]
  | false => simp [List.count_eq_zero.2 (show a ∉ l.filter p by simp [h]), List.count_pos_iff]

/-- A row after its ON + L has passed. -/
def State.settledRow (s : State) (r : Row) : Row := if s.rowSettled r then { r with st := .live } else r

theorem State.settledRow_frame (s : State) (r : Row) : ∃ st, s.settledRow r = { r with st := st } := by
  unfold State.settledRow
  split <;> exact ⟨_, rfl⟩

theorem State.rowSettled_settledRow (s : State) (r : Row) : s.rowSettled (s.settledRow r) = false := by
  cases h : s.rowSettled r with
  | true =>
    rw [show s.settledRow r = { r with st := .live } from if_pos h]
    rfl
  | false => rwa [show s.settledRow r = r from if_neg (by simp [h])]

theorem State.rowOver_settledRow (s : State) (r : Row) : s.rowOver (s.settledRow r) = s.rowOver r := by
  obtain ⟨_, h⟩ := s.settledRow_frame r
  rw [h]
  rfl

/-- A row is there after an advance when it was there and no row of the same entry at its place is over. -/
theorem State.mem_advanceRows {s : State} {r : Row} : r ∈ s.advanceRows.rows ↔ (∃ o ∈ s.rows, s.settledRow o = r) ∧
    ∀ o ∈ s.rows, s.rowOver o = true → ¬ (o.loc = r.loc ∧ o.id = r.id ∧ o.tbl = r.tbl) := by
  rw [State.rows_advanceRows, mem_diff_filter, List.any_eq_false]
  refine and_congr List.mem_map ⟨fun h o ho hover hsame => h o (List.mem_filter.2 ⟨ho, hover⟩) (by simp [hsame]), fun h o ho hsame => ?_⟩
  obtain ⟨hmem, hover⟩ := List.mem_filter.1 ho
  simp only [Bool.and_eq_true, decide_eq_true_eq] at hsame
  exact h o hmem hover ⟨hsame.1.1, hsame.1.2, hsame.2⟩

theorem State.advanceRows_none_waits {s : State} {r : Row} (h : r ∈ s.advanceRows.rows) : s.rowSettled r = false ∧ s.rowOver r = false := by
  obtain ⟨⟨o, ho, rfl⟩, hnone⟩ := State.mem_advanceRows.1 h
  refine ⟨s.rowSettled_settledRow o, Bool.eq_false_iff.2 fun hover => ?_⟩
  obtain ⟨st, hframe⟩ := s.settledRow_frame o
  rw [State.rowOver_settledRow] at hover
  exact hnone o ho hover (by rw [hframe]; exact ⟨rfl, rfl, rfl⟩)

theorem State.settledRow_mem_advanceRows {s : State} {r : Row} (hr : r ∈ s.rows) (hnone : ∀ o ∈ s.rows, s.rowOver o = true → o.loc ≠ r.loc) :
    s.settledRow r ∈ s.advanceRows.rows := by
  obtain ⟨st, hframe⟩ := s.settledRow_frame r
  exact State.mem_advanceRows.2 ⟨⟨r, hr, rfl⟩, fun o ho hover hsame => hnone o ho hover (by rw [hframe] at hsame; exact hsame.1)⟩

/-! ## Rows that are cleared -/

/-- Row k holds nothing: both VALID bits are 0. -/
def Blank (m : FMap RowCells) (k : Nat) : Prop := ∃ c, fget m k = some c ∧ c.valid 0 = false ∧ c.valid 1 = false

theorem valid_cleared (c : RowCells) (k : Nat) : (c.cleared k).valid 0 = false ∧ (c.cleared k).valid 1 = false := by
  have hdig : (c.cleared k).dig.toNat = (2 ^ 2 * (c.dig.toNat / 4)) % 2 ^ 140 := by
    have hput : putField c.dig.toNat 0 2 0 = 2 ^ 2 * (c.dig.toNat / 4) := by
      unfold putField fieldOf
      rw [Nat.shiftRight_zero]
      omega
    show (BitVec.ofNat 140 (putField c.dig.toNat 0 2 0)).toNat = _
    rw [hput]
    rfl
  unfold RowCells.valid
  rw [hdig, Nat.testBit_mod_two_pow, Nat.testBit_mod_two_pow, Nat.testBit_two_pow_mul, Nat.testBit_two_pow_mul]
  exact ⟨rfl, rfl⟩

theorem Blank.fput {m : FMap RowCells} {k : Nat} (h : Blank m k) (j : Nat) (c : RowCells) : Blank (fput m j (c.cleared j)) k := by
  by_cases hj : j = k
  · subst hj
    exact ⟨_, fget_fput_same .., valid_cleared c j⟩
  · obtain ⟨d, hd, hvalid⟩ := h
    exact ⟨d, (fget_fput_ne _ _ hj).trans hd, hvalid⟩

theorem State.clearQ_spend (s : State) (n : Nat) : (s.spend n).cur.clearQ = s.cur.clearQ ∧ (s.spend n).cells = s.cells := by
  refine ⟨?_, (State.spend_within.same .cells).symm⟩
  unfold State.spend State.setBalance
  extract_lets _ b st t
  split
  · rfl
  · exact (congrArg Curator.clearQ (State.raise_within.same .cur).symm).trans rfl

theorem State.clearQ_defectRow (s : State) (g x row : Nat) : (s.defectRow g x row).cur = s.cur ∧ (s.defectRow g x row).cells = s.cells :=
  ⟨(State.defectRow_within.same .cur).symm, (State.defectRow_within.same .cells).symm⟩

theorem State.program_spec (s : State) (k : Nat) (new : RowCells) (fails : List Nat) :
    (s.program k new fails).1.cells = fput s.cells k new ∧ (s.program k new fails).1.cur.clearQ = s.cur.clearQ := by
  unfold State.program
  extract_lets g x cells t u v w
  have ht : t.cur.clearQ = s.cur.clearQ ∧ t.cells = s.cells := s.clearQ_spend cells
  have hu : u.cur.clearQ = s.cur.clearQ ∧ u.cells = s.cells := by
    unfold u
    split <;> exact ht
  have hw : w.cur.clearQ = s.cur.clearQ ∧ w.cells = fput s.cells k new := ⟨hu.1, congrArg (fput · k new) hu.2⟩
  split
  · exact hw.symm
  · obtain ⟨hcur, hcells⟩ := w.clearQ_defectRow g x (k % 2048)
    exact ⟨hcells.trans hw.2, (congrArg Curator.clearQ hcur).trans hw.1⟩

theorem State.clearRows_spec (ks : List Nat) (s : State) (f : List (List Nat)) : (s.clearRows ks f).cur.clearQ = s.cur.clearQ ∧
    (∀ k, Blank s.cells k → Blank (s.clearRows ks f).cells k) ∧ ∀ k ∈ ks, Blank (s.clearRows ks f).cells k := by
  induction ks generalizing s f with
  | nil => exact ⟨rfl, fun _ h => h, fun _ h => (nomatch h)⟩
  | cons k ks ih =>
    obtain ⟨hcells, hclear⟩ := s.program_spec k ((s.contents k).cleared k) (f.headD [])
    obtain ⟨hq, hkeep, hall⟩ := ih (s.program k ((s.contents k).cleared k) (f.headD [])).1 f.tail
    refine ⟨hq.trans hclear, fun j hj => hkeep j (by rw [hcells]; exact hj.fput k _), fun j hj => ?_⟩
    rcases List.mem_cons.1 hj with rfl | hj
    · exact hkeep j (by rw [hcells]; exact ⟨_, fget_fput_same .., valid_cleared _ j⟩)
    · exact hall j hj

theorem State.foldl_covered (ls : List Loc) (s : State) : ∃ js, ls.foldl State.covered s = { s with journal := js } ∧
    ∀ l, (l ∈ ls ∨ ∀ j ∈ s.journal, l ∉ j.covers) → ∀ j ∈ js, l ∉ j.covers := by
  induction ls generalizing s with
  | nil => exact ⟨_, rfl, fun l h => h.resolve_left (fun h => nomatch h)⟩
  | cons a ls ih =>
    obtain ⟨js, hframe, hout⟩ := ih (s.covered a)
    refine ⟨js, by rw [List.foldl_cons, hframe]; rfl, fun l h => hout l ?_⟩
    by_cases hin : l ∈ ls
    · exact .inl hin
    refine .inr fun j hj => ?_
    obtain ⟨o, ho, hless⟩ := List.mem_filterMap.1 hj
    unfold JRow.less at hless
    dsimp only at hless
    split at hless
    · exact nomatch hless
    · obtain rfl := Option.some.inj hless
      intro hmem
      obtain ⟨hold, hne⟩ := List.mem_filter.1 hmem
      rcases h with h | h
      · rcases List.mem_cons.1 h with rfl | h
        · simp at hne
        · exact hin h
      · exact h o ho hold

/-- A place goes with the place that is cleared: it is that place, or lies in the same rows. -/
def State.clearedWith (s : State) (l m : Loc) : Bool := m == l || (m.isDrawer && (s.placeRows l).contains m.phys)

theorem doRowClear_some {w : WriteRes} {s : State} {l : Loc} (hwork : s.mayWork 6 = true)
    (hfind : (s.cur.clearQ.find? fun m => s.clearable m && !s.shut m.phys) = some l) : ∃ u : State,
      (u = (((s.clearRows (s.placeRows l) (w.rows.map s.failsOf)).cur.clearQ.filter (s.clearedWith l)).foldl State.covered
        (s.clearRows (s.placeRows l) (w.rows.map s.failsOf)))) ∧
      doRowClear w s = { u with cur := { u.cur with clearQ := u.cur.clearQ.filter fun m => !s.clearedWith l m } } := by
  unfold doRowClear
  rw [hfind]
  refine ⟨_, rfl, if_neg ?_⟩
  simp [State.mayWork] at hwork
  simp [hwork]

theorem doRowClear_idle {w : WriteRes} {s : State} (h : s.mayWork 6 = false ∨ (s.cur.clearQ.find? fun m => s.clearable m && !s.shut m.phys) = none) :
    doRowClear w s = s := by
  unfold doRowClear
  split
  · rfl
  next l hl =>
    refine if_pos ?_
    have hwork := h.resolve_right (by rw [hl]; exact Option.some_ne_none l)
    simp [State.mayWork] at hwork
    by_cases hf : s.reqFenced 6 = true
    · exact .inl hf
    · exact .inr (hwork (by simpa using hf))

theorem doRowClear_spec {w : WriteRes} {s : State} {l : Loc} (hwork : s.mayWork 6 = true)
    (hfind : (s.cur.clearQ.find? fun m => s.clearable m && !s.shut m.phys) = some l) :
    l ∉ (doRowClear w s).cur.clearQ ∧ (∀ j ∈ (doRowClear w s).journal, l ∉ j.covers) ∧ (doRowClear w s).rows = s.rows ∧
    (∀ m ∈ s.cur.clearQ, m ≠ l → m.isDrawer = false ∨ m.phys ∉ s.placeRows l → m ∈ (doRowClear w s).cur.clearQ) ∧
    ∀ k ∈ s.placeRows l, Blank (doRowClear w s).cells k := by
  obtain ⟨u, hu, hrun⟩ := doRowClear_some (w := w) hwork hfind
  obtain ⟨hq, -, hblank⟩ := State.clearRows_spec (s.placeRows l) s (w.rows.map s.failsOf)
  obtain ⟨js, hframe, hcover⟩ := State.foldl_covered ((s.clearRows (s.placeRows l) (w.rows.map s.failsOf)).cur.clearQ.filter (s.clearedWith l))
    (s.clearRows (s.placeRows l) (w.rows.map s.failsOf))
  have hrows : (s.clearRows (s.placeRows l) (w.rows.map s.failsOf)).rows = s.rows := (State.clearRows_within.same .rows).symm
  generalize s.clearRows (s.placeRows l) (w.rows.map s.failsOf) = t at *
  rw [hframe] at hu
  subst hu
  rw [hrun]
  have hself : s.clearedWith l l = true := by simp [State.clearedWith]
  refine ⟨fun h => ?_, hcover l (.inl (List.mem_filter.2 ⟨by rw [hq]; exact List.mem_of_find?_eq_some hfind, hself⟩)), hrows, fun m hm hne hout => ?_, hblank⟩
  · have := (List.mem_filter.1 h).2
    simp [hself] at this
  · refine List.mem_filter.2 ⟨by rw [hq]; exact hm, ?_⟩
    rcases hout with hout | hout <;> simp [State.clearedWith, hne, hout]

/-! ## Rows that become durable -/

/-- From s to t only the journal rows of the rows change. -/
def Rejournalled (s t : State) : Prop := ∃ f : Row → Option Nat, t.rows = s.rows.map fun r => { r with jrow := f r }

theorem Rejournalled.of_rows {s t : State} (h : t.rows = s.rows) : Rejournalled s t := ⟨(·.jrow), by rw [h, List.map_id'']; exact fun _ => rfl⟩

theorem Rejournalled.trans {s t u : State} (h : Rejournalled s t) (k : Rejournalled t u) : Rejournalled s u := by
  obtain ⟨f, hf⟩ := h
  obtain ⟨g, hg⟩ := k
  exact ⟨fun r => g { r with jrow := f r }, by rw [hg, hf, List.map_map]; rfl⟩

theorem State.journalMove_rejournalled (s : State) (n a : Nat) : Rejournalled s (s.journalMove n a) := by
  have hput : (State.journalPut 16 n (s.stands (journalKey n a)) s).1.rows = s.rows := (State.journalPut_within.same .rows).symm
  refine (Rejournalled.of_rows hput).trans ⟨fun r => if r.loc.inVest (n / 32) (n % 32) ∧ r.jrow = some a then
    (State.journalPut 16 n (s.stands (journalKey n a)) s).2 else r.jrow, ?_⟩
  refine List.map_congr_left fun r _ => ?_
  dsimp only
  split <;> rfl

theorem State.moveReserve_rejournalled (s : State) (n : Nat) (avoid : List Nat) : Rejournalled s (s.moveReserve n avoid) := by
  unfold State.moveReserve
  extract_lets p _ t
  have ht : Rejournalled s t := .of_rows (pickLeast_within.same .rows : s.rows = p.2.rows).symm
  exact List.foldlRecOn _ _ ht fun u hu a _ => hu.trans (u.journalMove_rejournalled n a)

theorem State.journalAt_rejournalled (s : State) (l : Loc) : Rejournalled s (s.journalAt l) := by
  unfold State.journalAt State.journalled
  extract_lets c o t
  have hput : Rejournalled s o.1 := .of_rows ((State.journalPut_within.same .rows).symm.trans (State.freeCells_within.same .rows).symm)
  have ht : Rejournalled s t := hput.trans ⟨fun r => if r.loc = l then o.2 else r.jrow, List.map_congr_left fun r _ => by
    dsimp only
    split <;> rfl⟩
  split
  · exact ht.trans (t.moveReserve_rejournalled _ _)
  · exact ht

/-- The vestibule row whose journal row LEARN_PERSIST writes. -/
def State.toPersist (s : State) (n : Fin 64) (id : BitVec 24) : Option Row := s.rows.find? fun r =>
  r.tbl == n.val && r.id == id.toNat && r.loc.isVest && !r.persisted && tickLe r.on s.tick.now && !s.journalFull r.loc.gal r.loc.cabinet

theorem doLearnPersist_some {n : Fin 64} {id : BitVec 24} {s : State} {r : Row} (hwork : s.mayWork 4 = true) (hrow : s.toPersist n id = some r) :
    doLearnPersist n id s = (s.journalAt r.loc).mapRow r.loc fun x => { x with persisted := x.jrow.isSome } := by
  unfold doLearnPersist
  rw [if_neg (by simp [hwork]), show (s.rows.find? _) = some r from hrow]

theorem doLearnPersist_idle {n : Fin 64} {id : BitVec 24} {s : State} (h : s.mayWork 4 = false ∨ s.toPersist n id = none) :
    doLearnPersist n id s = s := by
  unfold doLearnPersist
  by_cases hwork : s.mayWork 4 = false
  · exact if_pos hwork
  · rw [if_neg hwork, show (s.rows.find? _) = none from h.resolve_left hwork]

theorem doLearnPersist_rows {n : Fin 64} {id : BitVec 24} {s : State} {r : Row} (hwork : s.mayWork 4 = true) (hrow : s.toPersist n id = some r) :
    (∃ x ∈ (doLearnPersist n id s).rows, x = { r with jrow := x.jrow, persisted := x.jrow.isSome }) ∧
    (∀ o ∈ s.rows, o.loc ≠ r.loc → ∃ x ∈ (doLearnPersist n id s).rows, x = { o with jrow := x.jrow }) ∧
    (doLearnPersist n id s).rows.length = s.rows.length := by
  obtain ⟨f, hf⟩ := s.journalAt_rejournalled r.loc
  have hrows : (doLearnPersist n id s).rows = s.rows.map fun o =>
      if o.loc = r.loc then { o with jrow := f o, persisted := (f o).isSome } else { o with jrow := f o } := by
    rw [doLearnPersist_some hwork hrow]
    unfold State.mapRow State.setRows
    dsimp only
    rw [hf, List.map_map]
    exact List.map_congr_left fun o _ => rfl
  rw [hrows]
  refine ⟨⟨_, List.mem_map.2 ⟨r, List.mem_of_find?_eq_some hrow, rfl⟩, ?_⟩, fun o ho hne => ⟨_, List.mem_map.2 ⟨o, ho, rfl⟩, ?_⟩, List.length_map _⟩
  · rw [if_pos rfl]
  · rw [if_neg hne]

/-- Settles O32, by what an advance makes of each row, and by the first place or entry that the curator finds. -/
theorem rowsAdvancePersistAndClear : Obligations.RowsAdvancePersistAndClear := by
  unfold Obligations.RowsAdvancePersistAndClear
  refine ⟨⟨fun s => ⟨_, rfl, fun r hr => State.advanceRows_none_waits hr, fun r hr hnone => ⟨fun hset => ?_, fun hset => ?_⟩⟩,
    fun s w => ⟨fun l hcur hwork hfind => ⟨_, congrArg Host.Outcome.next (if_pos hcur), doRowClear_spec hwork hfind⟩, fun hidle => ?_⟩⟩,
    fun s n id => ⟨fun r hcur hwork hrow => ⟨_, congrArg Host.Outcome.next (if_pos hcur), doLearnPersist_rows hwork hrow⟩, fun hidle => ?_⟩⟩
  · rw [show r = s.settledRow r from (if_neg (by simp [hset])).symm]
    exact State.settledRow_mem_advanceRows hr hnone
  · rw [show { r with st := .live } = s.settledRow r from (if_pos hset).symm]
    exact State.settledRow_mem_advanceRows hr hnone
  · by_cases hcur : s.curating 6 = true
    · exact congrArg Host.Outcome.next ((if_pos hcur).trans (doRowClear_idle (hidle.resolve_left (by simp [hcur]))))
    · exact congrArg Host.Outcome.next (if_neg hcur)
  · by_cases hcur : s.curating 4 = true
    · exact congrArg Host.Outcome.next ((if_pos hcur).trans (doLearnPersist_idle (hidle.resolve_left (by simp [hcur]))))
    · exact congrArg Host.Outcome.next (if_neg hcur)

end Sys2Proof.Machine
end

section
/-! PROOFS. The wear balance, calibration and the cabinet fences (O34). -/

namespace Sys2Proof.Machine

set_option Elab.async false

/-! ## The wear balance -/

theorem State.setBalance_spec (s : State) (b : Int) : (s.setBalance b).cur.balance = min b (2 ^ 39) ∧
    (s.setBalance b).cur.stage = wearStage (s.setBalance b).cur.balance := by
  have hcap : (if 2 ^ 39 < b then 2 ^ 39 else b) = min b (2 ^ 39) := by
    split <;> omega
  unfold State.setBalance
  extract_lets c st _ t
  have ht : t.cur.balance = min b (2 ^ 39) ∧ t.cur.stage = wearStage t.cur.balance := ⟨hcap, rfl⟩
  split
  · exact ht
  · rw [show (t.raise Ev.WEAR_STAGE).cur = t.cur from (State.raise_within.same .cur).symm]
    exact ht

theorem doWearBalanceEarn_spec (s : State) :
    (doWearBalanceEarn s).cur.balance = min (s.cur.balance + s.earns (s.clock - s.cur.earnFrom)) (2 ^ 39) ∧
    (doWearBalanceEarn s).cur.stage = wearStage (doWearBalanceEarn s).cur.balance ∧
    (doWearBalanceEarn s).cur.earnFrom = s.earnedTo (s.earns (s.clock - s.cur.earnFrom)) ∧ (doWearBalanceEarn s).rows = s.rows := by
  obtain ⟨hbalance, hstage⟩ := s.setBalance_spec (s.cur.balance + s.earns (s.clock - s.cur.earnFrom))
  exact ⟨hbalance, hstage, rfl, (doWearBalanceEarn_within.same .rows).symm⟩

/-! ## Calibration -/

/-- A member of a list without repetitions stands in it once. -/
theorem nodup_split {α : Type} {l : List α} {a : α} (h : l.Nodup) (ha : a ∈ l) : ∃ l₁ l₂, l = l₁ ++ a :: l₂ ∧ a ∉ l₁ ∧ a ∉ l₂ := by
  obtain ⟨l₁, l₂, rfl⟩ := List.append_of_mem ha
  rw [List.nodup_middle, List.nodup_cons, List.mem_append, not_or] at h
  exact ⟨l₁, l₂, rfl, h.1.1, h.1.2⟩

/-- From s to t cabinet n, the limits and what waits for a scrub stay. -/
structure KeepsCal (n : Nat) (s t : State) : Prop where
  cab : t.cab n = s.cab n
  queued : ∀ k ∈ s.cur.scrubQ, k ∈ t.cur.scrubQ
  regs : Writes [] s t

namespace KeepsCal

variable {n : Nat} {s t u : State}

theorem refl : KeepsCal n s s := ⟨rfl, fun _ h => h, .refl⟩

theorem trans (h : KeepsCal n s t) (k : KeepsCal n t u) : KeepsCal n s u :=
  ⟨k.cab.trans h.cab, fun x hx => k.queued x (h.queued x hx), h.regs.trans k.regs⟩

theorem raise (e : Nat) : KeepsCal n s (s.raise e) :=
  ⟨congrArg (fun m : FMap Cab => fgetD m n {}) (State.raise_within.same .cabs).symm,
    fun k hk => (congrArg Curator.scrubQ (State.raise_within (s := s) (n := e).same .cur) : s.cur.scrubQ = _) ▸ hk, .raise e⟩

theorem queueScrub (ks : List Nat) : KeepsCal n s (s.queueScrub ks) := ⟨rfl, fun _ hk => List.mem_append_left _ hk, .of_regs rfl⟩

theorem setCab {m : Nat} (h : m ≠ n) (v : Cab) : KeepsCal n s (s.setCab m v) := ⟨State.cab_setCab_ne _ v h, fun _ h => h, .of_regs rfl⟩

theorem ite {p : Prop} [Decidable p] (h : KeepsCal n s t) (k : KeepsCal n s u) : KeepsCal n s (if p then t else u) := by
  split
  · exact h
  · exact k

theorem checkDrift {m : Nat} (h : m ≠ n) : KeepsCal n s (s.checkDrift m) := by
  unfold State.checkDrift
  extract_lets k bad t u
  have ht : KeepsCal n s t := setCab h _
  exact .ite (.ite (ht.trans (queueScrub _)) ((ht.trans (queueScrub _)).trans (raise _))) ht

theorem calibrate {c : CabCal} (h : c.cab ≠ n) (now : Bool) : KeepsCal n s (s.calibrate c now) := by
  unfold State.calibrate
  dsimp only
  split
  · exact .refl
  · split
    · exact (setCab h _).trans (checkDrift h)
    · exact (setCab h _).trans (raise _)

theorem calibrateIn {m : Nat} (h : m ≠ n) (cal : List CabCal) (now : Bool) : KeepsCal n s (s.calibrateIn cal now m) := by
  unfold State.calibrateIn
  split
  next c hc => exact calibrate (by rw [beq_iff_eq.1 (List.find?_some (p := fun c : CabCal => c.cab == m) hc)]; exact h) now
  next => exact .ite .refl (checkDrift h)

theorem foldl_calibrateIn {l : List Nat} (h : n ∉ l) (cal : List CabCal) (now : Bool) (s : State) :
    KeepsCal n s (l.foldl (fun x m => x.calibrateIn cal now m) s) :=
  List.foldlRecOn _ _ .refl fun _ hu m hm => hu.trans (calibrateIn (fun heq : m = n => h (heq ▸ hm)) cal now)

end KeepsCal

theorem State.checkDrift_spec (s : State) (n : Nat) : (∃ e, (s.checkDrift n).cab n = { s.cab n with driftEp := e }) ∧
    ((s.cab n).width < s.get Reg.CUR_CAL_WINDOW_MIN → ∀ k ∈ cabinetRows n, k ∈ (s.checkDrift n).cur.scrubQ) := by
  unfold State.checkDrift
  extract_lets c bad t u
  have ht : t.cab n = { s.cab n with driftEp := bad } := State.cab_setCab_same ..
  have hqueue : ∀ k ∈ cabinetRows n, k ∈ u.cur.scrubQ := fun k hk => by
    by_cases hold : k ∈ t.cur.scrubQ
    · exact List.mem_append_left _ hold
    · exact List.mem_append_right _ (List.mem_filter.2 ⟨hk, by simp [hold]⟩)
  have hraise : KeepsCal n u (u.raise (Ev.CAL_DRIFT (n / 32))) := .raise _
  split
  · split
    · exact ⟨⟨_, ht⟩, fun _ => hqueue⟩
    · exact ⟨⟨_, hraise.cab.trans ht⟩, fun _ k hk => hraise.queued k (hqueue k hk)⟩
  next hok => exact ⟨⟨_, ht⟩, fun hlow => absurd (by simp [bad, c, hlow]) hok⟩

/-- What a round gives a cabinet (R221, R223, R225): a new window and codes for the next boundary, or its fence. -/
structure Calibrated (n : Nat) (c : CabCal) (s t : State) : Prop where
  codes : ∀ m r, c.mref = some m → c.rref = some r → (t.cab n).next = some (midpoint m, midpoint r) ∧ (t.cab n).code = (s.cab n).code ∧
    (t.cab n).width = min (windowCodes m) (windowCodes r) ∧
    (min (windowCodes m) (windowCodes r) < s.get Reg.CUR_CAL_WINDOW_MIN → ∀ k ∈ cabinetRows n, k ∈ t.cur.scrubQ)
  fence : c.mref = none ∨ c.rref = none → (t.cab n).fenceDue = true ∧ (t.cab n).calFail = true

/-- A cabinet in which a round found a window. -/
def Cab.measured (k : Cab) (m r : Nat × Nat) : Cab :=
  { k with width := min (windowCodes m) (windowCodes r), drift := driftOf (midpoint m, midpoint r) k.base, next := some (midpoint m, midpoint r) }

theorem State.calibrate_found {s : State} {c : CabCal} {m r : Nat × Nat} (hfree : (s.cab c.cab).fenced = false) (hm : c.mref = some m)
    (hr : c.rref = some r) : s.calibrate c false = (s.setCab c.cab ((s.cab c.cab).measured m r)).checkDrift c.cab := by
  unfold State.calibrate
  dsimp only
  rw [if_neg (by simp [hfree]), hm, hr]
  rfl

theorem State.calibrate_missing {s : State} {c : CabCal} (hfree : (s.cab c.cab).fenced = false) (hnone : c.mref = none ∨ c.rref = none) :
    s.calibrate c false = (s.setCab c.cab { s.cab c.cab with fenceDue := true, calFail := true }).raise Ev.CABINET_FENCED := by
  unfold State.calibrate
  dsimp only
  rw [if_neg (by simp [hfree])]
  split
  next m r hm hr => simp [hm, hr] at hnone
  next => rfl

theorem State.calibrate_spec (s : State) (c : CabCal) (hfree : (s.cab c.cab).fenced = false) : Calibrated c.cab c s (s.calibrate c false) := by
  refine ⟨fun m r hm hr => ?_, fun hnone => ?_⟩
  · rw [State.calibrate_found hfree hm hr]
    obtain ⟨⟨e, hcab⟩, hqueue⟩ := (s.setCab c.cab ((s.cab c.cab).measured m r)).checkDrift_spec c.cab
    rw [State.cab_setCab_same] at hcab hqueue
    rw [hcab]
    exact ⟨rfl, rfl, rfl, hqueue⟩
  · rw [State.calibrate_missing hfree hnone, (KeepsCal.raise _).cab, State.cab_setCab_same]
    exact ⟨rfl, rfl⟩

theorem State.calibrateAll_spec {s : State} {cal : List CabCal} {n : Nat} {c : CabCal} (hn : n < 256) (hc : (cal.find? fun x => x.cab == n) = some c)
    (hfree : (s.cab n).fenced = false) : Calibrated n c s (s.calibrateAll cal false) := by
  obtain rfl : c.cab = n := beq_iff_eq.1 (List.find?_some (p := fun x : CabCal => x.cab == n) hc)
  obtain ⟨l₁, l₂, hsplit, h1, h2⟩ := nodup_split List.nodup_range (List.mem_range.2 hn)
  unfold State.calibrateAll
  rw [hsplit, List.foldl_append, List.foldl_cons]
  have hbefore := KeepsCal.foldl_calibrateIn h1 cal false s
  generalize l₁.foldl (fun x m => x.calibrateIn cal false m) s = t at hbefore
  have hown : t.calibrateIn cal false c.cab = t.calibrate c false := by
    unfold State.calibrateIn
    rw [hc]
  obtain ⟨hcodes, hfence⟩ := t.calibrate_spec c (by rw [hbefore.cab]; exact hfree)
  rw [hown]
  have hafter := KeepsCal.foldl_calibrateIn h2 cal false (t.calibrate c false)
  refine ⟨fun m r hm hr => ?_, fun h => by rw [hafter.cab]; exact hfence h⟩
  obtain ⟨hnext, hcode, hwidth, hqueue⟩ := hcodes m r hm hr
  rw [hafter.cab]
  exact ⟨hnext, hcode.trans (congrArg Cab.code hbefore.cab), hwidth,
    fun hlow k hk => hafter.queued k (hqueue (by rw [hbefore.regs.get Reg.CUR_CAL_WINDOW_MIN]; exact hlow) k hk)⟩

/-- The codes, the window and the fence of a cabinet are those of another state of it. -/
def Cab.SameCodes (a b : Cab) : Prop :=
  a.next = b.next ∧ a.code = b.code ∧ a.width = b.width ∧ a.fenceDue = b.fenceDue ∧ a.calFail = b.calFail

theorem State.countRound_spec (s : State) (n : Nat) : (s.countRound.cab n).SameCodes (s.cab n) ∧ s.countRound.cur.scrubQ = s.cur.scrubQ := by
  unfold State.countRound
  split
  · exact ⟨⟨rfl, rfl, rfl, rfl, rfl⟩, rfl⟩
  · split
    · extract_lets _ u
      refine List.foldlRecOn (motive := fun x : State => (x.cab n).SameCodes (s.cab n) ∧ x.cur.scrubQ = s.cur.scrubQ) _ _
        ⟨⟨rfl, rfl, rfl, rfl, rfl⟩, rfl⟩ fun x hx m _ => ⟨?_, hx.2⟩
      by_cases hm : m = n
      · subst hm
        rw [State.cab_setCab_same]
        exact hx.1
      · rw [State.cab_setCab_ne _ _ hm]
        exact hx.1
    · exact ⟨⟨rfl, rfl, rfl, rfl, rfl⟩, rfl⟩

theorem State.foldl_owesSearches (s : State) (l : List Nat) (n : Nat) :
    (l.foldl State.owesSearches s).cab n = s.cab n ∧ (l.foldl State.owesSearches s).cur.scrubQ = s.cur.scrubQ :=
  List.foldlRecOn (motive := fun x : State => x.cab n = s.cab n ∧ x.cur.scrubQ = s.cur.scrubQ) _ _ ⟨rfl, rfl⟩ fun _ hx _ _ => hx

theorem State.calRound_spec {s : State} {cal : List CabCal} {n : Nat} {c : CabCal} (hwork : s.mayWork 9 = true) (hn : n < 256)
    (hc : (cal.find? fun x => x.cab == n) = some c) (hfree : (s.cab n).fenced = false) : Calibrated n c s (s.calRound cal) := by
  obtain ⟨hcodes, hfence⟩ := State.calibrateAll_spec hn hc hfree
  unfold State.calRound
  rw [if_pos hwork]
  generalize s.calibrateAll cal false = t at hcodes hfence
  obtain ⟨hcab, hq⟩ := State.foldl_owesSearches t.countRound (List.range 8) n
  obtain ⟨⟨hnext, hcode, hwidth, hdue, hfail⟩, hq'⟩ := t.countRound_spec n
  refine ⟨fun m r hm hr => ?_, fun h => ?_⟩
  · rw [hcab, hq, hq', hnext, hcode, hwidth]
    exact hcodes m r hm hr
  · rw [hcab, hdue, hfail]
    exact hfence h

/-! ## Drawers that are proven -/

theorem drawerKey_inj {g h x y : Nat} (hx : x < 544) (hy : y < 544) (hkey : drawerKey g x = drawerKey h y) : g = h ∧ x = y := by
  unfold drawerKey at hkey
  omega

theorem State.drawer_setDrawer_ne {g h x y : Nat} (s : State) (v : Drawer) (hx : x < 544) (hy : y < 544) (hne : ¬ (g = h ∧ x = y)) :
    (s.setDrawer g x v).drawer h y = s.drawer h y := fgetD_fset_ne _ _ _ _ fun hkey => hne (drawerKey_inj hx hy hkey)

/-- From s to t rows may lose their journal rows and drawers may have rows found unreadable, and become suspect. -/
structure Proves (s t : State) : Prop where
  rows : Rejournalled s t
  cells : t.cells = s.cells
  faults : t.faults = s.faults
  tables : t.tables = s.tables
  drawers : ∀ g x, x < 544 → ∃ u b, t.drawer g x = { s.drawer g x with unread := u, suspect := b } ∧ ((s.drawer g x).suspect = true → b = true)

namespace Proves

variable {s t u : State}

theorem of_within (h : Within [.out, .regs, .boot, .cur, .cabs, .host] s t) : Proves s t where
  rows := .of_rows (h.same .rows).symm
  cells := (h.same .cells).symm
  faults := (h.same .faults).symm
  tables := (h.same .tables).symm
  drawers := fun g x _ => ⟨(s.drawer g x).unread, (s.drawer g x).suspect,
    congrArg (fgetD · (drawerKey g x) (drawerInit x)) (h.same .drawers : s.drawers = _).symm, id⟩

theorem refl : Proves s s := of_within .refl

theorem trans (h : Proves s t) (k : Proves t u) : Proves s u where
  rows := h.rows.trans k.rows
  cells := k.cells.trans h.cells
  faults := k.faults.trans h.faults
  tables := k.tables.trans h.tables
  drawers := fun g x hx => by
    obtain ⟨a, b, hd, hsus⟩ := h.drawers g x hx
    obtain ⟨a', b', hd', hsus'⟩ := k.drawers g x hx
    rw [hd] at hd' hsus'
    exact ⟨a', b', hd', fun hs => hsus' (hsus hs)⟩

theorem ite {p : Prop} [Decidable p] (h : Proves s t) (k : Proves s u) : Proves s (if p then t else u) := by
  split
  · exact h
  · exact k

theorem setDrawer {g x : Nat} (hx : x < 544) (a : List Nat) (b : Bool) (hb : (s.drawer g x).suspect = true → b = true) :
    Proves s (s.setDrawer g x { s.drawer g x with unread := a, suspect := b }) where
  rows := .of_rows rfl
  cells := rfl
  faults := rfl
  tables := rfl
  drawers := fun h y hy => by
    by_cases heq : g = h ∧ x = y
    · obtain ⟨rfl, rfl⟩ := heq
      exact ⟨a, b, State.drawer_setDrawer_same .., hb⟩
    · exact ⟨(s.drawer h y).unread, (s.drawer h y).suspect, s.drawer_setDrawer_ne _ hx hy heq, id⟩

theorem makeSuspect {g x : Nat} (hx : x < 544) : Proves s (s.makeSuspect g x) := by
  unfold State.makeSuspect
  refine .ite .refl ((setDrawer (g := g) hx (s.drawer g x).unread true fun _ => rfl).trans (of_within ?_))
  exact (Within.refl.step State.put_within).step State.raise_within

theorem noteUnread (k : Nat) : Proves s (s.noteUnread k) := by
  unfold State.noteUnread
  extract_lets g x d t
  have hx : x < 544 := Nat.mod_lt _ (by decide)
  have ht : Proves s t := setDrawer hx _ _ id
  exact .ite .refl (.ite (ht.trans (makeSuspect hx)) ht)

theorem suspectRow (k : Nat) : Proves s (s.suspectRow k) := .ite (makeSuspect (Nat.mod_lt _ (by decide))) .refl

theorem freeJournalRow (k : Nat) : Proves s (s.freeJournalRow k) := by
  have hwithin : Within [.rows] s (s.freeJournalRow k) := State.freeJournalRow_within
  refine ⟨?_, (hwithin.same .cells).symm, (hwithin.same .faults).symm, (hwithin.same .tables).symm, fun g x _ =>
    ⟨(s.drawer g x).unread, (s.drawer g x).suspect,
      congrArg (fgetD · (drawerKey g x) (drawerInit x)) (hwithin.same .drawers : s.drawers = _).symm, id⟩⟩
  unfold State.freeJournalRow
  split
  · exact .of_rows rfl
  next n a _ =>
    refine ⟨fun r => if r.loc.inVest (n / 32) (n % 32) ∧ r.jrow = some a ∧
      (s.rows.any fun x => x.tbl == r.tbl && x.id == r.id && x.loc.isDrawer && x.st == .live) = true then none else r.jrow, ?_⟩
    refine List.map_congr_left fun r _ => ?_
    dsimp only
    split <;> rfl

theorem treatUnread (k : Nat) : Proves s (s.treatUnread k) := by
  unfold State.treatUnread
  extract_lets t
  have ht : Proves s t := noteUnread k
  refine .ite (ht.trans (of_within ?_)) (.ite (ht.trans (of_within ?_)) ((ht.trans (suspectRow k)).trans (freeJournalRow k)))
  · exact (Within.refl.step State.bump_within).step State.queueRefresh_within
  · exact Within.refl.step State.queueRefresh_within

theorem proveRow (k : Nat) : Proves s (s.proveRow k) :=
  .ite (.ite .refl (of_within (Within.refl.step State.queueRefresh_within))) (treatUnread k)

theorem marginRow (k : Nat) : Proves s (s.marginRow k) := .ite (treatUnread k) .refl

theorem foldl {α : Type} {f : State → α → State} (h : ∀ t a, Proves t (f t a)) (l : List α) : Proves s (l.foldl f s) :=
  List.foldlRecOn _ _ .refl fun t ht a _ => ht.trans (h t a)

theorem proveDrawer {g x : Nat} (hx : x < 544) : Proves s (s.proveDrawer g x) := by
  unfold State.proveDrawer
  extract_lets ks t d u
  have ht : Proves s t := foldl (fun _ => proveRow) _
  have hu : Proves s u := ht.trans (foldl (fun _ => marginRow) _)
  refine .ite ht (.ite ?_ (hu.trans (makeSuspect hx)))
  exact (hu.trans (of_within (Within.refl.step State.setRaise_within))).trans (makeSuspect hx)

end Proves

/-! ## A proof does not change what a drawer's digest tells -/

theorem Proves.contents {s t : State} (h : Proves s t) (k : Nat) : t.contents k = s.contents k := by
  obtain ⟨f, hf⟩ := h.rows
  have hwidth : t.widthOf = s.widthOf := by
    funext n
    unfold State.widthOf State.table
    rw [h.tables]
  have hcells : t.cellsAt k = s.cellsAt k := by
    obtain ⟨a, b, hd, -⟩ := h.drawers (k / 2048 / 544) (k / 2048 % 544) (Nat.mod_lt _ (by decide))
    unfold State.cellsAt
    rw [h.cells, hd]
  have hat : t.rowsAt k = (s.rowsAt k).map fun r => { r with jrow := f r } := by
    unfold State.rowsAt
    rw [hf, List.filter_map]
    unfold State.lies
    rw [hwidth]
    rfl
  unfold State.contents
  rw [hat, hcells, hwidth]
  cases s.rowsAt k with
  | nil => rfl
  | cons r l =>
    simp only [List.map_cons, List.foldl_cons, List.foldl_map]
    rfl

theorem Proves.drawerDigest {s t : State} (h : Proves s t) (g x : Nat) : t.drawerDigest g x = s.drawerDigest g x := by
  obtain ⟨f, hf⟩ := h.rows
  have hphys : t.physOf = s.physOf := by
    funext r
    unfold State.physOf State.widthOf State.table
    rw [h.tables]
  have hwritten : t.writtenRows g x = s.writtenRows g x := by
    unfold State.writtenRows State.drawerRows
    rw [hf, h.cells, hphys, List.filter_map, List.flatMap_map]
    rfl
  have hstands : t.stands = s.stands := by
    funext k
    unfold State.stands State.fault
    rw [h.faults, h.contents k]
  unfold State.drawerDigest
  rw [hwritten, hstands]

theorem State.suspect_makeSuspect (s : State) (g x : Nat) : ((s.makeSuspect g x).drawer g x).suspect = true := by
  unfold State.makeSuspect
  split
  next h => exact h
  next =>
    have hwithin : Within [.out, .regs, .boot, .host] (s.setDrawer g x { s.drawer g x with suspect := true })
        (((s.setDrawer g x { s.drawer g x with suspect := true }).put Reg.CUR_STATUS_SUSPECT 1).raise Ev.DRAWER_SUSPECT) :=
      (Within.refl.step State.put_within).step State.raise_within
    have hd := congrArg (fun m => (fgetD m (drawerKey g x) (drawerInit x)).suspect) (hwithin.same .drawers).symm
    exact hd.trans (congrArg Drawer.suspect (State.drawer_setDrawer_same ..))

theorem State.suspect_proveDrawer {s : State} {g x : Nat} (hclean : (s.drawer g x).dirty = false)
    (hne : s.drawerDigest g x ≠ (s.drawer g x).digest) : ((s.proveDrawer g x).drawer g x).suspect = true := by
  unfold State.proveDrawer
  extract_lets ks t d u
  rw [if_neg (by simp [d, hclean, hne])]
  split <;> exact State.suspect_makeSuspect ..

/-- The drawer of position d in cabinet n. -/
theorem State.suspect_proveCabinet {s : State} {n d : Nat} (hd : d < 17) (hst : (s.drawer (n / 32) (17 * (n % 32) + d)).st = .assigned)
    (hclean : (s.drawer (n / 32) (17 * (n % 32) + d)).dirty = false)
    (hne : s.drawerDigest (n / 32) (17 * (n % 32) + d) ≠ (s.drawer (n / 32) (17 * (n % 32) + d)).digest) :
    ((s.proveCabinet n).drawer (n / 32) (17 * (n % 32) + d)).suspect = true := by
  unfold State.proveCabinet
  have hmem : d ∈ (List.range 17).filter fun d => (s.drawer (n / 32) (17 * (n % 32) + d)).st == .assigned :=
    List.mem_filter.2 ⟨List.mem_range.2 hd, by simp [hst]⟩
  obtain ⟨l₁, l₂, hsplit, -, -⟩ := nodup_split (List.nodup_range.filter _) hmem
  have hpos : ∀ e ∈ (List.range 17).filter fun d => (s.drawer (n / 32) (17 * (n % 32) + d)).st == .assigned, 17 * (n % 32) + e < 544 := fun e he => by
    have := List.mem_range.1 (List.mem_filter.1 he).1
    omega
  rw [hsplit] at hpos ⊢
  rw [List.foldl_append, List.foldl_cons]
  have hx : 17 * (n % 32) + d < 544 := hpos d (by simp)
  have hbefore : Proves s (l₁.foldl (fun x e => x.proveDrawer (n / 32) (17 * (n % 32) + e)) s) :=
    List.foldlRecOn _ _ .refl fun t ht e he => ht.trans (.proveDrawer (hpos e (List.mem_append_left _ he)))
  generalize l₁.foldl (fun x e => x.proveDrawer (n / 32) (17 * (n % 32) + e)) s = t at hbefore
  have hafter : Proves (t.proveDrawer (n / 32) (17 * (n % 32) + d))
      (l₂.foldl (fun x e => x.proveDrawer (n / 32) (17 * (n % 32) + e)) (t.proveDrawer (n / 32) (17 * (n % 32) + d))) :=
    List.foldlRecOn _ _ .refl fun t ht e he => ht.trans (.proveDrawer (hpos e (List.mem_append_right _ (List.mem_cons_of_mem _ he))))
  obtain ⟨a, b, hdrawer, -⟩ := hbefore.drawers (n / 32) _ hx
  have hsuspect := State.suspect_proveDrawer (s := t) (g := n / 32) (x := 17 * (n % 32) + d) (by rw [hdrawer]; exact hclean)
    (by rw [hbefore.drawerDigest, hdrawer]; exact hne)
  obtain ⟨a', b', hdrawer', hkeep⟩ := hafter.drawers (n / 32) _ hx
  rw [hdrawer']
  exact hkeep hsuspect

/-! ## The cabinet check -/

theorem doCabinetCheckDone_blind {c : CabCal} {s : State} (hcheck : (s.cab c.cab).checking = true) (h9 : s.mayWork 9 = true) (h11 : s.mayWork 11 = true)
    (hw : calWidth c = 0) : doCabinetCheckDone c s = s.setCab c.cab { s.cab c.cab with checking := false } := by
  unfold doCabinetCheckDone
  rw [if_neg (by simp [hcheck, h9, h11]), if_pos hw]

/-- A cabinet after a check that found a window. -/
def State.checkedCab (s : State) (c : CabCal) : Cab :=
  let code := ((c.mref.map midpoint).getD 0, (c.rref.map midpoint).getD 0)
  let k := { s.cab c.cab with checking := false, width := calWidth c, code := code, drift := driftOf code (s.cab c.cab).base }
  if s.get Reg.CUR_CAL_WINDOW_MIN ≤ calWidth c then { k with unfenceDue := true, calFail := false } else k

theorem doCabinetCheckDone_found {c : CabCal} {s : State} (hcheck : (s.cab c.cab).checking = true) (h9 : s.mayWork 9 = true) (h11 : s.mayWork 11 = true)
    (hw : calWidth c ≠ 0) : doCabinetCheckDone c s = (s.setCab c.cab (s.checkedCab c)).proveCabinet c.cab := by
  unfold doCabinetCheckDone
  rw [if_neg (by simp [hcheck, h9, h11]), if_neg hw]
  unfold State.checkedCab
  dsimp only
  simp only [decide_eq_true_eq]

theorem State.checkedCab_spec (s : State) (c : CabCal) : (s.checkedCab c).checking = false ∧ (s.checkedCab c).fenced = (s.cab c.cab).fenced ∧
    (s.get Reg.CUR_CAL_WINDOW_MIN ≤ calWidth c → (s.checkedCab c).unfenceDue = true ∧ (s.checkedCab c).calFail = false) ∧
    (calWidth c < s.get Reg.CUR_CAL_WINDOW_MIN → (s.checkedCab c).unfenceDue = (s.cab c.cab).unfenceDue) := by
  unfold State.checkedCab
  extract_lets code _ k
  split
  next h => exact ⟨rfl, rfl, fun _ => ⟨rfl, rfl⟩, fun hlt => by omega⟩
  next h => exact ⟨rfl, rfl, fun hle => absurd hle h, fun _ => rfl⟩

theorem State.cab_proveCabinet (s : State) (n m : Nat) : (s.proveCabinet n).cab m = s.cab m :=
  congrArg (fun l : FMap Cab => fgetD l m {}) (State.proveCabinet_within.same .cabs).symm

/-- Settles O34, clause by clause; a calibration round is followed through the cabinets by what each leaves of the others. -/
theorem balanceCalibrationAndFences : Obligations.BalanceCalibrationAndFences := by
  unfold Obligations.BalanceCalibrationAndFences
  refine ⟨⟨fun s => ⟨fun hon => ⟨_, congrArg Host.Outcome.next (if_pos hon), rfl, rfl⟩, fun hoff => congrArg Host.Outcome.next (if_neg (by simp [hoff]))⟩,
    fun s => ⟨fun hm => ⟨_, congrArg Host.Outcome.next (if_neg hm), doWearBalanceEarn_spec s⟩, fun hm => congrArg Host.Outcome.next (if_pos hm)⟩,
    fun s cal n c i hi hm hwork hn hc hfree => ?_, fun s cal => ⟨fun hm => ?_, fun hwork => ?_⟩, fun s => ⟨fun hm => ?_, fun hm => ?_⟩⟩,
    fun s cab hm => ?_, fun s cab hm => ?_, fun s cab hm => ?_, fun s c hcheck h9 h11 => ?_, fun s c hidle => congrArg Host.Outcome.next (if_pos hidle)⟩
  · have hround : ∃ u : State, exec i s = .next (u.calRound cal) ∧ (u = s ∨ u = s.touchIdle) := by
      rcases hi with rfl | rfl
      · exact ⟨s, congrArg Host.Outcome.next (if_pos hm), .inl rfl⟩
      · exact ⟨s.touchIdle, congrArg Host.Outcome.next (if_pos hm), .inr rfl⟩
    obtain ⟨u, hexec, hu⟩ := hround
    have hsame : u.rows = s.rows ∧ u.tables = s.tables ∧ u.cab n = s.cab n ∧ u.mayWork 9 = s.mayWork 9 ∧
        u.get Reg.CUR_CAL_WINDOW_MIN = s.get Reg.CUR_CAL_WINDOW_MIN := by
      rcases hu with rfl | rfl <;> exact ⟨rfl, rfl, rfl, rfl, rfl⟩
    obtain ⟨hrows, htables, hcab, hmay, hmin⟩ := hsame
    obtain ⟨hcodes, hfence⟩ := State.calRound_spec (hmay.trans hwork) hn hc (by rw [hcab]; exact hfree)
    rw [hcab, hmin] at hcodes
    exact ⟨_, hexec, (State.calRound_within.same .rows).symm.trans hrows, (State.calRound_within.same .tables).symm.trans htables, hcodes, hfence⟩
  · exact ⟨congrArg Host.Outcome.next (if_neg hm), congrArg Host.Outcome.next (if_neg hm)⟩
  · by_cases hm : s.mode = .service
    · exact congrArg Host.Outcome.next ((if_pos hm).trans (if_neg (by simp [hwork])))
    · exact congrArg Host.Outcome.next (if_neg hm)
  · exact ⟨_, congrArg Host.Outcome.next (if_pos hm), rfl, rfl, rfl⟩
  · exact congrArg Host.Outcome.next (if_neg hm)
  · exact ⟨_, congrArg Host.Outcome.next (if_pos hm), State.cab_setCab_same .., fun n hne => State.cab_setCab_ne s.touchIdle _ hne.symm⟩
  · by_cases hfenced : (s.cab cab.toNat).fenced = true
    · exact ⟨_, congrArg Host.Outcome.next ((if_pos hm).trans (if_pos hfenced)), fun n hne => State.cab_setCab_ne s.touchIdle _ hne.symm,
        fun _ => State.cab_setCab_same .., fun hfree => absurd hfenced (by simp [hfree])⟩
    · exact ⟨_, congrArg Host.Outcome.next ((if_pos hm).trans (if_neg hfenced)), fun _ _ => rfl, fun h => absurd h hfenced, fun _ => rfl⟩
  · exact ⟨congrArg Host.Outcome.next (if_neg hm), congrArg Host.Outcome.next (if_neg hm)⟩
  · by_cases hw : calWidth c = 0
    · refine ⟨_, congrArg Host.Outcome.next (doCabinetCheckDone_blind hcheck h9 h11 hw), ?_⟩
      rw [State.cab_setCab_same]
      exact ⟨rfl, rfl, fun n hne => State.cab_setCab_ne _ _ hne.symm, fun _ hpos => by omega, fun _ => rfl, fun hpos => by omega⟩
    · obtain ⟨h1, h2, h3, h4⟩ := s.checkedCab_spec c
      refine ⟨_, congrArg Host.Outcome.next (doCabinetCheckDone_found hcheck h9 h11 hw), ?_⟩
      rw [State.cab_proveCabinet, State.cab_setCab_same]
      refine ⟨h1, h2, fun n hne => (State.cab_proveCabinet ..).trans (State.cab_setCab_ne _ _ hne.symm), fun hle _ => h3 hle,
        fun hlow => h4 (hlow.resolve_right hw), fun _ d hd g x hg hx hst hclean hne => ?_⟩
      subst hg hx
      exact State.suspect_proveCabinet (s := s.setCab c.cab (s.checkedCab c)) hd hst hclean hne

end Sys2Proof.Machine
end

section
/-! PROOFS. Edits are staged (O30). -/

namespace Sys2Proof.Machine

set_option Elab.async false

/-! ## The edit commands -/

theorem State.table_of_liveTable {s : State} {t : Nat} {k : Table} (h : s.liveTable t = some k) : s.table t = some k := by
  unfold State.liveTable at h
  split at h
  next d hd =>
    split at h
    · exact nomatch h
    · rw [hd, h]
  next => exact nomatch h

theorem State.runEdit_ok {s u : State} {own : Option (Nat × Nat × Nat)} {f t num : Nat} {op : EditOp} {r : EntryRec} {g g' : Group} {k : Table}
    (hbad : s.badEdit t op r = false) (hright : s.editDenied f t = false) (hgroup : s.groupFor t num f own = .ok g) (hlive : s.liveTable t = some k)
    (hstage : s.stage g k op r = .ok u g') : s.runEdit own f t num op r = u.staged num g' := by
  unfold State.runEdit
  rw [if_neg (by simp [hbad]), if_neg (by simp [hright]), hgroup]
  dsimp only
  rw [hlive]
  dsimp only
  rw [hstage]

theorem coreEdit_run {s : State} {c : CmdSlot} {d : Dma} {b : List Byte} {k : Table} (op : EditOp) (own : Option (Nat × Nat × Nat)) (f : Nat)
    (hfree : s.reqFenced 0 = false) (hparams : badParams c = false) (hlive : s.liveTable (bits c.p1 5 0) = some k) (hread : d.rd = some b) :
    coreEdit op s own f c d = s.runEdit own f (bits c.p1 5 0) (bits c.p1 31 16) op (entryOfBytes b k.width) := by
  unfold coreEdit
  dsimp only
  rw [if_neg (by simp [hfree]), hread]
  dsimp only
  rw [if_neg (by simp [hparams]), State.recWidth, State.table_of_liveTable hlive]

/-- The record that a deletion stages. -/
def deleteRec (id : Nat) : EntryRec := { id := id, rank := 0, dref := 0, rsvd := 0, info := 0, value := 0, care := 0, wide := false }

theorem coreTblDelete_run {s : State} {c : CmdSlot} {d : Dma} (own : Option (Nat × Nat × Nat)) (f : Nat) (hfree : s.reqFenced 0 = false)
    (hparams : badParams c = false) :
    coreTblDelete s own f c d = s.runEdit own f (bits c.p1 5 0) (bits c.p1 31 16) .delete (deleteRec (bits c.p1 55 32)) := by
  unfold coreTblDelete
  rw [if_neg (by simp [hfree]), if_neg (by simp [hparams])]
  rfl

theorem State.groupFor_open {s : State} {t num f : Nat} {own : Nat × Nat × Nat} {g : Group} (hnum : num ≠ 0)
    (hopen : s.openGroup t num f false = some g) : s.groupFor t num f (some own) = .ok g := by
  unfold State.groupFor
  rw [if_pos hnum, show s.openGroup t num f (some own).isNone = some g from hopen]

/-- The edit of an open group completes at once. -/
theorem State.runOp_stagedOpen {s u : State} {op : Nat} {c : Cmd} {d : Dma}
    {core : State → Option (Nat × Nat × Nat) → Nat → CmdSlot → Dma → Ran} {g : Group} (hop : s.engineOp op = some c) (hmirror : s.host.mirror = none)
    (hplain : s.seam.pair ≠ .paired) (hnum : c.group ≠ 0) (hcore : core s (some c.own) c.func c.slot d = u.staged c.group g) :
    ∃ t, s.runOp op d core = t ∧ t.groups = u.groups.map (fun x => if x.tbl = g.tbl then { g with leaseAt := u.clock } else x) ∧ t.rows = u.rows ∧
      t.owes c Sts.SUCCESS 0 true := by
  unfold State.staged at hcore
  rw [if_pos hnum] at hcore
  exact ⟨_, State.runOp_finish hop hmirror (.inl hplain) hcore, rfl, rfl, State.owes_finish ..⟩

/-- An edit without a group number completes with its commit. -/
theorem State.runOp_stagedAlone {s u : State} {op : Nat} {c : Cmd} {d : Dma}
    {core : State → Option (Nat × Nat × Nat) → Nat → CmdSlot → Dma → Ran} {g : Group} (hop : s.engineOp op = some c) (hmirror : s.host.mirror = none)
    (hplain : s.seam.pair ≠ .paired) (hnum : c.group = 0) (hcore : core s (some c.own) c.func c.slot d = u.staged c.group g) :
    ∃ t, s.runOp op d core = t ∧ t.groups = u.groups ++ [g] ∧ t.rows = u.rows ∧ t.owes c Sts.SUCCESS 0 false := by
  unfold State.staged at hcore
  rw [if_neg (not_not_intro hnum)] at hcore
  exact ⟨_, State.runOp_finishLater hop hmirror (.inl hplain) hcore, rfl, rfl, State.owes_finishLater ..⟩

/-! ## Staging -/

/-- The row that a staged insert or modify leaves in the array. -/
def State.stagedRow (s : State) (g : Group) (d : Table) (r : EntryRec) (loc : Loc) (v : Reserve) : Row :=
  { loc := loc, tbl := g.tbl, id := r.id, rank := r.rank, dref := r.dref, value := r.value, care := r.care, st := .pending,
    group := g.num, target := (Placed.at_ loc v).target d, since := s.clock }

theorem State.stagePut_ok {s u : State} {g g' : Group} {d : Table} {op : EditOp} {r : EntryRec} (h : s.stagePut g d op r = .ok u g') :
    g' = g.note { op := op, id := r.id, existed := s.baseExists g.tbl r.id } ∧
    ∃ loc v j, { s.stagedRow g d r loc v with jrow := j } ∈ u.rows := by
  unfold State.stagePut at h
  extract_lets t at h
  split at h
  · exact nomatch h
  · exact nomatch h
  next loc v hplace =>
    extract_lets row x at h
    obtain ⟨rfl, rfl⟩ := Staged.ok.inj h
    refine ⟨rfl, loc, v, ?_⟩
    have hrow : row ∈ x.rows := List.mem_append_right _ (List.mem_singleton.2 rfl)
    split
    · exact ⟨row.jrow, hrow⟩
    · obtain ⟨f, hf⟩ := x.journalAt_rejournalled loc
      exact ⟨f row, hf ▸ List.mem_map.2 ⟨row, hrow, rfl⟩⟩

theorem Group.mem_note (g : Group) (e : Edit) : e ∈ (g.note e).edits := List.mem_append_right _ (List.mem_singleton.2 rfl)

theorem State.stageDelete_ok {s u : State} {g g' : Group} {id : Nat} (h : s.stageDelete g id = .ok u g') (hex : s.baseExists g.tbl id = true) :
    g' = g.note { op := .delete, id := id, existed := true } := by
  unfold State.stageDelete at h
  extract_lets t g₁ at h
  rw [if_neg (by simp [hex])] at h
  split at h
  · exact (Staged.ok.inj h).2.symm
  · split at h
    · exact (Staged.ok.inj h).2.symm
    · split at h
      · exact nomatch h
      · exact (Staged.ok.inj h).2.symm

/-- What an edit that the checks let through is staged as. -/
def State.stageOp (s : State) (g : Group) (d : Table) (op : EditOp) (r : EntryRec) : Staged :=
  match op with
  | .delete => s.stageDelete g r.id
  | .insert => if s.tableFull g.tbl then .fail Sts.TABLE_FULL else s.stagePut g d .insert r
  | .modify => s.stagePut g d (match g.editOf r.id with | some e => if e.op = .insert then .insert else .modify | none => .modify) r

theorem State.stage_eq (s : State) (g : Group) (d : Table) (op : EditOp) (r : EntryRec) : s.stage g d op r =
    if op = .insert ∧ s.viewExists g r.id = true then .fail Sts.EXISTS
    else if op ≠ .insert ∧ s.viewExists g r.id = false then .fail Sts.NOT_FOUND
    else if op = .insert ∧ s.outOfRange g.tbl d r.id = true then .fail Sts.RANGE
    else if 4096 ≤ g.edits.length ∧ (g.editOf r.id).isNone = true then .fail Sts.GROUP_FULL
    else s.stageOp g d op r := by
  cases op <;> rfl

theorem State.stageOp_of_ok {s u : State} {g g' : Group} {d : Table} {op : EditOp} {r : EntryRec} (h : s.stage g d op r = .ok u g') :
    s.stageOp g d op r = .ok u g' := by
  rw [State.stage_eq] at h
  split at h
  · exact nomatch h
  · split at h
    · exact nomatch h
    · split at h
      · exact nomatch h
      · split at h
        · exact nomatch h
        · exact h

/-- An insert or modify that is staged is put in a free row, as one or the other. -/
theorem State.stagePut_of_stageOp {s u : State} {g g' : Group} {d : Table} {op : EditOp} {r : EntryRec} (h : s.stageOp g d op r = .ok u g')
    (hop : op ≠ .delete) : ∃ o : EditOp, o ≠ .delete ∧ s.stagePut g d o r = .ok u g' := by
  cases op with
  | delete => exact absurd rfl hop
  | insert =>
    refine ⟨.insert, hop, ?_⟩
    unfold State.stageOp at h
    dsimp only at h
    split at h
    · exact nomatch h
    · exact h
  | modify =>
    refine ⟨_, ?_, h⟩
    split
    · split <;> exact EditOp.noConfusion
    · exact EditOp.noConfusion

/-- Settles O30, by one run of the edit on the view of its group, and by each status that it can answer. -/
theorem editCommandsStage : Obligations.EditCommandsStage := by
  unfold Obligations.EditCommandsStage
  refine ⟨fun s u c d b k g g' op r hmirror hplain hfree hparams hright hlive hstage => ⟨fun hop hread hrec hgood => ?_, fun hop hengine hrec => ?_⟩,
    fun s g k op r => ⟨fun u g' hok hop => ?_, fun u g' hok hop hex => ?_, fun hop hex => ?_, fun hop hex => ?_, fun hop hex hrange => ?_,
      fun hop hex hrange hlen hnew => ?_, fun hop hex hlen hnew => ?_, fun hop hex hrange hlen hfull => ?_⟩⟩
  · have hbad : s.badEdit c.table op r = false := by
      unfold State.badEdit
      rw [hlive]
      simp [hgood]
    have hcore : ∀ g₀, s.groupFor c.table c.group c.func (some c.own) = .ok g₀ → s.stage g₀ k op r = .ok u g' →
        coreEdit op s (some c.own) c.func c.slot d = u.staged c.group g' := fun g₀ hgroup hst => by
      rw [coreEdit_run op _ _ hfree hparams hlive hread, ← hrec]
      exact State.runEdit_ok hbad hright hgroup hlive hst
    refine ⟨fun n hn hnz hopen => ?_, fun hzero hgroup => ?_⟩
    · subst hn
      have hrun := hcore g (State.groupFor_open hnz hopen) hstage
      rcases hop with ⟨rfl, hengine⟩ | ⟨rfl, hengine⟩
      · obtain ⟨t, ht, hspec⟩ := State.runOp_stagedOpen hengine hmirror hplain hnz hrun
        exact ⟨t, congrArg Host.Outcome.next ht, hspec⟩
      · obtain ⟨t, ht, hspec⟩ := State.runOp_stagedOpen hengine hmirror hplain hnz hrun
        exact ⟨t, congrArg Host.Outcome.next ht, hspec⟩
    · have hrun := hcore g (by rw [hzero]; exact hgroup) hstage
      rcases hop with ⟨rfl, hengine⟩ | ⟨rfl, hengine⟩
      · obtain ⟨t, ht, hspec⟩ := State.runOp_stagedAlone hengine hmirror hplain hzero hrun
        exact ⟨t, congrArg Host.Outcome.next ht, hspec⟩
      · obtain ⟨t, ht, hspec⟩ := State.runOp_stagedAlone hengine hmirror hplain hzero hrun
        exact ⟨t, congrArg Host.Outcome.next ht, hspec⟩
  · subst hop hrec
    have hcore : ∀ g₀, s.groupFor c.table c.group c.func (some c.own) = .ok g₀ → s.stage g₀ k .delete (deleteRec c.id) = .ok u g' →
        coreTblDelete s (some c.own) c.func c.slot {} = u.staged c.group g' := fun g₀ hgroup hst => by
      rw [coreTblDelete_run _ _ hfree hparams]
      refine State.runEdit_ok ?_ hright hgroup hlive hst
      unfold State.badEdit
      split <;> rfl
    refine ⟨fun hnz hopen => ?_, fun hzero hgroup => ?_⟩
    · obtain ⟨t, ht, hspec⟩ := State.runOp_stagedOpen hengine hmirror hplain hnz (hcore g (State.groupFor_open hnz hopen) hstage)
      exact ⟨t, congrArg Host.Outcome.next ht, hspec⟩
    · obtain ⟨t, ht, hspec⟩ := State.runOp_stagedAlone hengine hmirror hplain hzero (hcore g (by rw [hzero]; exact hgroup) hstage)
      exact ⟨t, congrArg Host.Outcome.next ht, hspec⟩
  · obtain ⟨o, ho, hput⟩ := State.stagePut_of_stageOp (State.stageOp_of_ok hok) hop
    obtain ⟨rfl, loc, v, j, hrow⟩ := State.stagePut_ok hput
    exact ⟨⟨_, g.mem_note _, rfl, ho⟩, _, hrow, rfl, rfl, rfl, rfl, rfl, rfl, rfl, rfl, fun _ => rfl⟩
  · subst hop
    rw [State.stageDelete_ok (State.stageOp_of_ok hok) hex]
    exact ⟨_, g.mem_note _, rfl, rfl⟩
  · rw [State.stage_eq, if_pos ⟨hop, hex⟩]
  · rw [State.stage_eq, if_neg (fun h => hop h.1), if_pos ⟨hop, hex⟩]
  · rw [State.stage_eq, if_neg (by simp [hex]), if_neg (fun h => h.1 hop), if_pos ⟨hop, hrange⟩]
  · rw [State.stage_eq, if_neg (by simp [hex]), if_neg (fun h => h.1 hop), if_neg (by simp [hrange]), if_pos ⟨hlen, by rw [hnew]; rfl⟩]
  · rw [State.stage_eq, if_neg (fun h => hop h.1), if_neg (by simp [hex]), if_neg (fun h => hop h.1), if_pos ⟨hlen, by rw [hnew]; rfl⟩]
  · rw [State.stage_eq, if_neg (by simp [hex]), if_neg (fun h => h.1 hop), if_neg (by simp [hrange]), if_neg (fun h => by omega), hop]
    exact if_pos hfull

end Sys2Proof.Machine
end

section
/-! PROOFS. Groups end and commit (O31). -/

namespace Sys2Proof.Machine

set_option Elab.async false

/-! ## EDIT_COMMIT -/

theorem State.mem_setGroup {s : State} {g h : Group} (hg : g ∈ s.groups) (htbl : g.tbl = h.tbl) : h ∈ (s.setGroup h).groups :=
  List.mem_map.2 ⟨g, hg, if_pos htbl⟩

theorem coreEditCommit_ok {s : State} {c : CmdSlot} {d : Dma} {g : Group} {f : Nat} {own : Nat × Nat × Nat} (hparams : badParams c = false)
    (hgroup : s.groupByNum (bits c.p1 31 16) f false = some g) (hfree : s.reqFenced 0 = false) (hright : s.editDenied f g.tbl = false) :
    coreEditCommit s (some own) f c d =
      { s := { s.setGroup { g with st := .ready, order := s.cur.deferOrder, cmd := some own } with
                cur := { s.cur with deferOrder := s.cur.deferOrder + 1 } }, later := true } := by
  unfold coreEditCommit
  rw [if_neg (by simp [hparams]), show s.groupByNum (bits c.p1 31 16) f (some own).isNone = some g from hgroup]
  dsimp only
  rw [if_neg (by simp [hfree]), if_neg (by simp [hright])]
  rfl

/-! ## A group that aborts -/

theorem State.mem_withoutGroup {s : State} {g : Group} {r : Row} : r ∈ (s.withoutGroup g).rows ↔ r ∈ s.rows ∧
    ∀ e ∈ g.edits, ¬ (r.st = .pending ∧ r.tbl = g.tbl ∧ r.id = e.id ∧ r.group = g.num) := by
  have hfold : ∀ (l : List Edit) (s : State), r ∈ (l.foldl (fun (x : State) e => x.dropStaged g e.id) s).rows ↔ r ∈ s.rows ∧
      ∀ e ∈ l, ¬ (r.st = .pending ∧ r.tbl = g.tbl ∧ r.id = e.id ∧ r.group = g.num) := fun l => by
    induction l with
    | nil => simp
    | cons e l ih =>
      intro s
      have hdrop : r ∈ (s.dropStaged g e.id).rows ↔ r ∈ s.rows ∧ ¬ (r.st = .pending ∧ r.tbl = g.tbl ∧ r.id = e.id ∧ r.group = g.num) := by
        unfold State.dropStaged State.setRows
        simp only [List.mem_filter, Bool.not_eq_true', Bool.and_eq_false_iff, beq_eq_false_iff_ne]
        tauto
      rw [List.foldl_cons, ih, hdrop, List.forall_mem_cons, and_assoc]
  exact hfold g.edits s

/-- The cause of an abort shown in a table's status. -/
def State.causeShown (s : State) (cause : Option Field) (t : Nat) : State :=
  match cause with
  | some F => s.put F 1 t
  | none => s

/-- A group gone, its cause shown, its event raised and the command that waits for it ended. -/
def State.abortShown (s : State) (g : Group) (cause : Option Field) : State := (((s.withoutGroup g).causeShown cause g.tbl).raise Ev.EDIT_ABORT).endCommit g

theorem State.abortGroup_eq (s : State) (g : Group) (cause : Option Field) : s.abortGroup g cause =
    if g.mirrored && !g.fromPeer && s.seam.pair == .paired then (s.abortShown g cause).sendSeam (.abort (65536 + g.num)) else s.abortShown g cause := by
  cases cause <;> rfl

theorem State.causeShown_within {s : State} {cause : Option Field} {t : Nat} : Within [.regs] s (s.causeShown cause t) := by
  unfold State.causeShown
  split
  · exact State.put_within
  · exact .refl

theorem State.abortGroup_within_rest (s : State) (g : Group) (cause : Option Field) :
    Within [.out, .regs, .boot, .host, .seam] (s.withoutGroup g) (s.abortGroup g cause) := by
  have hshown : Within [.out, .regs, .boot, .host, .seam] (s.withoutGroup g) (s.abortShown g cause) :=
    ((Within.refl.step State.causeShown_within).step State.raise_within).step State.endCommit_within
  rw [State.abortGroup_eq]
  exact .ite (hshown.step State.sendSeam_within) hshown

theorem State.groups_abortGroup (s : State) (g : Group) (cause : Option Field) : (s.abortGroup g cause).groups = s.groups.filter fun x => x ≠ g :=
  ((s.abortGroup_within_rest g cause).same .groups).symm.trans (s.groups_withoutGroup g)

theorem State.mem_abortGroup {s : State} {g : Group} {cause : Option Field} {r : Row} (hr : r ∈ (s.abortGroup g cause).rows) : r ∈ s.rows ∧
    (r.st = .pending → r.tbl = g.tbl → r.group = g.num → ∀ e ∈ g.edits, e.id ≠ r.id) := by
  rw [show (s.abortGroup g cause).rows = (s.withoutGroup g).rows from ((s.abortGroup_within_rest g cause).same .rows).symm,
    State.mem_withoutGroup] at hr
  exact ⟨hr.1, fun hst htbl hgroup e he hid => hr.2 e he ⟨hst, htbl, hid.symm, hgroup⟩⟩

/-- After the group is gone, what an abort adds to the registers. -/
theorem State.regs_abortGroup (s : State) (g : Group) (cause : Option Field) :
    (s.abortGroup g cause).regs = (((s.withoutGroup g).causeShown cause g.tbl).raise Ev.EDIT_ABORT).regs := by
  have hend : (s.abortShown g cause).regs = (((s.withoutGroup g).causeShown cause g.tbl).raise Ev.EDIT_ABORT).regs :=
    (State.endCommit_within.same .regs).symm
  rw [State.abortGroup_eq]
  split
  · exact (State.regs_sendSeam _ _).trans hend
  · exact hend

/-- The abort event counts nowhere in a table's registers, whatever the table's number. -/
theorem State.get_raise_abortCount (s : State) (t : Nat) : (s.raise Ev.EDIT_ABORT).get Reg.TBL_CNT_ABORT_COUNT t = s.get Reg.TBL_CNT_ABORT_COUNT t := by
  unfold State.raise
  split
  · rw [State.get_deliver, State.get_bump_ne]
    all_goals
      simp only [Field.key, Reg.EVT_SRC_PEND, Reg.EVT_SRC_COUNT, Reg.EVT_CNT_RAISED_COUNT, Reg.EVT_CNT_LOST_COUNT, Reg.EVT_STATUS_EVQ_OVERFLOW,
        Reg.TBL_CNT_ABORT_COUNT, Ev.EDIT_ABORT]
      omega
  all_goals rfl

theorem State.get_abortCount (s : State) (g : Group) : (s.abortGroup g none).get Reg.TBL_CNT_ABORT_COUNT g.tbl =
    min (s.get Reg.TBL_CNT_ABORT_COUNT g.tbl + 1) Reg.TBL_CNT_ABORT_COUNT.max := by
  have hregs : (s.abortGroup g none).get Reg.TBL_CNT_ABORT_COUNT g.tbl =
      ((s.withoutGroup g).raise Ev.EDIT_ABORT).get Reg.TBL_CNT_ABORT_COUNT g.tbl := congrArg (fgetD · _ _) (s.regs_abortGroup g none)
  have hfold : Within [.rows, .journal] s (g.edits.foldl (fun (x : State) e => x.dropStaged g e.id) s) :=
    .foldl (fun _ _ h => h.step State.dropStaged_within) .refl
  rw [hregs, State.get_raise_abortCount]
  refine (State.get_bump_same ..).trans ?_
  congr 2
  exact congrArg (fgetD · _ _) (hfold.same .regs : s.regs = _).symm

theorem State.flag_abortLease {s : State} {g : Group} (hg : g.tbl < 64) :
    (s.abortGroup g (some Reg.TBL_STATUS_ABORT_LEASE)).flag Reg.TBL_STATUS_ABORT_LEASE g.tbl = true := by
  have hregs : (s.abortGroup g (some Reg.TBL_STATUS_ABORT_LEASE)).flag Reg.TBL_STATUS_ABORT_LEASE g.tbl =
      (((s.withoutGroup g).put Reg.TBL_STATUS_ABORT_LEASE 1 g.tbl).raise Ev.EDIT_ABORT).flag Reg.TBL_STATUS_ABORT_LEASE g.tbl :=
    congrArg (fgetD · _ _ == 1) (s.regs_abortGroup g _)
  rw [hregs, (Writes.raise Ev.EDIT_ABORT).flag Reg.TBL_STATUS_ABORT_LEASE g.tbl 0 (by simp only [Field.key, Reg.TBL_STATUS_ABORT_LEASE]; omega)
    List.not_mem_nil]
  exact State.flag_put_one _ _ _ _ rfl

theorem State.owed_abortGroup {s : State} {g : Group} (cause : Option Field) {o : Owed} (ho : o ∈ s.host.owed)
    (hcmd : g.cmd = some (o.func, o.idx, o.cid)) (hready : o.ready = false) :
    { o with status := Sts.ABORTED, result := 0, ready := true } ∈ (s.abortGroup g cause).host.owed := by
  have hfold : Within [.rows, .journal, .groups, .regs] s (s.withoutGroup g) :=
    ((Within.foldl (fun _ _ h => h.step State.dropStaged_within) .refl).step State.setGroups_within).step State.bump_within
  have howed : (((s.withoutGroup g).causeShown cause g.tbl).raise Ev.EDIT_ABORT).host.owed = s.host.owed :=
    (State.raise_calm _ _).owed.trans (congrArg HostIf.owed ((hfold.step State.causeShown_within).same .host : s.host = _).symm)
  have hshown : { o with status := Sts.ABORTED, result := 0, ready := true } ∈ (s.abortShown g cause).host.owed := by
    unfold State.abortShown State.endCommit
    rw [hcmd]
    dsimp only
    refine List.mem_map.2 ⟨o, by rw [howed]; exact ho, if_pos ⟨rfl, rfl, rfl, hready⟩⟩
  rw [State.abortGroup_eq]
  split
  · rw [State.host_sendSeam]
    exact hshown
  · exact hshown

theorem coreEditAbort_ok {s : State} {own : Option (Nat × Nat × Nat)} {f : Nat} {c : CmdSlot} {d : Dma} {g : Group} (hparams : badParams c = false)
    (hgroup : s.abortable (bits c.p1 31 16) f = some g) : coreEditAbort s own f c d = { s := s.abortGroup g none } := by
  unfold coreEditAbort
  rw [if_neg (by simp [hparams]), hgroup]

theorem State.tbl_of_groupOf {s : State} {t : Nat} {g : Group} (h : s.groupOf t = some g) : g.tbl = t ∧ g ∈ s.groups :=
  ⟨beq_iff_eq.1 (List.find?_some (p := fun x : Group => x.tbl == t) h), List.mem_of_find?_eq_some h⟩

theorem doEditLeaseExpiry_over {s : State} {n : Fin 64} {g : Group} (hgroup : s.groupOf n.val = some g) (hst : g.st = .open)
    (hplain : g.ungrouped = false) (hown : g.fromPeer = false) (hover : g.leaseAt + g.lease * cyclesPerMs ≤ s.clock) :
    doEditLeaseExpiry n s = s.abortGroup g (some Reg.TBL_STATUS_ABORT_LEASE) := by
  unfold doEditLeaseExpiry
  rw [hgroup]
  exact if_pos ⟨hst, hplain, hown, hover⟩

theorem doEditLeaseExpiry_early {s : State} {n : Fin 64} {g : Group} (hgroup : s.groupOf n.val = some g)
    (hrun : s.clock < g.leaseAt + g.lease * cyclesPerMs) : doEditLeaseExpiry n s = s := by
  unfold doEditLeaseExpiry
  rw [hgroup]
  exact if_neg fun h => by have := h.2.2.2; omega

/-! ## A group that commits -/

/-- A row that a group's edit put into the table at boundary k. -/
def EnteredAs (k : Tick) (r x : Row) : Prop :=
  x.loc = r.loc ∧ x.tbl = r.tbl ∧ x.id = r.id ∧ x.value = r.value ∧ x.care = r.care ∧ x.on = k ∧ x.st = .entering

/-- What becomes of a row when an edit of a group commits. -/
def Group.commitRow (g : Group) (k : Tick) (id : Nat) (r : Row) : Row :=
  if r.tbl = g.tbl ∧ r.id = id then
    if r.st = .pending ∧ r.group = g.num then { r with st := .entering, on := k, group := 0, owing := g.released && r.loc.isVest }
    else if r.off.isNone then { r with off := some k } else r
  else r

theorem State.mem_cancelSets {s : State} {r : Row} (t id : Nat) (hr : r ∈ s.rows) (hst : r.st ≠ .set) : r ∈ (s.cancelSets t id).rows := by
  unfold State.cancelSets
  have hset : ∀ x ∈ s.rows.filter (fun r => r.tbl == t && r.id == id && r.st == .set), x.st = .set := fun x hx => by
    have := (List.mem_filter.1 hx).2
    simp only [Bool.and_eq_true, beq_iff_eq] at this
    exact this.2
  refine List.foldlRecOn (motive := fun u : State => r ∈ u.rows) _ _ hr fun u hu x hx => ?_
  have hrows : (u.cancelSet x).rows = u.rows.erase x := (State.toClear_within.same .rows).symm
  rw [hrows]
  exact (List.mem_erase_of_ne fun h => hst (by rw [h]; exact hset x hx)).2 hu

theorem State.rows_commitEdit (s : State) (g : Group) (k : Tick) (e : Edit) :
    (s.commitEdit g k e).rows = (s.cancelSets g.tbl e.id).rows.map (g.commitRow k e.id) := by
  unfold State.commitEdit
  extract_lets t staged u v w x
  have hv : v.rows = t.rows.map (g.commitRow k e.id) := rfl
  clear_value staged v
  have hw : Within [.regs, .bays, .broad, .drawers] v w := by
    unfold w
    split
    · exact (Within.refl.step State.assignFor_within).step State.noteBroad_within
    · exact .refl
  have hx : Within [.regs, .bays, .broad, .drawers, .tallies] v x := by
    unfold x
    split
    · exact (Within.ite ((hw.mono (by decide)).step State.endTally_within) (hw.mono (by decide))).step State.giveTally_within
    · exact (hw.mono (by decide)).step State.endTally_within
    · exact .ite ((hw.mono (by decide)).step State.giveTally_within) (hw.mono (by decide))
  exact ((hx.step State.bump_within).same .rows).symm.trans hv

theorem State.commitEdit_enters {s : State} {g : Group} {k : Tick} {e : Edit} {r : Row} (hr : r ∈ s.rows) (hst : r.st = .pending)
    (htbl : r.tbl = g.tbl) (hgroup : r.group = g.num) (hid : e.id = r.id) : ∃ x ∈ (s.commitEdit g k e).rows, EnteredAs k r x := by
  rw [State.rows_commitEdit]
  refine ⟨_, List.mem_map.2 ⟨r, State.mem_cancelSets _ _ hr (by simp [hst]), rfl⟩, ?_⟩
  unfold Group.commitRow
  rw [if_pos ⟨htbl, hid.symm⟩, if_pos ⟨hst, hgroup⟩]
  exact ⟨rfl, rfl, rfl, rfl, rfl, rfl, rfl⟩

theorem State.commitEdit_keepsEntered {s : State} {g : Group} {k : Tick} (e : Edit) {r : Row} (h : ∃ x ∈ s.rows, EnteredAs k r x) :
    ∃ x ∈ (s.commitEdit g k e).rows, EnteredAs k r x := by
  obtain ⟨x, hx, hloc, htbl, hid, hvalue, hcare, hon, hst⟩ := h
  rw [State.rows_commitEdit]
  refine ⟨_, List.mem_map.2 ⟨x, State.mem_cancelSets _ _ hx (by simp [hst]), rfl⟩, ?_⟩
  unfold Group.commitRow
  rw [if_neg (c := x.st = .pending ∧ x.group = g.num) (by simp [hst])]
  split
  · split <;> exact ⟨hloc, htbl, hid, hvalue, hcare, hon, hst⟩
  · exact ⟨hloc, htbl, hid, hvalue, hcare, hon, hst⟩

theorem State.commitEdit_keepsOther {s : State} {g : Group} {k : Tick} {e : Edit} {r : Row} (hr : r ∈ s.rows) (hst : r.st = .pending)
    (hid : e.id ≠ r.id) : r ∈ (s.commitEdit g k e).rows := by
  rw [State.rows_commitEdit]
  refine List.mem_map.2 ⟨r, State.mem_cancelSets _ _ hr (by simp [hst]), ?_⟩
  exact if_neg fun h => hid h.2.symm

/-- A staged row of a group enters with the first of its edits that has the row's ID, and stays. -/
theorem State.foldl_commitEdit_enters {g : Group} {k : Tick} {r : Row} (hst : r.st = .pending) (htbl : r.tbl = g.tbl) (hgroup : r.group = g.num)
    (l : List Edit) (s : State) (hr : r ∈ s.rows) (hedit : ∃ e ∈ l, e.id = r.id) :
    ∃ x ∈ (l.foldl (fun (x : State) e => x.commitEdit g k e) s).rows, EnteredAs k r x := by
  induction l generalizing s with
  | nil => exact absurd hedit (by simp)
  | cons e l ih =>
    rw [List.foldl_cons]
    by_cases hid : e.id = r.id
    · exact List.foldlRecOn (motive := fun u : State => ∃ x ∈ u.rows, EnteredAs k r x) _ _ (State.commitEdit_enters hr hst htbl hgroup hid)
        fun u hu e _ => State.commitEdit_keepsEntered e hu
    · obtain ⟨a, ha, haid⟩ := hedit
      exact ih _ (State.commitEdit_keepsOther hr hst hid) ⟨a, (List.mem_cons.1 ha).resolve_left (fun h => hid (h ▸ haid)), haid⟩

/-- From s to t the count of a table's commits stays. -/
def KeepsCommits (n : Nat) (s t : State) : Prop := t.get Reg.TBL_CNT_COMMIT_COUNT n = s.get Reg.TBL_CNT_COMMIT_COUNT n

namespace KeepsCommits

variable {n : Nat} {s t u : State}

theorem refl : KeepsCommits n s s := rfl

theorem trans (h : KeepsCommits n s t) (k : KeepsCommits n t u) : KeepsCommits n s u := Eq.trans k h

theorem of_within {w : List Part} (h : Within w s t) (hw : Part.regs ∉ w := by decide) : KeepsCommits n s t :=
  congrArg (fgetD · _ _) (h.same .regs hw).symm

theorem of_writes (hn : n < 64) (h : Writes [] s t) : KeepsCommits n s t :=
  h.get Reg.TBL_CNT_COMMIT_COUNT n 0 (by simp only [Field.key, Reg.TBL_CNT_COMMIT_COUNT]; omega) List.not_mem_nil

theorem ite {p : Prop} [Decidable p] (h : KeepsCommits n s t) (k : KeepsCommits n s u) : KeepsCommits n s (if p then t else u) := by
  split
  · exact h
  · exact k

theorem put (F : Field) (v i : Nat) (h : F.key i ≠ Reg.TBL_CNT_COMMIT_COUNT.key n) : KeepsCommits n s (s.put F v i) :=
  State.get_put_ne s F _ v i 0 n 0 h

theorem noteBroad (r : Row) : KeepsCommits n s (s.noteBroad r) := by
  unfold State.noteBroad
  refine .ite (put _ _ _ ?_) .refl
  simp only [Field.key, Reg.GAL_CNT_BROAD_PLACED_COUNT, Reg.TBL_CNT_COMMIT_COUNT]
  omega

theorem giveTally (t id : Nat) : KeepsCommits n s (s.giveTally t id) := by
  unfold State.giveTally
  split
  · exact .refl
  · refine .ite .refl ?_
    split
    · exact .refl
    · refine (put _ _ _ ?_).trans (put _ _ _ ?_)
      · simp only [Field.key, Reg.TBL_CNT_NO_TALLY_COUNT, Reg.TBL_CNT_COMMIT_COUNT]
        omega
      · simp only [Field.key, Reg.TBL_STATUS_NO_TALLY, Reg.TBL_CNT_COMMIT_COUNT]
        omega

theorem commitEdit (g : Group) (k : Tick) (e : Edit) : KeepsCommits n s (s.commitEdit g k e) := by
  unfold State.commitEdit
  extract_lets t staged u v w x
  have ht : KeepsCommits n s t := of_within State.cancelSets_within
  have hv : KeepsCommits n s v := ht.trans (rfl : v.get Reg.TBL_CNT_COMMIT_COUNT n = t.get Reg.TBL_CNT_COMMIT_COUNT n)
  clear_value staged v
  have hw : KeepsCommits n s w := by
    unfold w
    split
    · exact (hv.trans (of_within State.assignFor_within)).trans (noteBroad _)
    · exact hv
  have hend : KeepsCommits n s (w.endTally g.tbl e.id) := hw.trans (of_within State.endTally_within)
  have hx : KeepsCommits n s x := by
    unfold x
    split
    · exact (ite hend hw).trans (giveTally _ _)
    · exact hend
    · exact .ite (hw.trans (giveTally _ _)) hw
  refine hx.trans (put _ _ _ ?_)
  split
  · simp only [Field.key, Reg.TBL_CNT_INSERT_COUNT, Reg.TBL_CNT_COMMIT_COUNT]
    omega
  · simp only [Field.key, Reg.TBL_CNT_DELETE_COUNT, Reg.TBL_CNT_COMMIT_COUNT]
    omega
  · simp only [Field.key, Reg.TBL_CNT_MODIFY_COUNT, Reg.TBL_CNT_COMMIT_COUNT]
    omega

theorem showDegraded (hn : n < 64) : KeepsCommits n s s.showDegraded := by
  unfold State.showDegraded
  refine List.foldlRecOn (motive := KeepsCommits n s) _ _ .refl fun u hu e _ => ?_
  dsimp only
  refine .ite hu ?_
  have hset : KeepsCommits n s (u.setTable e.1 { e.2 with degraded := s.degradedNow e.1 }) := hu.trans (of_within State.setTable_within)
  refine .ite ((hset.trans (put _ _ _ ?_)).trans (of_writes hn (.raise _))) hset
  simp only [Field.key, Reg.TBL_STATUS_DEGRADED, Reg.TBL_CNT_COMMIT_COUNT]
  omega

theorem showHeld (hn : n < 64) : KeepsCommits n s s.showHeld := by
  unfold State.showHeld State.showOutside
  refine List.foldlRecOn (motive := KeepsCommits n s) _ _ (of_within State.setWrd_within) fun u hu i _ => hu.trans (put _ _ _ ?_)
  simp only [Field.key, Reg.WRD_TBL_OUTSIDE, Reg.TBL_CNT_COMMIT_COUNT]
  omega

end KeepsCommits

/-- A group's edits made, and the table's sequence of commits moved on. -/
def State.editsMade (s : State) (g : Group) (k : Tick) : State :=
  let t := g.edits.foldl (fun (x : State) e => x.commitEdit g k e) (s.sendLater g k)
  match t.table g.tbl with
  | some d => t.setTable g.tbl { d with commitSeq := (d.commitSeq + 1) % 2 ^ 32 }
  | none => t

theorem State.commitGroup_eq (s : State) (g : Group) (k : Tick) : s.commitGroup g k =
    (((((s.editsMade g k).setGroups ((s.editsMade g k).groups.filter fun x => x ≠ g)).bump Reg.TBL_CNT_COMMIT_COUNT 1 g.tbl).showDegraded).completeNow
      g.cmd Sts.SUCCESS).showHeld := rfl

theorem State.editsMade_spec (s : State) (g : Group) (k : Tick) : (s.editsMade g k).groups = s.groups ∧
    KeepsCommits g.tbl s (s.editsMade g k) ∧
    ∀ r ∈ s.rows, r.st = .pending → r.tbl = g.tbl → r.group = g.num → (∃ e ∈ g.edits, e.id = r.id) →
      ∃ x ∈ (s.editsMade g k).rows, EnteredAs k r x := by
  unfold State.editsMade
  extract_lets t
  have hsend : Within [.out, .seam] s (s.sendLater g k) := State.sendLater_within
  have hfold : Within [.regs, .rows, .journal, .tallies, .lost, .bays, .broad, .drawers, .cur] (s.sendLater g k) t :=
    .foldl (fun _ _ h => h.step State.commitEdit_within) .refl
  have hgroups : t.groups = s.groups := (hfold.same .groups).symm.trans (hsend.same .groups).symm
  have hcount : KeepsCommits g.tbl s t := (KeepsCommits.of_within hsend).trans
    (List.foldlRecOn (motive := KeepsCommits g.tbl (s.sendLater g k)) _ _ .refl fun u hu e _ => hu.trans (.commitEdit g k e))
  have hrows : ∀ r ∈ s.rows, r.st = .pending → r.tbl = g.tbl → r.group = g.num → (∃ e ∈ g.edits, e.id = r.id) → ∃ x ∈ t.rows, EnteredAs k r x :=
    fun r hr hst htbl hgroup hedit => State.foldl_commitEdit_enters hst htbl hgroup g.edits _ (hsend.same .rows ▸ hr) hedit
  split
  · exact ⟨hgroups, hcount.trans (.of_within State.setTable_within), hrows⟩
  · exact ⟨hgroups, hcount, hrows⟩

theorem State.commitGroup_spec {s : State} {g : Group} (k : Tick) (hg : g.tbl < 64) : (s.commitGroup g k).groups = s.groups.filter (fun x => x ≠ g) ∧
    (s.commitGroup g k).get Reg.TBL_CNT_COMMIT_COUNT g.tbl =
      min (s.get Reg.TBL_CNT_COMMIT_COUNT g.tbl + 1) Reg.TBL_CNT_COMMIT_COUNT.max ∧
    ∀ r ∈ s.rows, r.st = .pending → r.tbl = g.tbl → r.group = g.num → (∃ e ∈ g.edits, e.id = r.id) →
      ∃ x ∈ (s.commitGroup g k).rows, EnteredAs k r x := by
  obtain ⟨hgroups, hcount, hrows⟩ := s.editsMade_spec g k
  rw [State.commitGroup_eq]
  generalize s.editsMade g k = t at hgroups hcount hrows
  generalize hu : (t.setGroups (t.groups.filter fun x => x ≠ g)).bump Reg.TBL_CNT_COMMIT_COUNT 1 g.tbl = u
  have hug : u.groups = s.groups.filter fun x => x ≠ g := by
    rw [← hu, ← hgroups]
    rfl
  have hur : u.rows = t.rows := by rw [← hu]; rfl
  have huc : u.get Reg.TBL_CNT_COMMIT_COUNT g.tbl = min (s.get Reg.TBL_CNT_COMMIT_COUNT g.tbl + 1) Reg.TBL_CNT_COMMIT_COUNT.max := by
    rw [← hu, State.get_bump_same, ← hcount]
    rfl
  have hwithin : Within [.out, .regs, .boot, .tables, .host, .wrd] u ((u.showDegraded.completeNow g.cmd Sts.SUCCESS).showHeld) :=
    ((Within.refl.step State.showDegraded_within).step State.completeNow_within).step State.showHeld_within
  have hkeeps : KeepsCommits g.tbl u ((u.showDegraded.completeNow g.cmd Sts.SUCCESS).showHeld) :=
    ((KeepsCommits.showDegraded hg).trans (.of_writes hg (State.completeNow_writes _ _ _ _))).trans (.showHeld hg)
  generalize (u.showDegraded.completeNow g.cmd Sts.SUCCESS).showHeld = v at hwithin hkeeps
  refine ⟨(hwithin.same .groups).symm.trans hug, Eq.trans hkeeps huc, fun r hr hst htbl hgroup hedit => ?_⟩
  rw [← hwithin.same .rows, hur]
  exact hrows r hr hst htbl hgroup hedit

theorem doGroupCommit_due {s : State} {n : Fin 64} {g : Group} (hgroup : s.groupOf n.val = some g) (hdue : g.due s.tick.now = true) :
    doGroupCommit n s = if s.governed g = true ∧ g.st = .ready then (s.setGroup { g with st := .deferred }).bump Reg.CUR_CNT_DEFER_COUNT
      else s.commitGroup g s.tick.now := by
  unfold doGroupCommit
  rw [hgroup]
  exact if_neg (by simp [hdue])

theorem doGroupCommit_idle {s : State} {n : Fin 64} (hidle : ∀ g, s.groupOf n.val = some g → g.due s.tick.now = false) : doGroupCommit n s = s := by
  unfold doGroupCommit
  split
  · rfl
  next g hg => exact if_pos (hidle g hg)

/-! ## The wear governor lets a group go -/

theorem State.groups_setOp (s : State) (m : Mirrored) : (s.setOp m).groups = s.groups := rfl

/-- The group that an operation commits is one of the groups. -/
theorem State.mem_groupOfOp {s : State} {m : Mirrored} {g : Group} (h : s.groupOfOp m = some g) : g ∈ s.groups := by
  unfold State.groupOfOp at h
  split at h
  · split at h
    · exact List.mem_of_find?_eq_some h
    · split at h
      · exact List.mem_of_find?_eq_some h
      · exact nomatch h
  · exact nomatch h

theorem State.groupOfOp_congr {s t : State} (h : t.groups = s.groups) (m : Mirrored) : t.groupOfOp m = s.groupOfOp m := by
  unfold State.groupOfOp
  rw [h]

/-- A group that the governor has let go is none that it holds. -/
theorem State.governed_released (s : State) {g : Group} (h : g.released = true) : s.governed g = false := by
  simp [State.governed, h]

theorem State.mayAgree_released {s : State} {m : Mirrored} {g : Group} (hop : s.groupOfOp m = some g) (hrel : g.released = true) : s.mayAgree m = true := by
  unfold State.mayAgree
  rw [hop]
  simp [s.governed_released hrel]

/-- Where each group of a table is one group that the governor has let go, an agreement about it leaves it, ready or bound. -/
theorem State.agreeReleased_spec {s : State} {t : Nat} {g : Group} (hmem : g ∈ s.groups) (hall : ∀ x ∈ s.groups, x.tbl = t → x = g)
    (hrel : g.released = true) (hst : g.st = .ready) :
    (∃ x ∈ (s.agreeReleased t).groups, x = { g with st := x.st } ∧ x.st ≠ .deferred) ∧ (s.agreeReleased t).rows = s.rows := by
  have hself : ∀ u : State, u.groups = s.groups → ∃ x ∈ u.groups, x = { g with st := x.st } ∧ x.st ≠ .deferred := fun u hu =>
    ⟨g, by rw [hu]; exact hmem, rfl, by simp [hst]⟩
  unfold State.agreeReleased
  split
  · exact ⟨hself s rfl, rfl⟩
  next m hm =>
    have hop : s.groupOfOp m = some g := by
      have hsome := List.find?_some (p := fun m : Mirrored => match s.groupOfOp m with | some g => g.tbl == t | none => false) hm
      split at hsome
      next x hx => rw [hx, hall x (State.mem_groupOfOp hx) (beq_iff_eq.1 hsome)]
      next => exact Bool.noConfusion hsome
    have hmay := State.mayAgree_released hop hrel
    split
    · unfold State.tryPropose
      split
      · exact ⟨hself _ (State.groups_sendSeam _ _), (State.sendSeam_within.same .rows).symm⟩
      · exact ⟨hself s rfl, rfl⟩
    · split
      · unfold State.sendReady
        rw [if_pos hmay]
        exact ⟨hself _ (State.groups_sendSeam _ _), (State.sendSeam_within.same .rows).symm⟩
      next k _ =>
        unfold State.answer
        dsimp only
        rw [if_pos hmay]
        generalize tickMax k s.agreeTick = b
        have hbind : s.bindOp m b = (s.setOp { m with st := .bound b }).setGroup { g with st := .bound b } := by
          unfold State.bindOp
          dsimp only
          rw [show (s.setOp { m with st := .bound b }).groupOfOp m = some g from hop]
        rw [hbind, State.groups_sendSeam]
        exact ⟨⟨{ g with st := .bound b }, List.mem_map.2 ⟨g, hmem, if_pos rfl⟩, rfl, by simp⟩, (State.sendSeam_within.same .rows).symm⟩
      · exact ⟨hself s rfl, rfl⟩

theorem doCommitRelease_free {s : State} {n : Fin 64} {g : Group} (hgroup : s.groupOf n.val = some g) (hst : g.st = .deferred)
    (hfirst : s.firstDeferred g = true) (hbalance : 2 ^ 35 ≤ s.releaseBalance) :
    doCommitRelease n s = s.setGroup { g with st := .ready, released := true } := by
  unfold doCommitRelease
  rw [hgroup]
  exact if_pos ⟨hst, hfirst, hbalance⟩

theorem doCommitRelease_held {s : State} {n : Fin 64} {g : Group} (hgroup : s.groupOf n.val = some g)
    (hheld : s.firstDeferred g = false ∨ s.releaseBalance < 2 ^ 35) : doCommitRelease n s = s := by
  unfold doCommitRelease
  rw [hgroup]
  refine if_neg fun ⟨_, hfirst, hbalance⟩ => ?_
  rcases hheld with h | h
  · rw [h] at hfirst
    exact Bool.noConfusion hfirst
  · omega

/-! ## Waiting for room -/

theorem execVestWaitExpiry_engine {s : State} {c : Cmd} {k : Nat} (hengine : s.host.engine = some c) (hwait : s.host.waitFrom = some k) :
    execVestWaitExpiry s = if c.slot.opcode = 0x07 then .next s
      else if k + s.get Reg.TBLG_CTRL_VEST_WAIT * cyclesPerMs ≤ s.clock then .next ((s.vestFull c.table).finish c Sts.VESTIBULE_FULL)
      else .next s := by
  unfold execVestWaitExpiry
  rw [hengine, hwait]

theorem State.flag_vestFull {s : State} {t : Nat} (ht : t < 64) : (s.vestFull t).flag Reg.TBL_STATUS_VESTIBULE_FULL t = true :=
  ((Writes.raiseRate (Ev.VESTIBULE_FULL t)).flag Reg.TBL_STATUS_VESTIBULE_FULL t 0 (by simp only [Field.key, Reg.TBL_STATUS_VESTIBULE_FULL]; omega)
    List.not_mem_nil).trans (State.flag_put_one _ _ _ _ rfl)

/-- Settles O31, by the outcome of a group: ended, discarded, committed, deferred or released. -/
theorem groupsEndAndCommit : Obligations.GroupsEndAndCommit := by
  unfold Obligations.GroupsEndAndCommit
  refine ⟨⟨fun s c g hop hmirror hplain hparams hgroup hfree hright => ?_, fun s c g hop hmirror hparams hgroup => ?_,
    fun s n g hgroup hst hun hown => ⟨fun hover => ?_, fun hrun => ?_⟩, fun s c k hengine hwait => ⟨fun hop hover => ?_, fun hidle => ?_⟩⟩,
    fun s n g hgroup hdue hfree => ?_, fun s n g hgroup hdue hgov hst => ?_, fun s n hidle => ?_,
    fun s n g hgroup hst => ⟨fun hfirst hbalance => ?_, fun hheld => ?_⟩⟩
  · have hrun := State.runOp_finishLater (d := {}) hop hmirror (.inl hplain) (coreEditCommit_ok (own := c.own) hparams hgroup hfree hright)
    exact ⟨_, { g with st := .ready, order := s.cur.deferOrder, cmd := some c.own }, congrArg Host.Outcome.next hrun,
      State.mem_setGroup (List.mem_of_find?_eq_some hgroup) rfl, rfl, rfl, rfl, rfl, rfl, State.owes_finishLater ..⟩
  · have hrun := State.runOp_finish (d := {}) hop hmirror (.inr rfl) (coreEditAbort_ok (own := some c.own) hparams hgroup)
    have hgroups := s.groups_abortGroup g none
    have hrows := fun r => State.mem_abortGroup (s := s) (g := g) (cause := none) (r := r)
    have howed := fun o => State.owed_abortGroup (s := s) (g := g) none (o := o)
    have hcount := s.get_abortCount g
    generalize s.abortGroup g none = u at hrun hgroups hrows howed hcount
    exact ⟨_, congrArg Host.Outcome.next hrun, hgroups, State.owes_finish .., fun r hr => (hrows r hr).1, fun r hr => (hrows r hr).2,
      fun o ho hcmd hready => List.mem_append_left _ (howed o ho hcmd hready), hcount⟩
  · obtain ⟨htbl, -⟩ := State.tbl_of_groupOf hgroup
    exact ⟨_, congrArg Host.Outcome.next (doEditLeaseExpiry_over hgroup hst hun hown hover), s.groups_abortGroup g _,
      State.flag_abortLease (by rw [htbl]; exact n.isLt)⟩
  · exact congrArg Host.Outcome.next (doEditLeaseExpiry_early hgroup hrun)
  · have hexec := (execVestWaitExpiry_engine hengine hwait).trans ((if_neg hop).trans (if_pos hover))
    have hflag : (s.vestFull c.table).flag Reg.TBL_STATUS_VESTIBULE_FULL c.table = true := State.flag_vestFull (bits_lt _ _ _)
    generalize s.vestFull c.table = u at hexec hflag
    exact ⟨_, hexec, hflag, State.owes_finish ..⟩
  · refine (execVestWaitExpiry_engine hengine hwait).trans ?_
    split
    · rfl
    next hop => exact if_neg fun hle => hidle.elim hop fun hlt => by omega
  · obtain ⟨htbl, -⟩ := State.tbl_of_groupOf hgroup
    obtain ⟨hgroups, hcount, hrows⟩ := State.commitGroup_spec (s := s) (g := g) s.tick.now (by rw [htbl]; exact n.isLt)
    refine ⟨_, congrArg Host.Outcome.next ((doGroupCommit_due hgroup hdue).trans (if_neg hfree)), hgroups, hcount,
      fun r hr hst hrt hgr hedit => ?_⟩
    obtain ⟨x, hx, hloc, htbl, hid, hvalue, hcare, hon, -⟩ := hrows r hr hst hrt hgr hedit
    exact ⟨x, hx, hloc, htbl, hid, hvalue, hcare, hon⟩
  · obtain ⟨-, hmem⟩ := State.tbl_of_groupOf hgroup
    exact ⟨_, congrArg Host.Outcome.next ((doGroupCommit_due hgroup hdue).trans (if_pos ⟨hgov, hst⟩)), State.mem_setGroup hmem rfl, rfl,
      State.get_bump_same ..⟩
  · exact congrArg Host.Outcome.next (doGroupCommit_idle hidle)
  · obtain ⟨htbl, hmem⟩ := State.tbl_of_groupOf hgroup
    have hrel := doCommitRelease_free hgroup hst hfirst hbalance
    have hnew : { g with st := .ready, released := true } ∈ (doCommitRelease n s).groups := by
      rw [hrel]
      exact State.mem_setGroup hmem rfl
    have hall : ∀ x ∈ (doCommitRelease n s).groups, x.tbl = n.val → x = { g with st := .ready, released := true } := fun x hx hxt => by
      rw [hrel] at hx
      obtain ⟨y, hy, rfl⟩ := List.mem_map.1 hx
      split at hxt
      next h => exact if_pos h
      next h => exact absurd (hxt.trans htbl.symm) h
    have hrows : (doCommitRelease n s).rows = s.rows := (doCommitRelease_within.same .rows).symm
    obtain ⟨⟨x, hx, heq, hne⟩, hrows'⟩ := State.agreeReleased_spec hnew hall rfl rfl
    by_cases hsame : (doCommitRelease n s).groupOf n = s.groupOf n
    · exact ⟨_, _, congrArg Host.Outcome.next (if_pos hsame), hnew, rfl, GroupSt.noConfusion, hrows⟩
    · refine ⟨_, x, congrArg Host.Outcome.next (if_neg hsame), hx, ?_, hne, hrows'.trans hrows⟩
      rw [heq]
  · have hrel := doCommitRelease_held hgroup hheld
    unfold exec execCommitRelease
    dsimp only
    rw [hrel]
    exact congrArg Host.Outcome.next (if_pos rfl)

end Sys2Proof.Machine
end

section
/-! PROOFS. Mirrored operations (O45). -/

namespace Sys2Proof.Machine

set_option Elab.async false

/-! ## The operations in flight -/

theorem State.opOf_spec {s : State} {mine : Bool} {id : Nat} {m : Mirrored} (h : s.opOf mine id = some m) :
    m ∈ s.seam.ops ∧ m.mine = mine ∧ m.id = id := by
  have hfound := List.find?_some (p := fun m : Mirrored => m.mine == mine && m.id == id) h
  simp only [Bool.and_eq_true, beq_iff_eq] at hfound
  exact ⟨List.mem_of_find?_eq_some h, hfound⟩

theorem State.mem_setOp {s : State} {m n : Mirrored} (hm : m ∈ s.seam.ops) (hkey : m.key = n.key) : n ∈ (s.setOp n).seam.ops :=
  List.mem_map.2 ⟨m, hm, if_pos hkey⟩

theorem State.key_dropOp {s : State} {m x : Mirrored} (hx : x ∈ (s.dropOp m).seam.ops) : x.key ≠ m.key := by
  simpa using (List.mem_filter.1 hx).2

theorem State.ops_seamGot (s : State) (n : Nat) : (s.seamGot n).seam.ops = s.seam.ops := by
  obtain ⟨_, _, h⟩ := s.seamGot_frame n
  rw [h]

theorem State.opOf_seamGot (s : State) (n : Nat) (mine : Bool) (id : Nat) : (s.seamGot n).opOf mine id = s.opOf mine id :=
  congrArg (List.find? _) (s.ops_seamGot n)

theorem State.host_seamGot (s : State) (n : Nat) : (s.seamGot n).host = s.host := by
  obtain ⟨_, _, h⟩ := s.seamGot_frame n
  rw [h]

theorem State.groups_seamGot (s : State) (n : Nat) : (s.seamGot n).groups = s.groups := by
  obtain ⟨_, _, h⟩ := s.seamGot_frame n
  rw [h]

theorem State.mayAgree_seamGot (s : State) (n : Nat) (m : Mirrored) : (s.seamGot n).mayAgree m = s.mayAgree m := by
  obtain ⟨_, _, h⟩ := s.seamGot_frame n
  rw [h]
  rfl

theorem State.agreeTick_seamGot (s : State) (n : Nat) : (s.seamGot n).agreeTick = s.agreeTick := by
  obtain ⟨_, _, h⟩ := s.seamGot_frame n
  rw [h]
  rfl

theorem State.sendReady_seam (s : State) (m : Mirrored) : (s.sendReady m).seam.ops = s.seam.ops := by
  unfold State.sendReady
  split
  · exact s.ops_sendSeam _
  · exact congrArg Seam.ops (State.deferOp_within.same .seam).symm

/-! ## A command of this device -/

/-- The device after a command has gone to its twin. -/
def State.mirroring (s : State) (c : Cmd) (d : Dma) (h : BitVec 16) (target : Nat) : State :=
  { s.startMirror (.command (Fin.ofNat 16 c.func) c.slot d h) target (some c.own) with
    host := { (s.startMirror (.command (Fin.ofNat 16 c.func) c.slot d h) target (some c.own)).host with mirror := some s.seam.nextId } }

theorem State.startMirror_sent (s : State) (op : MirrorOp) (target : Nat) (cmd : Option (Nat × Nat × Nat)) :
    SeamSent s (s.startMirror op target cmd) (.mirror s.seam.nextId op none) := State.sendSeam_sent _ rfl rfl rfl rfl

theorem State.runOp_mirrors {s : State} {op : Nat} {c : Cmd} {d : Dma} {core : State → Option (Nat × Nat × Nat) → Nat → CmdSlot → Dma → Ran}
    (hop : s.engineOp op = some c) (hmirror : s.host.mirror = none) (hpair : s.seam.pair = .paired) (hmirrored : mirroredOpcode op = true)
    (hwait : (core s (some c.own) c.func c.slot d).wait = false) (hok : (core s (some c.own) c.func c.slot d).status = Sts.SUCCESS) :
    ∃ h target, s.runOp op d core = s.mirroring c d h target := by
  unfold State.runOp
  rw [hop]
  dsimp only
  unfold State.issue
  rw [if_neg (by simp [hmirror]), if_pos ⟨hpair, by rw [State.opcode_of_engineOp hop]; exact hmirrored, hok, hwait⟩]
  exact ⟨_, _, rfl⟩

theorem State.runOp_fails {s : State} {op : Nat} {c : Cmd} {d : Dma} {core : State → Option (Nat × Nat × Nat) → Nat → CmdSlot → Dma → Ran}
    (hop : s.engineOp op = some c) (hmirror : s.host.mirror = none) (hwait : (core s (some c.own) c.func c.slot d).wait = false)
    (hfail : (core s (some c.own) c.func c.slot d).status ≠ Sts.SUCCESS) (hlater : (core s (some c.own) c.func c.slot d).later = false) :
    s.runOp op d core = (core s (some c.own) c.func c.slot d).s.finish c (core s (some c.own) c.func c.slot d).status
      (core s (some c.own) c.func c.slot d).result := by
  unfold State.runOp
  rw [hop]
  dsimp only
  unfold State.issue
  rw [if_neg (by simp [hmirror]), if_neg fun h => hfail h.2.2.1]
  exact State.complete_finish hwait hlater

/-- What MIRROR leaves: the command holds the engine, and its operation is the last of those in flight (R325). -/
theorem State.mirroring_spec {s : State} {c : Cmd} (d : Dma) (h : BitVec 16) (target : Nat) (hengine : s.host.engine = some c) :
    ∃ m : Mirrored, (s.mirroring c d h target).host.engine = some c ∧ (s.mirroring c d h target).host.mirror = some s.seam.nextId ∧
      (s.mirroring c d h target).seam.ops = s.seam.ops ++ [m] ∧ m.id = s.seam.nextId ∧ m.mine = true ∧ m.st = .staging ∧
      m.op = .command (Fin.ofNat 16 c.func) c.slot d h ∧ SeamSent s (s.mirroring c d h target) (.mirror m.id m.op none) ∧
      (s.mirroring c d h target).rows = s.rows ∧ (s.mirroring c d h target).tables = s.tables ∧ (s.mirroring c d h target).chans = s.chans ∧
      (s.mirroring c d h target).wrd = s.wrd ∧ (s.mirroring c d h target).groups = s.groups := by
  have hwithin : Within [.out, .host, .seam] s (s.mirroring c d h target) :=
    (Within.refl.step State.startMirror_within).upd
  refine ⟨{ id := s.seam.nextId, mine := true, op := .command (Fin.ofNat 16 c.func) c.slot d h, cmd := some c.own, target := target }, ?_, rfl, ?_,
    rfl, rfl, rfl, rfl, ?_, (hwithin.same .rows).symm, (hwithin.same .tables).symm, (hwithin.same .chans).symm, (hwithin.same .wrd).symm,
    (hwithin.same .groups).symm⟩
  · exact (congrArg HostIf.engine (State.host_sendSeam _ _)).trans hengine
  · exact State.ops_sendSeam _ _
  · exact (s.startMirror_sent (.command (Fin.ofNat 16 c.func) c.slot d h) target (some c.own)).congr rfl rfl

/-! ## An operation of the twin -/

theorem doMirror_paired {s : State} (id : Nat) (op : MirrorOp) (hpair : s.seam.pair = .paired) : doMirror id op none s =
    (s.setOps (s.seam.ops ++ [{ id := id % 2 ^ 16, mine := false, op := op, target := mirrorTarget op }])).stagePeer
      { id := id % 2 ^ 16, mine := false, op := op, target := mirrorTarget op } := by
  unfold doMirror
  rw [hpair]

theorem doMirror_idle {s : State} (id : Nat) (op : MirrorOp) (hpair : s.seam.pair ≠ .paired) : doMirror id op none s = s := by
  unfold doMirror
  split
  next h _ => exact absurd h hpair
  next h => exact nomatch h
  next => rfl

/-- An operation that no other has the number of is entered as staged. -/
theorem State.setOp_last {s : State} {m n : Mirrored} (hkey : m.key = n.key) (hnew : ∀ x ∈ s.seam.ops, x.key ≠ n.key) :
    (s.setOps (s.seam.ops ++ [m])).setOp n = s.setOps (s.seam.ops ++ [n]) := by
  have hops : (s.seam.ops ++ [m]).map (fun x => if x.key = n.key then n else x) = s.seam.ops ++ [n] := by
    have hold : s.seam.ops.map (fun x => if x.key = n.key then n else x) = s.seam.ops :=
      (List.map_congr_left fun x hx => if_neg (hnew x hx)).trans (List.map_id _)
    rw [List.map_append, hold, List.map_singleton, if_pos hkey]
  show s.setOps ((s.seam.ops ++ [m]).map fun x => if x.key = n.key then n else x) = _
  rw [hops]

theorem State.stagePeer_plain {s : State} {m : Mirrored} (h : (∃ n v, m.op = .site n v) ∨ ∃ rel v, m.op = .release rel v) : s.stagePeer m =
    ((s.setOp { m with st := .staged }).sendSeam (.staged m.id 0)).sendSeam (.ready m.id) := by
  rcases h with ⟨n, v, h⟩ | ⟨rel, v, h⟩
  · unfold State.stagePeer State.sendReady State.mayAgree State.groupOfOp
    rw [h]
    rfl
  · unfold State.stagePeer State.sendReady State.mayAgree State.groupOfOp
    rw [h]
    rfl

theorem State.stagePeer_command {s : State} {m : Mirrored} {f : Fin 16} {c : CmdSlot} {d : Dma} {h : BitVec 16} {r : Ran}
    (hop : m.op = .command f c d h) (hr : r = coreOf h.toNat s none f.val c d) :
    (r.wait = true → s.stagePeer m = s) ∧
    (r.wait = false → r.status ≠ Sts.SUCCESS → s.stagePeer m = (r.s.dropOp m).sendSeam (.refuse m.id r.status)) ∧
    (r.wait = false → r.status = Sts.SUCCESS → inGroup c = true → s.stagePeer m = (r.s.dropOp m).sendSeam (.staged m.id 0)) ∧
    (r.wait = false → r.status = Sts.SUCCESS → inGroup c = false →
      (s.stagePeer m).seam.ops = r.s.seam.ops.map fun x => if x.key = m.key then { m with st := .staged, target := staticTarget m r } else x) := by
  unfold State.stagePeer
  rw [hop]
  dsimp only
  rw [← hr]
  refine ⟨fun hwait => if_pos hwait, fun hwait hfail => ?_, fun hwait hok hin => ?_, fun hwait hok hout => ?_⟩
  · rw [if_neg (by simp [hwait]), if_pos hfail]
  · rw [if_neg (by simp [hwait]), if_neg (not_not_intro hok), if_pos hin]
  · rw [if_neg (by simp [hwait]), if_neg (not_not_intro hok), if_neg (by simp [hout]), State.sendReady_seam, State.ops_sendSeam]
    exact congrArg Seam.ops (State.holdChange_within.same .seam).symm

/-! ## What the twin answers -/

theorem doStaged_some {s : State} {id : Nat} {m : Mirrored} {e : Cmd} {f : Fin 16} {c : CmdSlot} {d : Dma} {h handle : BitVec 16}
    (hm : s.opOf true id = some m) (hst : m.st = .staging) (hop : m.op = .command f c d h) (hengine : s.host.engine = some e)
    (hmirror : s.host.mirror = some id) :
    doStaged id handle s = s.enterOp m e f.val c d (if h = 0 then handle.toNat else h.toNat) := by
  unfold doStaged
  rw [hm]
  dsimp only
  rw [if_neg (not_not_intro hst), hop]
  dsimp only
  rw [hengine]
  exact if_pos hmirror

theorem State.enterOp_agreed {s : State} {m : Mirrored} {e : Cmd} {f n : Nat} {c : CmdSlot} {d : Dma} {r : Ran}
    (hr : r = coreOf n s (some e.own) f c d) (hwait : r.wait = false) (hok : r.status = Sts.SUCCESS) (hout : inGroup c = false) :
    (s.enterOp m e f c d n).owes e Sts.SUCCESS r.result false := by
  unfold State.enterOp
  dsimp only
  rw [← hr, if_neg (by simp [hwait]), if_neg (not_not_intro hok), if_neg (by simp [hout])]
  generalize ({ m with st := .staged, target := _, cmd := _ } : Mirrored) = n
  unfold State.owes
  rw [show (((r.s.finishLater e r.status r.result).setOp n).holdChange n).host = (r.s.finishLater e r.status r.result).host from
    (State.holdChange_within.same .host).symm, hok]
  exact State.owes_finishLater ..

theorem State.enterOp_inGroup {s : State} {m : Mirrored} {e : Cmd} {f n : Nat} {c : CmdSlot} {d : Dma} {r : Ran}
    (hr : r = coreOf n s (some e.own) f c d) (hwait : r.wait = false) (hok : r.status = Sts.SUCCESS) (hin : inGroup c = true) (hlater : r.later = false) :
    s.enterOp m e f c d n = (r.s.finish e Sts.SUCCESS r.result).dropOp m := by
  unfold State.enterOp
  dsimp only
  rw [← hr, if_neg (by simp [hwait]), if_neg (not_not_intro hok), if_pos hin, State.complete_finish hwait hlater, hok]

theorem doStaged_none {s : State} {id : Nat} (handle : BitVec 16) (h : s.opOf true id = none) : doStaged id handle s = s := by
  unfold doStaged
  rw [h]

theorem doRefuse_none {s : State} {id : Nat} (status : BitVec 8) (h : s.opOf true id = none) : doRefuse id status s = s := by
  unfold doRefuse
  rw [h]

theorem doRefuse_command {s : State} {id : Nat} {m : Mirrored} {status : BitVec 8} {f : Fin 16} {c : CmdSlot} {d : Dma} {h : BitVec 16}
    (hm : s.opOf true id = some m) (hst : m.st = .staging) (hop : m.op = .command f c d h) :
    (doRefuse id status s).seam = (s.dropOp m).seam ∧
    ∀ e, s.host.engine = some e → s.host.mirror = some id → doRefuse id status s = (s.dropOp m).finish e status.toNat := by
  unfold doRefuse
  rw [hm]
  dsimp only
  rw [if_neg (not_not_intro hst), hop]
  dsimp only
  refine ⟨?_, fun e hengine hmirror => ?_⟩
  · split
    · split <;> rfl
    · rfl
  · rw [show (s.dropOp m).host.engine = some e from hengine]
    exact if_pos hmirror

theorem doRefuse_quota {s : State} {id : Nat} {m : Mirrored} {status : BitVec 8} {slot : BitVec 8} {hi : Bool} {v : BitVec 64}
    (hm : s.opOf true id = some m) (hst : m.st = .staging) (hop : m.op = .quota slot hi v) :
    doRefuse id status s = (s.dropOp m).chanCause Reg.CHN_STATUS_QUOTA_ERR slot.toNat := by
  unfold doRefuse
  rw [hm]
  dsimp only
  rw [if_neg (not_not_intro hst), hop]

theorem doRefuse_plain {s : State} {id : Nat} {m : Mirrored} {status : BitVec 8} (hm : s.opOf true id = some m) (hst : m.st = .staging)
    (hplain : (∃ n v, m.op = .site n v) ∨ ∃ rel v, m.op = .release rel v) : doRefuse id status s = s.dropOp m := by
  unfold doRefuse
  rw [hm]
  dsimp only
  rw [if_neg (not_not_intro hst)]
  rcases hplain with ⟨n, v, h⟩ | ⟨rel, v, h⟩
  · rw [h]
  · rw [h]

/-! ## The agreement on a boundary -/

/-- READY of a staged operation (R327 step 2). -/
theorem doReady_staged {s : State} {id : Nat} {m : Mirrored} (hm : s.opOf true id = some m) (hst : m.st = .staged) :
    (s.mayAgree m = true → ∃ u : State, doReady id s = u.sendSeam (.propose id s.agreeTick) ∧ u.out = s.out ∧ u.seam.credit = s.seam.credit ∧
      u.seam.waiting = s.seam.waiting ∧ u.seam.seq = s.seam.seq ∧ ∃ x ∈ u.seam.ops, x.key = m.key ∧ x.st = .proposed s.agreeTick) ∧
    (s.mayAgree m = false → (doReady id s).out = s.out ∧ ∃ x ∈ (doReady id s).seam.ops, x.key = m.key ∧ x.st = .staged ∧ x.peerReady = true) := by
  obtain ⟨hmem, -, hid⟩ := State.opOf_spec hm
  have hready : { m with peerReady := true } ∈ (s.setOp { m with peerReady := true }).seam.ops := State.mem_setOp hmem rfl
  have hrun : doReady id s = (s.setOp { m with peerReady := true }).tryPropose { m with peerReady := true } := by
    unfold doReady
    rw [hm]
  rw [hrun]
  unfold State.tryPropose
  rw [if_pos (⟨hst, rfl⟩ : ({ m with peerReady := true } : Mirrored).st = .staged ∧ ({ m with peerReady := true } : Mirrored).peerReady = true), show (s.setOp { m with peerReady := true }).mayAgree { m with peerReady := true } = s.mayAgree m from rfl,
    show (s.setOp { m with peerReady := true }).agreeTick = s.agreeTick from rfl]
  refine ⟨fun hmay => ?_, fun hmay => ?_⟩
  · rw [if_pos hmay]
    exact ⟨(s.setOp { m with peerReady := true }).setOp { m with peerReady := true, st := .proposed s.agreeTick },
      congrArg (fun i => State.sendSeam _ (.propose i s.agreeTick)) hid, rfl, rfl, rfl, rfl,
      { m with peerReady := true, st := .proposed s.agreeTick },
      State.mem_setOp (n := { m with peerReady := true, st := .proposed s.agreeTick }) hready rfl, rfl, rfl⟩
  · have hdefer := State.deferOp_within (s := s.setOp { m with peerReady := true }) (m := { m with peerReady := true })
    rw [if_neg (by simp [hmay])]
    refine ⟨(hdefer.same .out).symm, { m with peerReady := true }, ?_, rfl, hst, rfl⟩
    rw [← hdefer.same .seam]
    exact hready

theorem State.bindOp_frame (s : State) (m : Mirrored) (k : Tick) : ∃ gs, s.bindOp m k = { s.setOp { m with st := .bound k } with groups := gs } := by
  unfold State.bindOp
  dsimp only
  split
  · exact ⟨_, rfl⟩
  · exact ⟨_, rfl⟩

theorem State.bound_bindOp {s : State} {m : Mirrored} (k : Tick) (hm : m ∈ s.seam.ops) :
    ∃ x ∈ (s.bindOp m k).seam.ops, x.key = m.key ∧ x.st = .bound k := by
  obtain ⟨gs, h⟩ := s.bindOp_frame m k
  rw [h]
  exact ⟨{ m with st := .bound k }, State.mem_setOp hm rfl, rfl, rfl⟩

/-- PROPOSE of a staged operation (R327 step 3). -/
theorem doPropose_staged {s : State} {id : Nat} {m : Mirrored} (k : BitVec 48) (hm : s.opOf false id = some m) (hst : m.st = .staged) :
    (s.mayAgree m = true → SeamSent s (doPropose id k s) (.agree id (tickMax k.toNat s.agreeTick)) ∧
      ∃ x ∈ (doPropose id k s).seam.ops, x.key = m.key ∧ x.st = .bound (tickMax k.toNat s.agreeTick)) ∧
    (s.mayAgree m = false → SeamSent s (doPropose id k s) (.defer id) ∧ ∃ x ∈ (doPropose id k s).seam.ops, x.key = m.key ∧ x.st = .proposed k.toNat) := by
  obtain ⟨hmem, -, hid⟩ := State.opOf_spec hm
  have hrun : doPropose id k s = s.answer m k.toNat := by
    unfold doPropose
    rw [hm]
    exact if_pos hst
  rw [hrun]
  unfold State.answer
  dsimp only
  subst hid
  generalize tickMax k.toNat s.agreeTick = b
  refine ⟨fun hmay => ?_, fun hmay => ?_⟩
  · rw [if_pos hmay, State.ops_sendSeam]
    obtain ⟨gs, hbind⟩ := s.bindOp_frame m b
    refine ⟨?_, State.bound_bindOp b hmem⟩
    rw [hbind]
    exact State.sendSeam_sent _ rfl rfl rfl rfl
  · have hdefer := State.deferOp_within (s := s.setOp { m with st := .proposed k.toNat }) (m := m)
    rw [if_neg (by simp [hmay]), State.ops_sendSeam]
    refine ⟨State.sendSeam_sent _ ((congrArg Seam.credit (hdefer.same .seam).symm).trans rfl)
      ((congrArg Seam.waiting (hdefer.same .seam).symm).trans rfl) ((congrArg Seam.seq (hdefer.same .seam).symm).trans rfl)
      (hdefer.same .out).symm, { m with st := .proposed k.toNat }, ?_, rfl, rfl⟩
    rw [← hdefer.same .seam]
    exact State.mem_setOp hmem rfl

theorem doReady_none {s : State} {id : Nat} (h : s.opOf true id = none) : doReady id s = s := by
  unfold doReady
  rw [h]

theorem doPropose_none {s : State} {id : Nat} (k : BitVec 48) (h : s.opOf false id = none) : doPropose id k s = s := by
  unfold doPropose
  rw [h]

theorem doAgree_none {s : State} {id : Nat} (k : BitVec 48) (h : s.opOf true id = none) : doAgree id k s = s := by
  unfold doAgree
  rw [h]

theorem doAgree_waiting {s : State} {id : Nat} {m : Mirrored} (k : BitVec 48) (hm : s.opOf true id = some m)
    (hst : m.st = .deferred ∨ ∃ p, m.st = .proposed p) : doAgree id k s = s.bindOp m k.toNat := by
  unfold doAgree
  rw [hm]
  rcases hst with h | ⟨p, h⟩
  · dsimp only
    rw [h]
  · dsimp only
    rw [h]

theorem execDefer_proposed {s : State} {id : Nat} {m : Mirrored} {k : Tick} (hm : (s.seamGot 1).opOf true id = some m) (hst : m.st = .proposed k) :
    execDefer id s = .next ((s.seamGot 1).setOp { m with st := .deferred }) := by
  unfold execDefer
  dsimp only
  rw [hm]
  dsimp only
  rw [hst]

theorem execDefer_none {s : State} {id : Nat} (hm : (s.seamGot 1).opOf true id = none) : execDefer id s = .next (s.seamGot 1) := by
  unfold execDefer
  dsimp only
  rw [hm]

/-! ## ABORT -/

/-- An operation that is undone is in flight no more. -/
theorem State.seam_undoOp (s : State) (m : Mirrored) : (s.undoOp m).seam = (s.dropOp m).seam := by
  have hwithin : Within [.host, .tables, .bays, .broad, .chans, .wrd] (s.dropOp m) (s.undoOp m) := by
    unfold State.undoOp
    dsimp only
    have ht : Within [.host, .tables, .bays, .broad, .chans, .wrd] (s.dropOp m) ((s.dropOp m).fenceCmd m.cmd) :=
      Within.refl.step State.fenceCmd_within
    generalize (s.dropOp m).fenceCmd m.cmd = t at ht ⊢
    split
    · split
      · split
        · exact .ite (ht.step State.dropTable_within).upd ht
        · exact ht
      · split
        · exact .ite ((ht.step State.setTable_within).step State.fenceCmd_within) ht
        · exact ht
      · exact .ite (ht.step State.setChan_within) ht
      · exact .ite ((ht.step State.setChan_within).step State.fenceCmd_within) ht
      · exact .foldl (fun _ _ h => h.step State.fenceCmd_within) (ht.step State.setWrd_within)
      · exact .foldl (fun _ _ h => h.step State.fenceCmd_within) (ht.step State.setWrd_within)
      · exact ht
    · exact ht
  exact (hwithin.same .seam).symm

theorem doAbort_op {s : State} {id : Nat} {m : Mirrored} (hid : id < 65536) (hm : s.opOf false id = some m) :
    (m.isBound = true → doAbort id s = s) ∧ (m.isBound = false → ∀ x ∈ (doAbort id s).seam.ops, x.key ≠ m.key) := by
  unfold doAbort
  rw [if_neg (by omega), hm]
  dsimp only
  refine ⟨fun hbound => if_pos hbound, fun hfree => ?_⟩
  rw [if_neg (by simp [hfree])]
  split
  · rw [State.seam_undoOp]
    exact fun x => State.key_dropOp
  · rw [State.seam_undoOp]
    exact fun x => State.key_dropOp

/-- The twin's group that an ABORT names. -/
def State.twinGroupOf (s : State) (id : Nat) : Option Group :=
  s.groups.find? fun g => g.fromPeer && !g.isBound && g.num == id - 65536 && !g.ungrouped

theorem doAbort_group {s : State} {id : Nat} (hid : 65536 ≤ id) : (∀ g, s.twinGroupOf id = some g → doAbort id s = s.abortGroup g none) ∧
    (s.twinGroupOf id = none → doAbort id s = s) := by
  unfold doAbort
  rw [if_pos hid]
  unfold State.twinGroupOf
  exact ⟨fun g hg => by rw [hg], fun hnone => by rw [hnone]⟩

/-- A command is mirrored, or fails, as its execution is. -/
theorem exec_mirrored {s : State} {i : Instr} {op : Nat} {c : Cmd} {e : Dma} {core : State → Option (Nat × Nat × Nat) → Nat → CmdSlot → Dma → Ran}
    {r : Ran} (hexec : exec i s = .next (s.runOp op e core)) (hcore : core s (some c.own) c.func c.slot e = r) (hop : s.engineOp op = some c)
    (hmirror : s.host.mirror = none) (hpair : s.seam.pair = .paired) (hmirrored : mirroredOpcode op = true) (hwait : r.wait = false) :
    (r.status = Sts.SUCCESS →
      ∃ t m h, exec i s = .next t ∧ t.host.engine = some c ∧ t.host.mirror = some s.seam.nextId ∧ t.seam.ops = s.seam.ops ++ [m] ∧
        m.id = s.seam.nextId ∧ m.mine = true ∧ m.st = .staging ∧ m.op = .command (Fin.ofNat 16 c.func) c.slot e h ∧
        SeamSent s t (.mirror m.id m.op none) ∧ t.rows = s.rows ∧ t.tables = s.tables ∧ t.chans = s.chans ∧ t.wrd = s.wrd ∧
        t.groups = s.groups) ∧
    (r.status ≠ Sts.SUCCESS → r.later = false → ∃ t, exec i s = .next t ∧ t.owes c r.status r.result true) := by
  subst hcore
  refine ⟨fun hok => ?_, fun hfail hlater => ?_⟩
  · obtain ⟨h, target, hrun⟩ := State.runOp_mirrors hop hmirror hpair hmirrored hwait hok
    obtain ⟨m, hspec⟩ := State.mirroring_spec e h target (State.engine_of_engineOp hop)
    exact ⟨_, m, h, hexec.trans (congrArg Host.Outcome.next hrun), hspec⟩
  · exact ⟨_, hexec.trans (congrArg Host.Outcome.next (State.runOp_fails hop hmirror hwait hfail hlater)), State.owes_finish ..⟩

/-- Settles O45, message by message; sending, staging and binding one operation leave the others. -/
theorem mirroredOperations : Obligations.MirroredOperations := by
  unfold Obligations.MirroredOperations
  refine ⟨⟨fun s c d e i op r hi hop hmirror hpair hr hwait => ?_, fun s id op hplain hpair hnew => ?_,
    fun s id f c d h m r u hpair hu hm hr => ?_, fun s id handle m e f c d h r hm hst hop hengine hmirror hr hwait => ?_,
    fun s id status m hm hst => ?_, fun s id op handle status => ⟨fun hpair _ => ?_, fun hm => ?_⟩⟩,
    fun s id m hm hst => ?_, fun s id k m hm hst => ?_, fun s id k m hm hst => ?_, fun s id m k hm hst => ?_, fun s id k => ⟨fun hm i hi => ?_, fun hm => ?_⟩,
    fun s id m hid hm => ⟨fun hfree => ?_, fun hbound => ?_⟩, fun s id hid => ⟨fun g hg => ?_, fun hnone => ?_⟩⟩
  · have hcode := State.opcode_of_engineOp hop
    rcases hi with hi | ⟨kind, hi, hkind, rfl, rfl⟩
    · have hcore : ∀ core, coreOf 0 s (some c.own) c.func c.slot e = core → core = r := fun core h => h.symm.trans hr.symm
      unfold coreOf at hcore
      rw [hcode] at hcore
      simp only [List.mem_cons, Prod.mk.injEq, List.not_mem_nil, or_false] at hi
      rcases hi with ⟨rfl, rfl, rfl⟩ | ⟨rfl, rfl, rfl⟩ | ⟨rfl, rfl, rfl⟩ | ⟨rfl, rfl, rfl⟩ | ⟨rfl, rfl, rfl⟩ | ⟨rfl, rfl, rfl⟩ | ⟨rfl, rfl, rfl⟩ |
        ⟨rfl, rfl, rfl⟩ | ⟨rfl, rfl, rfl⟩ <;>
        exact exec_mirrored rfl (hcore _ rfl) hop hmirror hpair rfl hwait
    · have hcore : coreWrdOp kind s (some c.own) c.func c.slot {} = r := by
        rw [hr, ← hkind]
        unfold coreOf
        rw [hcode]
        rfl
      simp only [List.mem_cons, Prod.mk.injEq, List.not_mem_nil, or_false] at hi
      have hexec : exec i s = .next (s.runWrdOp kind) ∧ kind < 3 := by
        rcases hi with ⟨rfl, rfl⟩ | ⟨rfl, rfl⟩ | ⟨rfl, rfl⟩ <;> exact ⟨rfl, by decide⟩
      rw [State.runWrdOp_own hop hkind hexec.2] at hexec
      exact exec_mirrored hexec.1 hcore hop hmirror hpair rfl hwait
  · have hone : mirrorFlits op = 1 := by
      rcases hplain with ⟨n, v, rfl⟩ | ⟨rel, v, rfl⟩ <;> rfl
    have hexec : exec (.mirror id op none) s = .next (doMirror id op none (s.seamGot 1)) :=
      congrArg (fun n => Host.Outcome.next (doMirror id op none (s.seamGot n))) hone
    rw [hexec, doMirror_paired id op (by rw [State.pair_seamGot]; exact hpair), State.stagePeer_plain hplain,
      State.setOp_last (m := { id := id % 2 ^ 16, mine := false, op := op, target := mirrorTarget op })
        (n := { id := id % 2 ^ 16, mine := false, op := op, st := .staged, target := mirrorTarget op }) rfl
        (by rw [State.ops_seamGot]; exact hnew), State.ops_seamGot]
    rfl
  · have hexec : exec (.mirror id (.command f c d h) none) s = .next ((u.setOps (u.seam.ops ++ [m])).stagePeer m) := by
      subst hu hm
      exact congrArg Host.Outcome.next (doMirror_paired id _ (by rw [State.pair_seamGot]; exact hpair))
    obtain ⟨hwaits, hrefused, hgroup, hstaged⟩ := State.stagePeer_command (m := m) (by rw [hm]) hr
    refine ⟨_, hexec, hwaits, fun hw hfail => ?_, fun hw hok hin => ?_, hstaged⟩
    · rw [hrefused hw hfail]
      exact ⟨State.sendSeam_sent _ rfl rfl rfl rfl, fun x hx => State.key_dropOp (by rw [State.ops_sendSeam] at hx; exact hx)⟩
    · rw [hgroup hw hok hin]
      exact ⟨State.sendSeam_sent _ rfl rfl rfl rfl, fun x hx => State.key_dropOp (by rw [State.ops_sendSeam] at hx; exact hx)⟩
  · have hdo := doStaged_some (s := s.seamGot 1) (handle := handle) ((s.opOf_seamGot 1 true id).trans hm) hst hop
      ((congrArg HostIf.engine (s.host_seamGot 1)).trans hengine) ((congrArg HostIf.mirror (s.host_seamGot 1)).trans hmirror)
    refine ⟨_, congrArg Host.Outcome.next hdo, State.enterOp_agreed hr hwait, fun hok hin hlater => ?_⟩
    rw [State.enterOp_inGroup hr hwait hok hin hlater]
    exact ⟨State.owes_finish .., fun x hx => State.key_dropOp hx⟩
  · have hgot := (s.opOf_seamGot 1 true id).trans hm
    have hdrop : ((s.seamGot 1).dropOp m).seam.ops = s.seam.ops.filter fun x => x.key ≠ m.key :=
      congrArg (List.filter _) (s.ops_seamGot 1)
    refine ⟨doRefuse id status (s.seamGot 1), rfl, ?_, fun e f c d h hop hengine hmirror => ?_, fun slot hi v hop => ?_⟩
    · cases hop : m.op with
      | command f c d h => exact (congrArg Seam.ops (doRefuse_command hgot hst hop).1).trans hdrop
      | quota slot hi v =>
        rw [doRefuse_quota hgot hst hop]
        exact (congrArg Seam.ops (State.chanCause_within.same .seam).symm).trans hdrop
      | site n v =>
        rw [doRefuse_plain hgot hst (.inl ⟨n, v, hop⟩)]
        exact hdrop
      | release rel v =>
        rw [doRefuse_plain hgot hst (.inr ⟨rel, v, hop⟩)]
        exact hdrop
    · rw [(doRefuse_command hgot hst hop).2 e ((congrArg HostIf.engine (s.host_seamGot 1)).trans hengine)
        ((congrArg HostIf.mirror (s.host_seamGot 1)).trans hmirror)]
      exact State.owes_finish ..
    · rw [doRefuse_quota hgot hst hop]
      exact State.flag_chanCause _ _ _ rfl (chnStatus_key Reg.CHN_STATUS_QUOTA_ERR (by decide) slot)
  · exact congrArg Host.Outcome.next (doMirror_idle id op (by rw [State.pair_seamGot]; exact hpair))
  · rw [← s.opOf_seamGot 1] at hm
    exact ⟨congrArg Host.Outcome.next (doStaged_none handle hm), congrArg Host.Outcome.next (doRefuse_none status hm)⟩
  · obtain ⟨hproposes, hheld⟩ := doReady_staged ((s.opOf_seamGot 1 true id).trans hm) hst
    rw [State.mayAgree_seamGot, State.agreeTick_seamGot] at *
    refine ⟨doReady id (s.seamGot 1), rfl, fun hmay => ?_, hheld⟩
    obtain ⟨u, hu, hout, hcredit, hwaiting, hseq, hops⟩ := hproposes hmay
    rw [hu, State.ops_sendSeam]
    exact ⟨State.sendSeam_sent _ hcredit hwaiting hseq hout, hops⟩
  · have h := doPropose_staged k ((s.opOf_seamGot 1 false id).trans hm) hst
    rw [State.mayAgree_seamGot, State.agreeTick_seamGot] at h
    exact ⟨_, rfl, h⟩
  · obtain ⟨hmem, -, -⟩ := State.opOf_spec ((s.opOf_seamGot 1 true id).trans hm)
    exact ⟨_, congrArg Host.Outcome.next (doAgree_waiting k ((s.opOf_seamGot 1 true id).trans hm) hst), State.bound_bindOp k.toNat hmem⟩
  · obtain ⟨hmem, -, -⟩ := State.opOf_spec ((s.opOf_seamGot 1 true id).trans hm)
    exact ⟨_, execDefer_proposed ((s.opOf_seamGot 1 true id).trans hm) hst,
      ⟨{ m with st := .deferred }, State.mem_setOp (n := { m with st := .deferred }) hmem rfl, rfl, rfl⟩, rfl⟩
  · rw [← s.opOf_seamGot 1] at hm
    simp only [List.mem_cons, List.not_mem_nil, or_false] at hi
    rcases hi with rfl | rfl | rfl
    · exact congrArg Host.Outcome.next (doReady_none hm)
    · exact congrArg Host.Outcome.next (doAgree_none k hm)
    · exact execDefer_none hm
  · exact congrArg Host.Outcome.next (doPropose_none k ((s.opOf_seamGot 1 false id).trans hm))
  · exact ⟨_, rfl, (doAbort_op hid ((s.opOf_seamGot 1 false id).trans hm)).2 hfree⟩
  · exact congrArg Host.Outcome.next ((doAbort_op hid ((s.opOf_seamGot 1 false id).trans hm)).1 hbound)
  · have hgot : (s.seamGot 1).twinGroupOf id = some g := (congrArg (List.find? _) (s.groups_seamGot 1)).trans hg
    refine ⟨_, congrArg Host.Outcome.next ((doAbort_group hid).1 g hgot), ?_⟩
    rw [State.groups_abortGroup, State.groups_seamGot]
  · have hgot : (s.seamGot 1).twinGroupOf id = none := (congrArg (List.find? _) (s.groups_seamGot 1)).trans hnone
    exact congrArg Host.Outcome.next ((doAbort_group hid).2 hgot)

end Sys2Proof.Machine
end

section
/-! PROOFS. The members of the cascade (O48). -/

namespace Sys2Proof.Machine

set_option Elab.async false

/-! ## Sets of members -/

theorem foldl_add_pow (l : List Nat) (a : Nat) : l.foldl (fun a m => a + 2 ^ m) a = a + (l.map (2 ^ ·)).sum := by
  induction l generalizing a with
  | nil => rfl
  | cons m l ih => rw [List.foldl_cons, ih, List.map_cons, List.sum_cons, Nat.add_assoc]

theorem setOf_lt (l : List Nat) : setOf l < 2 ^ 16 := by
  have hsum : setOf l ≤ ((List.range 16).map (2 ^ ·)).sum := by
    unfold setOf
    rw [foldl_add_pow, Nat.zero_add]
    exact (List.filter_sublist.map _).sum_le_sum fun _ _ => Nat.zero_le _
  exact hsum.trans_lt (by decide)

/-! ## Joining and leaving -/

theorem State.joinCause_lt (s : State) (j : JoinInfo) : s.joinCause j < 8 := by
  unfold State.joinCause
  repeat' split
  all_goals decide

theorem State.takeJoin_refused {s : State} {j : JoinInfo} (h : s.joinCause j ≠ 0) :
    (s.takeJoin j).get Reg.CSC_STATUS_REFUSE_CAUSE = s.joinCause j ∧ (s.takeJoin j).csc = s.csc := by
  unfold State.takeJoin
  rw [if_pos h]
  exact ⟨((Writes.raise Ev.CSC_JOIN_REFUSED).get Reg.CSC_STATUS_REFUSE_CAUSE).trans (State.get_put_of_lt _ _ _ _ _ (s.joinCause_lt j)),
    (State.raise_within.same .csc).symm⟩

theorem State.takeJoin_taken {s : State} {j : JoinInfo} (h : s.joinCause j = 0) : s.takeJoin j =
    { s with csc := { s.csc with want := some (setOf (j.member :: membersOf s.wanted)), lost := without s.csc.lost j.member } } :=
  if_neg (not_not_intro h)

theorem State.takeLeave_live {s : State} {m : Nat} (h : s.liveSet.testBit m = true) :
    s.takeLeave m = { s with csc := { s.csc with want := some (without s.wanted m) } } := if_pos h

theorem State.takeLeave_absent {s : State} {m : Nat} (h : s.liveSet.testBit m = false) : s.takeLeave m = s := if_neg (by simp [h])

theorem State.takeLeave_rest (s : State) (m : Nat) : ∃ w, s.takeLeave m = { s with csc := { s.csc with want := w } } := by
  unfold State.takeLeave
  split
  · exact ⟨_, rfl⟩
  · exact ⟨s.csc.want, rfl⟩

/-- A lost member is remembered; the coordinator takes it out of the set to come, another member passes the notice on (R349 step 1). -/
theorem State.takeNotice_lost (s : State) (m : Fin 16) : (s.takeNotice (.lost m)).csc.lost = setOf (m.val :: membersOf s.csc.lost) ∧
    ((s.takeNotice (.lost m)).isCoord = true → s.liveSet.testBit m = true → (s.takeNotice (.lost m)).csc.want = some (without s.wanted m)) ∧
    ((s.takeNotice (.lost m)).isCoord = false → (s.takeNotice (.lost m)).out = .csc (.notice (.lost m)) :: s.out) := by
  have hrun : s.takeNotice (.lost m) = if (s.setCsc { s.csc with lost := setOf (m.val :: membersOf s.csc.lost) }).isCoord
    then (s.setCsc { s.csc with lost := setOf (m.val :: membersOf s.csc.lost) }).takeLeave m.val
    else (s.setCsc { s.csc with lost := setOf (m.val :: membersOf s.csc.lost) }).sendCsc (.notice (.lost m)) := rfl
  rw [hrun]
  split
  next hcoord =>
    obtain ⟨w, hrest⟩ := State.takeLeave_rest (s.setCsc { s.csc with lost := setOf (m.val :: membersOf s.csc.lost) }) m.val
    have hkeeps : ((s.setCsc { s.csc with lost := setOf (m.val :: membersOf s.csc.lost) }).takeLeave m.val).isCoord = true := by
      rw [hrest]
      exact hcoord
    refine ⟨by rw [hrest]; rfl, fun _ hlive => ?_, fun hnot => absurd (hkeeps.symm.trans hnot) nofun⟩
    rw [State.takeLeave_live (s := s.setCsc { s.csc with lost := setOf (m.val :: membersOf s.csc.lost) }) hlive]
    rfl
  next hnot => exact ⟨rfl, fun h => absurd h hnot, fun _ => rfl⟩

theorem execCscTicksMissed_lost {s : State} {m : Fin 16} (l : Link) (hring : s.inRing = true) (hcascaded : s.cascaded = true)
    (hl : (l = .up ∧ m.val = s.neighbour false % 16) ∨ (l = .down ∧ m.val = s.neighbour true % 16)) :
    execCscTicksMissed l s = .next (s.takeNotice (.lost m)) := by
  have hlost : ∀ down, m.val = s.neighbour down % 16 → s.cscLost down = s.takeNotice (.lost m) := fun down hm => by
    unfold State.cscLost
    rw [if_pos ⟨hring, hcascaded⟩, show (Fin.ofNat 16 (s.neighbour down)) = m from Fin.ext hm.symm]
  rcases hl with ⟨rfl, hm⟩ | ⟨rfl, hm⟩
  · exact congrArg Host.Outcome.next (hlost false hm)
  · exact congrArg Host.Outcome.next (hlost true hm)

/-! ## A membership change -/

theorem doAck_waiting {s : State} {m : Fin 16} {c : CscChange} (hring : s.inRing = true) (hcoord : s.isCoord = true)
    (hchange : s.csc.change = some c) :
    (c.bound = true → (doAck m s).out = s.out) ∧
    (c.bound = false →
      ((∀ x ∈ membersOf c.live, x = m.val ∨ x ∈ c.acks) → (doAck m s).out = .csc .commit :: s.out ∧
        ∃ e, (doAck m s).csc.change = some e ∧ e.bound = true ∧ e.live = c.live ∧ e.k = c.k) ∧
      ((∃ x ∈ membersOf c.live, x ≠ m.val ∧ x ∉ c.acks) → (doAck m s).out = s.out ∧
        ∃ e, (doAck m s).csc.change = some e ∧ e.bound = false ∧ m.val ∈ e.acks)) := by
  unfold doAck
  rw [if_neg (by simp [hring]), if_neg (by simp [hcoord]), hchange]
  dsimp only
  generalize ha : (if c.acks.contains m.val then c.acks else m.val :: c.acks) = a
  have hmem : ∀ x, x ∈ a ↔ x = m.val ∨ x ∈ c.acks := fun x => by
    rw [← ha]
    split
    next h => exact ⟨.inr, fun hx => hx.elim (fun h' => h' ▸ List.contains_iff_mem.1 h) id⟩
    next => exact List.mem_cons
  have hall : ((membersOf c.live).all fun x => a.contains x) = true ↔ ∀ x ∈ membersOf c.live, x = m.val ∨ x ∈ c.acks := by
    simp only [List.all_eq_true, List.contains_iff_mem, hmem]
  refine ⟨fun hbound => ?_, fun hfree => ⟨fun hevery => ?_, fun ⟨x, hx, hne, hnot⟩ => ?_⟩⟩
  · rw [if_neg (by simp [hbound])]
    rfl
  · rw [hall.2 hevery, if_pos (by simp [hfree])]
    exact ⟨rfl, _, rfl, by simp, rfl, rfl⟩
  · have hmissing : ((membersOf c.live).all fun x => a.contains x) = false :=
      Bool.eq_false_iff.2 fun h => (hall.1 h x hx).elim hne hnot
    rw [hmissing, if_neg (by simp)]
    exact ⟨rfl, _, rfl, by simp [hfree], (hmem _).2 (.inl rfl)⟩

theorem doCommit_free {s : State} {c : CscChange} (hring : s.inRing = true) (hchange : s.csc.change = some c) (hfree : c.bound = false) :
    doCommit s = (s.setCsc { s.csc with change := some { c with bound := true } }).sendCsc .commit := by
  unfold doCommit
  rw [hchange]
  exact if_pos ⟨hring, hfree⟩

theorem doCommit_idle {s : State} (h : s.inRing = true → ∀ c, s.csc.change = some c → c.bound = true) : doCommit s = s := by
  unfold doCommit
  split
  next c hc => exact if_neg fun hfree => by simp [h hfree.1 c hc] at hfree
  next => rfl

theorem State.leaveFollower_writes (s : State) (ext : Bool) :
    Writes [Reg.TCK_CTRL_SRC.key, Reg.TCK_STATUS_LOST.key, Reg.TCK_PERIOD_PERIOD.key] s (s.leaveFollower ext) := by
  unfold State.leaveFollower
  dsimp only
  refine .ite (.of_regs rfl) (.ite ?_ ?_)
  · exact ((Writes.of_regs rfl).step (Writes.put Reg.TCK_CTRL_SRC 1 0 0)).step (Writes.put Reg.TCK_STATUS_LOST 1 0 0)
  · exact (((Writes.of_regs rfl).step (Writes.put Reg.TCK_CTRL_SRC 0 0 0)).step (Writes.put Reg.TCK_PERIOD_PERIOD s.period 0 0)).step
      (Writes.put Reg.TCK_STATUS_LOST 0 0 0)

/-- The live set that a change to a new set gives (R351). -/
def State.newLive (s : State) (new : Nat) : Nat := setOf ((membersOf new).filter fun m => (s.chain new).contains m)

/-- What a change writes after the live set and its boundary. -/
def changeKeys : List Nat :=
  [Reg.CSC_STATUS_STATE.key, Reg.CSC_STATUS_COORD.key, Reg.CSC_STATUS_POSITIONS.key, Reg.CSC_STATUS_SLICE_MISSING.key, Reg.CSC_STATUS_WRAP_UP.key,
    Reg.CSC_STATUS_WRAP_DOWN.key, Reg.CSC_CNT_CHANGE_COUNT.key, Reg.TCK_CTRL_SRC.key, Reg.TCK_STATUS_LOST.key, Reg.TCK_PERIOD_PERIOD.key,
    Reg.TCK_LATENCY_SPAN.key, Reg.TCK_LATENCY_LMIN.key]

theorem State.applyLive_writes (s : State) (new : Nat) (k : Tick) :
    Writes changeKeys (((s.setCsc { s.csc with flight := [], change := none, gone := s.csc.lost }).put Reg.CSC_LIVE_LIVE (s.newLive new)).put
      Reg.CSC_LIVE_AGREED k) (s.applyLive new k) := by
  unfold State.applyLive
  extract_lets _ ch live on head t u v w x y
  have hx : Writes changeKeys ((t.put Reg.CSC_LIVE_LIVE live).put Reg.CSC_LIVE_AGREED k) x :=
    (((((((Writes.refl.step (Writes.put Reg.CSC_STATUS_STATE (if on then 2 else 1) 0 0) (by simp [changeKeys])).step
      (Writes.put Reg.CSC_STATUS_COORD head 0 0) (by simp [changeKeys])).step
      (Writes.put Reg.CSC_STATUS_POSITIONS ch.length 0 0) (by simp [changeKeys])).step
      (Writes.putB Reg.CSC_STATUS_SLICE_MISSING u.sliceMissing 0 0) (by simp [changeKeys])).step
      (Writes.putB Reg.CSC_STATUS_WRAP_UP (on && s.csc.lost != 0 && s.csc.up.st != .up) 0 0) (by simp [changeKeys])).step
      (Writes.putB Reg.CSC_STATUS_WRAP_DOWN (on && s.csc.lost != 0 && s.csc.dn.st != .up) 0 0) (by simp [changeKeys])).step
      (Writes.bump Reg.CSC_CNT_CHANGE_COUNT 1 0 0) (by simp [changeKeys])).step (Writes.raise Ev.CSC_CHANGE)
  have hy : Writes changeKeys ((t.put Reg.CSC_LIVE_LIVE live).put Reg.CSC_LIVE_AGREED k) y :=
    .ite (hx.step (State.leaveFollower_writes _ _) (by simp [changeKeys])) hx
  exact hy.step (State.showLatency_writes _) (by simp [changeKeys])

theorem State.applyLive_spec (s : State) (new : Nat) (k : Tick) :
    (s.applyLive new k).csc = { s.csc with flight := [], change := none, gone := s.csc.lost } ∧
    (s.applyLive new k).liveSet = s.newLive new ∧ (s.applyLive new k).get Reg.CSC_LIVE_AGREED = k % 2 ^ 48 := by
  have hwrites := s.applyLive_writes new k
  refine ⟨?_, ?_, ?_⟩
  · have hcsc : Within [.out, .regs, .boot, .tick, .host] (s.setCsc { s.csc with flight := [], change := none, gone := s.csc.lost })
        (s.applyLive new k) := by
      unfold State.applyLive
      extract_lets _ ch live on head t u v w x y
      have hx : Within [.out, .regs, .boot, .tick, .host] t x :=
        ((((((((((Within.refl.step State.put_within).step State.put_within).step State.put_within).step State.put_within).step
          State.put_within).step State.putB_within).step State.putB_within).step State.putB_within).step State.bump_within).step
          State.raise_within)
      exact (Within.ite (hx.step State.leaveFollower_within) hx).step State.showLatency_within
    exact (hcsc.same .csc).symm
  · refine (hwrites.get Reg.CSC_LIVE_LIVE).trans ?_
    rw [State.get_put_ne _ _ _ _ _ _ _ _ (by decide)]
    exact State.get_put_of_lt _ _ _ _ _ (setOf_lt _)
  · exact (hwrites.get Reg.CSC_LIVE_AGREED).trans (State.get_put_same ..)

theorem State.newLive_unbroken {s : State} (new : Nat) (hlost : s.csc.lost = 0) :
    s.newLive new = setOf ((membersOf new).filter fun m => (membersOf s.ring).contains m) := by
  unfold State.newLive State.chain
  rw [if_pos hlost]

/-- A member without COMMIT asks to join again; a live one leaves (R349 step 3). -/
theorem State.missCommit_spec (s : State) : s.missCommit.csc.change = none ∧ s.missCommit.out = .csc .joinReq :: s.out ∧
    (s.cascaded = true → s.missCommit.liveSet = without s.liveSet s.member ∧ s.missCommit.cascaded = false) := by
  unfold State.missCommit
  dsimp only
  split
  next hcascaded =>
    generalize ht : ((s.setCsc { s.csc with change := none }).put Reg.CSC_LIVE_LIVE (without s.liveSet s.member)) = t
    have hkeep := State.showLatency_within (s := (t.put Reg.CSC_STATUS_STATE 1).sendCsc .joinReq)
    have hwrites := State.showLatency_writes ((t.put Reg.CSC_STATUS_STATE 1).sendCsc .joinReq)
    refine ⟨?_, ?_, fun _ => ⟨?_, ?_⟩⟩
    · rw [← hkeep.same .csc, ← ht]
      rfl
    · rw [← hkeep.same .out, ← ht]
      rfl
    · refine (hwrites.get Reg.CSC_LIVE_LIVE).trans ?_
      have hput : ((t.put Reg.CSC_STATUS_STATE 1).sendCsc .joinReq).get Reg.CSC_LIVE_LIVE = t.get Reg.CSC_LIVE_LIVE :=
        State.get_put_ne t Reg.CSC_STATUS_STATE Reg.CSC_LIVE_LIVE 1 0 0 0 0 (by decide)
      rw [hput, ← ht]
      exact State.get_put_of_lt _ _ _ _ _ (setOf_lt _)
    · have hstate : ((t.put Reg.CSC_STATUS_STATE 1).sendCsc .joinReq).showLatency.get Reg.CSC_STATUS_STATE = 1 :=
        (hwrites.get Reg.CSC_STATUS_STATE).trans (State.get_put_of_lt t Reg.CSC_STATUS_STATE 1 0 0 (by decide))
      unfold State.cascaded
      rw [hstate]
      rfl
  next hnot => exact ⟨rfl, rfl, fun h => absurd h hnot⟩

theorem doMembershipApply_early {s : State} (h : s.inRing = true → ∀ c, s.csc.change = some c → tickLe c.k s.tick.now = false) :
    doMembershipApply s = s := by
  unfold doMembershipApply
  split
  next => rfl
  next c hc =>
    refine if_pos ?_
    by_cases hring : s.inRing = false
    · exact .inl hring
    · exact .inr (h (by simpa using hring) c hc)

theorem doMembershipApply_due {s : State} {c : CscChange} (hring : s.inRing = true) (hchange : s.csc.change = some c)
    (hdue : tickLe c.k s.tick.now = true) : doMembershipApply s = if c.bound then s.applyLive c.live c.k else s.missCommit := by
  unfold doMembershipApply
  rw [hchange]
  exact if_neg (by simp [hring, hdue])

/-! ## CSC_SLICE -/

theorem doCscSliceWrite_free {s : State} {n : Fin 64} {lo hi : BitVec 24} (h : ∀ r ∈ s.rows, r.tbl ≠ n.val) :
    (doCscSliceWrite n lo hi s).get Reg.CSC_SLICE_LO n = lo.toNat ∧ (doCscSliceWrite n lo hi s).get Reg.CSC_SLICE_HI n = hi.toNat := by
  have hrun : doCscSliceWrite n lo hi s = (s.put Reg.CSC_SLICE_LO lo.toNat n.val).put Reg.CSC_SLICE_HI hi.toNat n.val :=
    if_neg (by simpa using h)
  rw [hrun]
  refine ⟨?_, State.get_put_of_lt _ _ _ _ _ hi.isLt⟩
  rw [State.get_put_ne _ _ _ _ _ _ _ _ (by simp only [Field.key, Reg.CSC_SLICE_LO, Reg.CSC_SLICE_HI]; omega)]
  exact State.get_put_of_lt _ _ _ _ _ lo.isLt

theorem doCscSliceWrite_held {s : State} {n : Fin 64} {lo hi : BitVec 24} (h : ∃ r ∈ s.rows, r.tbl = n.val) :
    (doCscSliceWrite n lo hi s).get Reg.CSC_SLICE_LO n = s.get Reg.CSC_SLICE_LO n ∧
    (doCscSliceWrite n lo hi s).get Reg.CSC_SLICE_HI n = s.get Reg.CSC_SLICE_HI n ∧
    (doCscSliceWrite n lo hi s).flag Reg.CSC_STATUS_CFG_ERR = true := by
  have hrun : doCscSliceWrite n lo hi s = s.put Reg.CSC_STATUS_CFG_ERR 1 := if_pos (by simpa using h)
  rw [hrun]
  exact ⟨State.get_put_ne _ _ _ _ _ _ _ _ (by simp only [Field.key, Reg.CSC_SLICE_LO, Reg.CSC_STATUS_CFG_ERR]; omega),
    State.get_put_ne _ _ _ _ _ _ _ _ (by simp only [Field.key, Reg.CSC_SLICE_HI, Reg.CSC_STATUS_CFG_ERR]; omega),
    State.flag_put_one _ _ _ _ rfl⟩

/-- Outside the ring the cascade's messages change nothing (R350). -/
theorem exec_outsideRing {s : State} {i : Instr} (hring : s.inRing = false)
    (hi : i ∈ [Instr.cscLeave, .cscJoin, .commit, .membershipApply] ∨ (∃ l, i = .cscTicksMissed l) ∨ (∃ n, i = .notice n) ∨
       (∃ j, i = .joinReq j) ∨ (∃ m, i = .cscBye m) ∨ (∃ m, i = .ack m) ∨ (∃ l k, i = .cscPropose l k) ∨
       (∃ f, i = .learnToken f) ∨ (∃ f, i = .tallyToken f) ∨ ∃ d f, i = .lookupToken d f) : exec i s = .next s := by
  have hnot : ¬ s.inRing = true := by simp [hring]
  rcases hi with hi | ⟨l, rfl⟩ | ⟨n, rfl⟩ | ⟨j, rfl⟩ | ⟨m, rfl⟩ | ⟨m, rfl⟩ | ⟨l, k, rfl⟩ | ⟨f, rfl⟩ | ⟨f, rfl⟩ | ⟨d, f, rfl⟩
  · simp only [List.mem_cons, List.not_mem_nil, or_false] at hi
    rcases hi with rfl | rfl | rfl | rfl
    · exact congrArg Host.Outcome.next (if_neg fun h => hnot h.1)
    · exact congrArg Host.Outcome.next (if_neg hnot)
    · exact congrArg Host.Outcome.next (doCommit_idle fun h => absurd h hnot)
    · exact congrArg Host.Outcome.next (doMembershipApply_early fun h => absurd h hnot)
  · have hlost : ∀ down, s.cscLost down = s := fun down => if_neg fun h => hnot h.1
    cases l with
    | up => exact congrArg Host.Outcome.next (hlost false)
    | down => exact congrArg Host.Outcome.next (hlost true)
    | port p => rfl
    | seam => rfl
  · exact congrArg Host.Outcome.next (if_neg hnot)
  · exact congrArg Host.Outcome.next (if_neg hnot)
  · exact congrArg Host.Outcome.next (if_neg hnot)
  · exact congrArg Host.Outcome.next (if_pos hring)
  · exact congrArg Host.Outcome.next (if_pos (.inl hring))
  · exact congrArg Host.Outcome.next (if_pos (.inl hring))
  · exact congrArg Host.Outcome.next (if_pos (.inl hring))
  · have hdo : doLookupToken d (tokenOf f) s = s := if_pos hring
    exact congrArg Host.Outcome.next (by rw [hdo, ite_self])

/-- Settles O48, by whether the member is the coordinator, and by the change that it holds. -/
theorem cascadeMembership : Obligations.CascadeMembership := by
  unfold Obligations.CascadeMembership
  refine ⟨⟨fun s j i hi hring => ?_, fun s m i hi hring => ?_, fun s m i hi hring => ?_, fun s hring hcascaded => ?_,
      fun s hring => ⟨fun hnot => ?_, fun hcoord => ?_⟩, fun s i hring hi => exec_outsideRing hring hi⟩,
    fun s live k hring => ?_, fun s m hring => ?_, fun s hring => ⟨fun c hchange hfree => ?_, fun hbound => ?_⟩,
    fun s hring => ⟨fun hearly => ?_, fun c hchange hdue => ?_⟩, fun s n lo hi => ⟨fun hm => ?_, fun hm => ?_⟩⟩
  · have hexec : exec i s = .next (s.takeNotice (.join j)) := by
      simp only [List.mem_cons, List.not_mem_nil, or_false] at hi
      rcases hi with rfl | rfl <;> exact congrArg Host.Outcome.next (if_pos hring)
    have htake : s.isCoord = true → s.takeNotice (.join j) = s.takeJoin j := fun h => if_pos h
    refine ⟨_, hexec, fun hcoord hok => ?_, fun hcoord hcause => ?_, fun hnot => if_neg (by simp [hnot])⟩
    · rw [htake hcoord, State.takeJoin_taken hok]
    · rw [htake hcoord]
      exact State.takeJoin_refused hcause
  · have hexec : exec i s = .next (s.takeNotice (.bye m)) := by
      simp only [List.mem_cons, List.not_mem_nil, or_false] at hi
      rcases hi with rfl | rfl <;> exact congrArg Host.Outcome.next (if_pos hring)
    refine ⟨_, hexec, fun hcoord hlive => (if_pos hcoord).trans (State.takeLeave_live hlive),
      fun hcoord hout => (if_pos hcoord).trans (State.takeLeave_absent hout), fun hnot hother => if_neg fun h => h.elim (by simp [hnot]) hother⟩
  · have hexec : exec i s = .next (s.takeNotice (.lost m)) := by
      rcases hi with rfl | ⟨hcascaded, ⟨rfl, hl⟩ | ⟨rfl, hl⟩⟩
      · exact congrArg Host.Outcome.next (if_pos hring)
      · exact execCscTicksMissed_lost .up hring hcascaded (.inl ⟨rfl, hl⟩)
      · exact execCscTicksMissed_lost .down hring hcascaded (.inr ⟨rfl, hl⟩)
    exact ⟨_, hexec, s.takeNotice_lost m⟩
  · have hexec : exec .cscLeave s = .next (if s.isCoord then (s.sendCsc (.bye s.member)).takeLeave s.member else s.sendCsc (.bye s.member)) :=
      congrArg Host.Outcome.next (if_pos ⟨hring, hcascaded⟩)
    refine ⟨_, hexec, ?_, fun hcoord hlive => ?_, fun hnot => by rw [if_neg (by simp [hnot])]; rfl⟩
    · split
      · obtain ⟨w, hrest⟩ := (s.sendCsc (.bye s.member)).takeLeave_rest s.member
        rw [hrest]
        rfl
      · rfl
    · rw [if_pos hcoord, State.takeLeave_live (s := s.sendCsc (.bye s.member)) hlive]
      rfl
  · exact congrArg Host.Outcome.next ((if_pos hring).trans (if_neg (by simp [hnot])))
  · refine ⟨_, congrArg Host.Outcome.next ((if_pos hring).trans (if_pos hcoord)), fun hok => ?_, State.takeJoin_refused⟩
    rw [State.takeJoin_taken hok]
  · have hexec : s.isCoord = false → exec (.cscPropose live k) s =
        .next (if live.toNat.testBit s.member then ((s.setCsc { s.csc with change := some { live := live.toNat, k := k.toNat } }).sendCsc
          (.propose live.toNat k.toNat)).sendCsc (.ack s.member) else (s.setCsc { s.csc with change := some { live := live.toNat, k := k.toNat } }).sendCsc
          (.propose live.toNat k.toNat)) := fun hnot => congrArg Host.Outcome.next (if_neg (by simp [hring, hnot]))
    cases hcoord : s.isCoord with
    | true => exact ⟨s, congrArg Host.Outcome.next (if_pos (.inr hcoord)), fun _ => rfl, nofun⟩
    | false =>
      refine ⟨_, hexec hcoord, nofun, fun _ => ?_⟩
      split
      · exact ⟨rfl, rfl⟩
      · exact ⟨rfl, rfl⟩
  · refine ⟨doAck m s, rfl, fun hnot => ?_, fun hcoord hnone => ?_, fun c hcoord hchange => (doAck_waiting hring hcoord hchange).1,
      fun c hcoord hchange => (doAck_waiting hring hcoord hchange).2⟩
    · exact (if_neg (by simp [hring])).trans (if_pos hnot)
    · refine (if_neg (by simp [hring])).trans ((if_neg (by simp [hcoord])).trans ?_)
      rw [hnone]
  · exact congrArg Host.Outcome.next (doCommit_free hring hchange hfree)
  · exact congrArg Host.Outcome.next (doCommit_idle fun _ => hbound)
  · exact congrArg Host.Outcome.next (doMembershipApply_early fun _ => hearly)
  · refine ⟨_, congrArg Host.Outcome.next (doMembershipApply_due hring hchange hdue), ?_, fun hbound => ?_, fun hfree => ?_⟩
    · split
      · rw [(s.applyLive_spec c.live c.k).1]
      · exact s.missCommit_spec.1
    · rw [if_pos hbound]
      obtain ⟨hcsc, hlive, hagreed⟩ := s.applyLive_spec c.live c.k
      exact ⟨by rw [hcsc], hagreed, fun hlost => hlive.trans (State.newLive_unbroken c.live hlost)⟩
    · rw [if_neg (by simp [hfree])]
      exact s.missCommit_spec.2
  · exact congrArg Host.Outcome.next (if_neg hm)
  · have hexec : exec (.cscSliceWrite n lo hi) s = .next (doCscSliceWrite n lo hi s.touchIdle) := congrArg Host.Outcome.next (if_pos hm)
    refine ⟨_, hexec, fun hfree => doCscSliceWrite_free (s := s.touchIdle) hfree, fun hheld => ?_⟩
    exact doCscSliceWrite_held (s := s.touchIdle) hheld

end Sys2Proof.Machine
end

section
/-! PROOFS. The tokens of the cascade and their merge (O47). -/

namespace Sys2Proof.Machine

set_option Elab.async false

/-! ## A search leaves the cascade's count of searches -/

/-- The count of searched tokens stands. -/
def KeepsSearched (s t : State) : Prop := t.get Reg.CSC_CNT_SEARCHED_COUNT = s.get Reg.CSC_CNT_SEARCHED_COUNT

namespace KeepsSearched

variable {s t u : State}

theorem refl : KeepsSearched s s := rfl

theorem trans (h : KeepsSearched s t) (k : KeepsSearched t u) : KeepsSearched s u := Eq.trans k h

theorem of_writes (h : Writes [] s t) : KeepsSearched s t := h.get Reg.CSC_CNT_SEARCHED_COUNT

theorem of_regs (h : s.regs = t.regs) : KeepsSearched s t := of_writes (.of_regs h)

theorem ite {c : Prop} [Decidable c] (h : KeepsSearched s t) (k : KeepsSearched s u) : KeepsSearched s (if c then t else u) := by
  split
  · exact h
  · exact k

/-- A field of a gallery lies below. -/
theorem put (F : Field) (v : Nat) {g : Nat} (hg : g < 8) (hF : F.key 7 < Reg.CSC_CNT_SEARCHED_COUNT.key := by decide) :
    KeepsSearched s (s.put F v g) := by
  refine State.get_put_ne _ _ _ _ _ _ _ _ (Nat.ne_of_lt (Nat.lt_of_le_of_lt ?_ hF))
  have hmono : F.st1 * g ≤ F.st1 * 7 := Nat.mul_le_mul_left _ (by omega)
  simp only [Field.key]
  omega

theorem bump (F : Field) (n : Nat) {g : Nat} (hg : g < 8) (hF : F.key 7 < Reg.CSC_CNT_SEARCHED_COUNT.key := by decide) :
    KeepsSearched s (s.bump F n g) := put F _ hg hF

theorem foldl {α : Type} {f : State → α → State} {l : List α} (hf : ∀ t, ∀ a ∈ l, KeepsSearched t (f t a)) : KeepsSearched s (l.foldl f s) :=
  List.foldlRecOn (motive := KeepsSearched s) _ _ refl fun t h a ha => h.trans (hf t a ha)

end KeepsSearched

theorem State.makeSuspect_keepsSearched (s : State) (g x : Nat) : KeepsSearched s (s.makeSuspect g x) := by
  have hset : KeepsSearched s (s.setDrawer g x { s.drawer g x with suspect := true }) := .of_regs rfl
  unfold State.makeSuspect
  exact .ite .refl ((hset.trans (.put Reg.CUR_STATUS_SUSPECT 1 (by decide : 0 < 8))).trans (.of_writes (Writes.raise Ev.DRAWER_SUSPECT)))

theorem State.countReject_keepsSearched (s : State) (g x : Nat) : KeepsSearched s (s.countReject g x) := by
  unfold State.countReject
  dsimp only
  generalize ht : s.setDrawer g x _ = t
  have hset : KeepsSearched s t := by
    rw [← ht]
    exact .of_regs rfl
  exact .ite (hset.trans (t.makeSuspect_keepsSearched g x)) hset

theorem State.noteCandidate_keepsSearched (s : State) {g : Nat} (w : Nat) (r : Row) (o : Confirm) (hg : g < 8) :
    KeepsSearched s (s.noteCandidate g w r o) := by
  have hrefresh : KeepsSearched s (if r.loc.isDrawer then (s.corrects (r.physRows w) 2).foldl State.queueRefresh s else s) :=
    .ite (.foldl fun t k _ => .of_writes (.of_within State.queueRefresh_within)) .refl
  unfold State.noteCandidate
  dsimp only
  generalize (if r.loc.isDrawer then (s.corrects (r.physRows w) 2).foldl State.queueRefresh s else s) = q at hrefresh ⊢
  split
  · have hconfirm := hrefresh.trans (KeepsSearched.bump Reg.GAL_CNT_CONFIRM_COUNT 1 hg)
    exact .ite hconfirm (hconfirm.trans (.bump Reg.GAL_CNT_CORR_COUNT 1 hg))
  · have hreject := (hrefresh.trans (.bump Reg.GAL_CNT_REJECT_COUNT 1 hg)).trans (.put Reg.GAL_STATUS_REJECT 1 hg)
    have hqueued := ((KeepsSearched.ite (c := o = .uncorrectable) (hreject.trans (.bump Reg.GAL_CNT_UNCORR_COUNT 1 hg)) hreject).trans
      (.of_regs rfl : KeepsSearched _ (State.queueScrub _ (r.physRows w)))).trans (.of_writes (Writes.raiseEp (Ev.CONFIRM_REJECT g) 0))
    split
    · exact hqueued.trans (State.countReject_keepsSearched ..)
    · exact hqueued

/-- A scan so far: the count stands, and the galleries it lists exist. -/
def Scan.sound (s : State) (a : Scan) : Prop := KeepsSearched s a.s ∧ (∀ g ∈ a.uncGals, g < 8) ∧ ∀ g ∈ a.lost, g < 8

theorem Scan.sound_area {s : State} {a : Scan} {t rmode w : Nat} {key : BitVec 640} {g : Nat} {rows : List Row} {whole : List Nat} (hg : g < 8)
    (h : Scan.sound s a) : Scan.sound s (a.area t rmode w key g rows whole) := by
  obtain ⟨hkeeps, hunc, hlost⟩ := h
  have hcons : ∀ (l : List Nat) (c : Prop) [Decidable c], (∀ x ∈ l, x < 8) → ∀ x ∈ if c then g :: l else l, x < 8 := fun l c _ hl x hx => by
    split at hx
    · exact (List.mem_cons.1 hx).elim (fun he => he ▸ hg) (hl x)
    · exact hl x hx
  have hnoted : ∀ outs : List (Row × Confirm), KeepsSearched a.s (outs.foldl (fun x o => x.noteCandidate g w o.1 o.2) a.s) := fun outs =>
    .foldl fun x o _ => x.noteCandidate_keepsSearched w o.1 o.2 hg
  unfold Scan.area
  extract_lets lines cands outs good bad u unc v
  have hv : KeepsSearched a.s v := .ite ((hnoted outs).trans (.of_regs rfl)) (hnoted outs)
  clear_value v unc bad good
  exact ⟨hkeeps.trans hv, hcons a.uncGals _ hunc, hcons a.lost _ hlost⟩

theorem Scan.sound_gallery {s : State} {a : Scan} {t : Nat} {d : Table} {key : BitVec 640} {n : Tick} {g : Nat} {units : List Nat} (hg : g < 8)
    (h : Scan.sound s a) : Scan.sound s (a.gallery t d key n g units) := by
  unfold Scan.gallery
  dsimp only
  split
  · exact List.foldlRecOn (motive := Scan.sound s) _ _ h fun x hx c _ => Scan.sound_area hg hx
  · exact List.foldlRecOn (motive := Scan.sound s) _ _
      (List.foldlRecOn (motive := Scan.sound s) _ _ h fun x hx u _ => Scan.sound_area hg hx) fun x hx c _ => Scan.sound_area hg hx

theorem State.scan_keepsSearched {s : State} {t : Nat} {d : Table} {key : BitVec 640} {n : Tick} {sel : List (Nat × List Nat)} {skip : List Nat}
    (hsel : ∀ e ∈ sel, e.1 < 8) (hskip : ∀ g ∈ skip, g < 8) : KeepsSearched s (s.scan t d key n sel skip).s := by
  have hscan : Scan.sound s (sel.foldl (fun (x : Scan) e => x.gallery t d key n e.1 e.2) { s := s }) :=
    List.foldlRecOn (motive := Scan.sound s) _ _ ⟨.refl, by simp, by simp⟩ fun x hx e he => Scan.sound_gallery (hsel e he) hx
  unfold State.scan
  dsimp only
  generalize List.foldl _ _ sel = a at hscan ⊢
  obtain ⟨hkeeps, hunc, hlost⟩ := hscan
  have hmarked : KeepsSearched s ((a.uncGals ++ skip).eraseDups.foldl
      (fun x g => (x.bump Reg.GAL_CNT_UNCERTAIN_COUNT 1 g).put Reg.GAL_STATUS_UNCERTAIN 1 g) a.s) := by
    refine hkeeps.trans (.foldl fun x g hg => ?_)
    have hg8 : g < 8 := (List.mem_append.1 (List.mem_eraseDups.1 hg)).elim (hunc g) (hskip g)
    exact (KeepsSearched.bump Reg.GAL_CNT_UNCERTAIN_COUNT 1 hg8).trans (.put Reg.GAL_STATUS_UNCERTAIN 1 hg8)
  refine KeepsSearched.trans (.ite hmarked (hmarked.trans (.of_writes (Writes.raiseEp (Ev.UNCERTAIN t) 0)))) (.foldl fun x g hg => ?_)
  exact .bump Reg.GAL_CNT_SPILL_LOST_COUNT 1 (hlost g (List.mem_eraseDups.1 hg))

theorem State.countSearch_keepsSearched (s : State) (n : Tick) {l : LookupPlan} (hsel : ∀ e ∈ l.sel, e.1 < 8) : KeepsSearched s (s.countSearch n l) := by
  unfold State.countSearch
  refine .foldl fun t e he => ?_
  exact ((KeepsSearched.bump Reg.GAL_CNT_SEARCH_COUNT 1 (hsel e he)).trans (.bump Reg.GAL_CNT_ACT_COUNT _ (hsel e he))).trans (.of_regs rfl)

theorem Table.mem_galList_lt {d : Table} {g : Nat} (h : g ∈ d.galList) : g < 8 := List.mem_range.1 (List.mem_filter.1 h).1

theorem State.selectUnits_galleries (s : State) (bays : List Bay) (broad : List Broad) (t : Nat) (d : Table) (key : BitVec 640) :
    (∀ e ∈ (s.selectUnits bays broad t d key).1, e.1 < 8) ∧ ∀ g ∈ (s.selectUnits bays broad t d key).2, g < 8 := by
  have hall : ∀ e ∈ d.galList.map fun g => (g, unitsFor bays broad g t (d.code key)), e.1 < 8 := fun e he => by
    obtain ⟨g, hg, rfl⟩ := List.mem_map.1 he
    exact Table.mem_galList_lt hg
  refine ⟨fun e he => ?_, fun g hg => ?_⟩
  · obtain ⟨x, hx, rfl⟩ := List.mem_map.1 he
    exact hall x hx
  · obtain ⟨x, hx, rfl⟩ := List.mem_map.1 hg
    exact hall x (List.mem_filter.1 hx).1

/-! ## LOOKUP tokens -/

/-- A member's own result never takes a candidate or a count from the token (R344 step 2). -/
theorem mergeToken_grows (ranked : Bool) (tok own : Token) (hcount : tok.count ≤ 4194303) :
    (tok.found = true → (mergeToken ranked tok own).found = true) ∧ tok.count ≤ (mergeToken ranked tok own).count :=
  ⟨fun h => by simp [mergeToken, h], Nat.le_min.2 ⟨Nat.le_add_right _ _, hcount⟩⟩

theorem State.searchToken_spec {s : State} {k : Token} {d : Table} (htable : s.table k.tbl = some d) (hcascaded : d.cascaded = true)
    (hcount : k.count ≤ 4194303) :
    ∃ (u : State) (x : Token), s.searchToken k = (u, x) ∧ x.seen = (k.seen + 1) % 16 ∧ x.visited = k.visited ||| 2 ^ s.member ∧
      (k.found = true → x.found = true) ∧ k.count ≤ x.count ∧ x.key = k.key ∧ x.origin = k.origin ∧ x.tok = k.tok ∧
      u.get Reg.CSC_CNT_SEARCHED_COUNT = min (s.get Reg.CSC_CNT_SEARCHED_COUNT + 1) Reg.CSC_CNT_SEARCHED_COUNT.max := by
  unfold State.searchToken
  rw [htable]
  dsimp only
  rw [if_neg (by simp [hcascaded])]
  obtain ⟨hsel, hskip⟩ := s.selectUnits_galleries (s.mapAt (planTick s.tick.now k.ptick)).1 (s.mapAt (planTick s.tick.now k.ptick)).2 k.tbl d k.key
  generalize s.selectUnits _ _ k.tbl d k.key = sel at hsel hskip ⊢
  have hkeeps := (s.countSearch_keepsSearched (planTick s.tick.now k.ptick) (l := { tbl := k.tbl, width := k.width, sel := sel.1, key := k.key }) hsel).trans
    (State.scan_keepsSearched (t := k.tbl) (d := d) (key := k.key) (n := planTick s.tick.now k.ptick) hsel hskip)
  generalize State.scan _ k.tbl d k.key _ sel.1 sel.2 = a at hkeeps ⊢
  obtain ⟨hfound, hmore⟩ := mergeToken_grows d.ranked k (a.token d d.rmode) hcount
  exact ⟨_, _, rfl, rfl, rfl, hfound, hmore, rfl, rfl, rfl, by rw [State.get_bump_same, hkeeps]⟩

theorem tokenOf_count_le (flits : List Flit) : (tokenOf flits).count ≤ 4194303 :=
  Nat.le_of_lt_succ (Nat.mod_lt _ (by decide : 0 < 2 ^ 22))

theorem doLookupToken_search {s : State} {down : Bool} {k : Token} (hring : s.inRing = true) (hcascaded : s.cascaded = true)
    (horigin : k.origin ≠ s.member) (hlive : s.liveSet.testBit k.origin = true)
    (hlater : tickLater (s.get Reg.CSC_LIVE_AGREED) (planTick s.tick.now k.ptick) = false) (hnew : k.visited.testBit s.member = false) :
    doLookupToken down k s = (s.searchToken k).1.forwardToken down (s.searchToken k).2 := by
  unfold doLookupToken
  rw [if_neg (by simp [hring]), if_neg (by simp [hcascaded]), if_neg horigin, if_neg (by simp [hlive]), if_neg (by simp [hlater]),
    if_neg (by simp [hnew])]

theorem doLookupToken_visited {s : State} {down : Bool} {k : Token} (hring : s.inRing = true) (hcascaded : s.cascaded = true)
    (horigin : k.origin ≠ s.member) (hlive : s.liveSet.testBit k.origin = true)
    (hlater : tickLater (s.get Reg.CSC_LIVE_AGREED) (planTick s.tick.now k.ptick) = false) (hvisited : k.visited.testBit s.member = true) :
    doLookupToken down k s = s.forwardToken down k := by
  unfold doLookupToken
  rw [if_neg (by simp [hring]), if_neg (by simp [hcascaded]), if_neg horigin, if_neg (by simp [hlive]), if_neg (by simp [hlater]), if_pos hvisited]

theorem doLookupToken_discards {s : State} {down : Bool} {k : Token} (hring : s.inRing = true) (hcascaded : s.cascaded = true)
    (horigin : k.origin ≠ s.member)
    (hstale : s.liveSet.testBit k.origin = false ∨ tickLater (s.get Reg.CSC_LIVE_AGREED) (planTick s.tick.now k.ptick) = true) :
    doLookupToken down k s = s.discardToken := by
  unfold doLookupToken
  rw [if_neg (by simp [hring]), if_neg (by simp [hcascaded]), if_neg horigin]
  split
  · rfl
  next hlive => exact if_pos (hstale.resolve_left hlive)

theorem doLookupToken_home {s : State} {down : Bool} {k : Token} (hring : s.inRing = true) (hcascaded : s.cascaded = true)
    (horigin : k.origin = s.member) (hhome : s.tokenHome k = true) : doLookupToken down k s = s.takeToken k := by
  unfold doLookupToken
  rw [if_neg (by simp [hring]), if_neg (by simp [hcascaded]), if_pos horigin]
  exact if_pos hhome

theorem State.planned_setLookup {s : State} {i j : Nat} {pl : Planned} {l : LookupPlan} (f : LookupPlan → LookupPlan) (hi : s.planned[i]? = some pl)
    (hj : pl.lookups[j]? = some l) : (s.setLookup i j f).planned = s.planned.set i { pl with lookups := pl.lookups.set j (f l) } := by
  show s.planned.modify i (fun pl => { pl with lookups := pl.lookups.modify j f }) = _
  have hlookups : pl.lookups.modify j f = pl.lookups.set j (f l) := by
    rw [List.modify_eq_set_getElem?, hj]
    rfl
  rw [List.modify_eq_set_getElem?, hi, ← hlookups]
  rfl

/-- The origin's own token is back (R346). -/
theorem State.takeToken_spec {s : State} {k : Token} (hflight : (s.csc.flight.any fun e => e.1 == k.tok) = true) :
    ((s.takeToken k).csc.flight.any fun e => e.1 == k.tok) = false ∧
    (∀ i j pl l, s.lookupOf k.tok = some (i, j) → s.planned[i]? = some pl → pl.lookups[j]? = some l →
      (s.takeToken k).planned = s.planned.set i { pl with lookups := pl.lookups.set j { l with ret := some k } }) ∧
    (s.lookupOf k.tok = none → (s.takeToken k).planned = s.planned ∧
      (s.takeToken k).get Reg.CSC_CNT_LATE_COUNT = min (s.get Reg.CSC_CNT_LATE_COUNT + 1) Reg.CSC_CNT_LATE_COUNT.max) := by
  have hgone : ((s.csc.flight.filter fun e => e.1 ≠ k.tok).any fun e => e.1 == k.tok) = false := by simp
  unfold State.takeToken
  rw [if_neg (by simp [hflight])]
  dsimp only
  rw [show (s.setCsc { s.csc with flight := s.csc.flight.filter fun e => e.1 ≠ k.tok }).lookupOf k.tok = s.lookupOf k.tok from rfl]
  cases hfound : s.lookupOf k.tok with
  | some e =>
    refine ⟨hgone, fun i j pl l he hi hj => ?_, nofun⟩
    obtain rfl := Option.some.inj he
    exact State.planned_setLookup (s := s.setCsc { s.csc with flight := s.csc.flight.filter fun e => e.1 ≠ k.tok })
      (fun l => { l with ret := some k }) hi hj
  | none =>
    have hraise := State.raiseEp_within (s := (s.setCsc { s.csc with flight := s.csc.flight.filter fun e => e.1 ≠ k.tok }).bump Reg.CSC_CNT_LATE_COUNT)
      (n := Ev.CSC_LATE) (key := 0)
    have hget := (Writes.raiseEp (s := (s.setCsc { s.csc with flight := s.csc.flight.filter fun e => e.1 ≠ k.tok }).bump Reg.CSC_CNT_LATE_COUNT)
      Ev.CSC_LATE 0).get Reg.CSC_CNT_LATE_COUNT
    refine ⟨?_, fun _ _ _ _ h => absurd h.symm (Option.some_ne_none _), fun _ => ⟨(hraise.same .planned).symm, hget.trans (State.get_bump_same ..)⟩⟩
    exact (congrArg (fun c : Csc => c.flight.any fun e => e.1 == k.tok) (hraise.same .csc).symm).trans hgone

/-! ## LEARN and TALLY tokens -/

theorem doLearnToken_here {s : State} {flits : List Flit} (hring : s.inRing = true) (hcascaded : s.cascaded = true)
    (hkind : Tk.kind (flitsNat flits) = 1) (htarget : Tk.target (flitsNat flits) = s.member)
    (hlive : s.liveSet.testBit (Tk.origin (flitsNat flits)) = true) (hnone : s.csc.learns = []) :
    doLearnToken flits s = (s.setCsc { s.csc with
      learns := [(tickSub s.tick.plan 1, Tk.table (flitsNat flits), Tk.key (flitsNat flits))] }).settleLearns := by
  unfold doLearnToken
  dsimp only
  rw [if_neg (by simp [hring, hkind]), if_neg (by simp [hcascaded, htarget]), if_neg (by simp [hlive]), hnone, List.nil_append]

theorem State.settleLearns_one {s : State} {e : Tick × Nat × BitVec 640} (hnone : s.csc.learns = []) :
    (s.unfinished e.1 = true → (s.setCsc { s.csc with learns := [e] }).settleLearns = { s with csc := { s.csc with learns := [e] } }) ∧
    (s.unfinished e.1 = false → (s.setCsc { s.csc with learns := [e] }).settleLearns = s.learnHere e.1 e.2.1 e.2.2) := by
  have hunfinished : (s.setCsc { s.csc with learns := [e] }).unfinished e.1 = s.unfinished e.1 := rfl
  have hempty : ({ s with csc := { s.csc with learns := [] } } : State) = s := by rw [← hnone]
  unfold State.settleLearns
  rw [show (s.setCsc { s.csc with learns := [e] }).csc.learns = [e] from rfl, List.takeWhile_cons, hunfinished]
  refine ⟨fun h => by rw [h]; rfl, fun h => ?_⟩
  rw [h]
  exact congrArg (fun t : State => t.learnHere e.1 e.2.1 e.2.2) hempty

theorem State.learnHere_eq {s : State} {n : Tick} {t : Nat} {key : BitVec 640} {d : Table} (htable : s.table t = some d) (hcascaded : d.cascaded = true)
    (hlearn : d.learnEn = true) (hstays : d.destroyAt = none) : s.learnHere n t key =
      if s.recentLearn t (key &&& d.mask &&& widthMask d.width) then s.bump Reg.CSC_CNT_LEARN_DUP_COUNT
      else if (s.learn t d (key &&& d.mask &&& widthMask d.width) n).2.status = Vs.NEW then
        (s.learn t d (key &&& d.mask &&& widthMask d.width) n).1.countTally t (s.learn t d (key &&& d.mask &&& widthMask d.width) n).2.entry n
      else (s.learn t d (key &&& d.mask &&& widthMask d.width) n).1 := by
  unfold State.learnHere
  rw [htable]
  exact if_neg (by simp [hcascaded, hlearn, hstays])

/-! ## The merge -/

/-- A concluded record keeps the judgements of its lookups. -/
def Planned.concluded (pl pn : Planned) : Prop := pn.handle = pl.handle ∧ pn.tick = pl.tick ∧
  ∀ (k : Nat) (m : LookupPlan), pl.lookups[k]? = some m → ∃ x, pn.lookups[k]? = some x ∧ x.judged = m.judged

/-- Lookup k of record i is judged, in a record of this handle and tick. -/
def State.judgedAt (s : State) (i k : Nat) (pl : Planned) (v : Verdict) : Prop :=
  ∃ pm m, s.planned[i]? = some pm ∧ pm.lookups[k]? = some m ∧ m.judged = some v ∧ pm.handle = pl.handle ∧ pm.tick = pl.tick

theorem State.judgedAt_of_planned {s t : State} {i k : Nat} {pl : Planned} {v : Verdict} (h : s.judgedAt i k pl v) (ht : s.planned = t.planned) :
    t.judgedAt i k pl v := by
  unfold State.judgedAt at h ⊢
  rwa [← ht]

theorem State.planned_putPlanned (s : State) (i : Nat) (pn : Planned) : ∃ x : Planned, (s.putPlanned i pn).planned = s.planned.set i x ∧
    x.lookups = pn.lookups ∧ x.handle = pn.handle ∧ x.tick = pn.tick := by
  unfold State.putPlanned
  split
  · exact ⟨_, congrArg (List.set · i _) (State.formVerdict_within.same .planned).symm, rfl, rfl, rfl⟩
  · exact ⟨pn, rfl, rfl, rfl, rfl⟩

theorem State.judgedAt_putPlanned {s u : State} {i k j : Nat} {pl pj pn : Planned} {v : Verdict} (h : s.judgedAt i k pl v)
    (hu : s.planned = u.planned) (hj : s.planned[j]? = some pj) (hpn : pj.concluded pn) : (u.putPlanned j pn).judgedAt i k pl v := by
  obtain ⟨pm, m, hpm, hm, hjudged, hhandle, htick⟩ := h
  obtain ⟨x, hput, hlookups, hxhandle, hxtick⟩ := u.planned_putPlanned j pn
  have hlt : j < s.planned.length := (List.getElem?_eq_some_iff.1 hj).1
  by_cases hij : j = i
  · subst hij
    obtain rfl : pj = pm := Option.some.inj (hj.symm.trans hpm)
    obtain ⟨hsame, htick', hkeeps⟩ := hpn
    obtain ⟨y, hy, hyjudged⟩ := hkeeps k m hm
    refine ⟨x, y, ?_, by rw [hlookups, hy], hyjudged.trans hjudged, hxhandle.trans (hsame.trans hhandle), hxtick.trans (htick'.trans htick)⟩
    rw [hput, ← hu, List.getElem?_set_self hlt]
  · refine ⟨pm, m, ?_, hm, hjudged, hhandle, htick⟩
    rw [hput, ← hu, List.getElem?_set_ne hij, hpm]

theorem Planned.concluded_set {pl : Planned} {k : Nat} {l : LookupPlan} {rs : List Result} (hl : pl.lookups[k]? = some l) :
    pl.concluded { pl with results := rs, lookups := pl.lookups.set k { l with done := true } } := by
  refine ⟨rfl, rfl, fun j m hm => ?_⟩
  have hlt : k < pl.lookups.length := (List.getElem?_eq_some_iff.1 hl).1
  by_cases hjk : k = j
  · subst hjk
    obtain rfl : l = m := Option.some.inj (hl.symm.trans hm)
    exact ⟨_, List.getElem?_set_self hlt, rfl⟩
  · exact ⟨m, (List.getElem?_set_ne hjk).trans hm, rfl⟩

theorem State.judgedAt_concludeAt {s : State} {i k j c : Nat} {pl : Planned} {v w : Verdict} (h : s.judgedAt i k pl v) :
    (s.concludeAt j c w).judgedAt i k pl v := by
  unfold State.concludeAt
  split
  next => exact h
  next pj hj =>
    split
    next => exact h
    next l hl =>
      split
      next => exact State.judgedAt_putPlanned h rfl hj (Planned.concluded_set hl)
      next d _ => exact State.judgedAt_putPlanned h (State.conclude_within.same .planned) hj (Planned.concluded_set hl)

theorem State.judgedAt_concludeDue {s : State} {i k : Nat} {pl : Planned} {v : Verdict} (l : List (Nat × Nat)) (h : s.judgedAt i k pl v) :
    (s.concludeDue l).judgedAt i k pl v := by
  induction l generalizing s with
  | nil => exact h
  | cons e l ih =>
    obtain ⟨j, c⟩ := e
    unfold State.concludeDue
    split
    next => exact ih h
    next x _ =>
      split
      · exact ih h
      · split
        next => exact h
        next w _ => exact ih (State.judgedAt_concludeAt h)

theorem State.judgedAt_settleResults {s : State} {i k : Nat} {pl : Planned} {v : Verdict} (h : s.judgedAt i k pl v) :
    s.settleResults.judgedAt i k pl v :=
  State.judgedAt_of_planned (State.judgedAt_concludeDue _ h) (State.settleLearns_within.same .planned)

theorem State.judgedAt_setLookup {s : State} {i k : Nat} {pl : Planned} {l : LookupPlan} {v : Verdict} {f : LookupPlan → LookupPlan} (hi : s.planned[i]? = some pl)
    (hk : pl.lookups[k]? = some l) (hf : (f l).judged = some v) : (s.setLookup i k f).judgedAt i k pl v := by
  refine ⟨{ pl with lookups := pl.lookups.set k (f l) }, f l, ?_, List.getElem?_set_self (List.getElem?_eq_some_iff.1 hk).1, hf, rfl, rfl⟩
  rw [State.planned_setLookup f hi hk, List.getElem?_set_self (List.getElem?_eq_some_iff.1 hi).1]

/-- The lookup of a tag that waits for its merge holds its own result (R345). -/
theorem State.loc_of_lookupOf {s : State} {tag i k : Nat} {pl : Planned} {l : LookupPlan} (h : s.lookupOf tag = some (i, k))
    (hi : s.planned[i]? = some pl) (hk : pl.lookups[k]? = some l) : l.loc.isSome = true := by
  obtain ⟨⟨pm, a⟩, hmem, hfound⟩ := List.exists_of_findSome?_eq_some h
  obtain ⟨⟨m, b⟩, hlookup, hpair⟩ := Option.map_eq_some_iff.1 hfound
  obtain ⟨rfl, rfl⟩ := Prod.mk.inj hpair
  obtain rfl : pl = pm := Option.some.inj (hi.symm.trans (List.mem_zipIdx_iff_getElem?.1 hmem))
  obtain rfl : l = m := Option.some.inj (hk.symm.trans (List.mem_zipIdx_iff_getElem?.1 (List.mem_of_find?_eq_some hlookup)))
  have hholds := List.find?_some hlookup
  simp only [Bool.and_eq_true] at hholds
  exact hholds.1.1.2

theorem doCascadeMerge_eq {tok : BitVec 12} {s : State} {i k : Nat} {pl : Planned} {l : LookupPlan} {own : Token}
    (h : s.lookupOf tok.toNat = some (i, k)) (hi : s.planned[i]? = some pl) (hk : pl.lookups[k]? = some l) (hloc : l.loc = some own) :
    doCascadeMerge tok s = s.mergeLookup i k pl l own := by
  unfold doCascadeMerge
  rw [h]
  dsimp only
  rw [hi]
  dsimp only
  rw [hk]
  dsimp only
  rw [hloc]

/-- The token that a lookup is judged by. -/
def LookupPlan.merged (l : LookupPlan) (d : Table) (own : Token) : Token :=
  match l.ret with
  | some r => mergeToken d.ranked r own
  | none => own

theorem State.mergeLookup_judged {s : State} {i k : Nat} {pl : Planned} {l : LookupPlan} {own : Token} {d : Table} (htable : s.table l.tbl = some d)
    (hi : s.planned[i]? = some pl) (hk : pl.lookups[k]? = some l) :
    (s.mergeLookup i k pl l own).judgedAt i k pl (s.mergedVerdict d pl.tick l (l.merged d own)) := by
  unfold State.mergeLookup
  rw [htable]
  dsimp only
  refine State.judgedAt_settleResults (State.judgedAt_setLookup ?_ hk rfl)
  split
  · rw [← State.raiseEp_within.same .planned]
    exact hi
  · exact hi

theorem State.mergeLookup_gone {s : State} {i k : Nat} {pl : Planned} {l : LookupPlan} {own : Token} (htable : s.table l.tbl = none)
    (hi : s.planned[i]? = some pl) (hk : pl.lookups[k]? = some l) :
    ∃ pm m, (s.mergeLookup i k pl l own).planned[i]? = some pm ∧ pm.lookups[k]? = some m ∧ m.done = true ∧ pm.handle = pl.handle ∧ pm.tick = pl.tick := by
  obtain ⟨x, hput, hlookups, hhandle, htick⟩ := s.planned_putPlanned i { pl with lookups := pl.lookups.set k { l with done := true } }
  unfold State.mergeLookup
  rw [htable]
  refine ⟨x, { l with done := true }, ?_, ?_, rfl, hhandle, htick⟩
  · rw [hput, List.getElem?_set_self (List.getElem?_eq_some_iff.1 hi).1]
  · rw [hlookups]
    exact List.getElem?_set_self (List.getElem?_eq_some_iff.1 hk).1

theorem State.mergedVerdict_gap {s : State} {d : Table} {n : Tick} {l : LookupPlan} {t : Token} (hret : l.ret = none) :
    (s.mergedVerdict d n l t).status = Vs.CASCADE_GAP := by
  have hgap : s.cascadeGap n l = true := by
    unfold State.cascadeGap
    rw [hret]
    rfl
  unfold State.mergedVerdict
  rw [if_pos hgap]

/-- Settles O47, by whom a token is for; settling results keeps the judgement of a lookup that has one. -/
theorem cascadeTokens : Obligations.CascadeTokens := by
  unfold Obligations.CascadeTokens
  refine ⟨fun s down flits k d hk hkind hring hcascaded horigin hlive hlater hnew htable hd => ?_,
    fun s down flits k hk hkind hring => ⟨fun hbypass => ?_, fun hcascaded horigin => ⟨fun hstale => ?_, fun hlive hlater hvisited => ?_⟩⟩,
    fun s down flits k hk hkind hring hcascaded horigin hhome hflight => ?_,
    fun s flits hring => ⟨fun hkind hother => ?_, fun hkind hother => ?_, fun hkind hcascaded htarget => ?_⟩,
    fun s flits d n key hring hcascaded hkind htarget hn hlive htable hd hlearn hstays hnone hkey => ?_,
    fun s tok => ⟨fun hnone => ?_, fun i k pl l hlookup hi hk => ?_⟩⟩
  · subst hk
    obtain ⟨u, x, hsearch, hspec⟩ := State.searchToken_spec htable hd (tokenOf_count_le flits)
    refine ⟨u, x, ?_, hspec⟩
    have hdo := doLookupToken_search (down := down) hring hcascaded horigin hlive hlater hnew
    rw [hsearch] at hdo
    exact congrArg Host.Outcome.next ((if_pos hkind).trans hdo)
  · subst hk
    exact congrArg Host.Outcome.next ((if_pos hkind).trans ((if_neg (by simp [hring])).trans (if_pos hbypass)))
  · subst hk
    exact ⟨_, congrArg Host.Outcome.next ((if_pos hkind).trans (doLookupToken_discards hring hcascaded horigin hstale)), rfl, State.get_bump_same ..⟩
  · subst hk
    exact congrArg Host.Outcome.next ((if_pos hkind).trans (doLookupToken_visited hring hcascaded horigin hlive hlater hvisited))
  · subst hk
    exact ⟨_, congrArg Host.Outcome.next ((if_pos hkind).trans (doLookupToken_home hring hcascaded horigin hhome)), State.takeToken_spec hflight⟩
  · exact congrArg Host.Outcome.next ((if_neg (by simp [hring, hkind])).trans (if_pos hother))
  · exact congrArg Host.Outcome.next ((if_neg (by simp [hring, hkind])).trans (if_pos hother))
  · have hexec : exec (.tallyToken flits) s = .next (s.countTally (Tk.table (flitsNat flits)) (Tk.entry (flitsNat flits)) (tickSub s.tick.plan 1)) :=
      congrArg Host.Outcome.next ((if_neg (by simp [hring, hkind])).trans (if_neg (by simp [hcascaded, htarget])))
    refine ⟨_, hexec, ?_, fun y hy => ?_, fun hnone => ?_⟩
    · unfold State.countTally
      split <;> rfl
    · unfold State.countTally
      rw [hy]
    · unfold State.countTally
      rw [hnone]
  · subst hn
    have hexec : exec (.learnToken flits) s = .next ((s.setCsc { s.csc with
        learns := [(tickSub s.tick.plan 1, Tk.table (flitsNat flits), Tk.key (flitsNat flits))] }).settleLearns) :=
      congrArg Host.Outcome.next (doLearnToken_here hring hcascaded hkind htarget hlive hnone)
    obtain ⟨hwaits, hsettles⟩ := State.settleLearns_one (e := (tickSub s.tick.plan 1, Tk.table (flitsNat flits), Tk.key (flitsNat flits))) hnone
    rw [hexec]
    refine ⟨fun hunfinished => by rw [hwaits hunfinished], fun hdone hrecent => ?_, fun hdone hrecent hstatus => ?_⟩
    · rw [hsettles hdone, State.learnHere_eq htable hd hlearn hstays, ← hkey, if_pos hrecent]
      exact ⟨_, rfl, rfl, State.get_bump_same ..⟩
    · rw [hsettles hdone, State.learnHere_eq htable hd hlearn hstays, ← hkey, if_neg (by simp [hrecent]), if_pos hstatus]
  · have hdo : doCascadeMerge tok s = s := by
      unfold doCascadeMerge
      rw [hnone]
    exact congrArg Host.Outcome.next hdo
  · obtain ⟨own, hloc⟩ := Option.isSome_iff_exists.1 (State.loc_of_lookupOf hlookup hi hk)
    have hexec : exec (.cascadeMerge tok) s = .next (s.mergeLookup i k pl l own) := congrArg Host.Outcome.next (doCascadeMerge_eq hlookup hi hk hloc)
    cases htable : s.table l.tbl with
    | none =>
      obtain ⟨pm, m, hpm, hm, hdone, hrest⟩ := State.mergeLookup_gone (own := own) htable hi hk
      exact ⟨_, pm, m, hexec, hpm, hm, .inl hdone, hrest.1, hrest.2, fun _ _ h => absurd h.symm (Option.some_ne_none _),
        fun _ h => absurd h.symm (Option.some_ne_none _)⟩
    | some d =>
      obtain ⟨pm, m, hpm, hm, hjudged, hhandle, htick⟩ := State.mergeLookup_judged (own := own) htable hi hk
      refine ⟨_, pm, m, hexec, hpm, hm, .inr (by simp [hjudged]), hhandle, htick, fun e o he ho => ?_, fun e he hret =>
        ⟨_, hjudged, State.mergedVerdict_gap hret⟩⟩
      obtain rfl := Option.some.inj he
      obtain rfl := Option.some.inj (hloc.symm.trans ho)
      exact hjudged

end Sys2Proof.Machine
end

section
/-! PROOFS. What the curator's own work on the medium leaves: the rejects of the drawers, the scrub queue and the counts of the scrub. -/

namespace Sys2Proof.Machine

set_option Elab.async false

/-- The fields of the scrub that the curator's care does not write. -/
def careFields : List Field := [Reg.CUR_CNT_SCRUBBED_COUNT, Reg.CUR_CNT_RECOVERED_COUNT, Reg.WRD_STATUS_STORE_UNCORR]

/-- A drawer keeps its rejects, and stays suspect. -/
def Drawer.careKept (a b : Drawer) : Prop := b.rejects = a.rejects ∧ b.rejectsAt = a.rejectsAt ∧ (a.suspect = true → b.suspect = true)

/-- From s to t the scrub's fields and queues stand, and the drawers keep their rejects and what makes them suspect. -/
structure KeepsScrub (s t : State) : Prop where
  regs : ∀ F ∈ careFields, t.get F = s.get F
  scrubQ : t.cur.scrubQ = s.cur.scrubQ
  refreshQ : t.cur.refreshQ = s.cur.refreshQ
  drawers : ∀ g x, x < 544 → (s.drawer g x).careKept (t.drawer g x)

theorem Drawer.careKept_refl (a : Drawer) : a.careKept a := ⟨rfl, rfl, id⟩

theorem Drawer.careKept_trans {a b c : Drawer} (h : a.careKept b) (k : b.careKept c) : a.careKept c :=
  ⟨k.1.trans h.1, k.2.1.trans h.2.1, k.2.2 ∘ h.2.2⟩

namespace KeepsScrub

variable {s t u : State}

theorem of_same (hregs : s.regs = t.regs) (hscrub : t.cur.scrubQ = s.cur.scrubQ) (hrefresh : t.cur.refreshQ = s.cur.refreshQ)
    (hdrawers : s.drawers = t.drawers) : KeepsScrub s t where
  regs := fun F _ => by
    unfold State.get
    rw [hregs]
  scrubQ := hscrub
  refreshQ := hrefresh
  drawers := fun g x _ => by
    unfold State.drawer
    rw [hdrawers]
    exact Drawer.careKept_refl _

theorem of_within {w : List Part} (h : Within w s t) (hw : Part.regs ∉ w ∧ Part.drawers ∉ w ∧ Part.cur ∉ w := by decide) : KeepsScrub s t :=
  of_same (h.same .regs hw.1) (congrArg Curator.scrubQ (h.same .cur hw.2.2 : s.cur = t.cur)).symm
    (congrArg Curator.refreshQ (h.same .cur hw.2.2 : s.cur = t.cur)).symm (h.same .drawers hw.2.1)

theorem refl : KeepsScrub s s := of_same rfl rfl rfl rfl

theorem trans (h : KeepsScrub s t) (k : KeepsScrub t u) : KeepsScrub s u where
  regs := fun F hF => (k.regs F hF).trans (h.regs F hF)
  scrubQ := k.scrubQ.trans h.scrubQ
  refreshQ := k.refreshQ.trans h.refreshQ
  drawers := fun g x hx => Drawer.careKept_trans (h.drawers g x hx) (k.drawers g x hx)

theorem ite {p : Prop} [Decidable p] (h : KeepsScrub s t) (k : KeepsScrub s u) : KeepsScrub s (if p then t else u) := by
  split
  · exact h
  · exact k

theorem foldl {α : Type} {f : State → α → State} {l : List α} (h : ∀ t, ∀ a ∈ l, KeepsScrub t (f t a)) : KeepsScrub s (l.foldl f s) :=
  List.foldlRecOn (motive := KeepsScrub s) _ _ .refl fun t ht a ha => ht.trans (h t a ha)

theorem put (F : Field) (v i : Nat) (h : ∀ G ∈ careFields, F.key i ≠ G.key := by decide) : KeepsScrub s (s.put F v i) where
  regs := fun G hG => State.get_put_ne _ _ _ _ _ _ _ _ (h G hG)
  scrubQ := rfl
  refreshQ := rfl
  drawers := fun _ _ _ => Drawer.careKept_refl _

theorem bump (F : Field) (n i : Nat) (h : ∀ G ∈ careFields, F.key i ≠ G.key := by decide) : KeepsScrub s (s.bump F n i) := put F _ i h

theorem raise (n : Nat) : KeepsScrub s (s.raise n) where
  regs := fun F hF => (Writes.raise n) F 0 0 (by revert F; decide) List.not_mem_nil
  scrubQ := (congrArg Curator.scrubQ (State.raise_within.same .cur : s.cur = _)).symm
  refreshQ := (congrArg Curator.refreshQ (State.raise_within.same .cur : s.cur = _)).symm
  drawers := fun g x _ => by
    unfold State.drawer
    rw [← State.raise_within.same .drawers]
    exact Drawer.careKept_refl _

theorem setDrawer {g x : Nat} {v : Drawer} (hx : x < 544) (hv : (s.drawer g x).careKept v) : KeepsScrub s (s.setDrawer g x v) where
  regs := fun _ _ => rfl
  scrubQ := rfl
  refreshQ := rfl
  drawers := fun h y hy => by
    by_cases heq : g = h ∧ x = y
    · obtain ⟨rfl, rfl⟩ := heq
      rw [State.drawer_setDrawer_same]
      exact hv
    · rw [s.drawer_setDrawer_ne v hx hy heq]
      exact Drawer.careKept_refl _

/-! ## Writing rows -/

theorem makeSuspect (g : Nat) {x : Nat} (hx : x < 544) : KeepsScrub s (s.makeSuspect g x) := by
  have hset : KeepsScrub s (s.setDrawer g x { s.drawer g x with suspect := true }) := setDrawer hx ⟨rfl, rfl, fun _ => rfl⟩
  unfold State.makeSuspect
  exact .ite .refl ((hset.trans (put Reg.CUR_STATUS_SUSPECT 1 0)).trans (raise _))

theorem defectRow (g row : Nat) {x : Nat} (hx : x < 544) : KeepsScrub s (s.defectRow g x row) := by
  have hset : ∀ l, KeepsScrub s (s.setDrawer g x { s.drawer g x with defects := l }) := fun l => setDrawer hx ⟨rfl, rfl, id⟩
  unfold State.defectRow
  extract_lets k t
  have ht : KeepsScrub s t := (hset _).trans (bump Reg.CUR_CNT_DEFECT_COUNT 1 0)
  exact .ite .refl (.ite (ht.trans (makeSuspect g hx)) ht)

theorem setBalance (b : Int) : KeepsScrub s (s.setBalance b) := by
  unfold State.setBalance
  extract_lets c st _ t
  have ht : KeepsScrub s t := of_same rfl rfl rfl rfl
  exact .ite ht (ht.trans (raise _))

theorem spend (n : Nat) : KeepsScrub s (s.spend n) :=
  (of_same rfl rfl rfl rfl : KeepsScrub s { s with cur := { s.cur with programmed := s.cur.programmed + n } }).trans (setBalance _)

theorem wearRow (g row cells : Nat) {x : Nat} (hx : x < 544) : KeepsScrub s (s.wearRow g x row cells) := by
  unfold State.wearRow
  extract_lets _ t
  exact (of_same rfl rfl rfl rfl : KeepsScrub s t).trans (setDrawer hx ⟨rfl, rfl, id⟩)

theorem program (k : Nat) (new : RowCells) (fails : List Nat) : KeepsScrub s (s.program k new fails).1 := by
  unfold State.program
  extract_lets g x cells t u v w
  have hx : x < 544 := Nat.mod_lt _ (by decide)
  have ht : KeepsScrub s t := (spend cells).trans (bump Reg.CUR_CNT_WRITES_COUNT 1 0)
  have hu : KeepsScrub s u := .ite ht (ht.trans (bump Reg.CUR_CNT_RETRY_COUNT 1 0))
  have hv : KeepsScrub s v := (hu.trans (wearRow g (k % 2048) cells hx)).trans (setDrawer hx ⟨rfl, rfl, id⟩)
  have hw : KeepsScrub s w := hv.trans (of_same rfl rfl rfl rfl)
  split
  · exact hw
  · exact hw.trans (defectRow g (k % 2048) hx)

theorem programRows (r : Row) (w : Nat) (fails : List (List Nat)) (p n : Nat) : KeepsScrub s (s.programRows r w fails p n).1 := by
  induction n generalizing s fails p with
  | zero => exact .refl
  | succ n ih => exact (program _ _ _).trans (ih _ _)

theorem writeEntry (r : Row) (w : WriteRes) : KeepsScrub s (s.writeEntry r w).1 :=
  (of_same rfl rfl rfl rfl : KeepsScrub s (s.overwritten r.loc)).trans (programRows ..)

theorem writeFree (r : Row) : KeepsScrub s (s.writeFree r).1 := by
  unfold State.writeFree
  extract_lets n o
  have ho : KeepsScrub s o.2 := List.foldlRecOn (motive := fun x : List (List Nat) × State => KeepsScrub s x.2) _ _ .refl
    fun x hx _ _ => hx.trans (of_within State.freeFails_within)
  exact (ho.trans (of_same rfl rfl rfl rfl : KeepsScrub o.2 (o.2.overwritten r.loc))).trans (programRows ..)

theorem enterCopy (n : Row) (o : State × Bool) : KeepsScrub o.1 (State.enterCopy n o).1 := of_within State.enterCopy_within

/-! ## The journal -/

theorem journalPut (f n : Nat) (c : RowCells) : KeepsScrub s (State.journalPut f n c s).1 := by
  induction f generalizing s with
  | zero => exact .refl
  | succ f ih =>
    unfold State.journalPut
    extract_lets l
    split
    · exact .refl
    next a _ =>
      have hwrite : KeepsScrub s (s.drawn.freeFails.2.program (journalKey n a) c s.drawn.freeFails.1).1 :=
        ((of_within State.drawn_within : KeepsScrub s s.drawn).trans (of_within State.freeFails_within)).trans (program ..)
      extract_lets o
      split
      · exact hwrite
      · exact (hwrite.trans (of_within State.replaceReserved_within)).trans ih

theorem journalMove (n a : Nat) : KeepsScrub s (s.journalMove n a) :=
  (journalPut 16 n (s.stands (journalKey n a))).trans (of_same rfl rfl rfl rfl)

theorem moveReserve (n : Nat) (avoid : List Nat) : KeepsScrub s (s.moveReserve n avoid) := by
  unfold State.moveReserve
  extract_lets p _ t
  have ht : KeepsScrub s t := (of_within pickLeast_within : KeepsScrub s p.2).trans (of_same rfl rfl rfl rfl)
  exact ht.trans (foldl fun _ a _ => journalMove n a)

theorem journalRecord (r : Row) (tomb committed : Bool) : KeepsScrub s (s.journalRecord r tomb committed) := by
  unfold State.journalRecord State.journalled
  extract_lets c o t
  have ht : KeepsScrub s t := ((of_within State.freeCells_within : KeepsScrub s c.2).trans (journalPut _ _ _)).trans (of_same rfl rfl rfl rfl)
  exact .ite (ht.trans (moveReserve _ _)) ht

/-! ## Tests and retirements -/

theorem swapCopy (f g sx : Nat) (r : Row) : KeepsScrub s (State.swapCopy f g sx s r) := by
  induction f generalizing s with
  | zero => exact .refl
  | succ f ih =>
    unfold State.swapCopy
    split
    · exact .refl
    next p _ =>
      extract_lets n o
      have ho : KeepsScrub s o.1 := (writeFree n).trans (enterCopy n (s.writeFree n))
      exact .ite ho (ho.trans ih)

theorem stepSwap (w : Swap) : KeepsScrub s (s.stepSwap w) := by
  unfold State.stepSwap
  extract_lets n ds t
  have ht : KeepsScrub s t := .ite (moveReserve n ds) .refl
  exact .ite ht (ht.trans (foldl fun _ r _ => swapCopy 16 _ _ r))

theorem cancelSet (r : Row) : KeepsScrub s (s.cancelSet r) := by
  unfold State.cancelSet State.toClear
  exact .ite (.of_same rfl rfl rfl rfl) (.of_same rfl rfl rfl rfl)

theorem startTest (g : Nat) {c d : Nat} (hx : 17 * c + d < 544) : KeepsScrub s (s.startTest g c d) := by
  unfold State.startTest
  extract_lets x k n inPlace w t _ u _ v
  have ht : KeepsScrub s t := (put Reg.CUR_SELFTEST_RESULT 1 0).trans (foldl fun _ r _ => cancelSet r)
  have hcur : KeepsScrub t (t.setCur { t.cur with swaps := t.cur.swaps ++ [w] }) := of_same rfl rfl rfl rfl
  have hu : KeepsScrub s u := (ht.trans hcur).trans (stepSwap w)
  have hv : KeepsScrub s v := hu.trans (setDrawer hx ⟨rfl, rfl, id⟩)
  exact .ite (.ite (hv.trans (of_same rfl rfl rfl rfl)) hv) hu

theorem cancelSets (n id : Nat) : KeepsScrub s (s.cancelSets n id) := foldl fun _ r _ => cancelSet r

/-- No field of a table's registers is one of the scrub's. -/
theorem table_apart (F : Field) (t : Nat) (hF : F.st1 = 8192 ∧ ∀ G ∈ careFields, F.key % 8192 ≠ G.key % 8192) :
    ∀ G ∈ careFields, F.key t ≠ G.key := fun G hG heq => by
  have hne := hF.2 G hG
  rw [← heq] at hne
  simp only [Field.key, hF.1] at hne
  omega

theorem showDegraded : KeepsScrub s s.showDegraded := by
  unfold State.showDegraded
  refine foldl fun x e _ => ?_
  extract_lets now _ y
  have hy : KeepsScrub x y := of_same rfl rfl rfl rfl
  exact .ite .refl (.ite ((hy.trans (put Reg.TBL_STATUS_DEGRADED 1 e.1 (table_apart _ _ (by decide)))).trans (raise _)) hy)

theorem loseEntry (n id cause : Nat) (k : Tick) : KeepsScrub s (s.loseEntry n id cause k) := by
  unfold State.loseEntry
  extract_lets c u l v w
  have hl : KeepsScrub s l := (cancelSets n id).trans (of_same rfl rfl rfl rfl)
  have hv : KeepsScrub s v := (hl.trans (bump Reg.TBL_CNT_LOST_COUNT 1 n (table_apart _ _ (by decide)))).trans (bump Reg.CUR_CNT_LOST_COUNT 1 0)
  have hw : KeepsScrub s w := .ite (hv.trans (of_same rfl rfl rfl rfl)) (hv.trans (put Reg.TBLG_LOSS_OVERFLOW 1 0))
  exact .ite .refl (hw.trans showDegraded)

theorem copyOne (f g : Nat) (us : List Nat) (left : Nat) (r : Row) : KeepsScrub s (State.copyOne f g us left r s).1 := by
  induction f generalizing s with
  | zero => exact .refl
  | succ f ih =>
    unfold State.copyOne
    extract_lets l
    split
    · exact .refl
    next x p _ =>
      extract_lets n o
      have ho : KeepsScrub s o.1 := ((of_within State.drawn_within : KeepsScrub s s.drawn).trans (writeFree n)).trans (enterCopy n (s.drawn.writeFree n))
      split
      · exact ho
      · exact ho.trans ih

theorem retireRow (k : Tick) (r : Row) : KeepsScrub s (State.retireRow k s r) := by
  unfold State.retireRow
  refine .ite .refl (.ite (loseEntry ..) (.ite .refl ?_))
  extract_lets l us o
  have ho : KeepsScrub s o.1 := copyOne ..
  exact .ite (ho.trans (journalRecord ..)) ho

theorem retireMore (k : Tick) : KeepsScrub s (s.retireMore k) := by
  unfold State.retireMore
  split
  · exact .refl
  · exact .ite ((of_within State.retargetAll_within : KeepsScrub s s.retargetAll).trans (foldl fun _ r _ => retireRow k r)) .refl

theorem startRetire (g c d : Nat) : KeepsScrub s (s.startRetire g c d) := by
  unfold State.startRetire
  extract_lets t _
  have hcur : KeepsScrub t (t.setCur { t.cur with retire := some (g, c, d) }) := of_same rfl rfl rfl rfl
  exact ((put Reg.CUR_RETIRE_RESULT 1 0 : KeepsScrub s t).trans hcur).trans (retireMore _)

/-! ## The care of its own accord -/

theorem testSuspects : KeepsScrub s s.testSuspects := by
  unfold State.testSuspects
  refine .ite (foldl fun x k _ => ?_) .refl
  exact .ite .refl (startTest _ (by omega))

theorem retireSuspects : KeepsScrub s s.retireSuspects := by
  unfold State.retireSuspects
  refine .ite .refl ?_
  split
  · exact .refl
  · exact startRetire ..

theorem level (g : Nat) : KeepsScrub s (s.level g) := by
  unfold State.level
  refine .ite .refl ?_
  split
  · exact .refl
  next x hx =>
    have hlt : x < 544 := List.mem_range.1 (List.mem_filter.1 (State.pick_mem s hx)).1
    exact (of_within State.drawn_within : KeepsScrub s s.drawn).trans (startTest _ (by omega))

theorem care : KeepsScrub s s.care := by
  unfold State.care
  exact .ite ((testSuspects.trans retireSuspects).trans (foldl fun _ g _ => level g)) .refl

end KeepsScrub

end Sys2Proof.Machine
end

section
/-! PROOFS. Scrub passes, self-search and digests (O35). -/

namespace Sys2Proof.Machine

set_option Elab.async false

/-! ## The rejects of the drawers -/

theorem State.startRejects_balanced (s : State) (g : Nat) {x : Nat} (hx : x < 544) :
    (s.startRejects.drawer g x).rejectsAt = (s.startRejects.drawer g x).rejects := by
  have hfold : ∀ (l : FMap Drawer) (t : State),
      (drawerKey g x ∉ l.map (·.1) → (t.drawer g x).rejectsAt = (t.drawer g x).rejects) →
      ((l.foldl (fun (y : State) e => { y with drawers := fset y.drawers e.1 (drawerInit (e.1 % 544)) { e.2 with rejectsAt := e.2.rejects } }) t).drawer g x).rejectsAt =
      ((l.foldl (fun (y : State) e => { y with drawers := fset y.drawers e.1 (drawerInit (e.1 % 544)) { e.2 with rejectsAt := e.2.rejects } }) t).drawer g x).rejects := by
    intro l
    induction l with
    | nil => exact fun t h => h List.not_mem_nil
    | cons e l ih =>
      refine fun t h => ih _ fun hnot => ?_
      by_cases hkey : e.1 = drawerKey g x
      · have hmod : e.1 % 544 = x := by
          rw [hkey]
          unfold drawerKey
          omega
        have hread : fgetD (fset t.drawers e.1 (drawerInit (e.1 % 544)) { e.2 with rejectsAt := e.2.rejects }) (drawerKey g x) (drawerInit x) =
            { e.2 with rejectsAt := e.2.rejects } := by
          rw [hmod, ← hkey]
          exact fgetD_fset_same ..
        show (fgetD (fset t.drawers e.1 (drawerInit (e.1 % 544)) { e.2 with rejectsAt := e.2.rejects }) (drawerKey g x) (drawerInit x)).rejectsAt =
          (fgetD (fset t.drawers e.1 (drawerInit (e.1 % 544)) { e.2 with rejectsAt := e.2.rejects }) (drawerKey g x) (drawerInit x)).rejects
        rw [hread]
      · have hread : fgetD (fset t.drawers e.1 (drawerInit (e.1 % 544)) { e.2 with rejectsAt := e.2.rejects }) (drawerKey g x) (drawerInit x) =
            t.drawer g x := fgetD_fset_ne _ _ _ _ hkey
        show (fgetD (fset t.drawers e.1 (drawerInit (e.1 % 544)) { e.2 with rejectsAt := e.2.rejects }) (drawerKey g x) (drawerInit x)).rejectsAt =
          (fgetD (fset t.drawers e.1 (drawerInit (e.1 % 544)) { e.2 with rejectsAt := e.2.rejects }) (drawerKey g x) (drawerInit x)).rejects
        rw [hread]
        exact h fun hm => (List.mem_cons.1 hm).elim (fun heq => hkey heq.symm) hnot
  refine hfold s.drawers s fun hnot => ?_
  have hnone : fget s.drawers (drawerKey g x) = none := by
    generalize s.drawers = l at hnot
    induction l with
    | nil => rfl
    | cons e l ih =>
      obtain ⟨k, v⟩ := e
      simp only [List.map_cons, List.mem_cons, not_or] at hnot
      exact (if_neg fun h => hnot.1 h.symm).trans (ih hnot.2)
  unfold State.drawer fgetD
  rw [hnone]
  rfl

/-! ## The scrub of a row -/

/-- The places that the scrub of a row may write. -/
def scrubKeys : List Nat := [Reg.CUR_STATUS_SUSPECT.key, Reg.CUR_CNT_RECOVERED_COUNT.key, Reg.CUR_CNT_LOST_COUNT.key]

theorem State.makeSuspect_writes (s : State) (g x : Nat) : Writes [Reg.CUR_STATUS_SUSPECT.key] s (s.makeSuspect g x) := by
  have hset : Writes [Reg.CUR_STATUS_SUSPECT.key] s (s.setDrawer g x { s.drawer g x with suspect := true }) := .of_regs rfl
  unfold State.makeSuspect
  exact .ite .refl ((hset.step (Writes.put Reg.CUR_STATUS_SUSPECT 1 0 0)).step (Writes.raise _))

theorem State.noteUnread_writes (s : State) (k : Nat) : Writes scrubKeys s (s.noteUnread k) := by
  unfold State.noteUnread
  extract_lets g x d t
  have ht : Writes scrubKeys s t := .of_regs rfl
  exact .ite .refl (.ite (ht.step (t.makeSuspect_writes g x) (by simp [scrubKeys])) ht)

theorem State.treatUnread_writes (s : State) (k : Nat) : Writes scrubKeys s (s.treatUnread k) := by
  unfold State.treatUnread
  extract_lets t
  have ht : Writes scrubKeys s t := s.noteUnread_writes k
  have hsuspect : Writes scrubKeys t (t.suspectRow k) := .ite (.step .refl (State.makeSuspect_writes _ _ _) (by simp [scrubKeys])) .refl
  refine .ite ((ht.step (Writes.bump Reg.CUR_CNT_RECOVERED_COUNT 1 0 0) (by simp [scrubKeys])).trans (.of_within State.queueRefresh_within))
    (.ite (ht.trans (.of_within State.queueRefresh_within)) ((ht.trans hsuspect).trans (.of_within State.freeJournalRow_within)))

theorem State.scrubPk_writes (s : State) (k : Nat) : Writes scrubKeys s (s.scrubPk k) :=
  .ite (.ite (.of_within State.queueRefresh_within) .refl) (s.treatUnread_writes k)

theorem State.scrubSram_writes (s : State) (k : Nat) : Writes scrubKeys s (s.scrubSram k) := by
  unfold State.scrubSram
  extract_lets t
  have ht : Writes scrubKeys s t := .of_regs rfl
  refine .ite ht (ht.trans (.foldl fun u r => ?_))
  unfold State.dropEntry
  extract_lets v
  exact ((.of_regs rfl : Writes scrubKeys u v).step (Writes.bump Reg.CUR_CNT_LOST_COUNT 1 0 0) (by simp [scrubKeys])).step (Writes.raise _)

theorem State.scrubRow_writes (s : State) (k : Nat) (d : Option ScrubRead) : Writes scrubKeys s (s.scrubRow k d) := by
  unfold State.scrubRow
  extract_lets _ t
  have ht : Writes scrubKeys s t := by
    unfold t
    split
    · exact .of_regs rfl
    · exact .refl
  clear_value t
  exact .ite (ht.trans (t.scrubSram_writes k)) (ht.trans (t.scrubPk_writes k))

theorem State.mem_queueRefresh (s : State) (k : Nat) : k ∈ (s.queueRefresh k).cur.refreshQ := by
  unfold State.queueRefresh
  split
  next h => exact List.contains_iff_mem.1 h
  next => exact List.mem_append_right _ (List.mem_singleton.2 rfl)

theorem State.scrubQ_queueRefresh (s : State) (k : Nat) : (s.queueRefresh k).cur.scrubQ = s.cur.scrubQ := by
  unfold State.queueRefresh
  split <;> rfl

theorem Proves.suspect {s t : State} (h : Proves s t) {g x : Nat} (hx : x < 544) (hs : (s.drawer g x).suspect = true) :
    (t.drawer g x).suspect = true := by
  obtain ⟨u, b, hd, hb⟩ := h.drawers g x hx
  rw [hd]
  exact hb hs

/-- The fourth row of a drawer that nominal does not read makes it suspect (R235). -/
theorem State.suspect_noteUnread {s : State} {k : Nat} (hpool : isPool k = true)
    (hnew : k % 2048 ∉ (s.drawer (k / 2048 / 544) (k / 2048 % 544)).unread)
    (hthree : 3 ≤ (s.drawer (k / 2048 / 544) (k / 2048 % 544)).unread.length) :
    ((s.noteUnread k).drawer (k / 2048 / 544) (k / 2048 % 544)).suspect = true := by
  unfold State.noteUnread
  dsimp only
  rw [if_neg (by simp [hpool, hnew]), if_pos (by omega)]
  exact State.suspect_makeSuspect ..

theorem State.treatUnread_spec (s : State) (k : Nat) :
    (s.treatUnread k).cur.scrubQ = s.cur.scrubQ ∧
    (s.recovers k = true → k ∈ (s.treatUnread k).cur.refreshQ ∧
      (s.treatUnread k).get Reg.CUR_CNT_RECOVERED_COUNT =
        min (s.get Reg.CUR_CNT_RECOVERED_COUNT + 1) Reg.CUR_CNT_RECOVERED_COUNT.max) ∧
    (isPool k = true → s.recovers k = false → s.rowsAt k ≠ [] →
      ((s.treatUnread k).drawer (k / 2048 / 544) (k / 2048 % 544)).suspect = true) ∧
    (isPool k = true → k % 2048 ∉ (s.drawer (k / 2048 / 544) (k / 2048 % 544)).unread →
      3 ≤ (s.drawer (k / 2048 / 544) (k / 2048 % 544)).unread.length →
      ((s.treatUnread k).drawer (k / 2048 / 544) (k / 2048 % 544)).suspect = true) := by
  have hx : k / 2048 % 544 < 544 := Nat.mod_lt _ (by decide)
  have hcur : (s.noteUnread k).cur = s.cur := (State.noteUnread_within.same .cur).symm
  have hrows : (s.noteUnread k).rowsAt k = s.rowsAt k := by
    unfold State.rowsAt State.lies State.widthOf State.table
    rw [← State.noteUnread_within.same .rows, ← State.noteUnread_within.same .tables]
  have hget : (s.noteUnread k).get Reg.CUR_CNT_RECOVERED_COUNT = s.get Reg.CUR_CNT_RECOVERED_COUNT :=
    (show Writes [Reg.CUR_STATUS_SUSPECT.key] s (s.noteUnread k) by
      unfold State.noteUnread
      extract_lets g x d t
      have ht : Writes [Reg.CUR_STATUS_SUSPECT.key] s t := .of_regs rfl
      exact .ite .refl (.ite (ht.step (t.makeSuspect_writes g x)) ht)).get Reg.CUR_CNT_RECOVERED_COUNT
  have hfourth := State.suspect_noteUnread (s := s) (k := k)
  unfold State.treatUnread
  dsimp only
  generalize s.noteUnread k = t at hcur hrows hget hfourth ⊢
  cases hrec : s.recovers k with
  | true =>
    rw [if_pos rfl]
    refine ⟨(State.scrubQ_queueRefresh _ k).trans (congrArg Curator.scrubQ hcur), fun _ => ⟨State.mem_queueRefresh _ k, ?_⟩, fun _ h => (nomatch h),
      fun hpool hnew hthree => ?_⟩
    · have hqueue : ((t.bump Reg.CUR_CNT_RECOVERED_COUNT).queueRefresh k).get Reg.CUR_CNT_RECOVERED_COUNT =
          (t.bump Reg.CUR_CNT_RECOVERED_COUNT).get Reg.CUR_CNT_RECOVERED_COUNT :=
        (Writes.of_within (ks := []) State.queueRefresh_within).get Reg.CUR_CNT_RECOVERED_COUNT
      rw [hqueue, State.get_bump_same, hget]
    · have hproves : Proves t ((t.bump Reg.CUR_CNT_RECOVERED_COUNT).queueRefresh k) :=
        .of_within ((Within.refl.step State.bump_within).step State.queueRefresh_within)
      exact hproves.suspect hx (hfourth hpool hnew hthree)
  | false =>
    rw [if_neg Bool.false_ne_true]
    have hproves : Proves t (if 2 ^ 26 ≤ k then t.queueRefresh k else (t.suspectRow k).freeJournalRow k) :=
      .ite (.of_within (Within.refl.step State.queueRefresh_within)) ((Proves.suspectRow k).trans (Proves.freeJournalRow k))
    refine ⟨?_, fun h => (nomatch h), fun hpool _ hheld => ?_, fun hpool hnew hthree => hproves.suspect hx (hfourth hpool hnew hthree)⟩
    · split
      · exact (State.scrubQ_queueRefresh _ k).trans (congrArg Curator.scrubQ hcur)
      · have hwithin : Within [.out, .regs, .boot, .rows, .drawers, .host] t ((t.suspectRow k).freeJournalRow k) :=
          (Within.refl.step State.suspectRow_within).step State.freeJournalRow_within
        exact congrArg Curator.scrubQ ((hwithin.same .cur).symm.trans hcur)
    · have hsmall : k < 2 ^ 24 := by simpa [isPool] using hpool
      rw [if_neg (by omega)]
      refine (Proves.freeJournalRow k).suspect hx ?_
      have hrun : t.suspectRow k = t.makeSuspect (k / 2048 / 544) (k / 2048 % 544) := if_pos ⟨hpool, by rw [hrows]; simpa using hheld⟩
      rw [hrun]
      exact State.suspect_makeSuspect ..

/-- What the scrub of a row of the medium leaves (R227 to R230, R235). -/
structure Scrubbed (s t : State) (k : Nat) : Prop where
  scrubQ : t.cur.scrubQ = s.cur.scrubQ
  weak : s.readsNominal k = true → s.refreshThresh ≤ (s.fault k).wrong.length + ((s.fault k).near s.scrubMargin).length → k ∈ t.cur.refreshQ
  recovered : s.readsNominal k = false → s.recovers k = true → k ∈ t.cur.refreshQ ∧
    t.get Reg.CUR_CNT_RECOVERED_COUNT = min (s.get Reg.CUR_CNT_RECOVERED_COUNT + 1) Reg.CUR_CNT_RECOVERED_COUNT.max
  held : isPool k = true → s.readsNominal k = false → s.recovers k = false → s.rowsAt k ≠ [] →
    (t.drawer (k / 2048 / 544) (k / 2048 % 544)).suspect = true
  fourth : isPool k = true → s.readsNominal k = false → k % 2048 ∉ (s.drawer (k / 2048 / 544) (k / 2048 % 544)).unread →
    3 ≤ (s.drawer (k / 2048 / 544) (k / 2048 % 544)).unread.length → (t.drawer (k / 2048 / 544) (k / 2048 % 544)).suspect = true

theorem State.scrubPk_scrubbed (s : State) (k : Nat) : Scrubbed s (s.scrubPk k) k := by
  unfold State.scrubPk
  cases hread : s.readsNominal k with
  | true =>
    rw [if_pos rfl]
    refine ⟨?_, fun _ hweak => ?_, fun h => (nomatch hread.symm.trans h), fun _ h => (nomatch hread.symm.trans h), fun _ h => (nomatch hread.symm.trans h)⟩
    · split
      · exact State.scrubQ_queueRefresh _ k
      · rfl
    · rw [if_pos hweak]
      exact State.mem_queueRefresh _ k
  | false =>
    rw [if_neg Bool.false_ne_true]
    obtain ⟨hq, hrec, hheld, hfourth⟩ := s.treatUnread_spec k
    exact ⟨hq, fun h => (nomatch hread.symm.trans h), fun _ => hrec, fun hpool _ => hheld hpool, fun hpool _ => hfourth hpool⟩

theorem State.scrubRow_medium {s : State} {k : Nat} (d : ScrubRead) (hmedium : isSram k = false) :
    s.scrubRow k (some d) = (s.setFault k { s.fault k with cells := d.cells, held := d.held }).scrubPk k := if_neg (by simp [hmedium])

theorem State.scrubQ_scrubRow (s : State) (k : Nat) (d : ScrubRead) : (s.scrubRow k (some d)).cur.scrubQ = s.cur.scrubQ := by
  cases hsram : isSram k with
  | true =>
    have hrun : s.scrubRow k (some d) = (s.setFault k { s.fault k with cells := d.cells, held := d.held }).scrubSram k := if_pos hsram
    rw [hrun]
    exact (congrArg Curator.scrubQ (State.scrubSram_within.same .cur).symm).trans rfl
  | false =>
    rw [State.scrubRow_medium d hsram]
    exact (State.scrubPk_scrubbed _ k).scrubQ

theorem isSram_of_isPool {k : Nat} (h : isPool k = true) : isSram k = false := by
  have hlt : k < 2 ^ 24 := by simpa [isPool] using h
  simp [isSram]
  omega

/-! ## SCRUB_QUEUE_READ -/

theorem doScrubQueueRead_some {d : ScrubRead} {s : State} {k : Nat} (hwork : s.mayWork 8 = true)
    (hq : (s.cur.scrubQ.find? fun k => !s.shut k) = some k) : doScrubQueueRead d s =
      (((s.setCur { s.cur with scrubQ := s.cur.scrubQ.erase k }).scrubRow k (some d)).bump Reg.CUR_CNT_SCRUBBED_COUNT).care := by
  unfold doScrubQueueRead
  rw [hq]
  exact if_pos hwork

theorem doScrubQueueRead_idle {d : ScrubRead} {s : State} (h : s.mayWork 8 = false ∨ (s.cur.scrubQ.find? fun k => !s.shut k) = none) :
    doScrubQueueRead d s = s := by
  unfold doScrubQueueRead
  split
  next => rfl
  next k hk => exact if_neg (by simpa [hk] using h)

/-- The queue does not matter to what the scrub of a row finds. -/
theorem Scrubbed.of_queue {s t : State} {k : Nat} (q : List Nat) (h : Scrubbed { s with cur := { s.cur with scrubQ := q } } t k) :
    t.cur.scrubQ = q ∧ (∀ r, Scrubbed s { t with cur := { t.cur with scrubQ := r } } k ↔ r = s.cur.scrubQ) := by
  refine ⟨h.scrubQ, fun r => ⟨fun h => h.scrubQ, fun hr => ⟨hr, h.weak, h.recovered, h.held, h.fourth⟩⟩⟩

/-! ## The store -/

theorem State.rewriteLine_writes (s : State) : Writes [Reg.CUR_CNT_REFRESH_COUNT.key] s s.rewriteLine := by
  have hdrawn : Writes [] s s.drawn := .of_regs rfl
  unfold State.rewriteLine
  exact ((hdrawn.trans (State.spend_writes _ _)).mono (by simp)).step (Writes.bump Reg.CUR_CNT_REFRESH_COUNT 1 0 0)

/-- The places that the scrub of a store line may write. -/
def storeKeys : List Nat := [Reg.WRD_CNT_STORE_CORR_COUNT.key, Reg.CUR_CNT_REFRESH_COUNT.key, Reg.CUR_CNT_RECOVERED_COUNT.key, Reg.WRD_STATUS_STORE_UNCORR.key]

/-- The scrub of a store line notes whether it is uncorrectable, and leaves the store (R248). -/
structure StoreScrubbed (s t : State) (l : BitVec 20) (d : LineRead) : Prop where
  store : t.wrd.store = s.wrd.store
  writes : Writes storeKeys s t
  bad : l.toNat ∈ t.wrd.bad ↔ d.uncorr = true ∧ (lineRecovers d = false ∨ s.mayWork 12 = false)
  flag : d.uncorr = true → lineRecovers d = false → t.flag Reg.WRD_STATUS_STORE_UNCORR = true

/-- The wardrobe with a line uncorrectable or not, marred or not. -/
def Wardrobe.noteLine (w : Wardrobe) (n : Nat) (bad marred : Bool) : Wardrobe :=
  { w with bad := if bad then w.bad.filter (· != n) ++ [n] else w.bad.filter (· != n),
           marred := if marred then w.marred.filter (· != n) ++ [n] else w.marred.filter (· != n) }

theorem Wardrobe.mem_noteLine (w : Wardrobe) (n : Nat) (bad marred : Bool) : n ∈ (w.noteLine n bad marred).bad ↔ bad = true := by
  cases bad <;> simp [Wardrobe.noteLine]

theorem State.scrubStore_eq (s : State) (l : BitVec 20) (d : LineRead) : s.scrubStore l d =
    if d.uncorr = false then
      (if (decide (s.refreshThresh ≤ d.errors + d.weak) && s.mayWork 12) = true then
        (if d.errors = 0 then s.setWrd (s.wrd.noteLine l.toNat false (decide (0 < d.errors) && !(decide (s.refreshThresh ≤ d.errors + d.weak) && s.mayWork 12)))
          else (s.setWrd (s.wrd.noteLine l.toNat false (decide (0 < d.errors) && !(decide (s.refreshThresh ≤ d.errors + d.weak) && s.mayWork 12)))).bump
            Reg.WRD_CNT_STORE_CORR_COUNT).rewriteLine
      else if d.errors = 0 then s.setWrd (s.wrd.noteLine l.toNat false (decide (0 < d.errors) && !(decide (s.refreshThresh ≤ d.errors + d.weak) && s.mayWork 12)))
        else (s.setWrd (s.wrd.noteLine l.toNat false (decide (0 < d.errors) && !(decide (s.refreshThresh ≤ d.errors + d.weak) && s.mayWork 12)))).bump
          Reg.WRD_CNT_STORE_CORR_COUNT)
    else if lineRecovers d then
      (if s.mayWork 12 then ((s.setWrd (s.wrd.noteLine l.toNat (!s.mayWork 12) false)).bump Reg.CUR_CNT_RECOVERED_COUNT).rewriteLine
        else (s.setWrd (s.wrd.noteLine l.toNat (!s.mayWork 12) false)).bump Reg.CUR_CNT_RECOVERED_COUNT)
    else (s.setWrd (s.wrd.noteLine l.toNat true false)).setRaise Reg.WRD_STATUS_STORE_UNCORR Ev.STORE_UNCORR := rfl

theorem State.scrubStore_scrubbed (s : State) (l : BitVec 20) (d : LineRead) : StoreScrubbed s (s.scrubStore l d) l d := by
  have hfrom : ∀ (bad marred : Bool) (t : State), Within [.freeCtr, .out, .regs, .boot, .cur, .host] (s.setWrd (s.wrd.noteLine l.toNat bad marred)) t →
      Writes storeKeys (s.setWrd (s.wrd.noteLine l.toNat bad marred)) t →
      (bad = true ↔ d.uncorr = true ∧ (lineRecovers d = false ∨ s.mayWork 12 = false)) →
      (d.uncorr = true → lineRecovers d = false → t.flag Reg.WRD_STATUS_STORE_UNCORR = true) → StoreScrubbed s t l d := fun bad marred t hwithin hwrites hbad hflag => by
    have hwrd : t.wrd = s.wrd.noteLine l.toNat bad marred := (hwithin.same .wrd).symm
    refine ⟨by rw [hwrd]; rfl, (.of_regs rfl : Writes storeKeys s (s.setWrd (s.wrd.noteLine l.toNat bad marred))).trans hwrites, ?_, hflag⟩
    rw [hwrd, Wardrobe.mem_noteLine]
    exact hbad
  have hrewrite : ∀ t : State, Writes storeKeys t t.rewriteLine := fun t => .step .refl t.rewriteLine_writes (by simp [storeKeys])
  rw [State.scrubStore_eq]
  cases huncorr : d.uncorr with
  | false =>
    rw [if_pos rfl]
    generalize (decide (s.refreshThresh ≤ d.errors + d.weak) && s.mayWork 12) = fix
    refine hfrom false (decide (0 < d.errors) && !fix) _ ?_ ?_ (by simp [huncorr]) (by simp [huncorr])
    · exact .ite (.step (.ite .refl (.step .refl State.bump_within)) State.rewriteLine_within) (.ite .refl (.step .refl State.bump_within))
    · have hcount : Writes storeKeys (s.setWrd (s.wrd.noteLine l.toNat false (decide (0 < d.errors) && !fix)))
          ((s.setWrd (s.wrd.noteLine l.toNat false (decide (0 < d.errors) && !fix))).bump Reg.WRD_CNT_STORE_CORR_COUNT) :=
        .step .refl (Writes.bump Reg.WRD_CNT_STORE_CORR_COUNT 1 0 0) (by simp [storeKeys])
      exact .ite ((Writes.ite .refl hcount).trans (hrewrite _)) (.ite .refl hcount)
  | true =>
    rw [if_neg (by simp)]
    cases hrec : lineRecovers d with
    | true =>
      rw [if_pos rfl]
      refine hfrom (!s.mayWork 12) false _ ?_ ?_ (by simp [huncorr, hrec]) (by simp [hrec])
      · exact .ite (.step (.step .refl State.bump_within) State.rewriteLine_within) (.step .refl State.bump_within)
      · have hcount : Writes storeKeys (s.setWrd (s.wrd.noteLine l.toNat (!s.mayWork 12) false))
            ((s.setWrd (s.wrd.noteLine l.toNat (!s.mayWork 12) false)).bump Reg.CUR_CNT_RECOVERED_COUNT) :=
          .step .refl (Writes.bump Reg.CUR_CNT_RECOVERED_COUNT 1 0 0) (by simp [storeKeys])
        exact .ite (hcount.trans (hrewrite _)) hcount
    | false =>
      rw [if_neg (by simp)]
      refine hfrom true false _ (.step .refl State.setRaise_within) (.step .refl (Writes.setRaise _ _) (by simp [storeKeys])) (by simp [huncorr, hrec])
        fun _ _ => ?_
      exact ((Writes.raise Ev.STORE_UNCORR).flag Reg.WRD_STATUS_STORE_UNCORR).trans (State.flag_put_one _ _ _ _ rfl)

theorem State.foldl_scrubStore (l : List (BitVec 20 × LineRead)) (s : State) :
    (l.foldl (fun x e => x.scrubStore e.1 e.2) s).wrd.store = s.wrd.store ∧ Writes storeKeys s (l.foldl (fun x e => x.scrubStore e.1 e.2) s) :=
  List.foldlRecOn (motive := fun x : State => x.wrd.store = s.wrd.store ∧ Writes storeKeys s x) _ _ ⟨rfl, .refl⟩ fun x hx e _ =>
    ⟨(x.scrubStore_scrubbed e.1 e.2).store.trans hx.1, hx.2.trans (x.scrubStore_scrubbed e.1 e.2).writes⟩

/-! ## SCRUB_PASS -/

/-- The rows of a pass, read. -/
def State.passed (s : State) (reads : List (Nat × ScrubRead)) : State :=
  ((s.passRows reads).foldl (fun x k => x.scrubRow k ((reads.find? fun e => e.1 == k).map (·.2))) s).bump Reg.CUR_CNT_SCRUBBED_COUNT
    ((s.heldRows ++ sideRows).filter fun k => !s.shut k).length

theorem doScrubPass_runs {reads : List (Nat × ScrubRead)} {store : List (BitVec 20 × LineRead)} {s : State} (hm : s.mode = .service)
    (hwork : s.mayWork 8 = true) : doScrubPass reads store s = (store.foldl (fun x e => x.scrubStore e.1 e.2) (s.passed reads)).startRejects.care :=
  if_neg (by simp [hm, hwork])

theorem State.passed_spec (s : State) (reads : List (Nat × ScrubRead)) : (s.passed reads).wrd = s.wrd ∧ (s.passed reads).mnt = s.mnt ∧
    (s.passed reads).get Reg.CUR_CNT_SCRUBBED_COUNT = min (s.get Reg.CUR_CNT_SCRUBBED_COUNT +
      ((s.heldRows ++ sideRows).filter fun k => !s.shut k).length) Reg.CUR_CNT_SCRUBBED_COUNT.max := by
  have hwithin : Within [.out, .regs, .boot, .rows, .faults, .drawers, .cur, .host] s (s.passed reads) :=
    (Within.foldl (fun _ _ h => h.step State.scrubRow_within) .refl).step State.bump_within
  have hwrites : Writes scrubKeys s ((s.passRows reads).foldl (fun x k => x.scrubRow k ((reads.find? fun e => e.1 == k).map (·.2))) s) :=
    .foldl fun x k => x.scrubRow_writes k _
  refine ⟨(hwithin.same .wrd).symm, (hwithin.same .mnt).symm, ?_⟩
  unfold State.passed
  rw [State.get_bump_same, hwrites.get Reg.CUR_CNT_SCRUBBED_COUNT]

/-! ## Self-search -/

theorem State.endSweep_writes (s : State) : Writes [Reg.CUR_SWEEP_LAST_MS.key, Reg.CUR_SWEEP_COUNT.key] s s.endSweep := by
  unfold State.endSweep
  exact ((Writes.refl.step (Writes.put Reg.CUR_SWEEP_LAST_MS _ 0 0)).step (Writes.put Reg.CUR_SWEEP_COUNT _ 0 0)).trans (.of_regs rfl)

theorem State.falseMiss_spec (s : State) (r : Row) (ks : List Nat) : (s.falseMiss r ks).cur.swept = s.cur.swept ∧ (s.falseMiss r ks).cur.sweep = s.cur.sweep ∧
    (s.falseMiss r ks).get Reg.CUR_CNT_FALSE_MISS_COUNT = min (s.get Reg.CUR_CNT_FALSE_MISS_COUNT + 1) Reg.CUR_CNT_FALSE_MISS_COUNT.max := by
  unfold State.falseMiss
  extract_lets t u
  have hcur : t.cur = s.cur := ((Within.refl.step State.bump_within).step State.raiseEp_within : Within [.out, .regs, .boot, .host] s t).same .cur |>.symm
  have hget : t.get Reg.CUR_CNT_FALSE_MISS_COUNT = min (s.get Reg.CUR_CNT_FALSE_MISS_COUNT + 1) Reg.CUR_CNT_FALSE_MISS_COUNT.max :=
    ((Writes.raiseEp Ev.FALSE_MISS 0).get Reg.CUR_CNT_FALSE_MISS_COUNT).trans (State.get_bump_same ..)
  clear_value t
  split
  · refine List.foldlRecOn (motive := fun x : State => x.cur.swept = s.cur.swept ∧ x.cur.sweep = s.cur.sweep ∧
      x.get Reg.CUR_CNT_FALSE_MISS_COUNT = min (s.get Reg.CUR_CNT_FALSE_MISS_COUNT + 1) Reg.CUR_CNT_FALSE_MISS_COUNT.max) _ _
      ⟨by rw [hcur], by rw [hcur], hget⟩ fun x ⟨hswept, hsweep, hcount⟩ k _ => ?_
    have hdefect := State.defectRow_within (s := x) (g := k / 2048 / 544) (x := k / 2048 % 544) (row := k % 2048)
    have hwrites : Writes [Reg.CUR_CNT_DEFECT_COUNT.key, Reg.CUR_STATUS_SUSPECT.key] x (x.defectRow (k / 2048 / 544) (k / 2048 % 544) (k % 2048)) := by
      unfold State.defectRow
      extract_lets d y
      have hy : Writes [Reg.CUR_CNT_DEFECT_COUNT.key, Reg.CUR_STATUS_SUSPECT.key] x y :=
        (.of_regs rfl : Writes _ x (x.setDrawer _ _ _)).step (Writes.bump Reg.CUR_CNT_DEFECT_COUNT 1 0 0)
      exact .ite .refl (.ite (hy.step (y.makeSuspect_writes _ _)) hy)
    generalize x.defectRow (k / 2048 / 544) (k / 2048 % 544) (k % 2048) = y at hdefect hwrites ⊢
    have hy : y.cur = x.cur := (hdefect.same .cur).symm
    have hq : (y.queueRefresh k).cur.swept = y.cur.swept ∧ (y.queueRefresh k).cur.sweep = y.cur.sweep := by
      unfold State.queueRefresh
      split <;> exact ⟨rfl, rfl⟩
    refine ⟨hq.1.trans (by rw [hy, hswept]), hq.2.trans (by rw [hy, hsweep]), ?_⟩
    have hqueue : (y.queueRefresh k).get Reg.CUR_CNT_FALSE_MISS_COUNT = y.get Reg.CUR_CNT_FALSE_MISS_COUNT :=
      (Writes.of_within (ks := []) State.queueRefresh_within).get Reg.CUR_CNT_FALSE_MISS_COUNT
    rw [hqueue, hwrites.get Reg.CUR_CNT_FALSE_MISS_COUNT, hcount]
  · exact ⟨(congrArg Curator.swept hcur : u.cur.swept = _), (congrArg Curator.sweep hcur : u.cur.sweep = _), hget⟩

/-- A line that does not follow its cells is a row that misses (R231). -/
theorem State.missing_stuck {s : State} {r : Row} (f : RowFault) (key : BitVec 640) (hdrawer : r.loc.isDrawer = true) (hf : f.analog = some false) :
    (s.setFault r.loc.phys f).missing r key ≠ [] := by
  have hfault : (s.setFault r.loc.phys f).fault (r.loc.phys + 0) = f := fgetD_fset_same s.faults r.loc.phys {} f
  have hmiss : (s.setFault r.loc.phys f).partMatch r ((s.setFault r.loc.phys f).widthOf r.tbl) key 0 = false := by
    unfold State.partMatch
    dsimp only
    rw [if_pos hdrawer, hfault, hf]
  refine List.ne_nil_of_mem (List.mem_map.2 ⟨0, List.mem_filter.2 ⟨List.mem_range.2 ?_, by rw [hmiss]; rfl⟩, rfl⟩)
  exact Nat.lt_of_lt_of_le Nat.zero_lt_one (Nat.le_max_left _ _)

theorem State.searchSelf_spec {s : State} {r : Row} (stuck : Bool) (hrow : r ∈ s.rows) (hdrawer : r.loc.isDrawer = true) :
    (s.searchSelf r stuck).cur.swept = s.cur.swept ∧ (s.searchSelf r stuck).cur.sweep = s.cur.sweep ∧
    (stuck = true → (s.searchSelf r stuck).get Reg.CUR_CNT_FALSE_MISS_COUNT =
      min (s.get Reg.CUR_CNT_FALSE_MISS_COUNT + 1) Reg.CUR_CNT_FALSE_MISS_COUNT.max) ∧
    (stuck = false → (s.fault r.loc.phys).analog = none → s.missing r (s.sweepKey r) = [] →
      (s.searchSelf r stuck).get Reg.CUR_CNT_FALSE_MISS_COUNT = s.get Reg.CUR_CNT_FALSE_MISS_COUNT ∧
      { r with missed := false, again := false } ∈ (s.searchSelf r stuck).rows) := by
  unfold State.searchSelf
  extract_lets _ t ks
  have ht : t.cur = s.cur ∧ t.regs = s.regs := by
    unfold t
    split <;> exact ⟨rfl, rfl⟩
  have hget : t.get Reg.CUR_CNT_FALSE_MISS_COUNT = s.get Reg.CUR_CNT_FALSE_MISS_COUNT := State.get_of_regs ht.2 _
  have hstuck : stuck = true → ks ≠ [] := fun h => by
    subst h
    exact State.missing_stuck _ _ hdrawer rfl
  have hquiet : stuck = false → (s.fault r.loc.phys).analog = none → t = s := fun h hnone => if_neg (by simp [h, hnone])
  have hkeys : t = s → ks = s.missing r (s.sweepKey r) := fun h => by
    show t.missing r (t.sweepKey r) = _
    rw [h]
  clear_value ks t
  obtain ⟨hcur, -⟩ := ht
  cases hempty : ks.isEmpty with
  | true =>
    rw [if_pos rfl]
    have hnil : ks = [] := List.isEmpty_iff.1 hempty
    refine ⟨congrArg Curator.swept hcur, congrArg Curator.sweep hcur, fun h => absurd hnil (hstuck h), fun h hnone _ => ⟨hget, ?_⟩⟩
    rw [hquiet h hnone]
    exact List.mem_map.2 ⟨r, hrow, if_pos rfl⟩
  | false =>
    rw [if_neg Bool.false_ne_true]
    obtain ⟨hswept, hsweep, hcount⟩ := t.falseMiss_spec r ks
    refine ⟨hswept.trans (congrArg Curator.swept hcur), hsweep.trans (congrArg Curator.sweep hcur), fun _ => by rw [hcount, hget], fun h hnone hmissing => ?_⟩
    rw [hkeys (hquiet h hnone), hmissing] at hempty
    exact nomatch hempty

/-- The entry that a self-search names. -/
def State.sweepRow (s : State) (n : Fin 64) (id : BitVec 24) : Option Row :=
  s.sweepable.find? fun r => r.tbl == n.val && r.id == id.toNat && !s.cur.swept.contains (n.val, id.toNat)

/-- A self-search takes its slots, and leaves the sweep. -/
theorem State.takeSweep_frame (s : State) (g n : Nat) : ∃ c : Curator, s.takeSweep g n = { s with cur := c } ∧ c.sweep = s.cur.sweep ∧
    c.swept = s.cur.swept := ⟨_, rfl, rfl, rfl⟩

theorem doSelfSearch_some {n : Fin 64} {id : BitVec 24} {stuck : Bool} {s : State} {r : Row} (hwork : s.mayWork 8 = true) (hown : s.sweepRow n id = some r)
    (hslot : s.sweepSlot (s.entrySlots r) r.loc.gal = true) :
    ∃ c : Curator, c.sweep = s.cur.sweep ∧ c.swept = (n.val, id.toNat) :: s.cur.swept ∧
      doSelfSearch n id stuck s = if (({ s with cur := c } : State).searchSelf r stuck).sweepOver then (({ s with cur := c } : State).searchSelf r stuck).endSweep
        else ({ s with cur := c } : State).searchSelf r stuck := by
  obtain ⟨c, hframe, hsweep, hswept⟩ := s.takeSweep_frame r.loc.gal (s.entrySlots r)
  unfold State.sweepRow at hown
  unfold doSelfSearch
  rw [if_neg (by simp [hwork]), hown]
  dsimp only
  rw [if_neg (by simp [hslot]), hframe]
  exact ⟨{ c with swept := (n.val, id.toNat) :: c.swept }, hsweep, congrArg _ hswept, rfl⟩

theorem doSelfSearch_idle {n : Fin 64} {id : BitVec 24} {stuck : Bool} {s : State}
    (h : s.mayWork 8 = false ∨ ∀ r, s.sweepRow n id = some r → s.sweepSlot (s.entrySlots r) r.loc.gal = false) : doSelfSearch n id stuck s = s := by
  unfold State.sweepRow at h
  unfold doSelfSearch
  split
  · rfl
  next hwork =>
    split
    next => rfl
    next r hr => exact if_pos (h.resolve_left hwork r hr)

/-- Settles O35, clause by clause; the care that follows a scrub keeps its counts, its queues and the rejects of the drawers. -/
theorem scrubSweepAndDigest : Obligations.ScrubSweepAndDigest := by
  unfold Obligations.ScrubSweepAndDigest
  refine ⟨fun s reads store => ⟨fun hm hwork => ?_, fun hidle => ?_⟩, fun s d => ⟨fun k u hcur hwork hq hu => ?_, fun hidle => ?_⟩,
    fun s n id stuck => ⟨fun r hcur hwork hown hslot => ?_, fun hidle => ?_⟩, fun s => ⟨fun hcur hover => ?_, fun hidle => ?_⟩,
    fun s g x => ⟨fun hon hdue => ?_, fun hidle => ?_⟩⟩
  · obtain ⟨hwrd, hmnt, hcount⟩ := s.passed_spec reads
    have hwork12 : (s.passed reads).mayWork 12 = s.mayWork 12 := by
      unfold State.mayWork State.reqFenced State.portBlocked State.req
      rw [hmnt]
    have hexec : exec (.scrubPass reads store) s = .next (store.foldl (fun x e => x.scrubStore e.1 e.2) (s.passed reads)).startRejects.care :=
      congrArg Host.Outcome.next (doScrubPass_runs hm hwork)
    obtain ⟨hstore, hwrites⟩ := State.foldl_scrubStore store (s.passed reads)
    have hone : ∀ l d, store = [(l, d)] →
        StoreScrubbed (s.passed reads) (store.foldl (fun x e => x.scrubStore e.1 e.2) (s.passed reads)) l d := by
      rintro l d rfl
      exact (s.passed reads).scrubStore_scrubbed l d
    generalize store.foldl (fun x e => x.scrubStore e.1 e.2) (s.passed reads) = w at hexec hstore hwrites hone
    have hwrd' : w.startRejects.care.wrd = w.wrd := ((Within.refl.step State.startRejects_within).step State.care_within :
      Within [.freeCtr, .out, .regs, .boot, .tables, .rows, .cells, .faults, .journal, .lost, .lossList, .drawers, .cabs, .cur, .host] w
        w.startRejects.care).same .wrd |>.symm
    have hregs : w.startRejects.regs = w.regs := (State.startRejects_within.same .regs).symm
    have hcares := KeepsScrub.care (s := w.startRejects)
    refine ⟨_, hexec, fun g x hx => ?_, ?_, ?_, fun l d hl => ⟨?_, fun huncorr hlost => ?_⟩⟩
    · obtain ⟨hrejects, hat, -⟩ := hcares.drawers g x hx
      rw [hat, hrejects, w.startRejects_balanced g hx]
    · rw [hcares.regs _ (by simp [careFields]), State.get_of_regs hregs, hwrites.get Reg.CUR_CNT_SCRUBBED_COUNT, hcount]
    · rw [hwrd', hstore, hwrd]
    · rw [hwrd', (hone l d hl).bad, hwork12]
    · unfold State.flag
      rw [hcares.regs _ (by simp [careFields]), State.get_of_regs hregs]
      exact (hone l d hl).flag huncorr hlost
  · have hdo : doScrubPass reads store s = s := if_pos hidle.symm
    exact congrArg Host.Outcome.next hdo
  · have hexec : exec (.scrubQueueRead d) s = .next ((((s.setCur { s.cur with scrubQ := s.cur.scrubQ.erase k }).scrubRow k (some d)).bump
        Reg.CUR_CNT_SCRUBBED_COUNT).care) := congrArg Host.Outcome.next ((if_pos hcur).trans (doScrubQueueRead_some hwork hq))
    have hqueue := State.scrubQ_scrubRow (s.setCur { s.cur with scrubQ := s.cur.scrubQ.erase k }) k d
    have hwrites := State.scrubRow_writes (s.setCur { s.cur with scrubQ := s.cur.scrubQ.erase k }) k (some d)
    have hfound : isSram k = false → Scrubbed ({ u with cur := { u.cur with scrubQ := s.cur.scrubQ.erase k } })
        ((s.setCur { s.cur with scrubQ := s.cur.scrubQ.erase k }).scrubRow k (some d)) k := fun hmedium => by
      rw [State.scrubRow_medium d hmedium, hu]
      exact State.scrubPk_scrubbed _ k
    generalize (s.setCur { s.cur with scrubQ := s.cur.scrubQ.erase k }).scrubRow k (some d) = r at hexec hqueue hwrites hfound
    have hcares := KeepsScrub.care (s := r.bump Reg.CUR_CNT_SCRUBBED_COUNT)
    have hrefresh : (r.bump Reg.CUR_CNT_SCRUBBED_COUNT).care.cur.refreshQ = r.cur.refreshQ := hcares.refreshQ
    have hsuspect : (r.drawer (k / 2048 / 544) (k / 2048 % 544)).suspect = true →
        ((r.bump Reg.CUR_CNT_SCRUBBED_COUNT).care.drawer (k / 2048 / 544) (k / 2048 % 544)).suspect = true :=
      (hcares.drawers (k / 2048 / 544) (k / 2048 % 544) (Nat.mod_lt _ (by decide))).2.2
    have hdrawer : u.drawer (k / 2048 / 544) (k / 2048 % 544) = s.drawer (k / 2048 / 544) (k / 2048 % 544) := by
      rw [hu]
      rfl
    refine ⟨_, hexec, hcares.scrubQ.trans hqueue, ?_, fun hmedium hnominal hweak => ?_, fun hmedium hnominal hrec => ⟨?_, ?_⟩,
      fun hpool hnominal hrec hheld => ?_, fun hpool hnominal hnew hthree => ?_⟩
    · rw [hcares.regs _ (by simp [careFields]), State.get_bump_same, hwrites.get Reg.CUR_CNT_SCRUBBED_COUNT]
      rfl
    · rw [hrefresh]
      refine (hfound hmedium).weak hnominal ?_
      have hthresh : s.refreshThresh = u.refreshThresh := by
        rw [hu]
        rfl
      have hmargin : s.scrubMargin = u.scrubMargin := by
        rw [hu]
        rfl
      rw [hthresh, hmargin] at hweak
      exact hweak
    · rw [hrefresh]
      exact ((hfound hmedium).recovered hnominal hrec).1
    · rw [hcares.regs _ (by simp [careFields]), (Writes.bump Reg.CUR_CNT_SCRUBBED_COUNT 1 0 0).get Reg.CUR_CNT_RECOVERED_COUNT,
        ((hfound hmedium).recovered hnominal hrec).2, hu]
      rfl
    · refine hsuspect ((hfound (isSram_of_isPool hpool)).held hpool hnominal hrec ?_)
      rw [hu]
      exact hheld
    · rw [← hdrawer] at hnew hthree
      exact hsuspect ((hfound (isSram_of_isPool hpool)).fourth hpool hnominal hnew hthree)
  · have hdo : s.curating 8 = true → doScrubQueueRead d s = s := fun hcur => doScrubQueueRead_idle (hidle.resolve_left (by simp [hcur]))
    exact congrArg Host.Outcome.next (ite_eq_right_iff.2 hdo)
  · obtain ⟨c, hsweep, hswept, hdo⟩ := doSelfSearch_some (stuck := stuck) hwork hown hslot
    have hrow := (List.mem_filter.1 (List.mem_of_find?_eq_some hown))
    have hdrawer : r.loc.isDrawer = true := by
      have h := hrow.2
      simp only [Bool.and_eq_true] at h
      exact h.1.1.1.1
    obtain ⟨hsame, hnumber, hmiss, hquiet⟩ := State.searchSelf_spec (s := { s with cur := c }) stuck hrow.1 hdrawer
    have hkey : ({ s with cur := c } : State).sweepKey r = s.sweepKey r := by
      unfold State.sweepKey
      dsimp only
      rw [hsweep]
      rfl
    rw [hkey] at hquiet
    generalize ({ s with cur := c } : State).searchSelf r stuck = v at hdo hsame hnumber hmiss hquiet
    have hcount : (if v.sweepOver then v.endSweep else v).get Reg.CUR_CNT_FALSE_MISS_COUNT = v.get Reg.CUR_CNT_FALSE_MISS_COUNT :=
      (Writes.ite v.endSweep_writes .refl).get Reg.CUR_CNT_FALSE_MISS_COUNT
    refine ⟨_, congrArg Host.Outcome.next ((if_pos hcur).trans hdo), ?_, fun hstuck => hcount.trans (hmiss hstuck), fun hstuck hnone hmissing => ?_⟩
    · split
      · exact .inr ⟨(congrArg (· + 1) (hnumber.trans hsweep) : v.endSweep.cur.sweep = _), rfl⟩
      · exact .inl (by rw [hsame, hswept]; exact List.mem_cons_self)
    · obtain ⟨hget, hmem⟩ := hquiet hstuck hnone hmissing
      refine ⟨hcount.trans hget, ?_⟩
      split
      · rw [← State.endSweep_within.same .rows]
        exact hmem
      · exact hmem
  · have hdo : s.curating 8 = true → doSelfSearch n id stuck s = s := fun hcur => doSelfSearch_idle (hidle.resolve_left (by simp [hcur]))
    exact congrArg Host.Outcome.next (ite_eq_right_iff.2 hdo)
  · have hexec : exec .sweepPeriodEnd s = .next (if s.sweepOver then s.endSweep else s.setRaise Reg.CUR_STATUS_SWEEP_LATE Ev.SWEEP_LATE) :=
      congrArg Host.Outcome.next ((if_pos hcur).trans (if_pos hover))
    refine ⟨_, hexec, fun hgoes => ?_, fun hends => ?_⟩
    · rw [if_neg (by simp [hgoes])]
      exact ⟨((Writes.raise Ev.SWEEP_LATE).flag Reg.CUR_STATUS_SWEEP_LATE).trans (State.flag_put_one _ _ _ _ rfl),
        congrArg Curator.sweep (State.setRaise_within.same .cur).symm⟩
    · rw [if_pos hends]
      exact ⟨rfl, rfl, rfl⟩
  · have hdo : s.curating 8 = true → doSweepPeriodEnd s = s := fun hcur => if_neg (Nat.not_le.2 (hidle.resolve_left (by simp [hcur])))
    exact congrArg Host.Outcome.next (ite_eq_right_iff.2 hdo)
  · exact ⟨_, congrArg Host.Outcome.next (if_pos ⟨hon, hdue⟩), State.drawer_setDrawer_same .., rfl⟩
  · exact congrArg Host.Outcome.next (if_neg fun h => hidle.elim (by simp [h.1]) (by simp [h.2]))

end Sys2Proof.Machine
end

section
/-! PROOFS. Migration out of a vestibule (O33). -/

namespace Sys2Proof.Machine

set_option Elab.async false

/-- A migration that finds a place draws a free value, whatever the outcome of its write. -/
theorem doMigration_draws {n : Fin 64} {id : BitVec 24} {w : WriteRes} {s : State} {r : Row} {k x : Nat} (hlive : s.liveRow n.val id.toNat = some r)
    (htarget : r.target = some k) (hx : k - drawerKey r.loc.gal 0 = x) (hvest : r.loc.isVest = true) (hm : s.mode = .service)
    (hwork : s.mayWork 5 = true) (hshut : s.shut r.loc.phys = false) (hmoving : s.moving r.tbl r.id = false)
    (hopen : s.openDrawer r.loc.gal x = true) (hmay : s.mayMigrate r = true)
    (hplace : s.pick (leastBy (s.placeWear r.loc.gal x (s.rowHalves r)) (s.places r.loc.gal x (s.rowHalves r) (s.rowKey r) r.id)) ≠ none) :
    (doMigration n id w s).freeCtr = s.freeCtr + 1 := by
  obtain ⟨p, hp⟩ := Option.ne_none_iff_exists'.1 hplace
  have hrun : doMigration n id w s = (s.drawn.writeCopy 5 r r.loc.gal x p w).1 := by
    unfold doMigration
    rw [hlive]
    dsimp only
    rw [htarget]
    dsimp only
    rw [hx, if_neg (by simp [hvest, hm, hwork, hshut, hmoving, hopen, hmay]), hp]
  rw [hrun]
  exact (State.writeCopy_within.same .freeCtr).symm

/-- A vestibule row of gallery 1 whose target lies below the drawers of its gallery: the address less that of the gallery's first drawer is
taken as 0. -/
def strayRow : Row := { loc := .vest 1 0 0, tbl := 0, id := 0, target := some 0 }

/-- A device in service state that holds this row, its residency over. -/
def strayState : State := { mode := .service, clock := 2 ^ 60, rows := [strayRow] }

theorem strayState_migrates (w : WriteRes) : (doMigration 0 0 w strayState).freeCtr = 1 := by
  have hzero : 0 ∈ strayState.places 1 0 (strayState.rowHalves strayRow) (strayState.rowKey strayRow) 0 :=
    List.mem_filter.2 ⟨List.mem_map.2 ⟨0, List.mem_range.2 (by decide), rfl⟩, by decide⟩
  refine doMigration_draws (r := strayRow) (k := 0) (x := 0) rfl rfl rfl rfl rfl (by decide) (by decide) (by decide) (by decide) (by decide) ?_
  exact mt (State.pick_eq_none _ _).1 (leastBy_ne_nil _ (List.ne_nil_of_mem hzero))

/-- Refutes O33, in the clause that says where a migration waits: it has a row wait whose target is no drawer of the row's own gallery,
but the model subtracts the gallery's first address from the target and so takes one that lies below it as drawer 0, and migrates the
row there. The statement asks nothing of the state, so a row of gallery 1 with a target in gallery 0 is among those it speaks of. -/
theorem not_entriesMoveAndBaysReshape : ¬ Obligations.EntriesMoveAndBaysReshape := by
  unfold Obligations.EntriesMoveAndBaysReshape
  rintro ⟨⟨-, hidle, -⟩, -⟩
  have hstays : exec (.migration 0 0 { rows := [] }) strayState = .next strayState := by
    refine hidle strayState 0 0 { rows := [] } fun r hr => ?_
    obtain rfl : strayRow = r := Option.some.inj hr
    refine .inr (.inr (.inr (.inr (.inr (.inr (.inr fun x hx => ?_))))))
    have hkey : 0 = 544 * 1 + x := Option.some.inj hx
    omega
  have hmoves := strayState_migrates { rows := [] }
  rw [show doMigration 0 0 { rows := [] } strayState = strayState from Host.Outcome.next.inj hstays] at hmoves
  exact absurd hmoves (by decide)

end Sys2Proof.Machine
end
